-- ==== Sys2Proof/Word.lean ====
section
/-! DEFINITION. The word types of the module: what the manual reads as bits is a bit vector. -/

namespace Sys2Proof

/-- A byte of a register, a message or a record. -/
abbrev Byte := BitVec 8
/-- A 16-bit field. -/
abbrev U16 := BitVec 16
/-- A 32-bit field: the unit of every register access (R196, R294). -/
abbrev U32 := BitVec 32
/-- A 64-bit field: bus addresses, frame numbers in messages, times. -/
abbrev U64 := BitVec 64

end Sys2Proof
end

