-- ==== Sys2Proof/Syntax.lean ====
section
/-! DEFINITION. The commands of the module, one constructor per row of the table of operations and events, and their operands.
A command that host software sends in a mailbox message carries the message's channel, tag, target frame and length as `Req`,
and its payload fields beside it. An event carries what reaches the module from outside: a measured value, an analogue
decision, a bus outcome. -/

namespace Sys2Proof

/-! ## Mailbox messages (R262 to R278) -/

/-- The three request channels (Table 11-1); CH3 carries no requests. -/
inductive Chan where
  | ch0 | ch1 | ch2
  deriving DecidableEq, Repr

/-- What every request carries beside its payload fields. -/
structure Req where
  /-- The channel. -/
  chan : Chan
  /-- TAG of the header. -/
  tag : U16
  /-- TARGET_FRAME of the header. -/
  target : U64
  /-- LENGTH: the payload bytes as sent (check 9). -/
  len : Nat
  /-- The payload's reserved bytes, joined with or: zero where every one is zero (check 10). -/
  rsv : Byte
  deriving DecidableEq, Repr

/-- A message as the module fetches it: the header of Table 11-3 and the payload bytes. -/
structure Message where
  verMajor : Byte
  verMinor : Byte
  opcode : U16
  flags : U16
  tag : U16
  length : U32
  status : U16
  pad0 : U16
  target : U64
  crc : U32
  pad1 : U32
  payload : List Byte
  deriving DecidableEq, Repr

/-- The masters of a register access (REJ_INFO of Table 12-10). -/
inductive Master where
  | pf0 | pf1 | conductor | keeper | housekeeping | scanPort | dumpEngine
  deriving DecidableEq, Repr

/-! ## Setting items (Table 11-7) -/

/-- The exposure program as a request carries it: the header and the entries, 8 bytes each (Table 4-4). -/
structure RawProgram where
  header : U64
  entries : List U64
  deriving DecidableEq, Repr

/-- The value of the TRIGGER item. -/
structure RawTrigger where
  timingMode : Byte
  trigEdge : Byte
  gateStop : Byte
  strobePol : Byte
  trigDelay : U32
  strobeAdvance : U16
  trigOutMode : Byte
  trigOutWidth : U16
  deriving DecidableEq, Repr

/-- The value of the SYNC item. -/
structure RawSync where
  source : Byte
  glMult : Byte
  glDiv : Byte
  phase : U32
  deriving DecidableEq, Repr

/-- The value of the RING item. -/
structure RawRing where
  ring : Byte
  source : Byte
  twinPlane : Byte
  format : Byte
  rateDiv : Byte
  ratePhase : Byte
  lut1d : Byte
  lut3d : Byte
  yccMatrix : Byte
  yccRange : Byte
  expShift : U16
  cropX0 : U16
  cropY0 : U16
  cropW : U16
  cropH : U16
  outW : U16
  outH : U16
  /-- Nine coefficients, row by row. -/
  matrix : List U16
  deriving DecidableEq, Repr

/-- The value of the WELT_PREFS item. -/
structure RawPrefs where
  maxVersion : Byte
  prefBay : Byte
  ackTimeoutMs : U32
  deriving DecidableEq, Repr

/-- A setting as an item carries it (Table 11-7). -/
inductive Setting where
  | srThreshold (v : Byte)
  | rate (num den : U32)
  | window (x0 w h : U16)
  | binning (v : Byte)
  | program (p : RawProgram)
  | trigger (t : RawTrigger)
  | sync (s : RawSync)
  | rotK (v : Byte)
  | blkMode (v : Byte)
  | blkRowWin (v : Byte)
  | blkLim (v : U16)
  | recScale (v : U16)
  | defRepl (v : Byte)
  | hostBlock (bytes : List Byte)
  | ring (r : RawRing)
  | powerupMode (v : Byte)
  | prerollMs (v : U32)
  | tandem (v : Byte)
  | weltPrefs (p : RawPrefs)
  | compositor (mode leftEye : Byte)
  | unknown (id : U16)
  deriving DecidableEq, Repr

/-- An item of LEDGER_POST or PROFILE_STORE: its value, and LEN as sent. -/
structure Item where
  value : Setting
  len : U16
  deriving DecidableEq, Repr

/-- The take fields of a BURST request (R148). -/
structure BurstFields where
  takeId : U64
  nextTakeId : U64
  keyId : U32
  wrapped : List Byte
  deriving DecidableEq, Repr

/-- The payload of MODE_REQUEST (Table 11-8). -/
structure ModeFields where
  mode : Byte
  nextMode : Byte
  burstCount : U32
  burst : BurstFields
  deriving DecidableEq, Repr

/-! ## The sensor stack: what light and the converters give the module (R481) -/

/-- The two storage nodes (R35). -/
inductive Node where
  | a | b
  deriving DecidableEq, Repr

/-- The two converter banks (R50). -/
inductive Bank where
  | top | bottom
  deriving DecidableEq, Repr

/-- One number per column: a common one, and the columns that differ. -/
structure Sparse where
  common : Nat
  except : List (Nat × Nat)
  deriving DecidableEq, Repr

/-- Charge that one photosite holds when a window ends: units of 1/32,768 electron. `folds` is how many folds its comparator, whose threshold
lies from 98.5 % to 100.0 % of q_th (R26), asks for where the node's sum lies in that band, 0 to 2 (R33). -/
structure SiteCharge where
  x : Nat
  y : Nat
  charge : Nat
  folds : Nat
  deriving DecidableEq, Repr

/-- What one row-pair period brings: the slice codes of the row of each bank, the codes of the slices that convert references
(16 each), the calibration words that the fetch found upset, and whether each bank's row passes its check word. -/
structure PeriodData where
  codesTop : Sparse
  codesBottom : Sparse
  refCommon : Nat
  refExcept : List (Nat × List Nat)
  /-- Upset bits of calibration words: column, row, bit. -/
  upsets : List (Nat × Nat × Nat)
  linkOkTop : Bool
  linkOkBottom : Bool
  /-- The GCM engine met an error on the words of these rows, where the frame is sealed (R118). -/
  sealError : Bool
  deriving DecidableEq, Repr

/-! ## What the surroundings answer -/

/-- A memory device as its port finds it (R158 to R160). -/
structure DeviceSeen where
  present : Bool
  lanes : Nat
  /-- The trained rate and the highest that port and device support, in GT/s. -/
  rate : Nat
  maxRate : Nat
  flit256 : Bool
  /-- Bytes. -/
  capacity : Nat
  /-- A CXL 1.1 device without an HDM decoder (R159). -/
  noDecoder : Bool
  /-- Whether every other check of R159 passes. -/
  suited : Bool
  /-- Its pages of 4 KiB that it reports poisoned. -/
  poison : List Nat
  deriving DecidableEq, Repr

/-- One span of a slice's calibration: the sums of the 64 codes a pass of each level over the sixteen passes, and the widest
spread of the REF_LO codes of a pass (R67, R68, Table 3-3). -/
structure SpanSums where
  lo : Nat
  m1 : Nat
  m2 : Nat
  hi : Nat
  noise : Nat
  deriving DecidableEq, Repr

/-- What the references give one slice at a calibration outside a readout (R74). -/
structure SliceSums where
  single : SpanSums
  double : SpanSums
  deriving DecidableEq, Repr

/-- The same for all slices: the common sums, and the slices that differ. -/
structure CalSums where
  common : SliceSums
  except : List (Nat × SliceSums)
  deriving DecidableEq, Repr

/-- What a boot finds of the non-volatile stores: the bits in which a stored check word differs from the one that what is stored gives, and the
calibration copies that fail their COPY_CRC. -/
structure Upsets where
  /-- Copies of profiles (R152): the profile, whether it is the second copy, and the difference of its CRC-32C. -/
  profiles : List (Nat × Bool × U32)
  /-- Hold-over index entries (R181): the entry, and the differences of STATE_CHECK and ENTRY_CRC. -/
  ring : List (Nat × U32 × U32)
  /-- The retire record (R180): the difference of its CRC-64. -/
  retire : U64
  /-- Calibration copies (R365): true for copy B. -/
  copies : List Bool
  /-- The pointer record of the calibration store (R364): the differences of the CRC-32C of its two copies. -/
  pointer : U32 × U32
  /-- Copies of a system calibration (R361): the input, whether it is the second copy, and the difference of its CRC-32C. -/
  sysCal : List (Fin 2 × Bool × U32)
  /-- Firmware slots (R383): true for slot B, the place of a byte in the image, and its difference. -/
  slots : List (Bool × Nat × Byte)
  deriving DecidableEq, Repr

/-- What an entry out of DORMANT, a load of calibration words or a boot meets: the memory devices, the tiles whose
load fails its CRC once and twice (R42), a domain without power good (R402), the slice calibration (R74), and what a boot finds of the stores. -/
structure Surroundings where
  devices : List DeviceSeen
  tilesOnce : List Nat
  tilesTwice : List Nat
  noPowerGood : Option Nat
  slices : CalSums
  upsets : Upsets
  /-- Words in the queues of a domain's crossings when it is isolated, and those that the live side writes after (R424): the domain, the words. -/
  drops : List (Nat × Nat)
  deriving DecidableEq, Repr

/-- What a boundary meets: whether the units disagree in the vote (R139), and what an entry to READY at it meets (R41, R74, R158). -/
structure BoundaryObs where
  disagree : Bool
  entry : Surroundings
  deriving DecidableEq, Repr

/-- What a cold reset meets beside that: the straps, the inputs and the charge of the store (R436, R437, R396). -/
structure ColdStart where
  psel0 : Bool
  psel1 : Bool
  /-- The level of TANDEM_ROLE, in mV. -/
  roleMv : Nat
  serviceEn : Bool
  /-- Straps whose samples differ: 0 PSEL0, 1 PSEL1, 2 TANDEM_ROLE, 3 SERVICE_EN#. -/
  unstable : List Nat
  ac : Bool
  dc : Bool
  /-- Store voltage, 10 mV. -/
  store : Nat
  /-- Fuse words whose low-margin sense differs: zone, word, low-margin value (R373). -/
  weak : List ((Nat × Nat) × U32)
  around : Surroundings
  deriving DecidableEq, Repr

/-- The request that an answer belongs to on a bus. -/
inductive BusId where
  | abus0 | abus1 | hbus
  deriving DecidableEq, Repr

/-- A bay. -/
inductive Bay where
  | a | b
  deriving DecidableEq, Repr

/-- A PLL. -/
inductive PllId where
  | a | b | c
  deriving DecidableEq, Repr

/-- The function of an endpoint. -/
inductive Func where
  | pf0 | pf1
  deriving DecidableEq, Repr

/-- How a controller transaction ends without an error of the bus (Table 11-11, RESULT). -/
inductive XferResult where
  | done | addressNack | dataNack
  deriving DecidableEq, Repr

/-- An acknowledgement entry as the agent wrote it (Table 9-6). -/
structure AckEntry where
  seq : U32
  status : Byte
  kind : Byte
  rsv : U16
  frame : U64
  count : U32
  headerCrc : U32
  commitSeq : U32
  entryCrc : U32
  deriving DecidableEq, Repr

/-- What a step of a calibration procedure measures (R366): the mean result, and the parts of the set that it produces. -/
structure CalMeasure where
  measured : Int
  words : BitVec 48
  wordsExcept : List ((Nat × Nat) × BitVec 48)
  tCal : Int
  tileTrim : List Nat
  /-- Targets LO, M1, M2, HI of the sixteen segments, single span then double span. -/
  single : List (Nat × Nat × Nat × Nat)
  double : List (Nat × Nat × Nat × Nat)
  /-- Sites whose measured reset step lies outside its range or above the measured threshold (check 1). -/
  badSteps : List (Nat × Nat)
  /-- What the exposure of the step leaves in node A where it is not clear: column, row, tally, SAT, RUN. -/
  nodes : List (Nat × Nat × Nat × Bool × Bool)
  /-- How COPY_CRC and the TILE_CHECK values of the candidate, recomputed after writing, differ (check 7). -/
  readBack : U64
  /-- A domain of the procedure without power good (R402). -/
  noPowerGood : Option Nat
  deriving DecidableEq, Repr

/-- The shortest and the longest bit cell of a codeword, in 1/256 tick (R315). -/
structure BitCells where
  shortest : U32
  longest : U32
  deriving DecidableEq, Repr

/-- How a transaction of a bus controller ends, of a lens poll or a notice (R336, R339 to R341, R351). -/
inductive ControllerEnd where
  | done
  | nack
  | arbitrationLost
  | busError
  | sclTimeout
  deriving DecidableEq, Repr

/-- The lines of a timer channel (R323). -/
inductive TimerLine where
  /-- The line that INPUT selects. -/
  | input
  | encA
  | encB
  /-- Both quadrature inputs in one cycle. -/
  | both
  /-- A pulse shorter than 20 ns. -/
  | glitch
  deriving DecidableEq, Repr

/-- How a target write command ends (R347, R348). -/
inductive WriteEnd where
  /-- Every byte arrived, and STOP after them; the PEC byte, if one was sent. -/
  | whole (pec : Option Byte)
  /-- A repeated START where an acknowledge was due, or a STOP, a START or a timeout before the end. -/
  | broken
  deriving DecidableEq, Repr

/-- A data object on the DOE mailbox (R200). -/
inductive DoeObject where
  | discovery (index : Byte)
  | spdm (bytes : List Byte)
  /-- A CMA exchange that ends with a secured session open. -/
  | openSession (bytes : List Byte)
  | secured (bytes : List Byte)
  | endSession
  deriving DecidableEq, Repr

/-- A BAR0 access that fails (Table 8-9, R196). -/
inductive Bar0Error where
  | poisoned (fn : Func) (offset : Nat)
  | ecrc (fn : Func) (offset : Nat)
  | badSize (fn : Func) (offset : Nat)
  deriving DecidableEq, Repr

/-- A DOE object of a secured session (R200): whether the host has read the response before it, and what it carries. -/
structure SecuredObject where
  fetched : Bool
  body : List Byte
  deriving DecidableEq, Repr

/-- The size of a register write (R196): 4 bytes, 8 bytes, or 8 bytes and more words behind them; 4 bytes in the clock in which hardware increments the
counter there (R292); or a configuration write of 4 bytes, whose offset is in the configuration space of the function (R194). The opcode table
has no row for a read: one of a register, 4 or 8 bytes wide, and one of configuration space stand here too (DESIGN CHOICE, log entry 73). -/
inductive Access where
  | word
  | pair
  | block (more : List U32)
  | together
  | config
  | read (wide : Bool)
  | configRead
  deriving DecidableEq, Repr

/-- The cores that run firmware (R447). -/
inductive CoreId where
  | conductor | keeper | housekeeping
  deriving DecidableEq, Repr

/-- A mirrored ledger entry as a tandem packet carries it (Table 10-9): its number, its frame and its settings. -/
structure Mirrored where
  seq : U32
  applied : U64
  settings : List Setting
  deriving DecidableEq, Repr

/-- A device as the health poll finds it (R157). -/
structure DeviceHealth where
  device : Nat
  /-- The device reports itself over temperature. -/
  hot : Bool
  /-- Pages that it reports poisoned. -/
  poison : List Nat
  deriving DecidableEq, Repr

/-! ## The commands -/

/-- A command: one constructor per row of the table of operations and events, in its order. -/
inductive Instr where
  /-- HELLO (R269): Negotiates the host interface version of the channel that carries the request. -/
  | hello (r : Req) (major minor : Byte)
  /-- BYE (R269): Returns the channel to its state before HELLO; asynchronous operations continue. -/
  | bye (r : Req)
  /-- GET_IDENTITY (R277): Returns variant, stepping, serial, firmware and interface identification. -/
  | getIdentity (r : Req)
  /-- GET_STATUS (R277): Returns mode, profile, fatal state, fault summary, module time, last frame and over-range counts. -/
  | getStatus (r : Req)
  /-- MODE_REQUEST (R130): Requests a mode change along Table 6-3, sequenced or at a commit epoch, or replaces NEXT_MODE during a burst. -/
  | modeRequest (r : Req) (f : ModeFields) (sur : Surroundings)
  /-- MODE_QUERY (R128): Returns the mode, any pending change and the burst phase. -/
  | modeQuery (r : Req)
  /-- PROFILE_SELECT (R154): Makes a stored profile's settings current, or posts them as one ledger entry in VIEW. -/
  | profileSelect (r : Req) (profile : Byte)
  /-- PROFILE_STORE (R156): Stores the settings in force and the named profile-only items into profile 1, 2 or 3. -/
  | profileStore (r : Req) (profile : Byte) (count : U16) (items : List Item)
  /-- PROFILE_READ (R278): Returns a stored profile as setting items. -/
  | profileRead (r : Req) (profile : Byte)
  /-- LEDGER_POST (R142): Forms one ledger entry for a target frame, slipping it when it is late. -/
  | ledgerPost (r : Req) (count : U16) (items : List Item)
  /-- LEDGER_QUERY (R140): Returns the waiting ledger entries or one named entry. -/
  | ledgerQuery (r : Req) (seq : U32)
  /-- LEDGER_CANCEL (R144): Removes the classes of an entry that have not yet latched. -/
  | ledgerCancel (r : Req) (seq : U32)
  /-- WINDOW_SET (R82): Posts a window setting as a sensor-class ledger entry. -/
  | windowSet (r : Req) (x0 w h : U16)
  /-- EXPOSURE_PROGRAM_SET (R88): Posts an exposure program after checking the rules on windows and nodes. -/
  | exposureProgramSet (r : Req) (p : RawProgram)
  /-- TRIGGER_SET (R81): Posts the timing mode, trigger, strobe and trigger-output settings as a ledger entry. -/
  | triggerSet (r : Req) (t : RawTrigger)
  /-- BINNING_SET (R36): Posts the charge binning setting as a ledger entry. -/
  | binningSet (r : Req) (v : Byte)
  /-- ROTATION_SET (R54): Posts ROT_K as a conversion-class ledger entry. -/
  | rotationSet (r : Req) (v : Byte)
  /-- SYNC_SOURCE_SET (R91): Posts the sync source, GL_MULT, GL_DIV and genlock phase as a ledger entry. -/
  | syncSourceSet (r : Req) (v : RawSync)
  /-- RESERVOIR_INFO (R171): Reports the reservoir, its pointers and B_sus, and optionally moves the BAR2 aperture base. -/
  | reservoirInfo (r : Req) (gib : U32)
  /-- PREROLL_SET (R146): Sets the pre-roll length, capped by the reservoir, and reports the length applied. -/
  | prerollSet (r : Req) (lengthMs : U32)
  /-- HOLDOVER_STATUS (R177): Reports the hold-over state, protection depth, endurance and spare blocks. -/
  | holdoverStatus (r : Req)
  /-- HOLDOVER_SCAN (R182): Reports the retire record and each locked take with its complete, void and lost frames. -/
  | holdoverScan (r : Req) (part : Byte)
  /-- HOLDOVER_READ (R183): Delivers the records of a locked take's range by aperture, Welt or mailbox. -/
  | holdoverRead (r : Req) (takeId first last : U64) (route bay : Byte)
  /-- HOLDOVER_RELEASE (R184): Releases a locked take through a named frame, optionally by force. -/
  | holdoverRelease (r : Req) (takeId through : U64) (flags : Byte)
  /-- WELT_OPEN (R211): Opens a Welt session to a bay agent by zeroing the bay's page and waiting for the agent. -/
  | weltOpen (r : Req) (bay maxVersion flags : Byte) (rid : U16) (ackTimeoutMs : U32)
  /-- WELT_CLOSE (R229): Closes a session, or relays its take when FORCE is given. -/
  | weltClose (r : Req) (bay flags : Byte)
  /-- WELT_RELAY (R225): Moves the unacknowledged part of a take to another session, planned or after removal. -/
  | weltRelay (r : Req) (fromBay kind : Byte)
  /-- WELT_ALLOWLIST_SET (R213): Sets the address ranges into which Welt may write. -/
  | weltAllowlistSet (r : Req) (count : U16) (ranges : List (U64 × U64))
  /-- TAKE_START (R145): Starts a take at a commit epoch, taking in the pre-roll frames. -/
  | takeStart (r : Req) (takeId : U64) (keyId : U32) (wrapped : List Byte)
  /-- TAKE_STOP (R145): Ends the take or burst capture at a named last frame. -/
  | takeStop (r : Req)
  /-- TAP_CONFIG (R239): Posts a body tap's ring settings as a record-and-stream ledger entry. -/
  | tapConfig (r : Req) (ring : RawRing)
  /-- STREAM_CONFIG (R239): Posts a crew stream's ring settings as a record-and-stream ledger entry. -/
  | streamConfig (r : Req) (ring : RawRing)
  /-- STREAM_START (R244): Starts a tap or stream ring at the next boundary within the viewing budget. -/
  | streamStart (r : Req) (ring : Byte)
  /-- STREAM_STOP (R244): Stops a tap or stream ring at the next boundary. -/
  | streamStop (r : Req) (ring : Byte)
  /-- LUT_LOAD (R238): Loads one piece of a 1D or 3D LUT and stores the LUT after the last piece passes its CRC. -/
  | lutLoad (r : Req) (kind slot flags : Byte) (offset total lutCrc : U32) (data : List Byte)
  /-- TANDEM_ROLE_SET (R251): Sets the tandem role, ending any join and starting a new one. -/
  | tandemRoleSet (r : Req) (role : Byte)
  /-- TANDEM_STATUS (R251): Reports the tandem role, link, join, version and counts. -/
  | tandemStatus (r : Req)
  /-- COMPOSITOR_SET (R258): Selects the compositor mode and left eye from the next boundary. -/
  | compositorSet (r : Req) (mode leftEye : Byte)
  /-- TIMECODE_SET (R316): Chooses the timecode source and LTC_OUT, applied at the next boundary 100 µs after acceptance. -/
  | timecodeSet (r : Req) (source flags : Byte) (num den : U16) (codeword : U64)
  /-- TIMEBASE_DISCIPLINE (R308): Selects the PLL-B reference, or loads module time with SET_TIME. -/
  | timebaseDiscipline (r : Req) (ref flags : Byte) (value : U64)
  /-- ABUS_XFER (R334): Runs one controller transaction on ABUS0 or ABUS1. -/
  | abusXfer (r : Req) (bus addr flags : Byte) (writeLen readLen : U16) (writeData : List Byte)
  /-- ABUS_TARGET_SET (R344): Sets the ABUS0 target addresses by list or mask. -/
  | abusTargetSet (r : Req) (amode count : Byte) (addrs : List Byte) (base mask : Byte)
  /-- AUX_SEQUENCE_SET (R356): Writes the auxiliary conversion list, which takes effect at the end of the pass in progress. -/
  | auxSequenceSet (r : Req) (count : Byte) (entries : List (Byte × Byte × Byte))
  /-- AUX_SYSCAL (R360): Captures a zero or full-scale point of an AUXIN input, or computes and installs its calibration. -/
  | auxSyscal (r : Req) (input point : Byte) (fullScale : U32)
  /-- CAL_STATUS (R371): Reports the calibration set in force and both copies. -/
  | calStatus (r : Req)
  /-- CAL_RUN (R366): Runs one step of a calibration procedure and reports its measurement. -/
  | calRun (r : Req) (procedure stepNo : U16) (refValue : U64) (durationMs : U32) (m : CalMeasure)
  /-- CAL_INSTALL (R369): Installs a candidate calibration set and reloads the calibration words. -/
  | calInstall (r : Req) (candidate : U32) (sur : Surroundings)
  /-- CAL_ROLLBACK (R370): Puts the other calibration copy in force. -/
  | calRollback (r : Req) (sur : Surroundings)
  /-- FUSE_READ (R381): Returns fuse shadow words with the zone's finalised and marginal state. -/
  | fuseRead (r : Req) (zone : Byte) (word count : U16)
  /-- FUSE_PROGRAM (R377): Programs the bits of one fuse word with pulses and verifies them at both margins. -/
  | fuseProgram (r : Req) (zone : Byte) (word : U16) (value : U32) (senses : List (U32 × U32))
  /-- FUSE_FINALIZE (R379): Programs a zone's digest and locks the zone. -/
  | fuseFinalize (r : Req) (zone : Byte) (declared : List U32) (fresh : List (Nat × U32)) (senses : List (U32 × U32))
  /-- LOG_READ (R483): Returns held event log entries from a sequence number, filtered by range. -/
  | logRead (r : Req) (first : U32) (count : U16) (range : Byte)
  /-- LOG_CLEAR_COUNTERS (R452): Returns and zeroes the lost and overflow counters in one clock. -/
  | logClearCounters (r : Req)
  /-- DUMP_INFO (R462): Reports the dump held, its cause, length and CRC. -/
  | dumpInfo (r : Req)
  /-- DUMP_READ (R462): Returns one page of the held dump. -/
  | dumpRead (r : Req) (offset : U32)
  /-- DUMP_CLEAR (R463): Clears a held dump once every page has been read, or by force. -/
  | dumpClear (r : Req) (flags : Byte)
  /-- FW_STAGE (R384): Writes one piece of a firmware image into the slot that is not active and verifies it after the last piece. -/
  | fwStage (r : Req) (offset total : U32) (flags : Byte) (data : List Byte)
  /-- FW_ACTIVATE (R384): Names the staged slot active and starts a warm reset. -/
  | fwActivate (r : Req)
  /-- AUTH_CHALLENGE (R280): Returns a fresh nonce for service authentication. -/
  | authChallenge (r : Req) (role : Byte)
  /-- AUTH_RESPONSE (R280): Verifies a signed response and authenticates CH2 for a role. -/
  | authResponse (r : Req) (role : Byte) (keySlot : U16) (signature : List Byte)
  /-- RESET_WARM (R9): Starts a warm reset 1 ms after its response. -/
  | resetWarm (r : Req) (flags : Byte)
  /-- THERMAL_SET (R473): Sets the cooler set-point, clamped to its range. -/
  | thermalSet (r : Req) (setpoint : U16)
  /-- POWER_POLICY_SET (R191): Sets L2 permission in DORMANT and the idle change from READY to DORMANT. -/
  | powerPolicySet (r : Req) (flags : Byte) (idleS : U16)
  /-- SQ_TAIL (R264): Doorbell write that makes new requests available for fetching, or halts the channel when invalid. -/
  | sqTail (ch : Chan) (v : U32)
  /-- REQUEST_FETCH (R268): Fetches the next request once a CQ place is free and checks it in the order of Table 11-5. -/
  | requestFetch (ch : Chan) (m : Message)
  /-- FETCH_TIMEOUT (R264): A request fetch times out and is retried, halting the channel at the third timeout. -/
  | fetchTimeout (ch : Chan)
  /-- CQ_HEAD (R264): Write that consumes responses and frees CQ places, or halts the channel when invalid. -/
  | cqHead (ch : Chan) (v : U32)
  /-- RESPONSE_WRITE (R265): A waiting response is written into the CQ once a place is free and CQ_TAIL is raised. -/
  | responseWrite (ch : Chan)
  /-- MBOX_CTRL_ENABLE (R263): Setting or clearing ENABLE of a request channel starts, halts or discards the channel. -/
  | mboxCtrlEnable (ch : Chan) (enable : Bool)
  /-- EVENT_RING_CTRL_ENABLE (R281): Setting or clearing ENABLE of the CH3 event ring. -/
  | eventRingCtrlEnable (enable : Bool)
  /-- CONSUMED (R281): Write of the event ring's CONSUMED count, freeing space or being ignored when out of range. -/
  | consumed (v : U32)
  /-- LOSS_NOTICE (R281): When ring space returns, writes one loss notice carrying LOST. -/
  | lossNotice
  /-- REPEAT_COUNT_UPDATE (R281): Sends a repeat-count update to the CH3 ring at most once per 10 ms per source. -/
  | repeatCountUpdate (source : U16)
  /-- FRAME_BOUNDARY (R78): At B_N the module assigns frame N, starts its readout and latches the ledger classes due at this boundary. -/
  | frameBoundary (o : BoundaryObs)
  /-- IDLE_BOUNDARY (R131): An unnumbered boundary in READY that gives a change into VIEW its epochs and latches. -/
  | idleBoundary (o : BoundaryObs)
  /-- ROW_PAIR_PERIOD (R57): Each bank converts one row or pair and the column arithmetic emits its 24-bit values. -/
  | rowPairPeriod (d : PeriodData)
  /-- CAL_WORD_RESTORE (R44): The keeper core rewrites a failed calibration word before the next boundary. -/
  | calWordRestore (x y : Nat)
  /-- RECORD_CLOSE (R175): The formatter closes a frame record in the reservoir and the ring, whose entry becomes COMPLETE. -/
  | recordClose
  /-- EXPOSURE_WINDOW_START (R31): At a window start every photosite clears its photodiode, tally and latches. -/
  | exposureWindowStart
  /-- EXPOSURE_WINDOW_END (R32): Global transfer of residual and tally into the named node, with up to two folds. -/
  | exposureWindowEnd (sites : List SiteCharge)
  /-- SELF_RESET (R24): A photosite's well reaches its threshold, removes one reset step and increments its tally, or saturates or runs away. -/
  | selfReset (x y : Nat) (well : Nat) (still : Bool)
  /-- READY_SLICE_CALIBRATION (R74): Recalibrates every slice every 10 s while the module stays in READY. -/
  | readySliceCalibration (sums : CalSums)
  /-- TRIG_IN_EDGE (R94): A qualified TRIG_IN edge is timestamped and becomes the trigger in flight, pending, or discarded. -/
  | trigInEdge
  /-- GATE_CLOSE (R95): The inactive TRIG_IN edge in GATED operation abandons the exposure and finishes or cuts the readout. -/
  | gateClose
  /-- PREROLL_REWRITE_DONE (R147): In triggered or gated operation, the end of the pre-roll header rewrite releases TAKE_BEGIN and the first pre-roll record. -/
  | prerollRewriteDone
  /-- GENLOCK_FRAME_START (R311): The genlock meter timestamps a reference frame start and updates its state. -/
  | genlockFrameStart (sub : Byte) (struct : Byte)
  /-- GENLOCK_SYNC_TIMEOUT (R311): No line sync for 100 ms moves the meter to ABSENT or HOLDOVER. -/
  | genlockSyncTimeout
  /-- GENLOCK_START_TIMEOUT (R311): No frame start within 1.5 periods moves a locked meter to HOLDOVER. -/
  | genlockStartTimeout
  /-- LTC_CODEWORD (R315): The LTC reader decodes a codeword and updates presence and counts. -/
  | ltcCodeword (word : U64) (bitPeriod : U32) (cells : BitCells) (reversed : Bool)
  /-- LTC_ABSENT_TIMEOUT (R315): No valid codeword for 3 codeword periods clears LTC_IN present and switches to the generator. -/
  | ltcAbsentTimeout
  /-- TIMECODE_FRAME_START (R316): A timecode frame begins and its codeword comes in force and goes out on LTC_OUT. -/
  | timecodeFrameStart
  /-- TIMER_TICK (R319): A timer channel advances COUNT and evaluates match and overflow actions. -/
  | timerTick (n : Fin 16)
  /-- TIMER_INPUT_EDGE (R323): A qualified edge on a timer input counts, captures or clears STUCK. -/
  | timerInputEdge (n : Fin 16) (line : TimerLine) (rising : Bool)
  /-- TIMER_STUCK (R323): No qualified edge for STUCK_MS sets STUCK. -/
  | timerStuck (n : Fin 16)
  /-- START (R321): CMD START starts a timer channel and its prescaler. -/
  | start (n : Fin 16)
  /-- STOP (R321): CMD STOP stops a timer channel unless it is locked in RUN_ALWAYS. -/
  | stop (n : Fin 16)
  /-- RESET (R321): CMD RESET sets a timer channel's COUNT to 0 and restarts its prescaler. -/
  | reset (n : Fin 16)
  /-- COUNT (R327): Write of a timer's COUNT, combined with a tick in the same cycle. -/
  | count (n : Fin 16) (v : U32)
  /-- COMPARE (R320): Write of a timer's COMPARE, judged at the next tick. -/
  | compare (n : Fin 16) (v : U32)
  /-- CAP_RISE (R324): A read of CAP_RISE takes a snapshot of the stored capture pair. -/
  | capRise (n : Fin 16)
  /-- AUX_PASS_END (R356): An auxiliary pass ends, delivering results, queue entries, readings and the cross-check. -/
  | auxPassEnd (codes : List (Int × Int × Int × Int)) (codeA codeB : Int)
  /-- AUX_SYSCAL_CAPTURE_DONE (R360): A system calibration capture of 256 results completes and AUX_SYSCAL responds. -/
  | auxSyscalCaptureDone (input : Fin 2)
  /-- QCONSUMED (R357): Write of QCONSUMED frees queue entries or is ignored when out of range. -/
  | qconsumed (v : U32)
  /-- ABUS_XFER_DONE (R334): A controller transaction reaches its STOP or ends, and ABUS_XFER completes with its result. -/
  | abusXferDone (bus : BusId) (result : XferResult) (done : Nat) (data : List Byte) (pec : Option Byte)
  /-- ARBITRATION_LOST (R336): The controller sees a zero after sending a one, withdraws and ends ABUS_XFER with RESULT 3. -/
  | arbitrationLost (bus : BusId) (done : Nat)
  /-- BUS_ERROR (R341): A START or STOP where a bit was due ends the controller's transaction. -/
  | busError (bus : BusId) (done : Nat)
  /-- SCL_TIMEOUT (R340): SCL held low beyond SCL_TO ends the transaction of controller or target. -/
  | sclTimeout (bus : BusId) (asTarget : Bool) (done : Nat)
  /-- SDA_TIMEOUT (R340): SDA held low beyond SDA_TO starts a bus clear. -/
  | sdaTimeout (bus : BusId) (freed : Bool)
  /-- SDA_RELEASED (R343): SDA returns high on a faulted bus, which clears FAULTED. -/
  | sdaReleased (bus : BusId)
  /-- BUS_CTRL (R342): Write of a bus CTRL; CTL_EN from 0 to 1 runs a bus clear. -/
  | busCtrl (bus : BusId) (v : U32) (freed : Bool)
  /-- TARGET_WRITE_COMMAND (R347): A target write command, such as ACC_POST, takes effect once fully acknowledged or is discarded. -/
  | targetWriteCommand (bus : BusId) (address code : Byte) (data : List Byte) (ending : WriteEnd)
  /-- TARGET_READ_COMMAND (R346): A target read command snapshots its data at the repeated START and returns it. -/
  | targetReadCommand (bus : BusId) (address code : Byte)
  /-- INBOX_CONSUMED (R349): Write of INBOX_CONSUMED frees inbox entries or is ignored when out of range. -/
  | inboxConsumed (bus : BusId) (v : U32)
  /-- HBUS_IDLE_TIMEOUT (R350): In DORMANT the HBUS engine goes idle after 100 ms without being addressed. -/
  | hbusIdleTimeout
  /-- HBUS_WAKE (R350): An idle HBUS engine NACKs a matching address and wakes. -/
  | hbusWake (address : Byte)
  /-- HOST_NOTIFY (R351): HBUS sends a due Host Notify, retrying after 10 ms and dropping it after three failures. -/
  | hostNotify (ended : ControllerEnd)
  /-- LENS_POLL (R339): A lens poll on ABUS0 replaces the lens block or counts a failure. -/
  | lensPoll (ended : ControllerEnd) (bytes : List Byte)
  /-- DEVICE_HEALTH_POLL (R157): Firmware reads memory device health and temperature over ABUS1 once per second. -/
  | deviceHealthPoll (found : List DeviceHealth)
  /-- DORMANT_ABUS_POWER_OFF (R338): In DORMANT, PD77 is removed 10 ms after the final ABUS_XFER response. -/
  | dormantAbusPowerOff
  /-- DESC_LIMIT (R211): Write of DESC_LIMIT; during OPENING it triggers the AGENT_INFO checks and SESSION_OPEN. -/
  | descLimit (bay : Bay) (rid : U16) (v : U32)
  /-- PAGE_LIMIT (R216): Write of PAGE_LIMIT adds page credit, checked against the bound. -/
  | pageLimit (bay : Bay) (rid : U16) (v : U64) (whole : Bool)
  /-- OPEN_ACK_SESSION (R211): The agent's echo of session and version opens the session. -/
  | openAckSession (bay : Bay) (rid : U16) (session : U32) (version : Byte)
  /-- ACK_PRODUCER (R220): Write of ACK_PRODUCER submits acknowledgement entries that are accepted, make the bay faulty, or abort the session. -/
  | ackProducer (bay : Bay) (rid : U16) (v : U32) (entries : List AckEntry)
  /-- AGENT_INFO (R231): Write of AGENT_INFO, stored during OPENING and hostile after step 3. -/
  | agentInfo (bay : Bay) (rid : U16) (bytes : List Byte)
  /-- WELT_PAGE_WRITE_DISCARD (R209): A Welt page write from a wrong requester, in a wrong state or to a reserved offset is discarded and logged. -/
  | weltPageWriteDiscard (bay : Bay) (rid : U16) (offset : Nat)
  /-- WELT_OPEN_TIMEOUT (R211): The agent fails to write its information or echo within 1.0 s, and the open fails. -/
  | weltOpenTimeout (bay : Bay)
  /-- ACK_TIMEOUT (R221): A session that owes progress for ACK_TIMEOUT makes its bay faulty and relays the take. -/
  | ackTimeout (bay : Bay)
  /-- WELT_RECORD_SEND (R215): Once credit covers a record, the module writes its pages and then its commit descriptor. -/
  | weltRecordSend (bay : Bay) (poisoned : Bool)
  /-- DEVICE_MEDIA_ERROR (R170): A device reports a media error on a write, making the frame void with reason 0x02. -/
  | deviceMediaError (page : Nat)
  /-- MEMORY_LINK_RETRAIN (R170): A memory link retrains while the write queue carries the stream. -/
  | memoryLinkRetrain (device : Nat) (lanes rate : Nat) (done : Bool)
  /-- DEVICE_LOST (R170): A memory device is lost, so the reservoir becomes absent and the ring locks. -/
  | deviceLost (device : Nat)
  /-- BAR2_READ (R172): A read of the reservoir aperture, answered with data, EP, Unsupported Request or Completer Abort. -/
  | bar2Read (offset : U64) (len : Nat) (poisoned : Bool)
  /-- BAR2_WRITE (R172): A write to BAR2 is discarded and reported as Unsupported Request. -/
  | bar2Write (offset : U64)
  /-- HOLDOVER_BLOCK_FAIL (R178): A hold-over block fails write-verify and is remapped to a spare. -/
  | holdoverBlockFail (bank : Fin 8)
  /-- HOLDOVER_BANK_FAIL (R178): A hold-over bank fails as a whole, and the store becomes degraded. -/
  | holdoverBankFail (bank : Fin 8)
  /-- VIEW_FRAME_DELIVERY (R247): A running ring delivers, skips or abandons the picture of a frame it takes. -/
  | viewFrameDelivery (ring : Byte) (bufAddr : U64) (bufBytes : U32) (overflow : Bool)
  /-- DESCRIPTOR_READ_TIMEOUT (R247): A descriptor read times out, so the frame is skipped and the ring stops after 8 such timeouts. -/
  | descriptorReadTimeout (ring : Byte)
  /-- POSTED (R244): Write of a ring's POSTED count, or a stop with reason 4 when invalid. -/
  | posted (ring : Byte) (v : U32)
  /-- PAIRING_WINDOW_CLOSE (R257): The compositor's pairing window closes, pairing the partner frame or repeating the last good one. -/
  | pairingWindowClose
  /-- PARTNER_FRAME_DEADLINE (R257): A paired partner frame not complete by its deadline is treated as short. -/
  | partnerFrameDeadline
  /-- TANDEM_LINK_UP (R252): The tandem link trains and HELLO packets are exchanged. -/
  | tandemLinkUp
  /-- HELLO_PACKET (R250): A received HELLO negotiates the tandem version and detects a role conflict. -/
  | helloPacket (role maxVersion mode : Byte) (identity : U64) (rttNs : U32)
  /-- HEARTBEAT (R256): The leader sends a heartbeat at each boundary or as a keep-alive, and the follower answers it. -/
  | heartbeat (boundary : U64) (frame : U64) (mode : Byte) (idle : Bool)
  /-- HEARTBEAT_KEEPALIVE (R256): 10.0 ms after the leader's latest packet without a boundary, a keep-alive heartbeat is due. -/
  | heartbeatKeepalive
  /-- JOIN (R252): The follower receives JOIN, discards its entries and pre-roll, and adopts the leader's settings. -/
  | join (first : U64) (settings : List Setting) (waiting : List Mirrored)
  /-- LEDGER (R254): The follower receives a mirrored ledger entry and applies it to the leader's frame or slips it. -/
  | ledger (entry : Mirrored)
  /-- LEDGER_ACK (R254): The leader receives the follower's acknowledgement of a mirrored entry. -/
  | ledgerAck (seq : U32)
  /-- LEDGER_RESEND (R254): The leader resends an unacknowledged mirrored entry every 20 µs. -/
  | ledgerResend
  /-- LEDGER_CANCEL_PACKET (R250): The follower receives a mirrored cancellation of ledger classes. -/
  | ledgerCancelPacket (seq : U32) (classes : Byte)
  /-- FRAME_BEGIN (R257): The leader receives the start of a partner frame's intermediate. -/
  | frameBegin (frame : U64) (width height : U16)
  /-- LINES (R255): The leader receives lines of the partner's intermediate. -/
  | lines (frame : U64) (index first : U16) (pixels : List (U16 × U16 × U16))
  /-- FRAME_END (R257): The leader receives the end of a partner frame with its line counts. -/
  | frameEnd (frame : U64) (sent dropped : U16)
  /-- PARTNER_STATUS (R249): A module receives its partner's temperatures, input and fault summary. -/
  | partnerStatus (temps : List Int) (input : Byte) (faults : U32)
  /-- TANDEM_PACKET_CRC_FAIL (R249): A tandem packet fails its CRC and is discarded and counted. -/
  | tandemPacketCrcFail
  /-- TANDEM_LINK_TIMEOUT (R256): No valid packet for 50 ms ends the join. -/
  | tandemLinkTimeout
  /-- TSYNC_EDGE (R253): The follower places its boundary on the leader's TSYNC rising edge. -/
  | tsyncEdge
  /-- COLD_RESET (R9): Power-on reset of the whole module: straps sampled, fuses sensed, boot, then the profile's power-up mode. -/
  | coldReset (c : ColdStart)
  /-- WARM_RESET (R465): Resets every domain except PD-AO, keeps the items of Table 19-8 and boots again. -/
  | warmReset (sur : Surroundings)
  /-- MOD_RESET_ASSERT (R440): A qualified low on MOD_RESET# starts a warm reset. -/
  | modResetAssert
  /-- MOD_RESET_RELEASE (R440): The rising edge of MOD_RESET# starts the boot. -/
  | modResetRelease (sur : Surroundings)
  /-- FW_SELF_TEST_PASS (R385): A new image reports its self-test passed, and the anti-rollback thermometer advances. -/
  | fwSelfTestPass (senses : List (U32 × U32)) (sur : Surroundings)
  /-- FW_SELF_TEST_TIMEOUT (R385): The new image fails or does not report its self-test within 5.0 s, and the previous slot returns. -/
  | fwSelfTestTimeout (sur : Surroundings)
  /-- READY_ENTRY_COMPLETE (R403): The sequenced entry to READY ends when the stack is within its band, and READY is reported. -/
  | readyEntryComplete
  /-- READY_ENTRY_TIMEOUT (R403): The stack does not reach its regulation band within 120 s, and the entry fails. -/
  | readyEntryTimeout
  /-- POWER_GOOD_TIMEOUT (R402): A domain lacking power good 100 µs after power is applied loses power, and the change fails. -/
  | powerGoodTimeout (domain : Nat)
  /-- AC_ABSENT (R391): AC becomes absent, and the draw moves to DC or the ride-through starts. -/
  | acAbsent
  /-- DC_ABSENT (R391): DC becomes absent, and the ride-through starts when AC is also absent. -/
  | dcAbsent
  /-- INPUT_PRESENT (R396): An input becomes present, which ends a ride-through or starts charging the store. -/
  | inputPresent (ac : Bool)
  /-- AC_RETURN_SETTLED (R391): After AC stays present for 1.0 s the draw returns to AC. -/
  | acReturnSettled
  /-- INPUT_OUT_OF_RANGE (R390): An input goes out of range and is disconnected as absent. -/
  | inputOutOfRange (ac : Bool)
  /-- RIDE_THROUGH_EXPIRY (R179): 20.0 ms after the loss of both inputs the retire is declared. -/
  | rideThroughExpiry
  /-- STORE_AT_V_RETIRE (R397): The hold-up store falls to V_RETIRE during a ride-through, and the retire is declared early. -/
  | storeAtVRetire
  /-- HOLD_STORE_TIMEOUT (R396): The store does not reach READY within 3.0 s, so the change out of DORMANT fails. -/
  | holdStoreTimeout
  /-- LOAD_SAMPLE (R405): Every 10 ms the DC load is measured, capping or releasing the cooler and setting PFC_EN. -/
  | loadSample (load acPower dcPower acVolts acHz dcVolts store : Nat) (pdPwr : List Nat)
  /-- POWER_STAGE_FAULT (R406): A power stage fault starts the fatal sequence. -/
  | powerStageFault
  /-- THERMAL_CHECK (R475): Every 10 ms the temperatures are compared with their thresholds and the set-point ramps. -/
  | thermalCheck (stack genaz hold power : Int)
  /-- TILE_TEMP_SAMPLE (R302): Every 10 ms the tile temperatures are sampled into the status mirror. -/
  | tileTempSample (codes : List (BitVec 12))
  /-- PERST (R204): PERST# or a hot reset returns both functions to reset configuration and stops the viewing rings. -/
  | perst (asserted : Bool)
  /-- LINK_DOWN (R204): The host link goes down without PERST#, and the module retrains it. -/
  | linkDown
  /-- LINK_TRAINED (R189): The host link reaches L0 at a rate and width, and B_sus is recomputed. -/
  | linkTrained (rate width : Nat) (flit : Bool) (mps : Nat)
  /-- L0P_NARROWING (R190): The partner narrows the link, and the module requests full width again after 1 ms. -/
  | l0pNarrowing (width : Nat)
  /-- FLR_PF0 (R204): A function-level reset of PF0 discards CH0, CH2 and CH3 state and pauses Welt. -/
  | flrPf0
  /-- FLR_PF1 (R204): A function-level reset of PF1 stops every ring and discards CH1 state. -/
  | flrPf1
  /-- BUS_MASTER_ENABLE (R276): A change of PF0 or PF1 Bus Master Enable pauses or resumes Welt, rings and resent responses. -/
  | busMasterEnable (fn : Func) (on : Bool)
  /-- D3HOT_ENTRY (R196): A function enters D3hot, answering only configuration requests and pausing Welt. -/
  | d3hotEntry (fn : Func)
  /-- PME_TURN_OFF (R191): The module answers PME_Turn_Off and allows L2 only in DORMANT. -/
  | pmeTurnOff
  /-- MSIX_ENABLE (R197): Enabling or unmasking MSI-X sends the vectors whose sources hold unserviced content. -/
  | msixEnable (fn : Func) (enable functionMask : Bool)
  /-- COMPLETION_TIMEOUT (R198): A read by the module times out and counts against its ring. -/
  | completionTimeout (fn : Func) (ring : Option Byte)
  /-- UNEXPECTED_COMPLETION (R205): An unexpected completion is discarded and logged. -/
  | unexpectedCompletion
  /-- BAR0_ACCESS_ERROR (R205): A poisoned, ECRC-failed or unsupported-size BAR0 access is discarded or refused. -/
  | bar0AccessError (e : Bar0Error)
  /-- IDE_INTEGRITY_FAILURE (R201): An IDE integrity failure moves the stream to the insecure state. -/
  | ideIntegrityFailure
  /-- DOE_REQUEST (R200): The keeper core answers a Discovery, CMA or SPDM object on the DOE mailbox. -/
  | doeRequest (o : DoeObject) (fetched : Bool)
  /-- IDE_KM (R201): IDE key messages in a secured session set or refresh the link IDE keys. -/
  | ideKm (rx : SecuredObject) (tx : List Byte)
  /-- KEK_SET (R387): An SPDM vendor-defined request sets the take key-encryption key. -/
  | kekSet (kek : SecuredObject)
  /-- GET_MEASUREMENTS (R388): The keeper core answers SPDM GET_MEASUREMENTS with its digest blocks. -/
  | getMeasurements (indices : SecuredObject)
  /-- AUTH_IDLE_TIMEOUT (R280): 600 s without a CH2 request ends CH2 authentication. -/
  | authIdleTimeout
  /-- PLL_LOCK_DETECT (R417): The lock detector agrees and the outputs switch back from the safe clock. -/
  | pllLockDetect (p : PllId)
  /-- PLL_LOCK_TIMEOUT (R417): A lock not reached by 10 × T_LOCK fails and is retried once after 10 ms. -/
  | pllLockTimeout (p : PllId)
  /-- PLL_REF_LOSS (R418): A locked PLL loses its reference or phase and enters holdover. -/
  | pllRefLoss (p : PllId)
  /-- PLL_REF_RETURN (R418): The reference present for 1 ms resumes the loop from holdover. -/
  | pllRefReturn (p : PllId)
  /-- XREF_LOSS (R411): XREF shows no edge for 1 µs; the multiplier moves to HKOSC and the PLLs enter holdover. -/
  | xrefLoss
  /-- XREF_RETURN (R411): XREF has run for 10 ms and the multiplier returns to it. -/
  | xrefReturn
  /-- PLL_CMD_LOCK (R419): A PLL_CMD bit from the keeper core requests a lock of that PLL. -/
  | pllCmdLock (p : PllId)
  /-- OUT_CFG (R414): A change of an external clock output's format holds it low for 10 µs. -/
  | outCfg (v : U32)
  /-- PROGRAM (R380): FUSE_CMD PROGRAM from the keeper core programs a fuse word, or is ignored on a finalised zone. -/
  | program (senses : List (U32 × U32))
  /-- SENSE (R373): FUSE_CMD SENSE senses fuse words at both margins. -/
  | sense (weak : List ((Nat × Nat) × U32))
  /-- FINALIZE (R379): FUSE_CMD FINALIZE programs a zone's digest and locks the zone. -/
  | finalize (fresh : List (Nat × U32)) (senses : List (U32 × U32))
  /-- BRIDGE_WAIT_TIMEOUT (R297): A peripheral access waiting 1 ms on a stopped clock sets HANG_INFO.PENDING. -/
  | bridgeWaitTimeout
  /-- BRIDGE_CLOCK_RETURN (R297): The owning clock returns and the waiting bridge access completes. -/
  | bridgeClockReturn
  /-- REGISTER_WRITE (R293): A write to a register without a row of its own updates the field or is rejected as locked, privileged or domain-off. -/
  | registerWrite (master : Master) (fn : Func) (offset : Nat) (access : Access) (data : U64)
  /-- TRIPLICATE_UPSET (R287): One copy of a triplicated field differs and is repaired on the next clock. -/
  | triplicateUpset (field copy : Nat)
  /-- TRIPLICATE_DISAGREE (R287): All three copies of a triplicated field differ, which starts the fatal sequence. -/
  | triplicateDisagree (field : Nat)
  /-- KEEPER_WATCHDOG_EXPIRY (R457): The keeper watchdog expires; the dump engine writes the dump and a warm reset follows. -/
  | keeperWatchdogExpiry
  /-- FIRMWARE_ASSERTION (R447): A firmware assertion in a core starts the fatal sequence. -/
  | firmwareAssertion (core : CoreId)
  /-- STACK_LINK_LOSS (R448): The stack link is lost: fatal during a take, retrained otherwise. -/
  | stackLinkLoss
  /-- DUMP_WRITE_DONE (R455): The dump is verified, DUMP_HELD is set and the module enters SERVICE. -/
  | dumpWriteDone (sur : Surroundings)
  /-- EVENT_REPORT (R450): A source reports an event, which is merged, put into a pending slot or dropped. -/
  | eventReport (code source : U16) (data : U32)
  /-- LOG_WRITER (R451): The writer moves one pending report into the log every 4 LOGCK cycles. -/
  | logWriter
  /-- LOG_RESTORE (R453): Restores the saved log when PD71 returns and writes the held reports. -/
  | logRestore (first second : Bool)
  /-- HOLD_STORE_READY (R396): The hold-up store reaches 46.0 V, HOLD_STATE becomes READY and a change out of DORMANT that waited on it proceeds. -/
  | holdStoreReady
  /-- READY_IDLE_TIMEOUT (R278): With POWER_POLICY_SET flag [1] set, the module changes from READY to DORMANT after IDLE_S seconds idle. -/
  | readyIdleTimeout
  /-- TANDEM_LINK_DOWN (R249): A tandem lane loses block lock and takes the whole link down, so packets queue and vector 31 fires. -/
  | tandemLinkDown
  /-- D3HOT_EXIT (R221): A function returns from D3hot to D0, so Welt writes, the acknowledgement timer and the viewing rings resume. -/
  | d3hotExit (fn : Func)
  /-- DOE_ABORT (R200): A DOE abort discards the pending request and response of the PF0 DOE mailbox. -/
  | doeAbort
  /-- DEBUG_HALT (R325): The scan port halts or releases the conductor core, and each timer channel freezes or runs as its HALT_BEH sets. -/
  | debugHalt (on : Bool)
  deriving DecidableEq, Repr

end Sys2Proof
end

