-- ==== Sys2Proof/Decode.lean ====
section
/-! DEFINITION. The commands of the module have no encoding in the table of operations and events: it gives no row a bit. A word
therefore spells no command. -/

namespace Sys2Proof

/-- The command that a word of the table spells: none, because the table gives no bits (log entry 9). -/
def decodeTableWord (_nbits _w : Nat) : Option Instr := none

end Sys2Proof
end

