-- ==== Sys2Proof/Machine/Bytes.lean ====
section
/-! DEFINITION. Byte order, padding and saturating counts, said once (R4, R290). -/

namespace Sys2Proof.Machine

/-- The `n` bytes of `v`, least significant first (R4). -/
def leBytes (n v : Nat) : List Byte := (List.range n).map fun i => BitVec.ofNat 8 (v >>> (8 * i))

/-- The `n` bytes of `v`, most significant first (ECDSA, GCM and AES fields). -/
def beBytes (n v : Nat) : List Byte := (leBytes n v).reverse

/-- The number that bytes spell, least significant first. -/
def leNat (bs : List Byte) : Nat := bs.foldr (fun b a => b.toNat + 256 * a) 0

/-- The number that bytes spell, most significant first. -/
def beNat (bs : List Byte) : Nat := bs.foldl (fun a b => a * 256 + b.toNat) 0

/-- `n` zero bytes. -/
def zeros (n : Nat) : List Byte := List.replicate n 0

/-- `bs` cut or filled with zero bytes to `n` bytes. -/
def padTo (n : Nat) (bs : List Byte) : List Byte := bs.take n ++ zeros (n - bs.length)

/-- `n` rounded up to a multiple of `m`. -/
def roundUp (n m : Nat) : Nat := (n + m - 1) / m * m

/-- A two's-complement field of `w` bits holding the integer `x`. -/
def intField (w : Nat) (x : Int) : Nat := (x % (2 ^ w : Int)).toNat

/-- The least and the greatest value of an integer clamped to a range. -/
def clampInt (lo hi x : Int) : Int := max lo (min hi x)

/-- The largest value of a 32-bit counter. -/
def max32 : Nat := 0xFFFFFFFF

/-- A counter goes up by `n` and stops at the largest 32-bit value (R290). -/
def bump32 (c n : Nat) : Nat := min max32 (c + n)

/-- A counter goes up by `n` and stops at the largest 16-bit value (R452). -/
def bump16 (c n : Nat) : Nat := min 0xFFFF (c + n)

/-- The distance of two numbers. -/
def dist (a b : Nat) : Nat := (a - b) + (b - a)

/-- One bit as a number. -/
def bit (b : Bool) (pos : Nat) : Nat := if b then 2 ^ pos else 0

/-- Replaces element `i` of a list, where it has one. -/
def setAt {α : Type} (l : List α) (i : Nat) (a : α) : List α := l.set i a

/-- Association lists: the value held for a key. -/
def look {κ α : Type} [DecidableEq κ] (l : List (κ × α)) (k : κ) : Option α :=
  (l.find? fun p => decide (p.1 = k)).map (·.2)

/-- Association lists: the list with a value for a key. -/
def put {κ α : Type} [DecidableEq κ] (l : List (κ × α)) (k : κ) (a : α) : List (κ × α) :=
  (k, a) :: l.filter fun p => decide (p.1 ≠ k)

/-- Association lists: the list without a key. -/
def del {κ α : Type} [DecidableEq κ] (l : List (κ × α)) (k : κ) : List (κ × α) :=
  l.filter fun p => decide (p.1 ≠ k)

end Sys2Proof.Machine
end

