-- ==== Sys2Proof/Machine/Crypto.lean ====
section
/-! DEFINITION. The check words, digests, ciphers and signatures that the manual names: CRC-8, CRC-32C, CRC-64 (R117),
SHA-384, AES-256-GCM (R118), AES key wrap (R224) and ECDSA P-384 (R280). The manual gives the CRC-64 whole; the other
algorithms are the published standards under the names it uses. PRESUMED (log entry 3); unsafe where a
standard were meant otherwise. -/

namespace Sys2Proof.Machine

/-- One bit of a reflected CRC. -/
def crcBit (poly c : Nat) : Nat := if c % 2 = 1 then (c / 2) ^^^ poly else c / 2

/-- One byte of a reflected CRC. -/
def crcByte (poly c : Nat) (b : Byte) : Nat :=
  (List.range 8).foldl (fun c _ => crcBit poly c) (c ^^^ b.toNat)

/-- A reflected CRC whose initial value and final XOR are all ones. -/
def crcReflected (w poly : Nat) (bs : List Byte) : Nat :=
  (bs.foldl (crcByte poly) (2 ^ w - 1)) ^^^ (2 ^ w - 1)

/-- CRC-32C (Castagnoli), used for every header, entry and message check. -/
def crc32c (bs : List Byte) : Nat := crcReflected 32 0x82F63B78 bs

/-- CRC-64 of R117: polynomial 0x42F0_E1EB_A9EA_3693, reflected, all-ones initial value and final XOR. -/
def crc64 (bs : List Byte) : Nat := crcReflected 64 0xC96C5795D7870F42 bs

/-- One byte of the packet error check of the two-wire buses: polynomial x⁸ + x² + x + 1, most significant bit first. -/
def pecByte (c : Nat) (b : Byte) : Nat :=
  (List.range 8).foldl (fun c _ => if c ≥ 128 then ((c * 2) % 256) ^^^ 7 else c * 2) (c ^^^ b.toNat)

/-- The packet error check (CRC-8) over the bytes of a bus message. -/
def pec (bs : List Byte) : Nat := bs.foldl pecByte 0

/-! ## SHA-384 -/

/-- The largest r whose power e lies at or below a, among those with b more bits below what r has so far. -/
def rootBelow (e a : Nat) : Nat → Nat → Nat
  | 0, r => r
  | b + 1, r => rootBelow e a b (if (r + 2 ^ b) ^ e ≤ a then r + 2 ^ b else r)

/-- The primes below n², by the divisors below n. -/
def primesTo (n : Nat) : List Nat :=
  ((List.range (n * n)).drop 2).filter fun p => ((List.range n).drop 2).all fun d => decide (p = d) || decide (p % d ≠ 0)

/-- The first 64 bits of the fraction of the e-th root of p, the root being below 32. -/
def rootFraction (e p : Nat) : U64 := BitVec.ofNat 64 (rootBelow e (p * 2 ^ (64 * e)) 69 0)

/-- The round constants: the cube roots of the first 80 primes. -/
def shaConstants : List U64 := ((primesTo 21).take 80).map (rootFraction 3)

/-- The initial value of SHA-384: the square roots of the ninth to the sixteenth prime. -/
def shaStart : List U64 := (((primesTo 21).drop 8).take 8).map (rootFraction 2)

/-- A word of a SHA block. -/
def wordAt (l : List U64) (i : Nat) : U64 := l.getD i 0

/-- The message schedule: 64 more words, each from four of the sixteen before it (newest first). -/
def shaSchedule : Nat → List U64 → List U64
  | 0, w => w
  | k + 1, w =>
    let s0 := let x := wordAt w 14; x.rotateRight 1 ^^^ x.rotateRight 8 ^^^ (x >>> 7)
    let s1 := let x := wordAt w 1; x.rotateRight 19 ^^^ x.rotateRight 61 ^^^ (x >>> 6)
    shaSchedule k ((wordAt w 15 + s0 + wordAt w 6 + s1) :: w)

/-- One round of the compression: the working variables a to h are a list of eight words. -/
def shaRound (v : List U64) (kw : U64 × U64) : List U64 :=
  let a := wordAt v 0; let b := wordAt v 1; let c := wordAt v 2; let d := wordAt v 3
  let e := wordAt v 4; let f := wordAt v 5; let g := wordAt v 6; let h := wordAt v 7
  let s1 := e.rotateRight 14 ^^^ e.rotateRight 18 ^^^ e.rotateRight 41
  let ch := (e &&& f) ^^^ (~~~e &&& g)
  let t1 := h + s1 + ch + kw.1 + kw.2
  let s0 := a.rotateRight 28 ^^^ a.rotateRight 34 ^^^ a.rotateRight 39
  let mj := (a &&& b) ^^^ (a &&& c) ^^^ (b &&& c)
  [t1 + s0 + mj, a, b, c, d + t1, e, f, g]

/-- One 128-byte block of SHA-384. -/
def shaBlock (h : List U64) (blk : List Byte) : List U64 :=
  let w0 := (List.range 16).map fun i => (BitVec.ofNat 64 (beNat ((blk.drop (8 * i)).take 8)))
  let w := (shaSchedule 64 w0.reverse).reverse
  List.zipWith (· + ·) h ((shaConstants.zip w).foldl shaRound h)

/-- The blocks of a padded message. -/
def shaBlocks : Nat → List U64 → List Byte → List U64
  | 0, h, _ => h
  | n + 1, h, bs => shaBlocks n (shaBlock h (bs.take 128)) (bs.drop 128)

/-- SHA-384: 48 bytes. -/
def sha384 (bs : List Byte) : List Byte :=
  let n := bs.length
  let total := roundUp (n + 17) 128
  let padded := bs ++ [0x80] ++ zeros (total - n - 17) ++ beBytes 16 (8 * n)
  ((shaBlocks (total / 128) shaStart padded).map fun w => beBytes 8 w.toNat).flatten.take 48

/-! ## AES-256 -/

/-- The AES substitution box. -/
def aesSbox : List Byte :=
  [0x63, 0x7c, 0x77, 0x7b, 0xf2, 0x6b, 0x6f, 0xc5, 0x30, 0x01, 0x67, 0x2b, 0xfe, 0xd7, 0xab, 0x76,
   0xca, 0x82, 0xc9, 0x7d, 0xfa, 0x59, 0x47, 0xf0, 0xad, 0xd4, 0xa2, 0xaf, 0x9c, 0xa4, 0x72, 0xc0,
   0xb7, 0xfd, 0x93, 0x26, 0x36, 0x3f, 0xf7, 0xcc, 0x34, 0xa5, 0xe5, 0xf1, 0x71, 0xd8, 0x31, 0x15,
   0x04, 0xc7, 0x23, 0xc3, 0x18, 0x96, 0x05, 0x9a, 0x07, 0x12, 0x80, 0xe2, 0xeb, 0x27, 0xb2, 0x75,
   0x09, 0x83, 0x2c, 0x1a, 0x1b, 0x6e, 0x5a, 0xa0, 0x52, 0x3b, 0xd6, 0xb3, 0x29, 0xe3, 0x2f, 0x84,
   0x53, 0xd1, 0x00, 0xed, 0x20, 0xfc, 0xb1, 0x5b, 0x6a, 0xcb, 0xbe, 0x39, 0x4a, 0x4c, 0x58, 0xcf,
   0xd0, 0xef, 0xaa, 0xfb, 0x43, 0x4d, 0x33, 0x85, 0x45, 0xf9, 0x02, 0x7f, 0x50, 0x3c, 0x9f, 0xa8,
   0x51, 0xa3, 0x40, 0x8f, 0x92, 0x9d, 0x38, 0xf5, 0xbc, 0xb6, 0xda, 0x21, 0x10, 0xff, 0xf3, 0xd2] ++
  [0xcd, 0x0c, 0x13, 0xec, 0x5f, 0x97, 0x44, 0x17, 0xc4, 0xa7, 0x7e, 0x3d, 0x64, 0x5d, 0x19, 0x73,
   0x60, 0x81, 0x4f, 0xdc, 0x22, 0x2a, 0x90, 0x88, 0x46, 0xee, 0xb8, 0x14, 0xde, 0x5e, 0x0b, 0xdb,
   0xe0, 0x32, 0x3a, 0x0a, 0x49, 0x06, 0x24, 0x5c, 0xc2, 0xd3, 0xac, 0x62, 0x91, 0x95, 0xe4, 0x79,
   0xe7, 0xc8, 0x37, 0x6d, 0x8d, 0xd5, 0x4e, 0xa9, 0x6c, 0x56, 0xf4, 0xea, 0x65, 0x7a, 0xae, 0x08,
   0xba, 0x78, 0x25, 0x2e, 0x1c, 0xa6, 0xb4, 0xc6, 0xe8, 0xdd, 0x74, 0x1f, 0x4b, 0xbd, 0x8b, 0x8a,
   0x70, 0x3e, 0xb5, 0x66, 0x48, 0x03, 0xf6, 0x0e, 0x61, 0x35, 0x57, 0xb9, 0x86, 0xc1, 0x1d, 0x9e,
   0xe1, 0xf8, 0x98, 0x11, 0x69, 0xd9, 0x8e, 0x94, 0x9b, 0x1e, 0x87, 0xe9, 0xce, 0x55, 0x28, 0xdf,
   0x8c, 0xa1, 0x89, 0x0d, 0xbf, 0xe6, 0x42, 0x68, 0x41, 0x99, 0x2d, 0x0f, 0xb0, 0x54, 0xbb, 0x16]

/-- A byte through the substitution box. -/
def subByte (b : Byte) : Byte := aesSbox.getD b.toNat 0

/-- A byte through the inverse substitution box. -/
def invSubByte (b : Byte) : Byte := BitVec.ofNat 8 (aesSbox.findIdx fun x => x == b)

/-- Doubling in the AES field. -/
def xtime (b : Byte) : Byte := if b.getLsbD 7 then (b <<< 1) ^^^ 0x1B else b <<< 1

/-- Multiplication in the AES field. -/
def aesMul (a b : Byte) : Byte :=
  ((List.range 8).foldl (fun (p : Byte × Byte) i => (if b.getLsbD i then p.1 ^^^ p.2 else p.1, xtime p.2)) (0, a)).1

/-- Byte-wise exclusive or. -/
def xorBytes (a b : List Byte) : List Byte := List.zipWith (· ^^^ ·) a b

/-- The AES-256 key expansion: words newest first, `i` the index of the next word. -/
def aesExpand : Nat → Nat → Byte → List (List Byte) → List (List Byte)
  | 0, _, _, ws => ws
  | k + 1, i, rc, ws =>
    let prev := ws.getD 0 []
    let back := ws.getD 7 []
    if i % 8 = 0 then
      let t := (prev.drop 1 ++ prev.take 1).map subByte
      aesExpand k (i + 1) (xtime rc) (xorBytes back (xorBytes t [rc, 0, 0, 0]) :: ws)
    else if i % 8 = 4 then aesExpand k (i + 1) rc (xorBytes back (prev.map subByte) :: ws)
    else aesExpand k (i + 1) rc (xorBytes back prev :: ws)

/-- The fifteen round keys of 16 bytes. -/
def aesRoundKeys (key : List Byte) : List (List Byte) :=
  let w0 := (List.range 8).map fun i => (key.drop (4 * i)).take 4
  let ws := (aesExpand 52 8 1 w0.reverse).reverse
  (List.range 15).map fun r => ((ws.drop (4 * r)).take 4).flatten

/-- The row shift of AES, on a column-major block. -/
def aesShift (b : List Byte) : List Byte :=
  (List.range 16).map fun i => b.getD ((i + 4 * (i % 4)) % 16) 0

/-- The inverse row shift. -/
def aesUnshift (b : List Byte) : List Byte :=
  (List.range 16).map fun i => b.getD ((i + 12 * (i % 4)) % 16) 0

/-- The column mix with the given first-row coefficients. -/
def aesMix (co : List Byte) (b : List Byte) : List Byte :=
  (List.range 16).map fun i =>
    (List.range 4).foldl (fun a j => a ^^^ aesMul (co.getD ((j + 4 - i % 4) % 4) 0) (b.getD (i / 4 * 4 + j) 0)) 0

/-- AES-256 of one block. -/
def aesEncrypt (key blk : List Byte) : List Byte :=
  let ks := aesRoundKeys key
  let b0 := xorBytes blk (ks.getD 0 [])
  let b13 := (List.range 13).foldl
    (fun b r => xorBytes (aesMix [2, 3, 1, 1] (aesShift (b.map subByte))) (ks.getD (r + 1) [])) b0
  xorBytes (aesShift (b13.map subByte)) (ks.getD 14 [])

/-- The inverse of AES-256 on one block. -/
def aesDecrypt (key blk : List Byte) : List Byte :=
  let ks := aesRoundKeys key
  let b0 := (aesUnshift (xorBytes blk (ks.getD 14 []))).map invSubByte
  let b13 := (List.range 13).foldl
    (fun b r => (aesUnshift (aesMix [14, 11, 13, 9] (xorBytes b (ks.getD (13 - r) [])))).map invSubByte) b0
  xorBytes b13 (ks.getD 0 [])

/-! ## AES-256-GCM -/

/-- Multiplication in the GCM field, bit 0 the most significant. -/
def gcmMul (x y : BitVec 128) : BitVec 128 :=
  ((List.range 128).foldl
    (fun (p : BitVec 128 × BitVec 128) i =>
      (if x.getLsbD (127 - i) then p.1 ^^^ p.2 else p.1,
       if p.2.getLsbD 0 then (p.2 >>> 1) ^^^ (0xE1#128 <<< 120) else p.2 >>> 1)) (0, y)).1

/-- The 16-byte blocks of a byte string, the last filled with zeros. -/
def blocks16 (bs : List Byte) : List (List Byte) :=
  (List.range ((bs.length + 15) / 16)).map fun i => padTo 16 ((bs.drop (16 * i)).take 16)

/-- The GCM hash of whole blocks. -/
def ghash (h : BitVec 128) (blks : List (List Byte)) : BitVec 128 :=
  blks.foldl (fun y b => gcmMul (y ^^^ BitVec.ofNat 128 (beNat b)) h) 0

/-- The GCM keystream over a byte string, from counter 2. -/
def gcmCtr (key iv : List Byte) (bs : List Byte) : List Byte :=
  ((List.range ((bs.length + 15) / 16)).map fun i =>
    xorBytes ((bs.drop (16 * i)).take 16) (aesEncrypt key (iv ++ beBytes 4 (i + 2)))).flatten

/-- The GCM tag over additional data and ciphertext, for a 12-byte nonce. -/
def gcmTag (key iv aad ct : List Byte) : List Byte :=
  let h := BitVec.ofNat 128 (beNat (aesEncrypt key (zeros 16)))
  let s := ghash h (blocks16 aad ++ blocks16 ct ++ [beBytes 8 (8 * aad.length) ++ beBytes 8 (8 * ct.length)])
  xorBytes (beBytes 16 s.toNat) (aesEncrypt key (iv ++ beBytes 4 1))

/-- AES-256-GCM: the ciphertext and the 16-byte tag. -/
def gcmSeal (key iv aad pt : List Byte) : List Byte × List Byte :=
  let ct := gcmCtr key iv pt
  (ct, gcmTag key iv aad ct)

/-! ## AES key wrap -/

/-- The unwrapping steps of the key wrap: the counter counts down, the registers are the semiblocks R1 to Rn. -/
def unwrapSteps (kek : List Byte) (n : Nat) : Nat → List Byte → List (List Byte) → List Byte × List (List Byte)
  | 0, a, rs => (a, rs)
  | t + 1, a, rs =>
    let b := aesDecrypt kek (beBytes 8 (beNat a ^^^ (t + 1)) ++ rs.getD (t % n) [])
    unwrapSteps kek n t (b.take 8) (rs.set (t % n) (b.drop 8))

/-- AES key unwrap: the key, or none where the integrity value fails. -/
def aesUnwrap (kek wrapped : List Byte) : Option (List Byte) :=
  let n := wrapped.length / 8 - 1
  let rs := (List.range n).map fun i => (wrapped.drop (8 * (i + 1))).take 8
  let r := unwrapSteps kek n (6 * n) (wrapped.take 8) rs
  if r.1 = List.replicate 8 0xA6 then some r.2.flatten else none

/-! ## ECDSA P-384 -/

/-- The field prime of P-384. -/
def p384P : Nat := 2 ^ 384 - 2 ^ 128 - 2 ^ 96 + 2 ^ 32 - 1
/-- The coefficient b of P-384. -/
def p384B : Nat :=
  0xb3312fa7e23ee7e4988e056be3f82d19181d9c6efe8141120314088f5013875ac656398d8a2ed19d2a85c8edd3ec2aef
/-- The order of the base point. -/
def p384N : Nat :=
  0xffffffffffffffffffffffffffffffffffffffffffffffffc7634d81f4372ddf581a0db248b0a77aecec196accc52973
/-- The base point. -/
def p384G : Nat × Nat :=
  (0xaa87ca22be8b05378eb1c71ef320ad746e1d3b628ba79b9859f741e082542a385502f25dbf55296c3a545e3872760ab7,
   0x3617de4a96262c6f5d9e98bf9292dc29f8f41dbd289a147ce9da3113b5f0b8c00a60b1ce1d7e819d7a431d7c90ea0e5f)

/-- Modular power by `fuel` squarings. -/
def powMod (m : Nat) : Nat → Nat → Nat → Nat
  | 0, _, _ => 1 % m
  | fuel + 1, b, e =>
    if e = 0 then 1 % m
    else
      let r := powMod m fuel (b * b % m) (e / 2)
      if e % 2 = 1 then r * b % m else r

/-- The inverse modulo a prime. -/
def invMod (m x : Nat) : Nat := powMod m 400 (x % m) (m - 2)

/-- A point of the curve; none is the point at infinity. -/
abbrev Point := Option (Nat × Nat)

/-- Addition on P-384. -/
def ecAdd (a b : Point) : Point :=
  match a, b with
  | none, q => q
  | p, none => p
  | some (x1, y1), some (x2, y2) =>
    if x1 = x2 ∧ (y1 + y2) % p384P = 0 then none
    else
      let l :=
        if x1 = x2 then (3 * x1 * x1 + p384P - 3) % p384P * invMod p384P (2 * y1) % p384P
        else (y2 + p384P - y1) % p384P * invMod p384P (x2 + p384P - x1) % p384P
      let x3 := (l * l + 2 * p384P - x1 - x2) % p384P
      some (x3, (l * ((x1 + p384P - x3) % p384P) + p384P - y1) % p384P)

/-- Scalar multiplication by `fuel` doublings. -/
def ecMul : Nat → Nat → Point → Point
  | 0, _, _ => none
  | fuel + 1, k, p =>
    if k = 0 then none
    else
      let r := ecMul fuel (k / 2) (ecAdd p p)
      if k % 2 = 1 then ecAdd r p else r

/-- Whether a key (x and y) is a point of the curve. -/
def p384OnCurve (q : Nat × Nat) : Bool :=
  q.1 < p384P && q.2 < p384P && q.2 * q.2 % p384P == (q.1 * q.1 * q.1 + (p384P - 3) * q.1 + p384B) % p384P

/-- ECDSA P-384 with SHA-384: does the signature (r then s, 48 bytes each, big-endian) fit the message under the key? -/
def ecdsaVerify (key : List Byte) (msg sig : List Byte) : Bool :=
  let q := (beNat (key.take 48), beNat (key.drop 48))
  let r := beNat (sig.take 48)
  let s := beNat (sig.drop 48)
  if key.length = 96 ∧ sig.length = 96 ∧ p384OnCurve q ∧ 0 < r ∧ r < p384N ∧ 0 < s ∧ s < p384N then
    let w := invMod p384N s
    let z := beNat (sha384 msg)
    match ecAdd (ecMul 385 (z * w % p384N) (some p384G)) (ecMul 385 (r * w % p384N) (some q)) with
    | some (x, _) => x % p384N == r
    | none => false
  else false

end Sys2Proof.Machine
end

