-- ==== Sys2Proof/Config.lean ====
section
/-! DEFINITION. What one module fixes: the constants of the manual, and the free values, the numbers that the manual leaves
open. A free value has no body, so nothing can be proved of the number it holds. -/

namespace Sys2Proof.Config

/-! ## Constants -/

/-- Readable columns (R21). -/
def readCols : Nat := 18560

/-- Readable rows (R21). -/
def readRows : Nat := 9280

/-- Active columns (R21). -/
def activeCols : Nat := 18432

/-- Active rows (R21). -/
def activeRows : Nat := 9216

/-- Slices of the module (R50). -/
def slices : Nat := 2784

/-- The pedestal of the stack value and of the record value (R62, R106). -/
def pedestal : Nat := 1024

/-- The largest value that arithmetic gives (R60, R106). -/
def maxValue : Nat := 0xFFFFEF

/-- The reserved code of a defect (R107). -/
def codeDefect : Nat := 0xFFFFFD

/-- The reserved code of runaway (R29). -/
def codeRun : Nat := 0xFFFFFE

/-- The reserved code of saturation (R28). -/
def codeSat : Nat := 0xFFFFFF

/-- The largest slice code: 14 bits and the over-range (R56). -/
def maxCode : Nat := 18431

/-- Ticks of module time in a second: one tick is 10 ns. -/
def ticksPerSecond : Nat := 100000000

/-- Ticks in a microsecond. -/
def us : Nat := 100

/-- Ticks in a millisecond. -/
def ms : Nat := 100000

/-- Ledger entries (R140). -/
def ledgerSlots : Nat := 16

/-- Entries of the event log (R451). -/
def logEntries : Nat := 4096

/-- Fatal entries of the event log (R451). -/
def fatalEntries : Nat := 64

/-- Reports held in PD-AO while PD71 is off (R453). -/
def heldReports : Nat := 256

/-- Attempts of a commit (R136). -/
def maxAttempts : Nat := 9

/-! ## Free values: each is applied to a running count of the state -/

/-- The charge left in a well or a node that holds less than the reset step asked of it: no charge is stated (R24, R40). -/
opaque freeCharge : Nat → Nat

/-- A byte of the header that AER logs: what the TLP in error held is not stated (R186). -/
opaque freeHeader : Nat → Nat → Byte

/-- A register of configuration space that the manual names with its structure and gives no contents: function, and offset (R194). -/
opaque freeConfig : Bool → Nat → BitVec 32

/-- The 32-byte nonce of AUTH_CHALLENGE: a fresh random number (R280). -/
opaque freeNonce : Nat → BitVec 256

/-- A byte of the firmware section of a dump, which the manual calls meaningful to Elilent tools only (Table 19-7). -/
opaque freeFirmwareByte : Nat → Nat → Byte

/-- The length of a firmware block of a dump, at most 32 MiB (Table 19-7). -/
opaque freeFirmwareLen : Nat → Fin 33554433

/-- The crossings section of a dump: the manual gives the shape of an entry, and numbers no crossing (Table 19-7). -/
opaque freeCrossings : Nat → List Byte

/-- Where the removal of power cuts a dump that is being written: the section in progress, and its bytes written (Table 19-9). -/
opaque freeCut : Nat → Nat × Nat

/-- The trim that fuse zone 1 gives an auxiliary channel: the value in the channel's unit for an averaged code. The manual says
that trims apply and not how (R355). -/
opaque auxTrim : Nat → Int → Int

/-- A byte of the data ring that no record or dump holds: the manual states no contents (R172). -/
opaque freeRingByte : Nat → Byte

/-- The answer of the keeper core to an SPDM object, whose contents the SPDM standard and the module's keys give, and the manual does
not (R200, R388). -/
opaque freeSpdm : Nat → List Byte

/-- The charge, in e⁻, of a channel of an output pixel that no valid sample of that channel enters, where another channel has one: the
manual states the value where every channel lacks one (R236). -/
opaque channelCharge : Rat

/-- The mark of a format 0 pixel that is CLIPPED and PADDED: the manual gives one code for each (Table 10-3). -/
opaque bothMarks : BitVec 2

/-- How an infinity and a not-a-number of the linear intermediate enter a picture: the charge in e⁻, none where it does not enter. The
manual states it for LOCAL sites (R236). -/
opaque infinityEnters : Option Rat
opaque nanEnters : Option Rat

/-- The 10 bits of a 16-bit channel in format 0: no rounding is stated (Table 10-3). -/
opaque tenBits : BitVec 16 → BitVec 10

/-- A 10-bit code of an exact luma or chroma value: how it is rounded is not stated (R239). -/
opaque yccCode : Rat → BitVec 10

/-- Where the chroma of two neighbouring pixels is sited is not stated: the value that the pair carries (R240). -/
opaque chromaSite : Rat → Rat → Rat


/-- ZONE_MEAN of a zone and channel that has no valid site; by the zone and the channel (Table 10-4). -/
opaque zoneMean : Nat → Nat → BitVec 32

/-- A term of ZONE_FOCUS that lacks a neighbour or meets a defect; by the two neighbours and the site (Table 10-4). -/
opaque focusTerm : Option Nat → Option Nat → Option Nat → Nat

/-- The flags of FRAME_BEGIN: Table 10-9 names them and gives none; by the frame. -/
opaque beginFlags : Nat → BitVec 32

/-- PITCH in the viewing header of an analysis block, which has no rows (Table 10-7). -/
opaque analysisPitch : BitVec 32

/-- A byte of a LUT slot that nothing has stored to: kind, slot and place (R238). -/
opaque freeLutByte : Nat → Nat → Nat → Byte

/-- Bits 5 to 0 of byte 1 of a Host Notify with NONE set: the manual gives them a meaning only where an enabled bit changed (R351). -/
opaque noChange : BitVec 6

/-- What FW_STAGE answers to a piece before the last one, where no image is there yet whose version it could name (Table 11-11, R384). -/
opaque stagedSoFar : BitVec 64

/-- The digest of the keeper boot ROM (Table 15-10). -/
opaque romDigest : BitVec 384

/-- The copy of the calibration store that start-up uses where neither copy of the pointer record passes its check (R364, log entry 79). -/
opaque lostPointer : Bool

end Sys2Proof.Config
end

