-- ==== Sys2Proof/Machine/Settings.lean ====
section
/-! DEFINITION. The frame settings in force, as the machine holds them after a request has passed its checks, and the
encoding of items. -/

namespace Sys2Proof.Machine

/-- One window of an exposure program: ticks before the boundary, and the node (R87). -/
structure ProgEntry where
  startBefore : Nat
  endBefore : Nat
  node : Node
  deriving DecidableEq, Repr

/-- An exposure program (R87): the shutter-angle form keeps its angle in hundredths of a degree (R89). -/
structure Program where
  angle : Option Nat
  entries : List ProgEntry
  deriving DecidableEq, Repr

/-- The window settings (R82). -/
structure Window where
  x0 : Nat
  w : Nat
  h : Nat
  deriving DecidableEq, Repr

/-- Boundary source settings (Table 4-2); GENLOCK is TIMING_MODE 0 with the sync source GENLOCK_IN (R91). -/
inductive TimingMode where
  | free | triggered | gated
  deriving DecidableEq, Repr

/-- The trigger settings (Table 4-2). -/
structure Trigger where
  mode : TimingMode
  falling : Bool
  cut : Bool
  strobeLow : Bool
  delay : Nat
  advance : Nat
  outMode : Nat
  outWidth : Nat
  deriving DecidableEq, Repr

/-- The sync settings (R91). -/
structure SyncSet where
  genlock : Bool
  mult : Nat
  div : Nat
  phase : Int
  deriving DecidableEq, Repr

/-- The sensor class (Table 6-6a). -/
structure SensorSet where
  srThreshold : Nat
  rateNum : Nat
  rateDen : Nat
  window : Window
  bin : Nat
  program : Program
  trigger : Trigger
  sync : SyncSet
  deriving DecidableEq, Repr

/-- The conditioning class (Table 5-2). -/
structure CondSet where
  blkMode : Nat
  blkRowWin : Nat
  blkLim : Nat
  recScale : Nat
  defRepl : Nat
  deriving DecidableEq, Repr

/-- The setting of one tap or stream ring (Table 10-2). -/
structure RingSet where
  source : Nat
  twinPlane : Nat
  format : Nat
  rateDiv : Nat
  ratePhase : Nat
  lut1d : Nat
  lut3d : Nat
  yccMatrix : Nat
  yccRange : Nat
  expShift : Int
  cropX0 : Nat
  cropY0 : Nat
  cropW : Nat
  cropH : Nat
  outW : Nat
  outH : Nat
  matrix : List Int
  deriving DecidableEq, Repr

/-- The record-and-stream class: the host block, and the eleven rings (taps 0 to 2, streams 0 to 7). -/
structure RecSet where
  hostBlock : List Byte
  rings : List RingSet
  deriving DecidableEq, Repr

/-- Every frame setting. -/
structure Settings where
  sensor : SensorSet
  rotK : Nat
  cond : CondSet
  recs : RecSet
  deriving DecidableEq, Repr

/-- The Welt preferences of a profile (Table 6-9). -/
structure Prefs where
  maxVersion : Nat
  prefBay : Nat
  ackTimeoutMs : Nat
  deriving DecidableEq, Repr

/-- A stored profile (Table 6-9). -/
structure Profile where
  settings : Settings
  powerup : Nat
  prerollMs : Nat
  tandem : Nat
  prefs : Prefs
  compMode : Nat
  compLeft : Nat
  deriving DecidableEq, Repr

/-- The four classes of the ledger (Table 6-6a), one flag each. -/
structure Classes where
  sensor : Bool
  conv : Bool
  cond : Bool
  recs : Bool
  deriving DecidableEq, Repr

/-- No class. -/
def Classes.none : Classes := ⟨false, false, false, false⟩

/-- Joins two sets of classes. -/
def Classes.or (a b : Classes) : Classes := ⟨a.sensor || b.sensor, a.conv || b.conv, a.cond || b.cond, a.recs || b.recs⟩

/-- The classes of the first set that are not in the second. -/
def Classes.minus (a b : Classes) : Classes :=
  ⟨a.sensor && !b.sensor, a.conv && !b.conv, a.cond && !b.cond, a.recs && !b.recs⟩

/-- The class bits of a ledger response (R277). -/
def Classes.bits (a : Classes) : Nat := bit a.sensor 0 + bit a.conv 1 + bit a.cond 2 + bit a.recs 3

end Sys2Proof.Machine
end

