-- ==== Sys2Proof/Machine/UnitsCore.lean ====
section
/-! DEFINITION. The state of the conductor's side: the event log and the dump (chapter 19), the mailbox and the event ring
(chapter 11), modes, the ledger and the profiles (chapter 6), and the voting block and the bridge (chapter 12). -/

namespace Sys2Proof.Machine

/-! ## The event log (R449 to R454) -/

/-- A report on its way to the log, and what an entry holds of it (Table 19-3). -/
structure Report where
  code : Nat
  /-- [15:8] domain, [7:0] unit within it. -/
  source : Nat
  time : Nat
  frame : Nat
  data : Nat
  /-- Further occurrences merged, up to 0xFFFF. -/
  rep : Nat
  deriving DecidableEq, Repr

/-- A log entry (Table 19-3). -/
structure LogEntry where
  report : Report
  seq : Nat
  sev : Nat
  held : Bool
  restored : Bool
  /-- A fatal entry that DUMP_CLEAR has made overwritable (R463). -/
  spent : Bool
  deriving DecidableEq, Repr

/-- A saved copy of the log in the control partition (R453). -/
structure LogCopy where
  entries : List LogEntry
  head : Nat
  lost : Nat
  ovf : List (Nat × Nat)
  deriving DecidableEq, Repr

/-- The event log in PD71 and its buffer in PD-AO. -/
structure LogUnit where
  /-- Oldest first. -/
  entries : List LogEntry
  /-- LOG_HEAD: SEQ of the next entry, modulo 2³². -/
  head : Nat
  lost : Nat
  /-- SRC_OVF by domain. -/
  ovf : List (Nat × Nat)
  /-- The pending slot of each source for non-fatal reports. -/
  slots : List (Nat × Report)
  /-- The pending slot of each source for fatal reports. -/
  fatalSlots : List (Nat × Report)
  /-- SEQ of the latest written entry of each source. -/
  latest : List (Nat × Nat)
  /-- When each source last reported each code, in ticks since cold reset. -/
  reported : List ((Nat × Nat) × Nat)
  /-- The source served last, for the round robin. -/
  lastServed : Nat
  /-- Reports held in PD-AO while PD71 is off. -/
  buffer : List Report
  /-- Whether the log has been saved since the cold reset, and the saves in the control partition, first and second copy. -/
  saved : Bool
  save1 : Option LogCopy
  save2 : Option LogCopy
  restored : Bool
  /-- PD71 has returned, and the saved log is still to be restored (R453). -/
  restoreDue : Bool
  winSeq : Nat
  resCopy : Bool
  deriving DecidableEq, Repr

/-- A section of a dump (Table 19-7). -/
structure DumpSection where
  kind : Nat
  inst : Nat
  incomplete : Bool
  omitted : Bool
  bytes : List Byte
  deriving DecidableEq, Repr

/-- A dump as written (R458). -/
structure Dump where
  cause : Nat
  time : Nat
  bytes : List Byte
  inHold : Bool
  inRes : Bool
  deriving DecidableEq, Repr

/-- The fatal sequence in progress (Table 19-5): the first cause, its detection, and what the header keeps of it. -/
structure FatalSeq where
  cause : Nat
  time : Nat
  frame : Nat
  takeId : Nat
  mode : Nat
  pdOn : List Bool
  ckRun : List Bool
  faultSummary : Nat
  /-- Whether steps 4 and 5 are left out, because a dump is held (R461). -/
  noDump : Bool
  /-- Whether the engine runs without firmware, and a warm reset follows (R457). -/
  watchdog : Bool
  /-- A warm reset or MOD_RESET# that waits for the write to end (R440, R467). -/
  resetWaits : Bool
  deriving DecidableEq, Repr

/-- The dump engine. -/
structure DumpUnit where
  held : Option Dump
  fatal : Option FatalSeq
  /-- LOG_STATUS.FATAL_PENDING (R464). -/
  fatalPending : Bool
  seq : Nat
  resOffset : Option Nat
  /-- The bytes of the reservoir copy that DUMP_RES_OFFSET names. -/
  resBytes : List Byte
  /-- Pages of the held dump that DUMP_READ has returned. -/
  pagesRead : List Nat
  deriving DecidableEq, Repr

/-! ## The mailbox (chapter 11) -/

/-- The commands that a message can carry (Tables 11-8 to 11-11). -/
inductive Opcode where
  | hello | bye | getIdentity | getStatus | modeRequest | modeQuery | profileSelect | profileStore | profileRead
  | ledgerPost | ledgerQuery | ledgerCancel | windowSet | exposureProgramSet | triggerSet | binningSet | rotationSet
  | syncSourceSet | reservoirInfo | prerollSet | holdoverStatus | holdoverScan | holdoverRead | holdoverRelease
  | weltOpen | weltClose | weltRelay | weltAllowlistSet | takeStart | takeStop | tapConfig | streamConfig | streamStart
  | streamStop | lutLoad | tandemRoleSet | tandemStatus | compositorSet | timecodeSet | timebaseDiscipline | abusXfer
  | abusTargetSet | auxSequenceSet | auxSyscal | calStatus | calRun | calInstall | calRollback | fuseRead | fuseProgram
  | fuseFinalize | logRead | logClearCounters | dumpInfo | dumpRead | dumpClear | fwStage | fwActivate | authChallenge
  | authResponse | resetWarm | thermalSet | powerPolicySet
  deriving DecidableEq, Repr

/-- The status codes (Table 11-4). -/
inductive Status where
  | ok | accepted | badVersion | badOpcode | badLength | badCheck | badParam | wrongMode | busy | denied | locked
  | notPresent | tooLate | noResource | failed | timeout
  deriving DecidableEq, Repr

/-- The resources of Table 11-6. -/
inductive Resource where
  | mode | bay (b : Nat) | holdRing | calStore | fuses | fwSlots | lutSlot (kind slot : Nat) | abus (b : Nat) | auxin (i : Nat)
  deriving DecidableEq, Repr

/-- A response on its way to, or in, a completion queue. -/
structure Response where
  /-- The version in its header. -/
  ver : Nat × Nat
  tag : U16
  /-- The opcode as the request carried it. -/
  op : Nat
  final : Bool
  status : Status
  target : Nat
  payload : List Byte
  /-- Whether checks 1 to 8 refused the request. -/
  refused : Bool
  deriving DecidableEq, Repr

/-- A request fetched: its tag and opcode. -/
structure Flight where
  tag : U16
  /-- None for a request that checks 1 to 8 refused. -/
  op : Option Opcode
  target : U64
  /-- Whether the conductor core has not taken it yet: it has passed checks 1 to 8 only. -/
  waiting : Bool
  /-- The response of a request that checks 1 to 8 refused, while an earlier request of its channel waits (R275). -/
  held : Option Response
  deriving DecidableEq, Repr

/-- A request whose final response is due: its channel and tag, and the count of the times the channel was discarded, so
that a response never reaches a later request of the same tag (R263). -/
structure ReqId where
  chan : Chan
  tag : U16
  op : Opcode
  gen : Nat
  deriving DecidableEq, Repr

/-- A request channel (Table 11-2). -/
structure Channel where
  sqBase : U64
  cqBase : U64
  entries : U32
  enable : Bool
  sqTail : U32
  sqHead : U32
  cqTail : U32
  cqHead : U32
  /-- 0 while not HALTED, else the halt reason. -/
  halt : Nat
  /-- The negotiated version, none before HELLO. -/
  ver : Option (Nat × Nat)
  flights : List Flight
  /-- Responses not written yet, oldest first. -/
  outgoing : List Response
  /-- Copies of the responses from CQ_HEAD to CQ_TAIL, oldest first (R266). -/
  copies : List Response
  /-- Copies to be written again after a link reset (R276). -/
  rewrite : Nat
  rejectCnt : Nat
  /-- Responses still pending at a link reset, which go out before fetching resumes (R276). -/
  owed : Nat
  /-- Timeouts of the fetch in progress (R264). -/
  fetchTries : Nat
  /-- How often the channel's requests were discarded. -/
  gen : Nat
  deriving DecidableEq, Repr

/-- The CH3 event ring (Table 11-12). -/
structure EventRing where
  base : U64
  entries : U32
  enable : Bool
  mask : U32
  produced : U32
  consumed : U32
  lost : Nat
  /-- A loss notice is due before the next entry (R281). -/
  noticeDue : Bool
  /-- When the latest repeat-count update of each source left. -/
  updates : List (Nat × Nat)
  /-- Entries whose REPEAT has grown since the ring last showed it. -/
  stale : List Nat
  vecDue : Bool
  lastVec : Option Nat
  deriving DecidableEq, Repr

/-- A challenge that waits for its response (R280). -/
structure Challenge where
  nonce : BitVec 256
  role : Nat
  expires : Nat
  deriving DecidableEq, Repr

/-- CH2 authentication (R280). -/
structure AuthState where
  /-- 0 while not authenticated, else the role of R279. -/
  role : Nat
  /-- KEY_SLOT of the authentication in force. -/
  slot : Nat
  challenge : Option Challenge
  fails : Nat
  lockedUntil : Nat
  lastRequest : Nat
  deriving DecidableEq, Repr

/-- The mailbox. -/
structure Mailbox where
  c0 : Channel
  c1 : Channel
  c2 : Channel
  ring : EventRing
  auth : AuthState
  /-- Claimed resources with the claiming request (R275). -/
  claims : List (Resource × ReqId)
  /-- Acceptance time of the latest request, so that the times are distinct (R275). -/
  lastAccept : Nat
  /-- When the conductor core took the latest request, in ticks since cold reset. -/
  lastTaken : Nat
  /-- The channel of the latest request that the conductor core took: it takes CH0, CH1 and CH2 in turn (R275). -/
  lastChan : Chan
  deriving DecidableEq, Repr

/-! ## Modes, the ledger and the profiles (chapter 6) -/

/-- The operating modes (Table 6-1). -/
inductive Mode where
  | dormant | ready | view | take | burst | service
  deriving DecidableEq, Repr

/-- What a change at a commit epoch does when it settles. -/
inductive ChangeKind where
  /-- READY to VIEW, VIEW to READY. -/
  | plain
  /-- VIEW to TAKE: the take fields. -/
  | startTake (takeId keyId : Nat) (key : Option (List Byte)) (isSealed : Bool)
  /-- TAKE to VIEW. -/
  | stopTake
  /-- VIEW to BURST. -/
  | startBurst (count : Nat) (nextMode : Nat) (takeId nextTakeId keyId : Nat) (key : Option (List Byte)) (isSealed : Bool)
  /-- The end of a capture phase at a named frame or by a mode request: no mode changes (R149). -/
  | endCapture (byStop : Bool)
  /-- The end of the drain, into NEXT_MODE (R149). -/
  | endDrain
  /-- A running take goes over into the next take of a burst. -/
  | burstTake (takeId keyId : Nat) (key : Option (List Byte)) (isSealed : Bool)
  deriving DecidableEq, Repr

/-- A mode change at a commit epoch (Table 6-4). -/
structure Change where
  goal : Mode
  kind : ChangeKind
  /-- The epoch, in boundaries since cold reset. -/
  epoch : Nat
  attempts : Nat
  committed : Bool
  req : Option ReqId
  deriving DecidableEq, Repr

/-- What a sequenced change waits for: the hold-up store (R396), PLL-B and PLL-C, or the cooler's band (Table 16-4). -/
inductive SeqStage where
  | store | plls | band
  deriving DecidableEq, Repr

/-- A sequenced change (R132) that waits. -/
structure SeqChange where
  goal : Mode
  req : Option ReqId
  /-- When it was accepted, in ticks since cold reset. -/
  since : Nat
  stage : SeqStage
  /-- What the entry meets at the steps still to come. -/
  around : Surroundings
  deriving DecidableEq, Repr

/-- The burst in progress (R148, R149). -/
structure Burst where
  drain : Bool
  count : Nat
  nextMode : Nat
  takeId : Nat
  nextTakeId : Nat
  keyId : Nat
  key : Option (List Byte)
  isSealed : Bool
  deriving DecidableEq, Repr

/-- The mode unit of the conductor core. -/
structure ModeUnit where
  mode : Mode
  /-- The mode before the latest commit, which R139 forces again. -/
  previous : Mode
  /-- When the mode was entered, in ticks since cold reset. -/
  since : Nat
  change : Option Change
  seq : Option SeqChange
  burst : Option Burst
  profile : Nat
  profileSubst : Bool
  /-- POWERUP_EVENT of GET_STATUS (R134). -/
  powerupEvent : Nat
  /-- The power-up target still to reach after a reset. -/
  powerup : Option Mode
  /-- A change that R139 forces at a later boundary: the mode and the boundary. -/
  forced : Option (Mode × Nat)
  /-- Void frames that R139 still owes. -/
  voidRun : Nat
  deriving DecidableEq, Repr

/-- A ledger entry (R140, Table 12-9). -/
structure LedgerEntry where
  seq : Nat
  target : Nat
  applied : Nat
  settings : List Setting
  latched : Classes
  cancelled : Classes
  slipped : Bool
  mirrored : Bool
  accept : Nat
  /-- 0 to 2, or 0xFF for a mirrored entry. -/
  chan : Nat
  tag : U16
  deriving DecidableEq, Repr

/-- The ledger. -/
structure Ledger where
  /-- The sixteen slots with their update counts GEN (R304). -/
  slots : List (Option LedgerEntry)
  gens : List Nat
  nextSeq : Nat
  /-- Sequence number of a follower's next local entry, bit 31 aside (R254). -/
  nextLocal : Nat
  /-- Governing sequence number of each class at the latest boundary. -/
  govSensor : Nat
  govConv : Nat
  govCond : Nat
  govRec : Nat
  /-- The latest entry applied: its number and the target it named. -/
  govSeq : Nat
  govTarget : Nat
  slipCnt : Nat
  cancelCnt : Nat
  refuseCnt : Nat
  deriving DecidableEq, Repr

/-- A stored copy of a profile with its CRC-32C, held as the bits in which it differs from the CRC-32C of the copy: a copy passes its check where
there are none (R152). -/
structure ProfileCopy where
  body : Profile
  upset : U32
  deriving DecidableEq, Repr

/-- A stored profile: two copies (R152). -/
structure ProfileSlot where
  first : ProfileCopy
  second : ProfileCopy
  deriving DecidableEq, Repr

/-! ## The voting block and the bridge (chapter 12) -/

/-- An access that waits in the bridge (R297). -/
structure BridgeAccess where
  isRead : Bool
  offset : Nat
  /-- The 32 bits of a write, or the length of a read. -/
  data : Nat
  clock : Nat
  since : Nat
  /-- Whether its millisecond has been counted. -/
  counted : Bool
  master : Master
  deriving DecidableEq, Repr

/-- Voting status, rejected writes and the bridge (Table 12-10). -/
structure RegUnit where
  voteRepairCnt : Nat
  voteField : Nat
  voteCopy : Nat
  voteTime : Nat
  rejCnt : Nat
  rejMaster : Nat
  rejReason : Nat
  rejOffset : Nat
  rejData : Nat
  rejTime : Nat
  hangCnt : Nat
  hangOffset : Nat
  hangClock : Nat
  waiting : Option BridgeAccess
  queue : List BridgeAccess
  /-- What the status mirror held when a warm reset began, until the boot (R302). -/
  heldMirror : Option (List Byte)
  deriving DecidableEq, Repr

end Sys2Proof.Machine
end

