-- ==== Sys2Proof/Machine/UnitsFrame.lean ====
section
/-! DEFINITION. The state of the sensor stack, the frame timing engine, the slices and the formatters (chapters 2 to 5). -/

namespace Sys2Proof.Machine

/-! ## The sensor stack (chapter 2) -/

/-- A storage node with its latch (R32, R34). Charge is in units of 1/32,768 electron. -/
structure NodeState where
  charge : Nat
  tally : Nat
  sat : Bool
  run : Bool
  deriving DecidableEq, Repr

/-- A photosite: photodiode, tally counter, latches, and the two nodes. -/
structure Site where
  well : Nat
  tally : Nat
  sat : Bool
  run : Bool
  a : NodeState
  b : NodeState
  deriving DecidableEq, Repr

/-- Calibration words of the array: a common word, and the sites that differ (column, row). -/
structure WordMap where
  common : BitVec 48
  except : List ((Nat × Nat) × BitVec 48)
  deriving DecidableEq, Repr

/-- The four targets of a segment and span, in 1/16 reference code. -/
structure Targets where
  lo : Nat
  m1 : Nat
  m2 : Nat
  hi : Nat
  deriving DecidableEq, Repr

/-- A calibration set (Table 15-1). -/
structure CalSet where
  setId : Nat
  /-- COPY_CRC and DIGEST. -/
  check : Nat
  digest : List Byte
  /-- The calibration temperature code (R45). -/
  tCal : Int
  words : WordMap
  /-- Stitch trim of each tile (R106). -/
  tileTrim : List Nat
  /-- Targets of the sixteen segments, single span then double span. -/
  single : List Targets
  double : List Targets
  parentId : Nat
  /-- CAL_TIME, in UTC seconds. -/
  time : Nat
  procs : Nat
  keySlot : Nat
  /-- REF_VALUES of the procedures 0 to 7. -/
  refs : List Int
  deriving DecidableEq, Repr

/-- The stack: photosites away from the cleared state, the words loaded, and the tile sensors. -/
structure SensorUnit where
  sites : List ((Nat × Nat) × Site)
  words : WordMap
  /-- Codes of the tile sensors, 1/16 °C. -/
  temps : List Int
  /-- Sensors found faulty (R47). -/
  faulty : List Bool
  deriving DecidableEq, Repr

/-! ## Slices (chapter 3) -/

/-- The two corrections of a slice (R58), its failed turns in a row, and whether it is retired (R70). -/
structure SliceCorr where
  ofs1 : Nat
  gain1 : Nat
  ofs2 : Nat
  gain2 : Nat
  fails : Nat
  retired : Bool
  deriving DecidableEq, Repr

/-- Corrections of all slices: a common one and those that differ. -/
structure CorrMap where
  common : SliceCorr
  except : List (Nat × SliceCorr)
  deriving DecidableEq, Repr

/-- The reference codes of one row-pair period: 16 codes a slice. -/
structure RefCodes where
  common : Nat
  except : List (Nat × List Nat)
  deriving DecidableEq, Repr

/-- The slice converters. -/
structure ConvUnit where
  corr : CorrMap
  /-- Slices to retire at the next boundary, with the event that reports it. -/
  retireDue : List (Nat × Nat)
  retireGen : Nat
  /-- The rotation position of the turn in progress, none before the first frame after a calibration of the slices. -/
  turn : Option Nat
  /-- Complete passes of the turn, 16 periods each, latest first, at most 16 a span. -/
  single : List (List RefCodes)
  double : List (List RefCodes)
  /-- Consecutive dead row conversions of slices (R72). -/
  dead : List (Nat × Nat)
  /-- Groups without a slice: bank and segment, set, group (event 0x0324). -/
  short : List Nat
  /-- Codes of 18,431, by segment (R66). -/
  ovr : List Nat
  /-- When the slices were calibrated last in READY. -/
  lastCal : Nat
  deriving DecidableEq, Repr

/-! ## Frames (chapters 4 and 5) -/

/-- What the take gives a record (Table 5-3). -/
structure TakeTag where
  takeId : Nat
  index : Nat
  keyId : Nat
  isSealed : Bool
  last : Bool
  preroll : Bool
  deriving DecidableEq, Repr

/-- Everything that governs frame N, as latched by B_N. -/
structure FrameGov where
  n : Nat
  boundary : Nat
  period : Nat
  sensor : SensorSet
  /-- The program as applied, in ticks (R89). -/
  applied : List ProgEntry
  /-- The geometry that the ledger gives the frame, where it differs from the sensor's (R98, R144). -/
  expected : Option SensorSet
  rho : Nat
  rotK : Nat
  temps : List Int
  subst : List Bool
  cond : CondSet
  recs : RecSet
  ledgerSeq : Nat
  ledgerTarget : Nat
  slipped : Bool
  mode : Mode
  /-- 0 FREE, 1 TRIGGERED, 2 GATED, 3 GENLOCK. -/
  timing : Nat
  holdover : Bool
  trigDelay : Nat
  trigTime : Nat
  follower : Bool
  timecode : U64
  tcCount : Nat
  tcSource : Nat
  take : TakeTag
  /-- Void reasons known by B_N: disagreement (4), no slot (1). -/
  reasons : List Nat
  retireGen : Nat
  calSetId : Nat
  calCheck : Nat
  tCal : Int
  deriving DecidableEq, Repr

/-- One latch read of a row: the column, the row within the pair, and the node's latch. -/
structure LatchRead where
  x : Nat
  y : Nat
  tally : Nat
  sat : Bool
  run : Bool
  deriving DecidableEq, Repr

/-- One row, or pair of rows, as a bank read it (R57): the codes and the latches that are not zero. -/
structure RowRead where
  bank : Bank
  /-- The upper row of the pair, or the row. -/
  y : Nat
  node : Node
  codes : Sparse
  latches : List LatchRead
  /-- Calibration words of the row that differ from those of the frame's start. -/
  words : List ((Nat × Nat) × BitVec 48)
  linkOk : Bool
  deriving DecidableEq, Repr

/-- What a frame's values are computed from (R123): rows read, words, corrections, trims. -/
structure FrameData where
  rows : List RowRead
  words : WordMap
  corr : CorrMap
  tileTrim : List Nat
  /-- Sites whose word failed parity, and the row-pair period from which each is a defect (R44). -/
  parity : List ((Nat × Nat) × Nat)
  /-- MF-9170M. -/
  mono : Bool
  deriving DecidableEq, Repr

/-- What a frame's metadata page takes from before B_N (Table 5-5): the lens block last read, and for each input the reading of the latest complete
pass (R359). -/
structure EarlySamples where
  lens : List Byte
  aux0 : Option Int
  aux1 : Option Int
  /-- Module time at the end of the pass that gave the readings, 0 when neither exists. -/
  auxTime : Nat
  deriving DecidableEq, Repr

/-- The readout in progress. -/
structure Readout where
  gov : FrameGov
  data : FrameData
  /-- Row-pair periods done. -/
  done : Nat
  /-- Reference codes of the pass in progress. -/
  pass : List RefCodes
  /-- Codes of 18,431 in this frame, by segment. -/
  ovr : List Nat
  /-- The row-pair periods after which a gate cut stops it, none where no cut does (R95). -/
  stopAt : Option Nat
  early : EarlySamples
  /-- The GCM engine met an error on this frame (R118). -/
  sealError : Bool
  deriving DecidableEq, Repr

/-- Counts of a record header. -/
structure Counts where
  defect : Nat
  replaced : Nat
  unreplaced : Nat
  sat : Nat
  run : Nat
  clamp : Nat
  parity : Nat
  deriving DecidableEq, Repr

/-- The payload of a record as stored. -/
inductive Payload where
  | void
  | plain (bytes : List Byte)
  | cipher (bytes tag : List Byte)
  deriving DecidableEq, Repr

/-- What the formatter samples when it closes a record (Table 5-5). -/
structure Samples where
  lens : List Byte
  aux0 : Option Int
  aux1 : Option Int
  auxTime : Nat
  syncState : Nat
  phase : Int
  ltcIn : U64
  role : Nat
  paired : Bool
  partnerFrame : Nat
  pairOffset : Int
  stackTemp : Int
  input : Nat
  protDepth : Nat
  resLevel : Nat
  deriving DecidableEq, Repr

/-- A frame record: header and metadata fields, and the payload. -/
structure Record where
  gov : FrameGov
  payload : Payload
  /-- Void reasons that apply; none in a complete record. -/
  reasons : List Nat
  counts : Counts
  corners : List Nat
  fallback : Bool
  ovr : List Nat
  samples : Samples
  variant : Nat
  /-- 3, or 2 for a Welt 1.x session (R119). -/
  format : Nat
  deriving DecidableEq, Repr

/-- What the first 256 header bytes hold beside the governing values. -/
structure HeadMarks where
  reasons : List Nat
  variant : Nat
  format : Nat
  parity : Bool
  fallback : Bool
  deriving DecidableEq, Repr

/-- A trigger in flight: its edge, its boundary, and the delay that the previous frame imposed (R93). -/
structure Flying where
  edge : Nat
  boundary : Nat
  delay : Nat
  deriving DecidableEq, Repr

/-- An exposure window that is open: the node that it ends into, when, and whether it is the frame's first into that node. -/
structure OpenWindow where
  node : Node
  endAt : Nat
  first : Bool
  deriving DecidableEq, Repr

/-- The frame timing engine in PD76. -/
structure FrameUnit where
  /-- Boundaries placed, idle or numbered. -/
  index : Nat
  lastFrame : Nat
  /-- Module time of the latest boundary placed; SET_TIME can move it below 0 (R309). -/
  lastB : Option Int
  /-- Rate origin and the boundaries since (R90), and the rate they belong to. -/
  origin : Int
  steps : Nat
  originNum : Nat
  originDen : Nat
  /-- Sensor-class settings of the current, the next and the next but one frame (R141). -/
  sens0 : SensorSet
  sens1 : SensorSet
  sens2 : SensorSet
  /-- Conversion-class settings of the current and the next frame. -/
  rotK0 : Nat
  rotK1 : Nat
  temps1 : List Int
  subst1 : List Bool
  cond : CondSet
  recs : RecSet
  readout : Option Readout
  /-- The latest readout that has ended, which the viewing paths show. -/
  shown : Option Readout
  /-- What governed the latest frame. -/
  gov : Option FrameGov
  flying : Option Flying
  pending : Option Nat
  overrun : Nat
  /-- The latest edge of TRIG_IN before the boundary still to come, and the edges that came at or after a boundary still due (R94). -/
  trigTime : Nat
  trigLate : List Nat
  gateOpen : Bool
  /-- Where a gate cut cleared the nodes: no window opens before (R95). -/
  clearReady : Nat
  /-- The window of the program that is open, and how many of the program have opened since the boundary. -/
  window : Option OpenWindow
  windows : Nat
  /-- The program as its first window found it: the frame's header carries it (R89). -/
  applied : List ProgEntry
  /-- Rows in a row that failed their check word, of bank T and bank B, and whether the stack link is lost (R448). -/
  linkRunT : Nat
  linkRunB : Nat
  linkLost : Bool
  /-- The exposure in progress was abandoned; no later boundary occurs until the engine runs again. -/
  halted : Bool
  /-- The latest pulses of STROBE_OUT, latest first, and the latest pulse of TRIG_OUT: from and until when each is active (R96, R97). -/
  strobe : List (Nat × Nat)
  trigPulse : Option (Nat × Nat)
  /-- Frames whose classes disagree, with the geometry the ledger gives them (R144). -/
  disagree : List (Nat × SensorSet)
  /-- Follower: the frame and the boundary that the leader announced. -/
  leaderNext : Option (Nat × Nat)
  deriving DecidableEq, Repr

end Sys2Proof.Machine
end

