-- ==== Sys2Proof/Machine/UnitsStore.lean ====
section
/-! DEFINITION. The state of the reservoir, the hold-over store, the Welt sessions and the take (chapters 7 and 9). -/

namespace Sys2Proof.Machine

/-! ## The reservoir (R157 to R172) -/

/-- STATE of a reservoir index entry (Table 7-5). -/
inductive SlotState where
  | writing | closed | sent | durable | filler
  deriving DecidableEq, Repr

/-- A reservoir index entry with the record in its pages (Table 7-5). -/
structure ResEntry where
  /-- The sequence number (R164). -/
  seq : Nat
  frame : Nat
  /-- First data-ring page, and the pages occupied. -/
  page : Nat
  pages : Nat
  state : SlotState
  /-- The record, once the formatter has closed it. -/
  record : Option Record
  /-- Void reasons met while the slot waits for its record (R170). -/
  reasons : List Nat
  /-- Charged to the void reserve (R167). -/
  reserved : Bool
  preroll : Bool
  deriving DecidableEq, Repr

/-- A memory device as discovered (RESERVOIR_INFO). -/
structure MemDevice where
  lanes : Nat
  /-- GT/s. -/
  rate : Nat
  flit256 : Bool
  /-- 0 absent, 1 in use, 2 refused. -/
  dstate : Nat
  capacity : Nat
  deriving DecidableEq, Repr

/-- A pointer over the data ring and the index (R166). -/
structure RingPtr where
  page : Nat
  seq : Nat
  deriving DecidableEq, Repr

/-- The reservoir. -/
structure ResUnit where
  present : Bool
  devices : List MemDevice
  /-- Capacity C in bytes (R160). -/
  capacity : Nat
  /-- Sustainable record rate in kB/s (R161). -/
  bSus : Nat
  /-- The bad-page map, in reservoir pages (R165). -/
  bad : List Nat
  /-- What index pages held that went bad after the discovery: the module writes them no more (R165). -/
  frozen : List (Nat × List Byte)
  /-- APERTURE_BASE in GiB (R171). -/
  aperture : Nat
  /-- Index entries in sequence order; entries behind DUR stay until their place is used again. -/
  entries : List ResEntry
  wr : RingPtr
  send : RingPtr
  dur : RingPtr
  /-- Level state (Table 7-6). -/
  level : Nat
  /-- A memory link retrains (Table 7-7). -/
  retrain : Bool
  /-- Bytes in the port's write queue while a memory link retrains (Table 7-7). -/
  queued : Nat
  /-- Pages of the data ring that recovery copied records into (R183): page and bytes. -/
  scratch : List (Nat × List Byte)
  /-- Pre-roll length asked for and applied, in ms (R146). -/
  prerollMs : Nat
  prerollApplied : Nat
  deriving DecidableEq, Repr

/-! ## The hold-over store (R173 to R184) -/

/-- STATE of a hold-over index entry (Table 7-9). -/
inductive RingState where
  | opened | complete | released | overwritten
  deriving DecidableEq, Repr

/-- A hold-over index entry with its record. -/
structure RingEntry where
  index : Nat
  /-- HDR_COPY: what the header held when it was last written. -/
  gov : FrameGov
  marks : HeadMarks
  state : RingState
  page : Nat
  pages : Nat
  stateTime : Nat
  record : Option Record
  /-- The bits in which the stored STATE_CHECK and ENTRY_CRC differ from what the entry gives (R181). -/
  checkUpset : U32
  crcUpset : U32
  deriving DecidableEq, Repr

/-- The retire record (R180): cause 1 input loss, 2 device loss, 3 fatal error. -/
structure RetireRecord where
  cause : Nat
  time : Nat
  takeId : Nat
  lastAssigned : Nat
  lastDurable : Nat
  firstIndex : Nat
  lastIndex : Nat
  complete : Nat
  events : List LogEntry
  /-- The bits in which the stored CRC-64 differs from the one of the record. -/
  upset : U64
  deriving DecidableEq, Repr

/-- A HOLDOVER_READ in progress (R183). -/
structure RecoveryJob where
  req : ReqId
  takeId : Nat
  first : Nat
  last : Nat
  route : Nat
  bay : Nat
  /-- Next frame to deliver. -/
  next : Nat
  delivered : Nat
  deriving DecidableEq, Repr

/-- The hold-over controller in PD68 and its eight banks. -/
structure HoldUnit where
  /-- Oldest first. -/
  entries : List RingEntry
  nextPage : Nat
  nextIndex : Nat
  passes : Nat
  /-- Pages of the ring (R178 shrinks it). -/
  pages : Nat
  spares : List Nat
  failed : List Bool
  locked : Bool
  degraded : Bool
  retire : Option RetireRecord
  /-- A bank is still writing a retire or index record (Table 6-5). -/
  busy : Bool
  job : Option RecoveryJob
  /-- The last frame acknowledged durable. -/
  lastDurable : Nat
  /-- What HOLDOVER_READ has delivered: take and frame (R184). -/
  delivered : List (Nat × Nat)
  deriving DecidableEq, Repr

/-! ## Welt (chapter 9) -/

/-- Session states (Table 9-8). -/
inductive SessState where
  | closed | opening | opened | streaming | faulted | aborted
  deriving DecidableEq, Repr

/-- A frame committed to a session and not acknowledged. -/
structure Commit where
  frame : Nat
  descSeq : Nat
  headerCrc : Nat
  firstPage : Nat
  pages : Nat
  last : Bool
  recovered : Bool
  deriving DecidableEq, Repr

/-- A Welt session with the bay's half of the Welt page (Table 9-2). -/
structure Session where
  state : SessState
  rid : U16
  maxVersion : Nat
  version : Nat
  caps : Nat
  sessionId : Nat
  primary : Bool
  wantsSeal : Bool
  ackTimeoutMs : Nat
  /-- AGENT_INFO as written, and whether the agent has written it. -/
  info : List Byte
  infoWritten : Bool
  windows : List (Nat × Nat)
  ringBase : Nat
  ringEntries : Nat
  wTotal : Nat
  magazineId : Nat
  pageLimit : Nat
  descLimit : Nat
  ackProducer : Nat
  openAckSession : Nat
  openAckVersion : Nat
  /-- ACK_RING as written: place and bytes. -/
  ackRing : List (Nat × List Byte)
  /-- Acknowledgement entries consumed since open. -/
  acked : Nat
  descSeq : Nat
  nextPage : Nat
  commits : List Commit
  /-- When progress restarted last (R221), in ticks since cold reset. -/
  progress : Nat
  owing : Bool
  /-- When the step of Table 9-4 began. -/
  stepTime : Nat
  req : Option ReqId
  /-- After a PLANNED relay: the relay frame R that the session must acknowledge up to (Table 9-7). -/
  drainTo : Option Nat
  /-- The take that the TAKE_END still to be written names, and its first frame. -/
  drainTake : Nat × Nat
  deriving DecidableEq, Repr

/-- Take states (Table 9-9). -/
inductive TakeState where
  | none | running | orphaned | ending
  deriving DecidableEq, Repr

/-- The take. -/
structure TakeUnit where
  state : TakeState
  takeId : Nat
  keyId : Nat
  /-- The take key in the keeper core. -/
  key : Option (List Byte)
  isSealed : Bool
  /-- Record format: 3, or 2 on a Welt 1.x session (R119). -/
  format : Nat
  first : Nat
  /-- TAKE_INDEX of the next frame. -/
  nextIndex : Nat
  /-- The frame that carries LAST. -/
  last : Option Nat
  active : Option Nat
  /-- The next frame to commit to the active session. -/
  sendNext : Nat
  /-- Frames committed before, which go again with RESENT. -/
  sentUpTo : Nat
  /-- The relay frame that waits for an eligible session, and the MAGAZINE_ID of the old one (R226). -/
  relay : Option (Nat × Nat)
  /-- Whether the session that the take left could relay (R226). -/
  relayOk : Bool
  /-- TAKE_BEGIN written. -/
  begun : Bool
  /-- TAKE_END written. -/
  ended : Bool
  /-- The pre-roll headers are still being rewritten (R147). -/
  rewriting : Bool
  /-- Welt holds back this frame's descriptor until the vote (R139). -/
  holdBack : Option Nat
  /-- The frame whose pages have gone out while its descriptor is held back, and HEADER_CRC of the first page as written. -/
  paged : Option (Nat × Nat)
  /-- Session counter: SESSION_ID increases with each open since cold reset. -/
  sessions : Nat
  allow : List (Nat × Nat)
  a : Session
  b : Session
  deriving DecidableEq, Repr

end Sys2Proof.Machine
end

