-- ==== Sys2Proof/Machine/UnitsView.lean ====
section
/-! DEFINITION. The state of the viewing rings, the tandem link, the compositor, module time, genlock, timecode and the timer
channels (chapters 10 and 13). -/

namespace Sys2Proof.Machine

/-! ## Viewing (R232 to R248) -/

/-- STATE of a delivery ring (Table 10-5). -/
inductive ViewState where
  | stopped | armed | running
  deriving DecidableEq, Repr

/-- A delivery ring (Table 10-5). -/
structure ViewRing where
  descBase : U64
  descEntries : U32
  posted : U32
  posAddr : U64
  produced : U32
  state : ViewState
  /-- Stop reason. -/
  reason : Nat
  delivered : Nat
  skipped : Nat
  abandoned : Nat
  timeouts : Nat
  /-- Descriptor reads timed out in a row (R247). -/
  timeoutRun : Nat
  lastFrame : Nat
  /-- A START or STOP that takes effect at the next boundary (R244). -/
  change : Option Bool
  /-- The latest frame that the ring delivered, skipped or abandoned, or that came before it ran (R233). -/
  taken : Nat
  deriving DecidableEq, Repr

/-- A LUT load in progress (R238), of a channel in the generation that it had. -/
structure LutLoad where
  kind : Nat
  slot : Nat
  chan : Chan
  gen : Nat
  bytes : List Byte
  deriving DecidableEq, Repr

/-- The viewing unit: eleven rings (taps 0 to 2, streams 0 to 7) and the LUT slots. -/
structure ViewUnit where
  rings : List ViewRing
  /-- Stored LUTs: kind (0 1D, 1 3D), slot, bytes. -/
  luts : List ((Nat × Nat) × List Byte)
  loads : List LutLoad
  deriving DecidableEq, Repr

/-! ## The tandem link (R249 to R261) -/

/-- Join states (TANDEM_STATUS). -/
inductive JoinState where
  | none | joining | joined | conflict
  deriving DecidableEq, Repr

/-- A line of the partner's intermediate: line index, first pixel, pixels (three binary16 each). -/
structure Line where
  index : Nat
  first : Nat
  pixels : List (Nat × Nat × Nat)
  deriving DecidableEq, Repr

/-- A partner frame in a compositor store (R257). -/
structure PartnerFrame where
  frame : Nat
  width : Nat
  height : Nat
  lines : List Line
  ended : Bool
  /-- When FRAME_BEGIN arrived, in module time. -/
  arrival : Nat
  padRows : Nat
  truncRows : Nat
  padded : Bool
  truncated : Bool
  deriving DecidableEq, Repr

/-- What the compositor has settled for a leader frame (R257). -/
structure Pairing where
  frame : Nat
  partner : Option PartnerFrame
  repeated : Bool
  absent : Bool
  /-- The compositor mode and left eye of the frame. -/
  mode : Nat
  left : Nat
  deriving DecidableEq, Repr

/-- A partner's PARTNER_STATUS (1.1). -/
structure PartnerInfo where
  temps : List Int
  input : Nat
  faults : Nat
  deriving DecidableEq, Repr

/-- The tandem link in PD59 and the compositor in PD47. -/
structure TandemUnit where
  /-- TANDEM_ROLE_SET: 0 from pin, 1 none, 2 leader, 3 follower. -/
  roleSet : Nat
  up : Bool
  join : JoinState
  /-- Version code 0x10 or 0x11, 0 before HELLO. -/
  version : Nat
  rtt : Nat
  joinFrame : Nat
  partnerRole : Nat
  partnerMode : Nat
  partnerFrame : Nat
  partnerArrival : Nat
  crcFail : Nat
  crcFrame : Option Nat
  slips : Nat
  /-- When the latest valid packet arrived and the latest packet left, in ticks since cold reset. -/
  heard : Nat
  sent : Nat
  /-- Mirrored entries that wait for LEDGER_ACK, and when each was sent last. -/
  unacked : List (Mirrored × Nat)
  info : Option PartnerInfo
  /-- Compositor mode and left eye in force, and a change for the next boundary. -/
  compMode : Nat
  compLeft : Nat
  compChange : Option (Nat × Nat)
  /-- Partner frames whose FRAME_BEGIN has come and that have not settled, newest first. -/
  receiving : List PartnerFrame
  lastGood : Option PartnerFrame
  pairing : Option Pairing
  /-- The pairing before it, and the leader's frame that it still waits for when the next readout ends (R248). -/
  before : Option Pairing
  kept : Option Readout
  /-- Lines that the follower dropped and partner frames that came too late, in all. -/
  dropped : Nat
  /-- TSYNC boundaries from the latest JOIN to B_J: 4, 3, 2, 1; 0 with no join under way. -/
  joinIn : Nat
  /-- Follower: boundaries are placed on TSYNC. -/
  onTsync : Bool
  /-- Follower: boundaries are placed in holdover after the link was lost in a take (R256). -/
  holdover : Bool
  /-- Follower: its latest idle boundary counted a frame of the leader, which HEARTBEAT has still to confirm. -/
  guessed : Bool
  seqs : List (Nat × Nat)
  /-- Packets that wait while the link retrains, oldest first, each with its TYPE (R255). -/
  queue : List (Nat × List Byte)
  deriving DecidableEq, Repr

/-! ## Module time, genlock and timecode (chapter 13) -/

/-- Genlock meter states (Table 13-2). -/
inductive MeterState where
  | absent | detected | locked | holdover
  deriving DecidableEq, Repr

/-- Who counts module time (R306): TBCK; the carrier in PD-AO, on CK00, while PD76 is off; or the carrier still, until the CK00 edge at a tick since
cold reset, where the counter of PD76 takes the count. -/
inductive Carrier where
  | tbck
  | carrier
  | pickUp (at_ : Nat)
  deriving DecidableEq, Repr

/-- Time in the module. -/
structure TimeUnit where
  /-- Ticks since cold reset; nothing sets it. -/
  now : Nat
  /-- Module time (R306). -/
  module : Nat
  carrier : Carrier
  carried : Bool
  setCnt : Nat
  /-- REF asked for: 0 XREF, 1 genlock; and the one that PLL-B follows (R308). -/
  ref : Nat
  refActive : Nat
  offsetPpb : Int
  deriving DecidableEq, Repr

/-- The genlock meter and the boundary placement on the reference (R310 to R314). -/
structure GenlockUnit where
  state : MeterState
  struct : Nat
  /-- Latest frame start and recent periods, in 1/256 tick. -/
  lastStart : Nat
  periods : List Nat
  per : Nat
  phase : Int
  frameCnt : Nat
  missCnt : Nat
  reacqCnt : Nat
  holdoverCnt : Nat
  clamped : Bool
  clampRun : Nat
  /-- The coinciding boundary, the span to the next, and boundaries passed of it (R312); a span of 0 where none is fixed. -/
  origin : Nat
  span : Nat
  steps : Nat
  /-- GL_MULT and GL_DIV of that span. -/
  mult : Nat
  div : Nat
  /-- The coinciding boundaries whose targeted start has not arrived: the start, in 1/256 tick, and the boundary. -/
  targets : List (Nat × Nat)
  /-- The latest reference start of the coinciding series, in 1/256 tick. -/
  series : Nat
  acquire : Bool
  /-- The last valid period, for holdover. -/
  lastPeriod : Nat
  /-- The meter has been LOCKED since the source was selected (R314). -/
  everLocked : Bool
  /-- SYNC SOURCE 1 governs the coming boundary. -/
  selected : Bool
  deriving DecidableEq, Repr

/-- The LTC reader and the timecode in force (R315 to R317). -/
structure TimecodeUnit where
  present : Bool
  reversed : Bool
  lastWord : U64
  lastTime : Nat
  bitPeriod : Nat
  /-- A valid codeword has been read whose timecode frame has not begun (R316). -/
  fresh : Bool
  goodCnt : Nat
  errCnt : Nat
  /-- Valid codewords in a row with consecutive addresses; out-of-sequence words in a row. -/
  goodRun : Nat
  badRun : Nat
  /-- SOURCE in force, and the one that waits for its t0. -/
  source : Nat
  /-- TC_SOURCE: 0 none, 1 LTC_IN, 2 generator. -/
  tcSource : Nat
  word : U64
  /-- Boundaries since the timecode frame began. -/
  count : Nat
  num : Nat
  den : Nat
  /-- Generator: origin, frame, codeword of frame 0. -/
  origin : Int
  frame : Nat
  ltcOut : Bool
  /-- A TIMECODE_SET that waits for the first boundary at or after the given time: source, output, rate, codeword. -/
  waiting : Option (Nat × Nat × Bool × Nat × Nat × U64)
  deriving DecidableEq, Repr

/-- A timer channel (Tables 13-7 and 13-8). -/
structure Timer where
  ctrl : U32
  count : U32
  compare : U32
  running : Bool
  stuck : Bool
  capValid : Bool
  locked : Bool
  capCnt : U32
  /-- The stored pair, and the snapshot of the latest read of CAP_RISE (R324). -/
  capRise : U32
  capFall : U32
  snapFall : U32
  stuckMs : Nat
  matchCnt : Nat
  ovfCnt : Nat
  glitchCnt : Nat
  /-- The condition at the previous evaluation (R320). -/
  cond : Bool
  /-- When the prescaler restarted or gave its latest tick, in ticks since cold reset. -/
  prescale : Nat
  /-- The first edge of a pair: COUNT at it. -/
  pairFirst : Option U32
  /-- When the latest qualified edge came, in ticks since cold reset. -/
  lastEdge : Nat
  deriving DecidableEq, Repr

/-- The sync block in PD76. -/
structure SyncUnit where
  genlock : GenlockUnit
  tc : TimecodeUnit
  timers : List Timer
  /-- Debug halt (R325). -/
  halted : Bool
  /-- Whether the levels of ENC_A and ENC_B are high. -/
  encA : Bool
  encB : Bool
  deriving DecidableEq, Repr

end Sys2Proof.Machine
end

