-- ==== Sys2Proof/Machine/UnitsPlant.lean ====
section
/-! DEFINITION. The state of the two-wire buses and the auxiliary converters (chapter 14), the calibration store, the fuses and
the firmware (chapter 15), power (chapter 16) and clocks (chapter 17). -/

namespace Sys2Proof.Machine

/-! ## Two-wire buses (R330 to R353) -/

/-- An ABUS_XFER waiting or running (R334). -/
structure Xfer where
  req : ReqId
  address : Nat
  usePec : Bool
  writeData : List Byte
  readLen : Nat
  deriving DecidableEq, Repr

/-- An inbox entry (R349). -/
structure InboxEntry where
  address : Nat
  time : Nat
  bytes : List Byte
  deriving DecidableEq, Repr

/-- One bus engine (Table 14-4). -/
structure Bus where
  ctrl : U32
  timing : U32
  timeout : U32
  /-- Values written and waiting for the next START (R333). -/
  timingNext : Option U32
  timeoutNext : Option U32
  tgtAddr : U32
  tgtMode : U32
  ctlBusy : Bool
  tgtBusy : Bool
  faulted : Bool
  engineIdle : Bool
  lensOk : Bool
  arbLost : Nat
  busErr : Nat
  timeouts : Nat
  nacks : Nat
  aborts : Nat
  pecErr : Nat
  clears : Nat
  sleepNacks : Nat
  lensCtrl : U32
  lensLen : U32
  lensOkCnt : Nat
  lensFailCnt : Nat
  notifyMask : U32
  notifyCtrl : U32
  notifyCnt : Nat
  notifyFail : Nat
  inProduced : U32
  inConsumed : U32
  inLost : Nat
  outLen : U32
  outData : List Byte
  /-- The sixteen places of the inbox: place and entry. -/
  inbox : List (Nat × InboxEntry)
  xfer : Option Xfer
  /-- CTL_EN was cleared during a transaction: it clears at the STOP (Table 14-3). -/
  disableDue : Bool
  deriving DecidableEq, Repr

/-- The buses, the lens block and Host Notify. -/
structure BusUnit where
  abus0 : Bus
  abus1 : Bus
  hbus : Bus
  /-- The latest complete lens block (R339). -/
  lens : List Byte
  /-- FAULT_SUMMARY and MODE as the latest notice gave them, failures of the notice in progress (R351). -/
  noticeFaults : Nat
  noticeMode : Nat
  noticeTries : Nat
  lastNotice : Option Nat
  /-- When a transaction last addressed HBUS, in ticks since cold reset (R350). -/
  hbusHeard : Nat
  /-- PD77 is on in DORMANT for an ABUS_XFER (R338). -/
  dormantPower : Bool
  /-- When the latest ABUS_XFER sent its final response, in ticks since cold reset (R338). -/
  xferEnd : Nat
  /-- When the latest lens poll reached its STOP, and whether polls are failing (R339). -/
  lensStop : Option Nat
  lensFailing : Bool
  deriving DecidableEq, Repr

/-! ## Auxiliary converters (R354 to R362) -/

/-- An entry of the sequence list (R356). -/
structure AuxEntry where
  converter : Nat
  channel : Nat
  queue : Bool
  deriving DecidableEq, Repr

/-- A RESULT register (Table 14-7). -/
structure AuxResult where
  value : Int
  pass : Nat
  valid : Bool
  xchk : Bool
  deriving DecidableEq, Repr

/-- A queue entry (Table 14-7). -/
structure AuxQueued where
  value : Int
  channel : Nat
  entry : Nat
  converter : Nat
  xchk : Bool
  pass : Nat
  deriving DecidableEq, Repr

/-- A system calibration capture (R360). -/
structure Capture where
  req : ReqId
  point : Nat
  fullScale : Int
  entry : Nat
  /-- The pass from which results count. -/
  fromPass : Nat
  codes : List Int
  bad : Bool
  deriving DecidableEq, Repr

/-- System calibration of one input (R359, R360). -/
structure SysCalCopy where
  z : Int
  g : Int
  /-- How its CRC-32C differs from that of what it holds. -/
  upset : U32
  deriving DecidableEq, Repr
structure AuxInput where
  z : Int
  g : Int
  /-- Sums of the two captures, and FULL_SCALE. -/
  zeroSum : Option Int
  fullSum : Option (Int × Int)
  capture : Option Capture
  /-- The latest reading, and the reading of the latest complete pass with its end time. -/
  reading : Option Int
  passReading : Option (Int × Nat)
  /-- The copies stored in the control partition (R361). -/
  copy1 : SysCalCopy
  copy2 : SysCalCopy
  deriving DecidableEq, Repr

/-- The auxiliary converters in PD72. -/
structure AuxUnit where
  ctrl : U32
  xchkLimit : U32
  list : List AuxEntry
  /-- A new list that takes effect at the end of the pass (R356). -/
  nextList : Option (List AuxEntry)
  xchkFault : Bool
  codeA : Int
  codeB : Int
  pass : U32
  /-- When the pass in progress started, in ticks since cold reset. -/
  passStart : Nat
  xchkFaultCnt : Nat
  produced : U32
  consumed : U32
  lost : Nat
  /-- Event 0x0C03 has been logged since QCONSUMED last advanced. -/
  lossLogged : Bool
  /-- The difference has reached QUEUE_THRESH and not fallen below since. -/
  threshFired : Bool
  results : List AuxResult
  /-- Places of the queue: position modulo 256 and entry. -/
  queue : List (Nat × AuxQueued)
  in0 : AuxInput
  in1 : AuxInput
  deriving DecidableEq, Repr

/-! ## Calibration store, fuses and firmware (chapter 15) -/

/-- The state of the calibration procedures (R366). -/
structure CalRun where
  /-- NEXT_STEP of the procedures 0 to 6: 0xFFFF after the last step. -/
  nextStep : List Nat
  /-- Procedures measured since BEGIN. -/
  measured : List Nat
  /-- Sites whose reset step was measured outside its range or above the threshold (Table 15-3, check 1). -/
  badSteps : List (Nat × Nat)
  /-- The words with the steps as they were measured, before a clamp (R40). -/
  rawSteps : Option WordMap
  /-- The candidate as far as it is built. -/
  candidate : CalSet
  deriving DecidableEq, Repr

/-- The calibration store (R363 to R371). -/
structure CalUnit where
  /-- Copies A and B, none where a copy is invalid. -/
  copyA : Option CalSet
  copyB : Option CalSet
  /-- Which copy the pointer record names: false A, true B. -/
  useB : Bool
  /-- The pointer record names the copy in force, twice: how the CRC-32C of each of its copies differs (R364). -/
  pointer : U32 × U32
  run : Option CalRun
  /-- The candidate that FINISH accepted and that no install has put into the copy not in force. -/
  candidate : Option CalSet
  /-- The highest CAL_SET_ID that a set of the module has had. -/
  lastId : Nat
  count : Nat
  lastCalTime : Nat
  wordsLoaded : Bool
  loadCnt : Nat
  loadRetryCnt : Nat
  deriving DecidableEq, Repr

/-- A fuse operation: programming a word, or finalising a zone with the digest that its words 126 and 127 take. -/
inductive FuseWork where
  | word (zone word : Nat) (value : U32)
  | digest (zone : Nat) (low high : U32)
  deriving DecidableEq, Repr

/-- A fuse operation under way: the request that it answers, none for one of FUSE_CMD; what the word senses read after each pulse, low margin and
high margin. -/
structure FuseJob where
  req : Option ReqId
  work : FuseWork
  senses : List (U32 × U32)
  deriving DecidableEq, Repr

/-- The fuse array and its controller (R372 to R381). -/
structure FuseUnit where
  /-- The array: zone and word, with the bits set; words not listed are zero. -/
  words : List ((Nat × Nat) × U32)
  /-- Words whose low-margin sense differs from the high-margin one: zone, word and low-margin value. -/
  weak : List ((Nat × Nat) × U32)
  /-- Shadow values of the last sense, and the marginal words it found. -/
  shadow : List ((Nat × Nat) × U32)
  /-- The words have been sensed since the reset; until then the registers hold their reset values. -/
  sensed : Bool
  marginal : List (Nat × Nat)
  /-- Whether the sense at the last start found one (R303). -/
  marginalStart : Bool
  /-- Whether each zone is finalised, as the array holds it. -/
  finalised : List Bool
  digestOk : List Bool
  failed : List Bool
  addr : U32
  data : U32
  declared : List U32
  busy : Bool
  pd78 : Bool
  lastFailed : Bool
  pulses : Nat
  readback : U32
  opCnt : Nat
  failCnt : Nat
  /-- An operation that waits for the end of a ride-through (R378). -/
  waiting : Option FuseJob
  deriving DecidableEq, Repr

/-- A firmware image in a slot (R382). -/
structure Image where
  version : Nat
  svn : Nat
  header : List Byte
  body : List Byte
  deriving DecidableEq, Repr

/-- A staging in progress (R384). -/
structure Staging where
  /-- The channel that stages, in the generation that it had. -/
  chan : Chan
  gen : Nat
  total : Nat
  bytes : List Byte
  deriving DecidableEq, Repr

/-- Firmware slots and the keys (R382 to R389). -/
structure TrustUnit where
  slotA : Option Image
  slotB : Option Image
  activeB : Bool
  /-- The slot that the control partition names active: the one that boots next. -/
  bootB : Bool
  staging : Option Staging
  /-- The image that boots has yet to pass its self-test (R385), since the given tick. -/
  selfTest : Option Nat
  /-- No image runs: the keeper core answers from its boot ROM (R375). -/
  romOnly : Bool
  kek : Option (List Byte)
  debugOpen : Bool
  /-- A secured SPDM session is open on the DOE mailbox, and DOE is busy. -/
  secured : Bool
  deriving DecidableEq, Repr

/-! ## Power (chapter 16) -/

/-- HOLD_STATE (Table 16-5). -/
inductive HoldState where
  | charging | ready | discharging | atRetire
  deriving DecidableEq, Repr

/-- What the module draws from. -/
inductive Draw where
  | none | ac | dc
  deriving DecidableEq, Repr

/-- The retire in progress (Table 7-10). -/
structure Retire where
  /-- When it was declared, in module time. -/
  time : Nat
  deriving DecidableEq, Repr

/-- The power unit in PD-AO (Table 16-5). -/
structure PowerUnit where
  /-- PD00 to PD79: enabled, good, isolated. -/
  en : List Bool
  good : List Bool
  iso : List Bool
  pfcEn : Bool
  acPresent : Bool
  dcPresent : Bool
  /-- An input that was present lies out of range (FAULT_SUMMARY bit 3). -/
  acRange : Bool
  dcRange : Bool
  draw : Draw
  /-- AC has been back since this tick (R391). -/
  acSince : Option Nat
  acVolts : Nat
  acHz : Nat
  dcVolts : Nat
  acPower : Nat
  dcPower : Nat
  /-- Store voltage, 10 mV. -/
  holdVolts : Nat
  holdState : HoldState
  /-- Cooler cap in 0.1 W, none without a cap. -/
  loadCap : Option Nat
  load : Nat
  /-- When the load was measured last, in ticks since cold reset (R405). -/
  sampled : Nat
  /-- Since when the load has been above 148 W, or below 140 W under a cap. -/
  overSince : Option Nat
  underSince : Option Nat
  rideCnt : Nat
  transferCnt : Nat
  lastRide : Nat
  pgFailCnt : Nat
  loadLimitCnt : Nat
  /-- The ride-through in progress: when the inputs were lost. -/
  ride : Option Nat
  retire : Option Retire
  stageFault : Bool
  pwrGood : Bool
  /-- The power policy of POWER_POLICY_SET. -/
  permitL2 : Bool
  idleToDormant : Bool
  idleS : Nat
  /-- PD-AO itself is powered. -/
  aoOn : Bool
  /-- Power of each domain and of PD-AO, 10 mW. -/
  pdPwr : List Nat
  deriving DecidableEq, Repr

/-! ## Clocks (chapter 17) -/

/-- PLL_STATE of one PLL. -/
inductive PllState where
  | off | locking | locked | holdover | failed
  deriving DecidableEq, Repr

/-- A PLL. -/
structure Pll where
  state : PllState
  refPresent : Bool
  agrees : Bool
  /-- Locks completed since power-up, attempts of the lock in progress. -/
  locks : Nat
  tries : Nat
  /-- The seed in use (R415), the band entry in use (R413), the measured frequency. -/
  seed : Nat
  band : Option Nat
  vcoKhz : Nat
  /-- When the lock in progress was requested, in ticks since cold reset. -/
  since : Nat
  /-- When the retry of a failed lock starts (R417). -/
  retryAt : Option Nat
  /-- The reference of the latest lock: 0 XREF, 1 GENREF (R308). -/
  ref : Nat
  deriving DecidableEq, Repr

/-- An entry of the band table (R413). -/
structure BandEntry where
  fMin : Nat
  fMax : Nat
  code : Nat
  enabled : Bool
  deriving DecidableEq, Repr

/-- The clock unit in PD-AO (Table 17-6). -/
structure ClockUnit where
  pllA : Pll
  pllB : Pll
  pllC : Pll
  onHkosc : Bool
  xrefPresent : Bool
  ditherA : Nat
  ditherB : Nat
  ditherC : Nat
  outCfg : U32
  /-- Until when each external output is held low after a change of format (R414). -/
  outLow : List Nat
  lockLoss : Nat
  holdoverCnt : Nat
  relockCnt : Nat
  relockFail : Nat
  isoDrop : Nat
  bands : List BandEntry
  /-- GENREF, LTCCK and the host REFCLK run. -/
  genref : Bool
  ltcck : Bool
  refclk : Bool
  deriving DecidableEq, Repr

end Sys2Proof.Machine
end

