-- ==== Sys2Proof/Machine/UnitsLink.lean ====
section
/-! DEFINITION. The state of the host link (chapter 8), the temperatures (chapter 20), the pins and straps (chapter 18), and
what the module sends out of its ports. -/

namespace Sys2Proof.Machine

/-! ## The host link (R186 to R205) -/

/-- An entry of an MSI-X table (R197). -/
structure MsixEntry where
  address : U64
  data : U32
  masked : Bool
  deriving DecidableEq, Repr

/-- The registers of configuration space that host software writes, beside Bus Master Enable and the power state (R191, R195, R198, R199); their
layout is that of the PCI Express standard (PRESUMED, log entry 72). -/
structure ConfigRegs where
  /-- Command, but for Bus Master Enable. -/
  command : Nat
  bar0 : Nat
  bar2 : Nat
  pmeEnable : Bool
  devCtl : Nat
  linkCtl : Nat
  devCtl2 : Nat
  deriving DecidableEq, Repr

/-- Advanced Error Reporting of a function: uncorrectable errors, ECRC, the first-error pointer and the header log (Table 8-1, R205). -/
structure Aer where
  status : Nat
  mask : Nat
  severity : Nat
  first : Nat
  header : List Byte
  ecrcGen : Bool
  ecrcCheck : Bool
  deriving DecidableEq, Repr

/-- A function of the endpoint (R193 to R197): what configuration space holds for it that the manual gives an effect. -/
structure Function where
  bme : Bool
  d3hot : Bool
  config : ConfigRegs
  msixEnable : Bool
  msixMask : Bool
  table : List MsixEntry
  /-- Pending bits: the vectors set. -/
  pba : List Nat
  deriving DecidableEq, Repr

/-- Link states with an effect (R190, R191, Table 8-6). The link rests in L1 between transactions where it is permitted: `LinkUnit.rests`. -/
inductive LinkState where
  | down | l0 | l0p | l2
  deriving DecidableEq, Repr

/-- A read of BAR2 that waits, and until when in ticks since cold reset (R172). -/
structure BarRead where
  offset : Nat
  len : Nat
  poisoned : Bool
  waitsTo : Nat
  deriving DecidableEq, Repr

/-- Link IDE (R201). -/
structure IdeState where
  rxKey : Option (List Byte)
  txKey : Option (List Byte)
  started : Bool
  insecure : Bool
  deriving DecidableEq, Repr

/-- The DOE mailbox of PF0 (R200). -/
structure DoeState where
  /-- A response object that the host has not read. -/
  response : Option (List Byte)
  /-- Requests refused with the busy indication. -/
  busyCnt : Nat
  deriving DecidableEq, Repr

/-- The host link in PD55 and PD56. -/
structure LinkUnit where
  state : LinkState
  /-- Trained rate in 100 MT/s (640, 320, ...), width, and the active width under L0p. -/
  rate : Nat
  width : Nat
  active : Nat
  flit : Bool
  mps : Nat
  perst : Bool
  pf0 : Function
  pf1 : Function
  /-- The width the module asks for. -/
  asked : Nat
  l1Permit : Bool
  /-- The latest LTR value, in µs, 0 before the first (R192). -/
  ltr : Nat
  /-- AER of PF0 and of PF1. -/
  aer0 : Aer
  aer1 : Aer
  ide : IdeState
  doe : DoeState
  /-- Reads of BAR2 that wait for a memory link to retrain (R172). -/
  reads : List BarRead
  deriving DecidableEq, Repr
/-! ## Temperatures (R473 to R476) -/

/-- The temperature sensors and the cooler. Codes are 1/16 °C. -/
structure ThermalUnit where
  applied : Int
  /-- Working set-point, in 1/1,600 °C, so that 0.25 °C/s is 4 a 10 ms check (R473). -/
  working : Int
  stack : Int
  genaz : Int
  hold : Int
  power : Int
  /-- Threshold states (Table 20-4): outside the band, and above each warning. -/
  outOfBand : Bool
  genazHot : Bool
  holdHot : Bool
  powerHot : Bool
  /-- When the temperatures were compared last, in ticks since cold reset (R475). -/
  checked : Nat
  deriving DecidableEq, Repr

/-! ## Pins and straps (R436, R437, R440, R441) -/

/-- The pins that hold a level, and the straps as sampled. -/
structure PinsUnit where
  psel0 : Bool
  psel1 : Bool
  /-- TANDEM_ROLE as sampled: 1 none, 2 leader, 3 follower (R437). -/
  tandemRole : Nat
  serviceEn : Bool
  /-- FAULT# drives low and FAULT_OUT high. -/
  fault : Bool
  modReset : Bool
  /-- Warm reset held by MOD_RESET#, before the boot. -/
  inReset : Bool
  /-- RESET_WARM or FW_ACTIVATE: a warm reset begins at this tick. -/
  resetAt : Option Nat
  trigIn : Bool
  deriving DecidableEq, Repr

/-! ## What leaves the module -/

/-- How a request from outside is completed. -/
inductive Completion where
  | data (bytes : List Byte)
  | poisoned (bytes : List Byte)
  | unsupported
  | abort
  /-- Request Retry Status, for a configuration request (R187). -/
  | retry
  deriving DecidableEq, Repr

/-- What the module sends: its memory writes, its interrupts, its completions, its packets and its bus bytes. -/
inductive Out where
  /-- A response in a CQ slot: address and bytes (R265). -/
  | response (chan : Chan) (address : Nat) (bytes : List Byte)
  | cqTail (chan : Chan) (value : Nat)
  /-- A CH3 entry: address and bytes (R281). -/
  | eventEntry (address : Nat) (bytes : List Byte)
  | produced (value : Nat)
  /-- An MSI-X vector: PF1 or PF0, and the number. -/
  | vector (pf1 : Bool) (n : Nat)
  /-- Pages of a record: the bus address and the bytes of each (R214, R215). -/
  | pages (bay : Nat) (writes : List (Nat × List Byte))
  /-- A commit descriptor: address and bytes (R217). -/
  | descriptor (bay address : Nat) (bytes : List Byte)
  /-- A picture into a ring buffer: ring, address and bytes (R246). -/
  | picture (ring address : Nat) (bytes : List Byte)
  /-- Bytes 0x10 to 0x1F of a ring descriptor, and PRODUCED at POS_ADDR (R247). -/
  | ringDone (ring address : Nat) (bytes : List Byte)
  | ringPos (ring address value : Nat)
  /-- A tandem packet, whole (Table 10-8). -/
  | packet (bytes : List Byte)
  /-- A pulse of TSYNC: from and until when it is high, in module time (R253). -/
  | tsync (rise fall : Nat)
  | completion (c : Completion)
  /-- A read of host memory: the function, the address and the length (R264). -/
  | read (pf1 : Bool) (address len : Nat)
  /-- An error message of a function, fatal or not (R205). -/
  | errorMessage (pf1 fatal : Bool)
  | ltr (us : Nat)
  | pmeToAck
  | askWidth (lanes : Nat)
  /-- A two-wire answer to another controller: bus and bytes, none for a NACK. -/
  | busAnswer (bus : Nat) (bytes : Option (List Byte))
  | hostNotify (address data : Nat)
  /-- A transaction of ABUS0 or ABUS1 as controller: bus, address, the bytes written and the count to read, each with its PEC (R334, R335). -/
  | busMaster (bus address : Nat) (written : List Byte) (read : Nat)
  | doe (bytes : List Byte)
  | doeBusy
  | ltc (word : U64)
  deriving DecidableEq, Repr

end Sys2Proof.Machine
end

