-- ==== Sys2Proof/Machine/Factory.lean ====
section
/-! DEFINITION. What a module leaves the factory with: profile 0 (R151), the calibration set, the fuse array (Table 15-5) and
the firmware image. Where the manual gives a value, it is the manual's. The serial number, the keys, the image and the words of the calibration
set differ from module to module: the values here are DESIGN CHOICE, log entry 5. -/

namespace Sys2Proof.Machine.Factory

/-- The factory values of Table 4-2, with SR_THRESHOLD 150 (R25). -/
def sensor : SensorSet :=
  { srThreshold := 150, rateNum := 24, rateDen := 1, window := ⟨0, 18432, 9216⟩, bin := 1,
    program := ⟨some 18000, [⟨0, 0, .a⟩]⟩,
    trigger := ⟨.free, false, false, false, 0, 0, 1, 100⟩, sync := ⟨false, 1, 1, 0⟩ }

/-- The factory values of Table 5-2. -/
def cond : CondSet := ⟨4, 2, 1024, 16384, 1⟩

/-- The factory values of Table 10-2. -/
def ring : RingSet :=
  { source := 0, twinPlane := 0, format := 0, rateDiv := 1, ratePhase := 0, lut1d := 0, lut3d := 0xFF, yccMatrix := 0,
    yccRange := 0, expShift := 0, cropX0 := 0, cropY0 := 0, cropW := 18432, cropH := 9216, outW := 1920, outH := 1080,
    matrix := [4096, 0, 0, 0, 4096, 0, 0, 0, 4096] }

/-- The rings of the factory profile. The coding tap takes format 2 only (R241), so its factory format is 2: DEDUCED, log
entry 6. -/
def rings : List RingSet := [ring, { ring with format := 2 }, ring] ++ List.replicate 8 ring

/-- Every frame setting of profile 0; ROT_K 4 (R54). HOST_BLOCK is empty. -/
def settings : Settings := ⟨sensor, 4, cond, ⟨[], rings⟩⟩

/-- Profile 0 (R151). The power-up mode, PREROLL_MS, TANDEM and the compositor fields, for which the manual gives no factory
value, are zero, and the preferred bay is A: DESIGN CHOICE, log entry 5. -/
def profile : Profile := ⟨settings, 0, 0, 0, ⟨0x21, 0, 2000⟩, 0, 0⟩

/-- The unit word: DARK_OFS 0, GAIN 2,048, STEP 0x8000 (R39). CFA and PAR follow from the site. -/
def word : BitVec 48 := 0x008000800000

/-- Targets at the nominal positions of the ladder, in 1/16 code. -/
def targets : Targets := ⟨8192, 96000, 184000, 272000⟩

/-- The calibration set in force when the module leaves the factory, in copy A. Copy B holds the set before it. COPY_CRC and DIGEST are those of the
bytes of Table 15-1. -/
def calSet : CalSet :=
  { setId := 2, check := 0x46f5f20a9c22da8b,
    digest := beBytes 48 0xa8dd417e45d353ca811f34533f876586cfffe13b1eca6b1b63a3d19aa40cba7862b7df2a20be46b840082fbcf8307ffd,
    tCal := 320, words := ⟨word, []⟩, tileTrim := List.replicate 8 16384,
    single := List.replicate 16 targets, double := List.replicate 16 targets, parentId := 0, time := 0, procs := 0x7E, keySlot := 0,
    refs := List.replicate 8 0 }

/-- The set in copy B. -/
def oldSet : CalSet := 
  { calSet with
    setId := 1, check := 0x1f1ff7be7c5378e9,
    digest := beBytes 48 0xd3531e80d00b84c34b9f02fc824ccf95c104e0f544a30b6616e396d91d2a35f0887e47f5566d1905c8c0786117f63e44 }

/-- The fuse array: zones 0 to 3 and 7 are finalised (Table 15-5), with their digests in words 126 and 127 (R376). Zone 1
words 0 to 47 hold the factory bands of R413; CAPS has every bit set; the debug lock is blown. -/
def fuses : List ((Nat × Nat) × U32) :=
  [((0, 0), 0x00000001), ((0, 1), 0x00009170), ((0, 2), 0x00001000), ((0, 126), 0x22BFB1FA),
   ((0, 127), 0x58F408A0)] ++
  [((1, 0), 0x005AA320), ((1, 1), 0x005C77E0), ((1, 3), 0x0030ACF0), ((1, 4), 0x0030FB10),
   ((1, 5), 0x00000100), ((1, 6), 0x0025C3F8), ((1, 7), 0x00268748), ((1, 8), 0x00000200),
   ((1, 11), 0x00000300), ((1, 14), 0x00000300), ((1, 17), 0x00000300), ((1, 20), 0x00000300),
   ((1, 23), 0x00000300), ((1, 26), 0x00000300), ((1, 29), 0x00000300), ((1, 32), 0x00000300),
   ((1, 35), 0x00000300), ((1, 38), 0x00000300), ((1, 41), 0x00000300), ((1, 44), 0x00000300),
   ((1, 47), 0x00000300), ((1, 126), 0xE58C0EEF), ((1, 127), 0x3A6CA7DA)] ++
  [((2, 0), 0x0000007F), ((2, 126), 0xF8821DD6), ((2, 127), 0xF076D62B)] ++
  [((3, 0), 0x85762D70), ((3, 1), 0x712D0D98), ((3, 2), 0xD6D2265A), ((3, 3), 0x26E0B467),
   ((3, 4), 0x5C8BC337), ((3, 5), 0x24C56405), ((3, 6), 0xC2AC3448), ((3, 7), 0xC3E8F5F6),
   ((3, 8), 0x0006D52F), ((3, 9), 0x2B7AC271), ((3, 10), 0x5CBD5A6C), ((3, 11), 0x94AF6A73),
   ((3, 12), 0x00000001), ((3, 126), 0x78334B46), ((3, 127), 0x677FEEC1)] ++
  [((7, 126), 0x4021615E), ((7, 127), 0x6CC05ED2)]

/-- Bit 0 of the zones that leave the factory finalised. -/
def finalised : List Bool := [true, true, true, true, false, false, false, true]

/-- The root public key, x then y. -/
def rootKey : List Byte := beBytes 96
  0xc9da7d187642c97431f7c4e6e0e70123be3ee09cf11fe2dfac552005f96165abd774c2c7346e291e5d6697b2a2d3afa2ac4f4c133ca2fe42639619e106c44ceae1d12ac1401df889ce1bc54106ef7de4dde37acc2820b75f5b09f376a315d760

/-- The signer key. -/
def signerKey : List Byte := beBytes 96
  0x0d56b06737fa047770bae89388976e85861f207ee20b62c2d78c8d6a0928870b04e71909ae248378444d4fc59f6d83643c07f3e3436f91c346187eb66ba0480925a4ea81a64d5656829ecdd98719ae7917a1fd696263aa0fabaf81355352d2f7

/-- The root key's signature over the signer key. -/
def signerSig : List Byte := beBytes 96
  0x773afa23b946301110fd3b61738708e1c9ed031a77cfc85894c2d81f352298d34df8f16b5d837ea0b3431b0491206a450bcab09bbe7819a90fa6eeb64dc38d253d5bb7ab07bf921a80113ec4eec98d1ad2734db87be6f46e2c9ffbd592d1eedd

/-- The signer key's signature over bytes 0x000 to 0xF9F. -/
def headerSig : List Byte := beBytes 96
  0xee8468a0c0f663f85785a7ee882f48f0eaf4915f1dbcef42dc52b87f2d377c69b29ced4fab8557e27d1ba1610ad944e4e889582589c2ef5046feba871677315253c67c810367b0e683639169a343e8cdab1f6054d8fc212c8fb3de35490e8ed5

/-- SHA-384 of the body, sixteen zero bytes. -/
def bodyDigest : List Byte := beBytes 48
  0xae40659da1193cdec8df474b5e36416a82473b83d32dbbe1dd6df8ec9499d24902ca08c334876bc8e69e818beecc046a

/-- The image header (Table 15-7): FW_VERSION 0x0100_0000, FW_SVN 0, both variants, no service keys. -/
def imageHeader : List Byte :=
  leBytes 4 0x5746464D ++ leBytes 2 1 ++ leBytes 2 3 ++ leBytes 4 0x01000000 ++ leBytes 4 0 ++ leBytes 8 16 ++ zeros 8
    ++ bodyDigest ++ rootKey ++ signerKey ++ signerSig ++ zeros 800 ++ zeros 2832 ++ headerSig

/-- The image in slot A. -/
def image : Image := ⟨0x01000000, 0, imageHeader, zeros 16⟩

end Sys2Proof.Machine.Factory
end

