-- ==== Sys2Proof/Machine/Reset.lean ====
section
/-! DEFINITION. The reset value of every unit: the Reset columns of the register tables, and what the manual says of a cold
reset. Where the manual gives none the value is zero, off or empty (log entry 4). -/

namespace Sys2Proof.Machine.Reset

def log : LogUnit :=
  { entries := [], head := 0, lost := 0, ovf := [], slots := [], fatalSlots := [], latest := [], reported := [], lastServed := 0,
    buffer := [], saved := false, save1 := none, save2 := none, restored := false, restoreDue := false, winSeq := 0, resCopy := false }

def dump : DumpUnit := { held := none, fatal := none, fatalPending := false, seq := 0, resOffset := none, resBytes := [], pagesRead := [] }

/-- Table 11-2. -/
def channel : Channel :=
  { sqBase := 0, cqBase := 0, entries := 0, enable := false, sqTail := 0, sqHead := 0, cqTail := 0, cqHead := 0, halt := 0,
    ver := none, flights := [], outgoing := [], copies := [], rewrite := 0, owed := 0, rejectCnt := 0, fetchTries := 0, gen := 0 }

/-- Table 11-12. -/
def eventRing : EventRing :=
  { base := 0, entries := 0, enable := false, mask := 0, produced := 0, consumed := 0, lost := 0, noticeDue := false,
    updates := [], stale := [], vecDue := false, lastVec := none }

def auth : AuthState := { role := 0, slot := 0, challenge := none, fails := 0, lockedUntil := 0, lastRequest := 0 }

def mailbox : Mailbox :=
  { c0 := channel, c1 := channel, c2 := channel, ring := eventRing, auth := auth, claims := [], lastAccept := 0, lastTaken := 0, lastChan := .ch2 }

def mode : ModeUnit :=
  { mode := .dormant, previous := .dormant, since := 0, change := none, seq := none, burst := none, profile := 0, profileSubst := false,
    powerupEvent := 0, powerup := none, forced := none, voidRun := 0 }

/-- R140, R304: the ledger is empty and GEN of every slot is 0. -/
def ledger : Ledger :=
  { slots := List.replicate 16 none, gens := List.replicate 16 0, nextSeq := 0, nextLocal := 0, govSensor := 0, govConv := 0,
    govCond := 0, govRec := 0, govSeq := 0, govTarget := 0, slipCnt := 0, cancelCnt := 0, refuseCnt := 0 }

/-- R151: profiles 1 to 3 leave the factory as copies of profile 0. -/
def profiles : List ProfileSlot := List.replicate 4 ⟨⟨Factory.profile, 0⟩, ⟨Factory.profile, 0⟩⟩

/-- Table 12-10. -/
def regs : RegUnit :=
  { voteRepairCnt := 0, voteField := 0, voteCopy := 0, voteTime := 0, rejCnt := 0, rejMaster := 0, rejReason := 0,
    rejOffset := 0, rejData := 0, rejTime := 0, hangCnt := 0, hangOffset := 0, hangClock := 0, waiting := none, queue := [],
    heldMirror := none }

def sensor : SensorUnit :=
  { sites := [], words := ⟨Factory.word, []⟩, temps := List.replicate 8 320, faulty := List.replicate 8 false }

/-- The unit correction: offset 0, gain 0x8000, in both spans. -/
def slice : SliceCorr := ⟨0, 0x8000, 0, 0x8000, 0, false⟩

def conv : ConvUnit :=
  { corr := ⟨slice, []⟩, retireDue := [], retireGen := 0, turn := none, single := [], double := [], dead := [], short := [],
    ovr := List.replicate 16 0, lastCal := 0 }

/-- The frame timing engine, with the given settings in force. -/
def frame (s : Settings) : FrameUnit :=
  { index := 0, lastFrame := 0, lastB := none, origin := 0, steps := 0, originNum := s.sensor.rateNum,
    originDen := s.sensor.rateDen, sens0 := s.sensor, sens1 := s.sensor, sens2 := s.sensor, rotK0 := s.rotK, rotK1 := s.rotK,
    temps1 := List.replicate 8 320, subst1 := List.replicate 8 false, cond := s.cond, recs := s.recs, readout := none, shown := none,
    gov := none, flying := none, pending := none, overrun := 0, trigTime := 0, trigLate := [], gateOpen := false, clearReady := 0,
    window := none, windows := 0, applied := [], linkRunT := 0, linkRunB := 0, linkLost := false, halted := false, strobe := [], trigPulse := none, disagree := [], leaderNext := none }

def device : MemDevice := ⟨0, 0, false, 0, 0⟩

def res : ResUnit :=
  { present := false, devices := List.replicate 4 device, capacity := 0, bSus := 0, bad := [], frozen := [], aperture := 0, entries := [],
    wr := ⟨0, 0⟩, send := ⟨0, 0⟩, dur := ⟨0, 0⟩, level := 0, retrain := false, queued := 0, scratch := [], prerollMs := 0,
    prerollApplied := 0 }

/-- R173, R177: the ring of 128 GiB is 33,554,432 pages, and each bank holds 512 spare blocks. -/
def hold : HoldUnit :=
  { entries := [], nextPage := 0, nextIndex := 0, passes := 0, pages := 33554432, spares := List.replicate 8 512,
    failed := List.replicate 8 false, locked := false, degraded := false, retire := none, busy := false, job := none,
    lastDurable := 0, delivered := [] }

def session : Session :=
  { state := .closed, rid := 0, maxVersion := 0, version := 0, caps := 0, sessionId := 0, primary := false, wantsSeal := false,
    ackTimeoutMs := 0, info := [], infoWritten := false, windows := [], ringBase := 0, ringEntries := 0, wTotal := 0,
    magazineId := 0, pageLimit := 0, descLimit := 0, ackProducer := 0, openAckSession := 0, openAckVersion := 0, ackRing := [],
    acked := 0, descSeq := 0, nextPage := 0, commits := [], progress := 0, owing := false, stepTime := 0, req := none,
    drainTo := none, drainTake := (0, 0) }

def take : TakeUnit :=
  { state := .none, takeId := 0, keyId := 0, key := none, isSealed := false, format := 3, first := 0, nextIndex := 0,
    last := none, active := none, sendNext := 0, sentUpTo := 0, relay := none, relayOk := false, begun := false, ended := false,
    rewriting := false, holdBack := none, paged := none, sessions := 0, allow := [], a := session, b := session }

/-- Table 10-5. -/
def viewRing : ViewRing :=
  { descBase := 0, descEntries := 0, posted := 0, posAddr := 0, produced := 0, state := .stopped, reason := 0, delivered := 0,
    skipped := 0, abandoned := 0, timeouts := 0, timeoutRun := 0, lastFrame := 0, change := none, taken := 0 }

def view : ViewUnit := { rings := List.replicate 11 viewRing, luts := [], loads := [] }

def tandem : TandemUnit :=
  { roleSet := 0, up := false, join := .none, version := 0, rtt := 0, joinFrame := 0, partnerRole := 0, partnerMode := 0,
    partnerFrame := 0, partnerArrival := 0, crcFail := 0, crcFrame := none, slips := 0, heard := 0, sent := 0, unacked := [],
    info := none, compMode := 0, compLeft := 0, compChange := none, receiving := [], lastGood := none, pairing := none, before := none, kept := none,
    dropped := 0, joinIn := 0, onTsync := false, holdover := false, guessed := false, seqs := [], queue := [] }

/-- R306: a cold reset sets module time to 0. -/
def time : TimeUnit := { now := 0, module := 0, carrier := .carrier, carried := false, setCnt := 0, ref := 0, refActive := 0, offsetPpb := 0 }

def genlock : GenlockUnit :=
  { state := .absent, struct := 0, lastStart := 0, periods := [], per := 0, phase := 0, frameCnt := 0, missCnt := 0,
    reacqCnt := 0, holdoverCnt := 0, clamped := false, clampRun := 0, origin := 0, span := 0, steps := 0, mult := 0, div := 0, targets := [],
    series := 0, acquire := false, lastPeriod := 0, everLocked := false, selected := false }

def timecode : TimecodeUnit :=
  { present := false, reversed := false, lastWord := 0, lastTime := 0, bitPeriod := 0, fresh := false, goodCnt := 0, errCnt := 0, goodRun := 0,
    badRun := 0, source := 0, tcSource := 0, word := 0, count := 0, num := 24, den := 1, origin := 0, frame := 0,
    ltcOut := false, waiting := none }

/-- Table 13-7. -/
def timer : Timer :=
  { ctrl := 0, count := 0, compare := 0x80000000, running := false, stuck := false, capValid := false,
    locked := false, capCnt := 0, capRise := 0, capFall := 0, snapFall := 0, stuckMs := 0, matchCnt := 0, ovfCnt := 0,
    glitchCnt := 0, cond := false, prescale := 0, pairFirst := none, lastEdge := 0 }

def sync : SyncUnit :=
  { genlock := genlock, tc := timecode, timers := List.replicate 16 timer, halted := false, encA := false, encB := false }

/-- Table 14-4; the three arguments are the reset values that differ between the instances. -/
def bus (ctrl addr mode : U32) : Bus :=
  { ctrl := ctrl, timing := 0x0A0CB0C8, timeout := 0x00001E1E, timingNext := none, timeoutNext := none, tgtAddr := addr,
    tgtMode := mode, ctlBusy := false, tgtBusy := false, faulted := false, engineIdle := false, lensOk := false, arbLost := 0,
    busErr := 0, timeouts := 0, nacks := 0, aborts := 0, pecErr := 0, clears := 0, sleepNacks := 0, lensCtrl := 0,
    lensLen := 0x400, lensOkCnt := 0, lensFailCnt := 0, notifyMask := 0, notifyCtrl := 0, notifyCnt := 0, notifyFail := 0,
    inProduced := 0, inConsumed := 0, inLost := 0, outLen := 0, outData := zeros 32, inbox := [], xfer := none,
    disableDue := false }

def abus0 : Bus := bus 0 0 0
def abus1 : Bus := bus 1 0 0
def hbus : Bus := bus 3 0x5A 0x11

def buses : BusUnit :=
  { abus0 := abus0, abus1 := abus1, hbus := hbus, lens := zeros 1024, noticeFaults := 0, noticeMode := 0, noticeTries := 0,
    lastNotice := none, hbusHeard := 0, dormantPower := false, xferEnd := 0, lensStop := none, lensFailing := false }

def auxInput : AuxInput :=
  { z := 0, g := 65536, zeroSum := none, fullSum := none, capture := none, reading := none, passReading := none,
    copy1 := ⟨0, 65536, 0⟩, copy2 := ⟨0, 65536, 0⟩ }

/-- Table 14-7. -/
def aux : AuxUnit :=
  { ctrl := 0x8000, xchkLimit := 8, list := [], nextList := none, xchkFault := false, codeA := 0, codeB := 0, pass := 0, passStart := 0,
    xchkFaultCnt := 0, produced := 0, consumed := 0, lost := 0, lossLogged := false, threshFired := false, results := [],
    queue := [], in0 := auxInput, in1 := auxInput }

def cal : CalUnit :=
  { copyA := some Factory.calSet, copyB := some Factory.oldSet, useB := false, pointer := (0, 0), run := none, candidate := none, lastId := 2, count := 0, lastCalTime := 0,
    wordsLoaded := false, loadCnt := 0, loadRetryCnt := 0 }

/-- Table 15-6. The shadows are sensed in the course of the boot (R373). -/
def fuse : FuseUnit :=
  { words := Factory.fuses, weak := [], shadow := [], sensed := false, marginal := [], marginalStart := false, finalised := Factory.finalised,
    digestOk := List.replicate 8 false, failed := List.replicate 8 false, addr := 0, data := 0, declared := List.replicate 4 0,
    busy := false, pd78 := false, lastFailed := false, pulses := 0, readback := 0, opCnt := 0, failCnt := 0, waiting := none }

def trust : TrustUnit :=
  { slotA := some Factory.image, slotB := none, activeB := false, bootB := false, staging := none, selfTest := none, romOnly := false,
    kek := none, debugOpen := false, secured := false }

/-- Table 16-5: no domain is enabled and every crossing is isolated; PD-AO is powered. -/
def power : PowerUnit :=
  { en := List.replicate 80 false, good := List.replicate 80 false, iso := List.replicate 80 true, pfcEn := false,
    acPresent := false, dcPresent := false, acRange := false, dcRange := false, draw := .none, acSince := none, acVolts := 0,
    acHz := 0, dcVolts := 0, acPower := 0, dcPower := 0, holdVolts := 0, holdState := .charging, loadCap := none, load := 0, sampled := 0,
    overSince := none, underSince := none, rideCnt := 0, transferCnt := 0, lastRide := 0, pgFailCnt := 0, loadLimitCnt := 0,
    ride := none, retire := none, stageFault := false, pwrGood := false, permitL2 := false, idleToDormant := false, idleS := 0,
    aoOn := true, pdPwr := List.replicate 81 0 }

def pll (seed : Nat) : Pll :=
  { state := .off, refPresent := true, agrees := false, locks := 0, tries := 0, seed := seed, band := none, vcoKhz := 0,
    since := 0, retryAt := none, ref := 0 }

/-- Table 17-6. -/
def clk : ClockUnit :=
  { pllA := pll 0xACE1, pllB := pll 0xACE1, pllC := pll 0xACE1, onHkosc := false, xrefPresent := true,
    ditherA := 0xACE1, ditherB := 0xACE1, ditherC := 0xACE1, outCfg := 0x21111, outLow := List.replicate 5 0, lockLoss := 0, holdoverCnt := 0,
    relockCnt := 0, relockFail := 0, isoDrop := 0, bands := [], genref := false, ltcck := false, refclk := true }

/-- Configuration space after a reset: the values of the PCI Express standard (PRESUMED, log entry 72). -/
def config : ConfigRegs := { command := 0, bar0 := 0, bar2 := 0, pmeEnable := false, devCtl := 0x2810, linkCtl := 0, devCtl2 := 0 }
def aer : Aer := { status := 0, mask := 0, severity := 0x462030, first := 0, header := zeros 16, ecrcGen := false, ecrcCheck := false }

/-- Every vector is masked at reset, as the PCI Express standard gives: PRESUMED, log entry 7. -/
def function (vectors : Nat) : Function :=
  { bme := false, d3hot := false, config := config, msixEnable := false, msixMask := false, table := List.replicate vectors ⟨0, 0, true⟩, pba := [] }

def link : LinkUnit :=
  { state := .down, rate := 0, width := 0, active := 0, flit := false, mps := 128, perst := false, pf0 := function 64,
    pf1 := function 32, asked := 0, l1Permit := true, ltr := 0, aer0 := aer, aer1 := aer,
    ide := ⟨none, none, false, false⟩, doe := ⟨none, 0⟩, reads := [] }

/-- R473: cold and warm resets restore +20.00 °C. -/
def thermal : ThermalUnit :=
  { applied := 320, working := 32000, stack := -32768, genaz := -32768, hold := -32768, power := -32768, outOfBand := false,
    genazHot := false, holdHot := false, powerHot := false, checked := 0 }

def pins : PinsUnit :=
  { psel0 := false, psel1 := false, tandemRole := 1, serviceEn := false, fault := false, modReset := false, inReset := false,
    resetAt := none, trigIn := false }

end Sys2Proof.Machine.Reset
end

