-- ==== Sys2Proof/Machine/State.lean ====
section
/-! DEFINITION. The state of the module: every unit of the manual, the queue of waiting commands, and what the module has sent;
the reasons for which a step can stop; and the state right after a cold reset. -/

namespace Sys2Proof.Machine

/-- The state of the module. Each field is one unit, defined beside its chapter. -/
structure State where
  /-- Module time and the ticks since cold reset (R306). -/
  time : TimeUnit
  /-- A running count for free values: the model's own, not the manual's (log entry 2). -/
  free : Nat
  /-- Commands that wait, first in, first out: the model's own (log entry 1). -/
  pending : List Instr
  /-- What the module has sent, latest first: the model's own record (log entry 8). -/
  sent : List Out
  mbox : Mailbox
  log : LogUnit
  dump : DumpUnit
  mode : ModeUnit
  ledger : Ledger
  profiles : List ProfileSlot
  /-- The settings in force outside the ledger: what PROFILE_SELECT and posts in READY set (R154, R143). -/
  settings : Settings
  /-- The Welt preferences, pre-roll and tandem choices of the profile in force. -/
  prefs : Prefs
  profileTandem : Nat
  regs : RegUnit
  sensor : SensorUnit
  conv : ConvUnit
  frame : FrameUnit
  res : ResUnit
  hold : HoldUnit
  take : TakeUnit
  view : ViewUnit
  tandem : TandemUnit
  sync : SyncUnit
  bus : BusUnit
  aux : AuxUnit
  cal : CalUnit
  fuse : FuseUnit
  trust : TrustUnit
  power : PowerUnit
  clk : ClockUnit
  link : LinkUnit
  thermal : ThermalUnit
  pins : PinsUnit
  deriving DecidableEq, Repr

/-- The state right after the release of a cold reset, before the boot: every register at its reset value, module time 0, every
power domain but PD-AO off, the non-volatile stores at their factory contents, and no command waiting. -/
def State.reset : State :=
  { time := Reset.time, free := 0, pending := [], sent := [], mbox := Reset.mailbox, log := Reset.log, dump := Reset.dump,
    mode := Reset.mode, ledger := Reset.ledger, profiles := Reset.profiles, settings := Factory.settings,
    prefs := Factory.profile.prefs, profileTandem := 0, regs := Reset.regs, sensor := Reset.sensor, conv := Reset.conv,
    frame := Reset.frame Factory.settings, res := Reset.res, hold := Reset.hold, take := Reset.take, view := Reset.view,
    tandem := Reset.tandem, sync := Reset.sync, bus := Reset.buses, aux := Reset.aux, cal := Reset.cal, fuse := Reset.fuse,
    trust := Reset.trust, power := Reset.power, clk := Reset.clk, link := Reset.link, thermal := Reset.thermal,
    pins := Reset.pins }

/-- Why a step can end in a fault. -/
inductive Fault where
  /-- Raised by EXPOSURE_WINDOW_END, SELF_RESET and CAL_WORD_RESTORE for a photosite outside the array of R21. Safe: the array has
  no such site, so the hardware has no such event. -/
  | noSuchSite (x y : Nat)
  /-- Raised by POWER_GOOD_TIMEOUT for a domain above PD79. Safe: there is no such domain (R401). -/
  | noSuchDomain (d : Nat)
  /-- Raised by MEMORY_LINK_RETRAIN and DEVICE_LOST for a device above 3. Safe: the memory port has four links (R157). -/
  | noSuchDevice (d : Nat)
  deriving DecidableEq, Repr

/-- Why a step can be refused. -/
inductive Refusal where
  /-- Raised by an arm of exec that has no meaning yet, with the mnemonic. Safe: nothing is claimed of the command. -/
  | notModelled (mnemonic : String)
  deriving DecidableEq, Repr

end Sys2Proof.Machine
end

