-- ==== Sys2Proof/Machine/Ops.lean ====
section
/-! DEFINITION. The operations that every family shares: domains, interrupts (R197), the event log with its intake, writer and
CH3 copy (R281, R446 to R453), the mailbox responses (R265, R273 to R275), and the record of a rejected write (R293). -/

namespace Sys2Proof.Machine

/-! ## Small readings of the state -/

/-- Whether a power domain is on (enabled, good and not isolated). -/
def State.pdOn (s : State) (d : Nat) : Bool := s.power.en.getD d false && s.power.good.getD d false && !s.power.iso.getD d true

/-- A domain on: enabled, good, not isolated; or off and isolated (R402). -/
def PowerUnit.setDomain (p : PowerUnit) (d : Nat) (on : Bool) : PowerUnit :=
  { p with en := p.en.set d on, good := p.good.set d on, iso := p.iso.set d (!on) }

/-- Some domains on or off. -/
def State.setDomains (s : State) (ds : List Nat) (on : Bool) : State :=
  { s with power := ds.foldl (fun p d => p.setDomain d on) s.power }

/-- The domains that only VIEW, TAKE and BURST power: PD32 to PD54 (Table 16-2). -/
def viewDomains : List Nat := (List.range 23).map (· + 32)

/-- Whether the host link carries transactions. -/
def LinkUnit.live (l : LinkUnit) : Bool := decide (l.state = .l0) || decide (l.state = .l0p)

/-- Whether a function may send memory writes (R203, R205). -/
def LinkUnit.mayWrite (l : LinkUnit) (pf1 : Bool) : Bool :=
  l.live && (if pf1 then l.pf1.bme && !l.pf1.d3hot else l.pf0.bme && !l.pf0.d3hot)

/-- Bay 0 is A and bay 1 is B. -/
def TakeUnit.bay (t : TakeUnit) (b : Nat) : Session := if b = 0 then t.a else t.b

/-- Replaces the session of a bay. -/
def TakeUnit.setBay (t : TakeUnit) (b : Nat) (x : Session) : TakeUnit := if b = 0 then { t with a := x } else { t with b := x }

/-! ## Interrupts (R197) -/

/-- Whether a function sends vector n now: MSI-X enabled, neither the function nor the vector masked, and Bus Master Enable set
with the link up (R205). -/
def LinkUnit.vectorOpen (l : LinkUnit) (pf1 : Bool) (n : Nat) : Bool :=
  let f := if pf1 then l.pf1 else l.pf0
  f.msixEnable && !f.msixMask && !(f.table.getD n ⟨0, 0, true⟩).masked && l.mayWrite pf1

/-- Sets the pending bit of a vector. -/
def Function.pend (f : Function) (n : Nat) : Function := if n ∈ f.pba then f else { f with pba := n :: f.pba }

/-- Sets the pending bit of a vector of PF0 or PF1. -/
def LinkUnit.pend (l : LinkUnit) (pf1 : Bool) (n : Nat) : LinkUnit :=
  if pf1 then { l with pf1 := l.pf1.pend n } else { l with pf0 := l.pf0.pend n }

/-- Adds something to what the module has sent. -/
def State.send (s : State) (o : Out) : State := { s with sent := o :: s.sent }

/-- Fires a vector: the module sends it, or sets its pending bit (R197). -/
def fire (pf1 : Bool) (n : Nat) (s : State) : State :=
  if s.link.vectorOpen pf1 n then s.send (.vector pf1 n) else { s with link := s.link.pend pf1 n }

/-- Fires a vector of PF0 (Table 8-7). -/
def fire0 (n : Nat) (s : State) : State := fire false n s

/-- Fires a vector of PF1 (Table 8-8). -/
def fire1 (n : Nat) (s : State) : State := fire true n s

/-! ## Severities (Table 19-11) -/

/-- The INFO codes. -/
def infoCodes : List Nat :=
  [0x0103, 0x0104, 0x0106, 0x010E, 0x0201, 0x0205, 0x0321, 0x0325, 0x0402, 0x0410, 0x0424, 0x0502, 0x0601, 0x0602, 0x060D,
   0x0710, 0x0713, 0x0714, 0x0716, 0x0810, 0x0A01, 0x0A03, 0x0A05, 0x0A08, 0x0B05, 0x0B07, 0x0C02, 0x0C10, 0x0D04, 0x0D06,
   0x0D14, 0x0D15, 0x0D21, 0x0D23, 0x0D31, 0x0E01, 0x0E04]

/-- The WARNING codes. -/
def warningCodes : List Nat :=
  [0x0101, 0x0102, 0x0107, 0x010B, 0x010D, 0x0110, 0x0202, 0x0206, 0x0207, 0x0208, 0x0311, 0x0312, 0x0320, 0x0322, 0x0323,
   0x0326, 0x0330, 0x0334, 0x0335, 0x0340, 0x0405, 0x0409, 0x040B, 0x040C, 0x0421, 0x0425, 0x0427, 0x0428, 0x0501, 0x0507,
   0x0508, 0x050A, 0x0607, 0x060B, 0x060C, 0x0711, 0x0715, 0x0717, 0x0720, 0x0721, 0x0722, 0x0723, 0x0850, 0x0852, 0x0856,
   0x0901, 0x0A02, 0x0A06, 0x0A10, 0x0B01, 0x0B04, 0x0B08, 0x0B0D, 0x0B0E, 0x0C01, 0x0C12, 0x0D01, 0x0D10, 0x0D11, 0x0D20,
   0x0D30, 0x0E03, 0x0E07, 0x0E08, 0x0E09]

/-- The ERROR codes. -/
def errorCodes : List Nat :=
  [0x0109, 0x010A, 0x010C, 0x0203, 0x0204, 0x0310, 0x0324, 0x0331, 0x0332, 0x0333, 0x0336, 0x0341, 0x0342, 0x0344, 0x0401,
   0x0403, 0x0404, 0x0406, 0x0407, 0x0408, 0x040A, 0x0422, 0x0423, 0x0426, 0x0503, 0x0504, 0x0505, 0x0506, 0x0509, 0x0603,
   0x0604, 0x0605, 0x0606, 0x0608, 0x0609, 0x060A, 0x060E, 0x0701, 0x0703, 0x0705, 0x0712, 0x0724, 0x0801, 0x0802, 0x0803,
   0x0804, 0x0805, 0x0806, 0x0807, 0x0808, 0x0809, 0x0811, 0x0812, 0x0851, 0x0854, 0x0855, 0x0857, 0x0903, 0x0904, 0x0905,
   0x0906, 0x0920, 0x0B02, 0x0B03, 0x0B06, 0x0B09, 0x0B0A, 0x0B0C, 0x0B0F, 0x0C03, 0x0C04, 0x0C11, 0x0C13, 0x0D02, 0x0D03,
   0x0D05, 0x0D07, 0x0D08, 0x0D12, 0x0D16, 0x0D22, 0x0D24, 0x0E02]

/-- The FATAL codes, in the order of Table 19-2. -/
def fatalCodes : List Nat := [0x0902, 0x0E10, 0x0343, 0x0108, 0x0E11]

/-- The severity of a code; none for a reserved code, which the module never logs (R468). -/
def severity (code : Nat) : Option Nat :=
  if code ∈ infoCodes then some 0 else if code ∈ warningCodes then some 1 else if code ∈ errorCodes then some 2
  else if code ∈ fatalCodes then some 3 else none

/-! ## The event log (R449 to R453) -/

/-- Whether an entry is fatal and not overwritable. -/
def LogEntry.fatalHeld (e : LogEntry) : Bool := decide (e.sev = 3) && !e.spent

/-- FATAL_HELD (Table 19-4). -/
def LogUnit.fatalHeld (l : LogUnit) : Nat := (l.entries.filter LogEntry.fatalHeld).length

/-- The domain of a source. -/
def sourceDomain (source : Nat) : Nat := source / 256

/-- A report is dropped: the overflow counter of its source domain and LOST_CNT go up (R450 case 4, R452). -/
def LogUnit.dropReport (l : LogUnit) (source : Nat) : LogUnit :=
  { l with lost := bump32 l.lost 1,
           ovf := put l.ovf (sourceDomain source) (bump16 ((look l.ovf (sourceDomain source)).getD 0) 1) }

/-- Merges one occurrence into the entry with a sequence number. -/
def mergeInto (seq : Nat) (es : List LogEntry) : List LogEntry :=
  es.map fun e => if e.seq = seq then { e with report := { e.report with rep := e.report.rep + 1 } } else e

/-- The latest written entry of a source, if it is still held. -/
def LogUnit.latestOf (l : LogUnit) (source : Nat) : Option LogEntry :=
  match look l.latest source with
  | none => none
  | some q => l.entries.find? fun e => decide (e.seq = q) && decide (e.report.source = source)

/-- Whether case 2 of R450 holds: the latest entry of the source carries the same code, has room in REPEAT, and the source
reported that code no more than 100 ms before. -/
def LogUnit.mergeable (l : LogUnit) (r : Report) (now : Nat) : Option Nat :=
  match l.latestOf r.source, look l.reported (r.source, r.code) with
  | some e, some t =>
    if e.report.code = r.code ∧ e.report.rep < 0xFFFF ∧ now ≤ t + 100 * Config.ms then some e.seq else none
  | _, _ => none

/-- The intake of one report (R450). The second part is the sequence number of an entry whose REPEAT went up. -/
def LogUnit.intake (l : LogUnit) (r : Report) (now : Nat) : LogUnit × Option Nat :=
  let l1 := { l with reported := put l.reported (r.source, r.code) now }
  if severity r.code = some 3 then
    match look l.fatalSlots r.source with
    | none => ({ l1 with fatalSlots := l1.fatalSlots ++ [(r.source, r)] }, none)
    | some _ => (l1.dropReport r.source, none)
  else
    match look l.slots r.source with
    | some p =>
      if p.code = r.code then
        ({ l1 with slots := l1.slots.map fun q => if q.1 = r.source then (q.1, { q.2 with rep := min 0xFFFF (q.2.rep + 1) }) else q },
         none)
      else
        match l.mergeable r now with
        | some q => ({ l1 with entries := mergeInto q l1.entries }, some q)
        | none => (l1.dropReport r.source, none)
    | none =>
      match l.mergeable r now with
      | some q => ({ l1 with entries := mergeInto q l1.entries }, some q)
      | none => ({ l1 with slots := l1.slots ++ [(r.source, r)] }, none)

/-- Leaves out the oldest entry that may be overwritten: severity below 3, or made overwritable by DUMP_CLEAR. -/
def dropOldest : List LogEntry → List LogEntry
  | [] => []
  | e :: es => if e.fatalHeld then e :: dropOldest es else es

/-- Writes one report into the log (R451); none where a fatal report finds 64 held. -/
def LogUnit.write (l : LogUnit) (r : Report) (held : Bool) : LogUnit × Option LogEntry :=
  let sev := (severity r.code).getD 0
  if sev = 3 ∧ Config.fatalEntries ≤ l.fatalHeld then ({ l with lost := bump32 l.lost 1 }, none)
  else
    let e : LogEntry := ⟨r, l.head, sev, held, false, false⟩
    let es := if Config.logEntries ≤ l.entries.length then dropOldest l.entries else l.entries
    ({ l with entries := es ++ [e], head := (l.head + 1) % 2 ^ 32, latest := put l.latest r.source e.seq }, some e)

/-- The bytes of an entry (Table 19-3). -/
def LogEntry.bytes (e : LogEntry) : List Byte :=
  leBytes 2 e.report.code ++ leBytes 1 e.sev
    ++ leBytes 1 (bit e.held 0 + bit e.restored 1 + bit (decide (e.report.rep = 0xFFFF)) 2)
    ++ leBytes 4 e.seq ++ leBytes 8 e.report.time ++ leBytes 8 e.report.frame ++ leBytes 2 e.report.source
    ++ leBytes 2 e.report.rep ++ leBytes 4 e.report.data

/-! ## The CH3 ring (R281) -/

/-- Entries written and not consumed. -/
def EventRing.held (r : EventRing) : Nat := (r.produced - r.consumed).toNat

/-- Whether the ring has room for an entry. -/
def EventRing.room (r : EventRing) : Bool := decide (r.held < r.entries.toNat)

/-- The bytes of a ring entry (R281). -/
def ringEntryBytes (produced kind time frame : Nat) (event : List Byte) : List Byte :=
  let a := leBytes 4 produced ++ leBytes 2 kind ++ leBytes 2 0 ++ leBytes 8 time ++ leBytes 8 frame
  a ++ leBytes 4 (crc32c (a ++ padTo 32 event)) ++ leBytes 4 0 ++ padTo 32 event

/-- Writes an entry of a kind into the ring, and PRODUCED after it; vector 2 follows, or waits for its 100 µs. -/
def ringWrite (kind frame : Nat) (event : List Byte) (s : State) : State :=
  let r := s.mbox.ring
  let addr := r.base.toNat + 64 * (r.produced.toNat % r.entries.toNat)
  let s1 := s.send (.eventEntry addr (ringEntryBytes r.produced.toNat kind s.time.module frame event))
  let s2 := s1.send (.produced ((r.produced + 1).toNat))
  let clear := match r.lastVec with
    | none => true
    | some t => decide (t + 100 * Config.us ≤ s.time.now)
  let r' := { r with produced := r.produced + 1, vecDue := !clear, lastVec := if clear then some s.time.now else r.lastVec }
  let s3 := { s2 with mbox := { s2.mbox with ring := r' } }
  if clear then fire0 2 s3 else s3

/-- Writes a loss notice where one is due and there is room (R281). -/
def ringNotice (s : State) : State :=
  if s.mbox.ring.noticeDue && s.mbox.ring.room then
    ringWrite 3 s.mbox.ring.lost []
      { s with mbox := { s.mbox with ring := { s.mbox.ring with noticeDue := false } } }
  else s

/-- Whether MASK enables the range of a code. -/
def EventRing.takes (r : EventRing) (code : Nat) : Bool :=
  r.enable && decide (1 ≤ code / 256) && decide (code / 256 ≤ 14) && r.mask.getLsbD (code / 256)

/-- Copies a log entry into the ring, or counts it lost (R281). -/
def ringCopy (e : LogEntry) (s : State) : State :=
  if s.mbox.ring.takes e.report.code then
    let s1 := ringNotice s
    if s1.mbox.ring.room then ringWrite 1 s1.frame.lastFrame e.bytes s1
    else
      { s1 with mbox := { s1.mbox with ring :=
          { s1.mbox.ring with lost := bump32 s1.mbox.ring.lost 1, noticeDue := true } } }
  else s

/-- One service of the writer on a given report. -/
def logWrite (r : Report) (held : Bool) (s : State) : State :=
  match s.log.write r held with
  | (l, none) => { s with log := l }
  | (l, some e) => ringCopy e { s with log := l }

/-- The source that a round robin serves next among those with a pending report: the first after the one served last. -/
def nextSource (last : Nat) (slots : List (Nat × Report)) : Option (Nat × Report) :=
  match slots.find? fun q => decide (last < q.1) with
  | some q => some q
  | none => slots.head?

/-- One service of the writer (R451): fatal slots first, and round robin among the sources. -/
def serveLog (s : State) : State :=
  match nextSource s.log.lastServed s.log.fatalSlots with
  | some q =>
    logWrite q.2 false { s with log := { s.log with fatalSlots := del s.log.fatalSlots q.1, lastServed := q.1 } }
  | none =>
    match nextSource s.log.lastServed s.log.slots with
    | some q => logWrite q.2 false { s with log := { s.log with slots := del s.log.slots q.1, lastServed := q.1 } }
    | none => s

/-- Serves one source at once, where it has a pending report. -/
def serveSource (source : Nat) (s : State) : State :=
  match look s.log.fatalSlots source with
  | some r => logWrite r false { s with log := { s.log with fatalSlots := del s.log.fatalSlots source, lastServed := source } }
  | none =>
    match look s.log.slots source with
    | some r => logWrite r false { s with log := { s.log with slots := del s.log.slots source, lastServed := source } }
    | none => s

/-- While PD71 is off, PD-AO buffers up to 256 reports, with the merging of R450, and counts further ones in LOST_CNT (R453). A fatal report never merges. -/
def LogUnit.holdReport (l : LogUnit) (r : Report) (now : Nat) : LogUnit :=
  let l1 := { l with reported := put l.reported (r.source, r.code) now }
  match (l.buffer.reverse.find? fun q => decide (q.source = r.source)), look l.reported (r.source, r.code) with
  | some q, some t =>
    if q.code = r.code ∧ severity r.code ≠ some 3 ∧ q.rep < 0xFFFF ∧ now ≤ t + 100 * Config.ms then
      { l1 with buffer := l1.buffer.map fun p =>
          if p.source = q.source ∧ p.code = q.code ∧ p.time = q.time then { p with rep := p.rep + 1 } else p }
    else if l.buffer.length < Config.heldReports then { l1 with buffer := l1.buffer ++ [r] }
    else { l1 with lost := bump32 l1.lost 1 }
  | _, _ =>
    if l.buffer.length < Config.heldReports then { l1 with buffer := l1.buffer ++ [r] }
    else { l1 with lost := bump32 l1.lost 1 }

/-- Whether the log takes reports: PD71 is on, and what was saved of the log has been restored (R453). -/
def State.logOn (s : State) : Bool := s.pdOn 71 && !s.log.restoreDue

/-- A report reaches the log: the intake of R450, or the buffer in PD-AO while PD71 is off. A repeat is noted for the CH3 ring. -/
def takeReport (r : Report) (s : State) : State :=
  if (severity r.code).isNone then s
  else if s.logOn then
    match s.log.intake r s.time.now with
    | (l, none) => { s with log := l }
    | (l, some q) =>
      { s with log := l, mbox := { s.mbox with ring := { s.mbox.ring with stale :=
          if q ∈ s.mbox.ring.stale then s.mbox.ring.stale else q :: s.mbox.ring.stale } } }
  else { s with log := s.log.holdReport r s.time.now }

/-- An event of a frame: the report, and the writer's service of its source, which takes 8 ns (R451) and is done before the
next command (log entry 10). -/
def logFrame (code source frame data : Nat) (s : State) : State :=
  let s1 := takeReport ⟨code, source, s.time.module, frame, data, 0⟩ s
  if s.logOn then serveSource source s1 else s1

/-- An event that concerns no single frame: FRAME holds the last frame assigned (R449). -/
def logEvent (code source data : Nat) (s : State) : State := logFrame code source s.frame.lastFrame data s

/-! ## Sources: [15:8] the domain that reports, [7:0] the unit within it (Table 19-3; log entry 11) -/

def srcAo : Nat := 0x5000
def srcConductor : Nat := 0x4500
def srcKeeper : Nat := 0x4600
def srcDump : Nat := 0x4700
def srcHost : Nat := 0x3700
def srcPhy : Nat := 0x3800
def srcMem : Nat := 0x3900
def srcTandem : Nat := 0x3B00
def srcHold : Nat := 0x4400
def srcEngine : Nat := 0x4C00
def srcSync : Nat := 0x4C01
def srcAux : Nat := 0x4800
def srcCooler : Nat := 0x4F00
def srcComp : Nat := 0x2F00

/-- Tile t, its logic layer. -/
def srcTile (t : Nat) : Nat := 0x0800 + 256 * t

/-- Segment g of the sixteen. -/
def srcSegment (g : Nat) : Nat := 0x1000 + 256 * g

/-- A slice: its segment's domain, and its number there, 0 to 173, so that no report of one slice merges into another's (R73). -/
def srcSlice (id : Nat) : Nat := 0x1000 + 256 * (id / 174) + id % 174

/-- Conditioning lane L. -/
def srcLane (l : Nat) : Nat := 0x2000 + 256 * l
def srcFormatter : Nat := 0x2800

/-- ABUS0, ABUS1 in PD77; HBUS in PD-AO. -/
def srcBus (b : BusId) : Nat := match b with
  | .abus0 => 0x4D00
  | .abus1 => 0x4D01
  | .hbus => 0x5001

/-! ## The mailbox: channels, responses and claims -/

/-- The channel of a number. -/
def Mailbox.get (m : Mailbox) (c : Chan) : Channel := match c with
  | .ch0 => m.c0
  | .ch1 => m.c1
  | .ch2 => m.c2

/-- Replaces a channel. -/
def Mailbox.set (m : Mailbox) (c : Chan) (x : Channel) : Mailbox := match c with
  | .ch0 => { m with c0 := x }
  | .ch1 => { m with c1 := x }
  | .ch2 => { m with c2 := x }

/-- The number of a channel. -/
def chanNum (c : Chan) : Nat := match c with
  | .ch0 => 0
  | .ch1 => 1
  | .ch2 => 2

/-- Whether a channel belongs to PF1 (Table 11-1). -/
def chanPf1 (c : Chan) : Bool := decide (c = .ch1)

/-- The vector of a channel (Tables 8-7 and 8-8). -/
def chanVector (c : Chan) : Nat := match c with
  | .ch0 => 0
  | .ch1 => 0
  | .ch2 => 1

/-- The code of each command (Tables 11-8 to 11-11). -/
def Opcode.table : List (Opcode × Nat) :=
  [(.hello, 0x0001), (.bye, 0x0002), (.getIdentity, 0x0010), (.getStatus, 0x0011), (.modeRequest, 0x0100),
   (.modeQuery, 0x0101), (.profileSelect, 0x0110), (.profileStore, 0x0111), (.profileRead, 0x0112), (.ledgerPost, 0x0200),
   (.ledgerQuery, 0x0201), (.ledgerCancel, 0x0202), (.windowSet, 0x0300), (.exposureProgramSet, 0x0301),
   (.triggerSet, 0x0302), (.binningSet, 0x0303), (.rotationSet, 0x0304), (.syncSourceSet, 0x0800), (.reservoirInfo, 0x0400),
   (.prerollSet, 0x0401), (.holdoverStatus, 0x0410), (.holdoverScan, 0x0411), (.holdoverRead, 0x0412),
   (.holdoverRelease, 0x0413), (.weltOpen, 0x0500), (.weltClose, 0x0501), (.weltRelay, 0x0502), (.weltAllowlistSet, 0x0503),
   (.takeStart, 0x0504), (.takeStop, 0x0505), (.tapConfig, 0x0600), (.streamConfig, 0x0601), (.streamStart, 0x0602),
   (.streamStop, 0x0603), (.lutLoad, 0x0604), (.tandemRoleSet, 0x0700), (.tandemStatus, 0x0701), (.compositorSet, 0x0702),
   (.timecodeSet, 0x0801), (.timebaseDiscipline, 0x0802), (.abusXfer, 0x0900), (.abusTargetSet, 0x0901),
   (.auxSequenceSet, 0x0A00), (.auxSyscal, 0x0A01), (.calStatus, 0x0B00), (.calRun, 0x0B01), (.calInstall, 0x0B02),
   (.calRollback, 0x0B03), (.fuseRead, 0x0C00), (.fuseProgram, 0x0C01), (.fuseFinalize, 0x0C02), (.logRead, 0x0D00),
   (.logClearCounters, 0x0D01), (.dumpInfo, 0x0D10), (.dumpRead, 0x0D11), (.dumpClear, 0x0D12), (.fwStage, 0x0E00),
   (.fwActivate, 0x0E01), (.authChallenge, 0x0E02), (.authResponse, 0x0E03), (.resetWarm, 0x0F00), (.thermalSet, 0x0F01),
   (.powerPolicySet, 0x0F02)]

/-- The code of a command. -/
def Opcode.code (o : Opcode) : Nat := (look Opcode.table o).getD 0

/-- The command of a code. -/
def Opcode.ofCode (n : Nat) : Option Opcode := (Opcode.table.find? fun p => decide (p.2 = n)).map (·.1)

/-- The status code (Table 11-4). -/
def Status.code (s : Status) : Nat := match s with
  | .ok => 0
  | .accepted => 1
  | .badVersion => 2
  | .badOpcode => 3
  | .badLength => 4
  | .badCheck => 5
  | .badParam => 6
  | .wrongMode => 7
  | .busy => 8
  | .denied => 9
  | .locked => 10
  | .notPresent => 11
  | .tooLate => 12
  | .noResource => 13
  | .failed => 14
  | .timeout => 15

/-- The version that a channel's responses carry. -/
def Channel.version (c : Channel) : Nat × Nat := c.ver.getD (0, 0)

/-- A response waits for a CQ place (R265). -/
def Channel.queue (c : Channel) (r : Response) : Channel := { c with outgoing := c.outgoing ++ [r] }

/-- A response to a request. It is discarded where the channel has been discarded since (R263). -/
def respond (id : ReqId) (final : Bool) (st : Status) (target : Nat) (payload : List Byte) (s : State) : State :=
  let c := s.mbox.get id.chan
  if c.gen = id.gen ∧ (c.flights.any fun f => decide (f.tag = id.tag ∧ f.op = some id.op)) = true then
    { s with mbox := s.mbox.set id.chan (c.queue ⟨c.version, id.tag, id.op.code, final, st, target, payload, false⟩) }
  else s

/-- Gives back what a request claims (R275). -/
def Mailbox.release (m : Mailbox) (id : ReqId) : Mailbox := { m with claims := m.claims.filter fun p => decide (p.2 ≠ id) }

/-- The final response of a request, which gives back its claims. -/
def finish (id : ReqId) (st : Status) (target : Nat) (payload : List Byte) (s : State) : State :=
  respond id true st target payload { s with mbox := s.mbox.release id }

/-- The same, where a request is due. -/
def finishOpt (id : Option ReqId) (st : Status) (target : Nat) (payload : List Byte) (s : State) : State :=
  match id with
  | none => s
  | some i => finish i st target payload s

/-- ACCEPTED, with the acceptance time and the planned frame (R273), and the request's claims. -/
def accept (id : ReqId) (claims : List Resource) (planned : Nat) (s : State) : State :=
  respond id false .accepted 0 (leBytes 8 s.mbox.lastAccept ++ leBytes 8 planned)
    { s with mbox := { s.mbox with claims := s.mbox.claims ++ claims.map fun r => (r, id) } }

/-- Whether any of some resources is claimed (R275). -/
def Mailbox.claimed (m : Mailbox) (rs : List Resource) : Bool := m.claims.any fun p => decide (p.1 ∈ rs)

/-! ## Rejected writes (R293) -/

/-- The number of a master (REJ_INFO). -/
def masterNum (m : Master) : Nat := match m with
  | .pf0 => 0
  | .pf1 => 1
  | .conductor => 2
  | .keeper => 3
  | .housekeeping => 4
  | .scanPort => 5
  | .dumpEngine => 6

/-- The mirror takes a rejected write: reason 0 locked, 1 privileged, 2 domain off. -/
def RegUnit.reject (r : RegUnit) (m : Master) (reason offset data time : Nat) : RegUnit :=
  { r with rejCnt := bump32 r.rejCnt 1, rejMaster := masterNum m, rejReason := reason, rejOffset := offset % 2 ^ 18,
           rejData := data % 2 ^ 32, rejTime := time }

/-- A write is rejected: the field keeps its value, the event of Table 12-4 is logged, and the mirror takes the write. -/
def rejectWrite (m : Master) (reason offset data : Nat) (s : State) : State :=
  logEvent (if reason = 1 then 0x0903 else if reason = 0 then 0x0904 else 0x0905) srcHost offset
    { s with regs := s.regs.reject m reason offset data s.time.module }

/-! ## Accesses from the host link -/

/-- Whether a function takes memory requests: it is not in D3hot, and the IDE stream is not insecure (R196, R201). -/
def LinkUnit.takes (l : LinkUnit) (pf1 : Bool) : Bool := !l.ide.insecure && !(if pf1 then l.pf1.d3hot else l.pf0.d3hot)

/-- The header of the TLP in error: which requester sent it, and what else it says, no command names. -/
def headerOf (now : Nat) : List Byte := (List.range 16).map fun i => Config.freeHeader now i

/-- An error that AER records: its bit in the Uncorrectable Error Status register of the PCI Express standard (PRESUMED, log entry 17); the first one that
is not masked leaves its number and its header (R186). -/
def Aer.record (a : Aer) (b now : Nat) : Aer :=
  let a1 := if a.status.testBit b then a else { a with status := a.status + 2 ^ b }
  if a.mask.testBit b || decide (a.status &&& (2 ^ 32 - 1 - a.mask) &&& (2 ^ 32 - 1) ≠ 0) then a1 else { a1 with first := b, header := headerOf now }

/-- AER of a function. -/
def LinkUnit.aer (l : LinkUnit) (pf1 : Bool) : Aer := if pf1 then l.aer1 else l.aer0

/-- Replaces AER of a function. -/
def LinkUnit.setAer (l : LinkUnit) (pf1 : Bool) (a : Aer) : LinkUnit := if pf1 then { l with aer1 := a } else { l with aer0 := a }

/-- A function reports an error: AER records it, and a message of the severity that host software programmed leaves where it is not masked and the
Device Control register lets such messages out (R205; PRESUMED, log entry 72). -/
def reportError (pf1 : Bool) (b : Nat) (s : State) : State :=
  let a := s.link.aer pf1
  let ctl := (if pf1 then s.link.pf1 else s.link.pf0).config.devCtl
  let fatal := a.severity.testBit b
  let s1 := { s with link := s.link.setAer pf1 (a.record b s.time.now) }
  if !a.mask.testBit b && (ctl.testBit (if fatal then 2 else 1) || (b == 20 && ctl.testBit 3)) then s1.send (.errorMessage pf1 fatal) else s1

/-- Whether the link hears TLPs other than configuration requests: it is up, and its IDE stream is not insecure (R201). -/
def LinkUnit.hears (l : LinkUnit) : Bool := l.live && !l.ide.insecure

/-- Whether a width narrower than the trained one holds Welt pages and pictures back (R190). -/
def LinkUnit.narrowed (l : LinkUnit) : Bool := decide (l.state = .l0p)

/-- What a write or read through a function's BAR0 does: nothing where the function takes no memory request. -/
def viaBar0 (pf1 : Bool) (act : State → State) (s : State) : State := if s.link.takes pf1 then act s else s

/-- The same for an access through the peripheral bridge, which queues behind an access that waits there (R297). -/
def bridged (isRead : Bool) (offset data : Nat) (act : State → State) (s : State) : State :=
  if !s.link.takes false then s
  else if s.regs.waiting.isSome then
    { s with regs := { s.regs with queue := s.regs.queue ++ [⟨isRead, offset, data, 0, s.time.now, false, .pf0⟩] } }
  else act s

/-! ## Time -/

/-- CK00 edges up to a tick since cold reset, which is at an edge: 390,625 ticks are 128 periods of 32,768 Hz. The first edge is at tick 0 (DESIGN CHOICE,
log entry 75). -/
def edgesTo (now : Nat) : Nat := ((now + 1) * 128 - 1) / 390625

/-- The tick of an edge of CK00. -/
def edgeTick (k : Nat) : Nat := k * 390625 / 128

/-- What the carrier adds from one tick to another: 3,051 at each CK00 edge, and one more in 97 of 128 (R306). -/
def carriedTicks (a b : Nat) : Nat := edgeTick (edgesTo b) - edgeTick (edgesTo a)

/-- The next edge of CK00. -/
def nextEdge (now : Nat) : Nat := edgeTick (edgesTo now + 1)

/-- Time advances by n ticks of 10 ns, and module time as its counter or the carrier counts them (R306). -/
def TimeUnit.advance (t : TimeUnit) (n : Nat) : TimeUnit :=
  let b := t.now + n
  match t.carrier with
  | .tbck => { t with now := b, module := t.module + n }
  | .carrier => { t with now := b, module := t.module + carriedTicks t.now b }
  | .pickUp p =>
    if b < p then { t with now := b, module := t.module + carriedTicks t.now b }
    else { t with now := b, module := t.module + carriedTicks t.now p + (b - max p t.now), carrier := .tbck, carried := true }

/-- Ticks to the next change of module time: one, or up to the next edge of CK00 while the carrier holds it. -/
def TimeUnit.toTock (t : TimeUnit) : Nat := match t.carrier with
  | .tbck => 1
  | .carrier => nextEdge t.now - t.now
  | .pickUp p => max 1 (p - t.now)

/-- Time goes on to the next change of module time. -/
def TimeUnit.tock (t : TimeUnit) : TimeUnit := t.advance t.toTock

/-- Ticks until module time is at least m, where it has not passed it. -/
def TimeUnit.until (t : TimeUnit) (m : Nat) : Nat :=
  let d := m - t.module
  match t.carrier with
  | .tbck => d
  | .carrier => if d = 0 then 0 else edgeTick (((edgeTick (edgesTo t.now) + d) * 128 + 390624) / 390625) - t.now
  | .pickUp p => if d = 0 then 0 else (p - t.now) + (d - carriedTicks t.now p)

/-- Time reaches a moment of module time, where it has not passed it. -/
def reach (t : Nat) (s : State) : State := { s with time := s.time.advance (s.time.until t) }

/-- Time reaches a tick since cold reset, where it has not passed it. -/
def reachNow (t : Nat) (s : State) : State := { s with time := s.time.advance (t - s.time.now) }

/-- The next free value of a kind. -/
def State.drew (s : State) : State := { s with free := s.free + 1 }

/-- Applies a step to each element in turn. -/
def each {α : Type} (l : List α) (f : α → State → State) (s : State) : State := l.foldl (fun t a => f a t) s

/-! ## Crossings of a domain that goes off -/

/-- The isolation of a domain's crossings: the words of its queues are discarded and counted, with event 0x0207 (R424). -/
def discardWords (p : Nat × Nat) (s : State) : State :=
  if p.2 = 0 then s else logEvent 0x0207 srcAo p.1 { s with clk := { s.clk with isoDrop := bump32 s.clk.isoDrop p.2 } }

/-- The isolations of the domains that were on in one state and are off in the next. -/
def isolate (drops : List (Nat × Nat)) (s t : State) : State :=
  each (drops.filter fun p => s.pdOn p.1 && !t.pdOn p.1) discardWords t

end Sys2Proof.Machine
end

