-- ==== Sys2Proof/Machine/Mailbox.lean ====
section
/-! DEFINITION. The request channels and the event ring (chapter 11): doorbells, fetching with the checks of Table 11-5,
responses, versions, and the frame of every command that a message carries. -/

namespace Sys2Proof.Machine

/-! ## Checks 4 to 8 of Table 11-5 -/

/-- Whether an opcode is in the negotiated version (R270, R271). -/
def inVersion (ver : Nat × Nat) (code : Nat) : Bool :=
  if ver.1 = 2 then
    !(decide (code ∈ [0x0202, 0x0304, 0x0700, 0x0701, 0x0702, 0x0802])) &&
      (decide (1 ≤ ver.2) || decide (code ≠ 0x0401)) && (decide (2 ≤ ver.2) || decide (code ∉ [0x0A00, 0x0A01]))
  else true

/-- Whether a channel accepts an opcode (Table 11-1). -/
def onChannel (c : Chan) (code : Nat) : Bool := match c with
  | .ch0 => !(decide (0x0600 ≤ code ∧ code ≤ 0x06FF) || decide (code = 0x0702) || decide (0x0B00 ≤ code ∧ code ≤ 0x0CFF)
      || decide (0x0E00 ≤ code ∧ code ≤ 0x0EFF))
  | .ch1 => decide (code ∈ [0x0001, 0x0002, 0x0010, 0x0011, 0x0702]) || decide (0x0600 ≤ code ∧ code ≤ 0x06FF)
  | .ch2 => decide (1 ≤ code ∧ code ≤ 0x0011) || decide (0x0B00 ≤ code ∧ code ≤ 0x0EFF) || decide (code = 0x0F00)

/-- Whether a command needs an authenticated CH2 (R279). -/
def needsAuth (o : Opcode) : Bool :=
  decide (o ∈ [Opcode.calRun, .calInstall, .calRollback, .fuseProgram, .fuseFinalize, .fwStage, .fwActivate])

/-- Whether a role covers a command (R279). Role 3 covers fuse commands on zones 5 and 6, which check 13 looks at. -/
def roleCovers (role : Nat) (o : Opcode) : Bool :=
  if role = 4 then true
  else if role = 1 then decide (o ∈ [Opcode.calRun, .calInstall, .calRollback])
  else if role = 2 then decide (o ∈ [Opcode.fwStage, .fwActivate])
  else if role = 3 then decide (o ∈ [Opcode.fuseProgram, .fuseFinalize])
  else false

/-- Checks 4 to 8 on an opcode, a tag and the version in the header: the failing check and its status. -/
def laterChecks (ch : Chan) (code : Nat) (tag : U16) (ver : Nat × Nat) (s : State) : Option (Nat × Status) :=
  let c := s.mbox.get ch
  match c.ver with
  | none => if code ≠ 0x0001 ∧ code ≠ 0x0010 then some (4, .badVersion) else rest c
  | some v => if code ≠ 0x0001 ∧ v ≠ ver then some (4, .badVersion) else rest c
where
  rest (c : Channel) : Option (Nat × Status) :=
    match Opcode.ofCode code with
    | none => some (5, .badOpcode)
    | some o =>
      if !(inVersion c.version code) then some (5, .badOpcode)
      else if !(onChannel ch code) then some (6, .denied)
      else if needsAuth o && !(roleCovers s.mbox.auth.role o) then some (7, .denied)
      else if (c.flights.any fun f => decide (f.tag = tag)) = true then some (8, .badParam)
      else none

/-! ## Fetching (R264, R268) -/

/-- INFLIGHT: requests fetched and not finally answered (Table 11-2). -/
def Channel.inflight (c : Channel) : Nat := c.flights.length

/-- Whether the module may fetch a request now: enabled and not halted, a doorbell rung, a CQ place for the first response
(R264), and the link able to carry it (R276). -/
def canFetch (ch : Chan) (s : State) : Bool :=
  let c := s.mbox.get ch
  c.enable && decide (c.halt = 0) && decide (c.sqHead ≠ c.sqTail)
    && decide ((c.cqTail - c.cqHead).toNat + c.inflight < c.entries.toNat) && s.link.mayWrite (chanPf1 ch)
    && !s.link.ide.insecure && decide (c.rewrite = 0) && decide (c.owed = 0)

/-- The channel with one request more fetched. -/
def Channel.fetched (c : Channel) (f : Flight) : Channel :=
  { c with sqHead := c.sqHead + 1, flights := c.flights ++ [f], fetchTries := 0 }

/-- Whether a flight holds up the responses of the refused requests after it: it waits, or its own response is held (R275). -/
def Flight.blocks (f : Flight) : Bool := f.waiting || f.held.isSome

/-- A refused request and its response, which leaves in fetch order: it is held while an earlier request of the channel waits (R275). -/
def Channel.refused (c : Channel) (tag : U16) (target : U64) (r : Response) : Channel :=
  if c.flights.any Flight.blocks then c.fetched ⟨tag, none, target, false, some r⟩
  else (c.fetched ⟨tag, none, target, false, none⟩).queue r

/-- One reject more (R268). -/
def Channel.rejects (c : Channel) : Channel := { c with rejectCnt := bump32 c.rejectCnt 1 }

/-- The idle time of the CH2 authentication starts again with every CH2 request (R280). -/
def Mailbox.heard (m : Mailbox) (ch : Chan) (now : Nat) : Mailbox :=
  if ch = .ch2 then { m with auth := { m.auth with lastRequest := now } } else m

/-- A request that checks 1 to 8 refuse: one response with FINAL, and for checks 1 to 7 the event and REJECT_CNT (R268). -/
def refuse (ch : Chan) (code : Nat) (tag : U16) (target : U64) (check : Nat) (st : Status) (s : State) : State :=
  let c := s.mbox.get ch
  let c1 := c.refused tag target ⟨c.version, tag, code, true, st, 0, [], true⟩
  let s1 := { s with mbox := (s.mbox.set ch (if check ≤ 7 then c1.rejects else c1)).heard ch s.time.now }
  if check ≤ 7 then logEvent (0x0800 + check) (srcHost + chanNum ch) code s1 else s1

/-- A request that passes checks 1 to 8: it is in flight and waits for the conductor core. -/
def admitRequest (ch : Chan) (o : Opcode) (tag : U16) (target : U64) (s : State) : State :=
  { s with mbox := s.mbox.set ch ((s.mbox.get ch).fetched ⟨tag, some o, target, true, none⟩) }

/-- Header bytes 0x00 to 0x17 of a message (Table 11-3). -/
def messageHead (m : Message) : List Byte :=
  [m.verMajor, m.verMinor] ++ leBytes 2 m.opcode.toNat ++ leBytes 2 m.flags.toNat ++ leBytes 2 m.tag.toNat
    ++ leBytes 4 m.length.toNat ++ leBytes 2 m.status.toNat ++ leBytes 2 m.pad0.toNat ++ leBytes 8 m.target.toNat

/-- Checks 1 to 8 on a message: the failing check and its status. -/
def messageChecks (ch : Chan) (m : Message) (s : State) : Option (Nat × Status) :=
  if 4096 < m.length.toNat then some (1, .badLength)
  else if crc32c (messageHead m ++ padTo m.length.toNat m.payload) ≠ m.crc.toNat then some (2, .badCheck)
  else if m.flags ≠ 0 ∨ m.status ≠ 0 ∨ m.pad0 ≠ 0 ∨ m.pad1 ≠ 0 then some (3, .badParam)
  else laterChecks ch m.opcode.toNat m.tag (m.verMajor.toNat, m.verMinor.toNat) s

/-- The bus address of SQ slot k (R263). -/
def Channel.sqSlot (c : Channel) (k : Nat) : Nat := c.sqBase.toNat + 8192 * (k % c.entries.toNat)

/-- The module reads the next request's slot: its header, and the payload that LENGTH gives, at most 4,096 bytes (R263, R264). -/
def readSlot (ch : Chan) (len : Nat) (s : State) : State :=
  let c := s.mbox.get ch
  s.send (.read (chanPf1 ch) (c.sqSlot c.sqHead.toNat) (32 + min len 4096))

/-- The module fetches a message and checks it (R264, R268). -/
def fetchMessage (ch : Chan) (m : Message) (s0 : State) : State :=
  if canFetch ch s0 then
    let s := readSlot ch m.length.toNat s0
    match messageChecks ch m s with
    | some (k, st) => refuse ch m.opcode.toNat m.tag m.target k st s
    | none =>
      match Opcode.ofCode m.opcode.toNat with
      | some o => admitRequest ch o m.tag m.target s
      | none => s
  else s0

/-- The same for a request whose header is sound: check 1 on its LENGTH, and checks 4 to 8. -/
def fetchSound (o : Opcode) (r : Req) (s0 : State) : State :=
  if canFetch r.chan s0 then
    let s := readSlot r.chan r.len s0
    if 4096 < r.len then refuse r.chan o.code r.tag r.target 1 .badLength s
    else
      match laterChecks r.chan o.code r.tag (s.mbox.get r.chan).version s with
      | some (k, st) => refuse r.chan o.code r.tag r.target k st s
      | none => admitRequest r.chan o r.tag r.target s
  else s0
/-! ## The frame of a command -/

/-- Whether a request waits for the conductor core. -/
def Channel.waits (c : Channel) (o : Opcode) (tag : U16) : Bool :=
  c.flights.any fun f => decide (f.tag = tag ∧ f.op = some o) && f.waiting

/-- The oldest request of a channel that waits. -/
def Channel.front (c : Channel) : Option Flight := c.flights.find? Flight.waiting

/-- The channels in the order in which the conductor core looks at them after the one that it served (R275). -/
def turnsAfter (c : Chan) : List Chan := match c with
  | .ch0 => [.ch1, .ch2, .ch0]
  | .ch1 => [.ch2, .ch0, .ch1]
  | .ch2 => [.ch0, .ch1, .ch2]

/-- The channel whose request the conductor core takes next: the first, in turn, on which one waits (R275). -/
def Mailbox.turn (m : Mailbox) : Option Chan := (turnsAfter m.lastChan).find? fun c => (m.get c).front.isSome

/-- Whether a request is the one that the conductor core takes next: its channel has the turn, and it is the oldest there (R275). -/
def Mailbox.takes (m : Mailbox) (o : Opcode) (r : Req) : Bool :=
  decide (m.turn = some r.chan) && (m.get r.chan).front.any fun f => decide (f.tag = r.tag ∧ f.op = some o)

/-- The held responses that no waiting request comes before are ready to leave (R275). -/
def Channel.released (c : Channel) : Channel :=
  let clear := c.flights.takeWhile fun f => !f.waiting
  { c with flights := (clear.map fun f => { f with held := none }) ++ c.flights.dropWhile fun f => !f.waiting,
           outgoing := c.outgoing ++ clear.filterMap Flight.held }

/-- The conductor core takes a request: the responses held before it leave, and it waits no longer. -/
def Channel.takeUp (c : Channel) (tag : U16) : Channel :=
  { c.released with flights := c.released.flights.map fun f => if f.tag = tag then { f with waiting := false } else f }

/-- The conductor core takes a request (R275): acceptance times are distinct, so module time changes first, and this one's is the time after
that. On CH2 the idle time of the authentication starts again (R280). -/
def takeUp (r : Req) (s : State) : State :=
  let t := s.time.tock
  let m := (s.mbox.set r.chan ((s.mbox.get r.chan).takeUp r.tag)).heard r.chan t.now
  { s with time := t, mbox := { m with lastAccept := t.module, lastTaken := t.now, lastChan := r.chan } }

/-- Check 7 on a request that the conductor core takes: the authentication may have ended while it waited (R279, R280). -/
def lacksAuth (o : Opcode) (s : State) : Bool := needsAuth o && !(roleCovers s.mbox.auth.role o)

/-- That check refuses it: its event and REJECT_CNT, and the one response. -/
def refuseAuth (id : ReqId) (s : State) : State :=
  respond id true .denied 0 [] (logEvent 0x0807 (srcHost + chanNum id.chan) id.op.code
    { s with mbox := s.mbox.set id.chan (s.mbox.get id.chan).rejects })

/-- The commands that a module with a zone failed closed accepts (R375). -/
def romOpcodes : List Opcode := [.hello, .bye, .getIdentity, .getStatus, .fuseRead, .logRead, .dumpInfo, .dumpRead]

/-- How a command is checked: LENGTH against its payload, its fields, its modes, and the resources it claims. -/
structure Checks where
  len : Bool
  param : Bool
  mode : Bool
  claims : List Resource

/-- Checks 9 to 12 of Table 11-5; none where they pass. -/
def Checks.failing (k : Checks) (m : Mailbox) : Option Status :=
  if !k.len then some .badLength
  else if !k.param then some .badParam
  else if !k.mode then some .wrongMode
  else if m.claimed k.claims then some .busy
  else none

/-- A command that a message carries. Where its request does not wait already, the module fetches it first. It goes on waiting until its channel
has the turn and it is the oldest there (R275); then the conductor core takes it. Checks 9 to 12 follow (`k` reads them from the state at acceptance), and then the command's own part `act`, which holds
check 13 and the effect. -/
def command (o : Opcode) (r : Req) (k : State → Checks) (act : ReqId → State → State) (s : State) : State :=
  let s1 := if (s.mbox.get r.chan).waits o r.tag then s else fetchSound o r s
  if s1.mbox.takes o r then
    let s2 := takeUp r s1
    let id : ReqId := ⟨r.chan, r.tag, o, (s2.mbox.get r.chan).gen⟩
    if s2.trust.romOnly && !(decide (o ∈ romOpcodes)) then respond id true .denied 0 [] s2
    else if lacksAuth o s2 then refuseAuth id s2
    else
      match (k s2).failing s2.mbox with
      | some st => respond id true st 0 [] s2
      | none => act id s2
  else s1

/-- The fields that must be zero are zero, and `p` holds of the others. -/
def sound (r : Req) (p : Bool) : Bool := decide (r.rsv = 0) && p

/-- The negotiated major version of a request's channel. -/
def State.major (s : State) (r : Req) : Nat := (s.mbox.get r.chan).version.1

/-- The negotiated minor version of a request's channel. -/
def State.minor (s : State) (r : Req) : Nat := (s.mbox.get r.chan).version.2

/-! ## Doorbells and responses -/

/-- The channel HALTED with a reason (Table 11-2). -/
def Channel.halted (c : Channel) (reason : Nat) : Channel := { c with halt := reason }

/-- A write of SQ_TAIL (R264): the count must not fall, and must not rise more than ENTRIES above SQ_HEAD. -/
def Channel.ringDoorbell (c : Channel) (v : U32) : Channel :=
  if c.halt ≠ 0 then c
  else if !c.enable then { c with sqTail := v }
  else if (c.sqTail - c.sqHead).toNat ≤ (v - c.sqHead).toNat ∧ (v - c.sqHead).toNat ≤ c.entries.toNat then { c with sqTail := v }
  else c.halted 3

/-- A write of CQ_HEAD (R264): it must lie from CQ_HEAD to CQ_TAIL; the copies passed are given up (R266). A halted channel goes on with its
responses, so that every fetched request is answered (R274). -/
def Channel.consume (c : Channel) (v : U32) : Channel :=
  if !c.enable then { c with cqHead := v }
  else if (v - c.cqHead).toNat ≤ (c.cqTail - c.cqHead).toNat then
    { c with cqHead := v, copies := c.copies.drop (v - c.cqHead).toNat, rewrite := min c.rewrite (c.cqTail - v).toNat }
  else if c.halt ≠ 0 then c else c.halted 4

/-- The bytes of a response (Table 11-3): FLAGS holds RESP and FINAL. -/
def Response.bytes (r : Response) : List Byte :=
  let h := leBytes 1 r.ver.1 ++ leBytes 1 r.ver.2 ++ leBytes 2 r.op ++ leBytes 2 (1 + bit r.final 1) ++ leBytes 2 r.tag.toNat
    ++ leBytes 4 r.payload.length ++ leBytes 2 r.status.code ++ leBytes 2 0 ++ leBytes 8 r.target
  h ++ leBytes 4 (crc32c (h ++ r.payload)) ++ leBytes 4 0 ++ r.payload

/-- The bus address of CQ slot k (R263). -/
def Channel.cqSlot (c : Channel) (k : Nat) : Nat := c.cqBase.toNat + 8192 * (k % c.entries.toNat)

/-- Removes the flight that a final response answers. -/
def Channel.answered (c : Channel) (r : Response) : Channel :=
  { c with flights := c.flights.eraseP fun f => decide (f.tag = r.tag) && decide (f.op.isNone = r.refused) }

/-- Whether the next response has a CQ place (R265). -/
def Channel.cqRoom (c : Channel) : Bool := decide ((c.cqTail - c.cqHead).toNat < c.entries.toNat)

/-- One response is written (R265, R266), or written again after a link reset (R276); then the vector fires. A halted channel still writes the
responses to the requests that it has fetched (R274). -/
def writeResponse (ch : Chan) (s : State) : State :=
  let c := (s.mbox.get ch).released
  if c.enable && s.link.mayWrite (chanPf1 ch) then
    if 0 < c.rewrite then
      let i := c.copies.length - c.rewrite
      match c.copies[i]? with
      | none => s
      | some r =>
        fire (chanPf1 ch) (chanVector ch)
          ({ s with mbox := s.mbox.set ch { c with rewrite := c.rewrite - 1 } }.send
            (.response ch (c.cqSlot (c.cqHead.toNat + i)) r.bytes))
    else
      match c.outgoing with
      | [] => s
      | r :: rest =>
        if c.cqRoom then
          let c1 := { c with outgoing := rest, cqTail := c.cqTail + 1, copies := c.copies ++ [r], owed := c.owed - 1 }
          let c2 := if r.final then c1.answered r else c1
          fire (chanPf1 ch) (chanVector ch)
            (({ s with mbox := s.mbox.set ch c2 }.send (.response ch (c.cqSlot c.cqTail.toNat) r.bytes)).send
              (.cqTail ch c2.cqTail.toNat))
        else s
  else s

/-- Whether a number is a power of two within a range. -/
def powerIn (n lo hi : Nat) : Bool := decide (lo ≤ n ∧ n ≤ hi) && (List.range 33).any fun k => decide (n = 2 ^ k)

/-- The channel without its requests, versions and counts (R263). -/
def Channel.discarded (c : Channel) : Channel :=
  { c with sqTail := 0, sqHead := 0, cqTail := 0, cqHead := 0, halt := 0, ver := none, flights := [], outgoing := [],
           copies := [], rewrite := 0, owed := 0, fetchTries := 0, gen := c.gen + 1 }

/-- Setting or clearing ENABLE (R263). -/
def Channel.setEnable (c : Channel) (on : Bool) : Channel :=
  if on = c.enable then c
  else if on then
    if powerIn c.entries.toNat 2 16 && decide (c.sqBase.toNat % 4096 = 0) && decide (c.cqBase.toNat % 4096 = 0) then
      { c with enable := true, halt := 0 }
    else { c with enable := true, halt := 1 }
  else { c.discarded with enable := false }

/-! ## The meanings -/

/-- SQ_TAIL (R264). -/
def execSqTail (ch : Chan) (v : U32) (s : State) : Host.Outcome State Fault Refusal :=
  .next (viaBar0 (chanPf1 ch) (fun t => { t with mbox := t.mbox.set ch ((t.mbox.get ch).ringDoorbell v) }) s)

/-- REQUEST_FETCH (R264, R268). -/
def execRequestFetch (ch : Chan) (m : Message) (s : State) : Host.Outcome State Fault Refusal := .next (fetchMessage ch m s)

/-- A read by the module times out: event 0x0505 and AER (Table 8-9). -/
def readTimeout (pf1 : Bool) (s : State) : State := logEvent 0x0505 srcHost (bit pf1 0) (reportError pf1 14 s)

/-- A fetch that times out is retried twice; the third timeout halts the channel. -/
def fetchTimeout (ch : Chan) (s0 : State) : State :=
  if canFetch ch s0 then
    let s := readTimeout (chanPf1 ch) (readSlot ch 4096 s0)
    let c := s.mbox.get ch
    if c.fetchTries < 2 then { s with mbox := s.mbox.set ch { c with fetchTries := c.fetchTries + 1 } }
    else logEvent 0x0808 (srcHost + chanNum ch) (chanNum ch)
      { s with mbox := s.mbox.set ch { c.halted 2 with fetchTries := 0 } }
  else s0

/-- FETCH_TIMEOUT (R264). -/
def execFetchTimeout (ch : Chan) (s : State) : Host.Outcome State Fault Refusal := .next (fetchTimeout ch s)

/-- CQ_HEAD (R264, R266). -/
def execCqHead (ch : Chan) (v : U32) (s : State) : Host.Outcome State Fault Refusal :=
  .next (viaBar0 (chanPf1 ch) (fun t => { t with mbox := t.mbox.set ch ((t.mbox.get ch).consume v) }) s)

/-- RESPONSE_WRITE (R265). -/
def execResponseWrite (ch : Chan) (s : State) : Host.Outcome State Fault Refusal := .next (writeResponse ch s)

/-- A write of CTRL of a request channel (R263). -/
def execMboxCtrlEnable (ch : Chan) (enable : Bool) (s : State) : Host.Outcome State Fault Refusal :=
  .next (viaBar0 (chanPf1 ch) (fun t => { t with mbox := t.mbox.set ch ((t.mbox.get ch).setEnable enable) }) s)

/-- A write of CTRL of the event ring (R281). -/
def execEventRingCtrlEnable (enable : Bool) (s : State) : Host.Outcome State Fault Refusal :=
  .next (viaBar0 false (fun t => { t with mbox := { t.mbox with ring := { t.mbox.ring with enable := enable } } }) s)

/-- A write of CONSUMED: outside CONSUMED to PRODUCED it is ignored and logged. -/
def ringConsume (v : U32) (s : State) : State :=
  let r := s.mbox.ring
  if (v - r.consumed).toNat ≤ (r.produced - r.consumed).toNat then { s with mbox := { s.mbox with ring := { r with consumed := v } } }
  else logEvent 0x0809 srcHost v.toNat s

/-- CONSUMED (R281). -/
def execConsumed (v : U32) (s : State) : Host.Outcome State Fault Refusal := .next (viaBar0 false (ringConsume v) s)

/-- LOSS_NOTICE (R281). -/
def execLossNotice (s : State) : Host.Outcome State Fault Refusal := .next (if s.mbox.ring.enable then ringNotice s else s)

/-- REPEAT_COUNT_UPDATE (R281): at most once per 10 ms per source. A loss notice that is due goes first. -/
def repeatUpdate (source : Nat) (s0 : State) : State :=
  let s := if s0.mbox.ring.enable then ringNotice s0 else s0
  match s.log.latestOf source with
  | none => s
  | some e =>
    if e.seq ∈ s.mbox.ring.stale ∧ s.mbox.ring.takes e.report.code = true ∧ s.mbox.ring.room = true then
      let s1 := match look s.mbox.ring.updates source with
        | some t => reachNow (t + 10 * Config.ms) s
        | none => s
      ringWrite 2 s1.frame.lastFrame e.bytes
        { s1 with mbox := { s1.mbox with ring := { s1.mbox.ring with
            stale := s1.mbox.ring.stale.filter (fun q => decide (q ≠ e.seq)),
            updates := put s1.mbox.ring.updates source s1.time.now } } }
    else s

/-- REPEAT_COUNT_UPDATE. -/
def execRepeatCountUpdate (source : U16) (s : State) : Host.Outcome State Fault Refusal := .next (repeatUpdate source.toNat s)

/-- The fuse word that the shadows hold; words not listed are zero. -/
def FuseUnit.word (f : FuseUnit) (zone w : Nat) : Nat := ((look f.shadow (zone, w)).getD 0).toNat

/-- A bit of CAPS, from fuse zone 2 (Table 12-5): a bit that reads 0 withdraws its feature (R301). -/
def State.cap (s : State) (bit : Nat) : Bool := (s.fuse.word 2 0).testBit bit

/-- SERIAL: zone 0 words 0 and 1. -/
def State.serial (s : State) : Nat := s.fuse.word 0 0 + 2 ^ 32 * s.fuse.word 0 1

/-- The version that HELLO answers an offer with (R269). -/
def negotiate (major minor : Nat) : Option (Nat × Nat) :=
  if 3 ≤ major then some (3, 0) else if major = 2 then some (2, min minor 2) else none

/-- A command without a payload. -/
def bare (r : Req) (mode : Bool) (claims : List Resource) : Checks := ⟨decide (r.len = 0), sound r true, mode, claims⟩

/-- A command of a fixed payload length, sound fields and a mode. -/
def fixed (r : Req) (n : Nat) (param mode : Bool) (claims : List Resource) : Checks :=
  ⟨decide (r.len = n), sound r param, mode, claims⟩

/-- The effect of HELLO (R269): BUSY while another request of the channel is in flight (R282). -/
def helloAct (r : Req) (major minor : Nat) (id : ReqId) (s : State) : State :=
  let c := s.mbox.get r.chan
  if 1 < c.inflight then respond id true .busy 0 [] s
  else
    match negotiate major minor with
    | none => respond id true .badVersion 0 [] s
    | some v =>
      respond id true .ok 0 (leBytes 1 v.1 ++ leBytes 1 v.2 ++ leBytes 1 (chanNum r.chan) ++ leBytes 1 0 ++ leBytes 8 s.serial)
        { s with mbox := s.mbox.set r.chan { c with ver := some v } }

/-- HELLO. -/
def execHello (r : Req) (major minor : Byte) (s : State) : Host.Outcome State Fault Refusal :=
  .next (command .hello r (fun _ => fixed r 4 true true []) (helloAct r major.toNat minor.toNat) s)

/-- The end of CH2 authentication (R280). -/
def AuthState.ended (a : AuthState) : AuthState := { a with role := 0 }

/-- The effect of BYE (R269, R280). -/
def byeAct (r : Req) (id : ReqId) (s : State) : State :=
  let s1 := respond id true .ok 0 [] s
  let m := s1.mbox.set r.chan { s1.mbox.get r.chan with ver := none }
  { s1 with mbox := { m with auth := if r.chan = .ch2 then m.auth.ended else m.auth } }

/-- BYE. -/
def execBye (r : Req) (s : State) : Host.Outcome State Fault Refusal :=
  .next (command .bye r (fun _ => bare r true []) (byeAct r) s)

/-! ## Service authentication (R279, R280) -/

/-- The running image: the one in the active slot. -/
def TrustUnit.running (t : TrustUnit) : Option Image := if t.romOnly then none else if t.activeB then t.slotB else t.slotA

/-- The service key of a slot and the roles it admits (R386): none where the key is all zero or revoked. -/
def serviceKey (slot : Nat) (s : State) : Option (List Byte × Nat) :=
  if slot < 8 then
    match s.trust.running with
    | none => none
    | some i =>
      let k := (i.header.drop (0x170 + 100 * slot)).take 100
      let key := k.drop 4
      if key.all (fun b => decide (b = 0)) = true then none else some (key, leNat (k.take 4))
  else if slot < 12 then
    let key := (List.range 24).flatMap fun i => leBytes 4 (s.fuse.word 6 (24 * (slot - 8) + i))
    let roles := s.fuse.word 6 (96 + (slot - 8)) &&& 0xE
    if key.all (fun b => decide (b = 0)) = true || (s.fuse.word 6 100).testBit (slot - 8) then none else some (key, roles)
  else none

/-- The effect of AUTH_CHALLENGE. -/
def authChallengeAct (role : Nat) (id : ReqId) (s : State) : State :=
  if s.time.now < s.mbox.auth.lockedUntil then respond id true .denied 0 [] s
  else
    let nonce := Config.freeNonce s.free
    let expires := s.time.now + 60000 * Config.ms
    respond id true .ok 0 (leBytes 32 nonce.toNat ++ leBytes 8 s.serial ++ leBytes 8 (s.time.module + 60000 * Config.ms))
      { s.drew with mbox := { s.mbox with auth := { s.mbox.auth with challenge := some ⟨nonce, role, expires⟩ } } }

/-- AUTH_CHALLENGE. -/
def execAuthChallenge (r : Req) (role : Byte) (s : State) : Host.Outcome State Fault Refusal :=
  .next (command .authChallenge r
    (fun _ => fixed r 4 (decide (1 ≤ role.toNat ∧ role.toNat ≤ 4)) true []) (authChallengeAct role.toNat) s)

/-- Whether a response is right: the challenge stands and has not expired, its role is the one named, the key admits the role, and
the signature verifies. -/
def authGood (role slot : Nat) (sig : List Byte) (s : State) : Bool :=
  match s.mbox.auth.challenge, serviceKey slot s with
  | some c, some (key, roles) =>
    decide (s.time.now ≤ c.expires) && decide (c.role = role) && roles.testBit role &&
      ecdsaVerify key (leBytes 32 c.nonce.toNat ++ leBytes 8 s.serial ++ leBytes 1 role ++ leBytes 2 slot) sig
  | _, _ => false

/-- The effect of AUTH_RESPONSE: the challenge is used up either way; the third failure in a row locks the challenges for 60 s. -/
def authResponseAct (role slot : Nat) (sig : List Byte) (id : ReqId) (s : State) : State :=
  let a := s.mbox.auth
  if authGood role slot sig s then
    respond id true .ok 0 (leBytes 1 role ++ zeros 3 ++ leBytes 4 600)
      (logEvent 0x0810 srcKeeper role { s with mbox := { s.mbox with auth := { a with role := role, slot := slot, challenge := none, fails := 0 } } })
  else
    let s1 := logEvent 0x0811 srcKeeper slot
      { s with mbox := { s.mbox with auth := { a with challenge := none, fails := a.fails + 1 } } }
    let s2 := if 2 ≤ a.fails then
        logEvent 0x0812 srcKeeper slot { s1 with mbox := { s1.mbox with auth :=
          { s1.mbox.auth with fails := 0, lockedUntil := s1.time.now + 60000 * Config.ms } } }
      else s1
    respond id true .denied 0 [] s2

/-- AUTH_RESPONSE. -/
def execAuthResponse (r : Req) (role : Byte) (keySlot : U16) (signature : List Byte) (s : State) :
    Host.Outcome State Fault Refusal :=
  .next (command .authResponse r
    (fun _ => ⟨decide (r.len = 104 ∧ signature.length = 96), sound r (decide (1 ≤ role.toNat ∧ role.toNat ≤ 4)), true, []⟩)
    (authResponseAct role.toNat keySlot.toNat signature) s)

/-- AUTH_IDLE_TIMEOUT: 600 s without a CH2 request (R280). -/
def execAuthIdleTimeout (s : State) : Host.Outcome State Fault Refusal :=
  .next (if s.mbox.auth.role = 0 then s
    else
      let s1 := reachNow (s.mbox.auth.lastRequest + 600000 * Config.ms) s
      { s1 with mbox := { s1.mbox with auth := s1.mbox.auth.ended } })

end Sys2Proof.Machine
end

