-- ==== Sys2Proof/Machine/Clock.lean ====
section
/-! DEFINITION. PLLs: bands, lock requests and holdover (R411 to R419). The commands of the clock unit follow in ClockEvents. -/

namespace Sys2Proof.Machine

/-- A PLL of the clock unit. -/
def ClockUnit.get (c : ClockUnit) (p : PllId) : Pll := match p with
  | .a => c.pllA
  | .b => c.pllB
  | .c => c.pllC

/-- Replaces a PLL. -/
def ClockUnit.set (c : ClockUnit) (p : PllId) (x : Pll) : ClockUnit := match p with
  | .a => { c with pllA := x }
  | .b => { c with pllB := x }
  | .c => { c with pllC := x }

/-- The number of a PLL, as the band table codes it. -/
def pllNum (p : PllId) : Nat := match p with
  | .a => 0
  | .b => 1
  | .c => 2

/-- The power domain of a PLL (Table 17-2). -/
def pllDomain (p : PllId) : Nat := 73 + pllNum p

/-- T_LOCK in ticks (Table 17-2). -/
def lockTime (p : PllId) : Nat := match p with
  | .a => 20000
  | .b => 200000
  | .c => 20000

/-- The seed that the next lock takes; 0 acts as 1 (R415). -/
def ClockUnit.seedOf (c : ClockUnit) (p : PllId) : Nat :=
  let d := match p with
    | .a => c.ditherA
    | .b => c.ditherB
    | .c => c.ditherC
  if d = 0 then 1 else d

/-- The reference frame rates of Table 13-1 for a structure, as numerator and denominator. -/
def referenceRates (struct : Nat) : List (Nat × Nat) :=
  if struct = 1 then [(30000, 1001)]
  else if struct = 2 then [(25, 1)]
  else if struct = 3 ∨ struct = 5 then
    [(24000, 1001), (24, 1), (25, 1), (30000, 1001), (30, 1), (48000, 1001), (48, 1), (50, 1), (60000, 1001), (60, 1)]
  else if struct = 4 then [(25, 1), (30000, 1001), (30, 1)]
  else []

/-- The nominal period of a rate, in 1/256 tick. -/
def ratePeriod (r : Nat × Nat) : Nat := 256 * Config.ticksPerSecond * r.2 / r.1

/-- The nominal period of the rate of a structure that lies nearest a measured period. -/
def nominalPeriod (struct per : Nat) : Nat :=
  (referenceRates struct).foldl (fun best r => if dist (ratePeriod r) per < dist best per then ratePeriod r else best) 0

/-- The reference that PLL-B should follow now: GENREF only while the genlock meter is LOCKED; without it PLL-B stays with what it
follows (R308). -/
def State.refWanted (s : State) : Nat :=
  if s.time.ref = 0 then 0 else if s.pdOn 76 && decide (s.sync.genlock.state = .locked) then 1 else s.time.refActive

/-- The VCO frequency that a lock aims at, in kHz (Table 17-2). GENREF is 27 MHz scaled to GENLOCK_IN, so its ratio to 27 MHz is that
of the nominal period to the measured one (DEDUCED, log entry 12). -/
def vcoTarget (p : PllId) (s : State) : Nat := match p with
  | .a => 6000000
  | .b =>
    let g := s.sync.genlock
    if s.refWanted = 1 ∧ 0 < g.per then 3200000 * nominalPeriod g.struct g.per / g.per else 3200000
  | .c => 2500000

/-- The PLL of a band entry: bits [9:8] of its code. -/
def BandEntry.pll (e : BandEntry) : Nat := e.code / 256 % 4

/-- The lowest-numbered enabled entry of a PLL whose range holds a frequency (R413). -/
def ClockUnit.bandFor (c : ClockUnit) (p : PllId) (f : Nat) : Option Nat :=
  c.bands.findIdx? fun e => e.enabled && decide (e.pll = pllNum p) && decide (e.fMin ≤ f ∧ f ≤ e.fMax)

/-- A lock is requested (R413, R416): without an enabled band it fails at once with event 0x0203. -/
def requestLock (p : PllId) (s : State) : State :=
  let f := vcoTarget p s
  let x := s.clk.get p
  match s.clk.bandFor p f with
  | none => logEvent 0x0203 srcAo (pllNum p) { s with clk := s.clk.set p { x with state := .failed, retryAt := none } }
  | some e =>
    { s with clk := s.clk.set p { x with state := .locking, agrees := false, band := some e, seed := s.clk.seedOf p,
                                         vcoKhz := f, since := s.time.now, retryAt := none,
                                         ref := if p = .b then s.refWanted else 0 } }

/-- A change of PLL-B's reference takes effect in READY and SERVICE at once, with a relock (R308, R419). -/
def applyRef (s : State) : State :=
  if (s.mode.mode = .ready ∨ s.mode.mode = .service) ∧ s.pdOn 74 = true ∧ s.refWanted ≠ s.clk.pllB.ref then requestLock .b s else s

/-- Parts per billion of module time against XREF, while PLL-B follows GENREF (R308). -/
def offsetOf (ref : Nat) (s : State) : Int :=
  let g := s.sync.genlock
  if ref = 0 ∨ g.per = 0 then 0
  else ((nominalPeriod g.struct g.per : Int) - (g.per : Int)) * 1000000000 / (g.per : Int)

/-- A lock completes (R416): LOCKED, event 0x0201, and RELOCK_CNT after the first lock of a power-up. -/
def completeLock (p : PllId) (s : State) : State :=
  let x := s.clk.get p
  let c := s.clk.set p { x with state := .locked, agrees := true, locks := x.locks + 1, tries := 0, refPresent := true }
  let c1 := if 0 < x.locks then { c with relockCnt := bump32 c.relockCnt 1 } else c
  let t := if p = .b then { s.time with refActive := x.ref, offsetPpb := offsetOf x.ref s } else s.time
  logEvent 0x0201 srcAo (pllNum p) { s with clk := c1, time := t }

/-- OFFSET_PPB: with GENREF it follows the reference while PLL-B tracks it, and holds its last value in holdover (R308). -/
def State.offsetNow (s : State) : Int :=
  if s.time.refActive = 0 then 0 else if s.clk.pllB.state = .locked then offsetOf 1 s else s.time.offsetPpb

/-- A locked PLL enters holdover (R418). -/
def enterHoldover (p : PllId) (s : State) : State :=
  let x := s.clk.get p
  if x.state = .locked then
    let c := s.clk.set p { x with state := .holdover, agrees := false, refPresent := false }
    let t := if p = .b then { s.time with offsetPpb := s.offsetNow } else s.time
    logEvent 0x0202 srcAo (pllNum p)
      { s with clk := { c with holdoverCnt := bump32 c.holdoverCnt 1, lockLoss := bump32 c.lockLoss 1 }, time := t }
  else { s with clk := s.clk.set p { x with refPresent := false } }

/-- Power goes from a PLL's domain: it is OFF, and its next lock is the first of a power-up. -/
def pllOff (p : PllId) (s : State) : State :=
  let x := s.clk.get p
  { s with clk := s.clk.set p { x with state := .off, agrees := false, locks := 0, tries := 0, vcoKhz := 0, retryAt := none, ref := 0 },
           time := if p = .b then { s.time with refActive := 0, offsetPpb := 0 } else s.time }

/-- DSTATE (Table 13-3): 0 XREF, 1 genlock locked, 2 genlock holdover, 3 change pending. -/
def dstate (s : State) : Nat :=
  if s.time.ref ≠ s.time.refActive then 3
  else if s.time.refActive = 0 then 0
  else if s.clk.pllB.state = .locked then 1 else 2

/-- The band table of fuse zone 1, with the entries that R413 disables: an F_MAX above the nominal frequency plus 2 %. -/
def bandTable (f : FuseUnit) : List BandEntry :=
  (List.range 16).map fun e =>
    let code := f.word 1 (3 * e + 2)
    let pll := code / 256 % 4
    let top := if pll = 0 then 6120000 else if pll = 1 then 3264000 else 2550000
    ⟨f.word 1 (3 * e), f.word 1 (3 * e + 1), code, decide (pll ≠ 3) && decide (f.word 1 (3 * e + 1) ≤ top)⟩

/-- The keeper core copies the band table and logs event 0x0208 for each entry it disables (R413). -/
def loadBands (s : State) : State :=
  let bs := bandTable s.fuse
  each ((List.range 16).filter fun e =>
      match bs[e]? with
      | some b => !b.enabled && decide (b.pll ≠ 3)
      | none => false)
    (fun e t => logEvent 0x0208 srcKeeper e t) { s with clk := { s.clk with bands := bs } }

end Sys2Proof.Machine
end

