-- ==== Sys2Proof/Machine/Timers.lean ====
section
/-! DEFINITION. The sixteen timer channels (R319 to R328). -/

namespace Sys2Proof.Machine

/-! ## CTRL (Table 13-8) -/

/-- A field of a register: `w` bits from bit `lo`. -/
def field (v : U32) (lo w : Nat) : Nat := v.toNat / 2 ^ lo % 2 ^ w

def Timer.prescaler (t : Timer) : Nat := field t.ctrl 0 4
def Timer.kind (t : Timer) : Nat := field t.ctrl 4 2
def Timer.haltBeh (t : Timer) : Nat := field t.ctrl 6 2

/-- INPUT; a reserved code selects no line (R6). -/
def Timer.inputSel (t : Timer) : Nat := if field t.ctrl 8 4 ≤ 8 then field t.ctrl 8 4 else 0
def Timer.capEn (t : Timer) : Bool := t.ctrl.getLsbD 12
def Timer.fallFirst (t : Timer) : Bool := t.ctrl.getLsbD 13
def Timer.fallEdge (t : Timer) : Bool := t.ctrl.getLsbD 14
def Timer.matchSelf (t : Timer) : Nat := field t.ctrl 16 2
def Timer.matchLink (t : Timer) : Nat := field t.ctrl 18 2
def Timer.ovfSelf (t : Timer) : Nat := field t.ctrl 20 2
def Timer.ovfLink (t : Timer) : Nat := field t.ctrl 22 2
def Timer.linked (t : Timer) : Nat := field t.ctrl 24 4

/-- The channel of a number. -/
def SyncUnit.timer (y : SyncUnit) (n : Nat) : Timer := y.timers.getD n Reset.timer

/-- Replaces a channel. -/
def SyncUnit.setTimer (y : SyncUnit) (n : Nat) (t : Timer) : SyncUnit := { y with timers := y.timers.set n t }

/-- Replaces a channel of the state. -/
def State.setTimer (s : State) (n : Nat) (t : Timer) : State := { s with sync := s.sync.setTimer n t }

/-- Whether a channel watches for an input that is silent (R323). -/
def Timer.watches (t : Timer) : Bool :=
  decide (t.stuckMs ≠ 0) && t.running && (t.capEn || decide (t.kind = 1) || decide (t.kind = 2))

/-! ## One tick (R319 to R322) -/

/-- The compare condition (R320); COMPARE 0 acts as 1. -/
def Timer.condAt (t : Timer) (c : U32) : Bool :=
  let cmp : U32 := if t.compare = 0 then 1 else t.compare
  decide ((c - cmp).toNat < 2 ^ 31)

/-- RESET: COUNT goes to 0, the previous evaluation counts as false, and the prescaler restarts. -/
def Timer.resetCount (t : Timer) (now : Nat) : Timer := { t with count := 0, cond := false, prescale := now }

/-- START: the channel and its prescaler start. Once it runs with RUN_ALWAYS it is locked (R325). -/
def Timer.begin (t : Timer) (now : Nat) : Timer :=
  { t with running := true, cond := if t.running then t.cond else false, prescale := if t.running then t.prescale else now,
           lastEdge := if t.running then t.lastEdge else now, stuck := t.running && t.stuck, locked := t.locked || decide (t.haltBeh = 1) }

/-- STOP, which a locked channel ignores. -/
def Timer.halt (t : Timer) : Timer := if t.locked then t else { t with running := false }

/-- What a tick brings: the channel after it, and whether it matched and overflowed. -/
structure Ticked where
  t : Timer
  matched : Bool
  overflowed : Bool

/-- A tick of a channel whose COUNT would become `c`, with an overflow where the step wrapped: the match, the counted overflow,
and the self-actions (R320, R321). A reset by the match prevails over an overflow in the same tick. -/
def Timer.step (t : Timer) (c : U32) (wrapped : Bool) (now : Nat) : Ticked :=
  let cond := t.condAt c
  let matched := cond && !t.cond
  let mReset := matched && (decide (t.matchSelf = 1) || decide (t.matchSelf = 3))
  let mStop := matched && (decide (t.matchSelf = 2) || decide (t.matchSelf = 3))
  let ovf := wrapped && !mReset
  let oReset := ovf && (decide (t.ovfSelf = 1) || decide (t.ovfSelf = 3))
  let oStop := ovf && (decide (t.ovfSelf = 2) || decide (t.ovfSelf = 3))
  let t1 := { t with count := c, cond := cond, matchCnt := if matched then bump32 t.matchCnt 1 else t.matchCnt,
                     ovfCnt := if ovf then bump32 t.ovfCnt 1 else t.ovfCnt }
  let t2 := if mReset || oReset then t1.resetCount now else t1
  ⟨if mStop || oStop then t2.halt else t2, matched, ovf⟩

/-- Link actions of one cycle on a channel: 1 reset, 2 start, 3 stop; a stop prevails over a start, and a reset applies with
either. -/
def Timer.linkActions (t : Timer) (acts : List Nat) (now : Nat) : Timer :=
  let t1 := if 3 ∈ acts then t.halt else if 2 ∈ acts then t.begin now else t
  if 1 ∈ acts then t1.resetCount now else t1

/-- A tick of channel n with its vector and, in the cycle after it, its link actions (R321). -/
def tickTimer (n : Nat) (c : U32) (wrapped : Bool) (s : State) : State :=
  let t := s.sync.timer n
  let r := t.step c wrapped s.time.now
  let acts := (if r.matched then [t.matchLink] else []) ++ (if r.overflowed then [t.ovfLink] else [])
  let s1 := s.setTimer n r.t
  let s2 := s1.setTimer t.linked ((s1.sync.timer t.linked).linkActions acts s.time.now)
  if (r.matched && t.ctrl.getLsbD 28) || (r.overflowed && t.ctrl.getLsbD 29) then fire0 (6 + n) s2 else s2

/-- Whether COUNT holds: HALT_BEH FREEZE in debug halt, and in DORMANT, where PD76 is off (R325). A reserved code counts nowhere (R6). -/
def timerFrozen (t : Timer) (s : State) : Bool := decide (t.haltBeh = 3) || (decide (t.haltBeh = 0) && (s.sync.halted || !s.pdOn 76))

/-- When a channel in MODE 0 next counts, how many ticks it then adds, and from when its prescaler goes on (R319, R325). With PD76 on it is one
tick, 2^PRESCALE periods of TBCK after the latest. In DORMANT SLOW_IN_DORMANT adds one at each CK00 edge, and RUN_ALWAYS at a CK00 edge all
the ticks that the channel would have counted by it. -/
def Timer.nextTicks (t : Timer) (powered : Bool) (now : Nat) : Nat × Nat × Nat :=
  let p := 2 ^ t.prescaler
  if powered then (t.prescale + p, 1, max now (t.prescale + p))
  else if t.haltBeh = 2 then (nextEdge t.prescale, 1, max now (nextEdge t.prescale))
  else
    let e := nextEdge (t.prescale + p - 1)
    (e, (e - t.prescale) / p, t.prescale + (e - t.prescale) / p * p)

/-- TIMER_TICK: the ticks due are added, and judged once (R325: events at CK00 edges). -/
def timerTickAct (n : Nat) (s : State) : State :=
  let t := s.sync.timer n
  if t.running && decide (t.kind = 0) && !timerFrozen t s then
    let k := t.nextTicks (s.pdOn 76) s.time.now
    tickTimer n (t.count + BitVec.ofNat 32 k.2.1) (decide (2 ^ 32 ≤ t.count.toNat + k.2.1))
      ((reachNow k.1 s).setTimer n { t with prescale := k.2.2 })
  else s

/-- TIMER_TICK. -/
def execTimerTick (n : Fin 16) (s : State) : Host.Outcome State Fault Refusal := .next (timerTickAct n.val s)

/-! ## Input edges (R319, R323, R324) -/

/-- One edge of the pair that CAP_ORDER gives (R324): the channel, and whether a pair completed. -/
def Timer.capture (t : Timer) (rising : Bool) : Timer × Bool :=
  if !t.capEn then (t, false)
  else if rising ≠ t.fallFirst then ({ t with pairFirst := some t.count }, false)
  else
    match t.pairFirst with
    | none => (t, false)
    | some c =>
      ({ t with pairFirst := none, capValid := true, capCnt := t.capCnt + 1,
                capRise := if t.fallFirst then t.count else c, capFall := if t.fallFirst then c else t.count }, true)

/-- The quadrature step of an edge of A (or B): 1 where A leads, −1 where B leads (R319). -/
def quadStep (ofA rising other : Bool) : Bool := if ofA then rising ≠ other else rising = other

/-- A step of +1 or −1 in MODE 2. -/
def quadTick (n : Nat) (up : Bool) (s : State) : State :=
  let t := s.sync.timer n
  if up then tickTimer n (t.count + 1) (decide (t.count = BitVec.allOnes 32)) s
  else tickTimer n (t.count - 1) (decide (t.count = 0)) s

/-- A qualified edge ends STUCK (R323). -/
def Timer.edgeSeen (t : Timer) (now : Nat) : Timer := { t with stuck := false, lastEdge := now }

/-- A qualified edge of the line that INPUT selects: a capture, and a tick in MODE 1. -/
def inputEdge (n : Nat) (rising : Bool) (s : State) : State :=
  let t := (s.sync.timer n).edgeSeen s.time.now
  let c := t.capture rising
  let s1 := s.setTimer n c.1
  let s2 := if c.2 && t.ctrl.getLsbD 30 then fire0 (6 + n) s1 else s1
  if t.running && decide (t.kind = 1) && decide (rising ≠ t.fallEdge) && !timerFrozen t s then
    tickTimer n (t.count + 1) (decide (t.count = BitVec.allOnes 32)) s2
  else s2

/-- Counts a merged pulse or an invalid quadrature step. -/
def Timer.glitch (t : Timer) : Timer := { t with glitchCnt := bump32 t.glitchCnt 1 }

/-- A quadrature edge on a channel in MODE 2. -/
def quadEdge (n : Nat) (ofA rising other : Bool) (s : State) : State :=
  let t := (s.sync.timer n).edgeSeen s.time.now
  let s1 := s.setTimer n t
  if t.running && decide (t.kind = 2) && !timerFrozen t s then quadTick n (quadStep ofA rising other) s1 else s1

/-- TIMER_INPUT_EDGE. Inputs are sampled while PD76 is on (R325). -/
def timerEdgeAct (n : Nat) (line : TimerLine) (rising : Bool) (s : State) : State :=
  if !s.pdOn 76 then s
  else
    match line with
    | .glitch => s.setTimer n (s.sync.timer n).glitch
    | .input => if (s.sync.timer n).inputSel = 0 then s else inputEdge n rising s
    | .encA => quadEdge n true rising s.sync.encB { s with sync := { s.sync with encA := rising } }
    | .encB => quadEdge n false rising s.sync.encA { s with sync := { s.sync with encB := rising } }
    | .both =>
      let s1 := { s with sync := { s.sync with encA := !s.sync.encA, encB := !s.sync.encB } }
      let t := (s.sync.timer n).edgeSeen s.time.now
      s1.setTimer n (if t.running && decide (t.kind = 2) && !timerFrozen t s then t.glitch else t)

/-- TIMER_INPUT_EDGE. -/
def execTimerInputEdge (n : Fin 16) (line : TimerLine) (rising : Bool) (s : State) : Host.Outcome State Fault Refusal :=
  .next (timerEdgeAct n.val line rising s)

/-- TIMER_STUCK (R323). -/
def timerStuckAct (n : Nat) (s : State) : State :=
  let t := s.sync.timer n
  if s.pdOn 76 && t.watches && !t.stuck then
    let s1 := reachNow (t.lastEdge + t.stuckMs * Config.ms) s
    let s2 := logEvent 0x0A10 srcSync n (s1.setTimer n { t with stuck := true })
    if t.ctrl.getLsbD 31 then fire0 (6 + n) s2 else s2
  else s

/-- TIMER_STUCK. -/
def execTimerStuck (n : Fin 16) (s : State) : Host.Outcome State Fault Refusal := .next (timerStuckAct n.val s)

/-! ## Host writes and reads of a channel (R325 to R327) -/

/-- The BAR0 offset of a register of channel n (Table 13-7). -/
def timerOffset (n reg : Nat) : Nat := 0x20100 + 0x40 * n + reg

/-- A host write to a register of channel n: rejected while PD76 is off (R296) and on TMR12 to TMR15 (R326); else done. -/
def timerWrite (n reg data : Nat) (f : Timer → Nat → Timer) (s : State) : State :=
  if !s.pdOn 76 then rejectWrite .pf0 2 (timerOffset n reg) data s
  else if 12 ≤ n then rejectWrite .pf0 0 (timerOffset n reg) data s
  else s.setTimer n (f (s.sync.timer n) s.time.now)

/-- START. -/
def execStart (n : Fin 16) (s : State) : Host.Outcome State Fault Refusal :=
  .next (bridged false (timerOffset n.val 4) 1 (timerWrite n.val 4 1 fun t now => t.begin now) s)

/-- STOP. -/
def execStop (n : Fin 16) (s : State) : Host.Outcome State Fault Refusal :=
  .next (bridged false (timerOffset n.val 4) 2 (timerWrite n.val 4 2 fun t _ => t.halt) s)

/-- RESET. -/
def execReset (n : Fin 16) (s : State) : Host.Outcome State Fault Refusal :=
  .next (bridged false (timerOffset n.val 4) 4 (timerWrite n.val 4 4 fun t now => t.resetCount now) s)

/-- A write of COUNT: the next tick steps from the written value (R327). -/
def execCount (n : Fin 16) (v : U32) (s : State) : Host.Outcome State Fault Refusal :=
  .next (bridged false (timerOffset n.val 8) v.toNat (timerWrite n.val 8 v.toNat fun t _ => { t with count := v }) s)

/-- A write of COMPARE: the next tick judges it (R320, R322). -/
def execCompare (n : Fin 16) (v : U32) (s : State) : Host.Outcome State Fault Refusal :=
  .next (bridged false (timerOffset n.val 12) v.toNat (timerWrite n.val 12 v.toNat fun t _ => { t with compare := v }) s)

/-- What a read of CAP_RISE leaves: CAP_FALL returns the snapshot from then on (R324). -/
def snapPair (n : Nat) (s : State) : State :=
  let t := s.sync.timer n
  if s.pdOn 76 then s.setTimer n { t with snapFall := t.capFall } else s

/-- A read of CAP_RISE: it returns the stored pair's first half. -/
def capRiseAct (n : Nat) (s : State) : State :=
  (snapPair n s).send (.completion (.data (if s.pdOn 76 then leBytes 4 (s.sync.timer n).capRise.toNat else zeros 4)))

/-- CAP_RISE. -/
def execCapRise (n : Fin 16) (s : State) : Host.Outcome State Fault Refusal :=
  .next (bridged true (timerOffset n.val 24) 4 (capRiseAct n.val) s)

/-- DEBUG_HALT: the scan port halts or releases the conductor core, where it is open (R325, R389). -/
def execDebugHalt (on : Bool) (s : State) : Host.Outcome State Fault Refusal :=
  .next (if s.trust.debugOpen then { s with sync := { s.sync with halted := on } } else s)

end Sys2Proof.Machine
end

