-- ==== Sys2Proof/Machine/Sync.lean ====
section
/-! DEFINITION. The genlock meter (R310, R311), linear timecode (R315) and the timecode in force (R316, R317). -/

namespace Sys2Proof.Machine

/-! ## The genlock meter -/

/-- Replaces the meter. -/
def State.setMeter (s : State) (g : GenlockUnit) : State := { s with sync := { s.sync with genlock := g } }

/-- The mean of some periods. -/
def meanOf (ps : List Nat) : Nat := if ps.length = 0 then 0 else ps.foldl (· + ·) 0 / ps.length

/-- Whether two numbers differ by no more than some parts per million of the second. -/
def within (a b ppm : Nat) : Bool := decide (dist a b * 1000000 ≤ ppm * b)

/-- The criterion of DETECTED to LOCKED (Table 13-2): eight periods, each within ±20 ppm of their mean, and the mean within
±1,000 ppm of a rate of the structure. -/
def lockCriterion (struct : Nat) (ps : List Nat) : Bool :=
  decide (ps.length = 8) && ps.all (fun p => within p (meanOf ps) 20) &&
    (referenceRates struct).any (fun r => within (meanOf ps) (ratePeriod r) 1000)

/-- The latest eight periods. -/
def lastPeriods (p : Nat) (ps : List Nat) : List Nat := (p :: ps).take 8

/-- The meter enters LOCKED: event 0x0A01, and the engine acquires (R313); a change of PLL-B's reference that waits for it is made
where R308 allows it. -/
def meterLocks (g : GenlockUnit) (s : State) : State :=
  applyRef (logEvent 0x0A01 srcSync g.struct
    (s.setMeter { g with state := .locked, per := meanOf g.periods, acquire := true, everLocked := true }))

/-- The meter leaves LOCKED: event 0x0A02 and HOLDOVER_CNT. A PLL-B on GENREF has lost its reference (R418). -/
def meterHolds (g : GenlockUnit) (s : State) : State :=
  let s1 := logEvent 0x0A02 srcSync g.struct
    (s.setMeter { g with state := .holdover, holdoverCnt := bump32 g.holdoverCnt 1, periods := [], targets := [] })
  if s.time.refActive = 1 then enterHoldover .b s1 else s1

/-- The sync settings that place the coming boundaries. -/
def State.syncSet (s : State) : SyncSet := s.frame.sens1.sync

/-- The coinciding series (R312): a start that lies a whole number of GL_DIV periods after the series' latest start continues
it. -/
def seriesNext (g : GenlockUnit) (t div : Nat) : Bool :=
  decide (0 < g.per) && decide (g.series ≤ t) && decide (((t - g.series) + g.per / 2) / g.per % (max 1 div) = 0)

/-- Where the targeted start of a coinciding boundary arrives, before or after that boundary, ph is recorded (R312): the boundary less the
start. More than 1,000 ticks make the engine acquire again (R313). -/
def recordPhase (t : Nat) (sy : SyncSet) (g : GenlockUnit) : GenlockUnit :=
  match g.targets.find? fun p => decide (dist p.1 t ≤ g.per / 2) with
  | none => g
  | some p =>
    let ph : Int := (p.2 : Int) - ((t / 256 : Nat) : Int) - sy.phase
    { g with phase := ph, targets := g.targets.filter (fun q => decide (p.1 < q.1)), acquire := g.acquire || decide (1000 < ph.natAbs) }

/-- A reference frame start at `t` (1/256 tick) of a recognised structure. -/
def genlockStart (t struct : Nat) (s : State) : State :=
  let g := s.sync.genlock
  let p := t - g.lastStart
  let first := decide (g.lastStart = 0)
  let same := decide (struct = g.struct) && decide (1 ≤ struct ∧ struct ≤ 5)
  let g1 := { g with lastStart := t, frameCnt := bump32 g.frameCnt 1, struct := struct }
  match g.state with
  | .absent => s.setMeter (if same && !first then { g1 with state := .detected, periods := [] } else { g1 with periods := [] })
  | .detected =>
    if same then
      let g2 := { g1 with periods := lastPeriods p g.periods }
      if lockCriterion struct g2.periods then meterLocks { g2 with series := t } s else s.setMeter g2
    else s.setMeter { g1 with periods := [] }
  | .locked =>
    if same && within p g.per 200 then
      let ps := lastPeriods p g.periods
      let g2 := recordPhase t s.syncSet { g1 with periods := ps, per := meanOf ps }
      s.setMeter (if seriesNext g t s.syncSet.div then { g2 with series := t } else g2)
    else meterHolds g1 s
  | .holdover =>
    if same then
      let g2 := { g1 with periods := lastPeriods p g.periods }
      if lockCriterion struct g2.periods then meterLocks { g2 with series := t } s else s.setMeter g2
    else s.setMeter { g1 with periods := [] }

/-- GENLOCK_FRAME_START: the frame start is stamped to 1/256 tick (R310). GENREF runs with the reference. -/
def execGenlockFrameStart (sub struct : Byte) (s : State) : Host.Outcome State Fault Refusal :=
  .next (if s.pdOn 76 then
    genlockStart (s.time.module * 256 + sub.toNat) struct.toNat { s with clk := { s.clk with genref := true } }
  else s)

/-- GENLOCK_SYNC_TIMEOUT: no line sync for 100 ms (Table 13-2). GENREF stops. -/
def genlockSilent (s : State) : State :=
  let g := s.sync.genlock
  let s1 := { s with clk := { s.clk with genref := false } }
  match g.state with
  | .absent => s1
  | .detected => s1.setMeter { g with state := .absent, periods := [], lastStart := 0, struct := 0 }
  | .locked => meterHolds g s1
  | .holdover => s1.setMeter { g with periods := [] }

/-- GENLOCK_SYNC_TIMEOUT. -/
def execGenlockSyncTimeout (s : State) : Host.Outcome State Fault Refusal :=
  .next (if s.pdOn 76 then genlockSilent s else s)

/-- GENLOCK_START_TIMEOUT: no frame start within 1.5 periods of the last one (Table 13-2). -/
def execGenlockStartTimeout (s : State) : Host.Outcome State Fault Refusal :=
  let g := s.sync.genlock
  .next (if g.state = .locked then
    meterHolds { g with missCnt := bump32 g.missCnt 1 } (reach ((2 * g.lastStart + 3 * g.per) / 512) s)
  else s)

/-! ## Timecode words (ST 12-1: PRESUMED, log entry 3) -/

/-- A BCD field of a codeword: tens at one place, units at another. -/
def bcd (w : U64) (units tens tensBits : Nat) : Nat := w.toNat / 2 ^ units % 16 + 10 * (w.toNat / 2 ^ tens % 2 ^ tensBits)

/-- Frames, seconds, minutes and hours of a codeword. -/
def tcFields (w : U64) : Nat × Nat × Nat × Nat := (bcd w 0 8 2, bcd w 16 24 3, bcd w 32 40 3, bcd w 48 56 2)

/-- The bits of a codeword that hold the address. -/
def tcMask : U64 := 0x030F070F070F030F

/-- Writes an address into a codeword; the flags and the user bits stay. -/
def tcWith (w : U64) (f s m h : Nat) : U64 :=
  (w &&& ~~~ tcMask) ||| BitVec.ofNat 64
    (f % 10 + 2 ^ 8 * (f / 10) + 2 ^ 16 * (s % 10) + 2 ^ 24 * (s / 10) + 2 ^ 32 * (m % 10) + 2 ^ 40 * (m / 10)
      + 2 ^ 48 * (h % 10) + 2 ^ 56 * (h / 10))

/-- A codeword advanced by one frame at a count of frames a second, with the drop-frame rule when bit 10 is set (R316). -/
def tcAdvance (fps : Nat) (w : U64) : U64 :=
  let (f, s, m, h) := tcFields w
  let (f1, c1) := if f + 1 < fps then (f + 1, 0) else (0, 1)
  let (s1, c2) := if s + c1 < 60 then (s + c1, 0) else (0, 1)
  let (m1, c3) := if m + c2 < 60 then (m + c2, 0) else (0, 1)
  let h1 := if h + c3 < 24 then h + c3 else 0
  let f2 := if w.getLsbD 10 ∧ c2 = 1 ∧ m1 % 10 ≠ 0 then 2 else f1
  tcWith w f2 s1 m1 h1

/-- Whether every BCD digit of a codeword lies in range, at a count of frames a second. -/
def tcValid (fps : Nat) (w : U64) : Bool :=
  let (f, s, m, h) := tcFields w
  decide (w.toNat % 16 < 10) && decide (w.toNat / 2 ^ 16 % 16 < 10) && decide (w.toNat / 2 ^ 32 % 16 < 10)
    && decide (w.toNat / 2 ^ 48 % 16 < 10) && decide (f < fps) && decide (s < 60) && decide (m < 60) && decide (h < 24)

/-- The rates of the generator (R316). -/
def tcRates : List (Nat × Nat) := [(24, 1), (24000, 1001), (25, 1), (30, 1), (30000, 1001)]

/-- Whole frames a second of a rate. -/
def tcFps (num den : Nat) : Nat := (num + den - 1) / (max 1 den)

/-- The supported rate nearest a measured codeword rate: 80 bits of the bit period a frame. -/
def nearestRate (bitPeriod : Nat) : Nat × Nat :=
  tcRates.foldl (fun best r =>
    if dist (ratePeriod r) (80 * bitPeriod) < dist (ratePeriod best) (80 * bitPeriod) then r else best) (24, 1)

/-! ## The LTC reader -/

/-- Replaces the timecode unit. -/
def State.setTc (s : State) (t : TimecodeUnit) : State := { s with sync := { s.sync with tc := t } }

/-- LTC_IN ceases to be present: event 0x0A06; with SOURCE 1 the generator continues from the frame in force, at the supported
rate nearest the measured one (R316). -/
def ltcLost (t : TimecodeUnit) (s : State) : State :=
  let r := nearestRate t.bitPeriod
  let t1 := { t with present := false, badRun := 0 }
  let t2 := if t.source = 1 ∧ t.tcSource = 1 then { t1 with tcSource := 2, frame := 0, num := r.1, den := r.2 } else t1
  logEvent 0x0A06 srcSync 0 (s.setTc t2)

/-- A valid codeword (R315). -/
def ltcValid (w : U64) (bitPeriod : Nat) (s : State) : State :=
  let t := s.sync.tc
  let fps := let r := nearestRate bitPeriod; tcFps r.1 r.2
  let first := decide (t.goodRun = 0)
  let follows := decide (tcAdvance fps t.lastWord &&& tcMask = w &&& tcMask)
  let t1 := { t with lastWord := w, lastTime := s.time.module - 80 * bitPeriod / 256, bitPeriod := bitPeriod, fresh := true,
                     goodCnt := bump32 t.goodCnt 1, reversed := false }
  if first then s.setTc { t1 with goodRun := 1, badRun := 0 }
  else if follows then
    if t.present then s.setTc { t1 with badRun := 0, goodRun := t.goodRun + 1 }
    else logEvent 0x0A05 srcSync 0 (s.setTc { t1 with present := true, badRun := 0, goodRun := t.goodRun + 1 })
  else
    let t2 := { t1 with errCnt := bump32 t.errCnt 1, badRun := t.badRun + 1, goodRun := 1 }
    if t.present ∧ 2 ≤ t2.badRun then ltcLost t2 s else s.setTc t2

/-- Whether every bit cell of a codeword lies within ±25 % of the running bit period (R315). -/
def cellsAgree (c : BitCells) (bitPeriod : Nat) : Bool :=
  decide (3 * bitPeriod ≤ 4 * c.shortest.toNat) && decide (4 * c.longest.toNat ≤ 5 * bitPeriod)

/-- Whether the speed of a codeword lies within ±10 % of 24,000/1,001 to 30 fps, at 80 bits a frame (R315). One outside is invalid (DEDUCED, log
entry 78). -/
def ltcSpeedOk (bitPeriod : Nat) : Bool :=
  decide (10 * ratePeriod (30, 1) ≤ 11 * (80 * bitPeriod)) && decide (9 * (80 * bitPeriod) ≤ 10 * ratePeriod (24000, 1001))

/-- LTC_CODEWORD: a reverse codeword counts as an error and is not used; one whose bit cells do not agree is invalid. -/
def execLtcCodeword (word : U64) (bitPeriod : U32) (cells : BitCells) (reversed : Bool) (s : State) : Host.Outcome State Fault Refusal :=
  let t := s.sync.tc
  let s1 := { s with clk := { s.clk with ltcck := true } }
  .next (if !s.pdOn 76 then s
    else if reversed then s1.setTc { t with errCnt := bump32 t.errCnt 1, reversed := true }
    else if !(cellsAgree cells bitPeriod.toNat && ltcSpeedOk bitPeriod.toNat) then s1.setTc { t with errCnt := bump32 t.errCnt 1 }
    else ltcValid word bitPeriod.toNat s1)

/-- LTC_ABSENT_TIMEOUT: no valid codeword for 3 codeword periods (R315). The LTC clock stops with the signal. -/
def execLtcAbsentTimeout (s : State) : Host.Outcome State Fault Refusal :=
  let t := s.sync.tc
  .next (if t.present then
    ltcLost { t with goodRun := 0 } (reach (t.lastTime + 4 * 80 * t.bitPeriod / 256) { s with clk := { s.clk with ltcck := false } })
  else { s with clk := { s.clk with ltcck := false } })

/-! ## The timecode in force (R316, R317) -/

/-- A timecode frame begins: its codeword is in force, TC_COUNT starts again, and LTC_OUT sends it where it is on and PD76 drives it. -/
def tcBegin (t : TimecodeUnit) (s : State) : State :=
  let s1 := s.setTc { t with count := 0 }
  if t.ltcOut && decide (t.tcSource ≠ 0) && s.pdOn 76 then s1.send (.ltc t.word) else s1

/-- TIMECODE_FRAME_START: with SOURCE 1 at the end of each valid codeword while LTC_IN is present, else by the generator (R316). -/
def timecodeStart (s : State) : State :=
  let t := s.sync.tc
  if t.source = 1 ∧ t.present = true ∧ t.fresh = true then
    let fps := let r := nearestRate t.bitPeriod; tcFps r.1 r.2
    tcBegin { t with word := tcAdvance fps t.lastWord, tcSource := 1, fresh := false, origin := s.time.module, frame := 0 } s
  else if t.tcSource = 2 ∧ 0 < t.num then
    let s1 := reach (t.origin + ((t.frame + 1) * Config.ticksPerSecond * t.den / t.num : Nat)).toNat s
    tcBegin { t with word := tcAdvance (tcFps t.num t.den) t.word, frame := t.frame + 1 } s1
  else s

/-- TIMECODE_FRAME_START. -/
def execTimecodeFrameStart (s : State) : Host.Outcome State Fault Refusal := .next (timecodeStart s)

/-- A TIMECODE_SET takes effect at t0 (R316). -/
def tcApply (source : Nat) (out : Bool) (num den : Nat) (word : U64) (t0 : Nat) (s : State) : State :=
  let t := { s.sync.tc with waiting := none, source := source, ltcOut := out }
  if source = 0 then s.setTc { t with tcSource := 0, word := 0, count := 0 }
  else if source = 1 then s.setTc { t with tcSource := 0, word := 0, count := 0 }
  else tcBegin { t with tcSource := 2, num := num, den := den, word := word, origin := t0, frame := 0 } s

/-- A boundary takes a TIMECODE_SET that waits for it, and counts in its timecode frame. -/
def tcBoundary (b : Nat) (s : State) : State :=
  match s.sync.tc.waiting with
  | some (t, source, out, num, den, word) => if t ≤ b then tcApply source out num den word b s else s
  | none => s

end Sys2Proof.Machine
end

