-- ==== Sys2Proof/Machine/Bus.lean ====
section
/-! DEFINITION. Two-wire buses (R330 to R352): transfers, bus errors and clears, the inbox, the lens poll. The read commands of the
target and Host Notify follow in Target. -/

namespace Sys2Proof.Machine

/-! ## The engines -/

/-- The engine of a bus. -/
def BusUnit.get (u : BusUnit) (b : BusId) : Bus := match b with
  | .abus0 => u.abus0
  | .abus1 => u.abus1
  | .hbus => u.hbus

/-- Replaces an engine. -/
def BusUnit.set (u : BusUnit) (b : BusId) (x : Bus) : BusUnit := match b with
  | .abus0 => { u with abus0 := x }
  | .abus1 => { u with abus1 := x }
  | .hbus => { u with hbus := x }

/-- Replaces an engine of the state. -/
def State.setBus (s : State) (b : BusId) (x : Bus) : State := { s with bus := s.bus.set b x }

/-- The number of a bus. -/
def busNum (b : BusId) : Nat := match b with
  | .abus0 => 0
  | .abus1 => 1
  | .hbus => 2

/-- Whether the domain of a bus is on (Table 14-1). -/
def busOn (b : BusId) (s : State) : Bool := match b with
  | .hbus => s.power.aoOn
  | _ => s.pdOn 77

/-- The vector of a bus (Table 8-7). -/
def busVector (b : BusId) : Nat := 22 + busNum b

/-- The offset of a bus region (R353). -/
def busBase (b : BusId) : Nat := 0x22000 + 0x400 * busNum b

/-- The bits of CTRL that an instance has (Table 14-4): ABUS1 has no target, only HBUS has Host Notify, only ABUS0 an inbox. -/
def ctrlMask (b : BusId) : U32 := match b with
  | .abus0 => 0x307
  | .abus1 => 0x101
  | .hbus => 0x507

def Bus.ctlEn (b : Bus) : Bool := b.ctrl.getLsbD 0
def Bus.tgtEn (b : Bus) : Bool := b.ctrl.getLsbD 1
def Bus.pecEn (b : Bus) : Bool := b.ctrl.getLsbD 2

/-- TIMING and TIMEOUT as written take effect at a START (R333). -/
def Bus.atStart (b : Bus) : Bus :=
  { b with timing := b.timingNext.getD b.timing, timeout := b.timeoutNext.getD b.timeout, timingNext := none, timeoutNext := none }

/-- A STOP: the controller is free, and a CTL_EN that was cleared meanwhile clears (Table 14-3). -/
def Bus.atStop (b : Bus) : Bus :=
  { b with ctlBusy := false, xfer := none, disableDue := false,
           ctrl := if b.disableDue then b.ctrl &&& ~~~ 1 else b.ctrl }

/-- A bus clear that frees SDA (R342), or leaves the bus faulted (R343). -/
def busClear (b : BusId) (freed : Bool) (s : State) : State :=
  let x := s.bus.get b
  if freed then logEvent 0x0B05 (srcBus b) 0 (s.setBus b { x with clears := bump32 x.clears 1 })
  else
    let s1 := logEvent 0x0B06 (srcBus b) 0 (s.setBus b { x with faulted := true })
    if x.ctrl.getLsbD 8 then fire0 (busVector b) s1 else s1

/-! ## What ends a controller's transaction -/

/-- A NACK counts. -/
def meetNack (b : BusId) (s : State) : State :=
  let x := s.bus.get b
  s.setBus b { x with nacks := bump32 x.nacks 1 }

/-- The controller loses arbitration and withdraws (R336). -/
def meetWinner (b : BusId) (s : State) : State :=
  let x := s.bus.get b
  logEvent 0x0B01 (srcBus b) 0 (s.setBus b { x with arbLost := bump32 x.arbLost 1 })

/-- A START or a STOP where a bit was due (R341). -/
def meetBusError (b : BusId) (s : State) : State :=
  let x := s.bus.get b
  logEvent 0x0B02 (srcBus b) 0 (s.setBus b { x with busErr := bump32 x.busErr 1 })

/-- SCL stays low in the controller's transaction (R340). -/
def meetSclLow (b : BusId) (s : State) : State :=
  let x := s.bus.get b
  logEvent 0x0B03 (srcBus b) 0 (s.setBus b { x with timeouts := bump32 x.timeouts 1 })

/-- What the end of a transaction counts and logs. -/
def noteEnd (b : BusId) (e : ControllerEnd) (s : State) : State := match e with
  | .done => s
  | .nack => meetNack b s
  | .arbitrationLost => meetWinner b s
  | .busError => meetBusError b s
  | .sclTimeout => meetSclLow b s

/-! ## Controller transfers -/

/-- The final response of the transfer on a bus: RESULT, DONE and the data (Table 11-11). FAILED unless RESULT is 0. -/
def endXfer (b : BusId) (result done : Nat) (st : Status) (data : List Byte) (s : State) : State :=
  let x := s.bus.get b
  let s0 := s.setBus b x.atStop
  let s1 := { s0 with bus := { s0.bus with xferEnd := s.time.now } }
  match x.xfer with
  | none => s1
  | some f => finish f.req st 0 (leBytes 1 result ++ leBytes 1 0 ++ leBytes 2 done ++ zeros 4 ++ data) s1

/-- In DORMANT the module powers PD77 for a transfer and runs a bus clear (R338). -/
def wakeAbus (b : BusId) (s : State) : State :=
  if s.pdOn 77 then s
  else busClear b true { s with power := s.power.setDomain 77 true, bus := { s.bus with dormantPower := true } }

/-- ABUS0 or ABUS1 of a request. -/
def abusOf (n : Nat) : BusId := if n = 0 then .abus0 else .abus1

/-- The bytes that a transfer writes: where it reads none, their PEC goes out after them (R335). -/
def Xfer.written (f : Xfer) : List Byte :=
  f.writeData ++ (if f.usePec ∧ f.readLen = 0 ∧ f.writeData ≠ [] then
    leBytes 1 (pec (BitVec.ofNat 8 (2 * f.address) :: f.writeData)) else [])

/-- What a transfer puts on its bus. -/
def Xfer.out (f : Xfer) (b : BusId) : Out :=
  .busMaster (busNum b) f.address f.written (f.readLen + (if f.usePec ∧ 0 < f.readLen then 1 else 0))

/-- The effect of ABUS_XFER (R334, R343): on a faulted bus it ends at once with RESULT 5. -/
def abusXferAct (bus addr flags wLen rLen : Nat) (data : List Byte) (id : ReqId) (s : State) : State :=
  let b := abusOf bus
  let s1 := wakeAbus b (accept id [.abus bus] 0 s)
  let x := s1.bus.get b
  let f : Xfer := ⟨id, addr, flags % 2 = 1, data.take wLen, rLen⟩
  let s2 := s1.setBus b { x.atStart with xfer := some f, ctlBusy := true }
  if x.faulted then endXfer b 5 0 .failed [] s2 else s2.send (f.out b)

/-- ABUS_XFER. -/
def execAbusXfer (r : Req) (bus addr flags : Byte) (writeLen readLen : U16) (writeData : List Byte) (s : State) :
    Host.Outcome State Fault Refusal :=
  .next (command .abusXfer r
    (fun _ => ⟨decide (r.len = 8 + writeLen.toNat) && decide (writeData.length = writeLen.toNat),
      sound r (decide (bus.toNat ≤ 1 ∧ addr.toNat < 128 ∧ flags.toNat < 2 ∧ writeLen.toNat ≤ 4088 ∧ readLen.toNat ≤ 4088)), true,
      [.abus bus.toNat]⟩)
    (abusXferAct bus.toNat addr.toNat flags.toNat writeLen.toNat readLen.toNat writeData) s)

/-- Every byte of a transaction that its PEC covers (R335). -/
def Xfer.pecBytes (f : Xfer) (read : List Byte) : List Byte :=
  (if f.writeData.length = 0 ∧ 0 < f.readLen then [] else BitVec.ofNat 8 (2 * f.address) :: f.writeData)
    ++ (if 0 < f.readLen then BitVec.ofNat 8 (2 * f.address + 1) :: read else [])

/-- DONE where an address gets a NACK: nothing at the first, the bytes written at that of the repeated START (R334). -/
def Xfer.doneAtAddress (f : Xfer) (done : Nat) : Nat := if 0 < done ∧ 0 < f.readLen then f.writeData.length else 0

/-- ABUS_XFER_DONE: the transaction reaches its STOP (R334, R335). -/
def abusDone (b : BusId) (result : XferResult) (done : Nat) (data : List Byte) (pecB : Option Byte) (s : State) : State :=
  let x := s.bus.get b
  match x.xfer with
  | none => s
  | some f =>
    match result with
    | .addressNack => endXfer b 1 (f.doneAtAddress done) .failed [] (meetNack b s)
    | .dataNack => endXfer b 2 done .failed [] (meetNack b s)
    | .done =>
      let read := padTo f.readLen data
      let count := f.writeData.length + f.readLen
      if f.usePec && decide (0 < f.readLen) && decide (pecB ≠ some (BitVec.ofNat 8 (pec (f.pecBytes read)))) then
        endXfer b 0 count .badCheck read
          (logEvent 0x0B09 (srcBus b) 0 (s.setBus b { x with pecErr := bump32 x.pecErr 1 }))
      else endXfer b 0 count .ok read s

/-- ABUS_XFER_DONE. -/
def execAbusXferDone (bus : BusId) (result : XferResult) (done : Nat) (data : List Byte) (pec : Option Byte) (s : State) :
    Host.Outcome State Fault Refusal := .next (abusDone bus result done data pec s)

/-- ARBITRATION_LOST (R336): RESULT 3, and no retry. -/
def execArbitrationLost (bus : BusId) (done : Nat) (s : State) : Host.Outcome State Fault Refusal :=
  let x := s.bus.get bus
  .next (if busOn bus s && x.ctlBusy then
    endXfer bus 3 done .failed [] (meetWinner bus s)
  else s)

/-- BUS_ERROR (R341): RESULT 3. -/
def execBusError (bus : BusId) (done : Nat) (s : State) : Host.Outcome State Fault Refusal :=
  let x := s.bus.get bus
  .next (if busOn bus s && x.ctlBusy then
    endXfer bus 3 done .failed [] (meetBusError bus s)
  else s)

/-- A target command is discarded (R347): ABORT_CNT and event 0x0B08. -/
def discardTarget (b : BusId) (s : State) : State :=
  let x := s.bus.get b
  logEvent 0x0B08 (srcBus b) 0 (s.setBus b { x with aborts := bump32 x.aborts 1, tgtBusy := false })

/-- Whether the target of a bus is active: ABUS1 has none, and that of ABUS0 is off in DORMANT (R344). -/
def targetActive (b : BusId) (s : State) : Bool :=
  busOn b s && (s.bus.get b).tgtEn && decide (b ≠ .abus1) && !(decide (b = .abus0) && decide (s.mode.mode = .dormant))

/-- SCL_TIMEOUT (R340): the controller's transaction ends with RESULT 4; the target discards its command. -/
def execSclTimeout (bus : BusId) (asTarget : Bool) (done : Nat) (s : State) : Host.Outcome State Fault Refusal :=
  let x := s.bus.get bus
  .next (if !busOn bus s then s
    else if asTarget then (if targetActive bus s then discardTarget bus s else s)
    else if x.ctlBusy then endXfer bus 4 done .failed [] (meetSclLow bus s)
    else s)

/-- SDA_TIMEOUT (R340, R342, R343): a bus clear; where SDA stays low the bus is faulted and a transfer ends with RESULT 5. -/
def execSdaTimeout (bus : BusId) (freed : Bool) (s : State) : Host.Outcome State Fault Refusal :=
  .next (if busOn bus s then
    let s1 := busClear bus freed (logEvent 0x0B04 (srcBus bus) 0 s)
    if freed then s1 else endXfer bus 5 0 .failed [] s1
  else s)

/-- SDA_RELEASED (R343). -/
def execSdaReleased (bus : BusId) (s : State) : Host.Outcome State Fault Refusal :=
  let x := s.bus.get bus
  .next (if busOn bus s && x.faulted then logEvent 0x0B07 (srcBus bus) 0 (s.setBus bus { x with faulted := false }) else s)

/-- A write of CTRL (R342, Table 14-3): CTL_EN from 0 to 1 runs a bus clear; cleared during a transaction, it clears at the STOP. -/
def busCtrlAct (b : BusId) (v : U32) (freed : Bool) (s : State) : State :=
  let x := s.bus.get b
  let w := v &&& ctrlMask b
  if !busOn b s then rejectWrite .pf0 2 (busBase b) v.toNat s
  else if x.ctlBusy && x.ctlEn && !w.getLsbD 0 then s.setBus b { x with ctrl := w ||| 1, disableDue := true }
  else
    let s1 := s.setBus b { x with ctrl := w, disableDue := false }
    if !x.ctlEn && w.getLsbD 0 then busClear b freed s1 else s1

/-- BUS_CTRL. -/
def execBusCtrl (bus : BusId) (v : U32) (freed : Bool) (s : State) : Host.Outcome State Fault Refusal :=
  .next (bridged false (busBase bus) v.toNat (busCtrlAct bus v freed) s)

/-! ## Target addresses (R344) -/

/-- ADDR0 to ADDR3 of TGT_ADDR. -/
def tgtAddrs (v : U32) : List Nat := [field v 0 7, field v 8 7, field v 16 7, field v 24 7]

/-- Whether an address matches a mode: off, the first COUNT addresses, or a base under a mask. -/
def tgtMatch (addr mode : U32) (a : Nat) : Bool :=
  let am := field mode 0 2
  if am = 1 then decide (a ∈ (tgtAddrs addr).take (field mode 4 3))
  else if am = 2 then
    let m := 127 - field mode 16 7
    decide (a &&& m = field mode 8 7 &&& m)
  else false

/-- Whether an address is one of 0x00 to 0x07 and 0x78 to 0x7F. -/
def reservedAddr (a : Nat) : Bool := decide (a ≤ 7) || decide (0x78 ≤ a)

/-- Whether a mode would answer a reserved address. -/
def tgtReserved (addr mode : U32) : Bool := (List.range 128).any fun a => reservedAddr a && tgtMatch addr mode a

/-- The TGT_ADDR of four addresses and the TGT_MODE of a request. -/
def tgtRegs (amode count : Nat) (addrs : List Byte) (base mask : Nat) : U32 × U32 :=
  (BitVec.ofNat 32 (leNat (padTo 4 addrs) &&& 0x7F7F7F7F),
   BitVec.ofNat 32 (amode + 16 * count + 256 * (base % 128) + 65536 * (mask % 128)))

/-- The effect of ABUS_TARGET_SET. -/
def abusTargetAct (amode count : Nat) (addrs : List Byte) (base mask : Nat) (id : ReqId) (s : State) : State :=
  let (a, m) := tgtRegs amode count addrs base mask
  if tgtReserved a m then respond id true .badParam 0 [] s
  else
    let x := s.bus.abus0
    respond id true .ok 0 [] { s with bus := { s.bus with abus0 := { x with tgtAddr := a, tgtMode := m } } }

/-- ABUS_TARGET_SET. -/
def execAbusTargetSet (r : Req) (amode count : Byte) (addrs : List Byte) (base mask : Byte) (s : State) :
    Host.Outcome State Fault Refusal :=
  .next (command .abusTargetSet r
    (fun _ => ⟨decide (r.len = 12) && decide (addrs.length = 4),
      sound r (decide (amode.toNat ≤ 2 ∧ count.toNat ≤ 4 ∧ base.toNat < 128 ∧ mask.toNat < 128) &&
        addrs.all (fun a => decide (a.toNat < 128))), true, []⟩)
    (abusTargetAct amode.toNat count.toNat addrs base.toNat mask.toNat) s)

/-! ## The target's write commands (R345 to R349) -/

/-- Whether an address is one of those of the active target of a bus. -/
def targetNamed (b : BusId) (a : Nat) (s : State) : Bool :=
  targetActive b s && tgtMatch (s.bus.get b).tgtAddr (s.bus.get b).tgtMode a

/-- Whether the target of a bus answers an address now. -/
def targetAnswers (b : BusId) (a : Nat) (s : State) : Bool := targetNamed b a s && !(s.bus.get b).engineIdle

/-- TIMING and TIMEOUT take effect at the START that the target sees (R333). -/
def seesStart (b : BusId) (s : State) : State := s.setBus b (s.bus.get b).atStart

/-- HBUS notes when it was addressed last (R350). -/
def heardHbus (b : BusId) (s : State) : State :=
  if b = .hbus then { s with bus := { s.bus with hbusHeard := s.time.now } } else s

/-- An idle HBUS engine gives a NACK to the address, counts it and wakes (R350); an engine that runs, or another address, changes nothing. -/
def wakeHbus (b : BusId) (a : Nat) (s : State) : State :=
  let x := s.bus.get b
  if targetNamed b a s && x.engineIdle then
    heardHbus b ((s.setBus b { x with engineIdle := false, sleepNacks := bump32 x.sleepNacks 1 }).send (.busAnswer (busNum b) none))
  else s

/-- The codes that a bus knows (Table 14-2). -/
def targetCodes (b : BusId) : List Nat :=
  if b = .abus0 then [1, 2, 3, 4, 5, 6, 7, 8, 0x40, 0x41] else [1, 2, 3, 4, 5, 6, 7, 8]

/-- An unknown code: NACK, ABORT_CNT and event 0x0B0E (R345). -/
def unknownCode (b : BusId) (code : Nat) (s : State) : State :=
  let x := s.bus.get b
  (logEvent 0x0B0E (srcBus b) code (s.setBus b { x with aborts := bump32 x.aborts 1 })).send (.busAnswer (busNum b) none)

/-- The place of an inbox entry. -/
def Bus.deliver (x : Bus) (e : InboxEntry) : Bus :=
  { x with inbox := put x.inbox (x.inProduced.toNat % 16) e, inProduced := x.inProduced + 1 }

/-- ACC_POST (R349): with 16 entries unconsumed the count byte gets a NACK. -/
def accPost (addr : Nat) (data : List Byte) (ending : WriteEnd) (s : State) : State :=
  let x := s.bus.abus0
  let count := (data.headD 0).toNat
  if data ≠ [] ∧ 16 ≤ (x.inProduced - x.inConsumed).toNat then
    (logEvent 0x0B0A (srcBus .abus0) addr (s.setBus .abus0 { x with inLost := bump32 x.inLost 1 })).send (.busAnswer 0 none)
  else
    match ending with
    | .broken => discardTarget .abus0 s
    | .whole pecB =>
      if count = 0 ∨ 32 < count ∨ data.length ≠ count + 1 ∨ (x.pecEn = true ∧ pecB = none) then discardTarget .abus0 s
      else if x.pecEn && decide (pecB ≠ some (BitVec.ofNat 8 (pec (BitVec.ofNat 8 (2 * addr) :: 0x40 :: data)))) then
        (discardTarget .abus0 (logEvent 0x0B09 (srcBus .abus0) addr
          (s.setBus .abus0 { x with pecErr := bump32 x.pecErr 1 }))).send (.busAnswer 0 none)
      else
        let s1 := s.setBus .abus0 (x.deliver ⟨addr, s.time.module, data.tail⟩)
        if x.ctrl.getLsbD 9 then fire0 22 s1 else s1

/-- TARGET_WRITE_COMMAND (R345, R347). -/
def targetWrite (b : BusId) (addr code : Nat) (data : List Byte) (ending : WriteEnd) (s : State) : State :=
  if targetAnswers b addr s then
    let s1 := seesStart b (heardHbus b s)
    if code ∉ targetCodes b then unknownCode b code s1
    else if code = 0x40 then accPost addr data ending s1
    else discardTarget b s1
  else wakeHbus b addr s

/-- TARGET_WRITE_COMMAND. -/
def execTargetWriteCommand (bus : BusId) (address code : Byte) (data : List Byte) (ending : WriteEnd) (s : State) :
    Host.Outcome State Fault Refusal := .next (targetWrite bus address.toNat code.toNat data ending s)

/-- A write of INBOX_CONSUMED. Only ABUS0 has an inbox (R353). -/
def inboxConsume (bus : BusId) (v : U32) (s : State) : State :=
  let x := s.bus.get bus
  if !busOn bus s then rejectWrite .pf0 2 (busBase bus + 0x74) v.toNat s
  else if bus ≠ .abus0 then s
  else if (v - x.inConsumed).toNat ≤ (x.inProduced - x.inConsumed).toNat then s.setBus bus { x with inConsumed := v }
  else logEvent 0x0B0F (srcBus bus) v.toNat s

/-- INBOX_CONSUMED (R349). -/
def execInboxConsumed (bus : BusId) (v : U32) (s : State) : Host.Outcome State Fault Refusal :=
  .next (bridged false (busBase bus + 0x74) v.toNat (inboxConsume bus v) s)

/-! ## HBUS in DORMANT, and the lens poll -/

/-- HBUS_IDLE_TIMEOUT (R350). -/
def execHbusIdleTimeout (s : State) : Host.Outcome State Fault Refusal :=
  .next (if s.mode.mode = .dormant then
    let s1 := reachNow (s.bus.hbusHeard + 100 * Config.ms) s
    s1.setBus .hbus { s1.bus.hbus with engineIdle := true }
  else s)

/-- HBUS_WAKE (R350): the address gets a NACK, SLEEP_NACK_CNT goes up, and the engine wakes. -/
def execHbusWake (address : Byte) (s : State) : Host.Outcome State Fault Refusal := .next (wakeHbus .hbus address.toNat s)

/-- LEN of the lens poll, 1 to 1,024. -/
def Bus.lensBytes (b : Bus) : Nat := max 1 (min 1024 (field b.lensLen 0 11))

/-- Whether the lens poll runs, and finds the engine free (R337, R339, R343). -/
def State.lensDue (s : State) : Bool :=
  let x := s.bus.abus0
  x.lensCtrl.getLsbD 0 && decide (s.mode.mode ≠ .dormant) && s.pdOn 77 && !x.faulted && x.xfer.isNone

/-- The earliest moment of the next poll: GAP_US after the STOP of the last. -/
def lensMoment (s : State) : State := match s.bus.lensStop with
  | some t => reachNow (t + field s.bus.abus0.lensLen 16 16 * Config.us) s
  | none => s

/-- A poll that completes replaces the lens block. -/
def BusUnit.polled (u : BusUnit) (bytes : List Byte) : BusUnit :=
  let x := u.abus0
  { u with lens := padTo 1024 (padTo x.lensBytes bytes), lensFailing := false,
           abus0 := { x with lensOk := true, lensOkCnt := bump32 x.lensOkCnt 1 } }

/-- A poll that ends any other way keeps it. -/
def BusUnit.unpolled (u : BusUnit) : BusUnit :=
  let x := u.abus0
  { u with lensFailing := true, abus0 := { x with lensOk := false, lensFailCnt := bump32 x.lensFailCnt 1 } }

/-- What a poll puts on ABUS0: CMD written to ADDR, and LEN bytes read. -/
def Bus.pollOut (b : Bus) : Out := .busMaster 0 (field b.lensCtrl 8 7) (leBytes 1 (field b.lensCtrl 16 8)) b.lensBytes

/-- A poll runs to its STOP; event 0x0B0D where polls start failing. -/
def pollLens (e : ControllerEnd) (bytes : List Byte) (s : State) : State :=
  let s1 := noteEnd .abus0 e ((seesStart .abus0 s).send s.bus.abus0.pollOut)
  let u := { s1.bus with lensStop := some s1.time.now }
  if e = .done then { s1 with bus := u.polled bytes }
  else if s1.bus.lensFailing then { s1 with bus := u.unpolled }
  else logEvent 0x0B0D (srcBus .abus0) 0 { s1 with bus := u.unpolled }

/-- LENS_POLL (R339). -/
def execLensPoll (ended : ControllerEnd) (bytes : List Byte) (s : State) : Host.Outcome State Fault Refusal :=
  .next (if s.lensDue then pollLens ended bytes (lensMoment s) else s)

/-- PD77 goes off: its engines return to their reset values, as the release of its reset gives them (R402). -/
def abusOff (s : State) : State :=
  { s with power := s.power.setDomain 77 false,
           bus := { s.bus with abus0 := Reset.abus0, abus1 := Reset.abus1, dormantPower := false, lensStop := none, lensFailing := false } }

/-- DORMANT_ABUS_POWER_OFF (R338). -/
def execDormantAbusPowerOff (s : State) : Host.Outcome State Fault Refusal :=
  .next (if s.mode.mode = .dormant ∧ s.bus.dormantPower = true ∧ s.bus.abus0.xfer = none ∧ s.bus.abus1.xfer = none then
      abusOff (reachNow (s.bus.xferEnd + 10 * Config.ms) s)
    else s)

end Sys2Proof.Machine
end

