-- ==== Sys2Proof/Machine/AuxConv.lean ====
section
/-! DEFINITION. The auxiliary converters: passes, the queue, the cross-check and system calibration (R354 to R362). -/

namespace Sys2Proof.Machine

/-- A field of the state as a signed 32-bit register. -/
def signed32 (x : Int) : List Byte := leBytes 4 (intField 32 x)

/-! ## Results -/

/-- The raw result of a group of conversions: the four that count, averaged (R356). -/
def groupMean (c : Int × Int × Int × Int) : Int := (c.1 + c.2.1 + c.2.2.1 + c.2.2.2 + 2) / 4

/-- Whether a channel carries factory trims (R355). -/
def trimmed (channel : Nat) : Bool := decide (channel = 3) || decide (5 ≤ channel ∧ channel ≤ 0x0E)

/-- The result of a group on a channel: the mean, or its trimmed value clamped to 16 bits (R355). -/
def auxValue (channel : Nat) (c : Int × Int × Int × Int) : Int :=
  if trimmed channel then clampInt (-32768) 32767 (Config.auxTrim channel (groupMean c)) else groupMean c

/-- The calibrated reading of a result (R359). -/
def AuxInput.read (i : AuxInput) (c : Int) : Int := ((16 * c - i.z) * i.g + 2 ^ 19) / 2 ^ 20

/-- The input of a number. -/
def AuxUnit.input (a : AuxUnit) (n : Nat) : AuxInput := if n = 0 then a.in0 else a.in1

/-- Replaces an input. -/
def AuxUnit.setInput (a : AuxUnit) (n : Nat) (i : AuxInput) : AuxUnit := if n = 0 then { a with in0 := i } else { a with in1 := i }

/-- The lowest entry of a list that names an input (R360). -/
def entryFor (l : List AuxEntry) (n : Nat) : Option Nat := l.findIdx? fun e => decide (e.channel = n + 1)

/-- XCHK_LIMIT in codes; 0 acts as 1 (Table 14-7). -/
def AuxUnit.limit (a : AuxUnit) : Nat := max 1 (field a.xchkLimit 0 8)

/-- QUEUE_THRESH; 0 acts as 1. -/
def AuxUnit.thresh (a : AuxUnit) : Nat := max 1 (field a.ctrl 8 8)

/-- Queued and not consumed. -/
def AuxUnit.queued (a : AuxUnit) : Nat := (a.produced - a.consumed).toNat

/-- One result enters the queue (R357); the flag says that it was the first loss since QCONSUMED advanced. -/
def AuxUnit.enqueue (a : AuxUnit) (q : AuxQueued) : AuxUnit × Bool :=
  if 256 ≤ a.queued then ({ a with lost := bump32 a.lost 1, lossLogged := true }, !a.lossLogged)
  else ({ a with queue := put a.queue (a.produced.toNat % 256) q, produced := a.produced + 1 }, false)

/-- A capture takes a result of its entry (R360): at most 256, from passes that began after acceptance. -/
def Capture.note (c : Capture) (pass entry : Nat) (v : Int) (xchk : Bool) : Capture :=
  if entry = c.entry ∧ c.fromPass ≤ pass ∧ c.codes.length < 256 then
    { c with codes := c.codes ++ [v], bad := c.bad || xchk || decide (v = -32768) || decide (v = 32767) }
  else c

/-- An input takes a result. -/
def AuxInput.note (i : AuxInput) (pass entry : Nat) (v : Int) (xchk : Bool) : AuxInput :=
  { i with reading := some (i.read v), capture := i.capture.map fun c => c.note pass entry v xchk }

/-- The unit after one result of entry `k`, and whether event 0x0C03 is due. -/
def AuxUnit.result (a : AuxUnit) (k : Nat) (e : AuxEntry) (v : Int) (xchk : Bool) : AuxUnit × Bool :=
  let a1 := { a with results := a.results.set k ⟨v, a.pass.toNat, true, xchk⟩ }
  let a2 := if e.channel = 1 then { a1 with in0 := a1.in0.note a.pass.toNat k v xchk }
    else if e.channel = 2 then { a1 with in1 := a1.in1.note a.pass.toNat k v xchk } else a1
  if e.queue then a2.enqueue ⟨v, e.channel, k, e.converter, xchk, a.pass.toNat⟩ else (a2, false)

/-- A list takes effect (R356): every VALID clears, and no input has a reading. -/
def AuxUnit.setList (a : AuxUnit) (l : List AuxEntry) : AuxUnit :=
  { a with list := l, nextList := none, results := l.map fun _ => ⟨0, 0, false, false⟩,
           in0 := { a.in0 with reading := none, passReading := none },
           in1 := { a.in1 with reading := none, passReading := none } }

/-- The reading of the latest complete pass (R359). -/
def AuxInput.endPass (i : AuxInput) (time : Nat) : AuxInput := { i with passReading := i.reading.map fun v => (v, time) }

/-- A capture ends: the final response, and its input is free. -/
def endCapture (n : Nat) (st : Status) (payload : List Byte) (f : AuxInput → AuxInput) (s : State) : State :=
  let i := s.aux.input n
  match i.capture with
  | none => s
  | some c => finish c.req st 0 payload { s with aux := s.aux.setInput n (f { i with capture := none }) }

/-- The converter and the channel of an entry. -/
def AuxEntry.place (e : AuxEntry) : Nat × Nat := (e.converter, e.channel)

/-- A new list takes effect; a capture whose entry it removes ends with FAILED and event 0x0C13 (R360). -/
def applyList (l : List AuxEntry) (s : State) : State :=
  let removed (n : Nat) : Bool := match (s.aux.input n).capture with
    | none => false
    | some c => decide ((l[c.entry]?.map AuxEntry.place) ≠ (s.aux.list[c.entry]?.map AuxEntry.place))
  let drop (n : Nat) (t : State) : State :=
    if removed n then endCapture n .failed (zeros 8) (fun i => i) (logEvent 0x0C13 srcAux n t) else t
  drop 1 (drop 0 { s with aux := s.aux.setList l })

/-- The queue vector (R357): when the count reaches QUEUE_THRESH, and again only after it fell below. -/
def queueVector (s : State) : State :=
  let a := s.aux
  if a.queued < a.thresh then { s with aux := { a with threshFired := false } }
  else if a.threshFired then s
  else
    let s1 := { s with aux := { a with threshFired := true } }
    if a.ctrl.getLsbD 1 then fire0 25 s1 else s1

/-- The cross-check at the end of a pass (R358). -/
def crossCheck (codeA codeB : Int) (s : State) : State :=
  let a := s.aux
  let bad := decide (a.limit < (codeA - codeB).natAbs)
  let a1 := { a with codeA := codeA, codeB := codeB, xchkFault := bad,
                     xchkFaultCnt := if bad then bump32 a.xchkFaultCnt 1 else a.xchkFaultCnt }
  let s1 := { s with aux := a1 }
  if bad && !a.xchkFault then
    let s2 := logEvent 0x0C01 srcAux (codeA - codeB).natAbs s1
    if a.ctrl.getLsbD 0 then fire0 25 s2 else s2
  else if !bad && a.xchkFault then logEvent 0x0C02 srcAux 0 s1
  else s1

/-- One result of a pass. -/
def takeResult (xchk : Bool) (k : Nat) (e : AuxEntry) (c : Int × Int × Int × Int) (s : State) : State :=
  let r := s.aux.result k e (auxValue e.channel c) xchk
  let s1 := { s with aux := r.1 }
  queueVector (if r.2 then logEvent 0x0C03 srcAux k s1 else s1)

/-- The entries of AUX-B, or those of AUX-A, in list order. -/
def entriesOf (b : Bool) (l : List AuxEntry) : List Nat :=
  (List.range l.length).filter fun k => decide (((l[k]?).map fun e => decide (e.converter ≠ 0)) = some b)

/-- The entries in the order of their conversions: each converter runs its own in list order, and of two at the same instants that of AUX-A comes
first (R356; the order of two is DESIGN CHOICE, log entry 42). -/
def auxOrder (l : List AuxEntry) : List Nat :=
  (List.range l.length).flatMap fun j => ((entriesOf false l)[j]?).toList ++ ((entriesOf true l)[j]?).toList

/-- The results of a pass, as their conversions end. -/
def passResults (xchk : Bool) (l : List AuxEntry) (codes : List (Int × Int × Int × Int)) (s : State) : State :=
  each (auxOrder l) (fun k t => match l[k]?, codes[k]? with
    | some e, some c => takeResult xchk k e c t
    | _, _ => t) s

/-- The length of a pass: 8 × (1 + m) conversions of 100 ns (R356). -/
def passTicks (l : List AuxEntry) : Nat := 80 * (1 + max (entriesOf false l).length (entriesOf true l).length)

/-- AUX_PASS_END (R356 to R359). -/
def auxPass (codes : List (Int × Int × Int × Int)) (codeA codeB : Int) (s0 : State) : State :=
  if !s0.pdOn 72 then s0
  else
    let s := reachNow (s0.aux.passStart + passTicks s0.aux.list) s0
    let xchk := decide (s.aux.limit < (codeA - codeB).natAbs)
    let s1 := crossCheck codeA codeB (passResults xchk s.aux.list codes s)
    let a := s1.aux
    let s2 := { s1 with aux := { a with in0 := a.in0.endPass s.time.module, in1 := a.in1.endPass s.time.module,
                                        pass := a.pass + 1, passStart := s.time.now } }
    match s2.aux.nextList with
    | some l => applyList l s2
    | none => s2

/-- AUX_PASS_END. -/
def execAuxPassEnd (codes : List (Int × Int × Int × Int)) (codeA codeB : Int) (s : State) : Host.Outcome State Fault Refusal :=
  .next (auxPass codes codeA codeB s)

/-- A write of QCONSUMED. -/
def queueConsume (v : U32) (s : State) : State :=
  let a := s.aux
  if !s.pdOn 72 then rejectWrite .pf0 2 0x2401C v.toNat s
  else if (v - a.consumed).toNat ≤ (a.produced - a.consumed).toNat then
    queueVector { s with aux := { a with consumed := v, lossLogged := a.lossLogged && decide (v = a.consumed) } }
  else logEvent 0x0C04 srcAux v.toNat s

/-- QCONSUMED (R357). -/
def execQconsumed (v : U32) (s : State) : Host.Outcome State Fault Refusal :=
  .next (bridged false 0x2401C v.toNat (queueConsume v) s)

/-! ## The sequence list (R356) -/

/-- An entry of a request. -/
def auxEntryOf (e : Byte × Byte × Byte) : AuxEntry := ⟨e.1.toNat, e.2.1.toNat, e.2.2.getLsbD 0⟩

/-- The effect of AUX_SEQUENCE_SET: the list takes effect at the end of the pass in progress, or when PD72 returns. -/
def auxSequenceAct (l : List AuxEntry) (id : ReqId) (s : State) : State :=
  respond id true .ok 0 [] (if s.pdOn 72 then { s with aux := { s.aux with nextList := some l } } else { s with aux := s.aux.setList l })

/-- AUX_SEQUENCE_SET. -/
def execAuxSequenceSet (r : Req) (count : Byte) (entries : List (Byte × Byte × Byte)) (s : State) :
    Host.Outcome State Fault Refusal :=
  .next (command .auxSequenceSet r
    (fun _ => ⟨decide (r.len = 4 + 4 * count.toNat) && decide (entries.length = count.toNat),
      sound r (decide (1 ≤ count.toNat ∧ count.toNat ≤ 32) &&
        entries.all (fun e => decide (e.1.toNat ≤ 1 ∧ e.2.1.toNat ≤ 0x0E ∧ e.2.2.toNat ≤ 1))), true, []⟩)
    (auxSequenceAct (entries.map auxEntryOf)) s)

/-! ## System calibration (R360, R361) -/

/-- The computation of POINT 2: the offset and the gain, where they pass the limits of R361. -/
def sysCal (z f full : Int) : Option (Int × Int) :=
  let span := f - z
  let g := (full * 2 ^ 20 + span / 2) / span
  if z.natAbs ≤ 32768 ∧ 16384 ≤ span ∧ g.natAbs ≤ 2 ^ 31 - 1 then some (z, g) else none

/-- POINT 2: both captures are used up; a pair that passes is installed and stored twice. -/
def sysCalCompute (n : Nat) (z f full : Int) (id : ReqId) (s : State) : State :=
  let i := s.aux.input n
  let i0 := { i with zeroSum := none, fullSum := none }
  match sysCal z f full with
  | some p =>
    finish id .ok 0 (signed32 p.2 ++ signed32 p.1)
      (logEvent 0x0C10 srcAux n
        { s with aux := s.aux.setInput n { i0 with z := p.1, g := p.2, copy1 := ⟨p.1, p.2, 0⟩, copy2 := ⟨p.1, p.2, 0⟩ } })
  | none => finish id .failed 0 (zeros 8) (logEvent 0x0C11 srcAux n { s with aux := s.aux.setInput n i0 })

/-- An input without its converters: no reading. -/
def AuxInput.deaf (i : AuxInput) : AuxInput := { i with reading := none, passReading := none }

/-- PD72 comes on: passes run from pass 1, with the list that the conductor core kept (R356). -/
def auxOn (s : State) : State :=
  if s.pdOn 72 then s
  else { s with power := s.power.setDomain 72 true, aux := { (s.aux.setList (s.aux.nextList.getD s.aux.list)) with pass := 1, passStart := s.time.now } }

/-- PD72 goes off: its registers and its queue return to their reset values, as the release of its reset gives them (R402); the conductor core keeps
the list, and the calibration of the inputs. -/
def auxOff (s : State) : State :=
  let a := s.aux
  { s with power := s.power.setDomain 72 false,
           aux := { (Reset.aux.setList (a.nextList.getD a.list)) with in0 := a.in0.deaf, in1 := a.in1.deaf } }

/-- PD72 goes off in DORMANT when no capture needs it (R401). -/
def auxRest (s : State) : State :=
  if s.mode.mode = .dormant ∧ s.aux.in0.capture = none ∧ s.aux.in1.capture = none then auxOff s else s

/-- A capture begins (R360); in DORMANT the module powers PD72 for it (R361). -/
def sysCalCapture (n point : Nat) (full : Int) (entry : Nat) (id : ReqId) (s : State) : State :=
  let s1 := auxOn s
  let i := s1.aux.input n
  let first := if s.pdOn 72 then s1.aux.pass.toNat + 1 else 1
  { s1 with aux := s1.aux.setInput n { i with capture := some ⟨id, point, full, entry, first, [], false⟩ } }

/-- The effect of AUX_SYSCAL. -/
def auxSyscalAct (n point : Nat) (full : Int) (id : ReqId) (s : State) : State :=
  let i := s.aux.input n
  match entryFor s.aux.list n with
  | none => respond id true .badParam 0 [] s
  | some e =>
    if (point = 1 ∧ full = 0) ∨ (point ≠ 1 ∧ full ≠ 0) then respond id true .badParam 0 [] s
    else if point = 2 then
      match i.zeroSum, i.fullSum with
      | some z, some (f, fs) => sysCalCompute n z f fs id (accept id [.auxin n] 0 s)
      | _, _ => respond id true .badParam 0 [] s
    else sysCalCapture n point full e id (accept id [.auxin n] 0 s)

/-- AUX_SYSCAL. -/
def execAuxSyscal (r : Req) (input point : Byte) (fullScale : U32) (s : State) : Host.Outcome State Fault Refusal :=
  .next (command .auxSyscal r
    (fun _ => fixed r 8 (decide (input.toNat ≤ 1 ∧ point.toNat ≤ 2)) true [.auxin input.toNat])
    (auxSyscalAct input.toNat point.toNat fullScale.toInt) s)

/-- The widest difference of some codes. -/
def spread (l : List Int) : Int := (l.foldl max (l.headD 0)) - (l.foldl min (l.headD 0))

/-- AUX_SYSCAL_CAPTURE_DONE: 256 results are in (R360). -/
def captureDone (n : Nat) (s : State) : State :=
  match (s.aux.input n).capture with
  | none => s
  | some c =>
    if c.codes.length < 256 then s
    else if c.bad || decide (64 < spread c.codes) then
      auxRest (endCapture n .failed (zeros 8) (fun i => i) (logEvent 0x0C11 srcAux n s))
    else
      let v := (c.codes.foldl (· + ·) 0 + 8) / 16
      auxRest (endCapture n .ok (zeros 4 ++ signed32 v)
        (fun i => if c.point = 0 then { i with zeroSum := some v } else { i with fullSum := some (v, c.fullScale) }) s)

/-- AUX_SYSCAL_CAPTURE_DONE. -/
def execAuxSyscalCaptureDone (input : Fin 2) (s : State) : Host.Outcome State Fault Refusal := .next (captureDone input.val s)

/-- At a reset the module loads the first copy of an input's calibration that passes its check; with neither, the defaults and event
0x0C12 (R361). -/
def loadSysCal (n : Nat) (s : State) : State :=
  let i := s.aux.input n
  match [i.copy1, i.copy2].find? fun c => decide (c.upset = 0) with
  | some c => { s with aux := s.aux.setInput n { i with z := c.z, g := c.g } }
  | none => logEvent 0x0C12 srcAux n { s with aux := s.aux.setInput n { i with z := 0, g := 65536 } }

end Sys2Proof.Machine
end

