-- ==== Sys2Proof/Machine/Photosite.lean ====
section
/-! DEFINITION. The self-resetting photosite (chapter 2): calibration words, thresholds, exposure windows, self-resets, transfer
and folds, and the tile temperatures. -/

namespace Sys2Proof.Machine

/-! ## Variant and array -/

/-- Whether the module is MF-9170M: VARIANT of fuse zone 0 (Table 15-5). -/
def State.mono (s : State) : Bool := decide (s.fuse.word 0 2 % 256 = 1)

/-- Whether a photosite is readable (R21). -/
def readable (x y : Nat) : Bool := decide (x < Config.readCols) && decide (y < Config.readRows)

/-- Whether a photosite is active (R21). -/
def active (x y : Nat) : Bool := decide (64 ≤ x ∧ x ≤ 18495) && decide (32 ≤ y ∧ y ≤ 9247)

/-- The stitch tile of a photosite (Table 2-2). -/
def tileOf (x y : Nat) : Nat := x / 4640 + (if y < 4640 then 0 else 4)

/-- The code of the colour filter of a photosite (R23, Table 2-4). -/
def cfaOf (mono : Bool) (x y : Nat) : Nat := if mono then 0 else x % 2 + 2 * (y % 2)

/-! ## Calibration words (R39) -/

/-- DARK_OFS. -/
def wordDark (w : BitVec 48) : Nat := w.toNat % 2 ^ 12

/-- GAIN. -/
def wordGain (w : BitVec 48) : Nat := w.toNat / 2 ^ 12 % 2 ^ 12

/-- STEP. -/
def wordStep (w : BitVec 48) : Nat := w.toNat / 2 ^ 24 % 2 ^ 16

/-- DEF. -/
def wordDef (w : BitVec 48) : Bool := w.getLsbD 40

/-- RST_BAD. -/
def wordRstBad (w : BitVec 48) : Bool := w.getLsbD 41

/-- BLK_EXCL. -/
def wordExcl (w : BitVec 48) : Bool := w.getLsbD 42

/-- Whether a word holds an odd number of ones. -/
def oddOnes (w : BitVec 48) : Bool := (List.range 48).foldl (fun a i => a ^^ w.getLsbD i) false

/-- A word with PAR set so that the number of ones is odd. -/
def withParity (w : BitVec 48) : BitVec 48 := if oddOnes w then w else w ^^^ (1 <<< 47)

/-- The common word of a set as it stands at a photosite: CFA of the site, and PAR. -/
def placeWord (mono : Bool) (w : BitVec 48) (x y : Nat) : BitVec 48 :=
  withParity ((w &&& 0x07FFFFFFFFFF) ||| BitVec.ofNat 48 (cfaOf mono x y * 2 ^ 43))

/-- The calibration word of a photosite. -/
def WordMap.at (m : WordMap) (mono : Bool) (x y : Nat) : BitVec 48 :=
  match look m.except (x, y) with
  | some w => w
  | none => placeWord mono m.common x y

/-! ## Thresholds (R25, R27) -/

/-- The programmed threshold q_th in electrons. -/
def qth (code : Nat) : Nat := 4000 + 50 * code

/-- A reset step, in 1/32,768 electron. -/
def stepCharge (code : Nat) (w : BitVec 48) : Nat := qth code * wordStep w

/-- Charge with one reset step removed. A well that holds less than the step asked of it, which no sound photosite reaches (R24),
is left with a charge that the manual does not state: the free value k. -/
def takeStep (c step k : Nat) : Nat := if step ≤ c then c - step else Config.freeCharge k

/-! ## Sites -/

def clearNode : NodeState := ⟨0, 0, false, false⟩

/-- A photosite with nothing in it. -/
def clearSite : Site := ⟨0, 0, false, false, clearNode, clearNode⟩

/-- The photosite at a place. -/
def SensorUnit.site (u : SensorUnit) (x y : Nat) : Site := (look u.sites (x, y)).getD clearSite

/-- Replaces a photosite; one with nothing in it is not listed. -/
def SensorUnit.setSite (u : SensorUnit) (x y : Nat) (p : Site) : SensorUnit :=
  { u with sites := if p = clearSite then del u.sites (x, y) else put u.sites (x, y) p }

/-- A node of a photosite. -/
def Site.node (p : Site) (n : Node) : NodeState := match n with
  | .a => p.a
  | .b => p.b

/-- Replaces a node of a photosite. -/
def Site.setNode (p : Site) (n : Node) (v : NodeState) : Site := match n with
  | .a => { p with a := v }
  | .b => { p with b := v }

/-- The start of a window (R31): photodiode, tally and latches clear. -/
def Site.fresh (p : Site) : Site := { p with well := 0, tally := 0, sat := false, run := false }

/-- One self-reset (R24, R28, R29): `well` is the charge at the threshold, `still` whether it stands at or above the threshold at the
end of the dead time. A saturated photosite resets no more. -/
def Site.selfReset (p : Site) (well step k : Nat) (still : Bool) : Site :=
  if p.sat then { p with well := well }
  else if 63 ≤ p.tally then { p with well := well, sat := true }
  else { p with well := takeStep well step k, tally := p.tally + 1, run := p.run || still }

/-- One fold (R33, R34): a step leaves the node, and its tally goes up, or SAT is set. -/
def NodeState.fold (v : NodeState) (step k : Nat) : NodeState :=
  let c := takeStep v.charge step k
  if 63 ≤ v.tally then { v with charge := c, sat := true } else { v with charge := c, tally := v.tally + 1 }

/-- Whether a sum stands at the threshold of its photosite, which lies from 98.5 % to 100.0 % of q_th (R26): between the two the comparator
decides. -/
def atThreshold (code charge : Nat) (asks : Bool) : Bool :=
  decide (32768 * qth code ≤ charge) || (asks && decide (985 * 32768 * qth code ≤ 1000 * charge))

/-- At most two folds, each while the sum stands at the threshold (R33). -/
def NodeState.folded (v : NodeState) (code folds step k : Nat) : NodeState :=
  if atThreshold code v.charge (decide (1 ≤ folds)) then
    let w := v.fold step k
    if atThreshold code w.charge (decide (2 ≤ folds)) then w.fold step (k + 1) else w
  else v

/-- The transfer at the end of a window (R32, R34): the residual and the tally go into the node, and the latches are joined. -/
def NodeState.receive (v : NodeState) (p : Site) : NodeState :=
  { charge := v.charge + p.well, tally := if v.tally + p.tally ≤ 63 then v.tally + p.tally else v.tally,
    sat := v.sat || p.sat || decide (63 < v.tally + p.tally), run := v.run || p.run }

/-- The transfer of one photosite: a node that holds charge from an earlier window of the frame folds (R33). -/
def Site.transfer (p : Site) (n : Node) (code well folds step k : Nat) : Site :=
  let q := { p with well := well }
  let v := (q.node n).receive q
  { (q.setNode n (if (q.node n).charge = 0 then v else v.folded code folds step k)) with well := 0 }

/-- The read of a node (R35): it is cleared. -/
def Site.cleared (p : Site) (n : Node) : Site := p.setNode n clearNode

/-! ## Tile temperatures (R45 to R47) -/

/-- The temperature factor of a tile (R45). -/
def tempFactor (tCode tCal : Int) : Nat := (clampInt 8192 32767 (16384 + 16 * (tCode - tCal))).toNat

/-- Insertion of a number into a rising list. -/
def insertInt (x : Int) : List Int → List Int
  | [] => [x]
  | y :: ys => if x ≤ y then x :: y :: ys else y :: insertInt x ys

/-- The list in rising order. -/
def sortInts (l : List Int) : List Int := l.foldr insertInt []

/-- The middle number of an odd count. -/
def median (l : List Int) : Int := (sortInts l).getD (l.length / 2) 0

/-- The median of the seven sensors beside sensor t. -/
def medianOthers (codes : List Int) (t : Nat) : Int := median (codes.eraseIdx t)

/-- Whether sensor t is faulty (R47): outside −40 °C to +85 °C, or more than 5 °C from the median of the other seven. -/
def sensorFaulty (codes : List Int) (t : Nat) : Bool :=
  let c := codes.getD t 0
  decide (c < -640) || decide (1360 < c) || decide (80 < (c - medianOthers codes t).natAbs)

/-- The codes to latch, with the median where a sensor is faulty (R47). -/
def substituted (codes : List Int) (faulty : List Bool) : List Int :=
  (List.range 8).map fun t => if faulty.getD t false then medianOthers codes t else codes.getD t 0

end Sys2Proof.Machine
end

