-- ==== Sys2Proof/Machine/Column.lean ====
section
/-! DEFINITION. Column conversion (chapter 3): which slice converts a column, the column arithmetic, the turns of spare slices and
their corrections, and the retirement of slices. -/

namespace Sys2Proof.Machine

/-! ## Banks, segments and slices (R50 to R55) -/

/-- 0 for bank T and 1 for bank B. -/
def bankNum (b : Bank) : Nat := match b with
  | .top => 0
  | .bottom => 1

/-- slice_id (R53). -/
def sliceId (bank k j p : Nat) : Nat := 1392 * bank + 174 * k + 6 * j + p

/-- The segment of a slice: T0 to T7 are 0 to 7, B0 to B7 are 8 to 15. -/
def segmentOf (id : Nat) : Nat := id / 174

/-- The set of a slice, counted over the module, and its slot. -/
def setOf (id : Nat) : Nat := id / 6
def slotOf (id : Nat) : Nat := id % 6

/-- ρ(N) (R54). -/
def rotation (n k : Nat) : Nat := n / k % 6

/-- The correction of a slice. -/
def CorrMap.at (m : CorrMap) (id : Nat) : SliceCorr := (look m.except id).getD m.common

/-- Replaces the correction of a slice. -/
def CorrMap.set (m : CorrMap) (id : Nat) (c : SliceCorr) : CorrMap :=
  { m with except := if c = m.common then del m.except id else put m.except id c }

/-- The retired slots of a set. -/
def CorrMap.retiredIn (m : CorrMap) (set : Nat) : List Nat := (List.range 6).filter fun p => (m.at (6 * set + p)).retired

/-- The slot that serves group g of a set (R53, R71); none where the set has no slice left for the group. -/
def slotFor (retired : List Nat) (rho g : Nat) : Option Nat :=
  if retired = [] then some (if g < rho then g else g + 1)
  else ((List.range 6).filter fun p => decide (p ∉ retired))[g]?

/-- The slice that converts column x in a bank (R53, R71). -/
def sliceFor (m : CorrMap) (rho : Nat) (b : Bank) (x : Nat) : Option Nat :=
  let k := x / 2320
  let q := x % 2320 / 16
  let set := sliceId (bankNum b) k (q / 5) 0 / 6
  (slotFor (m.retiredIn set) rho (q % 5)).map fun p => 6 * set + p

/-- The slices that a set's rotation holds out of service: slot ρ of each set without a retired slice. -/
def CorrMap.turning (m : CorrMap) (rho : Nat) : List Nat :=
  ((List.range 464).filter fun j => decide (m.retiredIn j = [])).map fun j => 6 * j + rho

/-! ## Column arithmetic (R58 to R66) -/

/-- A number of a sparse row. -/
def sparseAt (c : Sparse) (x : Nat) : Nat := (look c.except x).getD c.common

/-- The corrected code, in 1/16 reference code. -/
def refCode (c ofs gain : Nat) : Int := ((16 * (c : Int) - ofs) * gain + 16384) / 32768

/-- The dark offset at a tile's temperature, in 1/16 reference code. -/
def dark16 (w : BitVec 48) (fq : Nat) : Int := ((wordDark w : Int) * fq + 8192) / 16384

/-- The residual in 1/16 electron: `g` is (14,336 + GAIN), or the sum of two of them. -/
def residual16 (r16 : Int) (g : Nat) : Int := (r16 * g * 45875 + 2 ^ 29) / 2 ^ 30

/-- The tally's charge in 1/16 electron. -/
def tally16 (t qth : Nat) (w : BitVec 48) : Int := ((t : Int) * qth * wordStep w + 1024) / 2048

/-- A value between 0 and the largest that arithmetic gives. -/
def clampValue (v : Int) : Nat := (clampInt 0 Config.maxValue v).toNat

/-- A photosite as the column arithmetic meets it. -/
structure SiteRead where
  word : BitVec 48
  fq : Nat
  tally : Nat
  sat : Bool
  run : Bool
  /-- The word failed parity in the frame (R44). -/
  parity : Bool
  /-- In the optical black. -/
  black : Bool
  deriving DecidableEq, Repr

/-- A defect in the sense of R60. -/
def SiteRead.defect (p : SiteRead) : Bool := wordDef p.word || p.parity || (wordRstBad p.word && decide (0 < p.tally))

/-- A site that reads 0xFFFFFD where neither latch is set: a defect, or one left out of black tracking (R63). -/
def SiteRead.out (p : SiteRead) : Bool := p.defect || (p.black && wordExcl p.word)

/-- The precedence of R38, R60 and R65 over some photosites: RUN, SAT, defect, arithmetic. -/
def withCodes (ps : List SiteRead) (missing : Bool) (v : Nat) : Nat :=
  if ps.any (·.run) then Config.codeRun
  else if ps.any (·.sat) then Config.codeSat
  else if missing || ps.any SiteRead.out then Config.codeDefect
  else v

/-- The value of one node read of an unbinned photosite (R60): the code and the single-span correction. -/
def stackValue (c ofs gain qth : Nat) (p : SiteRead) : Nat :=
  let r16 := refCode c ofs gain - dark16 p.word p.fq
  clampValue (1024 + tally16 p.tally qth p.word + residual16 r16 (14336 + wordGain p.word))

/-- The residual of a vertical pair (R64). -/
def pairResidual (c ofs gain : Nat) (top bottom : SiteRead) : Int :=
  residual16 (refCode c ofs gain - dark16 top.word top.fq - dark16 bottom.word bottom.fq)
    (28672 + wordGain top.word + wordGain bottom.word)

/-- A 2×2 binned value (R64): two codes, the double-span correction, and the photosites p1 to p4. -/
def binnedValue (ca cb ofs gain qth : Nat) (p1 p2 p3 p4 : SiteRead) : Nat :=
  let total := tally16 p1.tally qth p1.word + tally16 p2.tally qth p2.word + tally16 p3.tally qth p3.word
    + tally16 p4.tally qth p4.word + pairResidual ca ofs gain p1 p2 + pairResidual cb ofs gain p3 p4
  clampValue (1024 + (total + 2) / 4)

/-- The groups of a segment, counted within it, that have no slice and so no conversion (R71). -/
def CorrMap.unserved (m : CorrMap) (rho : Nat) (b : Bank) (k : Nat) : List Nat :=
  let sets := if m.common.retired then List.range 464 else (m.except.map fun e => setOf e.1).eraseDups
  (sets.filter fun j => decide (j / 29 = 8 * bankNum b + k)).flatMap fun j =>
    ((List.range 5).filter fun g => (slotFor (m.retiredIn j) rho g).isNone).map fun g => 5 * (j % 29) + g

/-- Columns of a segment whose code is the largest, without those of the groups that have no conversion (R66, R71). -/
def overRange (c : Sparse) (none : List Nat) (k : Nat) : Nat :=
  let inside := c.except.filter fun e => decide (e.1 / 2320 = k) && decide (e.1 % 2320 / 16 ∉ none)
  let full := (inside.filter fun e => decide (e.2 = Config.maxCode)).length
  if c.common = Config.maxCode then 2320 - 16 * none.length - inside.length + full else full
/-! ## Turns (R67 to R70) -/

/-- A set with nothing in it. -/
def noSet : CalSet := ⟨0, 0, [], 0, ⟨0, []⟩, [], [], [], 0, 0, 0, 0, []⟩

/-- The copy that the pointer record names. -/
def CalUnit.inForce (c : CalUnit) : Option CalSet := if c.useB then c.copyB else c.copyA

/-- The installed calibration set; without a valid copy READY cannot be entered (R365). -/
def State.calSet (s : State) : CalSet := s.cal.inForce.getD noSet

/-- The four targets of a span. -/
def CalSet.targets (c : CalSet) (isDouble : Bool) (segment : Nat) : Targets :=
  (if isDouble then c.double else c.single).getD segment ⟨0, 0, 0, 0⟩

/-- The sums of a span of one slice over n passes. -/
structure TurnSums where
  n : Nat
  lo : Nat
  m1 : Nat
  m2 : Nat
  hi : Nat
  /-- The widest spread of the REF_LO codes of a pass. -/
  noise : Nat
  deriving DecidableEq, Repr

/-- What a turn gives a span (R68). -/
structure TurnResult where
  d : Int
  gain : Int
  ofs : Int
  err1 : Int
  err2 : Int
  deriving DecidableEq, Repr

/-- R68. -/
def turnResult (u : TurnSums) (t : Targets) : TurnResult :=
  let m16 (sum : Nat) : Int := ((sum : Int) + 2 * u.n) / (4 * u.n)
  let d := m16 u.hi - m16 u.lo
  let gain := (32768 * ((t.hi : Int) - t.lo) + d / 2) / d
  let ofs := m16 u.lo - ((t.lo : Int) * 32768 + gain / 2) / gain
  let err (m : Int) (tgt : Nat) : Int := ((m - ofs) * gain + 16384) / 32768 - tgt
  ⟨d, gain, ofs, err (m16 u.m1) t.m1, err (m16 u.m2) t.m2⟩

/-- The number of the first check of Table 3-3 that fails, from 1 to 6; 0 where all pass. The drift check is left out at an entry
calibration (R74). -/
def turnCheck (u : TurnSums) (r : TurnResult) (ofs gain : Nat) (drift : Bool) : Nat :=
  if r.d ≤ 0 then 1
  else if r.gain < 0x7C00 ∨ 0x8400 < r.gain then 2
  else if r.ofs < 0 ∨ 4095 < r.ofs then 3
  else if 32 < r.err1.natAbs ∨ 32 < r.err2.natAbs then 4
  else if 12 < u.noise then 5
  else if drift ∧ (0x80 < (r.gain - gain).natAbs ∨ 64 < (r.ofs - ofs).natAbs) then 6
  else 0

/-- The offset of a span. -/
def SliceCorr.ofs (c : SliceCorr) (isDouble : Bool) : Nat := if isDouble then c.ofs2 else c.ofs1

/-- The gain of a span. -/
def SliceCorr.gain (c : SliceCorr) (isDouble : Bool) : Nat := if isDouble then c.gain2 else c.gain1

/-- Replaces the correction of a span. -/
def SliceCorr.setSpan (c : SliceCorr) (isDouble : Bool) (ofs gain : Nat) : SliceCorr :=
  if isDouble then { c with ofs2 := ofs, gain2 := gain } else { c with ofs1 := ofs, gain1 := gain }

/-- The codes of a slice in one reference period. -/
def RefCodes.of (r : RefCodes) (id : Nat) : List Nat := (look r.except id).getD (List.replicate 16 r.common)

/-- The sum of some numbers. -/
def sumNat (l : List Nat) : Nat := l.foldl (· + ·) 0

/-- The spread of some numbers. -/
def spreadNat (l : List Nat) : Nat := l.foldl max 0 - l.foldl min (l.headD 0)

/-- The codes of periods from to to + 3 of a pass. -/
def levelCodes (pass : List RefCodes) (lo id : Nat) : List Nat := ((pass.drop lo).take 4).flatMap fun r => r.of id

/-- The sums of a slice over the passes kept. -/
def passSums (passes : List (List RefCodes)) (id : Nat) : TurnSums :=
  let sum (lo : Nat) := sumNat (passes.map fun p => sumNat (levelCodes p lo id))
  { n := passes.length, lo := sum 0, m1 := sum 4, m2 := sum 8, hi := sum 12,
    noise := (passes.map fun p => spreadNat (levelCodes p 0 id)).foldl max 0 }

/-- One span of a slice after a turn or a calibration: the slice with the new correction, or the number of the check that fails. -/
def spanTurn (c : SliceCorr) (isDouble drift : Bool) (u : TurnSums) (t : Targets) : Nat × SliceCorr :=
  let r := turnResult u t
  let k := turnCheck u r (c.ofs isDouble) (c.gain isDouble) drift
  if k = 0 then (0, c.setSpan isDouble r.ofs.toNat r.gain.toNat) else (k, c)

/-- DATA of an event about a slice and a check: slice_id in [15:0] and the check in [23:16] (log entry 13). -/
def sliceData (id check : Nat) : Nat := id + 65536 * check

/-- A failed turn (R70): event 0x0320, and retirement at the next boundary after the third in a row. -/
def turnFailed (id check : Nat) (s : State) : State :=
  let c := s.conv.corr.at id
  let s1 := logEvent 0x0320 (srcSlice id) (sliceData id check) { s with conv := { s.conv with
    corr := s.conv.corr.set id { c with fails := c.fails + 1 } } }
  if 2 ≤ c.fails then { s1 with conv := { s1.conv with retireDue := s1.conv.retireDue ++ [(id, 0x0322)] } } else s1

/-- The turn of a slice ends (R68 to R70): each span in which it completed a pass is judged; both pass, or it has failed. Where one span
passes and the other fails, the turn has failed, and the correction of the span that passes is replaced (DESIGN CHOICE, log entry 67: R69
judges the result of a turn and replaces the correction of a span). -/
def turnOf (id : Nat) (spans : List (Bool × TurnSums)) (drift : Bool) (s : State) : State :=
  let set := s.calSet
  let judge (acc : Nat × SliceCorr) (p : Bool × TurnSums) : Nat × SliceCorr :=
    let r := spanTurn acc.2 p.1 drift p.2 (set.targets p.1 (segmentOf id))
    (if acc.1 = 0 then r.1 else acc.1, r.2)
  let (check, c) := spans.foldl judge (0, s.conv.corr.at id)
  if check = 0 then { s with conv := { s.conv with corr := s.conv.corr.set id { c with fails := 0 } } }
  else turnFailed id check { s with conv := { s.conv with corr := s.conv.corr.set id c } }

/-- An incomplete turn (R70): the failure count and the correction of the span in force stay. A pass that the turn completed in the other span
still gives that span its correction, where it passes (R68, Table 3-4). -/
def incompleteTurn (id : Nat) (spans : List (Bool × TurnSums)) (s : State) : State :=
  let take (c : SliceCorr) (p : Bool × TurnSums) : SliceCorr := (spanTurn c p.1 true p.2 (s.calSet.targets p.1 (segmentOf id))).2
  { s with conv := { s.conv with corr := s.conv.corr.set id (spans.foldl take (s.conv.corr.at id)) } }

/-- Slices return to service at a boundary (R68): their turn is judged, or it is incomplete (event 0x0321). The span in force decides that. -/
def endTurn (isDouble : Bool) (ids : List Nat) (s : State) : State :=
  let v := s.conv
  let spans (id : Nat) : List (Bool × TurnSums) :=
    (if v.single = [] then [] else [(false, passSums v.single id)]) ++ (if v.double = [] then [] else [(true, passSums v.double id)])
  if ids = [] then s
  else if (if isDouble then v.double else v.single) = []
    then each ids (fun id t => incompleteTurn id (spans id) t) (logEvent 0x0321 (srcSegment 0) (v.turn.getD 0) s)
  else each ids (fun id t => turnOf id (spans id) true t) s

/-! ## Retirement (R70 to R74) -/

/-- Retires a slice at a boundary: the generation goes up, the event is logged, and a group left without a slice gives event 0x0324
when it first occurs. -/
def retireSlice (id code : Nat) (s : State) : State :=
  let v := s.conv
  let c := v.corr.at id
  if c.retired then s
  else
    let v1 := { v with corr := v.corr.set id { c with retired := true }, retireGen := (v.retireGen + 1) % 2 ^ 16,
                       dead := del v.dead id }
    let s1 := logEvent code (srcSlice id) id { s with conv := v1 }
    let set := setOf id
    if 2 ≤ (v1.corr.retiredIn set).length then
      logEvent 0x0324 (srcSlice id) set { s1 with conv := { s1.conv with short := set :: s1.conv.short } }
    else s1

/-- The slices that return to service at the boundary where a frame takes rotation position r, and some retirements fall due: all that are out
where the position changes; else those whose set stops to rotate, and that are not retired themselves (R68, R71). -/
def ConvUnit.returning (v : ConvUnit) (r : Nat) (due : List (Nat × Nat)) : List Nat := match v.turn with
  | none => []
  | some q =>
    let out := v.corr.turning q
    if q = r then out.filter fun id => (due.any fun p => decide (setOf p.1 = setOf id)) && !(due.any fun p => decide (p.1 = id)) else out

/-- The boundary of a frame with rotation position r: turns end, and what was due to retire retires (R68, R70 to R72). -/
def turnTo (isDouble : Bool) (r : Nat) (s : State) : State :=
  let due := s.conv.retireDue
  let s1 := endTurn isDouble (s.conv.returning r due) { s with conv := { s.conv with retireDue := [] } }
  let s2 := each due (fun p t => retireSlice p.1 p.2 t) s1
  if s.conv.turn = some r then s2 else { s2 with conv := { s2.conv with turn := some r, single := [], double := [] } }

/-- Whether 16 columns of a group all return code 0 or 18,431. -/
def deadGroup (c : Sparse) (q : Nat) : Bool :=
  (List.range 16).all fun i => decide (sparseAt c (16 * q + i) = 0) || decide (sparseAt c (16 * q + i) = Config.maxCode)

/-- The groups of a row that could be dead: all of them where the common code is 0 or 18,431, else those with an odd column. -/
def suspectGroups (c : Sparse) : List Nat :=
  if c.common = 0 ∨ c.common = Config.maxCode then List.range 1160 else (c.except.map fun e => e.1 / 16).eraseDups

/-- The test of the in-service slices on one optical-black row of a bank (R72): the counts of consecutive dead rows. A slice that
reaches eight is retired at the next boundary. The eight may span two frames, and the columns of a row may mix code 0 and code 18,431 (DESIGN
CHOICE, log entry 67: R72 states neither). -/
def deadTest (b : Bank) (rho : Nat) (c : Sparse) (v : ConvUnit) : ConvUnit :=
  let bad := ((suspectGroups c).filter fun q => deadGroup c q).filterMap fun q => sliceFor v.corr rho b (16 * q)
  let kept := v.dead.filter fun p => decide (segmentOf p.1 / 8 ≠ bankNum b) || decide (p.1 ∈ bad)
  let counted := bad.foldl (fun l id => put l id ((look l id).getD 0 + 1)) kept
  let due := (counted.filter fun p => decide (8 ≤ p.2)).map fun p => (p.1, 0x0323)
  { v with dead := counted, retireDue := v.retireDue ++ due.filter fun p => decide (p ∉ v.retireDue) }

/-! ## Calibration of the slices outside a readout (R74) -/

/-- The sums of a span as a turn of sixteen passes. -/
def spanSums (u : SpanSums) : TurnSums := ⟨16, u.lo, u.m1, u.m2, u.hi, u.noise⟩

/-- The sums of a slice. -/
def sumsOf (c : CalSums) (id : Nat) : SliceSums := (look c.except id).getD c.common

/-- One slice calibrates in both spans. A slice that passes is in service, with event 0x0325 where it was retired. One that fails is
retired at an entry to READY; with the drift check it keeps its correction, and the failure counts as a failed turn. -/
def calibrateSlice (drift : Bool) (sums : CalSums) (id : Nat) (s : State) : State :=
  let u := sumsOf sums id
  let set := s.calSet
  let c0 := s.conv.corr.at id
  let a := spanTurn c0 false drift (spanSums u.single) (set.targets false (segmentOf id))
  let b := spanTurn a.2 true drift (spanSums u.double) (set.targets true (segmentOf id))
  if a.1 = 0 ∧ b.1 = 0 then
    let s1 := { s with conv := { s.conv with corr := s.conv.corr.set id { b.2 with fails := 0, retired := false } } }
    if c0.retired then logEvent 0x0325 (srcSlice id) id s1 else s1
  else if drift then (if c0.retired then s else turnFailed id (if a.1 = 0 then b.1 else a.1) s)
  else retireSlice id 0x0322 s

/-- Every slice calibrates. A turn in progress ends with it, and its passes go: every slice has a fresh result (DESIGN CHOICE, log entry 67: R74
says nothing of the passes kept). -/
def calibrateSlices (drift : Bool) (sums : CalSums) (s : State) : State :=
  let s1 := each (List.range Config.slices) (calibrateSlice drift sums) s
  { s1 with conv := { s1.conv with lastCal := s1.time.now, turn := none, single := [], double := [] } }

/-! ## Calibration words (R41, R42) -/

/-- The words of the set in force load into all tiles. A tile whose CRC fails is loaded once more; event 0x0310 where it fails again. The second
part says that every tile passes. -/
def loadWords (once twice : List Nat) (s : State) : State × Bool :=
  let n := ((List.range 8).filter fun t => decide (t ∈ once) || decide (t ∈ twice)).length
  let c := { s.cal with loadCnt := bump32 s.cal.loadCnt 1, loadRetryCnt := bump32 s.cal.loadRetryCnt n }
  let bad := (List.range 8).filter fun t => decide (t ∈ twice)
  match s.cal.inForce with
  | none => (s, false)
  | some set =>
    if bad = [] then
      ({ s with cal := { c with wordsLoaded := true }, sensor := { s.sensor with words := set.words } }, true)
    else (each bad (fun t x => logEvent 0x0310 (srcTile t) t x) { s with cal := c }, false)

end Sys2Proof.Machine
end

