-- ==== Sys2Proof/Machine/Timing.lean ====
section
/-! DEFINITION. Frame timing (chapter 4): geometry and readout time, nominal and shortest periods, the rules on exposure programs, and
the placing of boundaries (R78 to R97, R131, R312 to R314). Times are in ticks of 10 ns. -/

namespace Sys2Proof.Machine

/-! ## Geometry (R79, R114) -/

/-- Whether a program names SN-B (R88). -/
def Program.twin (p : Program) : Bool := p.entries.any fun e => decide (e.node = .b)

/-- Row-pair periods of one plane. -/
def SensorSet.planePairs (x : SensorSet) : Nat := (x.window.h + 64 + 2 * x.bin - 1) / (2 * x.bin)

/-- n_pairs (R79). -/
def SensorSet.pairs (x : SensorSet) : Nat := if x.program.twin then 2 * x.planePairs else x.planePairs

/-- T_min in ticks: 166.4 µs and 1.760 µs for each row-pair period (R79). -/
def SensorSet.tMin (x : SensorSet) : Nat := 16640 + 176 * x.pairs

/-- OUT_W and OUT_H (R114). -/
def SensorSet.outW (x : SensorSet) : Nat := x.window.w / x.bin
def SensorSet.outH (x : SensorSet) : Nat := x.window.h / x.bin

/-- Payload bytes of a row. -/
def SensorSet.rowBytes (x : SensorSet) : Nat := x.outW * (if x.program.twin then 6 else 3)

/-- PAYLOAD_LEN of a complete record (R114). -/
def SensorSet.payloadLen (x : SensorSet) : Nat := x.rowBytes * x.outH

/-- Pages of a record: the header, the metadata page and the payload. -/
def SensorSet.recordPages (x : SensorSet) : Nat := 2 + (x.payloadLen + 4095) / 4096

/-- record_bytes (R114). -/
def SensorSet.recordBytes (x : SensorSet) : Nat := 4096 * x.recordPages

/-- Whether two settings read the same geometry, binning and twin flag (R98). -/
def SensorSet.sameReadout (x y : SensorSet) : Bool :=
  decide (x.window = y.window) && decide (x.bin = y.bin) && decide (x.program.twin = y.program.twin)

/-! ## Periods -/

/-- GENLOCK operation (Table 4-2, R91). -/
def SensorSet.genlocked (x : SensorSet) : Bool := decide (x.trigger.mode = .free) && x.sync.genlock

/-- The period of a rate: floor(10⁸ × RATE_DEN / RATE_NUM) (R90). -/
def SensorSet.ratePeriod (x : SensorSet) : Nat := Config.ticksPerSecond * x.rateDen / x.rateNum

/-- span_nom (R312). -/
def spanNom (per div : Nat) : Nat := (div * per + 128) / 256

/-- p_nom: the nominal period, from the reference in GENLOCK operation once the meter has measured one (R89, R91, R312, R314). -/
def SensorSet.pNom (x : SensorSet) (g : GenlockUnit) : Nat :=
  if x.genlocked && g.everLocked then spanNom g.per x.sync.div / x.sync.mult else x.ratePeriod

/-- START_BEFORE of entry 0, and the largest END_BEFORE. -/
def firstStart (l : List ProgEntry) : Nat := (l.head?.map (·.startBefore)).getD 0
def lastEnd (l : List ProgEntry) : Nat := (l.map (·.endBefore)).foldl max 0

/-- P_min (R88): `prev` is T_min of the frame before. In GENLOCK operation before a reference period has been measured, it is the period of the
internal rate less 2 ticks (DESIGN CHOICE, log entry 69: R88 and R91 are silent). -/
def SensorSet.pMin (x : SensorSet) (g : GenlockUnit) (prev : Nat) : Nat := match x.trigger.mode with
  | .triggered => max (firstStart x.program.entries + 10) (prev + lastEnd x.program.entries)
  | .gated => x.ratePeriod
  | .free => if x.genlocked then x.pNom g - 2 else x.ratePeriod

/-- The program as applied (R89): the shutter-angle form computes START_BEFORE. -/
def SensorSet.applied (x : SensorSet) (g : GenlockUnit) (prev : Nat) : List ProgEntry :=
  match x.program.angle, x.program.entries with
  | some a, e :: _ =>
    let start := e.endBefore + (a * x.pNom g + 18000) / 36000
    [{ e with startBefore := min start (x.pMin g prev - 10) }]
  | _, es => es

/-- Rules 1 and 3 of R88 on consecutive entries. -/
def orderedEntries : List ProgEntry → Bool
  | e :: f :: rest => decide (f.startBefore < e.startBefore) && decide (f.startBefore + 10 ≤ e.endBefore) && orderedEntries (f :: rest)
  | _ => true

/-- The rules of R88 on the program as applied. -/
def SensorSet.programOk (x : SensorSet) (g : GenlockUnit) (prev : Nat) : Bool :=
  let l := x.applied g prev
  let p := x.pMin g prev
  orderedEntries l && l.all (fun e => decide (e.endBefore + 10 ≤ e.startBefore))
    && decide (firstStart l + 10 ≤ p) && l.all (fun e => decide (e.endBefore + prev ≤ p))
    && l.any (fun e => decide (e.node = .a))

/-- R79, R81: the nominal period is no shorter than either readout, and at most 10.0 s. TRIGGERED operation has no nominal period. -/
def SensorSet.periodOk (x : SensorSet) (g : GenlockUnit) (prev : Nat) : Bool :=
  if x.trigger.mode = .triggered then true
  else decide (x.tMin ≤ x.pNom g) && decide (prev ≤ x.pNom g) && decide (x.pNom g ≤ 10 * Config.ticksPerSecond)

/-- R89 and R96: no shutter-angle form, and no strobe ahead of its trigger, in TRIGGERED operation. -/
def SensorSet.triggerOk (x : SensorSet) : Bool :=
  if x.trigger.mode = .triggered then x.program.angle.isNone && decide (x.trigger.advance ≤ x.trigger.delay) else true

/-- The whole check of a sensor setting against the T_min of the frame before it. -/
def SensorSet.fits (x : SensorSet) (g : GenlockUnit) (prev : Nat) : Bool :=
  x.periodOk g prev && x.programOk g prev && x.triggerOk

/-- f_max (R162), as a fraction in frames a second. -/
def SensorSet.fMax (x : SensorSet) (g : GenlockUnit) : Nat × Nat :=
  if x.trigger.mode = .triggered then (Config.ticksPerSecond, x.tMin)
  else if x.genlocked then (Config.ticksPerSecond, max 1 (x.pNom g)) else (x.rateNum, x.rateDen)

/-- Whether the record demand exceeds a rate in kB/s (R162). -/
def SensorSet.exceeds (x : SensorSet) (g : GenlockUnit) (kBps : Nat) : Bool :=
  decide (kBps * 1000 * (x.fMax g).2 < x.recordBytes * (x.fMax g).1)

/-- TIMING_MODE of the record header (Table 5-3). -/
def SensorSet.timingCode (x : SensorSet) : Nat := match x.trigger.mode with
  | .free => if x.sync.genlock then 3 else 0
  | .triggered => 1
  | .gated => 2

/-! ## Boundaries on the reference (R312 to R314) -/

/-- Coinciding steps from the latest start of the series to the one that a boundary at bc answers. -/
def stepsTo (g : GenlockUnit) (bc : Nat) (phase : Int) (div : Nat) : Int :=
  (256 * ((bc : Int) - phase) - g.series + (div * g.per : Nat) / 2) / max 1 (div * g.per : Nat)

/-- The place that the start j steps on gives a coinciding boundary. -/
def targetAt (g : GenlockUnit) (j : Int) (phase : Int) (div : Nat) : Int :=
  ((g.series : Int) + j * (div * g.per : Nat) + 128) / 256 + phase

/-- A span from bc to the coinciding boundary that answers the start j steps on, and that start. -/
def GenlockUnit.spanTo (g : GenlockUnit) (bc span : Nat) (j : Int) (sy : SyncSet) : GenlockUnit :=
  { g with origin := bc, span := span, steps := 0, mult := sy.mult, div := sy.div, acquire := false,
           targets := g.targets ++ [(((g.series : Int) + j * (sy.div * g.per : Nat)).toNat, bc + span)] }

/-- The next coinciding boundary after bc is fixed, with the boundaries between (R312); the engine acquires where it is due (R313). -/
def placeSpan (bc : Nat) (sy : SyncSet) (g : GenlockUnit) : GenlockUnit :=
  let nom : Int := spanNom g.per sy.div
  let lo : Int := nom - 2 * sy.mult
  let hi : Int := nom + 2 * sy.mult
  let j0 := stepsTo g bc sy.phase sy.div + 1
  if g.acquire then
    let j := if lo ≤ targetAt g j0 sy.phase sy.div - bc then j0 else j0 + 1
    { g.spanTo bc (targetAt g j sy.phase sy.div - bc).toNat j sy with
      clamped := false, clampRun := 0, reacqCnt := bump32 g.reacqCnt 1 }
  else
    let want := targetAt g j0 sy.phase sy.div - bc
    let span := clampInt lo hi want
    let run := if span ≠ want then g.clampRun + 1 else 0
    { g.spanTo bc span.toNat j0 sy with clamped := decide (span ≠ want), clampRun := run, acquire := decide (8 ≤ run) }

/-- Whether the reference places the boundaries: LOCKED, and no period below T_min (R91, R314). -/
def referencePlaces (x : SensorSet) (g : GenlockUnit) : Bool :=
  decide (g.state = .locked) && decide (x.tMin ≤ spanNom g.per x.sync.div / x.sync.mult)

/-- Whether a span places the next boundary: it was fixed at the boundary before, and a loss of lock since does not move it (R312). -/
def GenlockUnit.placed (g : GenlockUnit) (x : SensorSet) : Bool := x.genlocked && decide (0 < g.span)

/-- Whether the last valid period places the next boundary: after a lock since the source was selected (R314). -/
def GenlockUnit.coasts (g : GenlockUnit) (x : SensorSet) : Bool :=
  x.genlocked && g.selected && g.everLocked && decide (0 < g.lastPeriod)

/-! ## The next boundary -/

/-- The 10.00 ms grid of idle boundaries (R131). -/
def idleGrid : Nat := 1000000

/-- The latest boundary, or where the grid starts. -/
def FrameUnit.from (f : FrameUnit) : Int := f.lastB.getD f.origin

/-- The next boundary by R90. -/
def FrameUnit.rateNext (f : FrameUnit) (x : SensorSet) : Nat :=
  if x.rateNum = f.originNum ∧ x.rateDen = f.originDen then
    (f.origin + ((f.steps + 1) * Config.ticksPerSecond * x.rateDen / x.rateNum : Nat)).toNat
  else (f.from + x.ratePeriod).toNat

/-- Whether a tandem follower places its boundaries on the leader's TSYNC (R92, R253). -/
def TandemUnit.follows (t : TandemUnit) : Bool := t.onTsync

/-- The moment of the next boundary, where one is due. -/
def nextBoundary (s : State) : Option Nat :=
  let f := s.frame
  let x := f.sens1
  let g := s.sync.genlock
  if f.halted then none
  else if s.tandem.follows then f.leaderNext.map (·.2)
  else if s.tandem.holdover then some (f.from + ((f.gov.map (·.period)).getD x.ratePeriod : Nat)).toNat
  else match x.trigger.mode with
    | .free =>
      if g.placed x then some (g.origin + (g.steps + 1) * g.span / g.mult)
      else if g.coasts x then some (f.from + g.lastPeriod).toNat
      else some (f.rateNext x)
    | .triggered => if s.mode.mode = .ready then some (f.from + idleGrid).toNat else f.flying.map (·.boundary)
    | .gated =>
      if s.mode.mode = .ready then some (f.from + idleGrid).toNat
      else match f.flying with
        | some t => some t.boundary
        | none => if f.gateOpen then some (f.rateNext x) else none

/-- Where the exposure program takes the next boundary to be. A follower's windows open before the edge of TSYNC that fixes its boundary: until
then it counts on a period after the latest one (DESIGN CHOICE, log entry 76: R253 places the boundary 2.00 µs ahead only, and R87 counts
the windows from it). -/
def expectedBoundary (s : State) : Option Nat :=
  match nextBoundary s with
  | some b => some b
  | none =>
    let f := s.frame
    let x := f.sens1
    if s.tandem.follows && !f.halted && decide (x.trigger.mode = .free) then
      some (f.from + (if x.genlocked then (f.gov.map (·.period)).getD x.ratePeriod else x.ratePeriod : Nat)).toNat
    else none

/-- Whether R90 places the next boundary. -/
def State.byRate (s : State) : Bool :=
  let f := s.frame
  let x := f.sens1
  let g := s.sync.genlock
  if s.tandem.follows || s.tandem.holdover then false
  else match x.trigger.mode with
    | .free => !(g.placed x) && !(g.coasts x)
    | .triggered => false
    | .gated => decide (s.mode.mode ≠ .ready) && f.flying.isNone

/-- Whether boundaries are placed in holdover now (R91, R256, R314). -/
def inHoldover (s : State) : Bool :=
  let x := s.frame.sens1
  s.tandem.holdover ||
    (x.genlocked && !s.tandem.follows && !(referencePlaces x s.sync.genlock))

/-- Whether the next boundary is placed in holdover: one that a span fixed before the loss is not. -/
def placedInHoldover (s : State) : Bool :=
  let x := s.frame.sens1
  s.tandem.holdover || (x.genlocked && !s.tandem.follows && !(s.sync.genlock.placed x))

/-- The trigger arithmetic of R93: the boundary for an edge at te, and the ticks by which the previous frame delays it. After a gate cut the first
window opens no earlier than the cleared nodes are ready (R95), and that wait counts as a delay by the previous frame: it marks the trigger
delayed, with event 0x0330 (DESIGN CHOICE, log entry 69: R95 states the wait only). -/
def triggerPlace (x : SensorSet) (g : GenlockUnit) (te prevB prevT ready : Nat) : Nat × Nat :=
  let l := x.applied g prevT
  let start := firstStart l
  let earliest := max (max (prevB + start + 10) (prevB + prevT + lastEnd l)) (ready + start)
  let want := te + 20 + x.trigger.delay + start
  (max want earliest, earliest - want)

/-! ## The outputs (R96, R97) -/

/-- The lag of STROBE_OUT and TRIG_OUT behind their events, in ticks: the middle of 40 ns ± 10 ns (DESIGN CHOICE, log entry 69). -/
def outputLag : Nat := 4

/-- A pulse of STROBE_OUT for a window: two that lie closer together than 10 ticks merge (R96). -/
def addStrobe (p : Nat × Nat) (l : List (Nat × Nat)) : List (Nat × Nat) := match l with
  | [] => [p]
  | q :: rest => if p.1 < q.2 + 10 then (min q.1 p.1, max q.2 p.2) :: rest else [p, q]

/-- The pulses of STROBE_OUT where the exposure is abandoned at a moment: an active one ends with it. -/
def FrameUnit.strobeEnds (f : FrameUnit) (t : Nat) : List (Nat × Nat) :=
  (f.strobe.map fun p => (p.1, min p.2 (t + outputLag))).filter fun p => decide (p.1 < p.2)

/-- Whether a pulse is active at a moment. -/
def pulseAt (t : Nat) (p : Nat × Nat) : Bool := decide (p.1 ≤ t ∧ t < p.2)

/-- The level of STROBE_OUT: active low where STROBE_POL says so. -/
def State.strobePin (s : State) : Bool := (s.frame.strobe.any (pulseAt s.time.module)) != s.frame.sens1.trigger.strobeLow

/-- The level of TRIG_OUT. -/
def State.trigOutPin (s : State) : Bool := s.frame.trigPulse.any (pulseAt s.time.module)

/-- The program that runs toward the next boundary, as applied: as its first window found it, once that has opened (R89). -/
def State.program (s : State) : List ProgEntry :=
  if s.frame.windows = 0 then s.frame.sens1.applied s.sync.genlock s.frame.sens0.tMin else s.frame.applied

/-- Row-pair periods that a readout delivers: all of its frame, or those before a gate cut stopped it (R95). -/
def Readout.limit (r : Readout) : Nat := (r.stopAt.map fun k => min k r.gov.sensor.pairs).getD r.gov.sensor.pairs

end Sys2Proof.Machine
end

