-- ==== Sys2Proof/Machine/Operands.lean ====
section
/-! DEFINITION. Setting items (R278, Table 11-7): identifiers, lengths, ranges (Tables 4-2, 5-2, 6-9, 10-2 and 10-3), classes
(Table 6-6a), what a setting does to the settings in force, and how settings are written as items. -/

namespace Sys2Proof.Machine

/-! ## Identifiers, lengths and classes -/

/-- ID of an item. -/
def settingId (x : Setting) : Nat := match x with
  | .srThreshold _ => 0x0001
  | .rate _ _ => 0x0002
  | .window _ _ _ => 0x0003
  | .binning _ => 0x0004
  | .program _ => 0x0005
  | .trigger _ => 0x0006
  | .sync _ => 0x0007
  | .rotK _ => 0x0008
  | .blkMode _ => 0x0010
  | .blkRowWin _ => 0x0011
  | .blkLim _ => 0x0012
  | .recScale _ => 0x0013
  | .defRepl _ => 0x0014
  | .hostBlock _ => 0x0020
  | .ring _ => 0x0030
  | .powerupMode _ => 0x0040
  | .prerollMs _ => 0x0041
  | .tandem _ => 0x0042
  | .weltPrefs _ => 0x0043
  | .compositor _ _ => 0x0044
  | .unknown i => i.toNat

/-- What makes two items of a request the same: the ID, and for RING the ring. -/
def settingKey (x : Setting) : Nat × Nat := match x with
  | .ring r => (0x0030, r.ring.toNat)
  | _ => (settingId x, 0)

/-- Whether LEN fits the ID. -/
def lenFits (x : Setting) (len : Nat) : Bool := match x with
  | .srThreshold _ | .binning _ | .rotK _ | .blkMode _ | .blkRowWin _ | .defRepl _ | .powerupMode _ | .tandem _ => decide (len = 1)
  | .rate _ _ | .sync _ | .weltPrefs _ => decide (len = 8)
  | .window _ _ _ => decide (len = 6)
  | .program p => decide (len = 8 + 8 * p.entries.length) && decide (16 ≤ len ∧ len ≤ 72)
  | .trigger _ => decide (len = 16)
  | .blkLim _ | .recScale _ | .compositor _ _ => decide (len = 2)
  | .hostBlock b => decide (len = b.length) && decide (1 ≤ len ∧ len ≤ 1024)
  | .ring _ => decide (len = 44)
  | .prerollMs _ => decide (len = 4)
  | .unknown _ => true

/-- The class of a setting; none for a profile-only or unknown ID. -/
def settingClass (x : Setting) : Classes := match x with
  | .srThreshold _ | .rate _ _ | .window _ _ _ | .binning _ | .program _ | .trigger _ | .sync _ => ⟨true, false, false, false⟩
  | .rotK _ => ⟨false, true, false, false⟩
  | .blkMode _ | .blkRowWin _ | .blkLim _ | .recScale _ | .defRepl _ => ⟨false, false, true, false⟩
  | .hostBlock _ | .ring _ => ⟨false, false, false, true⟩
  | .powerupMode _ | .prerollMs _ | .tandem _ | .weltPrefs _ | .compositor _ _ | .unknown _ => Classes.none

/-- Whether an ID is profile only. -/
def profileOnly (x : Setting) : Bool := decide (0x0040 ≤ settingId x ∧ settingId x ≤ 0x0044)

/-- The classes of some settings. -/
def classesOf (l : List Setting) : Classes := l.foldl (fun c x => c.or (settingClass x)) Classes.none

/-- A two's-complement 16-bit field. -/
def signed16 (v : U16) : Int := v.toInt

/-! ## Ring settings (R239 to R241) -/

/-- The place of a ring among the eleven: taps 0 to 2, streams 3 to 10. -/
def ringIndex (ring : Nat) : Option Nat :=
  if ring ≤ 2 then some ring else if 0x10 ≤ ring ∧ ring ≤ 0x17 then some (ring - 0x10 + 3) else none

/-- The ring number of a place. -/
def ringNumber (i : Nat) : Nat := if i ≤ 2 then i else i - 3 + 0x10

/-- The setting that a RING value carries. -/
def ringSetOf (r : RawRing) : RingSet :=
  { source := r.source.toNat, twinPlane := r.twinPlane.toNat, format := r.format.toNat, rateDiv := r.rateDiv.toNat,
    ratePhase := r.ratePhase.toNat, lut1d := r.lut1d.toNat, lut3d := r.lut3d.toNat, yccMatrix := r.yccMatrix.toNat,
    yccRange := r.yccRange.toNat, expShift := signed16 r.expShift, cropX0 := r.cropX0.toNat, cropY0 := r.cropY0.toNat,
    cropW := r.cropW.toNat, cropH := r.cropH.toNat, outW := r.outW.toNat, outH := r.outH.toNat,
    matrix := r.matrix.map signed16 }

/-- The source's full extent (Tables 10-2 and 10-11, R234). -/
def sourceExtent (source compMode : Nat) : Nat × Nat :=
  if source = 0 then (Config.activeCols, Config.activeRows)
  else if source = 2 ∧ compMode = 1 then (9216, 2304)
  else if source = 2 ∧ compMode = 2 then (4608, 4608)
  else (4608, 2304)

/-- The sources that a ring takes. -/
def sourceFor (i source : Nat) : Bool :=
  if i = 1 then decide (source = 0 ∨ source = 2) else if i = 2 then decide (source = 0) else decide (source ≤ 2)

/-- The formats that a ring takes, and the largest size of each (Table 10-3, R241). The analysis tap forms its own block and takes
the field as it is. -/
def formatFor (i format : Nat) : Option (Nat × Nat) :=
  if i = 0 then (if format ≤ 2 then some (7680, 4320) else none)
  else if i = 1 then (if format = 2 then some (4096, 2160) else none)
  else if i = 2 then (if format ≤ 3 then some (7680, 4320) else none)
  else (if format ≤ 3 then some (3840, 2160) else none)

/-- Whether a crop lies in its source, on the source's grid. -/
def cropOk (x : RingSet) (compMode : Nat) : Bool :=
  let e := sourceExtent x.source compMode
  decide (1 ≤ x.cropW ∧ 1 ≤ x.cropH) && decide (x.cropX0 + x.cropW ≤ e.1) && decide (x.cropY0 + x.cropH ≤ e.2)
    && (decide (x.source ≠ 0) ||
        (decide (x.cropX0 % 4 = 0) && decide (x.cropY0 % 4 = 0) && decide (x.cropW % 4 = 0) && decide (x.cropH % 4 = 0)))

/-- Scale ratios from 1 to 64, in source samples (R236). -/
def ratioOk (crop out bin : Nat) : Bool := decide (out * bin ≤ crop) && decide (crop ≤ 64 * out * bin)

/-- The ranges of Table 10-2 and Table 10-3 on a ring setting. -/
def ringRange (i : Nat) (x : RingSet) (compMode bin : Nat) : Bool :=
  let b := if x.source = 0 then bin else 1
  sourceFor i x.source && decide (x.twinPlane ≤ 1) && decide (1 ≤ x.rateDiv ∧ x.rateDiv ≤ 16) && decide (x.ratePhase < x.rateDiv)
    && decide (x.lut1d ≤ 7) && decide (x.lut3d ≤ 3 ∨ x.lut3d = 0xFF) && decide (x.yccMatrix ≤ 1) && decide (x.yccRange ≤ 1)
    && decide (-2048 ≤ x.expShift ∧ x.expShift ≤ 2047) && decide (x.matrix.length = 9)
    && cropOk x compMode && ratioOk x.cropW x.outW b && ratioOk x.cropH x.outH b
    && decide (64 ≤ x.outW ∧ 36 ≤ x.outH) && decide (x.outW % 2 = 0)
    && (match formatFor i x.format with
        | some m => decide (x.outW ≤ m.1) && decide (x.outH ≤ m.2)
        | none => false)

/-- OUT_W × OUT_H × f_max / RATE_DIV is at most 2.0 Gpixel/s (R240). -/
def pixelRateOk (x : RingSet) (f : Nat × Nat) : Bool := decide (x.outW * x.outH * f.1 ≤ 2000000000 * x.rateDiv * f.2)

/-! ## Ranges -/

/-- An entry of a program (Table 4-4). -/
def progEntry (e : U64) : ProgEntry :=
  ⟨e.toNat % 2 ^ 31, e.toNat / 2 ^ 32 % 2 ^ 31, if e.getLsbD 63 then .b else .a⟩

/-- The program that a request carries. -/
def programOf (p : RawProgram) : Program :=
  ⟨if p.header.getLsbD 8 then some (p.header.toNat / 2 ^ 16 % 2 ^ 16) else none, p.entries.map progEntry⟩

/-- The layout of Table 4-4, and the form of R89. -/
def programRange (p : RawProgram) : Bool :=
  let n := p.header.toNat % 16
  let a := p.header.toNat / 2 ^ 16 % 2 ^ 16
  decide (1 ≤ n ∧ n ≤ 8) && decide (p.entries.length = n) && decide (p.header.toNat / 16 % 16 = 0)
    && decide (p.header.toNat / 2 ^ 9 % 128 = 0) && decide (p.header.toNat / 2 ^ 32 = 0)
    && p.entries.all (fun e => !(e.getLsbD 31))
    && (!(p.header.getLsbD 8) || (decide (1 ≤ a ∧ a ≤ 36000) && decide (n = 1) && p.entries.all (fun e => !(e.getLsbD 63))))

/-- The trigger settings that a request carries. -/
def triggerOf (t : RawTrigger) : Trigger :=
  { mode := if t.timingMode = 0 then .free else if t.timingMode = 1 then .triggered else .gated, falling := decide (t.trigEdge = 1),
    cut := decide (t.gateStop = 1), strobeLow := decide (t.strobePol = 1), delay := t.trigDelay.toNat,
    advance := t.strobeAdvance.toNat, outMode := t.trigOutMode.toNat, outWidth := t.trigOutWidth.toNat }

/-- The sync settings that a request carries. -/
def syncOf (y : RawSync) : SyncSet := ⟨decide (y.source = 1), y.glMult.toNat, y.glDiv.toNat, y.phase.toInt⟩

/-- The codes of Table 9-1. -/
def weltVersions : List Nat := [0x10, 0x11, 0x20, 0x21]

/-- Whether a setting lies in its range. The checks that need other settings follow at the entry (R79, R88, R89, R96). -/
def inRange (x : Setting) (compMode bin : Nat) : Bool := match x with
  | .srThreshold v => decide (v.toNat ≤ 150)
  | .rate n d => decide (1 ≤ n.toNat ∧ n.toNat ≤ 1000000) && decide (1 ≤ d.toNat ∧ d.toNat ≤ 1000000)
  | .window x0 w h => decide (x0.toNat % 32 = 0) && decide (w.toNat % 32 = 0) && decide (256 ≤ w.toNat)
      && decide (x0.toNat + w.toNat ≤ Config.activeCols) && decide (h.toNat % 16 = 0) && decide (256 ≤ h.toNat ∧ h.toNat ≤ Config.activeRows)
  | .binning v => decide (v.toNat = 1 ∨ v.toNat = 2)
  | .program p => programRange p
  | .trigger t => decide (t.timingMode.toNat ≤ 2) && decide (t.trigEdge.toNat ≤ 1) && decide (t.gateStop.toNat ≤ 1)
      && decide (t.strobePol.toNat ≤ 1) && decide (t.trigDelay.toNat ≤ 100000000) && decide (t.strobeAdvance.toNat ≤ 10000)
      && decide (t.trigOutMode.toNat ≤ 3) && decide (1 ≤ t.trigOutWidth.toNat)
  | .sync y => decide (y.source.toNat ≤ 1) && decide (1 ≤ y.glMult.toNat ∧ y.glMult.toNat ≤ 32)
      && decide (1 ≤ y.glDiv.toNat ∧ y.glDiv.toNat ≤ 8)
  | .rotK v => decide (1 ≤ v.toNat)
  | .blkMode v => decide (v.toNat ≤ 4)
  | .blkRowWin v => decide (v.toNat ≤ 3)
  | .blkLim v => decide (16 ≤ v.toNat ∧ v.toNat ≤ 16383)
  | .recScale v => decide (8192 ≤ v.toNat ∧ v.toNat ≤ 32767)
  | .defRepl v => decide (v.toNat ≤ 1)
  | .hostBlock _ => true
  | .ring r => match ringIndex r.ring.toNat with
    | some i => ringRange i (ringSetOf r) compMode bin
    | none => false
  | .powerupMode v => decide (v.toNat ≤ 2)
  | .prerollMs v => decide (v.toNat ≤ 30000)
  | .tandem v => decide (v.toNat ≤ 3)
  | .weltPrefs p => decide (p.maxVersion.toNat ∈ weltVersions) && decide (p.prefBay.toNat ≤ 1)
      && decide (100 ≤ p.ackTimeoutMs.toNat ∧ p.ackTimeoutMs.toNat ≤ 30000)
  | .compositor m e => decide (m.toNat ≤ 5) && decide (e.toNat ≤ 1)
  | .unknown _ => false

/-! ## What settings do -/

/-- A sensor-class setting on the sensor class. -/
def setSensor (x : SensorSet) (v : Setting) : SensorSet := match v with
  | .srThreshold c => { x with srThreshold := c.toNat }
  | .rate n d => { x with rateNum := n.toNat, rateDen := d.toNat }
  | .window x0 w h => { x with window := ⟨x0.toNat, w.toNat, h.toNat⟩ }
  | .binning b => { x with bin := b.toNat }
  | .program p => { x with program := programOf p }
  | .trigger t => { x with trigger := triggerOf t }
  | .sync y => { x with sync := syncOf y }
  | _ => x

/-- A conversion-class setting on ROT_K. -/
def setRotK (k : Nat) (v : Setting) : Nat := match v with
  | .rotK n => n.toNat
  | _ => k

/-- A conditioning-class setting on the conditioning class. -/
def setCond (x : CondSet) (v : Setting) : CondSet := match v with
  | .blkMode m => { x with blkMode := m.toNat }
  | .blkRowWin m => { x with blkRowWin := m.toNat }
  | .blkLim m => { x with blkLim := m.toNat }
  | .recScale m => { x with recScale := m.toNat }
  | .defRepl m => { x with defRepl := m.toNat }
  | _ => x

/-- A record-and-stream setting on that class. -/
def setRecs (x : RecSet) (v : Setting) : RecSet := match v with
  | .hostBlock b => { x with hostBlock := b }
  | .ring r => match ringIndex r.ring.toNat with
    | some i => { x with rings := x.rings.set i (ringSetOf r) }
    | none => x
  | _ => x

/-- Some settings on each class. -/
def applySensor (l : List Setting) (x : SensorSet) : SensorSet := l.foldl setSensor x
def applyRotK (l : List Setting) (k : Nat) : Nat := l.foldl setRotK k
def applyCond (l : List Setting) (x : CondSet) : CondSet := l.foldl setCond x
def applyRecs (l : List Setting) (x : RecSet) : RecSet := l.foldl setRecs x

/-- Some settings on the settings in force. -/
def applyAll (l : List Setting) (x : Settings) : Settings :=
  ⟨applySensor l x.sensor, applyRotK l x.rotK, applyCond l x.cond, applyRecs l x.recs⟩

/-! ## Settings written as items -/

/-- The two words of an exposure program. -/
def progEntryNat (e : ProgEntry) : Nat :=
  e.startBefore + 2 ^ 32 * e.endBefore + bit (decide (e.node = .b)) 63

/-- The header of an exposure program. -/
def progHeader (p : Program) : Nat := p.entries.length + (match p.angle with
  | some a => 2 ^ 8 + 2 ^ 16 * a
  | none => 0)

/-- The bytes of an exposure program (Table 4-4). -/
def programBytes (p : Program) (es : List ProgEntry) : List Byte := leBytes 8 (progHeader p) ++ es.flatMap fun e => leBytes 8 (progEntryNat e)

/-- The code of a timing mode. -/
def timingNum (m : TimingMode) : Nat := match m with
  | .free => 0
  | .triggered => 1
  | .gated => 2

/-- The value of the TRIGGER item. -/
def triggerBytes (t : Trigger) : List Byte :=
  leBytes 1 (timingNum t.mode) ++ leBytes 1 (bit t.falling 0) ++ leBytes 1 (bit t.cut 0) ++ leBytes 1 (bit t.strobeLow 0)
    ++ leBytes 4 t.delay ++ leBytes 2 t.advance ++ leBytes 1 t.outMode ++ zeros 1 ++ leBytes 2 t.outWidth ++ zeros 2

/-- The value of the SYNC item. -/
def syncBytes (y : SyncSet) : List Byte :=
  leBytes 1 (bit y.genlock 0) ++ leBytes 1 y.mult ++ leBytes 1 y.div ++ zeros 1 ++ leBytes 4 (intField 32 y.phase)

/-- The value of the RING item. -/
def ringBytes (i : Nat) (x : RingSet) : List Byte :=
  leBytes 1 (ringNumber i) ++ leBytes 1 x.source ++ leBytes 1 x.twinPlane ++ leBytes 1 x.format ++ leBytes 1 x.rateDiv
    ++ leBytes 1 x.ratePhase ++ leBytes 1 x.lut1d ++ leBytes 1 x.lut3d ++ leBytes 1 x.yccMatrix ++ leBytes 1 x.yccRange
    ++ leBytes 2 (intField 16 x.expShift) ++ leBytes 2 x.cropX0 ++ leBytes 2 x.cropY0 ++ leBytes 2 x.cropW ++ leBytes 2 x.cropH
    ++ leBytes 2 x.outW ++ leBytes 2 x.outH ++ x.matrix.flatMap (fun m => leBytes 2 (intField 16 m)) ++ zeros 2

/-- An item (R278): ID, LEN, the value, and zero padding to a multiple of 4. -/
def itemBytes (id : Nat) (v : List Byte) : List Byte := leBytes 2 id ++ leBytes 2 v.length ++ padTo (roundUp v.length 4) v

/-- The items of the frame settings, in the order of Table 11-7. An empty host block has no item. -/
def settingsItems (x : Settings) : List (List Byte) :=
  [itemBytes 0x0001 (leBytes 1 x.sensor.srThreshold), itemBytes 0x0002 (leBytes 4 x.sensor.rateNum ++ leBytes 4 x.sensor.rateDen),
   itemBytes 0x0003 (leBytes 2 x.sensor.window.x0 ++ leBytes 2 x.sensor.window.w ++ leBytes 2 x.sensor.window.h),
   itemBytes 0x0004 (leBytes 1 x.sensor.bin), itemBytes 0x0005 (programBytes x.sensor.program x.sensor.program.entries),
   itemBytes 0x0006 (triggerBytes x.sensor.trigger), itemBytes 0x0007 (syncBytes x.sensor.sync), itemBytes 0x0008 (leBytes 1 x.rotK),
   itemBytes 0x0010 (leBytes 1 x.cond.blkMode), itemBytes 0x0011 (leBytes 1 x.cond.blkRowWin), itemBytes 0x0012 (leBytes 2 x.cond.blkLim),
   itemBytes 0x0013 (leBytes 2 x.cond.recScale), itemBytes 0x0014 (leBytes 1 x.cond.defRepl)]
  ++ (if x.recs.hostBlock = [] then [] else [itemBytes 0x0020 x.recs.hostBlock])
  ++ (x.recs.rings.zipIdx.map fun p => itemBytes 0x0030 (ringBytes p.2 p.1))

/-- The items of a stored profile (R278, Table 6-9). -/
def profileItems (p : Profile) : List (List Byte) :=
  settingsItems p.settings ++
  [itemBytes 0x0040 (leBytes 1 p.powerup), itemBytes 0x0041 (leBytes 4 p.prerollMs), itemBytes 0x0042 (leBytes 1 p.tandem),
   itemBytes 0x0043 (leBytes 1 p.prefs.maxVersion ++ leBytes 1 p.prefs.prefBay ++ zeros 2 ++ leBytes 4 p.prefs.ackTimeoutMs),
   itemBytes 0x0044 (leBytes 1 p.compMode ++ leBytes 1 p.compLeft)]

/-- The bytes that items take in a payload, as sent. -/
def itemsLen (items : List Item) : Nat := sumNat (items.map fun i => 4 + roundUp i.len.toNat 4)

/-- The number of the first failing rule on the items of a request: none of the faults of R278 but LEN. -/
def itemsDistinct : List Item → Bool
  | [] => true
  | i :: rest => !(rest.any fun j => decide (settingKey j.value = settingKey i.value)) && itemsDistinct rest

end Sys2Proof.Machine
end

