-- ==== Sys2Proof/Machine/Conditioning.lean ====
section
/-! DEFINITION. From slice codes to payload values (chapters 3 and 5): which rows a period reads (R84, R85), the stack value of each
site (R60, R64), black statistics (R103 to R105), scaling (R106), defect replacement (R108 to R110) and packing (R111 to R113). -/

namespace Sys2Proof.Machine

/-! ## Rows (R84, R85) -/

/-- Optical-black periods of one plane. -/
def SensorSet.blackPairs (x : SensorSet) : Nat := if x.bin = 1 then 32 else 16

/-- The (upper) row of pair i from a base row. -/
def pairRow (mono : Bool) (bin base i : Nat) : Nat :=
  if bin = 1 then base + i else if mono then base + 2 * i else base + 4 * (i / 2) + i % 2

/-- The distance of the lower row of a vertical pair, and of the right column of a group (R36). -/
def partner (mono : Bool) : Nat := if mono then 1 else 2

/-- The (upper) row that a bank reads in period m of a single-exposure readout. -/
def SensorSet.rowAt (x : SensorSet) (mono : Bool) (b : Bank) (m : Nat) : Nat :=
  if m < x.blackPairs then pairRow mono x.bin (match b with
    | .top => 0
    | .bottom => 9248) m
  else pairRow mono x.bin (match b with
    | .top => 4640 - x.window.h / 2
    | .bottom => 4640) (m - x.blackPairs)

/-- The row and the node that a bank reads in period p (R85). -/
def SensorSet.readAt (x : SensorSet) (mono : Bool) (b : Bank) (p : Nat) : Nat × Node :=
  if x.program.twin then (x.rowAt mono b (p / 2), if p % 2 = 0 then .a else .b) else (x.rowAt mono b p, .a)

/-- The rows of photosites that a read of row y takes. -/
def SensorSet.rowsOf (x : SensorSet) (mono : Bool) (y : Nat) : List Nat := if x.bin = 1 then [y] else [y, y + partner mono]

/-- Whether a row holds optical black. -/
def blackRow (y : Nat) : Bool := decide (y < 32) || decide (9248 ≤ y)

/-! ## Coordinates (R113) -/

/-- The payload-grid coordinate of a readable column or row that leads its group. -/
def gridOf (mono : Bool) (bin v : Nat) : Nat := if bin = 1 then v else if mono then v / 2 else 2 * (v / 4) + v % 4

/-- The readable column that leads the group of a grid column. -/
def leadOf (mono : Bool) (bin v : Nat) : Nat := if bin = 1 then v else if mono then 2 * v else 4 * (v / 2) + v % 2

/-- The black columns of the grid. -/
def blackCols (bin : Nat) : List Nat :=
  List.range (64 / bin) ++ (List.range (64 / bin)).map fun i => 18496 / bin + i

/-- Whether a place of the grid is active. -/
def activeGrid (bin X Y : Nat) : Bool :=
  decide (64 / bin ≤ X ∧ X < 18496 / bin) && decide (32 / bin ≤ Y ∧ Y < 9248 / bin)

/-! ## Stack values -/

/-- A frame's data with the settings that govern it: what the lanes need. -/
structure Frame where
  data : FrameData
  gov : FrameGov
  deriving DecidableEq, Repr

/-- Whether the parity failure of a site shows in reads of a node (R44). -/
def Frame.parityAt (f : Frame) (x y : Nat) (n : Node) : Bool :=
  f.data.parity.any fun p => decide (p.1 = (x, y)) && (!f.gov.sensor.program.twin || decide (n = .b) || decide (p.2 % 2 = 0))

/-- A photosite as a row read meets it: i is its row within the pair. -/
def Frame.siteRead (f : Frame) (r : RowRead) (x i : Nat) : SiteRead :=
  let y := r.y + i * partner f.data.mono
  let l := r.latches.find? fun l => decide (l.x = x ∧ l.y = i)
  { word := (look r.words (x, y)).getD (f.data.words.at f.data.mono x y), fq := tempFactor (f.gov.temps.getD (tileOf x y) 0) f.gov.tCal,
    tally := (l.map (·.tally)).getD 0, sat := (l.map (·.sat)).getD false, run := (l.map (·.run)).getD false,
    parity := f.parityAt x y r.node, black := !(active x y) }

/-- The stack value of grid column X of a row read (R60, R63 to R65, R71). -/
def Frame.stackAt (f : Frame) (r : RowRead) (X : Nat) : Nat :=
  let g := f.gov.sensor
  let x := leadOf f.data.mono g.bin X
  let slice := (sliceFor f.data.corr f.gov.rho r.bank x).map f.data.corr.at
  if g.bin = 1 then
    let p := f.siteRead r x 0
    match slice with
    | none => withCodes [p] true 0
    | some c => withCodes [p] false (stackValue (sparseAt r.codes x) c.ofs1 c.gain1 (qth g.srThreshold) p)
  else
    let x2 := x + partner f.data.mono
    let p1 := f.siteRead r x 0
    let p2 := f.siteRead r x 1
    let p3 := f.siteRead r x2 0
    let p4 := f.siteRead r x2 1
    match slice with
    | none => withCodes [p1, p2, p3, p4] true 0
    | some c => withCodes [p1, p2, p3, p4] false
        (binnedValue (sparseAt r.codes x) (sparseAt r.codes x2) c.ofs2 c.gain2 (qth g.srThreshold) p1 p2 p3 p4)

/-- The rows of a bank and node, in read order. -/
def Frame.rows (f : Frame) (b : Bank) (n : Node) : List RowRead := f.data.rows.filter fun r => decide (r.bank = b ∧ r.node = n)

/-! ## Black statistics (R103 to R105) -/

/-- mean (R104). -/
def meanInt (sum n : Nat) : Nat := (sum + n / 2) / n

/-- Whether a value is a valid black sample (R103). -/
def validBlack (lim v : Nat) : Bool := decide (v < 0xFFFFF0) && decide (dist v 1024 ≤ lim)

/-- The sum and count of the valid samples among some values. -/
def sumValid (lim : Nat) (vs : List Nat) : Nat × Nat :=
  let ok := vs.filter (validBlack lim)
  (sumNat ok, ok.length)

/-- A statistic and whether it is a fallback. -/
def statOr (s : Nat × Nat) (fallback : Nat) : Nat × Bool := if s.2 = 0 then (fallback, true) else (meanInt s.1 s.2, false)

/-- Sum of sums and counts. -/
def joinSums (l : List (Nat × Nat)) : Nat × Nat := (sumNat (l.map (·.1)), sumNat (l.map (·.2)))

/-- rsum and rcnt of a row. -/
def Frame.rowSum (f : Frame) (r : RowRead) : Nat × Nat :=
  sumValid f.gov.cond.blkLim ((blackCols f.gov.sensor.bin).map fun X => f.stackAt r X)

/-- The rows of a plane with the black statistics that all of its sites share. -/
structure Plane where
  rows : List RowRead
  /-- rsum and rcnt of each row, in read order. -/
  sums : List (Nat × Nat)
  corner : Nat
  cornerFell : Bool
  deriving DecidableEq, Repr

/-- A bank and node of a frame. -/
def Frame.plane (f : Frame) (b : Bank) (n : Node) : Plane :=
  let rows := f.rows b n
  let sums := rows.map f.rowSum
  let black := (rows.zip sums).filter fun p => blackRow p.1.y
  let c := statOr (joinSums (black.map (·.2))) 1024
  ⟨rows, sums, c.1, c.2⟩

/-- colblk of a grid column. -/
def Frame.colBlack (f : Frame) (p : Plane) (X : Nat) : Nat × Bool :=
  statOr (sumValid f.gov.cond.blkLim ((p.rows.filter fun r => blackRow r.y).map fun r => f.stackAt r X)) p.corner

/-- rowblk of row i of a plane: row i and the rows read immediately before it. -/
def Frame.rowBlack (f : Frame) (p : Plane) (i : Nat) : Nat × Bool :=
  let n := 2 ^ f.gov.cond.blkRowWin
  statOr (joinSums ((p.sums.take (i + 1)).drop (i + 1 - n))) p.corner

/-- The black estimate of a site, and whether a fallback entered it. -/
def Frame.estimate (f : Frame) (p : Plane) (i X : Nat) : Int × Bool :=
  match f.gov.cond.blkMode with
  | 0 => (1024, false)
  | 1 => (p.corner, p.cornerFell)
  | 2 => let r := f.rowBlack p i; (r.1, r.2)
  | 3 => let c := f.colBlack p X; (c.1, c.2)
  | _ =>
    let r := f.rowBlack p i
    let c := f.colBlack p X
    ((r.1 : Int) + c.1 - p.corner, r.2 || c.2 || p.cornerFell)

/-! ## Scaling (R106) -/

/-- Record scale and stitch trim joined: k. -/
def scaleOf (recScale trim : Nat) : Nat := (recScale * trim + 8192) / 16384

/-- The scaled value before the clamp. -/
def scaled (b : Int) (k : Nat) : Int := 1024 + (b * k + 8192) / 16384

/-- A site after step 4: its value, whether the clamp acted, and whether a fallback entered. -/
structure Scaled where
  value : Nat
  clamped : Bool
  fell : Bool
  deriving DecidableEq, Repr

/-- Steps 3 and 4 on grid column X of row i. -/
def Frame.scaledAt (f : Frame) (p : Plane) (i X : Nat) (r : RowRead) : Scaled :=
  let v := f.stackAt r X
  if 0xFFFFF0 ≤ v then ⟨v, false, false⟩
  else
    let e := f.estimate p i X
    let tile := tileOf (leadOf f.data.mono f.gov.sensor.bin X) r.y
    let w := scaled ((v : Int) - e.1) (scaleOf f.gov.cond.recScale (f.data.tileTrim.getD tile 16384))
    ⟨clampValue w, decide (w < 0) || decide ((Config.maxValue : Int) < w), e.2⟩

/-! ## Defect replacement (R108, R109) -/

/-- The row of a plane at a grid row, with its place in read order. -/
def Frame.rowAtGrid (f : Frame) (p : Plane) (Y : Nat) : Option (RowRead × Nat) :=
  p.rows.zipIdx.find? fun q => decide (gridOf f.data.mono f.gov.sensor.bin q.1.y = Y) && !(blackRow q.1.y)

/-- A candidate of a site, where it is valid. -/
def Frame.candidate (f : Frame) (p : Plane) (X Y : Nat) : Option Nat :=
  if activeGrid f.gov.sensor.bin X Y then
    match f.rowAtGrid p Y with
    | none => none
    | some (r, i) =>
      let w := (f.scaledAt p i X r).value
      if w < 0xFFFFF0 then some w else none
  else none

/-- Half the sum, rounded. -/
def halfSum (a b : Nat) : Nat := (a + b + 1) / 2

/-- R109: the replacement from the left, right, upper and lower candidates. -/
def replaceDefect (h1 h2 u1 u2 : Option Nat) : Nat :=
  match h1, h2, u1, u2 with
  | some a, some b, some c, some d => if dist a b ≤ dist c d then halfSum a b else halfSum c d
  | some a, some b, _, _ => halfSum a b
  | _, _, some c, some d => halfSum c d
  | _, _, _, _ =>
    let vs := [h1, h2, u1, u2].filterMap id
    if vs = [] then Config.codeDefect else meanInt (sumNat vs) vs.length

/-- The replacement distance (R108). -/
def replDistance (mono : Bool) : Nat := if mono then 1 else 2

/-- The final value of a window site, with what it counts. -/
structure FinalSite where
  value : Nat
  arrived : Nat
  clamped : Bool
  deriving DecidableEq, Repr

/-- Step 5 on a window site. -/
def Frame.finalAt (f : Frame) (p : Plane) (i X : Nat) (r : RowRead) : FinalSite :=
  let w := f.scaledAt p i X r
  if w.value = Config.codeDefect ∧ f.gov.cond.defRepl = 1 then
    let Y := gridOf f.data.mono f.gov.sensor.bin r.y
    let d := replDistance f.data.mono
    ⟨replaceDefect (if d ≤ X then f.candidate p (X - d) Y else none) (f.candidate p (X + d) Y)
        (if d ≤ Y then f.candidate p X (Y - d) else none) (f.candidate p X (Y + d)), w.value, w.clamped⟩
  else ⟨w.value, w.value, w.clamped⟩

/-! ## Windows, counts and packing -/

/-- The geometry that the ledger gives the frame (R98, R144). -/
def FrameGov.geometry (g : FrameGov) : SensorSet := g.expected.getD g.sensor

/-- The grid columns of the horizontal window. -/
def SensorSet.windowCols (x : SensorSet) : List Nat := (List.range x.outW).map fun i => (64 + x.window.x0) / x.bin + i

/-- The grid columns of the candidates beside the window, and the window. -/
def SensorSet.usedCols (x : SensorSet) (d : Nat) : List Nat :=
  (List.range (x.outW + 2 * d)).filterMap fun i =>
    let X := (64 + x.window.x0) / x.bin + i
    if d ≤ X ∧ 64 / x.bin ≤ X - d ∧ X - d < 18496 / x.bin then some (X - d) else none

/-- The window rows of a plane, with their places in read order. -/
def Plane.window (p : Plane) : List (RowRead × Nat) := p.rows.zipIdx.filter fun q => !(blackRow q.1.y)

/-- The final sites of a plane, row by row. -/
def Frame.planeSites (f : Frame) (p : Plane) : List (List FinalSite) :=
  p.window.map fun q => f.gov.sensor.windowCols.map fun X => f.finalAt p q.2 X q.1

/-- Whether a fallback entered the estimate of a site that step 3 treats (R104). -/
def Frame.planeFell (f : Frame) (p : Plane) : Bool :=
  p.window.any fun q => (f.gov.sensor.usedCols (replDistance f.data.mono)).any fun X => (f.scaledAt p q.2 X q.1).fell

/-- Whether a readable site lies in the window. -/
def inWindow (x : SensorSet) (c y : Nat) : Bool :=
  decide (64 + x.window.x0 ≤ c ∧ c < 64 + x.window.x0 + x.window.w) && decide (4640 - x.window.h / 2 ≤ y ∧ y < 4640 + x.window.h / 2)

/-- What conditioning gives a complete frame. -/
structure Conditioned where
  bytes : List Byte
  counts : Counts
  /-- Corner of T-A, T-B, B-A and B-B. -/
  corners : List Nat
  fallback : Bool
  deriving DecidableEq, Repr

/-- Bank rows in ascending order: bank T lies above bank B (R82). -/
def Frame.sites (f : Frame) (n : Node) : List (List FinalSite) :=
  f.planeSites (f.plane .top n) ++ f.planeSites (f.plane .bottom n)

/-- The sites of a frame in payload order: single exposure, or A and B of each site (R111, R112). -/
def Frame.payloadSites (f : Frame) : List FinalSite :=
  if f.gov.sensor.program.twin then
    ((f.sites .a).zip (f.sites .b)).flatMap fun p => (p.1.zip p.2).flatMap fun q => [q.1, q.2]
  else (f.sites .a).flatten

/-- How many sites meet a test. -/
def countSites (l : List FinalSite) (p : FinalSite → Bool) : Nat := (l.filter p).length

/-- The counts of the header (R106, R109, R110, R44). -/
def Frame.counts (f : Frame) (l : List FinalSite) : Counts :=
  let repl := decide (f.gov.cond.defRepl = 1)
  { defect := countSites l fun s => decide (s.arrived = Config.codeDefect)
    replaced := if repl then countSites l fun s => decide (s.arrived = Config.codeDefect) && decide (s.value ≠ Config.codeDefect) else 0
    unreplaced := if repl then countSites l fun s => decide (s.value = Config.codeDefect) else 0
    sat := countSites l fun s => decide (s.value = Config.codeSat)
    run := countSites l fun s => decide (s.value = Config.codeRun)
    clamp := countSites l fun s => s.clamped
    parity := (f.data.parity.filter fun p => inWindow f.gov.sensor p.1.1 p.1.2).length }

/-- The corner of a bank and node; 0 where the node is not read (Table 5-5). -/
def Frame.corner (f : Frame) (b : Bank) (n : Node) : Nat :=
  if n = .b ∧ f.gov.sensor.program.twin = false then 0 else (f.plane b n).corner

/-- Steps 2 to 6 of Table 5-1 on a frame. -/
def Frame.condition (f : Frame) : Conditioned :=
  let l := f.payloadSites
  let nodes : List Node := if f.gov.sensor.program.twin then [.a, .b] else [.a]
  { bytes := l.flatMap fun s => leBytes 3 s.value
    counts := f.counts l
    corners := [f.corner .top .a, f.corner .top .b, f.corner .bottom .a, f.corner .bottom .b]
    fallback := nodes.any fun n => f.planeFell (f.plane .top n) || f.planeFell (f.plane .bottom n) }

end Sys2Proof.Machine
end

