-- ==== Sys2Proof/Machine/Records.lean ====
section
/-! DEFINITION. The frame record as bytes (R114 to R122): header, metadata page, payload, sealing, and the records that recovery
supplies for lost frames (R182). -/

namespace Sys2Proof.Machine

/-! ## Void reasons (Table 5-6) -/

/-- The reasons in order of precedence. -/
def voidOrder : List Nat := [4, 5, 3, 7, 2, 1, 6]

/-- VOID_REASON: the reason that stands highest. -/
def voidReason (rs : List Nat) : Nat := (voidOrder.find? fun r => decide (r ∈ rs)).getD 0

/-- VOID_ALL: bit (code − 1) for each reason. -/
def voidAll (rs : List Nat) : Nat := sumNat ((List.range 7).map fun i => bit (decide (i + 1 ∈ rs)) i)

/-! ## The header (Table 5-3) -/

/-- No counts. -/
def noCounts : Counts := ⟨0, 0, 0, 0, 0, 0, 0⟩

/-- FLAGS (Table 5-4). -/
def headFlags (g : FrameGov) (m : HeadMarks) : Nat :=
  bit (decide (m.reasons ≠ [])) 0 + bit g.take.preroll 1 + bit (g.take.isSealed && decide (m.format = 3)) 2 + bit g.holdover 3
    + bit (decide (g.trigDelay ≠ 0)) 4 + bit (g.subst.any id) 5 + bit g.slipped 6 + bit m.parity 7 + bit m.fallback 8
    + bit g.follower 9 + bit g.take.last 10

/-- The code of a mode (Table 6-1). -/
def modeCode (m : Mode) : Nat := match m with
  | .dormant => 0
  | .ready => 1
  | .view => 2
  | .take => 3
  | .burst => 4
  | .service => 5

/-- Bit t of a byte for each sensor substituted. -/
def substByte (l : List Bool) : Nat := sumNat ((List.range 8).map fun t => bit (l.getD t false) t)

/-- Header bytes 0x000 to 0x0FF. -/
def headBytes (g : FrameGov) (m : HeadMarks) : List Byte :=
  let x := g.geometry
  leBytes 4 0x4352464D ++ leBytes 2 m.format ++ leBytes 2 0x1000 ++ leBytes 8 g.n ++ leBytes 8 g.take.takeId ++ leBytes 4 g.take.index
    ++ leBytes 4 (headFlags g m) ++ leBytes 8 g.boundary ++ leBytes 4 g.period ++ leBytes 1 (voidReason m.reasons)
    ++ leBytes 1 (voidAll m.reasons) ++ leBytes 1 (modeCode g.mode) ++ leBytes 1 m.variant ++ leBytes 8 g.timecode.toNat
    ++ leBytes 2 g.tcCount ++ leBytes 1 g.tcSource ++ zeros 5 ++ leBytes 2 x.window.x0 ++ leBytes 2 x.window.w ++ leBytes 2 x.window.h
    ++ leBytes 1 x.bin ++ leBytes 1 (bit (x.program.twin && decide (m.format = 3)) 0) ++ leBytes 2 x.outW ++ leBytes 2 x.outH
    ++ leBytes 4 x.rowBytes ++ leBytes 1 g.sensor.srThreshold ++ leBytes 1 g.rho ++ leBytes 1 g.rotK ++ zeros 1
    ++ leBytes 3 Config.pedestal ++ zeros 1 ++ leBytes 2 g.cond.recScale
    ++ leBytes 2 (g.cond.blkMode + 8 * g.cond.blkRowWin + 32 * g.cond.defRepl) ++ leBytes 2 g.cond.blkLim ++ zeros 2
    ++ leBytes 4 g.sensor.rateNum ++ leBytes 4 g.sensor.rateDen ++ leBytes 1 g.timing ++ zeros 3 ++ leBytes 4 g.trigDelay
    ++ leBytes 8 g.trigTime ++ zeros 8 ++ padTo 72 (programBytes g.sensor.program g.applied) ++ leBytes 4 g.ledgerSeq ++ zeros 4
    ++ leBytes 8 g.ledgerTarget ++ leBytes 4 g.calSetId ++ leBytes 2 (intField 16 g.tCal) ++ leBytes 1 (substByte g.subst) ++ zeros 1
    ++ leBytes 8 g.calCheck ++ ((List.range 8).flatMap fun t => leBytes 2 (intField 16 (g.temps.getD t 0))) ++ zeros 8

/-- NONCE (R118). -/
def nonceBytes (t : TakeTag) : List Byte := leBytes 8 t.takeId ++ leBytes 4 t.index

/-- KEY_ID, and the 12 bytes of NONCE, of a record; zero where the frame is not sealed. -/
def keyBytes (t : TakeTag) : List Byte :=
  (if t.isSealed then leBytes 4 t.keyId else zeros 4) ++ zeros 4 ++ (if t.isSealed then nonceBytes t else zeros 12) ++ zeros 12

/-- The payload bytes as stored. -/
def Payload.stored (p : Payload) : List Byte := match p with
  | .void => []
  | .plain b => b
  | .cipher b _ => b

/-- TAG. -/
def Payload.tag (p : Payload) : List Byte := match p with
  | .cipher _ t => t
  | _ => zeros 16

/-- The counts of a header as bytes 0x100 to 0x11F. -/
def countBytes (c : Counts) : List Byte :=
  leBytes 4 c.defect ++ leBytes 4 c.replaced ++ leBytes 4 c.unreplaced ++ leBytes 4 c.sat ++ leBytes 4 c.run ++ leBytes 4 c.clamp
    ++ leBytes 4 c.parity ++ zeros 4

/-- A page that ends in the CRC-32C of what stands before it. -/
def crcPage (bs : List Byte) : List Byte := padTo 4092 bs ++ leBytes 4 (crc32c (padTo 4092 bs))

/-- The marks of a record. PARITY_REPAIR follows PARITY_CNT (Table 5-4), and so clears with the counts of a void frame, where R121 keeps every
other field but the counts: DESIGN CHOICE, log entry 70. -/
def Record.marks (r : Record) : HeadMarks := ⟨r.reasons, r.variant, r.format, decide (r.counts.parity ≠ 0), r.fallback⟩

/-- PAYLOAD_LEN and PAYLOAD_CRC. -/
def payloadBytes (p : Payload) : List Byte := match p with
  | .void => zeros 16
  | _ => leBytes 8 p.stored.length ++ leBytes 8 (crc64 p.stored)

/-- The record header, a page. -/
def Record.header (r : Record) : List Byte :=
  crcPage (headBytes r.gov r.marks ++ countBytes r.counts ++ payloadBytes r.payload
    ++ (if r.format = 3 then keyBytes r.gov.take ++ r.payload.tag else zeros 48))

/-- HEADER_CRC. -/
def Record.headerCrc (r : Record) : Nat := leNat (r.header.drop 4092)

/-! ## The metadata page (Table 5-5) -/

/-- A calibrated reading; 0x8000_0000 where there is none (R359). -/
def readingBytes (v : Option Int) : List Byte := match v with
  | some x => leBytes 4 (intField 32 x)
  | none => leBytes 4 0x80000000

/-- The metadata page. -/
def Record.meta (r : Record) : List Byte :=
  let s := r.samples
  crcPage (leBytes 4 0x4D52464D ++ leBytes 2 3 ++ leBytes 2 0x1000 ++ leBytes 8 r.gov.n ++ padTo 1024 s.lens ++ readingBytes s.aux0
    ++ readingBytes s.aux1 ++ leBytes 8 s.auxTime ++ leBytes 1 s.syncState ++ zeros 3 ++ leBytes 4 (intField 32 s.phase)
    ++ leBytes 8 s.ltcIn.toNat ++ leBytes 1 s.role ++ leBytes 1 (bit s.paired 0) ++ zeros 6 ++ leBytes 8 s.partnerFrame
    ++ leBytes 4 (intField 32 s.pairOffset) ++ zeros 12 ++ ((List.range 4).flatMap fun i => leBytes 4 (r.corners.getD i 0))
    ++ leBytes 2 r.gov.retireGen ++ zeros 6 ++ ((List.range 16).flatMap fun i => leBytes 2 (min 0xFFFF (r.ovr.getD i 0)))
    ++ leBytes 2 (intField 16 s.stackTemp) ++ leBytes 1 s.input ++ zeros 1 ++ leBytes 4 s.protDepth ++ leBytes 4 s.resLevel
    ++ zeros 108 ++ padTo 1024 r.gov.recs.hostBlock)

/-- A record as bytes (R114): header, metadata page, and the payload filled with zero bytes to whole pages. -/
def Record.bytes (r : Record) : List Byte :=
  r.header ++ r.meta ++ padTo (roundUp r.payload.stored.length 4096) r.payload.stored

/-- Pages that a record occupies. -/
def Record.pages (r : Record) : Nat := 2 + (r.payload.stored.length + 4095) / 4096

/-- Whether a record is a void frame. -/
def Record.isVoid (r : Record) : Bool := decide (r.reasons ≠ [])

/-- A record made void for a reason (R121): the counts and the payload go, the other fields stay. -/
def Record.voided (r : Record) (reason : Nat) : Record :=
  { r with payload := .void, counts := noCounts, reasons := if reason ∈ r.reasons then r.reasons else r.reasons ++ [reason] }

/-- The take fields of a record replaced, as at the rewrite of the pre-roll headers (R147). -/
def Record.retag (r : Record) (t : TakeTag) : Record := { r with gov := { r.gov with take := t } }

/-! ## Sealing (R118) -/

/-- The payload of a complete record: ciphertext in a sealed take; none where the key is absent. -/
def sealPayload (key : Option (List Byte)) (g : FrameGov) (m : HeadMarks) (bytes : List Byte) : Option Payload :=
  if g.take.isSealed then
    match key with
    | none => none
    | some k =>
      let c := gcmSeal k (nonceBytes g.take) (headBytes g m) bytes
      some (.cipher c.1 c.2)
  else some (.plain bytes)

/-! ## Records that recovery supplies (R182) -/

/-- The record of a lost frame, rebuilt from HDR_COPY: reason 6 joins those that the header had, and R122 gives VOID_REASON. -/
def lostRecord (g : FrameGov) (m : HeadMarks) (last : Bool) : List Byte :=
  crcPage (headBytes { g with take := { g.take with last := last } } { m with reasons := m.reasons ++ [6] } ++ zeros 48
    ++ (if m.format = 3 then keyBytes g.take else [])) ++
  crcPage (leBytes 4 0x4D52464D ++ leBytes 2 3 ++ leBytes 2 0x1000 ++ leBytes 8 g.n)

/-- The minimal record of a frame whose index entry has been used again. -/
def bareRecord (t : TakeTag) (n variant format : Nat) : List Byte :=
  crcPage (leBytes 4 0x4352464D ++ leBytes 2 format ++ leBytes 2 0x1000 ++ leBytes 8 n ++ leBytes 8 t.takeId ++ leBytes 4 t.index
    ++ leBytes 4 (1 + bit t.isSealed 2 + bit t.last 10) ++ zeros 12 ++ leBytes 1 6 ++ leBytes 1 32 ++ zeros 1 ++ leBytes 1 variant
    ++ zeros 208 ++ zeros 48 ++ keyBytes t) ++
  crcPage (leBytes 4 0x4D52464D ++ leBytes 2 3 ++ leBytes 2 0x1000 ++ leBytes 8 n)

end Sys2Proof.Machine
end

