-- ==== Sys2Proof/Machine/Reservoir.lean ====
section
/-! DEFINITION. The frame reservoir (R157 to R172): capacity and sustainable rate, slots, pointers, level states, and the durability
that frees them. -/

namespace Sys2Proof.Machine

/-! ## Sizes (R160, R163) -/

/-- Pages of the index region. -/
def indexPages : Nat := 32768

/-- Index entries. -/
def indexEntries : Nat := 4194304

/-- Data pages and index entries of the void reserve. -/
def reservePages : Nat := 32768
def reserveEntries : Nat := 16384

/-- Pages of the data ring. -/
def ResUnit.dataPages (r : ResUnit) : Nat := r.capacity / 4096 - indexPages

/-- Usable pages: the data ring less the reserve. -/
def ResUnit.usable (r : ResUnit) : Nat := r.dataPages - reservePages

/-- Entries from DUR to WR. -/
def ResUnit.live (r : ResUnit) : List ResEntry := r.entries.filter fun e => decide (r.dur.seq ≤ e.seq)

/-- Pages of some entries. -/
def pagesOf (l : List ResEntry) : Nat := sumNat (l.map (·.pages))

/-- Used pages (R168): from DUR to WR without the void reserve's. -/
def ResUnit.used (r : ResUnit) : Nat := pagesOf (r.live.filter fun e => !e.reserved)

/-- Pages and entries of the void reserve in use. -/
def ResUnit.reserveUsed (r : ResUnit) : Nat × Nat :=
  let l := r.live.filter (·.reserved)
  (pagesOf l, l.length)

/-- LEVEL (R168). -/
def ResUnit.levelMille (r : ResUnit) : Nat := if r.usable = 0 then 0 else 1000 * r.used / r.usable

/-- The capacity C of n devices (R160). -/
def capacityOf (caps : List Nat) : Nat :=
  let n := caps.length
  min (n * caps.foldl min (caps.headD 0) / (n * 2 ^ 30) * (n * 2 ^ 30)) (2 ^ 41)

/-- The least capacity of a reservoir: 128 GiB (R160). -/
def leastCapacity : Nat := 2 ^ 37

/-- The device of a reservoir byte, and the address there (R160). -/
def deviceOf (n a : Nat) : Nat × Nat := (a / 4096 % n, 4096 * (a / (4096 * n)) + a % 4096)

/-- The reservoir page that holds an address of device d (R160). -/
def pageOfDevice (n d addr : Nat) : Nat := addr / 4096 * n + d

/-! ## Sustainable record rate (R161, R162) -/

/-- Usable bandwidth of a host lane in kB/s; the rate is in 100 MT/s (Table 7-3). -/
def hostLane (rate : Nat) : Nat :=
  if rate = 640 then 7560000 else if rate = 320 then 3700000 else if rate = 160 then 1850000 else if rate = 80 then 920000
  else if rate = 50 then 460000 else if rate = 25 then 230000 else 0

/-- Usable bandwidth of a memory lane in kB/s; the rate is in GT/s (Table 7-3). -/
def memLane (rate : Nat) : Nat :=
  if rate = 64 then 7560000 else if rate = 32 then 3450000 else if rate = 16 then 1720000 else if rate = 8 then 860000 else 0

/-- b_host in kB/s. -/
def LinkUnit.bHost (l : LinkUnit) : Nat :=
  let b := l.width * hostLane l.rate
  if l.mps = 128 then b * 85 / 100 else b

/-- The devices in use. -/
def ResUnit.inUse (r : ResUnit) : List MemDevice := r.devices.filter fun d => decide (d.dstate = 1)

/-- b_mem in kB/s. -/
def ResUnit.bMem (r : ResUnit) : Nat :=
  let l := r.inUse.map fun d => d.lanes * memLane d.rate
  l.length * l.foldl min (l.headD 0)

/-- B_sus in kB/s (R161). -/
def bSusOf (s : State) : Nat :=
  let b := min (9 * s.link.bHost / 10) (9 * s.res.bMem / 10)
  if s.hold.degraded then b else min b 64000000

/-- Whether a take runs (Table 9-9). -/
def TakeUnit.isRunning (t : TakeUnit) : Bool := decide (t.state = .running) || decide (t.state = .orphaned)

/-- B_sus is computed again after a link renegotiates; a running take that it does not cover gives event 0x040B (R162, Table 8-6). -/
def renewBsus (s : State) : State :=
  let s1 := { s with res := { s.res with bSus := bSusOf s } }
  if s1.take.isRunning && s1.settings.sensor.exceeds s1.sync.genlock s1.res.bSus then
    logEvent 0x040B srcMem (s1.res.bSus / 1000) s1
  else s1

/-! ## Slots (R164 to R167) -/

/-- The bad page that a run of data pages covers and that lies highest. -/
def ResUnit.badIn (r : ResUnit) (q n : Nat) : Option Nat :=
  ((r.bad.filter fun b => decide (indexPages + q ≤ b ∧ b < indexPages + q + n)).foldl
    (fun a b => some (max (a.getD 0) b)) none).map (· - indexPages)

/-- Where a record of n pages starts, searching from page q, and the pages skipped; none where no place is clear. -/
def ResUnit.clearFrom (r : ResUnit) (n : Nat) : Nat → Nat → Nat → Option (Nat × Nat)
  | 0, _, _ => none
  | fuel + 1, q, skipped =>
    if r.dataPages < q + n then
      if r.dataPages < n then none else r.clearFrom n fuel 0 (skipped + (r.dataPages - q))
    else match r.badIn q n with
      | none => some (q, skipped)
      | some b => r.clearFrom n fuel (b + 1) (skipped + (b + 1 - q))

/-- The place of a record of n pages at WR. -/
def ResUnit.place (r : ResUnit) (n : Nat) : Option (Nat × Nat) := r.clearFrom n (2 * r.bad.length + 3) r.wr.page 0

/-- The first sequence number from q whose index entry lies on no bad page (R165). -/
def ResUnit.goodSeq (r : ResUnit) : Nat → Nat → Nat
  | 0, q => q
  | fuel + 1, q => if q % indexEntries / 128 ∈ r.bad then r.goodSeq fuel ((q / 128 + 1) * 128) else q

/-- A sequence number for the next entry. -/
def ResUnit.nextSeq (r : ResUnit) : Nat := r.goodSeq (r.bad.length + 1) r.wr.seq

/-- Entries outside the reserved ones that are free: the numbers from DUR to the next one count as used. -/
def ResUnit.entriesFree (r : ResUnit) (extra : Nat) : Bool :=
  decide (r.nextSeq + extra - r.dur.seq ≤ indexEntries - reserveEntries + r.reserveUsed.2)

/-- Whether a record of n pages has a slot outside the void reserve (R167). -/
def ResUnit.hasSlot (r : ResUnit) (n : Nat) : Bool :=
  match r.place n with
  | none => false
  | some (_, skip) => decide (r.used + skip + n ≤ r.usable) && r.entriesFree (if skip = 0 then 1 else 2)

/-- An entry takes its place: where its index place was used before, that entry goes. -/
def ResUnit.addEntry (r : ResUnit) (e : ResEntry) : ResUnit :=
  { r with entries := (r.entries.filter fun x => decide (x.seq + indexEntries ≠ e.seq)) ++ [e] }

/-- WR moves over a filler, where one is needed. -/
def ResUnit.addFiller (r : ResUnit) (skip : Nat) (reserved : Bool) : ResUnit :=
  if skip = 0 then r
  else
    let q := r.nextSeq
    let r1 := r.addEntry ⟨q, 0, r.wr.page, skip, .filler, none, [], reserved, false⟩
    { r1 with wr := ⟨(r.wr.page + skip) % max 1 r.dataPages, q + 1⟩ }

/-- The slot of a frame's record of n pages (R165, R166); unchanged where no place is clear. -/
def ResUnit.reserve (r : ResUnit) (frame n : Nat) (reserved preroll : Bool) (reasons : List Nat) : ResUnit :=
  match r.place n with
  | none => r
  | some (start, skip) =>
    let r1 := r.addFiller skip reserved
    let q := r1.nextSeq
    let r2 := r1.addEntry ⟨q, frame, start, n, .writing, none, reasons, reserved, preroll⟩
    { r2 with wr := ⟨(start + n) % max 1 r.dataPages, q + 1⟩ }

/-- Whether the void reserve holds another void record with the filler that it would need (R167). -/
def ResUnit.reserveHolds (r : ResUnit) : Bool :=
  match r.place 2 with
  | none => false
  | some (_, skip) =>
    decide (r.reserveUsed.1 + skip + 2 ≤ reservePages) && decide (r.reserveUsed.2 + (if skip = 0 then 1 else 2) ≤ reserveEntries)

/-- The live entry of a frame. -/
def ResUnit.entryOf (r : ResUnit) (frame : Nat) : Option ResEntry :=
  r.live.find? fun e => decide (e.frame = frame) && decide (e.state ≠ .filler)

/-- Changes the live entry of a frame. -/
def ResUnit.modify (r : ResUnit) (frame : Nat) (f : ResEntry → ResEntry) : ResUnit :=
  { r with entries := r.entries.map fun e =>
      if r.dur.seq ≤ e.seq ∧ e.frame = frame ∧ e.state ≠ .filler then f e else e }

/-- DUR passes entries while they are durable, fillers, or pre-roll that `drop` gives up (R166). -/
def passDur (drop : ResEntry → Bool) : List ResEntry → RingPtr → RingPtr
  | [], p => p
  | e :: es, p =>
    if e.seq < p.seq then passDur drop es p
    else if e.state = .durable ∨ e.state = .filler ∨ drop e = true then passDur drop es ⟨e.page + e.pages, e.seq + 1⟩
    else ⟨e.page, e.seq⟩

/-- DUR moves as far as it can; SEND is never behind it. -/
def ResUnit.moveDur (r : ResUnit) (drop : ResEntry → Bool) : ResUnit :=
  let d := passDur drop r.entries r.dur
  let d1 : RingPtr := if r.wr.seq ≤ d.seq then r.wr else ⟨d.page % max 1 r.dataPages, d.seq⟩
  { r with dur := d1, send := if r.send.seq < d1.seq then d1 else r.send }

/-- SEND names the record of a frame (R166), or WR where the reservoir has no such record yet. -/
def ResUnit.sendAt (r : ResUnit) (frame : Nat) : ResUnit :=
  match r.entryOf frame with
  | some e => { r with send := ⟨e.page, e.seq⟩ }
  | none => { r with send := r.wr }

/-! ## Level states (Table 7-6) -/

/-- The lower edge of a state. -/
def levelEdge (k : Nat) : Nat := if k = 0 then 0 else if k = 1 then 500 else if k = 2 then 750 else 900

/-- The state that follows: up at an edge, and down 50 below it; FULL while no slot is found. -/
def levelNext (cur level : Nat) (full : Bool) : Nat :=
  if full then 4
  else
    let up := if 900 ≤ level then 3 else if 750 ≤ level then 2 else if 500 ≤ level then 1 else 0
    let kept := (List.range 4).foldl (fun b k => if k ≤ cur ∧ levelEdge k ≤ level + 50 then k else b) 0
    max up kept

/-- The level state is judged: a change gives event 0x0402 and vector 27 (R168). -/
def judgeLevel (full : Bool) (s : State) : State :=
  let k := levelNext s.res.level s.res.levelMille full
  if k = s.res.level then s
  else fire0 27 (logEvent 0x0402 srcMem k { s with res := { s.res with level := k } })

/-! ## Faults of a record (R170) -/

/-- Pages of the bad-page map that a report adds, up to 4,096. -/
def ResUnit.addBad (r : ResUnit) (page : Nat) : ResUnit :=
  if page ∈ r.bad ∨ 4096 ≤ r.bad.length then r else { r with bad := r.bad ++ [page] }

/-- Whether an entry occupies a reservoir page. -/
def ResEntry.covers (e : ResEntry) (page : Nat) : Bool :=
  decide (indexPages + e.page ≤ page ∧ page < indexPages + e.page + e.pages)

/-- The live record that occupies a reservoir page. -/
def ResUnit.recordAt (r : ResUnit) (page : Nat) : Option ResEntry :=
  r.live.find? fun e => decide (e.state ≠ .filler) && e.covers page

/-! ## Presence (R158) -/

/-- Lanes of each device in the layout that a presence pattern gives (Table 7-2). -/
def layoutLanes (present : List Nat) : Option Nat :=
  if present = [0] then some 16 else if present = [0, 1] then some 8 else if present = [0, 1, 2, 3] then some 4 else none

/-- The reservoir without contents: the index region zero, the pointers at the start (R159, R164). -/
def ResUnit.empty (r : ResUnit) (present : Bool) (devices : List MemDevice) (capacity : Nat) (bad : List Nat) : ResUnit :=
  { r with present := present, devices := devices, capacity := capacity, bad := bad, frozen := [], entries := [], wr := ⟨0, 0⟩, send := ⟨0, 0⟩,
           dur := ⟨0, 0⟩, level := 0, retrain := false, queued := 0, scratch := [] }

/-- The presence pattern as event data: one bit a device. -/
def patternBits (l : List Nat) : Nat := sumNat (l.map fun d => 2 ^ d)

/-- The reservoir is absent. -/
def absent (devices : List MemDevice) (s : State) : State := { s with res := s.res.empty false devices 0 [] }

/-- The pages that the slot of a record of n pages takes, with the filler that it needs. -/
def ResUnit.slotPages (r : ResUnit) (n : Nat) : Nat := n + ((r.place n).map (·.2)).getD 0

end Sys2Proof.Machine
end

