-- ==== Sys2Proof/Machine/HoldOver.lean ====
section
/-! DEFINITION. The hold-over ring (R173 to R184): entries, overwriting, protection depth, the retire record, the start-up scan, and
what recovery supplies. -/

namespace Sys2Proof.Machine

/-- Index entries of the ring. -/
def ringEntryCount : Nat := 262144

/-- Whether the ring takes writes (R178, R181): PD68 is on and the ring is neither locked nor degraded. -/
def State.ringWrites (s : State) : Bool := s.pdOn 68 && !s.hold.locked && !s.hold.degraded

/-- Whether an entry holds its pages. -/
def RingEntry.holds (e : RingEntry) : Bool := decide (e.state = .opened) || decide (e.state = .complete)

/-- The oldest entry that holds pages. -/
def HoldUnit.oldest (h : HoldUnit) : Option RingEntry := h.entries.find? RingEntry.holds

/-- Pages from the oldest entry that holds any to the next page: the ring writes in strict rotation (R177). -/
def HoldUnit.used (h : HoldUnit) : Nat :=
  match h.oldest with
  | none => 0
  | some e => let d := (h.nextPage + h.pages - e.page) % max 1 h.pages
    if d = 0 then h.pages else d

/-- Entries from the oldest that holds pages. -/
def HoldUnit.usedEntries (h : HoldUnit) : Nat :=
  match h.oldest with
  | none => 0
  | some e => h.nextIndex - e.index

/-- Whether a record of n pages finds free pages and a free entry (R176). -/
def HoldUnit.fits (h : HoldUnit) (n : Nat) : Bool :=
  decide (h.used + n ≤ h.pages) && decide (h.usedEntries < ringEntryCount)

/-- Changes the entries of a frame that hold pages. -/
def HoldUnit.modify (h : HoldUnit) (frame : Nat) (f : RingEntry → RingEntry) : HoldUnit :=
  { h with entries := h.entries.map fun e => if e.gov.n = frame ∧ e.holds then f e else e }

/-- The oldest record is overwritten (R14, R484): vector 28 fires for a record of a take. -/
def overwriteOldest (s : State) : State :=
  match s.hold.oldest with
  | none => s
  | some e =>
    let s1 := { s with hold := { s.hold with entries := s.hold.entries.map fun x =>
      if x.index = e.index then { x with state := .overwritten, stateTime := s.time.module } else x } }
    if e.gov.take.takeId ≠ 0 then fire0 28 s1 else s1

/-- Oldest records are overwritten until n pages are free. -/
def makeRoom (n : Nat) : Nat → State → State
  | 0, s => s
  | fuel + 1, s => if s.hold.fits n || s.hold.oldest.isNone then s else makeRoom n fuel (overwriteOldest s)

/-- The format of the records now (R119). -/
def State.recordFormat (s : State) (g : FrameGov) : Nat := if g.take.takeId = 0 then 3 else s.take.format


/-- Whether an entry passes ENTRY_CRC and STATE_CHECK (R181). -/
def RingEntry.readable (e : RingEntry) : Bool := decide (e.checkUpset = 0) && decide (e.crcUpset = 0)

/-- STATE of an entry (Table 7-9). -/
def RingState.code (x : RingState) : Nat := match x with
  | .opened => 1
  | .complete => 2
  | .released => 3
  | .overwritten => 4

/-- The 512 bytes of an index entry (Table 7-9). STATE and STATE_CHECK stand outside ENTRY_CRC. -/
def RingEntry.bytes (e : RingEntry) : List Byte :=
  let copy := headBytes e.gov e.marks
  let t := e.gov.take
  let tail := leBytes 8 e.page ++ leBytes 4 e.pages ++ leBytes 4 (if t.isSealed then t.keyId else 0) ++ leBytes 8 e.stateTime
    ++ (match e.record with
      | some r => (payloadBytes r.payload).drop 8
      | none => zeros 8) ++ zeros 212
  copy ++ leBytes 4 e.state.code ++ leBytes 4 ((2 ^ 32 - 1 - e.state.code) ^^^ e.checkUpset.toNat) ++ tail
    ++ leBytes 4 (crc32c (copy ++ tail) ^^^ e.crcUpset.toNat)

/-- OPEN at B_N (R175). -/
def ringOpen (g : FrameGov) (n : Nat) (s : State) : State :=
  if s.ringWrites && decide (n ≤ s.hold.pages) then
    let s1 := makeRoom n (s.hold.entries.length + 1) s
    let h := s1.hold
    let m : HeadMarks := ⟨g.reasons, bit s.mono 0, s.recordFormat g, false, false⟩
    let e : RingEntry := ⟨h.nextIndex, g, m, .opened, h.nextPage, n, s.time.module, none, 0, 0⟩
    let p := h.nextPage + n
    { s1 with hold := { h with
        entries := (h.entries.filter fun x => decide (x.index + ringEntryCount ≠ h.nextIndex)) ++ [e],
        nextPage := p % max 1 h.pages, nextIndex := h.nextIndex + 1, passes := h.passes + p / max 1 h.pages } }
  else s

/-- COMPLETE, after the last page is verified (R175). -/
def ringComplete (r : Record) (s : State) : State :=
  if s.ringWrites then
    { s with hold := s.hold.modify r.gov.n fun e => { e with gov := r.gov, marks := r.marks, state := .complete, stateTime := s.time.module, record := some r } }
  else s

/-- A record of the ring is replaced, header and HDR_COPY (R139, R147, R170). -/
def ringReplace (r : Record) (s : State) : State :=
  if s.ringWrites then { s with hold := s.hold.modify r.gov.n fun e => { e with gov := r.gov, marks := r.marks, record := some r } } else s

/-- HDR_COPY of a record that is still being written takes new take fields (R175). -/
def ringTag (n : Nat) (t : TakeTag) (s : State) : State :=
  if s.ringWrites then
    let tag (e : RingEntry) : RingEntry :=
      if e.record.isNone then
        { e with gov := { e.gov with take := t }, marks := { e.marks with format := s.recordFormat { e.gov with take := t } } }
      else e
    { s with hold := s.hold.modify n tag }
  else s

/-- RELEASED, on the durability acknowledgement; an OVERWRITTEN entry stays (R185), and a locked ring takes no write (R181). -/
def ringRelease (frame : Nat) (s : State) : State :=
  let h := if s.hold.locked then s.hold else s.hold.modify frame fun e => { e with state := .released, stateTime := s.time.module }
  { s with hold := { h with lastDurable := frame } }

/-- Protection depth (R176): COMPLETE entries of the current take. -/
def State.protDepth (s : State) : Nat :=
  if s.hold.degraded || decide (s.take.takeId = 0) then 0
  else (s.hold.entries.filter fun e => decide (e.state = .complete) && decide (e.gov.take.takeId = s.take.takeId)).length

/-- Used endurance in 1/1,000: 1×10⁸ passes are rated (R177). -/
def HoldUnit.endurance (h : HoldUnit) : Nat := h.passes / 100000

/-! ## The retire record (R180) -/

/-- The last 64 entries of the log. -/
def LogUnit.last64 (l : LogUnit) : List LogEntry := l.entries.drop (l.entries.length - 64)

/-- The range of index entries of a take. -/
def HoldUnit.indexRange (h : HoldUnit) (takeId : Nat) : Nat × Nat :=
  let l := (h.entries.filter fun e => decide (e.gov.take.takeId = takeId)).map (·.index)
  (l.headD 0, l.getLastD 0)

/-- What the CRC-64 of the retire record covers: its fields in the order of R180 (the manual gives no layout: DESIGN CHOICE, log entry 71). -/
def RetireRecord.body (r : RetireRecord) : List Byte :=
  leBytes 4 r.cause ++ leBytes 8 r.time ++ leBytes 8 r.takeId ++ leBytes 8 r.lastAssigned ++ leBytes 8 r.lastDurable ++ leBytes 8 r.firstIndex
    ++ leBytes 8 r.lastIndex ++ leBytes 4 r.complete ++ r.events.flatMap LogEntry.bytes

/-- The CRC-64 stored with the retire record. -/
def RetireRecord.crc (r : RetireRecord) : Nat := crc64 r.body ^^^ r.upset.toNat

/-- The retire record, where there is one that passes its check. -/
def HoldUnit.retired (h : HoldUnit) : Option RetireRecord := h.retire.filter fun r => decide (r.upset = 0)

/-- The retire record is written, with event 0x0424, unless the ring is locked or the store degraded. -/
def writeRetire (cause : Nat) (s : State) : State :=
  if s.hold.locked || s.hold.degraded then s
  else
    let r := s.hold.indexRange s.take.takeId
    let n := (s.hold.entries.filter fun e => decide (e.state = .complete) && decide (e.gov.take.takeId = s.take.takeId)).length
    let note : RetireRecord :=
      ⟨cause, s.time.module, s.take.takeId, s.frame.lastFrame, s.hold.lastDurable, r.1, r.2, n, s.log.last64, 0⟩
    logEvent 0x0424 srcHold cause { s with hold := { s.hold with retire := some note } }

/-! ## The start-up scan (R181) -/

/-- Whether an entry locks the ring. -/
def RingEntry.locks (e : RingEntry) : Bool :=
  e.readable && decide (e.gov.take.takeId ≠ 0) && (e.holds || decide (e.state = .overwritten))

/-- Pre-roll that no take took in is released. -/
def RingEntry.scanned (e : RingEntry) (now : Nat) : RingEntry :=
  if e.gov.take.takeId = 0 ∧ e.holds = true ∧ e.readable = true then { e with state := .released, stateTime := now } else e

/-- The scan. A degraded store locks nothing (R178). -/
def scanRing (s : State) : State :=
  let es := s.hold.entries.map fun e => e.scanned s.time.module
  let s1 := { s with hold := { s.hold with entries := es } }
  let s2 := each (es.filter fun e => !e.readable) (fun e t => logEvent 0x0426 srcHold (e.index % ringEntryCount) t) s1
  if es.any RingEntry.locks && !s.hold.degraded then
    fire0 28 (logEvent 0x0425 srcHold 0 { s2 with hold := { s2.hold with locked := true } })
  else s2

/-- The locked takes, in ring order. -/
def HoldUnit.takes (h : HoldUnit) : List Nat :=
  if h.degraded || !h.locked then [] else ((h.entries.filter RingEntry.locks).map fun e => e.gov.take.takeId).eraseDups

/-- The ring unlocks when no locked take remains (R184). The retire record has then served its recovery, and goes (DESIGN CHOICE, log entry 71: a
recovery after a warm reset starts without one, R180). -/
def HoldUnit.unlock (h : HoldUnit) : HoldUnit := if h.entries.any RingEntry.locks then h else { h with locked := false, retire := none }

/-! ## Locked takes (R182) -/

/-- The entries of a take. -/
def HoldUnit.ofTake (h : HoldUnit) (t : Nat) : List RingEntry := h.entries.filter fun e => decide (e.gov.take.takeId = t) && e.readable

/-- The frame with TAKE_INDEX 0: FRAME_NUMBER and TAKE_INDEX run without gaps. -/
def HoldUnit.takeFirst (h : HoldUnit) (t : Nat) : Nat :=
  match (h.ofTake t).head? with
  | some e => e.gov.n - e.gov.take.index
  | none => 0

/-- The last frame of a take known to be durable, as its RELEASED entries and the retire record give it. -/
def HoldUnit.takeDurable (h : HoldUnit) (t : Nat) : Nat :=
  let a := ((h.ofTake t).filter fun e => decide (e.state = .released)).map fun e => e.gov.n
  let b := match h.retired with
    | some r => if r.takeId = t then [r.lastDurable] else []
    | none => []
  (a ++ b).foldl max 0

/-- The first frame of a locked take's range: after the last one durable. -/
def HoldUnit.rangeFirst (h : HoldUnit) (t : Nat) : Nat := max (h.takeFirst t) (h.takeDurable t + 1)

/-- The last frame numbered. -/
def HoldUnit.rangeLast (h : HoldUnit) (t : Nat) : Nat :=
  let a := (h.ofTake t).map fun e => e.gov.n
  let b := match h.retired with
    | some r => if r.takeId = t then [r.lastAssigned] else []
    | none => []
  (a ++ b).foldl max 0

/-- The frames of a locked take's range. -/
def HoldUnit.range (h : HoldUnit) (t : Nat) : List Nat :=
  (List.range (h.rangeLast t + 1 - h.rangeFirst t)).map fun i => h.rangeFirst t + i

/-- The latest entry of a frame of a take. -/
def HoldUnit.entryFor (h : HoldUnit) (t n : Nat) : Option RingEntry :=
  (h.ofTake t).reverse.find? fun e => decide (e.gov.n = n)

/-- What recovery has of a frame. -/
inductive Recovered where
  | whole (r : Record)
  | lost (e : RingEntry)
  | gone
  deriving DecidableEq, Repr

/-- What recovery has of frame n of a take. -/
def HoldUnit.recovered (h : HoldUnit) (t n : Nat) : Recovered :=
  match h.entryFor t n with
  | none => .gone
  | some e =>
    match e.record with
    | some r => if e.state = .complete ∨ e.state = .released then .whole r else .lost e
    | none => .lost e

/-- The tag that any other entry gives a frame of the take. -/
def HoldUnit.tagFor (h : HoldUnit) (t n : Nat) (last : Bool) : TakeTag :=
  match (h.ofTake t).head? with
  | some e => { e.gov.take with index := n - h.takeFirst t, last := last, preroll := false }
  | none => ⟨t, 0, 0, false, last, false⟩

/-- The format of a take's records, as their HDR_COPY gives it. -/
def HoldUnit.takeFormat (h : HoldUnit) (t : Nat) : Nat :=
  match (h.ofTake t).head? with
  | some e => e.marks.format
  | none => 3

/-- The bytes of the record that recovery delivers for frame n: the last one supplied carries LAST. -/
def recoveredBytes (s : State) (t n : Nat) : List Byte :=
  let h := s.hold
  let last := decide (n = h.rangeLast t)
  let variant := bit s.mono 0
  match h.recovered t n with
  | .whole r => (if last then r.retag { r.gov.take with last := true } else r).bytes
  | .lost e => lostRecord e.gov e.marks last
  | .gone => bareRecord (h.tagFor t n last) n variant (h.takeFormat t)

/-- Complete records, void records and lost frames of a locked take. -/
def HoldUnit.tally (h : HoldUnit) (t : Nat) : Nat × Nat × Nat :=
  let l := (h.range t).map fun n => h.recovered t n
  ((l.filter fun r => match r with
      | .whole x => !x.isVoid
      | _ => false).length,
   (l.filter fun r => match r with
      | .whole x => x.isVoid
      | _ => false).length,
   (l.filter fun r => match r with
      | .whole _ => false
      | _ => true).length)

end Sys2Proof.Machine
end

