-- ==== Sys2Proof/Machine/Welt.lean ====
section
/-! DEFINITION. Welt sessions (chapter 9): opening, credit, commit descriptors, acknowledgements, faults and relays. Bay 0 is A, bay 1
is B. -/

namespace Sys2Proof.Machine

/-! ## Versions and capabilities (Table 9-1) -/

/-- The number of a bay. -/
def bayNum (bay : Bay) : Nat := match bay with
  | .a => 0
  | .b => 1

/-- The capability bits that a version permits: 0 RELAY, 1 RANGE_ACK, 2 SEAL, 3 RECOVERY. -/
def versionCaps (v : Nat) : Nat := if v = 0x11 then 9 else if v = 0x20 then 11 else if v = 0x21 then 15 else 0

/-- The record format of a version. -/
def versionFormat (v : Nat) : Nat := if v < 0x20 then 2 else 3

/-- Whether a capability is in effect on a session. -/
def Session.can (x : Session) (bit : Nat) : Bool := x.caps.testBit bit && (versionCaps x.version).testBit bit

/-- The highest version that the agent lists and that does not exceed the offer (R207). -/
def chooseVersion (versions maxVersion : Nat) : Option Nat :=
  ((List.range 4).filterMap fun i =>
    let v := weltVersions.getD i 0
    if versions.testBit i && decide (v ≤ maxVersion) then some v else none).getLast?

/-! ## AGENT_INFO (Table 9-3, R212) -/

/-- A number in AGENT_INFO. -/
def infoAt (info : List Byte) (off n : Nat) : Nat := leNat ((info.drop off).take n)

/-- The windows of AGENT_INFO: base and pages. -/
def infoWindows (info : List Byte) : List (Nat × Nat) :=
  (List.range (infoAt info 0x1C 4)).map fun i => (infoAt info (0x40 + 16 * i) 8, infoAt info (0x48 + 16 * i) 4)

/-- Whether a stretch of addresses lies wholly within one allow-list range. -/
def allowed (allow : List (Nat × Nat)) (base len : Nat) : Bool :=
  allow.any fun r => decide (r.1 ≤ base) && decide (base + len ≤ r.1 + r.2)

/-- Whether AGENT_INFO is well formed. -/
def infoOk (info : List Byte) : Bool :=
  decide (infoAt info 0 4 = 0x544C4557) && decide (infoAt info 0x3FC 4 = crc32c (info.take 0x3FC))
    && decide (1 ≤ infoAt info 0x1C 4 ∧ infoAt info 0x1C 4 ≤ 32) && powerIn (infoAt info 0x18 4) 64 65536
    && (infoWindows info).all fun w => decide (w.1 % 4096 = 0) && decide (w.2 ≠ 0)

/-- Whether the windows and the commit ring of a session lie in an allow list. -/
def covered (allow : List (Nat × Nat)) (windows : List (Nat × Nat)) (ringBase ringEntries : Nat) : Bool :=
  windows.all (fun w => allowed allow w.1 (4096 * w.2)) && allowed allow ringBase (64 * ringEntries)

/-! ## Sessions -/

/-- The session of a bay. -/
def State.bay (s : State) (b : Nat) : Session := s.take.bay b

/-- Replaces the session of a bay. -/
def State.setBay (s : State) (b : Nat) (x : Session) : State := { s with take := s.take.setBay b x }

/-- The other bay. -/
def otherBay (b : Nat) : Nat := 1 - b

/-- Whether Welt writes: the link carries PF0's writes, and no fatal sequence runs (R204, Table 19-5). -/
def State.weltWrites (s : State) : Bool := s.link.mayWrite false && s.dump.fatal.isNone

/-- The bus address of a session page (R214). -/
def pageAddress : List (Nat × Nat) → Nat → Nat
  | [], _ => 0
  | w :: ws, q => if q < w.2 then w.1 + 4096 * q else pageAddress ws (q - w.2)

/-- The address of session page p. -/
def Session.address (x : Session) (p : Nat) : Nat := pageAddress x.windows (p % max 1 x.wTotal)

/-- Whether one descriptor credit remains (R215). -/
def Session.descCredit (x : Session) : Bool := decide (x.descSeq < x.descLimit)

/-- What a descriptor holds beside the session's fields (Table 9-5). -/
structure Descriptor where
  kind : Nat
  flags : Nat
  keyId : Nat
  takeId : Nat
  frame : Nat
  index : Nat
  pages : Nat
  firstPage : Nat
  payloadCrc : Nat
  headerCrc : Nat
  deriving DecidableEq, Repr

/-- A descriptor with every field zero but its type. -/
def descriptor (kind : Nat) : Descriptor := ⟨kind, 0, 0, 0, 0, 0, 0, 0, 0, 0⟩

/-- The 64 bytes of a descriptor. -/
def descriptorBytes (x : Session) (d : Descriptor) : List Byte :=
  let h := leBytes 1 d.kind ++ leBytes 1 x.version ++ leBytes 2 d.flags ++ leBytes 4 x.descSeq ++ leBytes 4 x.sessionId
    ++ leBytes 4 d.keyId ++ leBytes 8 d.takeId ++ leBytes 8 d.frame ++ leBytes 4 d.index ++ leBytes 4 d.pages ++ leBytes 8 d.firstPage
    ++ leBytes 8 d.payloadCrc ++ leBytes 4 d.headerCrc
  h ++ leBytes 4 (crc32c h)

/-- Writes a descriptor to a bay. -/
def writeDescriptor (b : Nat) (d : Descriptor) (s : State) : State :=
  let x := s.bay b
  (s.setBay b { x with descSeq := x.descSeq + 1 }).send
    (.descriptor b (x.ringBase + 64 * (x.descSeq % max 1 x.ringEntries)) (descriptorBytes x d))

/-- Whether a session's credit covers a record of n pages (R215). -/
def Session.covers (x : Session) (n : Nat) : Bool := x.descCredit && decide (x.nextPage + n ≤ x.pageLimit)

/-- Whether the record that a session sends next waits for credit: the session is active and the frame's record is closed, or a recovered
record is due on it, and the credit does not cover it. -/
def waitsForCredit (b : Nat) (s : State) : Bool :=
  let x := s.bay b
  (decide (s.take.active = some b) && match (s.res.entryOf s.take.sendNext).bind (·.record) with
    | some r => !(x.covers r.pages)
    | none => false)
    || s.hold.job.any fun j => decide (j.route = 1 ∧ j.bay = b ∧ j.next ≤ j.last) &&
      !(x.covers ((recoveredBytes s j.takeId j.next).length / 4096))

/-- Whether a session owes progress (R221). -/
def owes (b : Nat) (s : State) : Bool :=
  let x := s.bay b
  decide (x.state = .streaming) && (decide (x.commits ≠ []) || waitsForCredit b s)

/-- The progress time restarts where a session passes from owing nothing to owing progress. -/
def noteOwing (b : Nat) (s : State) : State :=
  let x := s.bay b
  let o := owes b s
  s.setBay b { x with owing := o, progress := if o && !x.owing then s.time.now else x.progress }

/-- The same for both bays. -/
def noteBoth (s : State) : State := noteOwing 1 (noteOwing 0 s)

/-- The progress time of a bay restarts. -/
def restartProgress (b : Nat) (s : State) : State := s.setBay b { s.bay b with progress := s.time.now }

/-! ## The active session (R223) -/

/-- Whether a session is OPEN or STREAMING. -/
def Session.carrying (x : Session) : Bool := decide (x.state = .opened) || decide (x.state = .streaming)

/-- The session that is active among those that meet a test. -/
def activeAmong (ok : Session → Bool) (s : State) : Option Nat :=
  let good (b : Nat) : Bool := ok (s.bay b)
  if good 0 && good 1 then
    if (s.bay 0).primary = (s.bay 1).primary then some s.prefs.prefBay else if (s.bay 0).primary then some 0 else some 1
  else if good 0 then some 0 else if good 1 then some 1 else none

/-- Whether any session is OPEN or STREAMING. -/
def anySession (s : State) : Bool :=
  (List.range 2).any fun b => (s.bay b).carrying

/-- Sealed takes are armed while any open session carries SEAL (R224). -/
def State.armed (s : State) : Bool :=
  (List.range 2).any fun b => (s.bay b).wantsSeal && (s.bay b).carrying

/-- Whether a session can carry a take: SEAL for a sealed take (R224). -/
def canCarry (isSealed : Bool) (x : Session) : Bool := !isSealed || x.wantsSeal

/-! ## Sending a record (R214, R215, R217) -/

/-- The FLAGS of a FRAME descriptor. -/
def frameFlags (r : Record) (resent : Bool) : Nat :=
  bit r.gov.take.last 0 + bit r.gov.take.preroll 1 + bit (r.gov.take.isSealed && decide (r.format = 3)) 2 + bit r.isVoid 3 + bit resent 4

/-- The FRAME descriptor of a record. -/
def frameDescriptor (r : Record) (first : Nat) (resent : Bool) : Descriptor :=
  { kind := 3, flags := frameFlags r resent, keyId := if r.gov.take.isSealed then r.gov.take.keyId else 0, takeId := r.gov.take.takeId,
    frame := r.gov.n, index := r.gov.take.index, pages := r.pages, firstPage := first,
    payloadCrc := if r.isVoid then 0 else crc64 r.payload.stored, headerCrc := r.headerCrc }

/-- The page writes of a record's bytes from session page p on (R214). -/
def Session.pageWrites (x : Session) (p : Nat) (bytes : List Byte) : List (Nat × List Byte) :=
  (List.range ((bytes.length + 4095) / 4096)).map fun j => (x.address (p + j), (bytes.drop (4096 * j)).take 4096)

/-- The pages of a record go to a bay. -/
def sendPages (b : Nat) (r : Record) (s : State) : State := s.send (.pages b ((s.bay b).pageWrites (s.bay b).nextPage r.bytes))

/-- The FRAME descriptor of a record whose pages have gone out. -/
def commitPaged (b : Nat) (r : Record) (s : State) : State :=
  let x := s.bay b
  let s1 := writeDescriptor b (frameDescriptor r x.nextPage (decide (r.gov.n < s.take.sentUpTo))) s
  let y := s1.bay b
  let c : Commit := ⟨r.gov.n, x.descSeq, r.headerCrc, x.nextPage, r.pages, r.gov.take.last, false⟩
  let s2 := s1.setBay b { y with nextPage := x.nextPage + r.pages, commits := y.commits ++ [c] }
  let res1 := s2.res.modify r.gov.n fun e => { e with state := .sent }
  { s2 with take := { s2.take with sendNext := r.gov.n + 1, paged := none }, res := res1.sendAt (r.gov.n + 1) }

/-- The record of a frame goes to a bay: its pages, then its descriptor. -/
def commitRecord (b : Nat) (r : Record) (s : State) : State := commitPaged b r (sendPages b r s)

/-- The vote that held a descriptor back is done: the record's first page goes out again where its header has changed, and then the descriptor
(R139). -/
def releasePaged (b : Nat) (s : State) : State :=
  match s.take.paged with
  | none => s
  | some (n, crc) =>
    if s.take.holdBack = some n then s
    else
      match (s.res.entryOf n).bind (·.record) with
      | none => s
      | some r =>
        if (s.bay b).descCredit then
          commitPaged b r (if r.headerCrc = crc then s
            else s.send (.pages b ((s.bay b).pageWrites (s.bay b).nextPage (r.bytes.take 4096))))
        else s

/-! ## What the take writes to its session -/

/-- The flags of a descriptor about a take. -/
def sealFlag (s : State) : Nat := bit s.take.isSealed 2

/-- KEY_ID of the take; 0 if unsealed. -/
def takeKeyId (s : State) : Nat := if s.take.isSealed then s.take.keyId else 0

/-- The session takes up the take's records. -/
def Session.stream (x : Session) : Session := { x with state := .streaming }

/-- TAKE_BEGIN, where it is due: not yet written, and no header is still being rewritten (R147, R223). -/
def writeBegin (b : Nat) (s : State) : State :=
  if !s.take.begun && !s.take.rewriting && s.take.relay.isNone && (s.bay b).descCredit then
    let t := s.take
    writeDescriptor b { descriptor 2 with flags := sealFlag s, keyId := takeKeyId s, takeId := t.takeId, frame := t.first }
      { s with take := { t.setBay b (s.bay b).stream with begun := true } }
  else s

/-- RELAY_IN, where one is due on the active session (R225). A relay before the take has chosen its pre-roll names the take's first frame, once it
is chosen and the headers are rewritten (DESIGN CHOICE, log entry 70). -/
def writeRelayIn (b : Nat) (s : State) : State :=
  match s.take.relay with
  | none => s
  | some (r, mag) =>
    if !s.take.rewriting && (s.bay b).descCredit then
      let t := s.take
      let r := max r t.first
      writeDescriptor b { descriptor 5 with keyId := takeKeyId s, takeId := t.takeId, frame := r, index := r - t.first, payloadCrc := mag }
        { s with take := { t.setBay b (s.bay b).stream with relay := none, begun := true } }
    else s

/-- TAKE_END naming a frame of a take, which begins at frame `first`. -/
def writeEnd (b frame : Nat) (t : Nat × Nat) (s : State) : State :=
  writeDescriptor b { descriptor 4 with takeId := t.1, frame := frame, index := frame - t.2 } s

/-- TAKE_END after the LAST frame's descriptor, where credit allows; a vote still due holds it back (R139). -/
def writeTakeEnd (b : Nat) (s : State) : State :=
  match s.take.last with
  | none => s
  | some l =>
    if !s.take.ended && decide (l < s.take.sendNext) && s.take.holdBack.isNone && (s.bay b).descCredit then
      writeEnd b l (s.take.takeId, s.take.first) { s with take := { s.take with ended := true } }
    else s

/-- What Welt writes to the active session as soon as it may. -/
def greet (s : State) : State :=
  match s.take.active with
  | none => s
  | some b => if s.weltWrites && decide (s.take.state ≠ .none) then
      writeTakeEnd b (releasePaged b (writeRelayIn b (writeBegin b s))) else s

/-- A session returns from STREAMING to OPEN once it owes the take nothing more (Table 9-8). -/
def settleSession (b : Nat) (s : State) : State :=
  let x := s.bay b
  if x.state = .streaming ∧ x.commits = [] then
    match x.drainTo with
    | some r =>
      if x.descCredit && s.weltWrites then
        let s1 := writeEnd b (r - 1) x.drainTake s
        s1.setBay b { s1.bay b with state := .opened, drainTo := none }
      else s
    | none =>
      if (s.take.active ≠ some b ∨ (s.take.ended = true ∧ s.take.state = .none)) ∧ s.hold.job.all (fun j => decide (j.bay ≠ b)) = true
      then s.setBay b { x with state := .opened }
      else s
  else s

/-- Whether a frame of the reservoir is durable. -/
def ResUnit.isDurable (r : ResUnit) (n : Nat) : Bool := r.entries.any fun e => decide (e.frame = n) && decide (e.state = .durable)

/-- The next frame to send that is not durable yet. -/
def skipDurable (s : State) : Nat → Nat → Nat
  | 0, n => n
  | fuel + 1, n =>
    if s.res.isDurable n && decide (n < s.take.sentUpTo) then skipDurable s fuel (n + 1) else n

/-! ## Relays (R225, R226) -/

/-- Whether a session can be the target of the take's relay. -/
def eligible (x : Session) (s : State) : Bool :=
  decide (x.state = .opened) && x.can 0 && decide (versionFormat x.version = s.take.format) && canCarry s.take.isSealed x

/-- SEND goes back to a relay frame, which the next session's RELAY_IN names; `ended` where the LAST frame is durable and TAKE_END written. -/
def TakeUnit.backTo (t : TakeUnit) (r mag : Nat) (okOld ended : Bool) : TakeUnit :=
  { t with relay := some (r, mag), relayOk := okOld, sentUpTo := max t.sentUpTo t.sendNext, sendNext := r, ended := ended, paged := none }

/-- The take waits for a session, or goes over to one. -/
def placeRelay (old r mag : Nat) (okOld : Bool) (s : State) : State :=
  let t := s.take.backTo r mag okOld false
  let s1 := { s with take := t, res := s.res.sendAt r }
  let n := otherBay old
  if okOld && eligible (s1.bay n) s1 then
    greet (logEvent 0x0607 srcHost r { s1 with take := { t.setBay n (s1.bay n).stream with active := some n } })
  else
    let st : TakeState := if t.state = .running then .orphaned else t.state
    logEvent 0x0608 srcHost r { s1 with take := { t with active := none, state := st } }

/-- The oldest unacknowledged frame of a session that carries the take: among those committed to it and, where it is the active one, those still to
be sent to it. After a second RELAY_IN the latter may be the older (R225). -/
def relayFrame (b : Nat) (s : State) : Nat :=
  let owed := (((s.bay b).commits.filter fun c => !c.recovered).map (·.frame)).filter fun n => !(s.res.isDurable n)
  if s.take.active = some b then owed.foldl min (skipDurable s (s.take.sentUpTo + 1) s.take.sendNext) else owed.headD s.take.sendNext

/-- The take leaves a session that stops (the last three triggers of Table 9-7); `left` is the session as it was. -/
def relayFrom (b : Nat) (left : Session) (r : Nat) (s : State) : State :=
  if s.take.state = .none then s
  else if s.take.active = some b then placeRelay b r left.magazineId (left.can 0) s
  else
    -- after a PLANNED relay, the new session takes over the frames that the old one has not acknowledged
    if left.drainTo.isSome && left.commits.any (fun c => !c.recovered) then
      let kept := s.take.ended && s.take.active.isSome && s.take.last.any s.res.isDurable
      let s1 := { s with take := s.take.backTo r left.magazineId (left.can 0) kept, res := s.res.sendAt r }
      if s.take.active.isSome then greet (logEvent 0x0607 srcHost r s1) else s1
    else s

/-- A waiting relay goes to the first session that becomes eligible. -/
def offerRelay (s : State) : State :=
  match s.take.active, s.take.relay with
  | none, some (r, _) =>
    if s.take.state = .none then s
    else
      match (List.range 2).find? fun b => s.take.relayOk && eligible (s.bay b) s with
      | none => s
      | some b =>
        let st : TakeState := if s.take.state = .orphaned then .running else s.take.state
        let t := s.take.setBay b (s.bay b).stream
        greet (logEvent 0x0607 srcHost r { s with take := { t with active := some b, state := st, paged := none } })
  | _, _ => s

/-- Both sessions settle, and one that becomes eligible by it takes the take that waits (R226, R230). -/
def settleBoth (s : State) : State := offerRelay (settleSession 1 (settleSession 0 s))

/-- A HOLDOVER_READ on a session that stops ends with FAILED. -/
def endJobOn (b : Nat) (s : State) : State :=
  match s.hold.job with
  | none => s
  | some j =>
    if j.route = 1 ∧ j.bay = b then
      finish j.req .failed 0 (leBytes 4 j.delivered ++ zeros 4) { s with hold := { s.hold with job := none } }
    else s

/-- Whether a session carries a take or a part of one. -/
def State.carriesTake (s : State) (b : Nat) : Bool :=
  (decide (s.take.active = some b) && decide (s.take.state ≠ .none)) || (s.bay b).drainTo.isSome

/-- RELAY_OUT, where the session carries a take or the rest of one, and descriptor credit remains (R222). -/
def writeRelayOut (b r : Nat) (s : State) : State :=
  let x := s.bay b
  if s.carriesTake b && x.descCredit && s.weltWrites && decide (0x11 ≤ x.version) then
    writeDescriptor b { descriptor 6 with takeId := if x.drainTo.isSome then x.drainTake.1 else s.take.takeId, frame := r } s
  else s

/-- A session as it stands once it has stopped. -/
def Session.stopped (x : Session) (st : SessState) : Session := { x with state := st, commits := [], drainTo := none, owing := false }

/-- A faulty bay (R222). -/
def faultBay (b code : Nat) (s : State) : State :=
  let x := s.bay b
  let r := relayFrame b s
  let s1 := writeRelayOut b r s
  let s2 := fire0 3 (logEvent code srcHost b (s1.setBay b ((s1.bay b).stopped .faulted)))
  endJobOn b (relayFrom b x r s2)

/-- A session closes without a write. -/
def closeBay (b : Nat) (s : State) : State :=
  logEvent 0x0602 srcHost b (s.setBay b ((s.bay b).stopped .closed))

/-- A session is aborted, or an open ends (R231). -/
def abortBay (b cause : Nat) (s : State) : State :=
  let x := s.bay b
  if x.state = .opening then
    finishOpt x.req .failed 0 [] (logEvent 0x0606 srcHost cause (s.setBay b { x with state := .closed, req := none }))
  else
    let r := relayFrame b s
    endJobOn b (relayFrom b x r (fire0 3 (logEvent 0x0606 srcHost cause (s.setBay b (x.stopped .aborted)))))

/-- A session is removed (Table 9-7). -/
def removeBay (b : Nat) (s : State) : State :=
  let x := s.bay b
  let r := relayFrame b s
  endJobOn b (relayFrom b x r (closeBay b s))

/-! ## Writes by the agent (R209) -/

/-- Whether a write into a bay's half is accepted. -/
def acceptsWrite (b : Nat) (rid : U16) (s : State) : Bool :=
  let x := s.bay b
  decide (x.rid = rid) && (decide (x.state = .opening) || decide (x.state = .opened) || decide (x.state = .streaming))

/-- A discarded write. -/
def discardWrite (b : Nat) (rid : U16) (ackPlace : Bool) (s : State) : State :=
  let x := s.bay b
  logEvent (if x.rid = rid ∧ ackPlace = true ∧ (x.state = .faulted ∨ x.state = .aborted) then 0x060B else 0x060A) srcHost b s

/-- An accepted write, or the discard. -/
def agentWrite (bay : Bay) (rid : U16) (ackPlace : Bool) (f : Nat → State → State) (s : State) : State :=
  let b := bayNum bay
  viaBar0 false (fun t => if acceptsWrite b rid t then f b t else discardWrite b rid ackPlace t) s

/-! ## Opening (R211, R212) -/

/-- An open ends: the session returns to CLOSED and the request is answered. -/
def failOpen (b code : Nat) (st : Status) (s : State) : State :=
  let x := s.bay b
  let s1 := finishOpt x.req st 0 [] (s.setBay b { x with state := .closed, req := none })
  if code = 0 then s1 else logEvent code srcHost b s1

/-- Whether step 3 of Table 9-4 is past. -/
def Session.checked (x : Session) : Bool := decide (x.version ≠ 0)

/-- SESSION_OPEN, the session's first descriptor, once the checks have passed and Welt may write; the time of step 5 runs from here (Table 9-4; that
an open waits while the writes pause is a DESIGN CHOICE, log entry 70). -/
def writeOpen (b : Nat) (s : State) : State :=
  let x := s.bay b
  if decide (x.state = .opening) && x.checked && decide (x.descSeq = 0) && s.weltWrites then
    writeDescriptor b { descriptor 1 with frame := s.frame.lastFrame + 1 } (s.setBay b { x with stepTime := s.time.now })
  else s

/-- Step 3 of Table 9-4. -/
def openChecks (b : Nat) (s : State) : State :=
  let x := s.bay b
  let w := infoWindows x.info
  let total := sumNat (w.map (·.2))
  if !(infoOk x.info) then failOpen b 0 .badParam s
  else
    match chooseVersion (infoAt x.info 4 2) x.maxVersion with
    | none => failOpen b 0x0603 .badVersion s
    | some v =>
      if !(covered s.take.allow w (infoAt x.info 0x10 8) (infoAt x.info 0x18 4)) then failOpen b 0x0604 .denied s
      else if total < 262144 ∨ total < x.pageLimit then failOpen b 0 .noResource s
      else if x.wantsSeal && (decide (v < 0x21) || !((infoAt x.info 6 2).testBit 2)) then failOpen b 0 .denied s
      else
        let n := s.take.sessions + 1
        let y := { x with version := v, caps := infoAt x.info 6 2, sessionId := n, windows := w, ringBase := infoAt x.info 0x10 8,
                          ringEntries := infoAt x.info 0x18 4, wTotal := total, magazineId := infoAt x.info 8 8, stepTime := s.time.now }
        writeOpen b { s with take := { s.take.setBay b y with sessions := n } }

/-- The open ends well (Table 9-4, step 6). -/
def completeOpen (b : Nat) (s : State) : State :=
  let x := s.bay b
  let s1 := s.setBay b { x with state := .opened, req := none, progress := s.time.now }
  let s2 := finishOpt x.req .ok 0 (leBytes 1 x.version ++ zeros 1 ++ leBytes 2 (x.caps &&& versionCaps x.version) ++ leBytes 4 x.sessionId
    ++ leBytes 8 x.wTotal ++ leBytes 8 x.magazineId) s1
  offerRelay (fire0 3 (logEvent 0x0601 srcHost b s2))

/-! ## Acknowledgements (R219, R220) -/

/-- The bytes of an acknowledgement entry. -/
def ackBytes (e : AckEntry) : List Byte :=
  leBytes 4 e.seq.toNat ++ leBytes 1 e.status.toNat ++ leBytes 1 e.kind.toNat ++ leBytes 2 e.rsv.toNat ++ leBytes 8 e.frame.toNat
    ++ leBytes 4 e.count.toNat ++ leBytes 4 e.headerCrc.toNat ++ leBytes 4 e.commitSeq.toNat

/-- The abort cause of an entry; 0 where it is accepted. -/
def ackCause (x : Session) (e : AckEntry) : Nat :=
  if e.entryCrc.toNat ≠ crc32c (ackBytes e) then 3
  else if 1 < e.status.toNat ∨ 1 < e.kind.toNat then 3
  else if e.kind = 1 ∧ x.can 1 = false then 3
  else if (e.kind = 0 ∧ e.count ≠ 1) ∨ e.count = 0 then 3
  else if e.seq.toNat ≠ x.acked % 2 ^ 32 then 2
  else
    match x.commits with
    | [] => 1
    | c :: _ =>
      if (x.commits.getLast?.map (·.frame)).getD 0 < e.frame.toNat then 1
      else if e.frame.toNat ≠ c.frame then 2
      else
        match x.commits[e.count.toNat - 1]? with
        | none => 1
        | some l =>
          if e.commitSeq.toNat ≠ l.descSeq % 2 ^ 32 then 2 else if e.headerCrc.toNat ≠ l.headerCrc then 3 else 0

/-- A frame becomes durable (R220): DUR, the hold-over entry, or the delivery of a recovered record. -/
def durable (c : Commit) (s : State) : State :=
  if c.recovered then
    { s with hold := { s.hold with delivered := ((s.hold.job.map (·.takeId)).getD 0, c.frame) :: s.hold.delivered } }
  else
    ringRelease c.frame { s with res := (s.res.modify c.frame fun e => { e with state := .durable }).moveDur fun _ => false }

/-- An accepted DURABLE entry. -/
def ackDurable (b n : Nat) (s : State) : State :=
  let x := s.bay b
  let s1 := each (x.commits.take n) durable s
  let y := s1.bay b
  s1.setBay b { y with commits := y.commits.drop n, acked := y.acked + 1, progress := s1.time.now }

/-- One acknowledgement entry. -/
def ackOne (b : Nat) (e : AckEntry) (s : State) : State :=
  let x := s.bay b
  if x.state ≠ .streaming ∧ x.state ≠ .opened ∧ x.state ≠ .opening then s
  else
    let cause := ackCause x e
    if cause ≠ 0 then abortBay b cause s
    else if e.status = 1 then faultBay b 0x0609 (s.setBay b { x with acked := x.acked + 1 })
    else noteOwing b (ackDurable b e.count.toNat s)

/-- The ring place of an entry, as the agent wrote it. -/
def ackPlace (i : Nat) (e : AckEntry) : Nat × List Byte := (0x1000 + 32 * (i % 384), ackBytes e ++ leBytes 4 e.entryCrc.toNat)

/-- An entry that the agent did not write: the half holds zeros there. -/
def blankAck : AckEntry := ⟨0, 0, 0, 0, 0, 0, 0, 0, 0⟩

/-- A write of ACK_PRODUCER with the entries written before it. -/
def ackProduce (v : Nat) (entries : List AckEntry) (b : Nat) (s : State) : State :=
  let x := s.bay b
  if v < x.ackProducer ∨ x.acked + 384 < v then abortBay b 4 s
  else
    let n := v - x.acked
    let ring := entries.zipIdx.foldl (fun l p => put l (ackPlace (x.acked + p.2) p.1).1 (ackPlace (x.acked + p.2) p.1).2) x.ackRing
    each (List.range n) (fun i t => ackOne b (entries.getD i blankAck) t) (s.setBay b { x with ackProducer := v, ackRing := ring })

/-! ## Sending a record (R215, R217) -/

/-- A record read for sending meets poison (Table 7-7): it becomes void, in both copies, with event 0x0407. -/
def voidRecord (frame reason : Nat) (s : State) : State :=
  match (s.res.entryOf frame).bind (·.record) with
  | none => { s with res := s.res.modify frame fun e => { e with reasons := e.reasons ++ [reason] } }
  | some r =>
    let v := r.voided reason
    logFrame 0x0401 srcFormatter frame reason
      (ringReplace v { s with res := s.res.modify frame fun e => { e with record := some v } })

/-- The next record of the take on a bay, once credit covers it (R215); the descriptor of the last frame waits while its vote is due (R139). -/
def sendNext (b : Nat) (poisoned : Bool) (s : State) : State :=
  let n := skipDurable s (s.take.sentUpTo + 1) s.take.sendNext
  let s0 := { s with take := { s.take with sendNext := n } }
  let s1 := if poisoned then
      (if (s0.res.entryOf n).isSome then voidRecord n 2 (logFrame 0x0407 srcMem n 0 s0) else s0)
    else s0
  match (s1.res.entryOf n).bind (·.record) with
  | none => s1
  | some r =>
    let x := s1.bay b
    if s1.take.begun && s1.take.relay.isNone && s1.take.paged.isNone && !s1.link.narrowed && x.covers r.pages then
      if s1.take.holdBack = some n then
        let s2 := sendPages b r s1
        { s2 with take := { s2.take with paged := some (n, r.headerCrc) } }
      else greet (commitRecord b r s1)
    else s1

/-- The bytes of a recovered record go to a bay (R228). -/
def commitRecovered (b takeId n : Nat) (s : State) : State :=
  let x := s.bay b
  let bytes := recoveredBytes s takeId n
  let pages := bytes.length / 4096
  if s.weltWrites && !s.link.narrowed && x.covers pages then
    let last := decide (n = s.hold.rangeLast takeId)
    let tag := s.hold.tagFor takeId n last
    let head := infoAt bytes 0x1C 4
    let crc := infoAt bytes 0xFFC 4
    let d : Descriptor :=
      { kind := 3, flags := bit last 0 + bit (head.testBit 1) 1 + bit tag.isSealed 2 + bit (head.testBit 0) 3 + 32, keyId := if tag.isSealed then tag.keyId else 0, takeId := takeId, frame := n, index := tag.index, pages := pages,
        firstPage := x.nextPage, payloadCrc := infoAt bytes 0x128 8, headerCrc := crc }
    let s1 := writeDescriptor b d (s.send (.pages b (x.pageWrites x.nextPage bytes)))
    let y := s1.bay b
    s1.setBay b { y with nextPage := x.nextPage + pages, state := .streaming,
                         commits := y.commits ++ [⟨n, x.descSeq, crc, x.nextPage, pages, last, true⟩] }
  else s

end Sys2Proof.Machine
end

