-- ==== Sys2Proof/Machine/Ledger.lean ====
section
/-! DEFINITION. The settings ledger (R140 to R144): posting, slipping, latching at boundaries, cancelling, and folding into the settings
in force. -/

namespace Sys2Proof.Machine

/-! ## Entries -/

/-- The entries that wait, with their slots. -/
def Ledger.waiting (l : Ledger) : List (Nat × LedgerEntry) := l.slots.zipIdx.filterMap fun p => p.1.map fun e => (p.2, e)

/-- Insertion by applied frame, then by sequence number. -/
def insertEntry (p : Nat × LedgerEntry) : List (Nat × LedgerEntry) → List (Nat × LedgerEntry)
  | [] => [p]
  | q :: qs =>
    if p.2.applied < q.2.applied ∨ (p.2.applied = q.2.applied ∧ p.2.seq ≤ q.2.seq) then p :: q :: qs else q :: insertEntry p qs

/-- The waiting entries in the order in which they apply. -/
def Ledger.inOrder (l : Ledger) : List (Nat × LedgerEntry) := l.waiting.foldr insertEntry []

/-- Insertion by sequence number. -/
def insertInSeq (p : Nat × LedgerEntry) : List (Nat × LedgerEntry) → List (Nat × LedgerEntry)
  | [] => [p]
  | q :: qs => if p.2.seq ≤ q.2.seq then p :: q :: qs else q :: insertInSeq p qs

/-- The waiting entries in sequence order. -/
def Ledger.inSequence (l : Ledger) : List (Nat × LedgerEntry) := l.waiting.foldr insertInSeq []

/-- A free slot. -/
def Ledger.freeSlot (l : Ledger) : Option Nat := l.slots.findIdx? Option.isNone

/-- A slot is updated: GEN goes up before and after (R304). -/
def Ledger.setSlot (l : Ledger) (i : Nat) (e : Option LedgerEntry) : Ledger :=
  { l with slots := l.slots.set i e, gens := l.gens.set i ((l.gens.getD i 0 + 2) % 2 ^ 32) }

/-- The classes of an entry that stand. -/
def LedgerEntry.classes (e : LedgerEntry) : Classes := (classesOf e.settings).minus e.cancelled

/-- The settings of an entry that stand. -/
def LedgerEntry.standing (e : LedgerEntry) : List Setting :=
  e.settings.filter fun x => (settingClass x).minus e.cancelled ≠ Classes.none

/-! ## Frame numbers of boundaries (R135, R143) -/

/-- Whether numbered frames run: VIEW, TAKE or BURST. -/
def State.reads (s : State) : Bool :=
  decide (s.mode.mode = .view) || decide (s.mode.mode = .take) || decide (s.mode.mode = .burst)

/-- A change from READY into VIEW that is in progress. -/
def State.entering (s : State) : Option Change :=
  if s.mode.mode = .ready then s.mode.change else none

/-- Whether the leader's boundaries carry frames, as its latest HEARTBEAT says: it is in VIEW, TAKE or BURST. -/
def TandemUnit.leaderReads (t : TandemUnit) : Bool := decide (2 ≤ t.partnerMode ∧ t.partnerMode ≤ 4)

/-- The latest number: a follower whose join completes at the next boundary counts from the leader's (R252). -/
def State.lastNumber (s : State) : Nat :=
  if s.tandem.onTsync && decide (s.tandem.join = .joining) then s.tandem.joinFrame - 1 else s.frame.lastFrame

/-- The number of the boundary with an index: while VIEW is being entered, as the change will give it; on a follower, as the leader counts (R92). -/
def State.number (s : State) (i : Nat) : Int :=
  match if s.tandem.onTsync && s.tandem.leaderReads then none else s.entering with
  | some c => (s.lastNumber : Int) + 1 + (i : Int) - c.epoch
  | none => (s.lastNumber : Int) + (i : Int) - s.frame.index

/-- The earliest frame in time (R142): the one whose B_(N−3) is the next boundary; never one before the first of VIEW. -/
def State.earliest (s : State) : Nat := max (s.lastNumber + 1) (s.number (s.frame.index + 1) + 3).toNat

/-- Whether a post becomes a ledger entry; else it changes the settings in force at once (R143). -/
def State.ledgerRuns (s : State) : Bool := s.reads || s.entering.isSome

/-! ## The sensor class of coming frames -/

/-- The sensor-class settings that would govern frame n, from those latched and the entries that wait. -/
def State.sensorAt (s : State) (n : Nat) : SensorSet :=
  let f := s.frame
  let first := s.number (f.index + 1)
  if (n : Int) < first then f.sens0
  else if (n : Int) = first then f.sens1
  else if (n : Int) = first + 1 then f.sens2
  else s.ledger.inOrder.foldl (fun x p =>
    if p.2.applied ≤ n ∧ p.2.latched.sensor = false then applySensor p.2.standing x else x) f.sens2

/-- T_min of the frame before n. -/
def State.tMinBefore (s : State) (n : Nat) : Nat := (s.sensorAt (n - 1)).tMin

/-- The record-and-stream settings that govern frame n, from those in force and the entries that wait. -/
def State.recsAt (s : State) (n : Nat) : RecSet :=
  s.ledger.inOrder.foldl (fun x p => if p.2.applied ≤ n then applyRecs p.2.standing x else x) s.settings.recs

/-- Whether every ring, with the settings of a request, keeps to 2.0 Gpixel/s at a frame rate (R240). -/
def ringRate (l : List Setting) (r : RecSet) (f : Nat × Nat) : Bool := (applyRecs l r).rings.all fun x => pixelRateOk x f

/-- Whether a ring setting names a source other than LOCAL (Table 10-2). -/
def foreignSource (l : List Setting) : Bool :=
  l.any fun x => match x with
    | .ring r => decide (r.source ≠ 0)
    | _ => false

/-- The role of the module in a tandem pair (R251): 1 none, 2 leader, 3 follower. -/
def State.tandemRole (s : State) : Nat :=
  if !(s.cap 2) then 1
  else if s.tandem.roleSet ≠ 0 then s.tandem.roleSet else if s.profileTandem ≠ 0 then s.profileTandem else s.pins.tandemRole

/-- Whether the module follows a leader now. -/
def State.following (s : State) : Bool := decide (s.tandem.join = .joined) && decide (s.tandemRole = 3)

/-- Whether a take is running on a Welt 1.x session (R88). -/
def State.oldFormatTake (s : State) : Bool :=
  (decide (s.mode.mode = .take) || decide (s.mode.mode = .burst)) && decide (s.take.state ≠ .none) && decide (s.take.format = 2)

/-- The checks of an entry's settings for frame n (0 where they apply at once), whose sensor class would be x after a frame of T_min prev (R79, R88, R96, R145, R162,
R239, R240, R254). -/
def entryCheck (l : List Setting) (x : SensorSet) (prev n : Nat) (s : State) : Option Status :=
  let c := classesOf l
  let g := s.sync.genlock
  if s.following && (c.sensor || c.conv || c.cond) then some .denied
  else if (decide (s.tandemRole = 3) || !(s.cap 2)) && foreignSource l then some .denied
  else if c.sensor && !(s.cap 0) && x.program.twin then some .denied
  else if c.sensor && s.oldFormatTake && x.program.twin then some .denied
  else if c.sensor && !(x.fits g prev) then some .badParam
  else if c.sensor && decide (s.mode.mode = .take) && x.exceeds g s.res.bSus then some .badParam
  else if (c.sensor || c.recs) && !(ringRate l (s.recsAt n) (x.fMax g)) then some .badParam
  else none

/-! ## Posting -/

/-- The ledger response (R277). -/
def ledgerResponse (seq : Nat) (c : Classes) (flags frame accept : Nat) : List Byte :=
  leBytes 4 seq ++ leBytes 1 c.bits ++ leBytes 1 flags ++ zeros 2 ++ leBytes 8 frame ++ leBytes 8 accept

/-- The next sequence number of a local entry: a follower numbers its own with bit 31 set (R254). -/
def State.takeSeq (s : State) : Nat × State :=
  if s.following then (2 ^ 31 + s.ledger.nextLocal % 2 ^ 31, { s with ledger := { s.ledger with nextLocal := s.ledger.nextLocal + 1 } })
  else (s.ledger.nextSeq % 2 ^ 32, { s with ledger := { s.ledger with nextSeq := s.ledger.nextSeq + 1 } })

/-- The bytes of a packet (Table 10-8); before a version is chosen it carries the highest. -/
def packetBytes (kind version seq frame : Nat) (payload : List Byte) : List Byte :=
  let h := leBytes 1 kind ++ leBytes 1 (if version = 0 then 0x11 else version) ++ leBytes 2 payload.length ++ leBytes 4 (seq % 2 ^ 32) ++ leBytes 8 frame
    ++ payload
  h ++ leBytes 4 (crc32c h)

/-- Whether the transmit queue of 16 MiB has room for n bytes more (R255). -/
def TandemUnit.queueRoom (t : TandemUnit) (n : Nat) : Bool := decide (sumNat (t.queue.map (·.2.length)) + n ≤ 16777216)

/-- The queue without its newest packet of LINES. -/
def dropLines (q : List (Nat × List Byte)) : List (Nat × List Byte) := (q.reverse.eraseP fun p => decide (p.1 = 8)).reverse

/-- The queue with a packet more: where it is full, LINES of the newest frame give way (R255). -/
def TandemUnit.enqueue (t : TandemUnit) (kind : Nat) (b : List Byte) : TandemUnit :=
  if t.queueRoom b.length then { t with queue := t.queue ++ [(kind, b)] }
  else if kind = 8 then t else { t with queue := dropLines t.queue ++ [(kind, b)] }

/-- A packet to the tandem partner (R249): while the link retrains in a join it waits, and without a link it does not go. -/
def tandemSend (kind frame : Nat) (payload : List Byte) (s : State) : State :=
  let t := s.tandem
  let q := (look t.seqs kind).getD 0
  let b := packetBytes kind t.version q frame payload
  let u := { t with seqs := put t.seqs kind (q + 1), sent := s.time.now }
  if t.up then { s with tandem := u }.send (.packet b)
  else if t.join = .joined ∨ t.join = .joining then { s with tandem := u.enqueue kind b } else s

/-- The item of a setting, where the tandem link carries its class. -/
def mirrorItem (x : Setting) (all : Settings) : List Byte := match x with
  | .srThreshold v => itemBytes 1 [v]
  | .rate n d => itemBytes 2 (leBytes 4 n.toNat ++ leBytes 4 d.toNat)
  | .window a b c => itemBytes 3 (leBytes 2 a.toNat ++ leBytes 2 b.toNat ++ leBytes 2 c.toNat)
  | .binning v => itemBytes 4 [v]
  | .program p => itemBytes 5 (leBytes 8 p.header.toNat ++ p.entries.flatMap fun e => leBytes 8 e.toNat)
  | .trigger t => itemBytes 6 (triggerBytes (triggerOf t))
  | .sync y => itemBytes 7 (syncBytes (syncOf y))
  | .rotK v => itemBytes 8 [v]
  | .blkMode v => itemBytes 0x10 [v]
  | .blkRowWin v => itemBytes 0x11 [v]
  | .blkLim v => itemBytes 0x12 (leBytes 2 v.toNat)
  | .recScale v => itemBytes 0x13 (leBytes 2 v.toNat)
  | .defRepl v => itemBytes 0x14 [v]
  | .ring r => itemBytes 0x30 (ringBytes ((ringIndex r.ring.toNat).getD 0) (all.recs.rings.getD ((ringIndex r.ring.toNat).getD 0) (ringSetOf r)))
  | .hostBlock b => itemBytes 0x20 b
  | _ => []

/-- Whether the tandem link carries a setting: sensor, conversion and conditioning. -/
def mirrors (x : Setting) : Bool := let c := settingClass x
  c.sensor || c.conv || c.cond

/-- The LEDGER packet of an entry (Table 10-9): its number, its frame, and its mirrored settings. -/
def sendLedger (m : Mirrored) (s : State) : State :=
  tandemSend 4 m.applied.toNat
    (leBytes 4 m.seq.toNat ++ leBytes 8 m.applied.toNat ++ m.settings.flatMap fun x => mirrorItem x s.settings) s

/-- What the link carries of an entry. -/
def LedgerEntry.mirror (e : LedgerEntry) : Mirrored :=
  ⟨BitVec.ofNat 32 e.seq, BitVec.ofNat 64 e.applied, e.standing.filter mirrors⟩

/-- Whether the leader mirrors entries: from JOIN on. -/
def State.mirrorsNow (s : State) : Bool :=
  decide (s.tandemRole = 2) && (decide (s.tandem.join = .joined) || (decide (s.tandem.join = .joining) && decide (0 < s.tandem.joinIn)))

/-- A leader with a joined follower mirrors an entry (R254). -/
def mirrorEntry (e : LedgerEntry) (s : State) : State :=
  if s.mirrorsNow && e.settings.any mirrors then
    let s1 := sendLedger e.mirror s
    { s1 with tandem := { s1.tandem with unacked := s1.tandem.unacked ++ [(e.mirror, s1.time.now)] } }
  else s

/-- An entry slips (R142): event 0x0852 and vector 26. -/
def noteSlip (seq frame : Nat) (s : State) : State :=
  let s1 := { s with ledger := { s.ledger with slipCnt := bump32 s.ledger.slipCnt 1 } }
  fire0 26 (logFrame 0x0852 srcConductor frame seq s1)

/-- What a post did: its status, the entry's number, and the applied frame. -/
structure Posted where
  status : Status
  seq : Nat
  frame : Nat
  slipped : Bool
  atOnce : Bool
  deriving DecidableEq, Repr

/-- A post outside VIEW, TAKE and BURST (R143): the settings in force change at once, and a leader mirrors the entry (R254). -/
def postNow (l : List Setting) (target : Nat) (s : State) : Posted × State :=
  let x := applySensor l s.settings.sensor
  match entryCheck l x x.tMin 0 s with
  | some st => (⟨st, 0, 0, false, false⟩, s)
  | none =>
    let (seq, s1) := s.takeSeq
    let y := applyAll l s.settings
    let f := s1.frame
    let n := s.frame.lastFrame + 1
    let e : LedgerEntry := ⟨seq, target, n, l, Classes.none, Classes.none, false, false, s.mbox.lastAccept, 0, 0⟩
    (⟨.ok, seq, n, false, true⟩,
     mirrorEntry e
       { s1 with settings := y, ledger := { s1.ledger with govSeq := seq, govTarget := target },
                 frame := { f with sens0 := y.sensor, sens1 := y.sensor, sens2 := y.sensor, rotK0 := y.rotK, rotK1 := y.rotK,
                                   cond := y.cond, recs := y.recs } })

/-- A post that becomes an entry (R140, R142). -/
def postEntry (l : List Setting) (target : Nat) (id : ReqId) (s : State) : Posted × State :=
  let n := if target = 0 then s.earliest else max target s.earliest
  let slipped := decide (target ≠ 0 ∧ target < s.earliest)
  match entryCheck l (applySensor l (s.sensorAt n)) (s.tMinBefore n) n s with
  | some st => (⟨st, 0, 0, false, false⟩, s)
  | none =>
    match s.ledger.freeSlot with
    | none => (⟨.noResource, 0, 0, false, false⟩, s)
    | some i =>
      let (seq, s1) := s.takeSeq
      let e : LedgerEntry := ⟨seq, target, n, l, Classes.none, Classes.none, slipped, false, s.mbox.lastAccept, chanNum id.chan, id.tag⟩
      let s2 := mirrorEntry e { s1 with ledger := s1.ledger.setSlot i (some e) }
      (⟨if slipped then .tooLate else .ok, seq, n, slipped, false⟩, if slipped then noteSlip seq n s2 else s2)

/-- A post under R140 to R143. While the fatal sequence runs the ledger accepts none (Table 19-5): it answers FAILED (log entry 14). -/
def post (l : List Setting) (target : Nat) (id : ReqId) (s : State) : Posted × State :=
  if s.dump.fatal.isSome then (⟨.failed, 0, 0, false, false⟩, s)
  else if s.ledgerRuns then postEntry l target id s else postNow l target s

/-- A ledger-making command: the post and its response. -/
def postCommand (l : List Setting) (target : Nat) (id : ReqId) (s : State) : State :=
  let (p, s1) := post l target id s
  if p.status = .ok ∨ p.status = .tooLate then
    respond id true p.status p.frame
      (ledgerResponse p.seq (classesOf l) (bit p.slipped 0 + bit p.atOnce 1) p.frame s.mbox.lastAccept) s1
  else respond id true p.status 0 [] s1

/-! ## Latching (R141) -/

/-- An entry is refused at its latch (R88): it leaves, with event 0x0336. -/
def refuseEntry (i : Nat) (e : LedgerEntry) (s : State) : State :=
  logFrame 0x0336 srcEngine e.applied e.seq
    { s with ledger := { (s.ledger.setSlot i none) with refuseCnt := bump32 s.ledger.refuseCnt 1 } }

/-- The sensor part of an entry latches for the frame whose settings are sens2, after a frame of T_min prev. -/
def latchSensor (prev : Nat) (p : Nat × LedgerEntry) (s : State) : State :=
  let x := applySensor p.2.standing s.frame.sens2
  if x.fits s.sync.genlock prev then
    { s with frame := { s.frame with sens2 := x }, settings := { s.settings with sensor := x },
             ledger := { (s.ledger.setSlot p.1 (some { p.2 with latched := p.2.latched.or ⟨true, false, false, false⟩ })) with
               govSensor := p.2.seq } }
  else refuseEntry p.1 p.2 s

/-- The conversion part of an entry latches. -/
def latchConv (p : Nat × LedgerEntry) (s : State) : State :=
  let k := applyRotK p.2.standing s.frame.rotK1
  { s with frame := { s.frame with rotK1 := k }, settings := { s.settings with rotK := k },
           ledger := { (s.ledger.setSlot p.1 (some { p.2 with latched := p.2.latched.or ⟨false, true, false, false⟩ })) with
             govConv := if p.2.classes.conv then p.2.seq else s.ledger.govConv } }

/-- The conditioning and record-and-stream parts latch, and the entry leaves (R140). A local entry of a follower does not govern
(R254). -/
def latchLast (p : Nat × LedgerEntry) (s : State) : State :=
  let c := applyCond p.2.standing s.frame.cond
  let r := applyRecs p.2.standing s.frame.recs
  let l := s.ledger.setSlot p.1 none
  let governs := !(s.following && decide (2 ^ 31 ≤ p.2.seq))
  let k := p.2.classes
  let l1 := { l with govCond := if k.cond then p.2.seq else l.govCond, govRec := if k.recs then p.2.seq else l.govRec,
                     govSeq := if governs then p.2.seq else l.govSeq, govTarget := if governs then p.2.target else l.govTarget }
  { s with frame := { s.frame with cond := c, recs := r }, settings := { s.settings with cond := c, recs := r }, ledger := l1 }

/-- Whether any entry that slipped applies first at frame n. -/
def Ledger.slipsAt (l : Ledger) (n : Nat) : Bool := l.waiting.any fun p => decide (p.2.applied = n) && p.2.slipped

/-- The classes due at the boundary with number v latch (Table 6-6a): those of an entry whose moment this is, or, of an entry mirrored in
READY, has passed. Between JOIN and B_J the entries mirrored wait: they name the leader's frames (R254). -/
def latchDue (v : Int) (s : State) : State :=
  let mine (p : Nat × LedgerEntry) : Bool := !p.2.mirrored || decide (s.tandem.joinIn = 0) || s.tandem.onTsync
  let due (k : Int) (t : State) : List (Nat × LedgerEntry) := t.ledger.inOrder.filter fun p => decide ((p.2.applied : Int) ≤ v + k) && mine p
  let s1 := each ((due 2 s).filter fun p => p.2.classes.sensor && !p.2.latched.sensor) (latchSensor s.frame.sens1.tMin) s
  let s2 := each ((due 1 s1).filter fun p => p.2.classes.conv && !p.2.latched.conv) latchConv s1
  each (due 0 s2) latchLast s2

/-! ## Cancelling and folding (R143, R144) -/

/-- The classes of an entry that a cancel removes now. -/
def LedgerEntry.removable (e : LedgerEntry) : Classes := e.classes.minus e.latched

/-- The sensor class that governs frame n without the entry seq: that of the frame before, and the other entries that apply at n. -/
def State.sensorWithout (s : State) (n seq : Nat) : SensorSet :=
  s.ledger.inOrder.foldl (fun x p => if p.2.applied = n ∧ p.2.seq ≠ seq then applySensor p.2.standing x else x) (s.sensorAt (n - 1))

/-- A cancel of the entry in a slot: the unlatched classes go. A latched sensor part makes the classes of its frame disagree, with event
0x0854; the later classes then expect the geometry that governs without the entry. -/
def cancelEntry (i : Nat) (e : LedgerEntry) (s : State) : State :=
  let gone := e.removable
  let e1 := { e with cancelled := e.cancelled.or gone }
  let l := if e1.classes = Classes.none then s.ledger.setSlot i none else s.ledger.setSlot i (some e1)
  let s1 := { s with ledger := { l with cancelCnt := bump32 l.cancelCnt 1 } }
  if e.latched.sensor then
    let was := s.sensorWithout e.applied e.seq
    logFrame 0x0854 srcConductor e.applied e.seq
      { s1 with frame := { s1.frame with disagree := s1.frame.disagree ++ [(e.applied, was)] } }
  else s1

/-- The settings in force take an entry, where its settings still pass their rules; else it is refused (R143). -/
def foldEntry (p : Nat × LedgerEntry) (s : State) : State :=
  let x := applySensor p.2.standing s.settings.sensor
  if p.2.classes.sensor && !(x.fits s.sync.genlock s.settings.sensor.tMin) then refuseEntry p.1 p.2 s
  else
    { s with settings := applyAll p.2.standing s.settings,
             ledger := { (s.ledger.setSlot p.1 none) with govSeq := p.2.seq, govTarget := p.2.target } }

/-- Every waiting entry folds into the settings in force, in sequence order, and the engine holds those settings. -/
def foldLedger (s : State) : State :=
  let s1 := each s.ledger.inSequence foldEntry s
  let y := s1.settings
  { s1 with frame := { s1.frame with sens0 := y.sensor, sens1 := y.sensor, sens2 := y.sensor, rotK0 := y.rotK, rotK1 := y.rotK,
                                     cond := y.cond, recs := y.recs, disagree := [] } }

end Sys2Proof.Machine
end

