-- ==== Sys2Proof/Machine/Modes.lean ====
section
/-! DEFINITION. Mode changes at a commit epoch (R130 to R139), takes and bursts (R145 to R149), and the pre-roll window (R146, R147,
R169). Boundary indices count every boundary placed, idle or numbered. -/

namespace Sys2Proof.Machine

/-! ## Epochs (R135) -/

/-- Whether a mode change is in progress. -/
def ModeUnit.changing (m : ModeUnit) : Bool := m.change.isSome || m.seq.isSome || m.forced.isSome

/-- The index of the boundary after a named frame; 0 names none. -/
def State.indexAfter (s : State) (frame : Nat) : Nat := if frame = 0 then 0 else s.frame.index + (frame + 1) - s.frame.lastFrame

/-- E: the first boundary whose B_(E−3) lies after the acceptance, or the boundary after the frame named. -/
def State.epochFor (s : State) (frame : Nat) : Nat := max (s.frame.index + 4) (s.indexAfter frame)

/-- The number of the boundary with an index, where it has one. -/
def State.numberAt (s : State) (i : Nat) : Nat := (s.number i).toNat

/-- The frame number that an epoch gives: out of READY, the number after the last frame read. -/
def State.epochFrame (s : State) (e : Nat) : Nat :=
  if s.mode.mode = .ready ∧ !(s.tandem.onTsync && s.tandem.leaderReads) then s.lastNumber + 1 else s.numberAt e

/-- A change at an epoch begins: from READY into VIEW, the sequencer switches PD32 to PD54 on (R404). -/
def startChange (goal : Mode) (kind : ChangeKind) (epoch : Nat) (req : Option ReqId) (s : State) : State :=
  let s1 := if s.mode.mode = .ready ∧ goal = .view then s.setDomains viewDomains true else s
  { s1 with mode := { s1.mode with change := some ⟨goal, kind, epoch, 1, false, req⟩ } }

/-! ## Which session carries a take (R223, R224) -/

/-- Whether the sensor settings in force or of a waiting entry, from frame n on, meet a test. -/
def State.comingSensor (s : State) (n : Nat) (p : SensorSet → Bool) : Bool :=
  p (s.sensorAt n) || s.ledger.waiting.any fun q => decide (n ≤ q.2.applied) && q.2.classes.sensor && p (s.sensorAt q.2.applied)

/-- A session can carry a take: SEAL for a sealed one, and format 3 where a twin program governs it (R88). -/
def State.carries (s : State) (isSealed : Bool) (n : Nat) (x : Session) : Bool :=
  canCarry isSealed x && (decide (versionFormat x.version = 3) || !(s.comingSensor n fun y => y.program.twin))

/-- The session that is active now, among those OPEN or STREAMING: a take that is ending may still stream on it (R224). -/
def State.activeNow (s : State) : Option Nat := activeAmong Session.carrying s

/-- Whether a session has published credit. -/
def Session.credited (x : Session) : Bool := decide (0 < x.pageLimit) && decide (0 < x.descLimit)

/-- The Welt unit's answer to a change into TAKE or BURST: a session that can carry the take is OPEN and has published credit, and the
take before it is complete (Table 9-9). -/
def State.weltReady (s : State) (isSealed : Bool) (n : Nat) : Bool :=
  decide (s.take.state = .none) && match activeAmong (fun x => decide (x.state = .opened) && s.carries isSealed n x) s with
    | some b => (s.bay b).credited
    | none => false

/-! ## PREPARE (R138, Table 6-5) -/

/-- Whether a take's seal is asked of a change. -/
def ChangeKind.sealing (k : ChangeKind) (s : State) : Bool := match k with
  | .startTake _ _ _ f => f
  | .startBurst _ _ _ _ _ _ f => f
  | .burstTake _ _ _ f => f
  | _ => s.take.isSealed

/-- Whether a change begins a take. -/
def ChangeKind.begins (k : ChangeKind) : Bool := match k with
  | .startTake _ _ _ _ | .startBurst _ _ _ _ _ _ _ | .burstTake _ _ _ _ => true
  | _ => false

/-- Whether a mode records. -/
def Mode.records (m : Mode) : Bool := decide (m = .take) || decide (m = .burst)

/-- Whether the record units are involved in a change. -/
def Change.recording (c : Change) (s : State) : Bool :=
  c.goal.records || s.mode.mode.records || decide (0 < s.res.prerollApplied)

/-- Whether any unit involved answers NOT_READY. A change that switches no mode sends no PREPARE (R149). -/
def Change.notReady (c : Change) (s : State) : Bool :=
  match c.kind with
  | .endCapture _ => false
  | _ =>
    (c.recording s && (s.take.rewriting || s.res.retrain || s.hold.busy))
      || (c.kind.begins && !(s.weltReady (c.kind.sealing s) (s.numberAt c.epoch)))
      || decide (s.clk.pllB.state = .locking)
      || (decide (s.mode.mode = .ready) && decide (c.goal = .view) && (s.thermal.outOfBand || !(viewDomains.all s.pdOn)))

/-! ## The pre-roll window (R146, R147, R169) -/

/-- The pre-roll length in ticks. -/
def ResUnit.prerollTicks (r : ResUnit) : Nat := r.prerollApplied * Config.ms

/-- Whether the pre-roll ring takes frames: it is on, no sealed take is armed, and the reservoir is present. -/
def State.prerollRuns (s : State) : Bool := decide (0 < s.res.prerollApplied) && s.res.present && !s.armed

/-- The boundary of a record. -/
def ResEntry.boundary (e : ResEntry) : Option Nat := e.record.map fun r => r.gov.boundary

/-- Whether an entry is pre-roll of no take, before a moment less the pre-roll length. -/
def ResUnit.tooOld (r : ResUnit) (latest : Nat) (e : ResEntry) : Bool :=
  e.preroll && (e.record.any fun x => decide (x.gov.take.takeId = 0) && decide (x.gov.boundary + r.prerollTicks < latest))

/-- Pages of the pre-roll ring: of the live records that no take holds. -/
def ResUnit.prerollPages (r : ResUnit) : Nat :=
  pagesOf (r.live.filter fun e => e.preroll && !(e.record.any fun y => decide (y.gov.take.takeId ≠ 0)))

/-- Whether the pre-roll ring has room for a record of n pages: it occupies at most half of the usable capacity (R146, R169). -/
def ResUnit.prerollRoom (r : ResUnit) (n : Nat) : Bool := decide (r.prerollPages + n ≤ r.usable / 2)

/-- Pre-roll that leaves the window goes: B_k below B_latest − length; and what a record of `need` pages would push past half of the usable
pages (R169). -/
def ResUnit.trimPreroll (r : ResUnit) (latest need : Nat) : ResUnit :=
  let r1 := r.moveDur (r.tooOld latest)
  let passed := r1.prerollPages + need - r1.usable / 2
  let rec drop (fuel passed : Nat) (x : ResUnit) : ResUnit :=
    match fuel with
    | 0 => x
    | n + 1 =>
      match passed, x.live.head? with
      | 0, _ => x
      | _, some e =>
        if e.preroll && (e.record.any fun y => decide (y.gov.take.takeId = 0)) then
          drop n (passed - e.pages) (x.moveDur fun q => decide (q.seq = e.seq))
        else x
      | _, none => x
  drop r1.live.length passed r1

/-- The whole pre-roll ring goes, as when a sealed take is armed (R146). -/
def ResUnit.dropPreroll (r : ResUnit) : ResUnit :=
  r.moveDur fun e => e.preroll && !(e.record.any fun x => decide (x.gov.take.takeId ≠ 0))

/-- The records of pre-roll that no take holds, oldest first. -/
def ResUnit.prerollRecords (r : ResUnit) : List Record :=
  r.live.filterMap fun e => if e.preroll then e.record.filter fun x => decide (x.gov.take.takeId = 0) else none

/-- Whether a record is of a twin frame. -/
def Record.twin (r : Record) : Bool := r.gov.sensor.program.twin

/-- A frame that is, or will be, in the pre-roll ring at an epoch: its number, its boundary, and whether it is a twin frame. -/
structure PrerollFrame where
  n : Nat
  boundary : Nat
  twin : Bool
  deriving DecidableEq, Repr

/-- The pre-roll frame of a readout, where it is one. -/
def Readout.preroll (r : Readout) : List PrerollFrame :=
  if r.gov.take.preroll then [⟨r.gov.n, r.gov.boundary, r.gov.sensor.program.twin⟩] else []

/-- The pre-roll frames known when a take chooses: the records kept, the frame in readout, and those still to begin before the epoch. -/
def State.prerollFrames (coming : List PrerollFrame) (s : State) : List PrerollFrame :=
  (s.res.prerollRecords.map fun r => ⟨r.gov.n, r.gov.boundary, r.twin⟩) ++ (s.frame.readout.map Readout.preroll).getD [] ++ coming

/-- The pre-roll frames that a take in format f takes in, for an epoch at time be: from the oldest with B_k at or after be − length,
and, in format 2, after the last twin frame (R147). -/
def takenIn (format be len : Nat) (l : List PrerollFrame) : List PrerollFrame :=
  let w := l.filter fun r => decide (be ≤ r.boundary + len)
  if format = 2 then (w.reverse.takeWhile fun r => !r.twin).reverse else w

/-- The tag of frame n in the take. -/
def TakeUnit.tagOf (t : TakeUnit) (n : Nat) (preroll : Bool) : TakeTag :=
  ⟨t.takeId, n - t.first, t.keyId, t.isSealed, decide (t.last = some n), preroll⟩

/-- The header of one pre-roll record is rewritten, in the reservoir and in the ring (R147, R175). -/
def retagOne (r : Record) (s : State) : State :=
  let x := { r.retag (s.take.tagOf r.gov.n true) with format := s.take.format }
  ringReplace x { s with res := s.res.modify r.gov.n fun e => { e with record := some x } }

/-- The take takes in its pre-roll for an epoch at time be, whose frame is n; `coming` are the pre-roll frames that begin before it. -/
def takePreroll (be n : Nat) (coming : List PrerollFrame) (s : State) : State :=
  let first := ((takenIn s.take.format be s.res.prerollTicks (s.prerollFrames coming)).head?.map (·.n)).getD n
  let s1 := { s with take := { s.take with first := first, sendNext := first, sentUpTo := first } }
  let s2 := each (s.res.prerollRecords.filter fun r => decide (first ≤ r.gov.n)) retagOne s1
  -- the record of the frame that is being read out carries its tag when it closes
  let f := s2.frame
  let tagged (r : Readout) : Readout :=
    if r.gov.take.preroll && decide (first ≤ r.gov.n) then { r with gov := { r.gov with take := s2.take.tagOf r.gov.n true } } else r
  let s3 := each (f.readout.toList.filter fun r => r.gov.take.preroll && decide (first ≤ r.gov.n))
    (fun r => ringTag r.gov.n (s2.take.tagOf r.gov.n true)) { s2 with frame := { f with readout := f.readout.map tagged } }
  { s3 with res := s3.res.sendAt first }

/-! ## The boundary of the epoch -/

/-- Frame timing after a boundary at b under settings x: one that R90 places is a step from its origin, with a new origin where the rate
is new; every other boundary is an origin itself. -/
def FrameUnit.placed (f : FrameUnit) (x : SensorSet) (byRate : Bool) (b : Nat) : FrameUnit :=
  if byRate then
    if x.rateNum = f.originNum ∧ x.rateDen = f.originDen then { f with lastB := some b, steps := f.steps + 1 }
    else { f with lastB := some b, origin := f.from, steps := 1, originNum := x.rateNum, originDen := x.rateDen }
  else { f with lastB := some b, origin := b, steps := 0, originNum := x.rateNum, originDen := x.rateDen }

/-- The time of the boundary after the next one, where it is known: not in TRIGGERED and GATED operation (R147). -/
def secondBoundary (s : State) : Option Nat :=
  match nextBoundary s with
  | none => none
  | some b =>
    if s.frame.sens1.trigger.mode ≠ .free ∨ s.frame.sens2.trigger.mode ≠ .free then none
    else if s.frame.sens2.genlocked then
      let g := s.sync.genlock
      if g.placed s.frame.sens1 && decide (g.steps + 2 ≤ g.mult) then some (g.origin + (g.steps + 2) * g.span / g.mult)
      else some (b + s.frame.sens2.pNom g)
    else some ((s.frame.placed s.frame.sens1 s.byRate b).rateNext s.frame.sens2)

/-! ## The host link in a mode (R190 to R192) -/

/-- The latency tolerance of a mode, in microseconds (Table 8-2). -/
def ltrOf (m : Mode) : Nat := match m with
  | .dormant => 10000
  | .ready | .service => 1000
  | .view => 50
  | .take | .burst => 10

/-- The host link in a mode: an LTR message, L1 permitted in DORMANT and READY only, and narrowing to x1 asked for where nothing is read
out (R190 to R192). -/
def linkMode (m : Mode) (s : State) : State :=
  let idle := decide (m = Mode.dormant) || decide (m = Mode.ready)
  let l : LinkUnit := { s.link with ltr := ltrOf m, l1Permit := idle }
  let s1 := { s with link := l }.send (.ltr (ltrOf m))
  if idle || decide (m = Mode.service) then
    ({ s1 with link := { s1.link with asked := 1 } }).send (.askWidth 1)
  else s1

/-- COMMIT of a change into VIEW, TAKE or BURST asks for the full trained width (R190). -/
def askFull (m : Mode) (s : State) : State :=
  if m = .view ∨ m.records = true then
    ({ s with link := { s.link with asked := s.link.width } }).send (.askWidth s.link.width)
  else s

/-! ## COMMIT -/

/-- The pre-roll frames between COMMIT at B_(E−2) and B_E: the frame that begins there, and the one after it. -/
def State.comingPreroll (s : State) : List PrerollFrame :=
  let f := s.frame
  if decide (s.mode.mode = .view) && s.prerollRuns then
    ⟨f.lastFrame, f.from.toNat, f.sens0.program.twin⟩ ::
      ((nextBoundary s).map fun b => (⟨f.lastFrame + 1, b, f.sens1.program.twin⟩ : PrerollFrame)).toList
  else []

/-- A take begins at COMMIT (Table 9-9): its session, its format, and its pre-roll where B_E is known. An older retire record goes: what it says of the
ring is past (DESIGN CHOICE, log entry 71). -/
def beginTake (takeId keyId : Nat) (key : Option (List Byte)) (isSealed : Bool) (e : Nat) (s : State) : State :=
  let n := s.numberAt e
  match activeAmong (fun x => decide (x.state = .opened) && s.carries isSealed n x) s with
  | none => s
  | some b =>
    let t := s.take
    let t1 := { t with state := .running, takeId := takeId, keyId := keyId, key := key, isSealed := isSealed,
                       format := versionFormat (s.bay b).version, first := 0, nextIndex := 0, last := none, active := some b,
                       sendNext := 0, sentUpTo := 0, relay := none, relayOk := false, begun := false, ended := false, rewriting := true,
                       holdBack := none, paged := none }
    -- the session is the take's from here on (Table 9-8), whenever TAKE_BEGIN may go out
    let s1 := { s with take := t1.setBay b (s.bay b).stream, hold := { s.hold with retire := none } }
    match secondBoundary s with
    | some be =>
      let s2 := takePreroll be n s.comingPreroll s1
      noteBoth (greet { s2 with take := { s2.take with rewriting := false } })
    | none => s1

/-- LAST goes to frame n, unless an earlier frame carries it. -/
def TakeUnit.lastAt (t : TakeUnit) (n : Nat) : TakeUnit :=
  { t with last := some (match t.last with
    | some l => min l n
    | none => n) }

/-- LAST is set or withdrawn in the records and entries of a frame (R139). -/
def markLast (n : Nat) (last : Bool) (s : State) : State :=
  let f := s.frame
  let marked (r : Readout) : Readout :=
    if r.gov.n = n then { r with gov := { r.gov with take := { r.gov.take with last := last } } } else r
  let s1 := each (f.readout.toList.filter fun r => decide (r.gov.n = n))
    (fun r => ringTag n { r.gov.take with last := last }) { s with frame := { f with readout := f.readout.map marked } }
  match (s1.res.entryOf n).bind (·.record) with
  | none => s1
  | some r =>
    let x := r.retag { r.gov.take with last := last }
    ringReplace x { s1 with res := s1.res.modify n fun e => { e with record := some x } }

/-- COMMIT of a change (Table 6-4). -/
def commitChange (c : Change) (s : State) : State :=
  let s1 := askFull c.goal { s with mode := { s.mode with change := some { c with committed := true } } }
  match c.kind with
  | .startTake i k key f => beginTake i k key f c.epoch s1
  | .burstTake i k key f => beginTake i k key f c.epoch s1
  | .startBurst _ _ i _ k key f => beginTake i k key f c.epoch s1
  | .stopTake =>
    let l := s.numberAt c.epoch - 1
    { s1 with take := { s1.take.lastAt l with holdBack := if s1.take.last.isNone then some l else s1.take.holdBack } }
  | .endCapture _ => { s1 with take := s1.take.lastAt (s.numberAt c.epoch - 1) }
  | _ => s1

/-! ## Responses -/

/-- The response of MODE_REQUEST (Table 11-8). -/
def modeResponse (mode attempts reason epoch : Nat) : List Byte :=
  leBytes 1 mode ++ leBytes 1 attempts ++ zeros 2 ++ leBytes 2 reason ++ zeros 2 ++ leBytes 8 epoch

/-- The payload of a change that ends without its mode: only MODE_REQUEST's response has REASON. -/
def failedPayload (c : Change) (mode : Mode) (reason : Nat) : List Byte :=
  match c.req with
  | none => []
  | some id => if id.op = .modeRequest then modeResponse (modeCode mode) c.attempts reason 0 else []

/-- In READY the domains that only a readout needs are off (R404). -/
def viewOff (s : State) : State := if s.mode.mode = .ready then s.setDomains viewDomains false else s

/-- Where a change into VIEW ends without VIEW, waiting entries go back into the settings in force (R143), and its domains go off. -/
def abandonEntry (s : State) : State := if s.mode.mode = .ready then viewOff (foldLedger s) else s

/-- A step of a power-up has failed (R134): the module stays in the last mode it reached, with event 0x0855, and GET_STATUS reports the cause. -/
def failPowerup (req : Option ReqId) (cause : Nat) (s : State) : State :=
  if req.isNone && s.mode.powerup.isSome then
    logEvent 0x0855 srcConductor cause { s with mode := { s.mode with powerup := none, powerupEvent := cause } }
  else s

/-- A change ends without its mode: its request is answered, and a key that it brought goes with it. -/
def failChange (c : Change) (event : Nat) (s : State) : State :=
  let s1 := abandonEntry { s with mode := { s.mode with change := none } }
  failPowerup c.req event (finishOpt c.req .failed 0 (failedPayload c s1.mode.mode event) s1)

/-! ## The end of a burst (R149) -/

/-- The status that a following take of a burst would meet (Table 6-6), none where it would begin. -/
def burstTakeRefusal (s : State) : Option Status :=
  if s.hold.locked then some .locked
  else if !(anySession s) then some .notPresent
  else if !s.res.present then some .notPresent
  else if s.comingSensor (s.numberAt (s.frame.index + 4)) (fun x => x.exceeds s.sync.genlock s.res.bSus) then some .badParam
  else if ((s.activeNow.map fun b => decide (versionFormat (s.bay b).version = 2)).getD false)
      && s.comingSensor (s.numberAt (s.frame.index + 4)) (fun x => x.program.twin) then some .denied
  else none

/-- Event 0x0857 and the change to VIEW, which NEXT_MODE names from then on: DATA holds the status in [15:0] and the event code in [31:16]
(log entry 15). -/
def burstToView (st : Status) (cause : Nat) (s : State) : State :=
  startChange .view .endDrain (s.frame.index + 4) none (logEvent 0x0857 srcConductor (st.code + 65536 * cause)
    { s with mode := { s.mode with burst := s.mode.burst.map fun b => { b with nextMode := 2 } } })

/-- The drain has ended: the module commits to NEXT_MODE. -/
def endBurst (s : State) : State :=
  match s.mode.burst with
  | none => s
  | some b =>
    if !b.drain || s.mode.changing || decide (s.take.state ≠ .none) || s.dump.fatal.isSome then s
    else
      let e := s.frame.index + 4
      if b.nextMode = 3 then
        match burstTakeRefusal s with
        | some st => burstToView st 0 s
        | none => startChange .take (.burstTake b.nextTakeId b.keyId b.key b.isSealed) e none s
      else startChange (if b.nextMode = 1 then .ready else .view) .endDrain e none s

/-! ## Deadlines (Table 6-4) -/

/-- What follows a change that has failed: a burst whose NEXT_MODE fails goes to VIEW (R149). -/
def afterFailure (c : Change) (cause : Nat) (s : State) : State :=
  match c.kind with
  | .burstTake _ _ _ _ => burstToView .failed cause s
  | .endDrain => if c.goal = .ready then burstToView .failed cause s else endBurst s
  | _ => s

/-- A change fails at its ninth attempt: event 0x0851. -/
def changeFails (c : Change) (s : State) : State :=
  afterFailure c 0x0851 (logEvent 0x0851 srcConductor c.epoch (failChange c 0x0851 s))

/-- B_(E−2) of a change has come. -/
def commitDeadline (s : State) : State :=
  match s.mode.change with
  | none => s
  | some c =>
    if c.committed || decide (c.epoch ≠ s.frame.index + 2) then s
    else if !(c.notReady s) then commitChange c s
    else if c.attempts < Config.maxAttempts then
      logEvent 0x0850 srcConductor c.epoch
        { s with mode := { s.mode with change := some { c with epoch := c.epoch + 1, attempts := c.attempts + 1 } } }
    else changeFails c s

/-! ## The switch at B_E -/

/-- Frame timing where the mode becomes m: at an entry to VIEW no edge of TRIG_IN has been stamped, and one from READY finds no trigger (R94);
TRIG_OUT is inactive in READY, DORMANT and SERVICE (R97). -/
def FrameUnit.inMode (f : FrameUnit) (old m : Mode) : FrameUnit :=
  if m = .view then
    let g := { f with trigTime := 0 }
    if old = .ready then { g with flying := none, pending := none } else g
  else if m.records then f else { f with trigPulse := none }

/-- The mode takes a new value. -/
def setMode (m : Mode) (s : State) : State :=
  let f := s.frame.inMode s.mode.mode m
  let u : ModeUnit := { s.mode with mode := m, previous := s.mode.mode, since := s.time.now, powerup := s.mode.powerup.filter fun p => decide (p ≠ m) }
  let s1 := { s with mode := u, frame := f }
  linkMode m (if m = .ready then applyRef (foldLedger s1) else s1)

/-- The keeper core erases the take key (R224). -/
def TakeUnit.erase (t : TakeUnit) : TakeUnit := { t with key := none }

/-- What a change does at its epoch, with the response's payload; n is the number of the boundary. -/
def switchUnits (c : Change) (n : Nat) (s : State) : State :=
  match c.kind with
  | .plain => setMode c.goal s
  | .startTake _ _ _ _ => setMode .take s
  | .burstTake _ _ _ _ => let s1 := setMode .take s
    { s1 with mode := { s1.mode with burst := none } }
  | .startBurst count next i j k key f => let s1 := setMode .burst s
    { s1 with mode := { s1.mode with burst := some ⟨false, count, next, i, j, k, key, f⟩ } }
  | .stopTake => let s1 := setMode .view s
    { s1 with take := { s1.take with state := if s1.take.isRunning then .ending else s1.take.state } }
  | .endDrain => let s1 := setMode c.goal s
    { s1 with mode := { s1.mode with burst := none }, take := s1.take.erase }
  | .endCapture _ => { s with take := { s.take.lastAt (n - 1) with state := if s.take.isRunning then .ending else s.take.state } }

/-- Frames of the take before frame n. -/
def TakeUnit.before (t : TakeUnit) (n : Nat) : Nat := n - t.first

/-- The payload of a change's final response. -/
def donePayload (c : Change) (n : Nat) (s : State) : List Byte :=
  match c.req with
  | none => []
  | some id =>
    if id.op = .takeStart then leBytes 8 n ++ leBytes 8 s.take.first ++ leBytes 4 (s.take.before n) ++ zeros 4
    else if id.op = .takeStop then
      let l := s.take.last.getD (n - 1)
      leBytes 8 l ++ leBytes 4 (s.take.before l) ++ zeros 4
    else modeResponse (modeCode c.goal) c.attempts 0 n

/-- Whether a change raises vector 4: an end of a capture changes no mode. -/
def Change.vectored (c : Change) : Bool := match c.kind with
  | .endCapture _ => false
  | _ => true

/-- The vote at B_E agrees: the request completes with OK, and vector 4 fires. -/
def completeChange (c : Change) (n : Nat) (s : State) : State :=
  let s1 := { s with mode := { s.mode with change := none }, take := { s.take with holdBack := none } }
  let s2 := viewOff (finishOpt c.req .ok n (donePayload c n s1) s1)
  if c.vectored then fire0 4 s2 else s2

/-! ## The vote (R139) -/

/-- The drain that a disagreement brings back (R139), with the mode that follows it now: VIEW, with event 0x0857, where another mode's
change has failed (R149). -/
def restoreDrain (was : Option Burst) (toView : Bool) (s : State) : State :=
  if toView then
    logEvent 0x0857 srcConductor (Status.failed.code + 65536 * 0x0920)
      { s with mode := { s.mode with burst := was.map fun b => { b with nextMode := 2 } } }
  else { s with mode := { s.mode with burst := was } }

/-- A disagreement at a boundary, whose number is n, and before which the mode was `old` and the burst `was`: three void frames, and the
previous mode from the third boundary after this one. -/
def disagreement (old : Mode) (was : Option Burst) (n : Nat) (s : State) : State :=
  let open1 := s.mode.change
  let s1 := { s with mode := { s.mode with change := none, forced := some (old, s.frame.index + 3), voidRun := 3 } }
  let s2 := match open1.map (·.kind) with
    | some (.startTake _ _ _ _) | some (.startBurst _ _ _ _ _ _ _) =>
      if s1.take.state = .none then s1 else { s1 with take := s1.take.lastAt (n + 2) }
    | some (.burstTake _ _ _ _) =>
      restoreDrain was true (if s1.take.state = .none then s1 else { s1 with take := s1.take.lastAt (n + 2) })
    | some .endDrain => restoreDrain was (decide (open1.map (·.goal) = some .ready)) s1
    | some .stopTake =>
      let l := n - 1
      let st : TakeState := if s1.take.state = .ending then .running else s1.take.state
      markLast l false { s1 with take := { s1.take with last := none, holdBack := none, state := st } }
    | _ => s1
  let s3 := logFrame 0x0920 srcConductor n 0 s2
  match open1 with
  | none => s3
  | some c => failPowerup c.req 0x0920 (finishOpt c.req .failed 0 (failedPayload c old 0x0920) s3)

/-- The forced mode takes effect at its boundary. -/
def forceMode (s : State) : State :=
  match s.mode.forced with
  | none => s
  | some (m, i) =>
    if i = s.frame.index then
      let s1 := { s with mode := { s.mode with forced := none } }
      let s2 := if m.records then s1
        else { s1 with take := { s1.take with state := if s1.take.isRunning then .ending else s1.take.state },
                       mode := { s1.mode with burst := none } }
      viewOff (setMode m s2)
    else s

/-! ## The end of a take -/

/-- A take whose reservoir is gone has nothing more that could be sent: it ends once the module has left its mode. -/
def TakeUnit.lost (t : TakeUnit) : TakeUnit :=
  { t with state := .none, takeId := 0, active := none, key := none, isSealed := false, first := 0, nextIndex := 0, last := none,
           begun := false, ended := false, rewriting := false, relay := none, sendNext := 0, sentUpTo := 0, holdBack := none, paged := none }

/-- The take is given up, and its sessions settle. -/
def loseTake (s : State) : State := noteBoth (settleBoth { s with take := s.take.lost })

/-- Whether a take must end because the reservoir was lost (Table 7-7). -/
def State.mustLeave (s : State) : Bool := !s.res.present && s.mode.mode.records

/-- A take that has its last frame without a request, or has lost its reservoir, commits to VIEW at the earliest epoch (R167,
Table 7-7). -/
def leaveTake (s : State) : State :=
  let passed := s.take.last.any fun l => decide (l ≤ s.frame.lastFrame)
  if !s.mode.changing && s.dump.fatal.isNone && ((decide (s.mode.mode = .take) && passed) || s.mustLeave) then
    startChange .view (if s.mode.mode = .take then .stopTake else .endDrain) (s.frame.index + 4) none s
  else if !s.res.present && !s.mode.mode.records && !s.mode.changing && decide (s.take.state ≠ .none) then loseTake s
  else s

/-- The capture phase of a burst is over from the frame after its last one; a drain that has ended leaves for NEXT_MODE. -/
def leaveCapture (s : State) : State :=
  match s.mode.burst with
  | none => s
  | some b =>
    let t := s.take
    if !b.drain && (t.last.any (fun l => decide (l < s.frame.lastFrame)) || decide (t.state = .none)) then
      endBurst { s with mode := { s.mode with burst := some { b with drain := true } },
                        take := { t with state := if t.isRunning then .ending else t.state } }
    else endBurst s

/-- LAST is acknowledged: the take is complete (R223), and its key is erased unless a burst keeps it for the take that follows. -/
def finishTake (s : State) : State :=
  let t := s.take
  match t.last with
  | none => s
  | some l =>
    let done := decide (t.state ≠ .none) && decide (l < t.sendNext) && t.holdBack.isNone && t.relay.isNone
      && t.a.commits.all (·.recovered) && t.b.commits.all (·.recovered)
    if done then
      -- a TAKE_END that waits for descriptor credit is still owed
      let owed (x : Session) : Session := { x with drainTo := some (l + 1), drainTake := (t.takeId, t.first) }
      let t := match t.ended, t.active with
        | false, some b => t.setBay b (owed (t.bay b))
        | _, _ => t
      let keeps := match s.mode.burst with
        | some b => decide (b.nextMode = 3)
        | none => false
      let t1 := { t with state := .none, takeId := 0, active := none, key := if keeps then t.key else none, isSealed := keeps && t.isSealed,
                         first := 0, nextIndex := 0, last := none, begun := false, ended := false, sendNext := 0, sentUpTo := 0, paged := none }
      let s1 := fire0 3 (logEvent 0x060D srcHost (l % 2 ^ 32) { s with take := t1 })
      endBurst (noteBoth (settleBoth s1))
    else noteBoth (settleBoth s)

/-! ## The entry to READY from VIEW or a burst (R41, R74, R158) -/

/-- The memory port goes off: what the reservoir held is lost to the module, which zeroes the index at the next discovery (R159). -/
def loseReservoir (s : State) : State :=
  let s1 := absent (s.res.devices.map fun d => { d with dstate := 0 }) s
  let s2 := { s1 with res := { s1.res with bSus := bSusOf s1, prerollApplied := 0 } }
  if s2.take.state = .none then s2 else loseTake s2

/-- Presence only is checked: a device in use that is no longer present takes the reservoir with it, with event 0x0404 where the pattern is none of
Table 7-2 (R158; what follows from the check is a DESIGN CHOICE, log entry 68). -/
def checkPresence (seen : List DeviceSeen) (s : State) : State :=
  let now := (List.range 4).filter fun d => (seen[d]?.map (·.present)).getD false
  if s.res.present && (List.range 4).any (fun d => (s.res.devices[d]?.any fun m => decide (m.dstate = 1)) && decide (d ∉ now)) then
    loseReservoir (if now ≠ [] ∧ layoutLanes now = none then logEvent 0x0404 srcMem (patternBits now) s else s)
  else s

/-- What an entry to READY at a boundary does after the calibration words have loaded. -/
def readyEntry (around : Surroundings) (s : State) : State := calibrateSlices false around.slices (checkPresence around.devices s)

end Sys2Proof.Machine
end

