-- ==== Sys2Proof/Machine/Mirror.lean ====
section
/-! DEFINITION. The always-on status mirror (R302, R303) and the clocks that run (R410): every field follows its cause. -/

namespace Sys2Proof.Machine

/-! ## Clocks (R409, R410) -/

/-- The power domain whose logic a clock domain feeds; none for those of PD-AO (Table 17-1, Table 16-2). -/
def clockDomain (c : Nat) : Option Nat :=
  if c = 3 ∨ c = 53 ∨ c = 59 then some 76
  else if c = 5 then some 56
  else if c = 6 then some 55
  else if c = 7 ∨ c = 8 then some 58
  else if c = 9 then some 57
  else if 10 ≤ c ∧ c ≤ 12 then some 59
  else if c = 13 then some 0
  else if 14 ≤ c ∧ c ≤ 21 then some (8 + (c - 14))
  else if 22 ≤ c ∧ c ≤ 37 then some (16 + (c - 22))
  else if 38 ≤ c ∧ c ≤ 45 then some (32 + (c - 38))
  else if c = 46 then some 40
  else if c = 47 then some 44
  else if c = 48 then some 47
  else if c = 49 then some 68
  else if c = 50 then some 69
  else if c = 51 then some 70
  else if c = 52 then some 72
  else if c = 58 then some 71
  else none

/-- The PLL that a clock comes from (Table 17-2). -/
def clockPll (c : Nat) : Option PllId :=
  if (38 ≤ c ∧ c ≤ 51) ∨ c = 58 then some .a
  else if (13 ≤ c ∧ c ≤ 37) ∨ c = 53 then some .b
  else if c = 7 ∨ c = 10 then some .c
  else none

/-- Whether a PLL's outputs are on the safe clock: during a lock, and after one that failed (R416, R417). -/
def Pll.onSafe (p : Pll) : Bool := decide (p.state = .locking) || decide (p.state = .failed)

/-- Whether a clock that can stop while its domain is powered stops (Table 17-1). -/
def State.clockStopped (s : State) (c : Nat) : Bool :=
  if c = 2 then !s.clk.xrefPresent
  else if c = 3 then !s.clk.genref
  else if 4 ≤ c ∧ c ≤ 6 then !s.clk.refclk
  else if 7 ≤ c ∧ c ≤ 9 then s.clk.pllC.onSafe || decide (s.clk.pllC.state = .off)
  else if c = 57 then true
  else if c = 59 then !s.clk.ltcck
  else false

/-- Whether a domain's clock reaches its consumers. -/
def State.clockRuns (s : State) (c : Nat) : Bool :=
  !(s.clockStopped c) && match clockDomain c with
    | some d => s.pdOn d
    | none => true

/-- Whether clock c comes from the safe clock. A relock of PLL-C holds the MREF outputs low instead (R419). -/
def State.clockSafe (s : State) (c : Nat) : Bool :=
  s.clockRuns c && match clockPll c with
    | some p => (s.clk.get p).onSafe
    | none => false

/-- MPERST0# to MPERST3# are low while PD58 is off, as it stays where feature bit 4 is clear (R301, Table 18-9). -/
def State.mperstLow (s : State) : Bool := !s.pdOn 58

/-- Whether MREF output d carries CK07: PD58 on, device d found at discovery, a format in OUT_CFG, no change of format under way, and PLL-C not in a lock
(R301, R414, R416). Otherwise it is held low. -/
def State.mrefRuns (d : Nat) (s : State) : Bool :=
  s.pdOn 58 && (s.res.devices[d]?).any (fun v => decide (v.dstate ≠ 0)) && decide (s.clk.outCfg.toNat / 16 ^ d % 8 ≠ 0)
    && decide (s.clk.outLow.getD d 0 ≤ s.time.now) && s.clockRuns 7

/-- The bits of a test on the numbers below n. -/
def bitsOf (n : Nat) (p : Nat → Bool) : Nat := (List.range n).foldl (fun a i => a + bit (p i) i) 0

/-- PD_ON, CK_RUN and CK_SAFE. -/
def State.pdOnBits (s : State) : Nat := bitsOf 80 s.pdOn
def State.ckRunBits (s : State) : Nat := bitsOf 60 s.clockRuns
def State.ckSafeBits (s : State) : Nat := bitsOf 60 s.clockSafe

/-! ## FAULT_SUMMARY (Table 12-7) -/

/-- Whether a PLL whose domain is powered is unlocked or in holdover. -/
def State.pllBad (s : State) (p : PllId) : Bool := s.pdOn (pllDomain p) && !(decide ((s.clk.get p).state = .locked))

/-- The causes of FAULT_SUMMARY, bit by bit. -/
def State.faults (s : State) : List Bool :=
  let t := s.take
  let w (x : Session) : Bool := decide (x.state = .faulted) || decide (x.state = .aborted)
  [ s.dump.held.isSome,
    s.power.stageFault,
    s.thermal.outOfBand || s.thermal.genazHot || s.thermal.holdHot || s.thermal.powerHot,
    s.power.acRange || s.power.dcRange || (!s.power.acPresent && !s.power.dcPresent),
    s.pllBad .a || s.pllBad .b || s.pllBad .c || s.clk.onHkosc,
    s.pdOn 76 && inHoldover s,
    !s.res.present,
    s.res.present && decide (3 ≤ s.res.level),
    s.hold.locked,
    s.hold.degraded,
    w t.a || w t.b,
    decide (t.state = .orphaned),
    decide (s.tandem.join = .conflict),
    s.bus.abus0.faulted || s.bus.abus1.faulted || s.bus.hbus.faulted,
    s.aux.xchkFault,
    s.fuse.marginalStart,
    s.cal.copyA.isNone || s.cal.copyB.isNone,
    (List.range 464).any fun j => decide (2 ≤ (s.conv.corr.retiredIn j).length),
    s.sensor.faulty.any id,
    decide (s.mbox.c0.halt ≠ 0) || decide (s.mbox.c1.halt ≠ 0) || decide (s.mbox.c2.halt ≠ 0),
    s.view.rings.any fun r => decide (r.state = .stopped) && decide (2 ≤ r.reason ∧ r.reason ≤ 4),
    decide (s.log.lost ≠ 0) ]

/-- FAULT_SUMMARY. -/
def State.faultSummary (s : State) : Nat := (s.faults.zipIdx.map fun p => bit p.1 p.2).foldl (· + ·) 0

/-! ## The other fields (Table 12-6) -/

/-- PENDING_MODE: 7 for none. -/
def ModeUnit.pendingCode (m : ModeUnit) : Nat := match m.change, m.seq, m.forced with
  | some c, _, _ => (match c.kind with
    | .endCapture _ => 7
    | _ => modeCode c.goal)
  | none, some q, _ => modeCode q.goal
  | none, none, some f => modeCode f.1
  | none, none, none => 7

/-- BURST_PHASE: 0 none, 1 capture, 2 drain. -/
def ModeUnit.burstPhase (m : ModeUnit) : Nat := match m.mode, m.burst with
  | .burst, some b => if b.drain then 2 else 1
  | _, _ => 0

/-- A field of an owning domain: its reset value while the domain is off (R288). -/
def owned (on : Bool) (v : Nat) : Nat := if on then v else 0

/-- Whether PD-AO has left cold reset, and its core refreshes what it owns: the fuses are sensed (R302, DEDUCED, log entry 74). -/
def State.aoRuns (s : State) : Bool := s.power.aoOn && s.fuse.sensed

/-- MODE_STATE. -/
def State.modeState (s : State) : Nat :=
  owned (s.pdOn 69) (modeCode s.mode.mode + 2 ^ 8 * s.mode.pendingCode + 2 ^ 16 * s.mode.burstPhase)
    + 2 ^ 24 * s.mode.profile + bit s.mode.profileSubst 26

/-- INPUT. -/
def PowerUnit.inputWord (p : PowerUnit) : Nat :=
  bit p.acPresent 0 + bit p.dcPresent 1 + bit (decide (p.draw = .ac)) 2 + bit (decide (p.draw = .dc)) 3 + bit p.ride.isSome 4
    + bit p.retire.isSome 5 + 2 ^ 16 * (p.load % 2 ^ 16)

/-- RES_LEVEL: a module without a reservoir shows level 0. -/
def ResUnit.levelWord (r : ResUnit) : Nat := if r.present then r.levelMille + 2 ^ 16 * r.level + bit true 24 else 0

/-- HOLDOVER. -/
def HoldUnit.stateCode (h : HoldUnit) : Nat := if h.degraded then 2 else if h.locked then 1 else 0

/-- The code of a session state. -/
def sessCode (x : SessState) : Nat := match x with
  | .closed => 0
  | .opening => 1
  | .opened => 2
  | .streaming => 3
  | .faulted => 4
  | .aborted => 5

/-- The code of a take state. -/
def takeCode (x : TakeState) : Nat := match x with
  | .none => 0
  | .running => 1
  | .orphaned => 2
  | .ending => 3

/-- WELT. -/
def TakeUnit.word (t : TakeUnit) : Nat := sessCode t.a.state + 2 ^ 4 * sessCode t.b.state + 2 ^ 8 * takeCode t.state

/-- The code of a join state. -/
def joinCode (x : JoinState) : Nat := match x with
  | .none => 0
  | .joining => 1
  | .joined => 2
  | .conflict => 3

/-- TANDEM. -/
def State.tandemWord (s : State) : Nat :=
  (s.tandemRole - 1) + bit s.tandem.up 2 + 2 ^ 3 * joinCode s.tandem.join

/-- SYNC_STATE now: 0 free, 1 locked, 2 holdover. -/
def State.syncNow (s : State) : Nat :=
  if inHoldover s then 2 else if s.frame.sens1.genlocked && referencePlaces s.frame.sens1 s.sync.genlock then 1 else 0

/-- SYNC. -/
def State.syncWord (s : State) : Nat := s.syncNow + bit s.sync.tc.present 8

/-- A temperature code as the mirror holds it. -/
def tempWord (on : Bool) (t : Int) : Nat := if on then intField 16 t else 0x8000

/-- The status mirror as the owning domains refresh it, bytes 0x000 to 0x063. -/
def State.liveMirror (s : State) : List Byte :=
  let ao := s.aoRuns
  let own := s.pdOn 69
  leBytes 4 s.modeState ++ leBytes 4 (owned ao s.faultSummary) ++ leBytes 8 (owned own s.frame.lastFrame) ++ leBytes 16 (owned ao s.pdOnBits)
    ++ leBytes 8 (owned ao s.ckRunBits)
    ++ zeros 8 ++ ((List.range 8).flatMap fun t => leBytes 2 (tempWord (ao && s.pdOn (8 + t)) (s.sensor.temps.getD t 0)))
    ++ leBytes 2 (tempWord ao s.thermal.stack) ++ leBytes 2 (tempWord ao s.thermal.genaz) ++ leBytes 2 (tempWord ao s.thermal.power)
    ++ leBytes 2 (tempWord ao s.thermal.hold) ++ leBytes 4 (owned ao s.power.inputWord) ++ leBytes 4 (owned (s.pdOn 68) s.protDepth)
    ++ leBytes 4 (owned own s.res.levelWord) ++ leBytes 4 (owned own s.hold.stateCode) ++ leBytes 4 (owned own s.take.word)
    ++ leBytes 4 (owned (s.pdOn 59) s.tandemWord) ++ leBytes 4 (owned (s.pdOn 76) s.syncWord)

/-- The status mirror: through a warm reset it keeps what it held (R302). -/
def State.mirror (s : State) : List Byte := s.regs.heldMirror.getD s.liveMirror

end Sys2Proof.Machine
end

