-- ==== Sys2Proof/Machine/Fatal.lean ====
section
/-! DEFINITION. Fatal causes (R446, R447, R455, R456, R461): what happens at their detection. The dump and the way into SERVICE follow
in FatalEnd. -/

namespace Sys2Proof.Machine

/-- The firmware as a source of reports: domain 0x51 (Table 19-3). -/
def srcFirmware (core : Nat) : Nat := 0x5100 + core

/-- What the dump header keeps of the detection (Table 19-6). -/
def State.atFatal (s : State) (cause : Nat) (noDump watchdog : Bool) : FatalSeq :=
  { cause := cause, time := s.time.module, frame := s.frame.lastFrame, takeId := s.take.takeId, mode := modeCode s.mode.mode,
    pdOn := (List.range 80).map s.pdOn, ckRun := (List.range 60).map s.clockRuns, faultSummary := s.faultSummary, noDump := noDump,
    watchdog := watchdog, resetWaits := false }

/-- A mode change that waits, at an epoch or in its sequence, ends with FAILED and a reason. -/
def abandonChange (reason : Nat) (s : State) : State :=
  let s1 := match s.mode.change with
    | some c => failChange c reason s
    | none => s
  let s2 := match s1.mode.seq with
    | some q =>
      failPowerup q.req reason
        (finishOpt q.req .failed 0 (modeResponse (modeCode s1.mode.mode) 1 reason 0) { s1 with mode := { s1.mode with seq := none } })
    | none => s1
  { s2 with mode := { s2.mode with forced := none } }

/-- An open in progress is answered; its session closes at step 6. -/
def abandonOpen (b : Nat) (s : State) : State :=
  let x := s.bay b
  finishOpt x.req .failed 0 [] (s.setBay b { x with req := none })

/-- A HOLDOVER_READ in progress ends with FAILED. -/
def abandonJob (s : State) : State :=
  match s.hold.job with
  | none => s
  | some j => finish j.req .failed 0 (leBytes 4 j.delivered ++ zeros 4) { s with hold := { s.hold with job := none } }

/-- R456: the accepted operations that the sequence stops are answered with FAILED. -/
def stopAccepted (reason : Nat) (s : State) : State :=
  abandonJob (abandonOpen 1 (abandonOpen 0 (abandonChange reason s)))

/-- No later boundary occurs, and the exposure in progress is abandoned (Table 19-5, step 2). -/
def haltEngine (s : State) : State :=
  { s with frame := { s.frame with halted := true, flying := none, pending := none, window := none, windows := 0, strobe := s.frame.strobeEnds s.time.module } }

/-- The place of a cause in Table 19-2. -/
def causeRow (cause : Nat) : Nat := fatalCodes.idxOf cause

/-- A fatal cause is detected (R455, R461): it starts the sequence of Table 19-5; one that meets a sequence in progress is logged with event
0x0E03, and one in the clock of the first counts as its cause where its row of Table 19-2 is the earlier one (R467). -/
def fatalCause (cause source data : Nat) (watchdog : Bool) (s : State) : State :=
  let s1 := logEvent cause source data s
  match s.dump.fatal with
  | some f =>
    if f.time = s.time.module ∧ f.noDump = false then
      { s1 with dump := { s1.dump with fatal := some (if causeRow cause < causeRow f.cause then { f with cause := cause } else f) } }
    else logEvent 0x0E03 srcDump cause s1
  | none =>
    let held := s.dump.held.isSome
    let s2 := if held then logEvent 0x0E03 srcDump cause s1 else s1
    let s3 := { s2 with dump := { s2.dump with fatal := some (s.atFatal cause held watchdog), fatalPending := true },
                        pins := { s2.pins with fault := true } }
    stopAccepted cause (haltEngine (fire0 5 s3))

end Sys2Proof.Machine
end

