-- ==== Sys2Proof/Machine/Retire.lean ====
section
/-! DEFINITION. The end of a retire (Table 7-10): what outlasts a loss of power, and the removal of PD-AO. -/

namespace Sys2Proof.Machine

/-- The hold-over store over a reset: the ring and what it holds stay; what the controller noted of a running session does not. The lock is
found again by the scan (R181). -/
def HoldUnit.atReset (h : HoldUnit) : HoldUnit :=
  { h with locked := false, busy := false, job := none, lastDurable := 0, delivered := [] }

/-- The held dump over a loss of power: the partition keeps it, the reservoir does not. -/
def DumpUnit.kept (d : DumpUnit) : DumpUnit :=
  let held := match d.held with
    | some x => if x.inHold then some { x with inRes := false } else none
    | none => none
  { Reset.dump with held := held, seq := d.seq, pagesRead := d.pagesRead }

/-- The calibration store over a reset: the copies, the pointer, the count and the time of the last installation (R363, R364, R371). A
candidate that FINISH accepted stands whole in the copy not in force. -/
def CalUnit.kept (c : CalUnit) : CalUnit :=
  let a := if c.useB then c.candidate.orElse fun _ => c.copyA else c.copyA
  let b := if c.useB then c.copyB else c.candidate.orElse fun _ => c.copyB
  { Reset.cal with copyA := a, copyB := b, useB := c.useB, pointer := c.pointer, lastId := c.lastId, count := c.count, lastCalTime := c.lastCalTime }

/-- The fuse array over a reset; the shadows and the registers are gone. -/
def FuseUnit.kept (f : FuseUnit) : FuseUnit :=
  { Reset.fuse with words := f.words, weak := f.weak, finalised := f.finalised }

/-- An input's system calibration over a reset: the stored copies (R361). -/
def AuxInput.kept (i : AuxInput) : AuxInput := { Reset.auxInput with copy1 := i.copy1, copy2 := i.copy2 }

/-- The state right after the release of a cold reset: the module as it leaves the factory, with what its non-volatile stores hold now (R9,
Table 7-8), the levels that stand on its pins, and the model's own fields. -/
def coldState (s : State) : State :=
  let z := State.reset
  { z with
    free := s.free, pending := s.pending, sent := s.sent, dump := s.dump.kept, profiles := s.profiles, hold := s.hold.atReset,
    view := { z.view with luts := s.view.luts }, aux := { z.aux with in0 := s.aux.in0.kept, in1 := s.aux.in1.kept },
    cal := s.cal.kept, fuse := s.fuse.kept,
    trust := { z.trust with slotA := s.trust.slotA, slotB := s.trust.slotB, bootB := s.trust.bootB },
    link := { z.link with perst := s.link.perst }, pins := { z.pins with modReset := s.pins.modReset, trigIn := s.pins.trigIn } }

/-- PD-AO goes off: nothing but the non-volatile stores is left (step 7). -/
def powerDown (s : State) : State :=
  let t := coldState s
  { t with power := { t.power with aoOn := false } }

/-- The domains that step 4 of a retire removes: those of the sensor, the converters, the lanes, viewing and the links. -/
def retireDomains : List Nat := (List.range 60)

/-- Steps 4 to 7 of a retire, once no readout is in progress: the link domains go off, the retire record is written, and PD-AO goes off.
In DORMANT no record is written (R399). -/
def finishRetire (s : State) : State :=
  if s.power.retire.isSome && s.frame.readout.isNone then
    let l : LinkUnit := { s.link with state := .down }
    let s1 := { s.setDomains retireDomains false with link := l }
    powerDown (if s.mode.mode = .dormant then s1 else writeRetire 1 s1)
  else s

end Sys2Proof.Machine
end

