-- ==== Sys2Proof/Machine/Closing.lean ====
section
/-! DEFINITION. The end of a readout (R98, R101, R114 to R122, R175): the lanes finish the frame, and the formatter closes its record in
the reservoir and in the hold-over ring. -/

namespace Sys2Proof.Machine

/-! ## What the formatter samples (Table 5-5) -/

/-- INPUT: 0 AC, 1 DC, 2 both. -/
def PowerUnit.inputCode (p : PowerUnit) : Nat := if p.acPresent && p.dcPresent then 2 else if p.acPresent then 0 else 1

/-- The role in the metadata page: 0 none, 1 leader, 2 follower. -/
def State.roleCode (s : State) : Nat := if s.tandemRole = 2 then 1 else if s.tandemRole = 3 then 2 else 0

/-- SYNC_STATE of a frame: 0 free, 1 locked, 2 holdover. -/
def FrameGov.syncState (g : FrameGov) : Nat := if g.holdover then 2 else if g.timing = 3 then 1 else 0

/-- The samples of a frame's metadata page: `e` was taken at B_N, the rest stands when the formatter closes the record. On a leader, PAIRED says
that FRAME_BEGIN of the frame has arrived; on a follower, that the boundary was not placed in holdover (R260). -/
def State.samples (s : State) (g : FrameGov) (e : EarlySamples) : Samples :=
  let t := s.tandem
  let paired := if s.tandemRole = 2 then decide (t.partnerFrame = g.n)
    else decide (s.tandemRole = 3) && g.follower && !g.holdover
  { lens := e.lens, aux0 := e.aux0, aux1 := e.aux1, auxTime := e.auxTime,
    syncState := g.syncState, phase := s.sync.genlock.phase, ltcIn := s.sync.tc.lastWord, role := s.roleCode, paired := paired,
    partnerFrame := t.partnerFrame, pairOffset := if paired then (t.partnerArrival : Int) - g.boundary else 0,
    stackTemp := s.thermal.stack, input := s.power.inputCode, protDepth := s.protDepth, resLevel := s.res.levelMille }

/-! ## Short, long and mismatched readouts (R98) -/

/-- Row-pair periods that the ledger expects of a frame. -/
def FrameGov.expectedPairs (g : FrameGov) : Nat := g.geometry.pairs

/-- Whether a readout differs from the geometry, binning and twin flag that the ledger gives, or in its periods. -/
def Readout.differs (r : Readout) : Bool :=
  !(r.gov.sensor.sameReadout r.gov.geometry) || decide (r.done ≠ r.gov.expectedPairs)

/-- The void reasons that the readout itself gives: 3 and 5. -/
def Readout.reasons (r : Readout) : List Nat :=
  (if r.differs then [3] else []) ++ (if r.data.rows.all (·.linkOk) then [] else [5])

/-! ## Closing a record -/

/-- Void reason 7 that stands beside others: a sealed frame whose take key is absent (R118, R122). -/
def keyReasons (key : Option (List Byte)) (t : TakeTag) : List Nat := if t.isSealed ∧ key = none then [7] else []

/-- The record of a frame: complete, or void for every reason that applies (R121, R122). `sealError` is an error of the GCM engine, which only
the encryption of a payload can meet. -/
def makeRecord (key : Option (List Byte)) (g : FrameGov) (c : Conditioned) (reasons : List Nat) (ovr : List Nat) (sm : Samples)
    (variant format : Nat) (sealError : Bool) : Record :=
  let all := reasons ++ keyReasons key g.take
  let whole : Record := ⟨g, .void, all, noCounts, c.corners, c.fallback, ovr, sm, variant, format⟩
  if all ≠ [] then whole
  else
    let w := { whole with counts := c.counts }
    match sealPayload (if sealError then none else key) g w.marks c.bytes with
    | some p => { w with payload := p }
    | none => { whole with reasons := [7] }

/-- Whether a frame has a slot in the reservoir, or an entry that holds pages in the ring. -/
def State.recorded (s : State) (n : Nat) : Bool :=
  (s.res.entryOf n).isSome || s.hold.entries.any fun e => decide (e.gov.n = n) && e.holds

/-- The reservoir's copy of a record closes, and its ring entry becomes COMPLETE. -/
def storeRecord (r : Record) (s : State) : State :=
  let close (e : ResEntry) : ResEntry := { e with record := some r, state := .closed }
  ringComplete r { s with res := s.res.modify r.gov.n close }

/-- A void frame: event 0x0401 with the frame and the reason. -/
def noteVoid (r : Record) (s : State) : State :=
  if r.isVoid then logFrame 0x0401 srcFormatter r.gov.n (voidReason r.reasons) s else s

/-- The events of the lanes on a frame: short or long readout, black fallback, unreplaced defects, over-range codes (R98, R104, R109,
R66). -/
def noteLanes (r : Readout) (c : Conditioned) (s : State) : State :=
  let n := r.gov.n
  let s1 := if r.differs then
      logFrame (if r.done < r.gov.expectedPairs then 0x0332 else 0x0333) (srcLane 0) n r.done s else s
  let s2 := if c.fallback then logFrame 0x0340 (srcLane 0) n 0 s1 else s1
  let s3 := if 0 < c.counts.unreplaced then logFrame 0x0341 (srcLane 0) n c.counts.unreplaced s2 else s2
  if r.ovr.any fun k => decide (0 < k) then logFrame 0x0326 (srcSegment 0) n (sumNat r.ovr) s3 else s3

/-- The readout in progress ends: the lanes finish, the record closes, and the viewing paths have the frame. -/
def closeReadout (s : State) : State :=
  match s.frame.readout with
  | none => s
  | some r =>
    let c := (Frame.mk r.data r.gov).condition
    let n := r.gov.n
    let s1 := noteLanes r c { s with frame := { s.frame with readout := none, shown := some r } }
    if s1.recorded n then
      let reasons := r.gov.reasons ++ r.reasons ++ ((s1.res.entryOf n).map (·.reasons)).getD []
      let x := makeRecord s1.take.key r.gov c reasons r.ovr (s1.samples r.gov r.early) (bit s1.mono 0) (s1.recordFormat r.gov) r.sealError
      noteBoth (greet (storeRecord x (noteVoid x s1)))
    else s1

end Sys2Proof.Machine
end

