-- ==== Sys2Proof/Machine/Intermediate.lean ====
section
/-! DEFINITION. The linear intermediate (R234): one pixel of three binary16 numbers for each block of 4 × 4 output sites, rounded once, to
nearest with ties to even; and the rows that a viewing path adds or drops (R99). -/

namespace Sys2Proof.Machine

/-! ## binary16 -/

/-- a / b to the nearest integer, ties to even. -/
def roundEven (a b : Nat) : Nat :=
  let q := a / b
  let r := a % b
  if 2 * r < b then q else if b < 2 * r then q + 1 else q + q % 2

/-- The binary16 encoding of num / den, for a quotient below 2¹⁵ in size. -/
def half (num : Int) (den : Nat) : Nat :=
  let u := num.natAbs * 2 ^ 24
  let k := Nat.log2 (u / den) - 10
  let m := roundEven u (den * 2 ^ k)
  let (m1, k1) := if m = 2048 then (1024, k + 1) else (m, k)
  let mag := if m1 < 1024 then m1 else (k1 + 1) * 1024 + (m1 - 1024)
  if num < 0 then 0x8000 + mag else mag

/-- Infinity and the not-a-number of R234. -/
def halfInf : Nat := 0x7C00
def halfNan : Nat := 0x7E00

/-! ## Blocks -/

/-- One channel of a block. -/
def blockChannel (sites : List Nat) : Nat :=
  if sites.any fun v => decide (v = Config.codeRun) || decide (v = Config.codeSat) then halfInf
  else
    let vals := sites.filter fun v => decide (v < 0xFFFFF0)
    if vals = [] then halfNan
    else half ((sumNat vals : Int) - 1024 * vals.length) (1024 * vals.length)

/-- The channel that a site of a payload grid feeds: 0 R, 1 G, 2 B on MF-9170C. -/
def siteChannel (x y : Nat) : Nat := if x % 2 = 0 ∧ y % 2 = 0 then 0 else if x % 2 = 1 ∧ y % 2 = 1 then 2 else 1

/-- A pixel of three channels. -/
abbrev Pixel : Type := Nat × Nat × Nat

/-- The pixel of a block whose sites are given row by row. -/
def blockPixel (mono : Bool) (block : List (List Nat)) : Pixel :=
  let tagged := block.zipIdx.flatMap fun r => r.1.zipIdx.map fun v => (siteChannel v.2 r.2, v.1)
  let of (c : Nat) : Nat := blockChannel ((tagged.filter fun p => mono || decide (p.1 = c)).map (·.2))
  (of 0, of 1, of 2)

/-- Cuts a list into pieces of n. -/
def pieces {α : Type} (n : Nat) (l : List α) : List (List α) :=
  (List.range (l.length / n)).map fun i => (l.drop (n * i)).take n

/-- The intermediate of a grid of final values. -/
def intermediateOf (mono : Bool) (grid : List (List Nat)) : List (List Pixel) :=
  (pieces 4 grid).map fun rows =>
    let w := (rows.head?.map (·.length)).getD 0 / 4
    (List.range w).map fun i => blockPixel mono (rows.map fun r => (r.drop (4 * i)).take 4)

/-! ## What a viewing path shows of a readout (R99, R233) -/

/-- Rows of a bank that were delivered, in read order, cut or filled with the pedestal to n rows of w sites: the missing rows are the last of each
bank (DESIGN CHOICE, log entry 69: R99 does not say where they lie). -/
def fillRows (n w : Nat) (rows : List (List Nat)) : List (List Nat) :=
  (rows.take n).map (fun r => r.take w ++ List.replicate (w - r.length) Config.pedestal)
    ++ List.replicate (n - rows.length) (List.replicate w Config.pedestal)

/-- The rows of a bank and node as values; a row that failed its check word is the pedestal. -/
def Frame.viewRows (f : Frame) (b : Bank) (n : Node) : List (List Nat) :=
  let p := f.plane b n
  ((f.planeSites p).zip p.window).map fun q =>
    if q.2.1.linkOk then q.1.map (·.value) else q.1.map fun _ => Config.pedestal

/-- The grid of a node in the geometry of the viewing path. -/
def Frame.viewGrid (f : Frame) (n : Node) : List (List Nat) :=
  let g := f.gov.geometry
  fillRows (g.outH / 2) g.outW (f.viewRows .top n) ++ fillRows (g.outH / 2) g.outW (f.viewRows .bottom n)

/-- Rows filled and rows dropped. -/
def Frame.viewShort (f : Frame) : Nat × Nat :=
  let h := f.gov.geometry.outH
  let got := (f.viewRows .top .a).length + (f.viewRows .bottom .a).length
  (h - got, got - h)

/-- The linear intermediate of a frame, of site A (R234). -/
def Frame.intermediate (f : Frame) : List (List Pixel) := intermediateOf f.data.mono (f.viewGrid .a)

end Sys2Proof.Machine
end

