-- ==== Sys2Proof/Machine/Tandem.lean ====
section
/-! DEFINITION. The tandem link (R249 to R256): negotiation, joins, mirrored entries, heartbeats and the follower's stream; and the
compositor's pairing (R257, R258). -/

namespace Sys2Proof.Machine

/-! ## Link and join -/

/-- Replaces the tandem unit. -/
def State.setTandem (s : State) (t : TandemUnit) : State := { s with tandem := t }

/-- Whether the module is in READY or VIEW. -/
def State.joinable (s : State) : Bool := decide (s.mode.mode = .ready) || decide (s.mode.mode = .view)

/-- The highest common version of two modules; 0 where there is none. -/
def commonVersion (other : Nat) : Nat := if 0x11 ≤ other then 0x11 else if other = 0x10 then 0x10 else 0

/-- The payload of HELLO: role, highest version, mode, identity (log entry 16). -/
def helloBytes (s : State) : List Byte :=
  leBytes 1 s.tandemRole ++ leBytes 1 0x11 ++ leBytes 1 (modeCode s.mode.mode) ++ zeros 1
    ++ leBytes 4 (s.fuse.word 0 0) ++ leBytes 4 (s.fuse.word 0 1)

/-- HELLO goes out. -/
def sendHello (s : State) : State := tandemSend 1 0 (helloBytes s) s

/-- PARTNER_STATUS goes out with each HEARTBEAT on a 1.1 link: tile temperatures, input, fault summary (log entry 16). -/
def sendStatus (s : State) : State :=
  if s.tandem.version = 0x11 then
    tandemSend 10 s.frame.lastFrame (s.sensor.temps.flatMap (fun v => leBytes 2 (BitVec.ofInt 16 v).toNat) ++ leBytes 1 s.power.inputCode ++ zeros 3
      ++ leBytes 4 s.faultSummary) s
  else s

/-- The follower runs FREE from its next boundary as origin (R256, R90). -/
def runFree (s : State) : State :=
  let freed (x : SensorSet) : SensorSet := { x with trigger := { x.trigger with mode := .free }, sync := { x.sync with genlock := false } }
  let f := s.frame
  let y := s.settings
  { s with settings := { y with sensor := freed y.sensor },
           frame := { f with sens0 := freed f.sens0, sens1 := freed f.sens1, sens2 := freed f.sens2, originNum := 0, originDen := 0, leaderNext := none } }

/-- A join ends (R256): events 0x0711 and 0x0714, and vector 31; a follower in a take places its boundaries in holdover. -/
def endJoin (s : State) : State :=
  let t := s.tandem
  if t.join = .joined ∨ t.join = .joining then
    let s1 := fire0 31 (logEvent 0x0714 srcTandem 0 (logEvent 0x0711 srcTandem 0
      (s.setTandem { t with join := .none, joinIn := 0, onTsync := false, unacked := [], queue := [] })))
    if t.onTsync then
      if s.mode.mode.records then logEvent 0x0717 srcTandem 0 (s1.setTandem { s1.tandem with holdover := true })
      else runFree s1
    else s1
  else s

/-- Roles that meet (R251): the same role twice is a conflict; a leader and a follower begin to join (R252). -/
def meetRoles (s : State) : State :=
  let t := s.tandem
  let mine := s.tandemRole
  if t.version = 0 ∨ mine = 1 ∨ t.partnerRole = 1 ∨ t.partnerRole = 0 then s
  else if mine = t.partnerRole then
    fire0 31 (logEvent 0x0712 srcTandem mine (s.setTandem { t with join := .conflict }))
  else if t.join = .joined then s
  else fire0 31 (logEvent 0x0710 srcTandem t.version (s.setTandem { t with join := .joining, joinIn := 0 }))

/-- A new role of the partner, or its DORMANT, ends a join, and a conflict with vector 31 (R251, R256). -/
def partnerLeaves (s : State) : State :=
  if s.tandem.join = .conflict then fire0 31 (s.setTandem { s.tandem with join := .none }) else endJoin s

/-- HELLO arrives: the version is chosen, and the round-trip time is measured (R252, R253). -/
def hello (role maxVersion mode rtt : Nat) (s : State) : State :=
  let v := commonVersion maxVersion
  let told (u : State) : State :=
    u.setTandem { u.tandem with heard := u.time.now, partnerRole := role, partnerMode := mode, version := v, rtt := rtt }
  if v = 0 then logEvent 0x0724 srcTandem maxVersion (told s)
  else
    let t := told (if role ≠ s.tandem.partnerRole ∨ mode = 0 then partnerLeaves s else s)
    if mode = 0 then t else meetRoles t

/-- TANDEM_LINK_UP (R252): the lanes train, the packets that waited go out, and HELLO after them; a join that a short retrain interrupted holds (R256). -/
def linkUp (s : State) : State :=
  if s.pdOn 59 && !s.tandem.up then
    let t := each s.tandem.queue (fun p u => u.send (.packet p.2)) (s.setTandem { s.tandem with up := true, heard := s.time.now, queue := [] })
    sendHello (fire0 31 t)
  else s

/-- TANDEM_LINK_UP. -/
def execTandemLinkUp (s : State) : Host.Outcome State Fault Refusal := .next (linkUp s)

/-- TANDEM_LINK_DOWN (R249): the whole link goes down, packets wait, and vector 31 fires. -/
def execTandemLinkDown (s : State) : Host.Outcome State Fault Refusal :=
  .next (if s.tandem.up then fire0 31 (s.setTandem { s.tandem with up := false }) else s)

/-- HELLO_PACKET. -/
def execHelloPacket (role maxVersion mode : Byte) (_identity : U64) (rttNs : U32) (s : State) : Host.Outcome State Fault Refusal :=
  .next (if s.tandem.up then hello role.toNat maxVersion.toNat mode.toNat rttNs.toNat s else s)

/-- A packet from the partner is valid: the 50 ms of R256 start again. -/
def heard (s : State) : State := s.setTandem { s.tandem with heard := s.time.now }

/-- What a valid packet does while the link is up. -/
def onPacket (f : State → State) (s : State) : State := if s.tandem.up then f (heard s) else s

/-- TANDEM_PACKET_CRC_FAIL (R249): counted; event 0x0723 at most once a frame. -/
def crcFail (s : State) : State :=
  let t := s.tandem
  let s1 := s.setTandem { t with crcFail := bump32 t.crcFail 1, crcFrame := some s.frame.lastFrame }
  if t.crcFrame = some s.frame.lastFrame then s1 else logEvent 0x0723 srcTandem 0 s1

/-- TANDEM_PACKET_CRC_FAIL. -/
def execTandemPacketCrcFail (s : State) : Host.Outcome State Fault Refusal := .next (if s.tandem.up then crcFail s else s)

/-- TANDEM_LINK_TIMEOUT: no valid packet for 50 ms ends the join (R256). -/
def execTandemLinkTimeout (s : State) : Host.Outcome State Fault Refusal :=
  .next (if s.tandem.join = .joined ∨ s.tandem.join = .joining then endJoin (reachNow (s.tandem.heard + 50 * Config.ms) s) else s)

/-! ## The leader's boundaries (R252, R253, R256) -/

/-- The payload of HEARTBEAT: B_N, frame number, mode, and 0 a frame, 1 idle or 2 a keep-alive (log entry 16). -/
def heartbeatBytes (b frame kind : Nat) (s : State) : List Byte :=
  leBytes 8 b ++ leBytes 8 frame ++ leBytes 1 (modeCode s.mode.mode) ++ leBytes 1 kind

/-- The settings in force as items of the classes that the link carries, and the waiting entries (Table 10-9). -/
def joinBytes (j : Nat) (s : State) : List Byte :=
  leBytes 8 j ++ ((settingsItems s.settings).take 13).flatten
    ++ s.ledger.inOrder.flatMap fun p => leBytes 4 p.2.seq ++ leBytes 8 p.2.applied ++ (p.2.standing.filter mirrors).flatMap fun x => mirrorItem x s.settings

/-- A join completes at B_J: event 0x0713 and vector 31. -/
def joined (s : State) : State := fire0 31 (logEvent 0x0713 srcTandem 0 (s.setTandem { s.tandem with join := .joined, joinIn := 0, lastGood := none, receiving := [] }))

/-- The level of TSYNC: a leader drives it high from 2.00 µs to 1.00 µs before each boundary (R253). -/
def State.tsyncPin (s : State) : Bool :=
  decide (s.tandemRole = 2) && (nextBoundary s).any fun b => decide (b ≤ s.time.module + 200 ∧ s.time.module + 100 < b)

/-- The leader at a boundary: the pulse of TSYNC that announced it, which has its own wire (R256), HEARTBEAT, JOIN where one is due, and the join
that completes. -/
def leaderBoundary (b : Nat) (numbered : Bool) (s : State) : State :=
  if s.tandemRole = 2 then
    let n := s.frame.lastFrame
    let s1 := s.send (.tsync (b - 200) (b - 100))
    let s2 := sendStatus (tandemSend 2 n (heartbeatBytes b (if numbered then n else 0) (if numbered then 0 else 1) s1) s1)
    let t := s2.tandem
    if t.join = .joining then
      if t.joinIn = 0 then
        if t.up && s2.joinable && (decide (t.partnerMode = 1) || decide (t.partnerMode = 2)) then
          tandemSend 3 (n + 4) (joinBytes (n + 4) s2) (s2.setTandem { t with joinIn := 4, joinFrame := n + 4 })
        else s2
      else if t.joinIn = 1 then joined s2
      else s2.setTandem { t with joinIn := t.joinIn - 1 }
    else s2
  else s

/-- A follower that a lost link left in holdover runs FREE again once its take is over (R256). -/
def leaveHoldover (s : State) : State :=
  if s.tandem.holdover && s.joinable then runFree (s.setTandem { s.tandem with holdover := false }) else s

/-- HEARTBEAT_KEEPALIVE (R256): 10.0 ms after the leader's latest packet. -/
def keepalive (s : State) : State :=
  if s.tandemRole = 2 ∧ s.tandem.up = true then
    let s1 := reachNow (s.tandem.sent + 10 * Config.ms) s
    tandemSend 2 s1.frame.lastFrame (heartbeatBytes s1.time.module 0 2 s1) s1
  else s

/-- HEARTBEAT_KEEPALIVE. -/
def execHeartbeatKeepalive (s : State) : Host.Outcome State Fault Refusal := .next (keepalive s)

/-- The follower counts as the leader's HEARTBEAT says: an idle boundary takes back the frame that it was taken to carry, and the leader's number is
the latest where the follower's is behind it (R92). Its numbers fall at a join only (R252). -/
def countLeader (frame : Nat) (idle : Bool) (s : State) : State :=
  let f := s.frame
  if !s.tandem.onTsync || decide (s.tandem.join ≠ .joined) || f.leaderNext.isSome then s
  else
    { s with tandem := { s.tandem with guessed := false },
             frame := { f with lastFrame := if idle then (if s.tandem.guessed then f.lastFrame - 1 else f.lastFrame) else max f.lastFrame frame } }

/-- HEARTBEAT arrives: a follower notes the leader's frame and answers; a leader notes the answer (R256, R260). -/
def gotHeartbeat (boundary frame mode : Nat) (idle : Bool) (s : State) : State :=
  let t := { s.tandem with partnerMode := mode }
  if mode = 0 then partnerLeaves (s.setTandem t)
  else if s.tandemRole = 3 then
    let t1 := if idle then t else { t with partnerFrame := frame, partnerArrival := s.time.module }
    sendStatus (tandemSend 2 frame (heartbeatBytes boundary frame (if idle then 1 else 0) s) (countLeader frame idle (s.setTandem t1)))
  else s.setTandem t

/-- HEARTBEAT. -/
def execHeartbeat (boundary frame : U64) (mode : Byte) (idle : Bool) (s : State) : Host.Outcome State Fault Refusal :=
  .next (onPacket (gotHeartbeat boundary.toNat frame.toNat mode.toNat idle) s)

/-! ## The follower's side of a join (R252 to R254) -/

/-- The waiting entry keeps only its record-and-stream part. -/
def dropMirroredClasses (p : Nat × LedgerEntry) (s : State) : State :=
  let e := { p.2 with cancelled := p.2.cancelled.or ⟨true, true, true, false⟩ }
  { s with ledger := s.ledger.setSlot p.1 (if e.classes = Classes.none then none else some e) }

/-- The settings in force and in the engine take some settings at once. -/
def adopt (l : List Setting) (s : State) : State :=
  let y := applyAll l s.settings
  let f := s.frame
  { s with settings := y, frame := { f with sens0 := y.sensor, sens1 := y.sensor, sens2 := y.sensor, rotK0 := y.rotK, rotK1 := y.rotK,
                                            cond := y.cond } }

/-- A mirrored entry takes a slot of the follower's ledger; one that finds its latch passed slips (R254). Between JOIN and the edge of TSYNC before
B_J no latch of the leader's frames has passed. None where no slot is free. -/
def takeMirrored (m : Mirrored) (s : State) : Option State :=
  if s.ledger.waiting.any fun p => p.2.mirrored && decide (p.2.seq = m.seq.toNat) then some s
  else
    match s.ledger.freeSlot with
    | none => none
    | some i =>
      let c := classesOf m.settings
      let ahead : Int := if c.sensor then 2 else if c.conv then 1 else 0
      let late := (decide (s.tandem.joinIn = 0) || s.tandem.onTsync) && decide ((m.applied.toNat : Int) < s.number (s.frame.index + 1) + ahead)
      let n := if late then s.earliest else m.applied.toNat
      let e : LedgerEntry := ⟨m.seq.toNat, m.applied.toNat, n, m.settings, Classes.none, Classes.none, late, true, s.time.module, 0xFF, 0⟩
      let s1 := { s with ledger := s.ledger.setSlot i (some e) }
      some (if late then
        logFrame 0x0715 srcTandem n m.seq.toNat { s1 with tandem := { s1.tandem with slips := bump32 s1.tandem.slips 1 } }
      else s1)

/-- JOIN arrives at a follower (Table 10-10, step 3). -/
def gotJoin (first : Nat) (l : List Setting) (waiting : List Mirrored) (s : State) : State :=
  if s.tandemRole = 3 ∧ s.tandem.join = .joining ∧ s.joinable = true then
    let s1 := each (s.ledger.waiting.filter fun p => !p.2.mirrored) dropMirroredClasses s
    let s2 := { s1 with res := s1.res.dropPreroll, tandem := { s1.tandem with joinIn := 4, joinFrame := first } }
    let s3 := adopt l (logEvent 0x0716 srcTandem 0 s2)
    each waiting (fun m t => (takeMirrored m t).getD t) s3
  else s

/-- JOIN. -/
def execJoin (first : U64) (settings : List Setting) (waiting : List Mirrored) (s : State) : Host.Outcome State Fault Refusal :=
  .next (onPacket (gotJoin first.toNat settings waiting) s)

/-- The mirrored entries latch as the follower turns to TSYNC: the settings of frame J, and of J + 1, as the leader's have by then (R254). -/
def latchAtJoin (j : Nat) (s : State) : State :=
  let due (n : Nat) (t : State) : List (Nat × LedgerEntry) := t.ledger.inOrder.filter fun p => p.2.mirrored && decide (p.2.applied ≤ n)
  let sensor (n : Nat) (t : State) : State :=
    each ((due n t).filter fun p => p.2.classes.sensor && !p.2.latched.sensor) (latchSensor t.frame.sens1.tMin) t
  let s1 := sensor j s
  let s2 := sensor (j + 1) { s1 with frame := { s1.frame with sens1 := s1.frame.sens2 } }
  each ((due j s2).filter fun p => p.2.classes.conv && !p.2.latched.conv) latchConv s2

/-- TSYNC_EDGE (R253): the follower's boundary lies 2.00 µs after the edge, less half the round-trip time. At B_J the follower abandons the
exposure in progress and takes the leader's number. -/
def tsync (s : State) : State :=
  let t := s.tandem
  let b := s.time.module + 200 - t.rtt / 20
  if s.tandemRole ≠ 3 then s
  else if t.onTsync then { s with frame := { s.frame with leaderNext := some (s.lastNumber + 1, b) } }
  else if t.join = .joining ∧ t.joinIn = 1 then
    latchAtJoin t.joinFrame { s with
      tandem := { t with onTsync := true, holdover := false }
      frame := { s.frame with leaderNext := some (t.joinFrame, b), flying := none, pending := none, window := none, windows := 0 } }
  else if t.join = .joining ∧ 1 < t.joinIn then s.setTandem { t with joinIn := t.joinIn - 1 }
  else s

/-- TSYNC_EDGE. -/
def execTsyncEdge (s : State) : Host.Outcome State Fault Refusal := .next (tsync s)

/-- The follower at a boundary: the join completes at B_J. -/
def followerBoundary (s : State) : State :=
  if s.tandem.onTsync && decide (s.tandem.join = .joining) then joined s else s

/-! ## Mirrored entries (R254, R250) -/

/-- LEDGER arrives at a follower, which acknowledges it. -/
def gotLedger (m : Mirrored) (s : State) : State :=
  if s.tandemRole = 3 ∧ (s.tandem.join = .joined ∨ 0 < s.tandem.joinIn) then
    match takeMirrored m s with
    | none => s
    | some s1 => tandemSend 5 m.applied.toNat (leBytes 4 m.seq.toNat) s1
  else s

/-- LEDGER. -/
def execLedger (entry : Mirrored) (s : State) : Host.Outcome State Fault Refusal := .next (onPacket (gotLedger entry) s)

/-- LEDGER_ACK arrives at the leader. -/
def execLedgerAck (seq : U32) (s : State) : Host.Outcome State Fault Refusal :=
  .next (onPacket (fun t => t.setTandem { t.tandem with unacked := t.tandem.unacked.filter fun p => decide (p.1.seq ≠ seq) }) s)

/-- LEDGER_RESEND: entries unacknowledged for 20 µs go again, where the link is up. -/
def resend (s : State) : State :=
  match (if s.tandem.up then s.tandem.unacked.map (·.2) else []) with
  | [] => s
  | t :: ts =>
    let s1 := reachNow (ts.foldl min t + 20 * Config.us) s
    let due := s1.tandem.unacked.filter fun p => decide (p.2 + 20 * Config.us ≤ s1.time.now)
    let s2 := each due (fun p u => sendLedger p.1 u) s1
    let stamp (p : Mirrored × Nat) : Mirrored × Nat := if p ∈ due then (p.1, s1.time.now) else p
    s2.setTandem { s2.tandem with unacked := s2.tandem.unacked.map stamp }

/-- LEDGER_RESEND. -/
def execLedgerResend (s : State) : Host.Outcome State Fault Refusal :=
  .next (if s.tandem.join = .joined ∨ s.tandem.join = .joining then resend s else s)

/-- The classes of a class field. -/
def classesFrom (v : Nat) : Classes := ⟨v.testBit 0, v.testBit 1, v.testBit 2, v.testBit 3⟩

/-- LEDGER_CANCEL arrives at a follower (1.1). -/
def gotCancel (seq classes : Nat) (s : State) : State :=
  if s.tandemRole = 3 ∧ s.tandem.version = 0x11 then
    each (s.ledger.waiting.filter fun p => p.2.mirrored && decide (p.2.seq = seq)) (fun p t =>
      let gone := p.2.removable
      let keep := gone.minus (classesFrom classes)
      cancelEntry p.1 { p.2 with settings := p.2.settings.filter fun x => (settingClass x).minus keep ≠ Classes.none } t) s
  else s

/-- LEDGER_CANCEL_PACKET. -/
def execLedgerCancelPacket (seq : U32) (classes : Byte) (s : State) : Host.Outcome State Fault Refusal :=
  .next (onPacket (gotCancel seq.toNat classes.toNat) s)

/-- PARTNER_STATUS arrives (1.1). -/
def execPartnerStatus (temps : List Int) (input : Byte) (faults : U32) (s : State) : Host.Outcome State Fault Refusal :=
  .next (onPacket (fun t => if t.tandem.version = 0x11 then
    t.setTandem { t.tandem with info := some ⟨temps, input.toNat, faults.toNat⟩ } else t) s)

/-! ## The follower's stream (R255) -/

/-- Whether the follower sends its intermediate: in a join, and at B_J, where it completes. -/
def State.streams (s : State) : Bool := decide (s.tandemRole = 3) && (decide (s.tandem.join = .joined) || decide (s.tandem.join = .joining)) && s.tandem.onTsync

/-- FRAME_BEGIN: width and height of the intermediate, and flags (log entry 16). -/
def sendFrameBegin (g : FrameGov) (s : State) : State :=
  tandemSend 7 g.n (leBytes 2 (g.geometry.outW / 4) ++ leBytes 2 (g.geometry.outH / 4) ++ leBytes 4 (Config.beginFlags g.n).toNat) s

/-- The bytes of a pixel (R234). -/
def pixelBytes (p : Pixel) : List Byte := leBytes 2 p.1 ++ leBytes 2 p.2.1 ++ leBytes 2 p.2.2

/-- The payloads of LINES that one line takes, each of at most 4,096 bytes. -/
def linePackets (j : Nat) (line : List Pixel) : List (List Byte) :=
  (List.range ((line.length + 681) / 682)).map fun i =>
    leBytes 2 j ++ leBytes 2 (682 * i) ++ ((line.drop (682 * i)).take 682).flatMap pixelBytes

/-- Whether a packet of LINES can go: the link is up, or the transmit queue has room (R255). -/
def TandemUnit.takesLines (t : TandemUnit) (payload : List Byte) : Bool := t.up || t.queueRoom (payload.length + 20)

/-- One line goes out; the packets that a full queue has no room for are dropped, and the line is counted where one is. -/
def sendLine (n : Nat) (q : List Pixel × Nat) (p : State × Nat) : State × Nat :=
  let r := (linePackets q.2 q.1).foldl (fun (u : State × Bool) b =>
    if u.1.tandem.takesLines b then (tandemSend 8 n b u.1, u.2) else (u.1, true)) (p.1, false)
  (r.1, p.2 + bit r.2 0)

/-- LINES and FRAME_END of a frame that has been read: lines sent, and lines dropped (R255). -/
def sendIntermediate (f : Frame) (s : State) : State :=
  let l := f.intermediate
  let (s1, lost) := l.zipIdx.foldl (fun p q => sendLine f.gov.n q p) (s, 0)
  tandemSend 9 f.gov.n (leBytes 2 (l.length - lost) ++ leBytes 2 lost) s1

/-- The compositor keeps the frame shown where its pairing has not settled when the next readout ends (R248, R257). -/
def keepShown (s : State) : State :=
  match s.frame.shown, s.tandem.pairing with
  | some r, some p => if p.frame = r.gov.n then s.setTandem { s.tandem with kept := some r } else s
  | _, _ => s

/-- The readout in progress ends, and a follower sends what it has read to the leader (R255). -/
def endReadout (s : State) : State :=
  match s.frame.readout with
  | none => s
  | some r =>
    let s1 := closeReadout (keepShown s)
    if r.gov.follower && s1.streams then sendIntermediate ⟨r.data, r.gov⟩ s1 else s1
/-! ## The compositor (R257) -/

/-- The geometry of a leader frame, where the module still has it: width and height of its intermediate. -/
def State.mateSize (s : State) (n : Nat) : Option (Nat × Nat) :=
  let held := [s.frame.gov, s.frame.shown.map (·.gov), s.tandem.kept.map (·.gov)].filterMap id
  (held.find? fun g => decide (g.n = n)).map fun g => (g.geometry.outW / 4, g.geometry.outH / 4)

/-- The pixels of a packet at its first pixel: what lies before it and has not come is the last pixel there. -/
def layPixels (acc : List Pixel) (x : Line) : List Pixel :=
  let gap := List.replicate (x.first - acc.length) (acc.getLastD (0, 0, 0))
  (acc ++ gap).take x.first ++ x.pixels ++ acc.drop (x.first + x.pixels.length)

/-- The pixels of one line, each packet at its first pixel. -/
def lineOf (l : List Line) (j : Nat) : List Pixel :=
  ((l.filter fun x => decide (x.index = j)).mergeSort fun a b => decide (a.first ≤ b.first)).foldl layPixels []

/-- A line at the leader's width: the surplus dropped, or the last pixel repeated. -/
def fitLine (w : Nat) (l : List Pixel) : List Pixel := l.take w ++ List.replicate (w - l.length) (l.getLastD (0, 0, 0))

/-- The partner frame at the leader's size (R257). -/
def PartnerFrame.fit (p : PartnerFrame) (w h : Nat) : PartnerFrame :=
  let idx := (p.lines.map (·.index)).eraseDups
  let kept := idx.filter fun j => decide (j < h)
  let wide := idx.any fun j => decide (w < (lineOf p.lines j).length)
  let narrow := kept.any fun j => decide ((lineOf p.lines j).length < w)
  let last := kept.getLastD 0
  let filled := (List.range h).map fun j => (⟨j, 0, fitLine w (lineOf p.lines (if j ∈ kept then j else last))⟩ : Line)
  { p with width := w, height := h, lines := filled, ended := true, padRows := h - kept.length, truncRows := idx.length - kept.length,
           padded := narrow || decide (kept.length < h), truncated := wide || decide (kept.length < idx.length) }

/-- A partner frame is taken: events 0x0721 and 0x0722 as it is padded or truncated; it becomes the last good one. -/
def keepPartner (p : PartnerFrame) (s : State) : State :=
  match s.mateSize p.frame with
  | none => s.setTandem { s.tandem with lastGood := some { p with ended := true }, receiving := s.tandem.receiving.filter fun x => decide (x.frame ≠ p.frame) }
  | some (w, h) =>
    let q := p.fit w h
    let t := s.tandem
    let pair := t.pairing.map fun x => if x.frame = p.frame ∧ x.repeated = false then { x with partner := some q } else x
    let s1 := s.setTandem { t with receiving := t.receiving.filter fun x => decide (x.frame ≠ p.frame), lastGood := some q, pairing := pair }
    let s2 := if q.padded then logFrame 0x0721 srcComp p.frame q.padRows s1 else s1
    if q.truncated then logFrame 0x0722 srcComp p.frame q.truncRows s2 else s2

/-- No partner frame for leader frame n: the last good one again, or zeros; while the join holds, event 0x0720 and PF1 vector 12. -/
def repeatPartner (n : Nat) (s : State) : State :=
  let t := s.tandem
  let s1 := s.setTandem { t with pairing := some ⟨n, t.lastGood, t.lastGood.isSome, t.lastGood.isNone, t.compMode, t.compLeft⟩ }
  if t.join = .joined then fire1 12 (logFrame 0x0720 srcComp n 0 s1) else s1

/-- Whether a packet of a partner frame still counts: its frame was not given up. -/
def TandemUnit.wants (t : TandemUnit) (n : Nat) : Bool := match t.pairing with
  | some p => !(decide (p.frame = n) && (p.repeated || p.absent)) && decide (p.frame ≤ n)
  | none => true

/-- FRAME_BEGIN arrives at the leader; the frame before it, where it is not complete, has until its deadline. -/
def gotFrameBegin (n w h : Nat) (s : State) : State :=
  let t := s.tandem
  if s.tandemRole = 2 ∧ t.join = .joined then
    let t1 := { t with partnerFrame := n, partnerArrival := s.time.module }
    s.setTandem (if t.wants n then
      { t1 with receiving := ⟨n, w, h, [], false, s.time.module, 0, 0, false, false⟩ :: (t.receiving.filter fun x => decide (x.frame + 1 = n)) }
    else { t1 with dropped := t1.dropped + 1 })
  else s

/-- FRAME_BEGIN. -/
def execFrameBegin (frame : U64) (width height : U16) (s : State) : Host.Outcome State Fault Refusal :=
  .next (onPacket (gotFrameBegin frame.toNat width.toNat height.toNat) s)

/-- LINES arrive at the leader. -/
def gotLines (n : Nat) (l : Line) (s : State) : State :=
  s.setTandem { s.tandem with receiving := s.tandem.receiving.map fun p => if p.frame = n then { p with lines := p.lines ++ [l] } else p }

/-- LINES. -/
def execLines (frame : U64) (index first : U16) (pixels : List (U16 × U16 × U16)) (s : State) : Host.Outcome State Fault Refusal :=
  .next (onPacket (gotLines frame.toNat
    ⟨index.toNat, first.toNat, pixels.map fun p => (p.1.toNat, p.2.1.toNat, p.2.2.toNat)⟩) s)

/-- The partner frame of a number that is being received. -/
def TandemUnit.receives (t : TandemUnit) (n : Nat) : Option PartnerFrame := t.receiving.find? fun p => decide (p.frame = n)

/-- A partner frame is complete, or its deadline has come: without a line it counts as not arrived. -/
def settlePartner (n : Nat) (s : State) : State :=
  match s.tandem.receives n with
  | none => s
  | some p =>
    if p.lines ≠ [] then keepPartner p s
    else
      let s1 := s.setTandem { s.tandem with receiving := s.tandem.receiving.filter fun x => decide (x.frame ≠ n) }
      if s.tandem.pairing.any fun x => decide (x.frame = n) then repeatPartner n s1 else s1

/-- FRAME_END arrives at the leader. -/
def execFrameEnd (frame : U64) (sent dropped : U16) (s : State) : Host.Outcome State Fault Refusal :=
  .next (onPacket (fun t => settlePartner frame.toNat
    (t.setTandem { t.tandem with dropped := t.tandem.dropped + (if sent = 0 then 0 else dropped.toNat) })) s)

/-- PARTNER_FRAME_DEADLINE: a quarter of the next period after the next boundary. -/
def partnerDeadline (s : State) : State :=
  match s.frame.gov, s.tandem.pairing with
  | some g, some p => if p.frame + 1 = g.n ∧ p.repeated = false ∧ p.absent = false then
      settlePartner p.frame (reach (g.boundary + g.period / 4) s) else s
  | _, _ => s

/-- PARTNER_FRAME_DEADLINE. -/
def execPartnerFrameDeadline (s : State) : Host.Outcome State Fault Refusal := .next (partnerDeadline s)

/-- PAIRING_WINDOW_CLOSE: B_N + floor(P(N) / 4) of the latest leader frame, which is also the deadline of the frame before it. -/
def pairingClose (s : State) : State :=
  match s.frame.gov with
  | none => s
  | some g =>
    if s.tandemRole = 2 ∧ ((s.tandem.pairing.map (·.frame)).getD 0 ≠ g.n) then
      let s0 := partnerDeadline (reach (g.boundary + g.period / 4) s)
      let s1 := s0.setTandem { s0.tandem with before := s0.tandem.pairing }
      let t := s1.tandem
      match t.receives g.n with
      | some p => s1.setTandem { t with pairing := some ⟨g.n, some p, false, false, t.compMode, t.compLeft⟩ }
      | none => repeatPartner g.n s1
    else s

/-- PAIRING_WINDOW_CLOSE. -/
def execPairingWindowClose (s : State) : Host.Outcome State Fault Refusal := .next (pairingClose s)

/-- A COMPOSITOR_SET that waits takes effect at a boundary (R258). -/
def compositorBoundary (s : State) : State :=
  match s.tandem.compChange with
  | none => s
  | some (m, e) => s.setTandem { s.tandem with compMode := m, compLeft := e, compChange := none }

end Sys2Proof.Machine
end

