-- ==== Sys2Proof/Machine/Boundary.lean ====
section
/-! DEFINITION. A boundary (R78, R131): what is placed, latched, switched, voted, numbered and reserved at B_N, in this order. -/

namespace Sys2Proof.Machine

/-! ## Placing (R90 to R95, R312 to R314) -/

/-- A boundary at b that a span placed has passed: a step of the span, and the last valid period (R312, R314). -/
def passMeter (b : Nat) (s : State) : State :=
  let g := s.sync.genlock
  if g.placed s.frame.sens1 && !s.tandem.follows && !s.tandem.holdover then
    s.setMeter { g with steps := g.steps + 1, lastPeriod := ((b : Int) - s.frame.from).toNat }
  else s

/-- What the reference fixes at a boundary at b (R312, R313): a new span where one ends, where none stands and where GL_MULT or GL_DIV has changed,
with event 0x0A03 where the engine acquires; none while the reference places no boundary. A reference whose period lies below T_min gives event
0x0335 (R91). -/
def fixMeter (b : Nat) (s : State) : State :=
  let x := s.frame.sens1
  let g := s.sync.genlock
  if x.genlocked && !s.tandem.follows && !s.tandem.holdover then
    if referencePlaces x g then
      if g.span = 0 ∨ x.sync.mult ≤ g.steps ∨ g.mult ≠ x.sync.mult ∨ g.div ≠ x.sync.div then
        let s1 := s.setMeter (placeSpan b x.sync g)
        if g.acquire then logEvent 0x0A03 srcSync 0 s1 else s1
      else s
    else
      let s1 := s.setMeter { g with span := 0, targets := [] }
      if g.state = .locked then logEvent 0x0335 srcEngine 0 s1 else s1
  else if g.span = 0 then s else s.setMeter { g with span := 0, targets := [] }

/-- SYNC SOURCE for the coming boundary: newly selected, the engine acquires, and no lock counts from before (R313, R314). -/
def selectSource (s : State) : State :=
  let g := s.sync.genlock
  let on := s.frame.sens1.sync.genlock
  if on = g.selected then s
  else if on then s.setMeter { g with selected := true, acquire := true, everLocked := decide (g.state = .locked), lastPeriod := 0 }
  else s.setMeter { g with selected := false }

/-- A pulse of TRIG_OUT for source mode k under trigger settings t (R97): it starts 40 ns after its event, and one that would start before the
pulse before it ends extends that pulse. -/
def trigOut (k : Nat) (t : Trigger) (s : State) : State :=
  let a := s.time.module + outputLag
  if t.outMode = k ∧ s.reads = true then
    { s with frame := { s.frame with trigPulse := match s.frame.trigPulse with
      | some q => if a < q.2 then some (q.1, max q.2 (a + t.outWidth)) else some (a, a + t.outWidth)
      | none => some (a, a + t.outWidth) } }
  else s

/-- A take that chooses its pre-roll against B_E at time be, whose frame is n; with no pre-roll there is no header to rewrite. -/
def chooseAgainst (be n : Nat) (s : State) : State :=
  let s1 := takePreroll be n [] s
  if s1.take.first = n then greet { s1 with take := { s1.take with rewriting := false } } else s1

/-- In TRIGGERED and GATED operation the take chooses its pre-roll as soon as B_E is scheduled (R147). -/
def choosePreroll (s : State) : State :=
  if s.take.isRunning && decide (s.take.first = 0) && (s.mode.change.any fun c => c.committed && decide (c.epoch = s.frame.index + 1)) then
    match nextBoundary s with
    | some be => chooseAgainst be (s.frame.lastFrame + 1) s
    | none => s
  else s

/-- A trigger with its timestamp becomes the trigger in flight (R93, R94): event 0x0330 where the previous frame delays it. -/
def scheduleTrigger (te : Nat) (s : State) : State :=
  let f := s.frame
  let (b, d) := triggerPlace f.sens1 s.sync.genlock te f.from.toNat f.sens0.tMin f.clearReady
  let s1 := choosePreroll { s with frame := { f with flying := some ⟨te, b, d⟩ } }
  if 0 < d then logEvent 0x0330 srcEngine (d % 2 ^ 32) s1 else s1

/-- The trigger in flight has had its boundary; the pending one is scheduled from its own timestamp. -/
def nextTrigger (s : State) : State :=
  match s.frame.pending with
  | none => { s with frame := { s.frame with flying := none } }
  | some te => scheduleTrigger te { s with frame := { s.frame with flying := none, pending := none } }

/-! ## Numbers and pipelines -/

/-- Whether the next boundary carries a frame number. -/
def State.nextNumbered (s : State) : Bool :=
  let i := s.frame.index + 1
  let reads (m : Mode) : Bool := decide (m = .view) || m.records
  match s.mode.forced, s.mode.change with
  | some (m, j), c => if j = i then reads m else now c i reads
  | none, c => now c i reads
where
  now (c : Option Change) (i : Nat) (reads : Mode → Bool) : Bool := match c with
    | some k => if k.committed ∧ k.epoch = i then reads k.goal else s.reads
    | none => s.reads

/-- The number that a boundary takes: one more, or the leader's at B_J (R252). -/
def State.nextFrame (s : State) : Nat := s.lastNumber + 1

/-- The latest number after an idle boundary: a follower counts the frame that the leader's boundary carries; a join with an idle leader counts
from the number of its JOIN (R92, R252). -/
def State.idleNumber (s : State) : Nat :=
  if s.tandem.onTsync then (if s.tandem.leaderReads then s.lastNumber + 1 else if s.tandem.join = .joining then s.tandem.joinFrame - 4 else s.lastNumber)
  else s.frame.lastFrame

/-- A boundary at b is placed, and numbered where it carries a frame. -/
def placeBoundary (b : Nat) (numbered : Bool) (s : State) : State :=
  let n := s.nextFrame
  let f := s.frame.placed s.frame.sens1 s.byRate b
  let s1 := passMeter b s
  { s1 with
    tandem := { s1.tandem with guessed := s.tandem.onTsync && !numbered && s.tandem.leaderReads }
    frame := { f with index := f.index + 1, lastFrame := if numbered then n else s.idleNumber, leaderNext := none,
                              windows := 0, linkLost := false, trigTime := ((f.trigLate.filter fun t => decide (t < b)).getLast?).getD f.trigTime,
                              trigLate := f.trigLate.filter fun t => decide (b ≤ t) } }

/-- The settings latched ahead move one frame on (R141), and the tile temperatures latch for the next frame (R46). -/
def shiftSettings (s : State) : State :=
  let f := s.frame
  { s with frame := { f with sens0 := f.sens1, sens1 := f.sens2, rotK0 := f.rotK1,
                             temps1 := substituted s.sensor.temps s.sensor.faulty, subst1 := s.sensor.faulty } }

/-- Turns end and slices retire at the boundary of a frame (R68, R70): `old` is the settings of the frame before. A retirement that falls due in
READY waits for the boundary of a frame (DESIGN CHOICE, log entry 67: R70 and R72 name the next frame boundary, and idle boundaries begin no frame). -/
def turnSlices (old : SensorSet) (n : Nat) (s : State) : State := turnTo (decide (old.bin = 2)) (rotation n s.frame.rotK0) s
/-! ## The switch and the vote -/

/-- The change whose epoch is this boundary. -/
def State.dueChange (s : State) : Option Change := s.mode.change.filter fun c => c.committed && decide (c.epoch = s.frame.index)

/-- The entry to READY at an epoch: the calibration words load, the slices calibrate, and presence is checked. A tile that fails its check value
twice ends the entry: the module stays in the mode it left (R41, R42, R74; that all of it stands at the boundary is a DESIGN CHOICE, log entry
68). The boundary takes no number, and E is the number that its frame would have had. -/
def enterReadyAt (c : Change) (around : Surroundings) (s : State) : State :=
  match loadWords around.tilesOnce around.tilesTwice s with
  | (t, false) => afterFailure c 0x0310 (failChange c 0x0310 t)
  | (t, true) => isolate around.drops t (readyEntry around (completeChange c (s.frame.lastFrame + 1) (switchUnits c s.frame.lastFrame t)))

/-- A mode that a disagreement forces is READY: the words load, and the slices calibrate (R139). -/
def forcedReady (old : Mode) (around : Surroundings) (s : State) : State :=
  if old ≠ .ready ∧ s.mode.mode = .ready then readyEntry around (loadWords around.tilesOnce around.tilesTwice s).1 else s

/-- The change due switches, and the vote settles it (R136, R139). -/
def switchAndVote (o : BoundaryObs) (s : State) : State :=
  let old := s.mode.mode
  let n := s.frame.lastFrame
  match s.dueChange with
  | some c =>
    if o.disagree then disagreement old s.mode.burst n (switchUnits c n s)
    else if c.goal = .ready then enterReadyAt c o.entry s
    else completeChange c n (switchUnits c n s)
  | none => if o.disagree then disagreement old s.mode.burst n s else s
/-! ## What governs the frame -/

/-- TIMECODE, TC_COUNT and TC_SOURCE at a boundary; the boundary then counts in its timecode frame (R316). -/
def countBoundary (s : State) : State :=
  let t := s.sync.tc
  if t.tcSource = 0 then s else s.setTc { t with count := t.count + 1 }

/-- What governs frame n at b, without its take fields. `oldB` is the boundary of the frame before, `applied` the program whose windows ran, and
`temps` and `subst` were latched at that boundary. -/
def governing (n b oldB : Nat) (applied : List ProgEntry) (temps : List Int) (subst : List Bool) (holdover slipped : Bool) (s : State) : FrameGov :=
  let f := s.frame
  let t := s.sync.tc
  let set := s.calSet
  { n := n, boundary := b, period := b - oldB, sensor := f.sens0, applied := applied,
    expected := look f.disagree n, rho := rotation n f.rotK0, rotK := f.rotK0, temps := temps, subst := subst, cond := f.cond,
    recs := f.recs, ledgerSeq := s.ledger.govSeq, ledgerTarget := s.ledger.govTarget, slipped := slipped, mode := s.mode.mode,
    timing := f.sens0.timingCode, holdover := holdover, trigDelay := (f.flying.map (·.delay)).getD 0, trigTime := f.trigTime,
    follower := s.tandem.onTsync, timecode := if t.tcSource = 0 then 0 else t.word, tcCount := if t.tcSource = 0 then 0 else t.count,
    tcSource := t.tcSource, take := ⟨0, 0, 0, false, false, false⟩, reasons := if 0 < s.mode.voidRun then [4] else [],
    retireGen := s.conv.retireGen, calSetId := set.setId, calCheck := set.check, tCal := set.tCal }

/-! ## Recording (R12, R146 to R148, R167) -/

/-- Whether frame n is a frame of the take: in TAKE and in the capture phase, and as a void frame after a disagreement (R139). -/
def State.takes (s : State) (n : Nat) : Bool :=
  ((s.mode.mode.records && !((s.mode.burst.map (·.drain)).getD false)) || decide (0 < s.mode.voidRun)) && s.take.isRunning
    && match s.take.last with
      | some l => decide (n ≤ l)
      | none => true

/-- Whether frame n is recorded as pre-roll. -/
def State.prerolls (s : State) : Bool := decide (s.mode.mode = .view) && s.prerollRuns

/-- The take fields of a pre-roll frame: those of the take once it has taken the window in, else none (R147). -/
def State.prerollTag (s : State) (n : Nat) : TakeTag :=
  if s.take.isRunning && decide (0 < s.take.first) && decide (s.take.first ≤ n) then s.take.tagOf n true
  else ⟨0, 0, 0, false, false, true⟩

/-- Whether frame n ends the take by its index, its count, or the space left (R118, R148). -/
def State.endsTake (s : State) (n pages : Nat) : Bool :=
  let i := n - s.take.first
  decide (i = 0xFFFFFFFF) || match s.mode.burst with
    | some b => (decide (0 < b.count) && decide (b.count ≤ i + 1)) || !(s.res.hasSlot pages)
    | none => false

/-- Frame n carries LAST. -/
def carryLast (n code : Nat) (s : State) : State :=
  let s1 := { s with take := s.take.lastAt n }
  if code = 0 then s1 else logFrame code srcFormatter n 0 s1

/-- The slot of a frame of the take (R167), with the void reasons that follow from it. A frame of the capture phase that finds none ends the phase
with the frame before, whose header takes LAST though it may have closed (DESIGN CHOICE, log entry 70: R148 ends the phase before this happens
unless the records grow). -/
def takeSlot (g : FrameGov) (s : State) : Bool × List Nat × State :=
  let pages := g.geometry.recordPages
  if !s.res.present then (false, [2], logFrame 0x0401 srcFormatter g.n 2 s)
  else if s.res.hasSlot pages then
    let s1 := { s with res := s.res.reserve g.n pages false false g.reasons }
    (true, [], if s1.endsTake g.n pages then carryLast g.n (if g.n - s.take.first = 0xFFFFFFFF then 0x0410 else 0) s1 else s1)
  else if s.mode.mode = .burst then (false, [], markLast (g.n - 1) true { s with take := s.take.lastAt (g.n - 1) })
  else
    let s1 := { s with res := s.res.reserve g.n 2 true false (g.reasons ++ [1]) }
    let s2 := if s1.endsTake g.n pages then carryLast g.n 0x0410 s1 else s1
    (true, [1], if s2.res.reserveHolds then s2 else carryLast g.n 0x0403 s2)

/-- The record of a frame takes its places, and the frame its take fields: what governs it, whether the reservoir was full, and the state. -/
def placeRecord (g : FrameGov) (s : State) : FrameGov × Bool × State :=
  if s.takes g.n then
    let (slot, why, s1) := takeSlot g s
    let g1 := { g with take := s1.take.tagOf g.n false, reasons := g.reasons ++ why }
    let s2 := { s1 with take := { s1.take with nextIndex := g.n + 1 - s1.take.first } }
    if slot then (g1, decide (1 ∈ why), ringOpen g1 (if 1 ∈ why then 2 else g.geometry.recordPages) s2)
    else (if why = [] then g else g1, false, s2)
  else if s.prerolls && s.res.hasSlot g.geometry.recordPages && s.res.prerollRoom (s.res.slotPages g.geometry.recordPages) then
    let g1 := { g with take := s.prerollTag g.n }
    (g1, false, ringOpen g1 g.geometry.recordPages { s with res := s.res.reserve g.n g.geometry.recordPages false true g.reasons })
  else (g, false, s)

/-- At the latest the take takes its pre-roll in at B_E (R147). -/
def latePreroll (b : Nat) (s : State) : State :=
  if s.take.isRunning && decide (s.take.first = 0) && s.mode.mode.records then chooseAgainst b s.frame.lastFrame s else s

/-- Pre-roll that leaves the window at a boundary goes (R146, R169): between COMMIT and a B_E that is not known none does. -/
def trimPreroll (b need : Nat) (s : State) : State :=
  if s.take.isRunning && decide (s.take.first = 0) then s
  else if s.prerolls then { s with res := s.res.trimPreroll b need }
  else if s.mode.mode = .view || s.mode.mode.records then { s with res := s.res.dropPreroll } else s

/-! ## Viewing rings at a boundary (R244) -/

/-- A ring at a boundary: a STREAM_STOP that waits takes effect, and a started ring runs while pictures are delivered, from the frame
that begins, n, on. -/
def ViewRing.atBoundary (r : ViewRing) (delivers : Bool) (n : Nat) : ViewRing :=
  if r.change = some false then { r with state := .stopped, reason := 1, change := none, timeoutRun := 0 }
  else if r.state = .stopped then { r with change := none }
  else if delivers then
    { r with state := .running, change := none, taken := if r.state = .running then r.taken else n - 1 }
  else { r with state := .armed, change := none }

/-- All rings at a boundary. -/
def viewBoundary (s : State) : State :=
  { s with view := { s.view with rings := s.view.rings.map fun r => r.atBoundary s.reads s.frame.lastFrame } }

/-! ## The whole boundary -/

/-- The metadata that B_N finds (Table 5-5). -/
def State.early (s : State) : EarlySamples :=
  let p0 := s.aux.in0.passReading
  let p1 := s.aux.in1.passReading
  ⟨s.bus.lens, p0.map (·.1), p1.map (·.1), max ((p0.map (·.2)).getD 0) ((p1.map (·.2)).getD 0)⟩

/-- Frame n begins: its slots, its readout, and the follower's FRAME_BEGIN, from frame J on. -/
def beginFrame (g : FrameGov) (s : State) : State :=
  let s1 := trimPreroll g.boundary (s.res.slotPages g.geometry.recordPages) (latePreroll g.boundary s)
  let (g1, full, s2) := placeRecord g s1
  let d : FrameData := ⟨[], s2.sensor.words, s2.conv.corr, s2.calSet.tileTrim, [], s2.mono⟩
  let s3 := { s2 with frame := { s2.frame with gov := some g1, readout := some ⟨g1, d, 0, [], List.replicate 16 0, none, s2.early, false⟩ },
                      mode := { s2.mode with voidRun := s2.mode.voidRun - 1 } }
  let s4 := judgeLevel full s3
  if g1.follower && s4.streams then sendFrameBegin g1 s4 else s4

/-- What follows a boundary: a take or a capture that has its last frame, the tandem link, and what Welt may now write. -/
def afterBoundary (b : Nat) (numbered : Bool) (s : State) : State :=
  let s1 := leaveHoldover (followerBoundary (leaderBoundary b numbered (leaveCapture (leaveTake s))))
  choosePreroll (noteBoth (greet (fixMeter b (selectSource (trigOut 1 s1.frame.sens0.trigger { s1 with hold := { s1.hold with busy := false } })))))

/-- A boundary at b. -/
def boundaryAt (b : Nat) (numbered : Bool) (o : BoundaryObs) (s : State) : State :=
  let holdover := placedInHoldover s
  let old := s.frame.sens0
  let oldB := s.frame.from.toNat
  let applied := s.program
  let temps := s.frame.temps1
  let subst := s.frame.subst1
  let s1 := shiftSettings (placeBoundary b numbered (reach b (endReadout s)))
  let s2 := if numbered then turnSlices old s1.frame.lastFrame s1 else s1
  let s3 := switchAndVote o (commitDeadline (forcedReady s2.mode.mode o.entry (forceMode s2)))
  let s4 := compositorBoundary (tcBoundary b s3)
  let v := s4.number s4.frame.index
  let slipped := numbered && s4.ledger.slipsAt s4.frame.lastFrame
  let s5 := latchDue v s4
  let s6 := viewBoundary s5
  let s7 := if numbered then beginFrame (governing s6.frame.lastFrame b oldB applied temps subst holdover slipped s6) s6 else s6
  afterBoundary b numbered (nextTrigger (countBoundary s7))

/-- Whether the frame timing engine runs: PD76 is on, and the mode has boundaries. -/
def State.engineRuns (s : State) : Bool := s.pdOn 76 && (s.reads || decide (s.mode.mode = .ready)) && s.power.retire.isNone

/-- A boundary takes place where one is due that carries a frame number, or none. -/
def boundary (numbered : Bool) (o : BoundaryObs) (s : State) : State :=
  match nextBoundary s with
  | none => s
  | some b => if s.engineRuns && (s.nextNumbered == numbered) then boundaryAt b numbered o s else s

/-- FRAME_BOUNDARY (R78). -/
def execFrameBoundary (o : BoundaryObs) (s : State) : Host.Outcome State Fault Refusal := .next (boundary true o s)

/-- IDLE_BOUNDARY (R131). -/
def execIdleBoundary (o : BoundaryObs) (s : State) : Host.Outcome State Fault Refusal := .next (boundary false o s)

end Sys2Proof.Machine
end

