-- ==== Sys2Proof/Machine/Readout.lean ====
section
/-! DEFINITION. Exposure windows, self-resets, row-pair periods, triggers and gates (chapters 2 to 4), and the end of a readout. -/

namespace Sys2Proof.Machine

/-! ## Exposure (R24, R31 to R34, R96) -/

/-- Changes every photosite. -/
def SensorUnit.mapSites (u : SensorUnit) (f : Site → Site) : SensorUnit :=
  { u with sites := (u.sites.map fun p => (p.1, f p.2)).filter fun p => decide (p.2 ≠ clearSite) }

/-- The window of the program that opens next, with its boundary: only where that boundary carries a frame. -/
def State.dueWindow (s : State) : Option (ProgEntry × Nat) :=
  if s.pdOn 76 && s.frame.window.isNone && s.nextNumbered then
    match s.program[s.frame.windows]?, expectedBoundary s with
    | some e, some b => some (e, b)
    | _, _ => none
  else none

/-- Whether no window of the frame has ended into a node yet. -/
def State.firstInto (s : State) (n : Node) : Bool := (s.program.take s.frame.windows).all fun e => decide (e.node ≠ n)

/-- A window opens (R31): every photosite clears its photodiode, its tally and its latches. After a gate cut it opens no earlier than the
cleared nodes are ready (R95). -/
def startWindow (s : State) : State :=
  match s.dueWindow with
  | none => s
  | some (e, b) =>
    let opens := max (b - e.startBefore) s.frame.clearReady
    let s1 := reach opens s
    let f := s1.frame
    let t := f.sens1.trigger
    let pulse := (opens + outputLag - t.advance, b - e.endBefore + outputLag - t.advance)
    let s2 := { s1 with sensor := s1.sensor.mapSites Site.fresh,
                        frame := { f with window := some ⟨e.node, b - e.endBefore, s1.firstInto e.node⟩, windows := f.windows + 1,
                                          applied := s.program, strobe := addStrobe pulse f.strobe } }
    if f.windows = 0 then trigOut 2 t s2 else s2

/-- EXPOSURE_WINDOW_START. -/
def execExposureWindowStart (s : State) : Host.Outcome State Fault Refusal := .next (startWindow s)

/-- SR_THRESHOLD of the frame that the open window belongs to. -/
def State.threshold (s : State) (w : OpenWindow) : Nat :=
  if (w.endAt : Int) ≤ s.frame.lastB.getD 0 then s.frame.sens0.srThreshold else s.frame.sens1.srThreshold

/-- The reset step of a photosite. -/
def State.stepAt (s : State) (code x y : Nat) : Nat := stepCharge code (s.sensor.words.at s.mono x y)

/-- One photosite transfers into a node, with its folds. -/
def transferSite (n : Node) (code : Nat) (c : SiteCharge) (s : State) : State :=
  let p := (s.sensor.site c.x c.y).transfer n code c.charge c.folds (s.stepAt code c.x c.y) s.free
  { s with sensor := s.sensor.setSite c.x c.y p, free := s.free + 2 }

/-- What a photosite that the command does not list transfers: the charge that it holds. -/
def heldCharge (p : (Nat × Nat) × Site) : SiteCharge := ⟨p.1.1, p.1.2, p.2.well, 0⟩

/-- Whether nodes still hold charge that the readout in progress is to read: no window ends then (R35). -/
def State.unread (s : State) : Bool := s.frame.readout.any fun r => decide (r.done < r.limit)

/-- A window ends (R32 to R34): every photosite moves its residual and its tally into the node. A node sums the windows of one frame only
(R33): what rows outside the window or an abandoned exposure left in it is gone at the frame's first window into it (DEDUCED from R33 and R35, log entry 67). -/
def endWindow (sites : List SiteCharge) (s : State) : State :=
  match s.frame.window with
  | none => s
  | some w =>
    if s.unread then s else
    let s0 := reach w.endAt s
    let s1 := if w.first then { s0 with sensor := s0.sensor.mapSites fun p => p.cleared w.node } else s0
    let code := s1.threshold w
    let named (p : (Nat × Nat) × Site) : Bool := sites.any fun c => decide ((c.x, c.y) = p.1)
    let rest := (s1.sensor.sites.filter fun p => !(named p)).map heldCharge
    let s2 := each (sites ++ rest) (transferSite w.node code) s1
    { s2 with frame := { s2.frame with window := none } }

/-- EXPOSURE_WINDOW_END. -/
def execExposureWindowEnd (sites : List SiteCharge) (s : State) : Host.Outcome State Fault Refusal :=
  match sites.find? fun c => !(readable c.x c.y) with
  | some c => .fault (.noSuchSite c.x c.y)
  | none => .next (endWindow sites s)

/-- A self-reset of one photosite (R24, R28, R29), while a window is open. -/
def resetSite (x y well : Nat) (still : Bool) (s : State) : State :=
  match s.frame.window with
  | none => s
  | some w =>
    let p := (s.sensor.site x y).selfReset well (s.stepAt (s.threshold w) x y) s.free still
    { s.drew with sensor := s.sensor.setSite x y p }

/-- SELF_RESET. -/
def execSelfReset (x y well : Nat) (still : Bool) (s : State) : Host.Outcome State Fault Refusal :=
  if readable x y then .next (resetSite x y well still s) else .fault (.noSuchSite x y)

/-! ## The stack link (R448) -/

/-- Whether frames are captured for a take: TAKE, or the capture phase of BURST. -/
def State.capturing (s : State) : Bool :=
  decide (s.mode.mode = .take) || (decide (s.mode.mode = .burst) && !((s.mode.burst.map (·.drain)).getD false))

/-- The stack link is lost: fatal during a take; else it retrains at the next boundary, with event 0x0344. -/
def loseStackLink (s : State) : State :=
  let s1 := { s with frame := { s.frame with linkLost := true, linkRunT := 0, linkRunB := 0 } }
  if s.capturing then fatalCause 0x0343 (srcLane 0) 0 false s1 else logEvent 0x0344 (srcLane 0) 0 s1

/-- STACK_LINK_LOSS: a lane loses block lock for more than 1 µs. -/
def execStackLinkLoss (s : State) : Host.Outcome State Fault Refusal :=
  .next (if s.pdOn 32 && !s.frame.linkLost then loseStackLink s else s)

/-- Rows of a bank that failed in a row, after one more row. -/
def countRow (b : Bank) (ok : Bool) (f : FrameUnit) : FrameUnit := match b with
  | .top => { f with linkRunT := if ok then 0 else f.linkRunT + 1 }
  | .bottom => { f with linkRunB := if ok then 0 else f.linkRunB + 1 }

/-- The check word of a row: a failure gives event 0x0342, and sixteen in a row of one bank lose the link. -/
def checkRow (r : RowRead) (n : Nat) (s : State) : State :=
  let s1 := { s with frame := countRow r.bank r.linkOk s.frame }
  let s2 := if r.linkOk then s1 else logFrame 0x0342 (srcLane (4 * bankNum r.bank)) n r.y s1
  if 16 ≤ s2.frame.linkRunT ∨ 16 ≤ s2.frame.linkRunB then
    (if s2.frame.linkLost then s2 else loseStackLink s2) else s2

/-! ## Row-pair periods (R57, R84, R85) -/

/-- Upset bits in calibration words. -/
def upsetWord (mono : Bool) (m : WordMap) (u : Nat × Nat × Nat) : WordMap :=
  { m with except := put m.except (u.1, u.2.1) (m.at mono u.1 u.2.1 ^^^ (1 <<< u.2.2)) }

/-- The exceptional words of some rows. -/
def WordMap.inRows (m : WordMap) (rows : List Nat) : List ((Nat × Nat) × BitVec 48) := m.except.filter fun p => decide (p.1.2 ∈ rows)

/-- The latch of a photosite's node, where it is not clear. -/
def latchOf (n : Node) (y : Nat) (p : (Nat × Nat) × Site) : Option LatchRead :=
  let v := p.2.node n
  if v.tally = 0 ∧ v.sat = false ∧ v.run = false then none
  else some ⟨p.1.1, if p.1.2 = y then 0 else 1, v.tally, v.sat, v.run⟩

/-- What a bank reads in period p. -/
def readRow (b : Bank) (p : Nat) (codes : Sparse) (ok : Bool) (r : Readout) (s : State) : RowRead :=
  let x := r.gov.sensor
  let (y, n) := x.readAt r.data.mono b p
  let rows := x.rowsOf r.data.mono y
  { bank := b, y := y, node := n, codes := codes,
    latches := (s.sensor.sites.filter fun q => decide (q.1.2 ∈ rows)).filterMap (latchOf n y),
    words := (s.sensor.words.inRows rows).filter fun q => decide (r.data.words.at r.data.mono q.1.1 q.1.2 ≠ q.2),
    linkOk := ok && !s.frame.linkLost }

/-- The node of some rows is cleared (R35). -/
def SensorUnit.clearRows (u : SensorUnit) (rows : List Nat) (n : Node) : SensorUnit :=
  { u with sites := (u.sites.map fun p => (p.1, if p.1.2 ∈ rows then p.2.cleared n else p.2)).filter fun p => decide (p.2 ≠ clearSite) }

/-- Sites whose word fails parity in a row, and that the frame has not met before (R44). -/
def newParity (rows : List Nat) (d : FrameData) (m : WordMap) : List (Nat × Nat) :=
  ((m.inRows rows).filter fun q => !(oddOnes q.2) && !(d.parity.any fun p => decide (p.1 = q.1))).map (·.1)

/-- Event 0x0311 with the site's coordinates. -/
def noteParity (n : Nat) (q : Nat × Nat) (s : State) : State := logFrame 0x0311 (srcTile (tileOf q.1 q.2)) n (q.1 + 65536 * q.2) s

/-- Counts of codes of 18,431, for the eight segments of a bank (R66): of column codes, not of the reference conversions of the slices out of
service (DESIGN CHOICE, log entry 67). -/
def addOver (m : CorrMap) (rho : Nat) (b : Bank) (codes : Sparse) (l : List Nat) : List Nat :=
  l.mapIdx fun i v => if i / 8 = bankNum b then bump32 v (overRange codes (m.unserved rho b (i % 8)) (i % 8)) else v

/-- The readout with one more row. -/
def Readout.addRow (r : Readout) (row : RowRead) (bad : List (Nat × Nat)) : Readout :=
  { r with data := { r.data with rows := r.data.rows ++ [row], parity := r.data.parity ++ bad.map fun q => (q, r.done) },
           ovr := addOver r.data.corr r.gov.rho row.bank row.codes r.ovr }

/-- One bank's row of period p (R57): codes, latches and words are read, the node is cleared, and the slices on optical black are tested. -/
def bankPeriod (b : Bank) (codes : Sparse) (ok : Bool) (s : State) : State :=
  match s.frame.readout with
  | none => s
  | some r =>
    let row := readRow b r.done codes ok r s
    let rows := r.gov.sensor.rowsOf r.data.mono row.y
    let bad := newParity rows r.data s.sensor.words
    let v := { s.conv with ovr := addOver s.conv.corr r.gov.rho b codes s.conv.ovr }
    let s1 := { s with sensor := s.sensor.clearRows rows row.node, conv := if blackRow row.y then deadTest b r.gov.rho codes v else v,
                       frame := { s.frame with readout := some (r.addRow row bad) } }
    checkRow row r.gov.n (each bad (noteParity r.gov.n) s1)

/-- The reference codes of a period: sixteen periods make a pass, and sixteen passes a span are kept (R67). -/
def addPass (isDouble : Bool) (c : RefCodes) (r : Readout) (v : ConvUnit) : Readout × ConvUnit :=
  let p := r.pass ++ [c]
  if p.length < 16 then ({ r with pass := p }, v)
  else
    ({ r with pass := [] },
     if isDouble then { v with double := (p :: v.double).take 16 } else { v with single := (p :: v.single).take 16 })

/-- While a memory link retrains, the port's 32 MiB queue takes the share of a record that a row-pair period forms; a record that finds the
queue full is void, reason 2 (Table 7-7). -/
def queueStream (g : FrameGov) (s : State) : State :=
  if s.res.retrain && (s.res.entryOf g.n).isSome then
    let q := s.res.queued + g.sensor.recordBytes / max 1 g.sensor.pairs
    let r := { s.res with queued := q }
    { s with res := if q ≤ 2 ^ 25 then r else r.modify g.n fun e => if 2 ∈ e.reasons then e else { e with reasons := e.reasons ++ [2] } }
  else s

/-- The last row-pair period before a gate cut has ended: every storage node is cleared, with event 0x0334, and is ready 2.0 µs later (R95). -/
def endCut (s : State) : State :=
  match s.frame.readout with
  | none => s
  | some r =>
    if r.stopAt.isSome ∧ r.limit ≤ r.done then
      logFrame 0x0334 srcEngine r.gov.n 0
        { s with sensor := s.sensor.mapSites fun p => (p.cleared .a).cleared .b, frame := { s.frame with clearReady := s.time.module + 200 } }
    else s

/-- One row-pair period (R57). -/
def rowPair (d : PeriodData) (s : State) : State :=
  match s.frame.readout with
  | none => s
  | some r0 =>
    if r0.limit ≤ r0.done then s
    else
      let s0 := { s with sensor := { s.sensor with words := d.upsets.foldl (upsetWord r0.data.mono) s.sensor.words } }
      let s1 := bankPeriod .bottom d.codesBottom d.linkOkBottom (bankPeriod .top d.codesTop d.linkOkTop s0)
      match s1.frame.readout with
      | none => s1
      | some r =>
        let (r1, v) := addPass (decide (r.gov.sensor.bin = 2)) ⟨d.refCommon, d.refExcept⟩ r s1.conv
        endCut (reach (r.gov.boundary + 16640 + 176 * (r.done + 1)) (queueStream r.gov
          { s1 with conv := v, frame := { s1.frame with readout := some { r1 with done := r.done + 1, sealError := r.sealError || d.sealError } } }))

/-- ROW_PAIR_PERIOD. -/
def execRowPairPeriod (d : PeriodData) (s : State) : Host.Outcome State Fault Refusal := .next (rowPair d s)

/-- The keeper core writes a word again from the copy in force (R44). -/
def restoreWord (x y : Nat) (s : State) : State :=
  let w := s.calSet.words
  let m := s.sensor.words
  { s with sensor := { s.sensor with words :=
      { m with except := match look w.except (x, y) with
        | some v => put m.except (x, y) v
        | none => if w.common = m.common then del m.except (x, y) else put m.except (x, y) (placeWord s.mono w.common x y) } } }

/-- CAL_WORD_RESTORE. -/
def execCalWordRestore (x y : Nat) (s : State) : Host.Outcome State Fault Refusal :=
  if readable x y then .next (if s.pdOn (8 + tileOf x y) && s.cal.inForce.isSome then restoreWord x y s else s)
  else .fault (.noSuchSite x y)

/-- RECORD_CLOSE: after the last row-pair period, or after a cut, the record closes (R98, R175). -/
def recordClose (s : State) : State :=
  match s.frame.readout with
  | none => s
  | some r =>
    if r.gov.sensor.pairs ≤ r.done then endReadout (reach (r.gov.boundary + r.gov.sensor.tMin + 80) s)
    else if r.limit ≤ r.done then endReadout s
    else s

/-- RECORD_CLOSE. A retire that waited for it goes on (Table 7-10). -/
def execRecordClose (s : State) : Host.Outcome State Fault Refusal := .next (finishRetire (recordClose s))

/-! ## Calibration of the slices in READY (R74) -/

/-- READY_SLICE_CALIBRATION: every 10 s in READY (R74). -/
def execReadySliceCalibration (sums : CalSums) (s : State) : Host.Outcome State Fault Refusal :=
  .next (if s.mode.mode = .ready then calibrateSlices true sums (reachNow (s.conv.lastCal + 10 * Config.ticksPerSecond) s) else s)

/-! ## Triggers and gates (R93 to R95, R97) -/

/-- An accepted trigger becomes the trigger in flight, or waits behind one; TRIG_OUT in mode 3, under the settings of the frame to come (DESIGN
CHOICE, log entry 69: R97 does not say which frame's settings a trigger's pulse takes). -/
def acceptTrigger (te : Nat) (s : State) : State :=
  trigOut 3 s.frame.sens1.trigger
    (if s.frame.flying.isNone then scheduleTrigger te s else { s with frame := { s.frame with pending := some te } })

/-- An edge in TRIGGERED operation (R94). -/
def triggerEdge (te : Nat) (s : State) : State :=
  let f := s.frame
  if f.flying.isNone ∨ f.pending.isNone then acceptTrigger te s
  else logEvent 0x0331 srcEngine (bump32 f.overrun 1) { s with frame := { f with overrun := bump32 f.overrun 1 } }

/-- Whether the engine heeds triggers: it reads out, and no leader places its boundaries (R92). -/
def State.heedsTriggers (s : State) : Bool := s.reads && !s.frame.halted && s.power.retire.isNone && !s.tandem.follows

/-- An edge is stamped: before the boundary still to come, or at or after it (R94). -/
def FrameUnit.stamp (f : FrameUnit) (te : Nat) (next : Option Nat) : FrameUnit :=
  if next.any fun b => decide (b ≤ te) then { f with trigLate := f.trigLate ++ [te] } else { f with trigTime := te }

/-- A qualified active edge of TRIG_IN. A gate that reopens while a boundary of the gate before is still due waits behind it (R95). A follower ignores its own TRIG_IN while the tandem link is up (R92). -/
def trigEdge (s : State) : State :=
  let s1 := { s with pins := { s.pins with trigIn := true } }
  if !(s.pdOn 76) || s.tandem.follows then s1
  else
    let te := s.time.module
    let s2 := { s1 with frame := s1.frame.stamp te (nextBoundary s) }
    if !s2.heedsTriggers then s2
    else match s2.frame.sens1.trigger.mode with
      | .free => s2
      | .triggered => triggerEdge te s2
      | .gated => if s2.frame.gateOpen then s2 else acceptTrigger te { s2 with frame := { s2.frame with gateOpen := true } }

/-- TRIG_IN_EDGE. -/
def execTrigInEdge (s : State) : Host.Outcome State Fault Refusal := .next (trigEdge s)

/-- Row-pair periods of a readout that have begun by a moment, the one in progress counted. -/
def Readout.begun (r : Readout) (t : Nat) : Nat :=
  if t < r.gov.boundary + 16640 then 0 else (t - (r.gov.boundary + 16640)) / 176 + 1

/-- A gate cut (R95): the readout stops after the row-pair period in progress, and the nodes are cleared then. -/
def cutReadout (s : State) : State :=
  match s.frame.readout with
  | none => s
  | some r =>
    if r.limit ≤ r.done then s
    else endCut { s with frame := { s.frame with readout := some { r with stopAt := some (max r.done (r.begun s.time.module)) } } }

/-- The exposure in progress is abandoned: the overflow gates drain the photodiodes. -/
def abandonExposure (s : State) : State :=
  { s with sensor := s.sensor.mapSites Site.fresh,
           frame := { s.frame with window := none, windows := 0, strobe := s.frame.strobeEnds s.time.module, flying := none, pending := none } }

/-- The gate closes at t_g (R95): a boundary at or before t_g + 20 ticks occurs, and no later one. GATE_STOP is that of the frame in readout
(DESIGN CHOICE, log entry 69: R95 does not say which frame's setting decides). -/
def closeGate (s : State) : State :=
  let tg := s.time.module
  let near := (nextBoundary s).filter fun b => decide (b ≤ tg + 20)
  let s1 := { s with frame := { s.frame with gateOpen := false } }
  let s2 := match near, s1.frame.flying with
    | none, _ => abandonExposure s1
    | some _, some _ => s1
    | some b, none => { s1 with frame := { s1.frame with flying := some ⟨tg, b, 0⟩ } }
  if s2.frame.sens0.trigger.cut then cutReadout s2 else s2

/-- GATE_CLOSE: the inactive edge of TRIG_IN. -/
def execGateClose (s : State) : Host.Outcome State Fault Refusal :=
  let s1 := { s with pins := { s.pins with trigIn := false } }
  .next (if s.pdOn 76 && s.frame.gateOpen && decide (s.frame.sens1.trigger.mode = .gated) && s.heedsTriggers then closeGate s1 else s1)

/-! ## The pre-roll in TRIGGERED and GATED operation (R147) -/

/-- The rewrite of the pre-roll headers ends: Welt may write TAKE_BEGIN and the first record. -/
def rewriteDone (s : State) : State :=
  if s.take.rewriting && decide (0 < s.take.first) then noteBoth (greet { s with take := { s.take with rewriting := false } }) else s

/-- PREROLL_REWRITE_DONE. -/
def execPrerollRewriteDone (s : State) : Host.Outcome State Fault Refusal := .next (rewriteDone s)

end Sys2Proof.Machine
end

