-- ==== Sys2Proof/Machine/Posts.lean ====
section
/-! DEFINITION. The commands that change frame settings (R140 to R144, R278): LEDGER_POST and the commands that carry one setting, with
LEDGER_QUERY and LEDGER_CANCEL. -/

namespace Sys2Proof.Machine

/-! ## Checks of a setting -/

/-- What a 2.x channel admits of a setting (R270, R271). -/
def versionAllows (ver : Nat × Nat) (x : Setting) : Bool :=
  if ver.1 = 2 then
    match x with
    | .program p => !(programOf p).twin
    | .ring r => decide (1 ≤ ver.2) || decide (r.lut3d = 0xFF)
    | _ => true
  else true

/-- The binning that governs the frame which a post for a target would reach. -/
def targetBin (l : List Setting) (target : Nat) (s : State) : Nat :=
  if s.ledgerRuns then (applySensor l (s.sensorAt (if target = 0 then s.earliest else max target s.earliest))).bin
  else (applySensor l s.settings.sensor).bin

/-- Whether the settings of a request lie in their ranges (check 10). -/
def settingsOk (r : Req) (l : List Setting) (s : State) : Bool :=
  l.all fun x => !(profileOnly x) && versionAllows (s.mbox.get r.chan).version x
    && inRange x s.tandem.compMode (targetBin l r.target.toNat s)

/-- A command that carries one setting in a payload of n bytes. -/
def settingCommand (o : Opcode) (r : Req) (x : Setting) (n : Nat) (p : Bool) (s : State) : State :=
  command o r (fun t => ⟨decide (r.len = n), sound r (p && settingsOk r [x] t), true, []⟩) (postCommand [x] r.target.toNat) s

/-- WINDOW_SET (R82). -/
def execWindowSet (r : Req) (x0 w h : U16) (s : State) : Host.Outcome State Fault Refusal :=
  .next (settingCommand .windowSet r (.window x0 w h) 8 true s)

/-- EXPOSURE_PROGRAM_SET (R88). -/
def execExposureProgramSet (r : Req) (p : RawProgram) (s : State) : Host.Outcome State Fault Refusal :=
  .next (command .exposureProgramSet r
    (fun t => ⟨decide (r.len = 8 + 8 * p.entries.length ∧ 16 ≤ r.len ∧ r.len ≤ 72), sound r (settingsOk r [.program p] t), true, []⟩)
    (postCommand [.program p] r.target.toNat) s)

/-- TRIGGER_SET (R81). -/
def execTriggerSet (r : Req) (t : RawTrigger) (s : State) : Host.Outcome State Fault Refusal :=
  .next (settingCommand .triggerSet r (.trigger t) 16 true s)

/-- BINNING_SET (R36). -/
def execBinningSet (r : Req) (v : Byte) (s : State) : Host.Outcome State Fault Refusal :=
  .next (settingCommand .binningSet r (.binning v) 4 true s)

/-- ROTATION_SET (R54). -/
def execRotationSet (r : Req) (v : Byte) (s : State) : Host.Outcome State Fault Refusal :=
  .next (settingCommand .rotationSet r (.rotK v) 4 true s)

/-- SYNC_SOURCE_SET (R91). -/
def execSyncSourceSet (r : Req) (v : RawSync) (s : State) : Host.Outcome State Fault Refusal :=
  .next (settingCommand .syncSourceSet r (.sync v) 8 true s)

/-- TAP_CONFIG (R239): a ring of the body taps. -/
def execTapConfig (r : Req) (ring : RawRing) (s : State) : Host.Outcome State Fault Refusal :=
  .next (settingCommand .tapConfig r (.ring ring) 44 (decide (ring.ring.toNat ≤ 2)) s)

/-- STREAM_CONFIG (R239): a ring of the crew streams. -/
def execStreamConfig (r : Req) (ring : RawRing) (s : State) : Host.Outcome State Fault Refusal :=
  .next (settingCommand .streamConfig r (.ring ring) 44 (decide (0x10 ≤ ring.ring.toNat)) s)

/-- LEDGER_POST (R142, R278). -/
def execLedgerPost (r : Req) (count : U16) (items : List Item) (s : State) : Host.Outcome State Fault Refusal :=
  let l := items.map (·.value)
  .next (command .ledgerPost r
    (fun t => ⟨decide (r.len = 4 + itemsLen items) && items.all (fun i => lenFits i.value i.len.toNat),
      sound r (decide (1 ≤ count.toNat ∧ count.toNat ≤ 64) && decide (items.length = count.toNat) && itemsDistinct items && settingsOk r l t),
      true, []⟩)
    (postCommand l r.target.toNat) s)

/-! ## LEDGER_QUERY and LEDGER_CANCEL -/

/-- Insertion by sequence number. -/
def insertBySeq (e : LedgerEntry) : List LedgerEntry → List LedgerEntry
  | [] => [e]
  | x :: xs => if e.seq < x.seq then e :: x :: xs else x :: insertBySeq e xs

/-- The entries that LEDGER_QUERY names: all waiting ones, or one. -/
def Ledger.named (l : Ledger) (seq : Nat) : List LedgerEntry :=
  ((l.waiting.map (·.2)).filter fun e => decide (seq = 0xFFFFFFFF) || decide (e.seq = seq)).foldr insertBySeq []

/-- An entry in LEDGER_QUERY's response: WAITING holds the classes that stand and have not latched. -/
def LedgerEntry.query (e : LedgerEntry) : List Byte :=
  leBytes 4 e.seq ++ leBytes 1 e.removable.bits ++ leBytes 1 e.latched.bits ++ leBytes 1 (bit e.slipped 0 + bit e.mirrored 1) ++ zeros 1
    ++ leBytes 8 e.target ++ leBytes 8 e.applied

/-- LEDGER_QUERY (R140): a number without a waiting entry gives no entries. -/
def execLedgerQuery (r : Req) (seq : U32) (s : State) : Host.Outcome State Fault Refusal :=
  .next (command .ledgerQuery r (fun _ => fixed r 4 true true [])
    (fun id t => let l := t.ledger.named seq.toNat
      respond id true .ok 0 (leBytes 2 l.length ++ zeros 2 ++ l.flatMap LedgerEntry.query) t) s)

/-- Whether the module has assigned a sequence number. -/
def Ledger.assigned (l : Ledger) (seq : Nat) : Bool :=
  if 2 ^ 31 ≤ seq then decide (seq - 2 ^ 31 < l.nextLocal) else decide (seq < l.nextSeq)

/-- A mirrored cancel leaves for the follower (Table 10-9). -/
def mirrorCancel (e : LedgerEntry) (gone : Classes) (s : State) : State :=
  if s.mirrorsNow && e.settings.any mirrors then tandemSend 6 e.applied (leBytes 4 e.seq ++ leBytes 1 gone.bits) s else s

/-- The effect of LEDGER_CANCEL (R144). A leader whose follower's link is 1.0 refuses it (R250). The number of a mirrored entry is the leader's: the follower has not assigned it. -/
def ledgerCancelAct (seq : Nat) (id : ReqId) (s : State) : State :=
  if s.mirrorsNow && decide (s.tandem.version = 0x10) then respond id true .denied 0 [] s else
  match s.ledger.waiting.find? fun p => decide (p.2.seq = seq) && !p.2.mirrored with
  | none => respond id true (if s.ledger.assigned seq then .tooLate else .badParam) 0 [] s
  | some (i, e) =>
    if e.removable = Classes.none then respond id true .tooLate 0 [] s
    else
      respond id true .ok 0 (leBytes 1 e.removable.bits ++ zeros 7) (mirrorCancel e e.removable (cancelEntry i e s))

/-- LEDGER_CANCEL. -/
def execLedgerCancel (r : Req) (seq : U32) (s : State) : Host.Outcome State Fault Refusal :=
  .next (command .ledgerCancel r (fun _ => fixed r 8 true true []) (ledgerCancelAct seq.toNat) s)

end Sys2Proof.Machine
end

