-- ==== Sys2Proof/Machine/Profiles.lean ====
section
/-! DEFINITION. Stored profiles (R151 to R156), the tandem role and the compositor as host software sets them (R251, R258), and the
pre-roll length (R146). -/

namespace Sys2Proof.Machine

/-! ## The pre-roll length (R146, R169) -/

/-- The length in ms that half of the usable capacity holds, in the format and at the rate in force: floor(length / period) + 1 records.
In TRIGGERED operation the shortest period stands for the period. -/
def prerollCap (s : State) : Nat :=
  let x := s.settings.sensor
  let period := if x.trigger.mode = .triggered then x.tMin else x.pNom s.sync.genlock
  (s.res.usable / 2 / max 1 x.recordPages - 1) * period / Config.ms

/-- The length applied: capped by the reservoir, and 0 without one or without its feature bit (R301). -/
def prerollFor (ms : Nat) (s : State) : Nat := if s.res.present && s.cap 4 then min ms (prerollCap s) else 0

/-- The pre-roll length is set; at 0 the pre-roll ring goes. -/
def setPreroll (ms : Nat) (s : State) : State :=
  let n := prerollFor ms s
  let r := { s.res with prerollMs := ms, prerollApplied := n }
  { s with res := if n = 0 then r.dropPreroll else r }

/-- The effect of PREROLL_SET: with a sealed take armed, only 0 is accepted. -/
def prerollAct (ms : Nat) (id : ReqId) (s : State) : State :=
  if ms ≠ 0 ∧ s.armed = true then respond id true .denied 0 [] s
  else
    let s1 := setPreroll ms s
    respond id true .ok 0 (leBytes 4 s1.res.prerollApplied ++ zeros 4) s1

/-- PREROLL_SET (R146). -/
def execPrerollSet (r : Req) (lengthMs : U32) (s : State) : Host.Outcome State Fault Refusal :=
  .next (command .prerollSet r
    (fun t => fixed r 8 (decide (lengthMs.toNat ≤ 30000)) (decide (t.mode.mode = .ready) || decide (t.mode.mode = .view)) [])
    (prerollAct lengthMs.toNat) s)

/-! ## The tandem role (R251) -/

/-- A change that can move the tandem role: a new role ends any join, and the modules meet again. -/
def underRole (f : State → State) (s : State) : State :=
  let s1 := f s
  if s1.tandemRole = s.tandemRole then s1
  else
    let s2 := endJoin s1
    let s3 := if s2.tandem.join = .conflict then fire0 31 (s2.setTandem { s2.tandem with join := .none }) else s2
    if s3.tandem.up then meetRoles (sendHello s3) else s3

/-- Whether the mode admits a role change. -/
def State.roleMode (s : State) : Bool := decide (s.mode.mode = .dormant) || s.joinable

/-- TANDEM_ROLE_SET: without its feature bit, a module is no leader and no follower (R301). -/
def tandemRoleAct (role : Nat) (id : ReqId) (s : State) : State :=
  if 2 ≤ role ∧ s.cap 2 = false then respond id true .denied 0 [] s
  else respond id true .ok 0 [] (underRole (fun t => t.setTandem { t.tandem with roleSet := role }) s)

/-- TANDEM_ROLE_SET (R251). -/
def execTandemRoleSet (r : Req) (role : Byte) (s : State) : Host.Outcome State Fault Refusal :=
  .next (command .tandemRoleSet r (fun t => fixed r 4 (decide (role.toNat ≤ 3)) t.roleMode []) (tandemRoleAct role.toNat) s)

/-- The response of TANDEM_STATUS: ROLE is the role in force. -/
def tandemStatusBytes (s : State) : List Byte :=
  let t := s.tandem
  leBytes 1 s.tandemRole ++ leBytes 1 (bit t.up 0) ++ leBytes 1 (joinCode t.join) ++ leBytes 1 t.version ++ leBytes 4 t.rtt
    ++ leBytes 8 t.joinFrame ++ leBytes 8 t.partnerFrame ++ leBytes 4 t.crcFail ++ leBytes 4 t.slips

/-- TANDEM_STATUS (R251). -/
def execTandemStatus (r : Req) (s : State) : Host.Outcome State Fault Refusal :=
  .next (command .tandemStatus r (fun _ => bare r true []) (fun id t => respond id true .ok 0 (tandemStatusBytes t) t) s)

/-! ## The compositor (R258) -/

/-- Whether boundaries are placed, so that a change waits for the next one. -/
def State.hasBoundaries (s : State) : Bool := s.reads || decide (s.mode.mode = .ready)

/-- A compositor mode and left eye, from the next boundary; at once where there are none. -/
def setCompositor (mode left : Nat) (s : State) : State :=
  if s.hasBoundaries then s.setTandem { s.tandem with compChange := some (mode, left) }
  else s.setTandem { s.tandem with compMode := mode, compLeft := left, compChange := none }

/-- The frame from which a change at the next boundary applies. -/
def State.appliedFrame (s : State) : Nat := s.nextFrame

/-- COMPOSITOR_SET: without its feature bit the only mode is OFF (R301). -/
def compositorAct (mode left : Nat) (id : ReqId) (s : State) : State :=
  if mode ≠ 0 ∧ s.cap 2 = false then respond id true .denied 0 [] s
  else respond id true .ok s.appliedFrame (leBytes 8 s.appliedFrame) (setCompositor mode left s)

/-- COMPOSITOR_SET (R258). -/
def execCompositorSet (r : Req) (mode leftEye : Byte) (s : State) : Host.Outcome State Fault Refusal :=
  .next (command .compositorSet r (fun _ => fixed r 4 (decide (mode.toNat ≤ 5 ∧ leftEye.toNat ≤ 1)) true [])
    (compositorAct mode.toNat leftEye.toNat) s)

/-! ## Profiles -/

/-- A trigger setting as an item carries it. -/
def rawTrigger (t : Trigger) : RawTrigger :=
  { timingMode := BitVec.ofNat 8 (timingNum t.mode), trigEdge := BitVec.ofNat 8 (bit t.falling 0), gateStop := BitVec.ofNat 8 (bit t.cut 0),
    strobePol := BitVec.ofNat 8 (bit t.strobeLow 0), trigDelay := BitVec.ofNat 32 t.delay, strobeAdvance := BitVec.ofNat 16 t.advance,
    trigOutMode := BitVec.ofNat 8 t.outMode, trigOutWidth := BitVec.ofNat 16 t.outWidth }

/-- A ring setting as an item carries it. -/
def rawRing (i : Nat) (x : RingSet) : RawRing :=
  { ring := BitVec.ofNat 8 (ringNumber i), source := BitVec.ofNat 8 x.source, twinPlane := BitVec.ofNat 8 x.twinPlane,
    format := BitVec.ofNat 8 x.format, rateDiv := BitVec.ofNat 8 x.rateDiv, ratePhase := BitVec.ofNat 8 x.ratePhase,
    lut1d := BitVec.ofNat 8 x.lut1d, lut3d := BitVec.ofNat 8 x.lut3d, yccMatrix := BitVec.ofNat 8 x.yccMatrix,
    yccRange := BitVec.ofNat 8 x.yccRange, expShift := BitVec.ofInt 16 x.expShift, cropX0 := BitVec.ofNat 16 x.cropX0,
    cropY0 := BitVec.ofNat 16 x.cropY0, cropW := BitVec.ofNat 16 x.cropW, cropH := BitVec.ofNat 16 x.cropH,
    outW := BitVec.ofNat 16 x.outW, outH := BitVec.ofNat 16 x.outH, matrix := x.matrix.map (BitVec.ofInt 16) }

/-- An exposure program as an item carries it. -/
def rawProgram (p : Program) : RawProgram :=
  ⟨BitVec.ofNat 64 (progHeader p), p.entries.map fun e => BitVec.ofNat 64 (progEntryNat e)⟩

/-- The frame settings of a profile, as one entry names them. -/
def rawSettings (x : Settings) : List Setting :=
  let y := x.sensor
  [.srThreshold (BitVec.ofNat 8 y.srThreshold), .rate (BitVec.ofNat 32 y.rateNum) (BitVec.ofNat 32 y.rateDen),
   .window (BitVec.ofNat 16 y.window.x0) (BitVec.ofNat 16 y.window.w) (BitVec.ofNat 16 y.window.h), .binning (BitVec.ofNat 8 y.bin),
   .program (rawProgram y.program), .trigger (rawTrigger y.trigger),
   .sync ⟨BitVec.ofNat 8 (bit y.sync.genlock 0), BitVec.ofNat 8 y.sync.mult, BitVec.ofNat 8 y.sync.div, BitVec.ofInt 32 y.sync.phase⟩,
   .rotK (BitVec.ofNat 8 x.rotK), .blkMode (BitVec.ofNat 8 x.cond.blkMode), .blkRowWin (BitVec.ofNat 8 x.cond.blkRowWin),
   .blkLim (BitVec.ofNat 16 x.cond.blkLim), .recScale (BitVec.ofNat 16 x.cond.recScale), .defRepl (BitVec.ofNat 8 x.cond.defRepl),
   .hostBlock x.recs.hostBlock] ++ x.recs.rings.zipIdx.map fun p => .ring (rawRing p.2 p.1)

/-- The CRC-32C stored with a copy (R152). -/
def ProfileCopy.crc (c : ProfileCopy) : Nat := crc32c ((profileItems c.body).flatMap id) ^^^ c.upset.toNat

/-- Whether a copy passes its check: the stored CRC-32C is the one of the copy. -/
def ProfileCopy.passes (c : ProfileCopy) : Bool := decide (c.upset = 0)

/-- A profile and the copy that gives it: 1 first, 2 second, 3 the factory profile where neither passes its check (R152). -/
def State.readProfile (s : State) (n : Nat) : Profile × Nat :=
  match s.profiles[n]? with
  | none => (Factory.profile, 3)
  | some x =>
    if x.first.passes then (x.first.body, 1) else if x.second.passes then (x.second.body, 2) else (Factory.profile, 3)

/-- What a profile sets beside the frame settings (R154): the choice, the Welt preferences of the next WELT_OPEN, the tandem role, the
pre-roll and the compositor. -/
def adoptProfile (n : Nat) (p : Profile) (copy : Nat) (s : State) : State :=
  let s1 := { s with mode := { s.mode with profile := n, profileSubst := decide (copy = 3) }, prefs := p.prefs }
  let s2 := if copy = 3 then logEvent 0x0856 srcConductor n s1 else s1
  setCompositor p.compMode p.compLeft (setPreroll p.prerollMs (underRole (fun t => { t with profileTandem := p.tandem }) s2))

/-- The effect of PROFILE_SELECT: a profile whose frame settings a rule refuses changes nothing. -/
def profileSelectAct (n : Nat) (id : ReqId) (s : State) : State :=
  let (p, copy) := s.readProfile n
  let l := rawSettings p.settings
  let (q, s1) := post l 0 id s
  if q.status = .ok then
    respond id true .ok q.frame (ledgerResponse q.seq (classesOf l) (bit q.atOnce 1) q.frame s.mbox.lastAccept) (adoptProfile n p copy s1)
  else respond id true q.status 0 [] s

/-- PROFILE_SELECT (R154). -/
def execProfileSelect (r : Req) (profile : Byte) (s : State) : Host.Outcome State Fault Refusal :=
  .next (command .profileSelect r
    (fun t => fixed r 4 (decide (profile.toNat ≤ 3)) (decide (t.mode.mode = .dormant) || t.joinable) [.mode])
    (profileSelectAct profile.toNat) s)

/-- A profile-only item sets its field (R156). -/
def setProfileItem (p : Profile) (x : Setting) : Profile := match x with
  | .powerupMode v => { p with powerup := v.toNat }
  | .prerollMs v => { p with prerollMs := v.toNat }
  | .tandem v => { p with tandem := v.toNat }
  | .weltPrefs w => { p with prefs := ⟨w.maxVersion.toNat, w.prefBay.toNat, w.ackTimeoutMs.toNat⟩ }
  | .compositor m e => { p with compMode := m.toNat, compLeft := e.toNat }
  | _ => p

/-- The effect of PROFILE_STORE: profile 0 is locked; both copies of another are written. -/
def profileStoreAct (n : Nat) (l : List Setting) (id : ReqId) (s : State) : State :=
  if n = 0 then respond id true .locked 0 [] (logEvent 0x0904 srcConductor 0 s)
  else
    let p := l.foldl setProfileItem { (s.readProfile n).1 with settings := s.settings }
    finish id .ok 0 [] { (accept id [.mode] 0 s) with profiles := s.profiles.set n ⟨⟨p, 0⟩, ⟨p, 0⟩⟩ }

/-- PROFILE_STORE (R156). -/
def execProfileStore (r : Req) (profile : Byte) (count : U16) (items : List Item) (s : State) : Host.Outcome State Fault Refusal :=
  let l := items.map (·.value)
  .next (command .profileStore r
    (fun t => ⟨decide (r.len = 4 + itemsLen items) && items.all (fun i => lenFits i.value i.len.toNat),
      sound r (decide (profile.toNat ≤ 3) && decide (count.toNat ≤ 5) && decide (items.length = count.toNat) && itemsDistinct items
        && l.all fun x => profileOnly x && inRange x 0 1),
      decide (t.mode.mode = .ready) || decide (t.mode.mode = .view) || decide (t.mode.mode = .service), [.mode]⟩)
    (profileStoreAct profile.toNat l) s)

/-- The response of PROFILE_READ. -/
def profileBytes (n : Nat) (s : State) : List Byte :=
  let (p, copy) := s.readProfile n
  let items := profileItems p
  leBytes 1 n ++ leBytes 1 copy ++ leBytes 2 items.length ++ items.flatMap id

/-- PROFILE_READ (R278). -/
def execProfileRead (r : Req) (profile : Byte) (s : State) : Host.Outcome State Fault Refusal :=
  .next (command .profileRead r (fun _ => fixed r 4 (decide (profile.toNat ≤ 3)) true [])
    (fun id t => respond id true .ok 0 (profileBytes profile.toNat t) t) s)

end Sys2Proof.Machine
end

