-- ==== Sys2Proof/Machine/Takes.lean ====
section
/-! DEFINITION. TAKE_START, TAKE_STOP and MODE_QUERY (R128, R135, R145, R149, R224). -/

namespace Sys2Proof.Machine

/-! ## What a take is refused for (Table 6-6, R181) -/

/-- Whether a mode change is in progress, a forced one included: another request receives BUSY (R130). -/
def State.modeBusy (s : State) : Bool :=
  s.mode.changing || s.dump.fatal.isSome || s.power.retire.isSome || s.trust.selfTest.isSome

/-- The refusal that a take from frame n on meets; `rated` where the rate rows apply (R148). -/
def takeRefusal (n : Nat) (rated : Bool) (s : State) : Option Status :=
  if s.hold.locked then some .locked
  else if !(anySession s) then some .notPresent
  else if !s.res.present then some .notPresent
  else if rated && s.comingSensor n (fun x => x.exceeds s.sync.genlock s.res.bSus) then some .badParam
  else if ((s.activeNow.map fun b => decide (versionFormat (s.bay b).version = 2)).getD false)
      && s.comingSensor n (fun x => x.program.twin) then some .denied
  else none

/-- Whether a take accepted now is sealed: its active session carries SEAL (R224). -/
def State.seals (s : State) : Bool := (s.activeNow.map fun b => (s.bay b).wantsSeal).getD false

/-- Whether the key fields fit the sealing: a sealed take has a KEY_ID and a wrapped key, an unsealed one no wrapped key. -/
def keyFits (isSealed : Bool) (keyId : Nat) (wrapped : List Byte) : Bool :=
  if isSealed then decide (keyId ≠ 0) && wrapped.any fun b => decide (b ≠ 0) else wrapped.all fun b => decide (b = 0)

/-- The keeper core unwraps a take key; where it cannot, event 0x060E is logged, and the take has no key (R224). -/
def takeKey (isSealed : Bool) (keyId : Nat) (wrapped : List Byte) (s : State) : Option (List Byte) × State :=
  if isSealed then
    match s.trust.kek.bind fun k => aesUnwrap k (padTo 40 wrapped) with
    | some k => (some k, s)
    | none => (none, logEvent 0x060E srcKeeper keyId s)
  else (none, s)

/-- Whether a version or a feature bit refuses a KEY_ID: BAD_PARAM on a 2.x channel, DENIED without the bit (R270, R301). -/
def keyDenied (keyId : Nat) (s : State) : Bool := decide (keyId ≠ 0) && !(s.cap 1)

/-! ## TAKE_START -/

/-- The effect of TAKE_START (R145). -/
def takeStartAct (takeId keyId : Nat) (wrapped : List Byte) (target : Nat) (id : ReqId) (s : State) : State :=
  let e := s.epochFor target
  let f := s.seals
  if s.modeBusy then respond id true .busy 0 [] s
  else if keyDenied keyId s then respond id true .denied 0 [] s
  else
    match takeRefusal (s.numberAt e) true s with
    | some st => respond id true st 0 [] s
    | none =>
      if !(keyFits f keyId wrapped) then respond id true .badParam 0 [] s
      else
        let (key, s1) := takeKey f keyId wrapped s
        startChange .take (.startTake takeId keyId key f) e (some id) (accept id [.mode] (s.epochFrame e) s1)

/-- TAKE_START (R145). -/
def execTakeStart (r : Req) (takeId : U64) (keyId : U32) (wrapped : List Byte) (s : State) : Host.Outcome State Fault Refusal :=
  .next (command .takeStart r
    (fun t => ⟨decide (r.len = 56 ∧ wrapped.length = 40), sound r (decide (takeId.toNat ≠ 0) && !(decide (t.major r = 2 ∧ keyId.toNat ≠ 0))),
      decide (t.mode.mode = .view), [.mode]⟩)
    (takeStartAct takeId.toNat keyId.toNat wrapped r.target.toNat) s)

/-! ## TAKE_STOP -/

/-- Whether a take or a capture runs that TAKE_STOP can end: TAKE, or the capture phase of BURST (R149). -/
def State.stoppable (s : State) : Bool :=
  decide (s.mode.mode = .take) || (decide (s.mode.mode = .burst) && (s.mode.burst.map fun b => !b.drain).getD false)

/-- The effect of TAKE_STOP: the epoch is L + 1, or the earliest (R145). -/
def takeStopAct (target : Nat) (id : ReqId) (s : State) : State :=
  let e := s.epochFor target
  if s.modeBusy then respond id true .busy 0 [] s
  else
    let s1 := accept id [.mode] (s.numberAt e) s
    if s.mode.mode = .take then startChange .view .stopTake e (some id) s1
    else startChange .burst (.endCapture true) e (some id) s1

/-- TAKE_STOP (R145, R149). -/
def execTakeStop (r : Req) (s : State) : Host.Outcome State Fault Refusal :=
  .next (command .takeStop r (fun t => bare r t.stoppable [.mode]) (takeStopAct r.target.toNat) s)

/-! ## MODE_QUERY -/

/-- The response of MODE_QUERY (R128). -/
def modeQueryBytes (s : State) : List Byte :=
  let m := s.mode
  let tag := ((m.change.bind (·.req)).orElse fun _ => m.seq.bind (·.req)).map fun i => i.tag.toNat
  leBytes 1 (modeCode m.mode) ++ leBytes 1 (if m.pendingCode = 7 then 0xFF else m.pendingCode) ++ leBytes 1 m.burstPhase ++ leBytes 1 ((m.change.map (·.attempts)).getD 0)
    ++ leBytes 2 (tag.getD 0) ++ zeros 2 ++ leBytes 8 ((m.change.map fun c => s.epochFrame c.epoch).getD 0) ++ leBytes 8 s.frame.lastFrame

/-- MODE_QUERY (R128). -/
def execModeQuery (r : Req) (s : State) : Host.Outcome State Fault Refusal :=
  .next (command .modeQuery r (fun _ => bare r true []) (fun id t => respond id true .ok 0 (modeQueryBytes t) t) s)

end Sys2Proof.Machine
end

