-- ==== Sys2Proof/Machine/WeltCommands.lean ====
section
/-! DEFINITION. The commands and the agent's writes of Welt (R209 to R231): WELT_OPEN, WELT_CLOSE, WELT_RELAY and WELT_ALLOWLIST_SET,
credit, echoes and acknowledgements, the timers of a session, and the sending of records. -/

namespace Sys2Proof.Machine

/-! ## Opening -/

/-- A session as WELT_OPEN begins it: its half of the page is zero. -/
def Session.begin (rid : U16) (maxVersion ms : Nat) (primary wantsSeal : Bool) (now : Nat) (id : ReqId) : Session :=
  { Reset.session with state := .opening, rid := rid, maxVersion := maxVersion, ackTimeoutMs := ms, primary := primary,
                       wantsSeal := wantsSeal, stepTime := now, progress := now, req := some id }

/-- The effect of WELT_OPEN (R211). -/
def weltOpenAct (b maxVersion flags : Nat) (rid : U16) (ms : Nat) (id : ReqId) (s : State) : State :=
  if (s.bay b).state ≠ .closed then respond id true .busy 0 [] s
  else if flags.testBit 1 && !(s.cap 1) then respond id true .denied 0 [] s
  else
    let s1 := accept id [.bay b] 0 s
    let v := if maxVersion = 0 then s.prefs.maxVersion else maxVersion
    let t := if ms = 0 then s.prefs.ackTimeoutMs else ms
    s1.setBay b (Session.begin rid v t (flags.testBit 0) (flags.testBit 1) s1.time.now id)

/-- WELT_OPEN (R211). -/
def execWeltOpen (r : Req) (bay maxVersion flags : Byte) (rid : U16) (ackTimeoutMs : U32) (s : State) :
    Host.Outcome State Fault Refusal :=
  .next (command .weltOpen r
    (fun t => fixed r 12
      (decide (bay.toNat ≤ 1) && decide (flags.toNat ≤ 3) && (decide (maxVersion = 0) || decide (maxVersion.toNat ∈ weltVersions))
        && (decide (ackTimeoutMs = 0) || decide (100 ≤ ackTimeoutMs.toNat ∧ ackTimeoutMs.toNat ≤ 30000))
        && !(decide (t.major r = 2) && flags.getLsbD 1))
      (decide (t.mode.mode ≠ .dormant)) [.bay bay.toNat])
    (weltOpenAct bay.toNat maxVersion.toNat flags.toNat rid ackTimeoutMs.toNat) s)

/-- AGENT_INFO written by the agent (Table 9-4, step 2): after step 3 the write is hostile, cause 6. -/
def infoWrite (bytes : List Byte) (b : Nat) (s : State) : State :=
  let x := s.bay b
  if x.state = .opening ∧ x.checked = false then s.setBay b { x with info := padTo 1024 bytes, infoWritten := true } else abortBay b 6 s

/-- AGENT_INFO (R231). -/
def execAgentInfo (bay : Bay) (rid : U16) (bytes : List Byte) (s : State) : Host.Outcome State Fault Refusal :=
  .next (agentWrite bay rid false (infoWrite bytes) s)

/-- What new credit lets Welt do: what waits for a descriptor goes out, and the progress time is judged. -/
def onCredit (s : State) : State := noteBoth (settleBoth (greet (writeOpen 1 (writeOpen 0 s))))

/-- A write of DESC_LIMIT: a fall is hostile, cause 5; the first nonzero one during OPENING starts the checks of R212. -/
def descWrite (v b : Nat) (s : State) : State :=
  let x := s.bay b
  if v < x.descLimit then abortBay b 5 s
  else
    let y := { x with descLimit := v, progress := if x.descLimit < v then s.time.now else x.progress }
    if x.state = .opening then
      if x.checked || decide (v = 0) then s.setBay b y else openChecks b (s.setBay b y)
    else onCredit (s.setBay b y)

/-- DESC_LIMIT (R211, R215). -/
def execDescLimit (bay : Bay) (rid : U16) (v : U32) (s : State) : Host.Outcome State Fault Refusal :=
  .next (agentWrite bay rid false (descWrite v.toNat) s)

/-- p_old of R216: the first page of the oldest unacknowledged record, or the next page. -/
def Session.oldPage (x : Session) : Nat := match x.commits with
  | c :: _ => c.firstPage
  | [] => x.nextPage

/-- A write of PAGE_LIMIT: a part of it is ignored; a fall, or a breach of R216, is hostile, cause 5. -/
def pageWrite (v : Nat) (whole : Bool) (b : Nat) (s : State) : State :=
  let x := s.bay b
  if !whole then logEvent 0x060C srcHost b s
  else if v < x.pageLimit ∨ (x.checked = true ∧ x.oldPage + x.wTotal < v) then abortBay b 5 s
  else
    let s1 := s.setBay b { x with pageLimit := v, progress := if x.pageLimit < v then s.time.now else x.progress }
    if x.state = .opening then s1 else onCredit s1

/-- PAGE_LIMIT (R209, R216). -/
def execPageLimit (bay : Bay) (rid : U16) (v : U64) (whole : Bool) (s : State) : Host.Outcome State Fault Refusal :=
  .next (agentWrite bay rid false (pageWrite v.toNat whole) s)

/-- A sealed take is armed: the pre-roll ring goes (R146). -/
def discardArmed (s : State) : State := if s.armed then { s with res := s.res.dropPreroll } else s

/-- The echo of session and version (Table 9-4, step 5). -/
def echoWrite (session version b : Nat) (s : State) : State :=
  let x := s.bay b
  let s1 := s.setBay b { x with openAckSession := session, openAckVersion := version }
  if x.state = .opening ∧ x.checked = true ∧ 0 < x.descSeq then
    if session = x.sessionId ∧ version = x.version then noteBoth (discardArmed (completeOpen b s1)) else failOpen b 0x0603 .failed s1
  else s1

/-- OPEN_ACK_SESSION (R211). -/
def execOpenAckSession (bay : Bay) (rid : U16) (session : U32) (version : Byte) (s : State) : Host.Outcome State Fault Refusal :=
  .next (agentWrite bay rid false (echoWrite session.toNat version.toNat) s)

/-- The second of an open is up: TIMEOUT where the agent's information was due (step 2), FAILED where its echo was (step 5). It does not run while
SESSION_OPEN waits. -/
def openTimeout (b : Nat) (s : State) : State :=
  let x := s.bay b
  if x.state = .opening ∧ (x.checked = true → 0 < x.descSeq) then failOpen b 0x0603 (if x.checked then .failed else .timeout) (reachNow (x.stepTime + 1000 * Config.ms) s) else s

/-- WELT_OPEN_TIMEOUT (R211). -/
def execWeltOpenTimeout (bay : Bay) (s : State) : Host.Outcome State Fault Refusal := .next (openTimeout (bayNum bay) s)

/-! ## Other writes into the page (R209) -/

/-- Whether an offset of the half is reserved (Table 9-2). -/
def reservedOffset (off : Nat) : Bool := decide (0x415 ≤ off ∧ off < 0x1000)

/-- Whether an offset is of ACK_PRODUCER or ACK_RING. -/
def ackOffset (off : Nat) : Bool := decide (0x40C ≤ off ∧ off < 0x410) || decide (0x1000 ≤ off ∧ off < 0x4000)

/-- A write that the page discards. -/
def pageDiscard (off b : Nat) (rid : U16) (s : State) : State :=
  if acceptsWrite b rid s then (if reservedOffset off then logEvent 0x060C srcHost b s else s) else discardWrite b rid (ackOffset off) s

/-- WELT_PAGE_WRITE_DISCARD (R209). -/
def execWeltPageWriteDiscard (bay : Bay) (rid : U16) (offset : Nat) (s : State) : Host.Outcome State Fault Refusal :=
  .next (viaBar0 false (pageDiscard offset (bayNum bay) rid) s)

/-! ## Acknowledgements -/

/-- The HOLDOVER_READ on a bay counts what the agent has acknowledged, and completes after the last record (R183). -/
def jobAcked (b : Nat) (s : State) : State :=
  match s.hold.job with
  | none => s
  | some j =>
    if j.route = 1 ∧ j.bay = b then
      let n := j.next - j.first - ((s.bay b).commits.filter (·.recovered)).length
      if n = j.last + 1 - j.first then
        finish j.req .ok 0 (leBytes 4 n ++ zeros 4) { s with hold := { s.hold with job := none } }
      else { s with hold := { s.hold with job := some { j with delivered := n } } }
    else s

/-- The level after pages came free: FULL holds while no record has a slot (R168). -/
def levelAfter (s : State) : State :=
  judgeLevel (decide (s.res.level = 4) && !(s.res.hasSlot s.frame.sens0.recordPages)) s

/-- A write of ACK_PRODUCER, with the entries written before it (R219, R220). -/
def ackWrite (v : Nat) (entries : List AckEntry) (b : Nat) (s : State) : State :=
  levelAfter (finishTake (jobAcked b (ackProduce v entries b s)))

/-- ACK_PRODUCER (R220). -/
def execAckProducer (bay : Bay) (rid : U16) (v : U32) (entries : List AckEntry) (s : State) : Host.Outcome State Fault Refusal :=
  .next (agentWrite bay rid true (ackWrite v.toNat entries) s)

/-- ACK_TIMEOUT has passed since the progress time of a session that owes progress (R221). -/
def ackLate (b : Nat) (s : State) : State :=
  let x := s.bay b
  if x.owing && decide (x.state = .streaming) && s.weltWrites then
    noteBoth (faultBay b 0x0605 (reachNow (x.progress + x.ackTimeoutMs * Config.ms) s))
  else s

/-- ACK_TIMEOUT (R221). -/
def execAckTimeout (bay : Bay) (s : State) : Host.Outcome State Fault Refusal := .next (ackLate (bayNum bay) s)

/-! ## Sending -/

/-- The next recovered record of a HOLDOVER_READ goes to its bay (R228). -/
def sendRecovered (b : Nat) (j : RecoveryJob) (s : State) : State :=
  if j.next ≤ j.last then
    let s1 := commitRecovered b j.takeId j.next s
    if (s1.bay b).descSeq = (s.bay b).descSeq then s1 else { s1 with hold := { s1.hold with job := some { j with next := j.next + 1 } } }
  else s

/-- The next record of a bay: a recovered one, or the take's. -/
def recordSend (b : Nat) (poisoned : Bool) (s : State) : State :=
  if !s.weltWrites then s
  else
    match s.hold.job with
    | some j => if j.route = 1 ∧ j.bay = b then noteBoth (sendRecovered b j s) else takeSend s
    | none => takeSend s
where
  takeSend (s : State) : State :=
    if s.take.active = some b ∧ s.take.state ≠ .none then finishTake (sendNext b poisoned s) else s

/-- WELT_RECORD_SEND (R215). -/
def execWeltRecordSend (bay : Bay) (poisoned : Bool) (s : State) : Host.Outcome State Fault Refusal :=
  .next (recordSend (bayNum bay) poisoned s)

/-! ## Closing and relays (R225, R226, R229) -/

/-- Whether a session holds unacknowledged frames, in the sense of R229. -/
def State.holdsFrames (s : State) (b : Nat) : Bool :=
  decide ((s.bay b).commits ≠ []) || s.carriesTake b || s.hold.job.any fun j => decide (j.route = 1 ∧ j.bay = b)

/-- A session that holds nothing closes: SESSION_CLOSE, where credit allows; a stopped one closes without a write. -/
def quietClose (b : Nat) (s : State) : State :=
  let x := s.bay b
  closeBay b (if decide (x.state = .opened ∨ x.state = .streaming) && x.descCredit && s.weltWrites then writeDescriptor b (descriptor 7) s else s)

/-- The effect of WELT_CLOSE (R229). -/
def weltCloseAct (b flags : Nat) (id : ReqId) (s : State) : State :=
  let x := s.bay b
  if x.state = .closed then respond id true .notPresent 0 [] s
  else if x.state = .opening then respond id true .busy 0 [] s
  else if s.holdsFrames b && decide (x.state = .opened ∨ x.state = .streaming) then
    if flags.testBit 0 then noteBoth (finish id .ok 0 [] (removeBay b (accept id [.bay b] 0 s))) else respond id true .busy 0 [] s
  else finish id .ok 0 [] (quietClose b (accept id [.bay b] 0 s))

/-- WELT_CLOSE (R229). -/
def execWeltClose (r : Req) (bay flags : Byte) (s : State) : Host.Outcome State Fault Refusal :=
  .next (command .weltClose r (fun _ => fixed r 4 (decide (bay.toNat ≤ 1 ∧ flags.toNat ≤ 1)) true [.bay bay.toNat])
    (weltCloseAct bay.toNat flags.toNat) s)

/-- The response of WELT_RELAY. -/
def relayBytes (frame toBay : Nat) : List Byte := leBytes 8 frame ++ leBytes 1 toBay ++ zeros 7

/-- A PLANNED relay of the take from bay b to the other bay (Table 9-7): frames from R on go there. -/
def plannedRelay (b : Nat) (s : State) : State :=
  let t := s.take
  let x := t.bay b
  let n := otherBay b
  let r := t.sendNext
  let old := if x.state = .streaming then { x with drainTo := some r, drainTake := (t.takeId, t.first) } else x
  let t1 := (t.setBay b old).setBay n (t.bay n).stream
  noteBoth (settleSession b (greet (logEvent 0x0607 srcHost r
    { s with take := { t1 with active := some n, relay := some (r, x.magazineId), ended := false, paged := none } })))

/-- Whether the other bay can take over from bay b (R226); without a take, only RELAY on both matters. -/
def State.relayTarget (s : State) (b : Nat) (withTake : Bool) : Bool :=
  let y := s.bay (otherBay b)
  (s.bay b).can 0 && (if withTake then eligible y s else decide (y.state = .opened) && y.can 0)

/-- WELT_RELAY PLANNED: the take moves; without one, the active session changes. -/
def relayPlanned (b : Nat) (id : ReqId) (s : State) : State :=
  let x := s.bay b
  let n := otherBay b
  if x.state ≠ .opened ∧ x.state ≠ .streaming then respond id true .notPresent 0 [] s
  else if s.take.active = some b ∧ s.take.state ≠ .none then
    if s.relayTarget b true && s.take.last.all (fun l => decide (s.take.sendNext ≤ l)) then
      finish id .ok 0 (relayBytes s.take.sendNext n) (plannedRelay b (accept id [.bay b] 0 s))
    else respond id true .notPresent 0 [] s
  else if s.relayTarget b false then
    let s1 := accept id [.bay b] 0 s
    let t := (s1.take.setBay b { s1.bay b with primary := false }).setBay n { s1.bay n with primary := true }
    finish id .ok 0 (relayBytes 0 n) { s1 with take := t }
  else respond id true .notPresent 0 [] s

/-- WELT_RELAY REMOVED. -/
def relayRemoved (b : Nat) (id : ReqId) (s : State) : State :=
  let x := s.bay b
  if x.state = .closed then respond id true .notPresent 0 [] s
  else if x.state = .opening then respond id true .busy 0 [] s
  else if s.holdsFrames b && decide (x.state = .opened ∨ x.state = .streaming) then
    let r := if s.carriesTake b then relayFrame b s else 0
    let s1 := removeBay b (accept id [.bay b] 0 s)
    noteBoth (finish id .ok 0 (relayBytes r (if s.carriesTake b then s1.take.active.getD 0xFF else 0xFF)) s1)
  else finish id .ok 0 (relayBytes 0 0xFF) (quietClose b (accept id [.bay b] 0 s))

/-- WELT_RELAY (R225, R226). -/
def execWeltRelay (r : Req) (fromBay kind : Byte) (s : State) : Host.Outcome State Fault Refusal :=
  .next (command .weltRelay r
    (fun t => fixed r 4 (decide (fromBay.toNat ≤ 1 ∧ kind.toNat ≤ 1)) t.reads [.bay fromBay.toNat])
    (fun id t => if kind = 0 then relayPlanned fromBay.toNat id t else relayRemoved fromBay.toNat id t) s)

/-! ## The allow list (R213) -/

/-- Whether a session that has declared windows stays covered. -/
def Session.staysCovered (allow : List (Nat × Nat)) (x : Session) : Bool :=
  decide (x.state = .closed) || !x.checked || covered allow x.windows x.ringBase x.ringEntries

/-- The effect of WELT_ALLOWLIST_SET. -/
def allowlistAct (allow : List (Nat × Nat)) (id : ReqId) (s : State) : State :=
  if s.take.a.staysCovered allow && s.take.b.staysCovered allow then
    respond id true .ok 0 [] { s with take := { s.take with allow := allow } }
  else respond id true .denied 0 [] s

/-- WELT_ALLOWLIST_SET (R213). -/
def execWeltAllowlistSet (r : Req) (count : U16) (ranges : List (U64 × U64)) (s : State) : Host.Outcome State Fault Refusal :=
  .next (command .weltAllowlistSet r
    (fun _ => ⟨decide (r.len = 4 + 16 * ranges.length),
      sound r (decide (count.toNat ≤ 16) && decide (ranges.length = count.toNat)
        && ranges.all fun p => decide (p.1.toNat % 4096 = 0 ∧ p.2.toNat % 4096 = 0)), true, []⟩)
    (allowlistAct (ranges.map fun p => (p.1.toNat, p.2.toNat))) s)

end Sys2Proof.Machine
end

