-- ==== Sys2Proof/Machine/ReservoirCommands.lean ====
section
/-! DEFINITION. The memory port and the reservoir aperture (R157 to R172): discovery, RESERVOIR_INFO, the faults of Table 7-7, and BAR2. -/

namespace Sys2Proof.Machine

/-! ## Discovery (R158 to R160) -/

/-- Whether a device is usable among n: a CXL 1.1 device without an HDM decoder only as the single one of layout 1×16 (R159). -/
def usableAmong (n : Nat) (d : DeviceSeen) : Bool := d.suited && (!d.noDecoder || decide (n = 1))

/-- A device among n as the port keeps it. -/
def deviceSeen (n : Nat) (d : DeviceSeen) : MemDevice :=
  if !d.present then ⟨0, 0, false, 0, 0⟩ else ⟨d.lanes, d.rate, d.flit256, if usableAmong n d then 1 else 2, d.capacity⟩

/-- The events of the devices: narrowed links (0x0405) and refusals (0x0406). -/
def deviceEvents (lanes : Nat) (devs : List (Nat × DeviceSeen)) (s : State) : State :=
  each devs (fun p t =>
    if !(usableAmong devs.length p.2) then logEvent 0x0406 srcMem p.1 t
    else if p.2.lanes < lanes ∨ p.2.rate < p.2.maxRate then logEvent 0x0405 srcMem p.1 t else t) s

/-- The reservoir pages that the poison lists name. -/
def poisonPages (n : Nat) (devs : List (Nat × DeviceSeen)) : List Nat :=
  (devs.flatMap fun p => p.2.poison.map fun q => q * n + p.1).eraseDups

/-- Discovery with the layout that the presence inputs give. -/
def discoverAs (lanes : Nat) (devs : List (Nat × DeviceSeen)) (all : List MemDevice) (s : State) : State :=
  let s1 := deviceEvents lanes devs s
  let n := devs.length
  let caps := devs.map fun p => p.2.capacity
  let c := capacityOf caps
  let bad := (poisonPages n devs).filter fun q => decide (q < c / 4096)
  if devs.any fun p => !(usableAmong n p.2) then absent all s1
  else
    let s2 := if c < sumNat caps then logEvent 0x0409 srcMem n s1 else s1
    if c < leastCapacity then absent all s2
    else if 4096 < bad.length then absent all (logEvent 0x0406 srcMem n s2)
    else { s2 with res := s2.res.empty true all c bad }

/-- Discovery at an entry to READY from DORMANT or SERVICE (R158, R159): what the reservoir held is gone, and a take with it. The memory
port needs its feature bit (R301). The pre-roll length is applied anew. -/
def discover (seen : List DeviceSeen) (s : State) : State :=
  let four := (List.range 4).map fun d => (d, seen.getD d ⟨false, 0, 0, 0, false, 0, false, false, []⟩)
  let devs := four.filter fun p => p.2.present
  let all := four.map fun p => deviceSeen devs.length p.2
  let s1 : State := if devs = [] ∨ s.cap 4 = false then absent (all.map fun d => { d with dstate := 0 }) s
    else
      match layoutLanes (devs.map (·.1)) with
      | none => absent all (logEvent 0x0404 srcMem (patternBits (devs.map (·.1))) s)
      | some lanes => discoverAs lanes devs all s
  let s2 : State := { s1 with res := { s1.res with bSus := bSusOf s1 } }
  let s3 := if s2.take.state = .none then s2 else loseTake s2
  setPreroll s3.res.prerollMs s3

/-! ## RESERVOIR_INFO -/

/-- A pointer in RESERVOIR_INFO. -/
def RingPtr.bytes (p : RingPtr) : List Byte := leBytes 4 p.page ++ zeros 4 ++ leBytes 8 p.seq

/-- A device in RESERVOIR_INFO. -/
def MemDevice.bytes (d : MemDevice) : List Byte :=
  leBytes 1 d.lanes ++ leBytes 1 d.rate ++ leBytes 1 (bit d.flit256 0) ++ leBytes 1 d.dstate ++ zeros 4 ++ leBytes 8 d.capacity

/-- The response of RESERVOIR_INFO; without a reservoir the capacity, the level and the rate are zero. -/
def reservoirBytes (s : State) : List Byte :=
  let r := s.res
  let here (n : Nat) : Nat := if r.present then n else 0
  leBytes 1 (bit r.present 0) ++ leBytes 1 r.inUse.length ++ leBytes 1 (here r.level) ++ zeros 1 ++ leBytes 4 (here r.levelMille)
    ++ leBytes 8 (here r.capacity) ++ leBytes 8 (here r.usable) ++ leBytes 4 (here (r.bSus / 1000)) ++ leBytes 4 r.aperture
    ++ r.wr.bytes ++ r.send.bytes ++ r.dur.bytes ++ r.devices.flatMap MemDevice.bytes

/-- The effect of RESERVOIR_INFO: the aperture moves where the request asks for it (R171). -/
def reservoirInfoAct (gib : Nat) (id : ReqId) (s : State) : State :=
  let s1 := if gib = 0xFFFFFFFF then s else { s with res := { s.res with aperture := gib } }
  respond id true .ok 0 (reservoirBytes s1) s1

/-- RESERVOIR_INFO (R171). -/
def execReservoirInfo (r : Req) (gib : U32) (s : State) : Host.Outcome State Fault Refusal :=
  .next (command .reservoirInfo r (fun _ => fixed r 8 true true []) (reservoirInfoAct gib.toNat) s)

/-! ## The index region (R164, R165) -/

/-- STATE of an index entry (Table 7-5). -/
def SlotState.code (x : SlotState) : Nat := match x with
  | .writing => 1
  | .closed => 2
  | .sent => 3
  | .durable => 4
  | .filler => 5

/-- The take fields of an entry's header: a record that is still being written has those of the readout in progress. -/
def State.entryTag (s : State) (e : ResEntry) : TakeTag :=
  match e.record, s.frame.readout with
  | some r, _ => r.gov.take
  | none, some r => if e.state ≠ .filler ∧ r.gov.n = e.frame then r.gov.take else ⟨0, 0, 0, false, false, false⟩
  | none, none => ⟨0, 0, 0, false, false, false⟩

/-- The 32 bytes of an index entry under its take fields (Table 7-5). -/
def ResEntry.bytes (e : ResEntry) (g : TakeTag) : List Byte :=
  let reasons := match e.record with
    | some r => r.reasons
    | none => e.reasons
  let h := leBytes 8 (if e.state = .filler then 0 else e.frame) ++ leBytes 4 e.page ++ leBytes 4 e.pages ++ leBytes 2 e.state.code
    ++ leBytes 1 (voidReason reasons)
    ++ leBytes 1 (bit e.preroll 0 + bit g.isSealed 1 + bit g.last 2) ++ leBytes 4 g.index ++ zeros 4
  h ++ leBytes 4 (crc32c h)


/-- What the module has written of the index region: entries not written since discovery are zero. -/
def State.indexBytes (s : State) (place : Nat) : List Byte :=
  match s.res.entries.reverse.find? fun e => decide (e.seq % indexEntries = place) with
  | some e => e.bytes (s.entryTag e)
  | none => zeros 32

/-- A byte of the index region, none on a page that was bad at the discovery: a page that goes bad keeps what it holds. -/
def State.indexByte (s : State) (a : Nat) : Option Byte :=
  if a / 4096 ∈ s.res.bad then (look s.res.frozen (a / 4096)).bind fun l => l[a % 4096]? else (s.indexBytes (a / 32))[a % 32]?

/-- A page joins the bad-page map, if it has room (R170). An index page is written no more: it keeps what it holds now. -/
def State.addBad (s : State) (page : Nat) : State :=
  let r := s.res.addBad page
  if page < indexPages ∧ page ∈ r.bad ∧ page ∉ s.res.bad then
    { s with res := { r with frozen := put r.frozen page ((List.range 128).flatMap fun i => s.indexBytes (128 * page + i)) } }
  else { s with res := r }

/-! ## Faults of the memory side (Table 7-7) -/

/-- A device reports a media error on a write to a reservoir page: the record there is void, reason 2. -/
def mediaError (page : Nat) (s : State) : State :=
  if !s.res.present then s
  else
    match s.res.recordAt page with
    | none => s
    | some e => voidRecord e.frame 2 (logFrame 0x0407 srcMem e.frame page s)

/-- DEVICE_MEDIA_ERROR (R170). -/
def execDeviceMediaError (page : Nat) (s : State) : Host.Outcome State Fault Refusal := .next (mediaError page s)

/-- Whether poison on a page puts it into the bad-page map: an index page, or one outside every live record, that the map does not hold yet. -/
def State.spares (s : State) (page : Nat) : Bool :=
  ((s.res.recordAt page).isNone || decide (page < indexPages)) && decide (page ∉ s.res.bad)

/-- Poison on a page: outside every live record the page joins the bad-page map; in a live record it is met when the record is read. -/
def foundPoison (page : Nat) (s : State) : State :=
  if s.spares page then logEvent 0x0407 srcMem page (s.addBad page) else s

/-- A memory link retrains, or has retrained at some width and rate: B_sus is computed again (R162). -/
def retrainLink (d lanes rate : Nat) (done : Bool) (s : State) : State :=
  if !s.res.present || decide ((s.res.devices.getD d ⟨0, 0, false, 0, 0⟩).dstate ≠ 1) then s
  else if done then
    let old := s.res.devices.getD d ⟨0, 0, false, 0, 0⟩
    renewBsus { s with res := { s.res with retrain := false, queued := 0, devices := s.res.devices.set d { old with lanes := lanes, rate := rate } } }
  else logEvent 0x0405 srcMem d { s with res := { s.res with retrain := true } }

/-- A device is lost: the reservoir is absent from then on. Where frames are read out, the take must end, and the ring is left as a retire
leaves it, with a retire record of cause 2, and locks where a take's entries lock it (R180, R181). -/
def loseDevice (d : Nat) (s : State) : State :=
  if !s.res.present || decide ((s.res.devices.getD d ⟨0, 0, false, 0, 0⟩).dstate ≠ 1) then s
  else
    let gone := (s.res.devices.getD d ⟨0, 0, false, 0, 0⟩)
    let r := { s.res with present := false, retrain := false, queued := 0, prerollApplied := 0, devices := s.res.devices.set d { gone with dstate := 0 } }
    let s1 := logEvent 0x0408 srcMem d { s with res := r }
    if s.reads then
      let f := s1.frame
      let void (x : Readout) : Readout := { x with gov := { x.gov with reasons := x.gov.reasons ++ [2] } }
      let s2 := { s1 with frame := { f with readout := f.readout.map void } }
      let s3 := scanRing (writeRetire 2 s2)
      leaveTake { s3 with hold := { s3.hold with busy := true } }
    else s1

/-- What the health poll of one device gives. -/
def healthOf (h : DeviceHealth) (s : State) : State :=
  let n := s.res.inUse.length
  let s1 := if h.hot then logEvent 0x040C srcMem h.device s else s
  if s.res.present then each h.poison (fun q t => foundPoison (q * n + h.device) t) s1 else s1

/-- DEVICE_HEALTH_POLL (R157), over ABUS1. -/
def execDeviceHealthPoll (found : List DeviceHealth) (s : State) : Host.Outcome State Fault Refusal :=
  .next (if busOn .abus1 s then each found healthOf s else s)

/-! ## The aperture (R171, R172) -/

/-- A byte of the data ring that the model knows: of a record that is closed, of a copy that recovery made, or of the dump. -/
def State.ringByte (s : State) (a : Nat) : Option Byte :=
  let page := a / 4096
  let held (e : ResEntry) : Bool := decide (e.page ≤ page ∧ page < e.page + e.pages) && e.record.isSome
  match s.res.entries.reverse.find? held with
  | some e => e.record.bind fun r => r.bytes[a - 4096 * e.page]?
  | none =>
    match look s.res.scratch page with
    | some bs => bs[a % 4096]?
    | none =>
      match s.dump.resOffset with
      | some off =>
        let n := 4096 * s.res.dataPages
        s.dump.resBytes[(a + 4096 * indexPages + n - off) % max 1 n]?
      | none => none

/-- A byte of the reservoir: contents that the manual does not give are free values. -/
def State.resByte (s : State) (a : Nat) : Byte :=
  (if a < 4096 * indexPages then s.indexByte a else s.ringByte (a - 4096 * indexPages)).getD (Config.freeRingByte (a + 2 ^ 48 * s.free))

/-- The bytes of a read through the aperture. -/
def State.apertureBytes (s : State) (offset len : Nat) : List Byte :=
  (List.range len).map fun i => s.resByte ((s.res.aperture * 2 ^ 30 + offset + i) % max 1 s.res.capacity)

/-- What ends a read of BAR2 at once: Unsupported Request where the reservoir or its port is off. -/
def State.bar2Off (s : State) : Bool := !s.res.present || !(s.pdOn 57) || !(s.pdOn 58)

/-- A read of BAR2 completes with data; a poisoned line with EP and event 0x0407, and its page joins the bad-page map where it may (R170, R172). -/
def completeRead (r : BarRead) (s : State) : State :=
  let a := (s.res.aperture * 2 ^ 30 + r.offset) % max 1 s.res.capacity
  let bs := s.apertureBytes r.offset r.len
  if r.poisoned then
    let t := s.drew.send (.completion (.poisoned bs))
    logEvent 0x0407 srcMem (a / 4096 % 2 ^ 32) (if t.spares (a / 4096) then t.addBad (a / 4096) else t)
  else s.drew.send (.completion (.data bs))

/-- The reads that wait for a retrain: with its end they complete, after 10 ms with Completer Abort, and where the reservoir has gone with
Unsupported Request (R172). -/
def settleReads (s : State) : State :=
  let waiting := s.link.reads
  let done (r : BarRead) : Bool := s.bar2Off || !s.res.retrain || decide (r.waitsTo ≤ s.time.now)
  if waiting.any done then
    each (waiting.filter done) (fun r t =>
      if t.bar2Off then t.send (.completion .unsupported) else if t.res.retrain then t.send (.completion .abort) else completeRead r t)
      { s with link := { s.link with reads := waiting.filter fun r => !(done r) } }
  else s

/-- A read of BAR2 (R172). -/
def bar2ReadAct (offset len : Nat) (poisoned : Bool) (s : State) : State :=
  if !s.link.live || s.link.ide.insecure then s
  else if s.bar2Off || s.link.pf0.d3hot then s.send (.completion .unsupported)
  else
    let r : BarRead := ⟨offset, len, poisoned, s.time.now + 10 * Config.ms⟩
    if s.res.retrain then { s with link := { s.link with reads := s.link.reads ++ [r] } } else completeRead r s

/-- BAR2_READ (R172). -/
def execBar2Read (offset : U64) (len : Nat) (poisoned : Bool) (s : State) : Host.Outcome State Fault Refusal :=
  .next (bar2ReadAct offset.toNat len poisoned s)

/-- BAR2_WRITE (R172): discarded, reported through AER, and logged. -/
def execBar2Write (offset : U64) (s : State) : Host.Outcome State Fault Refusal :=
  .next (if s.link.live && !s.link.ide.insecure then
    logEvent 0x040A srcHost (offset.toNat % 2 ^ 32) (reportError false 20 s)
  else s)

/-! ## What the reads wait for -/

/-- MEMORY_LINK_RETRAIN (R170). -/
def execMemoryLinkRetrain (device lanes rate : Nat) (done : Bool) (s : State) : Host.Outcome State Fault Refusal :=
  if device < 4 then .next (settleReads (retrainLink device lanes rate done s)) else .fault (.noSuchDevice device)

/-- DEVICE_LOST (R170). -/
def execDeviceLost (device : Nat) (s : State) : Host.Outcome State Fault Refusal :=
  if device < 4 then .next (settleReads (loseDevice device s)) else .fault (.noSuchDevice device)

end Sys2Proof.Machine
end

