-- ==== Sys2Proof/Machine/HoldCommands.lean ====
section
/-! DEFINITION. The commands and the faults of the hold-over store (R173 to R184): HOLDOVER_STATUS, HOLDOVER_SCAN, HOLDOVER_READ by its
three routes, HOLDOVER_RELEASE, and failing blocks and banks. -/

namespace Sys2Proof.Machine

/-! ## HOLDOVER_STATUS and HOLDOVER_SCAN -/

/-- The response of HOLDOVER_STATUS (R177). -/
def holdStatusBytes (s : State) : List Byte :=
  let h := s.hold
  leBytes 1 h.stateCode ++ zeros 3 ++ leBytes 4 s.protDepth ++ leBytes 8 h.passes ++ leBytes 2 (min 0xFFFF h.endurance) ++ zeros 2
    ++ leBytes 4 h.takes.length ++ (List.range 8).flatMap fun b => leBytes 2 (h.spares.getD b 0)

/-- HOLDOVER_STATUS (R177). -/
def execHoldoverStatus (r : Req) (s : State) : Host.Outcome State Fault Refusal :=
  .next (command .holdoverStatus r (fun _ => bare r true []) (fun id t => respond id true .ok 0 (holdStatusBytes t) t) s)

/-- A locked take in HOLDOVER_SCAN's response. -/
def HoldUnit.scanTake (h : HoldUnit) (t : Nat) : List Byte :=
  let n := h.tally t
  leBytes 8 t ++ leBytes 8 (h.rangeFirst t) ++ leBytes 8 (h.rangeLast t) ++ leBytes 4 n.1 ++ leBytes 4 n.2.1 ++ leBytes 4 n.2.2
    ++ leBytes 1 (h.takeFormat t) ++ leBytes 1 (bit (h.tagFor t (h.rangeFirst t) false).isSealed 0) ++ zeros 2

/-- Part 0 of HOLDOVER_SCAN: the retire record and the locked takes (R182). -/
def HoldUnit.scanBytes (h : HoldUnit) : List Byte :=
  let r := h.retired
  leBytes 1 (bit r.isSome 0) ++ leBytes 1 ((r.map (·.cause)).getD 0) ++ leBytes 2 h.takes.length
    ++ leBytes 4 (h.entries.filter fun e => !e.readable).length ++ leBytes 8 ((r.map (·.time)).getD 0)
    ++ leBytes 8 ((r.map (·.lastAssigned)).getD 0) ++ leBytes 8 ((r.map (·.lastDurable)).getD 0) ++ h.takes.flatMap h.scanTake

/-- Part 1: the event entries of the retire record, filled to 64. -/
def HoldUnit.scanEvents (h : HoldUnit) : List Byte :=
  padTo 2048 (((h.retired.map (·.events)).getD []).flatMap LogEntry.bytes)

/-- Whether the mode admits recovery work. -/
def State.recoveryMode (s : State) : Bool := decide (s.mode.mode = .ready) || decide (s.mode.mode = .service)

/-- HOLDOVER_SCAN (R182). -/
def execHoldoverScan (r : Req) (part : Byte) (s : State) : Host.Outcome State Fault Refusal :=
  .next (command .holdoverScan r (fun t => fixed r 4 (decide (part.toNat ≤ 1)) t.recoveryMode [.holdRing])
    (fun id t => finish id .ok 0 (if part = 0 then t.hold.scanBytes else t.hold.scanEvents) (accept id [.holdRing] 0 t)) s)

/-! ## HOLDOVER_READ (R183) -/

/-- A frame of a take has been delivered. -/
def noteDelivered (takeId n : Nat) (s : State) : State :=
  { s with hold := { s.hold with delivered := (takeId, n) :: s.hold.delivered } }

/-- The pages of some bytes, in order. -/
def pagesIn (bs : List Byte) : List (List Byte) := (List.range ((bs.length + 4095) / 4096)).map fun i => (bs.drop (4096 * i)).take 4096

/-- Route 2: the pages of a record, one response each, whose header names the frame. -/
def mailRecord (id : ReqId) (takeId n : Nat) (s : State) : State :=
  noteDelivered takeId n (each (pagesIn (recoveredBytes s takeId n)) (fun p t => respond id false .ok n p t) s)

/-- BAR2_OFFSET of a page of the data ring. -/
def State.bar2Offset (s : State) (page : Nat) : Nat :=
  (4096 * (indexPages + page) + s.res.capacity - s.res.aperture * 2 ^ 30 % max 1 s.res.capacity) % max 1 s.res.capacity

/-- Route 0: a record is copied into the data ring, and its place reported; none where the ring has no room for it. The copy is no live
record, so that DUR passes it. -/
def copyRecord (id : ReqId) (takeId n : Nat) (s : State) : Option State :=
  let bs := recoveredBytes s takeId n
  let pages := bs.length / 4096
  if s.res.hasSlot pages then
    match s.res.place pages with
    | none => none
    | some (start, _) =>
      let r := (s.res.reserve n pages false false []).modify n fun e => { e with state := .durable }
      let copies := (pagesIn bs).zipIdx.map fun p => (start + p.2, p.1)
      let old := r.scratch.filter fun q => !(decide (start ≤ q.1 ∧ q.1 < start + pages))
      let s1 := { s with res := { (r.moveDur fun _ => false) with scratch := copies ++ old } }
      some (noteDelivered takeId n (respond id false .ok n (leBytes 8 n ++ leBytes 8 (s.bar2Offset start) ++ leBytes 8 bs.length) s1))
  else none

/-- Route 0 over a range; the number of records delivered. -/
def copyRange (id : ReqId) (takeId : Nat) : List Nat → Nat → State → Nat × State
  | [], k, s => (k, s)
  | n :: ns, k, s => match copyRecord id takeId n s with
    | none => (k, s)
    | some t => copyRange id takeId ns (k + 1) t

/-- The frames of a range. -/
def framesFrom (first last : Nat) : List Nat := (List.range (last + 1 - first)).map fun i => first + i

/-- The final payload of HOLDOVER_READ. -/
def deliveredBytes (n : Nat) : List Byte := leBytes 4 n ++ zeros 4

/-- Route 1: what refuses it, none where the session can carry the records (R183, R228). -/
def routeWelt (b takeId : Nat) (s : State) : Option Status :=
  let x := s.bay b
  if x.state = .streaming then some .busy
  else if x.state ≠ .opened then some .notPresent
  else if !(x.can 3) || decide (versionFormat x.version ≠ s.hold.takeFormat takeId) then some .denied
  else none

/-- The delivery by each route. -/
def deliverBy (takeId first last route b : Nat) (id : ReqId) (s : State) : State :=
  let frames := framesFrom first last
  if route = 2 then finish id .ok 0 (deliveredBytes frames.length) (each frames (mailRecord id takeId) s)
  else if route = 0 then
    if !s.res.present then respond id true .notPresent 0 [] s
    else
      let (k, s1) := copyRange id takeId frames 0 s
      finish id (if k = frames.length then .ok else .failed) 0 (deliveredBytes k) s1
  else
    match routeWelt b takeId s with
    | some st => respond id true st 0 [] s
    | none =>
      { s with hold := { s.hold with job := some ⟨id, takeId, first, last, route, b, first, 0⟩ },
               mbox := { s.mbox with claims := s.mbox.claims ++ [(.holdRing, id), (.bay b, id)] } }

/-- The effect of HOLDOVER_READ. -/
def holdReadAct (takeId first last route b : Nat) (id : ReqId) (s : State) : State :=
  if !(decide (takeId ∈ s.hold.takes)) then respond id true .notPresent 0 [] s
  else if first < s.hold.rangeFirst takeId ∨ s.hold.rangeLast takeId < last then respond id true .badParam 0 [] s
  else deliverBy takeId first last route b id s

/-- HOLDOVER_READ (R183). -/
def execHoldoverRead (r : Req) (takeId first last : U64) (route bay : Byte) (s : State) : Host.Outcome State Fault Refusal :=
  .next (command .holdoverRead r
    (fun t => fixed r 32
      (decide (first.toNat ≤ last.toNat) && decide (route.toNat ≤ 2) && decide (bay.toNat ≤ 1)
        && !(decide (route = 1 ∧ t.major r = 2 ∧ t.minor r < 2)))
      (decide (t.mode.mode = .ready) || (decide (route = 2) && decide (t.mode.mode = .service)))
      (if route = 1 then [.holdRing, .bay bay.toNat] else [.holdRing]))
    (holdReadAct takeId.toNat first.toNat last.toNat route.toNat bay.toNat) s)

/-! ## HOLDOVER_RELEASE (R184) -/

/-- Whether every frame of the range through a frame has been delivered. -/
def HoldUnit.deliveredThrough (h : HoldUnit) (takeId n : Nat) : Bool :=
  (framesFrom (h.rangeFirst takeId) n).all fun k => decide ((takeId, k) ∈ h.delivered)

/-- The entries of a take through a frame become RELEASED, and the ring unlocks when no locked take remains. -/
def HoldUnit.releaseThrough (h : HoldUnit) (takeId n now : Nat) : HoldUnit :=
  HoldUnit.unlock { h with
    entries := h.entries.map fun e =>
      if e.gov.take.takeId = takeId ∧ e.gov.n ≤ n ∧ e.locks = true then { e with state := .released, stateTime := now } else e }

/-- The effect of HOLDOVER_RELEASE. -/
def holdReleaseAct (takeId n flags : Nat) (id : ReqId) (s : State) : State :=
  let h := s.hold
  if !(decide (takeId ∈ h.takes)) then respond id true .notPresent 0 [] s
  else if n < h.rangeFirst takeId ∨ h.rangeLast takeId < n then respond id true .badParam 0 [] s
  else if !(flags.testBit 0) && !(h.deliveredThrough takeId n) then respond id true .denied 0 [] s
  else
    let s1 := if flags.testBit 0 then logEvent 0x0427 srcHold (n % 2 ^ 32) s else s
    let s2 := { s1 with hold := s1.hold.releaseThrough takeId n s1.time.module }
    respond id true .ok 0 (leBytes 4 s2.hold.takes.length ++ zeros 4) s2

/-- HOLDOVER_RELEASE (R184). -/
def execHoldoverRelease (r : Req) (takeId through : U64) (flags : Byte) (s : State) : Host.Outcome State Fault Refusal :=
  .next (command .holdoverRelease r (fun t => fixed r 24 (decide (flags.toNat ≤ 1)) t.recoveryMode [.holdRing])
    (holdReleaseAct takeId.toNat through.toNat flags.toNat) s)

/-! ## Failing blocks and banks (R178) -/

/-- A block fails: it takes a spare of its bank, or the ring shrinks by its sixteen pages. -/
def blockFail (b : Nat) (s : State) : State :=
  let h := s.hold
  let n := h.spares.getD b 0
  if 0 < n then logEvent 0x0421 srcHold b { s with hold := { h with spares := h.spares.set b (n - 1) } }
  else logEvent 0x0428 srcHold b { s with hold := { h with pages := h.pages - 16 } }

/-- HOLDOVER_BLOCK_FAIL (R178). -/
def execHoldoverBlockFail (bank : Fin 8) (s : State) : Host.Outcome State Fault Refusal :=
  .next (if s.pdOn 68 then blockFail bank.val s else s)

/-- A bank fails: the store is degraded, nothing locks the ring any more, and the sustainable rate no longer counts the store (R161). The
copies on its half of the banks are missed where they are read next. -/
def bankFail (b : Nat) (s : State) : State :=
  let h := s.hold
  let s1 := abandonJob { s with hold := { h with degraded := true, failed := h.failed.set b true, locked := false } }
  fire0 28 (logEvent 0x0422 srcHold b { s1 with res := { s1.res with bSus := bSusOf s1 } })

/-- HOLDOVER_BANK_FAIL (R178). -/
def execHoldoverBankFail (bank : Fin 8) (s : State) : Host.Outcome State Fault Refusal :=
  .next (if s.hold.failed.getD bank.val false then s else bankFail bank.val s)

end Sys2Proof.Machine
end

