-- ==== Sys2Proof/Machine/Domains.lean ====
section
/-! DEFINITION. Power domains (R401, R402, R404): which are on in each mode, what starts and stops with them, and the log that is saved before
they go and restored when PD71 returns (R453). -/

namespace Sys2Proof.Machine

/-! ## The domains of each mode (Table 16-2, R401) -/

/-- The order of an entry to READY, step by step (Table 16-4). Step 2. -/
def entryStep2 : List Nat := [70, 71, 72, 77, 79, 74, 75]

/-- Steps 4 to 6: frame timing and the ports, the hold-over store, and the stack. -/
def entryStep4 : List Nat := [76, 58, 57, 59] ++ ([68] ++ (List.range 8).map (· + 60)) ++
  ((List.range 8).map (· + 8) ++ List.range 8 ++ (List.range 16).map (· + 16))

/-- The whole order. -/
def entryOrder : List Nat := entryStep2 ++ entryStep4

/-- The domains that SERVICE powers. -/
def serviceDomains : List Nat := [55, 56] ++ (List.range 12).map (· + 60) ++ [73]

/-- The domains that DORMANT powers. -/
def dormantDomains : List Nat := [55, 56, 69, 73]

/-- The domains that a boot powers (R401). -/
def bootDomains : List Nat := [73, 70, 69, 68] ++ (List.range 8).map (· + 60) ++ [56, 55]

/-- Whether the module has a use for a domain: the tandem link and the memory port need their feature bits (R301). -/
def State.usable (s : State) (d : Nat) : Bool :=
  if d = 59 then s.cap 2 else if d = 57 ∨ d = 58 then s.cap 4 else true

/-! ## The saved log (R453) -/

/-- The writer empties the pending slots. -/
def drainLog (s : State) : State := each (s.log.slots ++ s.log.fatalSlots) (fun _ t => serveLog t) s

/-- The log is saved twice in the control partition, where PD71 is on. -/
def saveLog (s : State) : State :=
  if s.logOn then
    let t := drainLog s
    let l := t.log
    let c : LogCopy := ⟨l.entries, l.head, l.lost, l.ovf⟩
    { t with log := { l with saved := true, save1 := some c, save2 := some c } }
  else s

/-- The log with what a copy holds. -/
def LogUnit.withCopy (l : LogUnit) (c : LogCopy) : LogUnit :=
  let es := c.entries.map fun e => { e with restored := true }
  { l with entries := es, head := c.head, ovf := c.ovf, restored := true,
           latest := es.foldl (fun m e => put m e.report.source e.seq) [] }

/-- The log starts empty. -/
def LogUnit.emptied (l : LogUnit) : LogUnit := { l with entries := [], head := 0, ovf := [], restored := false, latest := [] }

/-- The log after PD71 has returned: from the first copy that passes its check, or empty, with event 0x0E07 where a save was made; then the
reports that PD-AO held, with HELD set. -/
def restoreLog (first second : Bool) (s : State) : State :=
  if s.pdOn 71 && s.log.restoreDue then
    let c := (if first then s.log.save1 else none).orElse fun _ => if second then s.log.save2 else none
    let held := s.log.buffer
    let l := { s.log with restoreDue := false, buffer := [] }
    let s1 := match c with
      | some x => { s with log := l.withCopy x }
      | none =>
        let t := { s with log := l.emptied }
        if s.log.saved then logWrite ⟨0x0E07, srcDump, s.time.module, s.frame.lastFrame, 0, 0⟩ false t else t
    each held (fun r t => logWrite r true t) s1
  else s

/-- LOG_RESTORE: `first` and `second` say which copies pass their checks. -/
def execLogRestore (first second : Bool) (s : State) : Host.Outcome State Fault Refusal := .next (restoreLog first second s)

/-! ## What starts with a domain -/

/-- A domain goes on: a PLL's lock is requested (R419), and with PD71 the log is to be restored. -/
def startDomain (d : Nat) (s : State) : State :=
  let t := { s with power := s.power.setDomain d true }
  if d = 71 then { t with log := { t.log.emptied with restoreDue := true, winSeq := 0, resCopy := false } }
  else if d = 72 then auxOn s
  else if d = 73 then requestLock .a t
  else if d = 74 then requestLock .b t
  else if d = 75 then requestLock .c t
  -- the counter takes the carried value at a CK00 edge (R306)
  else if d = 76 then { t with time := { t.time with carrier := .pickUp (nextEdge t.time.now) } }
  else t

/-- A domain without power good (R402). -/
def failDomain (d : Nat) (s : State) : State :=
  logEvent 0x0109 srcAo d
    { s with power := { (s.power.setDomain d false) with pgFailCnt := bump32 s.power.pgFailCnt 1 } }

/-- The domains of a list go on one by one; a domain of the list without power good ends it. The second part says that all are on. -/
def powerUp (bad : Option Nat) : List Nat → State → State × Bool
  | [], s => (s, true)
  | d :: ds, s =>
    if s.pdOn d || !s.usable d then powerUp bad ds s
    else if bad = some d then (failDomain d s, false)
    else powerUp bad ds (startDomain d s)

/-! ## What stops with a domain -/

/-- The tandem link goes off, and a join with it (R256). -/
def loseTandem (s : State) : State :=
  let s1 := endJoin s
  let t := s1.tandem
  s1.setTandem { t with up := false, join := .none, version := 0, partnerRole := 0, unacked := [], receiving := [], lastGood := none,
                         pairing := none, before := none, kept := none, queue := [] }

/-- The LTC reader without its signal; a generator that runs goes on. -/
def TimecodeUnit.deaf (t : TimecodeUnit) : TimecodeUnit :=
  let on := decide (t.tcSource = 2)
  { Reset.timecode with source := t.source, num := t.num, den := t.den, origin := t.origin, frame := t.frame, ltcOut := t.ltcOut,
                        tcSource := if on then 2 else 0, word := if on then t.word else 0, waiting := t.waiting }

/-- The frame timing engine and the sync block go off; the carrier keeps module time, and each timer does what HALT_BEH sets (R306, R325). -/
def loseTiming (s : State) : State :=
  let f := s.frame
  let y : SyncUnit := { s.sync with genlock := Reset.genlock, tc := s.sync.tc.deaf }
  { s with time := { s.time with carrier := .carrier },
           frame := { f with lastB := none, window := none, windows := 0, flying := none, pending := none, gateOpen := false, strobe := [], trigPulse := none },
           clk := { s.clk with genref := false, ltcck := false }, sync := y }

/-- What leaves with a domain. The retirement generation and the over-range counts outlast the power of the segments, and a warm reset zeroes them
(DESIGN CHOICE, log entry 67: R75 names the corrections and the retirement map). -/
def stopDomain (d : Nat) (s : State) : State :=
  let off (t : State) : State := { t with power := t.power.setDomain d false }
  if d < 8 then off { s with sensor := { s.sensor with sites := [] } }
  else if d < 16 then off { s with cal := { s.cal with wordsLoaded := false }, sensor := { s.sensor with words := Reset.sensor.words } }
  else if d < 32 then off { s with conv := { Reset.conv with retireGen := s.conv.retireGen, ovr := s.conv.ovr } }
  else if d = 57 then off (loseReservoir s)
  else if d = 59 then off (loseTandem s)
  else if d = 68 then off (abandonJob s)
  else if d = 71 then off { s with log := { s.log.emptied with slots := [], fatalSlots := [], winSeq := 0, resCopy := false, restoreDue := false } }
  else if d = 72 then
    -- a capture of AUX_SYSCAL keeps its converters (R361)
    if s.aux.in0.capture.isSome || s.aux.in1.capture.isSome then s else auxOff s
  else if d = 73 then off (pllOff .a s)
  else if d = 74 then off (pllOff .b s)
  else if d = 75 then off (pllOff .c s)
  else if d = 76 then off (loseTiming s)
  else if d = 77 then
    -- a transaction of ABUS_XFER keeps its engine (R338)
    if s.bus.abus0.xfer.isSome || s.bus.abus1.xfer.isSome then { s with bus := { s.bus with dormantPower := true } } else abusOff s
  else if d = 79 then off { s with thermal := { s.thermal with outOfBand := false } }
  else off s

/-- Every domain, parents before their children. -/
def allDomains : List Nat := [73, 56, 55, 69] ++ entryOrder ++ viewDomains ++ [78]

/-- Every domain that is on and not in a list goes off, in the reverse order of an entry to READY (R404). Where PD71 goes, the log is saved
before any domain does (R453), and PD-AO holds what is reported after. -/
def powerDownTo (keep : List Nat) (drops : List (Nat × Nat)) (s : State) : State :=
  isolate drops s (each (allDomains.reverse.filter fun d => !(decide (d ∈ keep))) (fun d t => if t.power.en.getD d false then stopDomain d t else t)
    (if 71 ∈ keep then s else saveLog s))

/-! ## Service procedures -/

/-- The domains that a procedure of CAL_RUN adds to those of SERVICE: the stack, the conditioning lanes and record formatters, the display and analysis
taps, and what they need (R232, R401, Table 6-1). -/
def procedureDomains : List Nat := allDomains.filter fun d => decide (d < 45) || decide (d ∈ [46, 72, 74, 76, 79])

/-- A procedure's domains go off again, in the reverse order. -/
def stopProcedure (s : State) : State :=
  each procedureDomains.reverse (fun d t => if t.power.en.getD d false then stopDomain d t else t) (endReadout s)

/-- The same where a procedure has read out. -/
def endProcedure (s : State) : State := if s.pdOn 44 then stopProcedure s else s
end Sys2Proof.Machine
end

