-- ==== Sys2Proof/Machine/RegMap.lean ====
section
/-! DEFINITION. What a read of each register region gives (R283, R300 to R305 and the register tables): the map that host software and the
dump engine read. Reads change nothing but CAP_RISE, which has a command of its own. -/

namespace Sys2Proof.Machine

/-- A 32-bit field. -/
def w32 (n : Nat) : List Byte := leBytes 4 n

/-- A 64-bit field. -/
def w64 (n : Nat) : List Byte := leBytes 8 n

/-- A privileged field: zero to a master other than the keeper core (R295). -/
def priv (keeper : Bool) (bs : List Byte) : List Byte := if keeper then bs else zeros bs.length

/-! ## Identification (Table 12-5) -/

/-- SUBSYSTEM: fuse zone 5, or the Elilent values where it holds none (R193). -/
def State.subsystem (s : State) : Nat :=
  let v := s.fuse.word 5 0
  let d := s.fuse.word 5 1
  if v = 0 ∧ d = 0 then 0x1E9C + 2 ^ 16 else v % 2 ^ 16 + 2 ^ 16 * (d % 2 ^ 16)

/-- FW_VERSION and FW_SVN of the running image; zero where none runs. -/
def State.fwVersion (s : State) : Nat := (s.trust.running.map (·.version)).getD 0
def State.fwSvn (s : State) : Nat := (s.trust.running.map (·.svn)).getD 0

/-- Bytes 0x000 to 0x03F, which PF1 shows too. -/
def State.idHead (s : State) : List Byte :=
  w32 0x4449464D ++ leBytes 2 1 ++ leBytes 1 3 ++ leBytes 1 0 ++ leBytes 1 (bit s.mono 0) ++ leBytes 1 (s.fuse.word 0 2 / 256)
    ++ leBytes 1 (bit s.trust.activeB 0) ++ leBytes 1 3 ++ w32 s.fwVersion ++ w64 s.serial ++ w32 s.fwSvn ++ w32 (s.fuse.word 2 0)
    ++ leBytes 2 0xF ++ leBytes 2 3 ++ leBytes 2 80 ++ leBytes 2 60 ++ leBytes 1 6 ++ leBytes 1 4 ++ leBytes 1 4 ++ leBytes 1 16
    ++ leBytes 1 3 ++ leBytes 1 2 ++ leBytes 2 4096 ++ leBytes 2 18560 ++ leBytes 2 9280 ++ leBytes 2 18432 ++ leBytes 2 9216
    ++ leBytes 2 3800 ++ leBytes 2 2784 ++ w32 2048

/-- The identification block. -/
def State.idBlock (s : State) : List Byte :=
  let h := padTo 4092 (s.idHead ++ w32 s.subsystem ++ zeros 28 ++ ((List.range 8).flatMap fun i => w32 (s.fuse.word 5 (2 + i))))
  h ++ w32 (crc32c h)

/-! ## Mailboxes, the event ring and MSI-X (Tables 11-2 and 11-12, R197) -/

/-- STATE of a request channel. -/
def Channel.stateWord (c : Channel) (auth : Bool) : Nat :=
  let v := c.version
  (if c.halt ≠ 0 then 2 else bit c.enable 0) + 2 ^ 4 * c.halt + 2 ^ 8 * v.1 + 2 ^ 16 * v.2 + bit auth 24

/-- The registers of a request channel. -/
def Channel.regBytes (c : Channel) (auth : Bool) : List Byte :=
  w64 c.sqBase.toNat ++ w64 c.cqBase.toNat ++ w32 c.entries.toNat ++ w32 (bit c.enable 0) ++ w32 c.sqTail.toNat ++ w32 c.sqHead.toNat
    ++ w32 c.cqTail.toNat ++ w32 c.cqHead.toNat ++ w32 (c.stateWord auth) ++ w32 c.inflight ++ w32 c.rejectCnt ++ zeros 12

/-- The registers of the event ring. -/
def EventRing.regBytes (r : EventRing) : List Byte :=
  w64 r.base.toNat ++ w32 r.entries.toNat ++ w32 (bit r.enable 0) ++ w32 r.mask.toNat ++ w32 r.produced.toNat ++ w32 r.consumed.toNat
    ++ w32 r.lost ++ zeros 32

/-- The MSI-X table of a function. -/
def Function.tableBytes (f : Function) : List Byte :=
  f.table.flatMap fun e => w64 e.address.toNat ++ w32 e.data.toNat ++ w32 (bit e.masked 0)

/-- The pending-bit array. -/
def Function.pbaBytes (f : Function) : List Byte := w64 (bitsOf 64 fun n => decide (n ∈ f.pba))

/-! ## The Welt page (Table 9-2) -/

/-- The page of a bay. -/
def Session.pageBytes (x : Session) : List Byte :=
  padTo 1024 x.info ++ w64 x.pageLimit ++ w32 x.descLimit ++ w32 x.ackProducer ++ w32 x.openAckSession ++ leBytes 1 x.openAckVersion
    ++ zeros 3051 ++ (List.range 384).flatMap fun i => padTo 32 ((look x.ackRing (0x1000 + 32 * i)).getD [])

/-! ## Timers and timebase (Tables 13-3 to 13-8) -/

/-- The states of the genlock meter. -/
def meterNum (m : MeterState) : Nat := match m with
  | .absent => 0
  | .detected => 1
  | .locked => 2
  | .holdover => 3

/-- TIMEBASE. -/
def State.timebaseBytes (s : State) : List Byte :=
  w32 s.time.module ++ w32 (s.time.module / 2 ^ 32) ++ w32 (dstate s + bit s.time.carried 8) ++ w32 (intField 32 s.offsetNow)
    ++ w32 s.time.setCnt ++ zeros 12

/-- GENLOCK_METER. -/
def GenlockUnit.regBytes (g : GenlockUnit) : List Byte :=
  w64 (g.lastStart / 256) ++ w32 g.per ++ w32 (intField 32 g.phase) ++ w32 g.frameCnt ++ w32 g.missCnt ++ zeros 8

/-- LTC_READER. -/
def TimecodeUnit.regBytes (t : TimecodeUnit) : List Byte :=
  w64 t.lastWord.toNat ++ w64 t.lastTime ++ w32 t.bitPeriod ++ w32 t.goodCnt ++ w32 t.errCnt ++ zeros 4

/-- SYNC_STATUS. -/
def SyncUnit.statusBytes (y : SyncUnit) : List Byte :=
  let g := y.genlock
  let t := y.tc
  w32 (meterNum g.state + 2 ^ 4 * g.struct + bit g.selected 16 + bit g.clamped 17)
    ++ w32 (bit t.present 0 + bit t.reversed 1 + bit (t.lastWord.getLsbD 10) 2 + 2 ^ 8 * t.tcSource + bit t.ltcOut 10)
    ++ w64 t.word.toNat ++ w32 g.reacqCnt ++ w32 g.holdoverCnt ++ zeros 8

/-- A timer channel; SLOW where it counts one per CK00 period (R325). -/
def Timer.regBytes (t : Timer) (slow : Bool) : List Byte :=
  w32 t.ctrl.toNat ++ zeros 4 ++ w32 t.count.toNat ++ w32 t.compare.toNat
    ++ w32 (bit t.running 0 + bit (t.stuck && t.watches) 1 + bit slow 2 + bit t.capValid 3 + bit t.locked 4) ++ w32 t.capCnt.toNat
    ++ w32 t.capRise.toNat ++ w32 t.snapFall.toNat ++ w32 t.stuckMs ++ w32 t.matchCnt ++ w32 t.ovfCnt ++ w32 t.glitchCnt ++ zeros 16

/-- The region of PD76. -/
def State.timerRegion (s : State) : List Byte :=
  let gap (bs : List Byte) : List Byte := padTo 64 bs
  gap s.timebaseBytes ++ gap s.sync.genlock.regBytes ++ gap s.sync.tc.regBytes ++ gap s.sync.statusBytes
    ++ s.sync.timers.flatMap fun t => t.regBytes (decide (s.mode.mode = .dormant ∧ field t.ctrl 6 2 = 2) && t.running)

/-! ## Buses and auxiliary converters (Tables 14-4 and 14-7) -/

/-- INBOX_FULL: sixteen entries not consumed (R349). -/
def Bus.inboxFull (x : Bus) : Bool := decide (16 ≤ (x.inProduced - x.inConsumed).toNat)

/-- An inbox entry. -/
def InboxEntry.regBytes (e : InboxEntry) : List Byte :=
  leBytes 1 e.address ++ leBytes 1 e.bytes.length ++ zeros 6 ++ w64 e.time ++ padTo 32 e.bytes

/-- A bus region. -/
def Bus.regBytes (x : Bus) : List Byte :=
  let st := bit x.ctlBusy 0 + bit x.tgtBusy 1 + bit x.faulted 2 + bit x.engineIdle 3 + bit x.inboxFull 4 + bit x.lensOk 5
  padTo 256 (w32 x.ctrl.toNat ++ w32 (x.timingNext.getD x.timing).toNat ++ w32 (x.timeoutNext.getD x.timeout).toNat ++ w32 x.tgtAddr.toNat
    ++ w32 x.tgtMode.toNat ++ w32 st ++ zeros 8 ++ w32 x.arbLost ++ w32 x.busErr ++ w32 x.timeouts ++ w32 x.nacks ++ w32 x.aborts
    ++ w32 x.pecErr ++ w32 x.clears ++ w32 x.sleepNacks ++ w32 x.lensCtrl.toNat ++ w32 x.lensLen.toNat ++ w32 x.lensOkCnt
    ++ w32 x.lensFailCnt ++ zeros 16 ++ w32 x.notifyMask.toNat ++ w32 x.notifyCtrl.toNat ++ w32 x.notifyCnt ++ w32 x.notifyFail
    ++ w32 x.inProduced.toNat ++ w32 x.inConsumed.toNat ++ w32 x.inLost ++ zeros 4 ++ w32 x.outLen.toNat ++ padTo 32 x.outData)
    ++ (List.range 16).flatMap fun k => match look x.inbox k with
      | some e => e.regBytes
      | none => zeros 48

/-- The registers of an input's calibration and its reading. -/
def AuxInput.regBytes (i : AuxInput) : List Byte := signed32 i.z ++ signed32 i.g

/-- An AUXIN reading; 0x8000_0000 where there is none (R359). -/
def AuxInput.readingWord (i : AuxInput) : Nat := match i.reading with
  | some v => intField 32 v
  | none => 0x80000000

/-- The region of the auxiliary converters. -/
def AuxUnit.regBytes (a : AuxUnit) : List Byte :=
  let full := decide (256 ≤ (a.produced - a.consumed).toNat)
  let st := bit (!a.list.isEmpty) 0 + bit a.xchkFault 1 + bit full 2 + bit a.in0.capture.isSome 3 + bit a.in1.capture.isSome 4
    + 2 ^ 8 * a.list.length
  padTo 0x800 (w32 a.ctrl.toNat ++ w32 a.xchkLimit.toNat ++ w32 st ++ leBytes 2 (intField 16 a.codeA) ++ leBytes 2 (intField 16 a.codeB)
    ++ w32 a.pass.toNat ++ w32 a.xchkFaultCnt ++ w32 a.produced.toNat ++ w32 a.consumed.toNat ++ w32 a.lost ++ zeros 4
    ++ a.in0.regBytes ++ a.in1.regBytes ++ w32 a.in0.readingWord ++ w32 a.in1.readingWord
    ++ padTo 128 (a.list.flatMap fun e => w32 (e.channel + 2 ^ 8 * e.converter + bit e.queue 9 + bit true 31))
    ++ padTo 128 (a.results.flatMap fun r => leBytes 2 (intField 16 r.value) ++ leBytes 1 r.pass ++ leBytes 1 (bit r.valid 0 + bit r.xchk 1)))
    ++ (List.range 256).flatMap fun k => match look a.queue k with
      | some q => leBytes 2 (intField 16 q.value) ++ leBytes 1 q.channel ++ leBytes 1 (q.entry % 32 + 2 ^ 5 * q.converter + bit q.xchk 6)
        ++ w32 q.pass
      | none => zeros 8

/-! ## Clocks and power (Tables 17-6 and 16-5) -/

/-- PLL_STATE of one PLL. -/
def pllStateNum (x : PllState) : Nat := match x with
  | .off => 0
  | .locking => 1
  | .locked => 2
  | .holdover => 3
  | .failed => 4

/-- A byte of PLL_STATE. -/
def Pll.stateByte (p : Pll) : Nat :=
  if p.state = .off then 0
  else pllStateNum p.state + bit p.onSafe 3 + bit p.refPresent 4 + bit p.agrees 5

/-- The VCO frequency that VCO_KHZ shows: 0 while OFF. -/
def Pll.vcoWord (p : Pll) : Nat := if p.state = .off then 0 else p.vcoKhz

/-- Whether a band entry is in use. -/
def ClockUnit.bandInUse (c : ClockUnit) (e : Nat) : Bool :=
  [c.pllA, c.pllB, c.pllC].any fun p => decide (p.band = some e) && decide (p.state ≠ .off)

/-- CLOCKS. -/
def State.clockRegion (s : State) (keeper : Bool) : List Byte :=
  let c := s.clk
  padTo 0x100 (w32 (c.pllA.stateByte + 2 ^ 8 * c.pllB.stateByte + 2 ^ 16 * c.pllC.stateByte + bit c.onHkosc 24 + bit c.xrefPresent 25)
    ++ priv keeper (w32 s.time.ref) ++ zeros 4 ++ priv keeper (leBytes 2 c.ditherA ++ leBytes 2 c.ditherB ++ w32 c.ditherC ++ w32 c.outCfg.toNat)
    ++ w32 c.lockLoss ++ w32 c.holdoverCnt ++ w32 c.relockCnt ++ w32 c.relockFail ++ w32 c.isoDrop ++ zeros 4
    ++ w64 s.ckRunBits ++ w64 s.ckSafeBits ++ w32 c.pllA.vcoWord ++ w32 c.pllB.vcoWord ++ w32 c.pllC.vcoWord)
    ++ padTo 256 (c.bands.zipIdx.flatMap fun p =>
      w32 p.1.fMin ++ w32 p.1.fMax ++ w32 p.1.code ++ w32 (bit p.1.enabled 0 + bit (c.bandInUse p.2) 1))

/-- HOLD_STATE. -/
def holdStateNum (x : HoldState) : Nat := match x with
  | .charging => 0
  | .ready => 1
  | .discharging => 2
  | .atRetire => 3

/-- POWER. -/
def PowerUnit.regBytes (p : PowerUnit) : List Byte :=
  let bits (l : List Bool) : List Byte := leBytes 16 (bitsOf 80 fun d => l.getD d false)
  padTo 0x80 (bits p.en ++ bits p.good ++ bits p.iso ++ w32 (bit p.pfcEn 0) ++ w32 p.inputWord ++ leBytes 2 p.acVolts ++ leBytes 2 p.acHz
    ++ leBytes 2 p.dcVolts ++ zeros 2 ++ leBytes 2 p.acPower ++ leBytes 2 p.dcPower ++ leBytes 2 p.holdVolts ++ leBytes 2 (holdStateNum p.holdState)
    ++ leBytes 2 (p.loadCap.getD 0xFFFF) ++ zeros 2 ++ w32 p.rideCnt ++ w32 p.transferCnt ++ w32 p.lastRide ++ w32 p.pgFailCnt
    ++ w32 p.loadLimitCnt) ++ padTo 0x180 ((List.range 81).flatMap fun d => leBytes 2 (p.pdPwr.getD d 0))

/-! ## Fuses and the calibration store (Tables 15-4 and 15-6) -/

/-- The device secret in zone 7 (R372). -/
def secretWord (zone w : Nat) : Bool := decide (zone = 7 ∧ w < 12)

/-- The shadows. -/
def FuseUnit.shadowBytes (f : FuseUnit) (keeper : Bool) : List Byte :=
  (List.range 8).flatMap fun z => (List.range 128).flatMap fun w =>
    if secretWord z w && !keeper then zeros 4 else w32 (f.word z w)

/-- A byte of ZONE_STATE. -/
def FuseUnit.zoneState (f : FuseUnit) (z : Nat) : Nat :=
  if f.sensed then
    bit (f.finalised.getD z false) 0 + bit (f.digestOk.getD z false) 1 + bit (f.marginal.any fun q => decide (q.1 = z)) 2
      + bit (f.failed.getD z false) 3
  else 0

/-- FUSE_CTRL. -/
def FuseUnit.ctrlBytes (f : FuseUnit) (keeper : Bool) : List Byte :=
  padTo 256 (zeros 4 ++ priv keeper (w32 f.addr.toNat ++ w32 f.data.toNat)
    ++ w32 (bit f.busy 0 + bit f.pd78 1 + bit f.lastFailed 2 + 2 ^ 4 * f.pulses) ++ priv keeper (w32 f.readback.toNat) ++ w32 f.opCnt
    ++ w32 f.failCnt ++ zeros 4 ++ ((List.range 8).flatMap fun z => leBytes 1 (f.zoneState z)) ++ zeros 8
    ++ priv keeper (padTo 16 (f.declared.flatMap fun d => w32 d.toNat))
    ++ (List.range 8).flatMap fun z => leBytes 16 (bitsOf 128 fun w => decide ((z, w) ∈ f.marginal)))

/-- CAL_STORE. -/
def CalUnit.regBytes (c : CalUnit) : List Byte :=
  let id (x : Option CalSet) : Nat := (x.map (·.setId)).getD 0
  padTo 64 (w32 (bit c.useB 0 + bit c.copyA.isSome 1 + bit c.copyB.isSome 2 + bit c.run.isSome 3 + bit c.wordsLoaded 4)
    ++ w32 (id c.inForce) ++ w64 ((c.inForce.map (·.check)).getD 0) ++ w32 c.count ++ zeros 4 ++ w64 c.lastCalTime ++ w32 (id c.copyA)
    ++ w32 (id c.copyB) ++ w32 c.loadCnt ++ w32 c.loadRetryCnt)

/-! ## The event log window (Table 19-4) -/

/-- LOG_OLDEST: SEQ of the oldest entry held, LOG_HEAD where none is. -/
def LogUnit.oldest (l : LogUnit) : Nat := match l.entries.head? with
  | some e => e.seq
  | none => l.head

/-- OVF_TOTAL. -/
def LogUnit.ovfTotal (l : LogUnit) : Nat := min max32 (sumNat (l.ovf.map (·.2)))

/-- Whether the dump engine writes a dump now: after step 3 of Table 19-5. -/
def State.dumpWriting (s : State) : Bool := match s.dump.fatal with
  | some f => !f.noDump && s.frame.readout.isNone
  | none => false

/-- LOG_STATUS. -/
def State.logStatus (s : State) : Nat :=
  let l := s.log
  bit (decide (Config.logEntries ≤ l.entries.length)) 0 + bit (decide (Config.fatalEntries ≤ l.fatalHeld)) 1 + bit l.restored 2
    + bit s.dumpWriting 3 + bit s.dump.fatalPending 4

/-- Bytes 0x000 to 0x13F. -/
def State.logHead (s : State) : List Byte :=
  let l := s.log
  padTo 0x40 (w32 l.head ++ w32 l.oldest ++ w32 l.entries.length ++ w32 l.fatalHeld ++ w32 l.lost ++ w32 l.ovfTotal ++ w32 (bit l.resCopy 0)
    ++ w32 s.logStatus ++ w64 (s.dump.resOffset.getD (2 ^ 64 - 1)) ++ w32 s.dump.seq ++ w32 l.winSeq)
    ++ padTo 256 ((List.range 82).flatMap fun d => leBytes 2 ((look l.ovf d).getD 0))

/-- ENTRY_WIN. -/
def LogUnit.window (l : LogUnit) : List Byte :=
  (List.range 64).flatMap fun i =>
    match l.entries.find? fun e => decide (e.seq = (l.winSeq + i) % 2 ^ 32) with
    | some e => e.bytes
    | none => zeros 32

/-- The event log window. -/
def State.logRegion (s : State) : List Byte := padTo 0x800 s.logHead ++ s.log.window

/-! ## The ledger view and the voting block (Tables 12-8 to 12-10) -/

/-- A slot of the ledger view. -/
def slotBytes (gen : Nat) (e : Option LedgerEntry) : List Byte := match e with
  | none => padTo 64 (w32 gen)
  | some x =>
    -- the classes of its own that have latched
    let own := x.classes.minus (x.classes.minus x.latched)
    padTo 64 (w32 gen ++ w32 x.seq ++ leBytes 1 (if own = Classes.none then 1 else 2) ++ leBytes 1 x.classes.bits
      ++ leBytes 1 own.bits ++ leBytes 1 (bit x.slipped 0 + bit x.mirrored 1 + bit (decide (x.cancelled ≠ Classes.none)) 2) ++ zeros 4
      ++ w64 x.target ++ w64 x.applied ++ w64 x.accept ++ leBytes 1 x.chan ++ zeros 1 ++ leBytes 2 x.tag.toNat)

/-- LEDGER_VIEW. -/
def State.ledgerRegion (s : State) : List Byte :=
  let l := s.ledger
  padTo 0x100 (w32 l.waiting.length ++ w32 l.nextSeq ++ w64 s.frame.lastFrame ++ w32 l.govSensor ++ w32 l.govConv ++ w32 l.govCond
    ++ w32 l.govRec ++ w32 l.slipCnt ++ w32 l.cancelCnt ++ w32 l.refuseCnt)
    ++ (List.range 16).flatMap fun i => slotBytes (l.gens.getD i 0) (l.slots.getD i none)

/-- PRIV_STATE: BOOT, SECURE, SERVICE or DEBUG, and the role of CH2. -/
def State.privState (s : State) : Nat :=
  (if s.trust.debugOpen then 3 else if s.mbox.auth.role ≠ 0 then 2 else if s.fuse.sensed && s.trust.running.isSome then 1 else 0)
    + 2 ^ 4 * s.mbox.auth.role

/-- FUSE_LOCK. -/
def State.fuseLock (s : State) : Nat :=
  if s.fuse.sensed then (bitsOf 8 fun z => s.fuse.finalised.getD z false) + bit ((s.fuse.word 3 12).testBit 0) 8 else 0

/-- VOTE_REJ. -/
def State.voteRegion (s : State) : List Byte :=
  let r := s.regs
  let hang := match r.waiting with
    | some a => a.counted
    | none => false
  w32 r.voteRepairCnt ++ w32 (r.voteField + 2 ^ 16 * r.voteCopy) ++ w64 r.voteTime ++ w32 (owned (s.pdOn 70) s.privState) ++ w32 s.fuseLock ++ zeros 8
    ++ w32 r.rejCnt ++ w32 (r.rejMaster + 2 ^ 4 * r.rejReason) ++ w32 r.rejOffset ++ w32 r.rejData ++ w64 r.rejTime ++ w32 r.hangCnt
    ++ w32 (r.hangOffset + 2 ^ 24 * r.hangClock + bit hang 31)

/-! ## Viewing rings (Table 10-5) -/

/-- STATE of a ring. -/
def viewStateNum (x : ViewState) : Nat := match x with
  | .stopped => 0
  | .armed => 1
  | .running => 2

/-- The registers of a ring. -/
def ViewRing.regBytes (r : ViewRing) : List Byte :=
  w64 r.descBase.toNat ++ w32 r.descEntries.toNat ++ w32 r.posted.toNat ++ w64 r.posAddr.toNat ++ w32 r.produced.toNat
    ++ w32 (viewStateNum r.state + 2 ^ 4 * r.reason) ++ w32 r.delivered ++ w32 r.skipped ++ w32 r.abandoned ++ w32 r.timeouts
    ++ w64 r.lastFrame ++ zeros 8

/-! ## The regions (Table 12-1) -/

/-- A region: its offset, its length, and the power domain, 80 for PD-AO. -/
structure Region where
  base : Nat
  len : Nat
  domain : Nat
  deriving DecidableEq, Repr

/-- The regions of PF0. -/
def regions0 : List Region :=
  [⟨0x00000, 4096, 55⟩, ⟨0x01000, 64, 55⟩, ⟨0x02000, 64, 55⟩, ⟨0x03000, 64, 55⟩, ⟨0x04000, 4096, 80⟩, ⟨0x08000, 16384, 55⟩,
   ⟨0x0C000, 16384, 55⟩, ⟨0x10000, 1024, 55⟩, ⟨0x18000, 8, 55⟩, ⟨0x20000, 1280, 76⟩, ⟨0x22000, 1024, 77⟩, ⟨0x22400, 1024, 77⟩,
   ⟨0x22800, 1024, 80⟩, ⟨0x24000, 4096, 72⟩, ⟨0x26000, 512, 80⟩, ⟨0x28000, 512, 80⟩, ⟨0x2A000, 4096, 80⟩, ⟨0x2B000, 256, 80⟩,
   ⟨0x2C000, 64, 70⟩, ⟨0x2E000, 4096, 71⟩, ⟨0x30000, 1280, 69⟩, ⟨0x38000, 64, 80⟩]

/-- The regions of PF1. -/
def regions1 : List Region :=
  [⟨0x0000, 64, 55⟩, ⟨0x1000, 64, 55⟩, ⟨0x2000, 192, 55⟩, ⟨0x3000, 512, 55⟩, ⟨0x8000, 512, 55⟩, ⟨0x9000, 8, 55⟩]

/-- The region of a function that holds an offset. -/
def regionAt (pf1 : Bool) (off : Nat) : Option Region :=
  (if pf1 then regions1 else regions0).find? fun r => decide (r.base ≤ off ∧ off < r.base + r.len)

/-- What a region of PF0 holds. -/
def region0 (base : Nat) (keeper : Bool) (s : State) : List Byte :=
  if base = 0x00000 then s.idBlock
  else if base = 0x01000 then s.mbox.c0.regBytes false
  else if base = 0x02000 then s.mbox.c2.regBytes (decide (s.mbox.auth.role ≠ 0))
  else if base = 0x03000 then s.mbox.ring.regBytes
  else if base = 0x04000 then s.mirror
  else if base = 0x08000 then s.take.a.pageBytes
  else if base = 0x0C000 then s.take.b.pageBytes
  else if base = 0x10000 then s.link.pf0.tableBytes
  else if base = 0x18000 then s.link.pf0.pbaBytes
  else if base = 0x20000 then s.timerRegion
  else if base = 0x22000 then s.bus.abus0.regBytes
  else if base = 0x22400 then s.bus.abus1.regBytes
  else if base = 0x22800 then s.bus.hbus.regBytes
  else if base = 0x24000 then s.aux.regBytes
  else if base = 0x26000 then s.clockRegion keeper
  else if base = 0x28000 then s.power.regBytes
  else if base = 0x2A000 then s.fuse.shadowBytes keeper
  else if base = 0x2B000 then s.fuse.ctrlBytes keeper
  else if base = 0x2C000 then s.cal.regBytes
  else if base = 0x2E000 then s.logRegion
  else if base = 0x30000 then s.ledgerRegion
  else s.voteRegion

/-- What a region of PF1 holds. -/
def region1 (base : Nat) (s : State) : List Byte :=
  if base = 0x0000 then s.idHead
  else if base = 0x1000 then s.mbox.c1.regBytes false
  else if base = 0x2000 then (s.view.rings.take 3).flatMap ViewRing.regBytes
  else if base = 0x3000 then (s.view.rings.drop 3).flatMap ViewRing.regBytes
  else if base = 0x8000 then s.link.pf1.tableBytes
  else s.link.pf1.pbaBytes

/-- Whether the domain of a region is on. -/
def Region.on (r : Region) (s : State) : Bool := decide (r.domain = 80) || s.pdOn r.domain

/-- A region as a master reads it: zero while its domain is off (R296). -/
def Region.read (r : Region) (pf1 keeper : Bool) (s : State) : List Byte :=
  if r.on s then padTo r.len (if pf1 then region1 r.base s else region0 r.base keeper s) else zeros r.len

/-- The 32 bits at an offset of BAR0: zero where no region covers it (R283). -/
def readReg (pf1 keeper : Bool) (off : Nat) (s : State) : Nat :=
  match regionAt pf1 off with
  | none => 0
  | some r => leNat (((r.read pf1 keeper s).drop (off - r.base)).take 4)

end Sys2Proof.Machine
end

