-- ==== Sys2Proof/Machine/Dump.lean ====
section
/-! DEFINITION. The state dump (R458 to R460), the commands of chapter 19 that read the log and the dump, and the writer of the log (R450 to
R452, R462, R463, R483). -/

namespace Sys2Proof.Machine

/-! ## Sections (Table 19-7) -/

/-- The domains that own registers, in order. -/
def registerDomains : List Nat := [55, 69, 70, 71, 72, 76, 77, 80]

/-- Where the region of PD76 waits on a stopped clock: the genlock meter, or the LTC reader (R297, R459). -/
def State.stopsAt (s : State) (r : Region) : Option Nat :=
  if r.base ≠ 0x20000 ∨ r.domain ≠ 76 then none
  else if s.clockStopped 3 then some 0x40
  else if s.clockStopped 59 then some 0x80 else none

/-- The bytes of regions in order; from a read that waits on the rest of the section is zero, and the section is incomplete (R459). -/
def sectionBytes : List (List Byte × Option Nat) → List Byte × Bool
  | [] => ([], false)
  | (bs, some k) :: l => (padTo (bs.length + sumNat (l.map (·.1.length))) (bs.take k), true)
  | (bs, none) :: l => (bs ++ (sectionBytes l).1, (sectionBytes l).2)

/-- The registers of a domain as the dump engine reads them, P fields included. -/
def domainBytes (d : Nat) (s : State) : List Byte × Bool :=
  let of (rs : List Region) : List Region := rs.filter fun r => decide (r.domain = d)
  sectionBytes ((of regions0).map (fun r => (r.read false true s, s.stopsAt r)) ++ (of regions1).map (fun r => (r.read true true s, none)))

/-- A section of registers. -/
def registerSection (d : Nat) (s : State) : DumpSection :=
  let b := domainBytes d s
  ⟨1, d, b.2, false, b.1⟩

/-- The sixteen ledger slots, each with its items. -/
def ledgerSection (s : State) : List Byte :=
  (List.range 16).flatMap fun i =>
    let e := s.ledger.slots.getD i none
    slotBytes (s.ledger.gens.getD i 0) e ++ ((e.map (·.settings)).getD []).flatMap fun x => mirrorItem x s.settings

/-- A bay: its page, and 32 bytes of state, DESC_SEQ, SEND and DUR. -/
def weltSection (x : Session) (s : State) : List Byte :=
  x.pageBytes ++ leBytes 4 (sessCode x.state) ++ w32 x.descSeq ++ w32 s.res.send.page ++ w64 s.res.send.seq ++ w32 s.res.dur.page ++ w64 s.res.dur.seq

/-- The sections of a dump, in the order of the table. The firmware blocks are free values. -/
def dumpSections (f : FatalSeq) (s : State) : List DumpSection :=
  let on (d : Nat) : Bool := decide (d = 80) || f.pdOn.getD d false
  let fw (core : Nat) : List Byte :=
    (List.range (Config.freeFirmwareLen (s.free + core)).val).map fun i => Config.freeFirmwareByte (s.free + core) i
  (registerDomains.filter on).map (fun d => registerSection d s)
    ++ [⟨2, 0, false, false, s.logHead ++ s.log.entries.flatMap LogEntry.bytes⟩, ⟨3, 0, false, false, ledgerSection s⟩,
        ⟨4, 0, false, false, Config.freeCrossings s.free⟩, ⟨5, 0, false, false, weltSection s.take.a s⟩,
        ⟨5, 1, false, false, weltSection s.take.b s⟩, ⟨6, 0, false, false, fw 0⟩, ⟨6, 1, false, false, fw 1⟩, ⟨6, 2, false, false, fw 2⟩]

/-! ## The file (Table 19-6) -/

/-- Sections laid out from an offset on, each at a multiple of 4 KiB: the directory and the bytes. An omitted section has no bytes. -/
def layOut : List DumpSection → Nat → List Byte × List Byte
  | [], _ => ([], [])
  | x :: xs, at_ =>
    if x.omitted then
      let r := layOut xs at_
      (leBytes 2 x.kind ++ leBytes 1 x.inst ++ leBytes 1 2 ++ zeros 12 ++ r.1, r.2)
    else
      let start := roundUp at_ 4096
      let r := layOut xs (start + x.bytes.length)
      (leBytes 2 x.kind ++ leBytes 1 x.inst ++ leBytes 1 (bit x.incomplete 0) ++ w32 start ++ w32 x.bytes.length ++ w32 (crc32c x.bytes) ++ r.1,
       zeros (start - at_) ++ x.bytes ++ r.2)

/-- A dump as bytes. -/
def dumpBytes (f : FatalSeq) (seq : Nat) (cut : Bool) (xs : List DumpSection) (s : State) : List Byte :=
  let r := layOut xs 4096
  let flags := bit (xs.any fun x => x.incomplete || x.omitted) 0 + bit cut 1
  let head := padTo 0x100 (w32 0x5044464D ++ leBytes 2 1 ++ leBytes 2 0x1000 ++ w32 (4096 + r.2.length + 8) ++ leBytes 2 f.cause
      ++ leBytes 2 xs.length ++ w64 f.time ++ w64 f.frame ++ w64 s.serial ++ w32 s.fwVersion ++ w32 ((s.cal.inForce.map (·.setId)).getD 0)
      ++ w64 f.takeId ++ leBytes 1 f.mode ++ leBytes 1 flags ++ zeros 2 ++ w32 seq ++ leBytes 16 (bitsOf 80 fun d => f.pdOn.getD d false)
      ++ w64 (bitsOf 60 fun c => f.ckRun.getD c false) ++ w32 f.faultSummary) ++ padTo 0x400 r.1
  let page := crcPage head
  page ++ r.2 ++ w64 (crc64 (page ++ r.2))

/-- A dump that a retire cuts short: the section in progress is incomplete, and the later ones are omitted (Table 19-9). -/
def cutSections (at_ : Nat × Nat) (xs : List DumpSection) : List DumpSection :=
  xs.zipIdx.map fun p =>
    if p.2 < at_.1 % xs.length then p.1
    else if p.2 = at_.1 % xs.length then { p.1 with incomplete := true, bytes := p.1.bytes.take at_.2 }
    else { p.1 with omitted := true, bytes := [] }

/-! ## Where it goes (R460) -/

/-- Whether the reservoir has room for a copy: 65,536 free data-ring pages after WR. -/
def State.dumpFits (s : State) : Bool := s.res.present && decide (65536 + pagesOf s.res.live ≤ s.res.dataPages)

/-- The dump is written: into the dump partition, and into the reservoir where DUMP_RES_COPY asks for it; into the reservoir alone with event
0x0E02 where the partition cannot be written; with neither it is lost. -/
def storeDump (cut : Bool) (f : FatalSeq) (s : State) : State :=
  let seq := (s.dump.seq + 1) % 2 ^ 32
  let s1 := { s with dump := { s.dump with seq := seq } }
  let xs := dumpSections f s1
  let bs := dumpBytes f seq cut (if cut then cutSections (Config.freeCut s.free) xs else xs) s1
  let inHold := !s.hold.degraded
  let inRes := s.dumpFits && (s.hold.degraded || s.log.resCopy) && !cut
  let off := 4096 * (indexPages + s.res.wr.page)
  let d : DumpUnit := { s1.dump with held := some ⟨f.cause, f.time, bs, inHold, inRes⟩, pagesRead := [] }
  let put : State := { s1.drew with dump := { d with resOffset := if inRes then some off else none, resBytes := if inRes then bs else [] } }
  if inHold then (if cut then put else logEvent 0x0E01 srcDump f.cause put)
  else
    let t := logEvent 0x0E02 srcDump f.cause (if inRes then put else s)
    if inRes then logEvent 0x0E01 srcDump f.cause t else t

/-! ## FAULT# (R441) -/

/-- FAULT# and FAULT_OUT return to their inactive state when FAULT_SUMMARY bits 0 and 1 are clear and no zone has failed closed. -/
def settleFault (s : State) : State :=
  let active := s.dump.held.isSome || s.power.stageFault || s.fuse.failed.any id || s.dump.fatal.isSome
  { s with pins := { s.pins with fault := s.pins.fault && active } }

/-! ## DUMP_INFO, DUMP_READ and DUMP_CLEAR (R462, R463) -/

/-- DUMP_CRC: the last eight bytes. -/
def Dump.crc (d : Dump) : Nat := leNat (d.bytes.drop (d.bytes.length - 8))

/-- The response of DUMP_INFO. -/
def dumpInfoBytes (s : State) : List Byte := match s.dump.held with
  | none => zeros 32
  | some d =>
    leBytes 1 1 ++ leBytes 1 (bit d.inHold 0 + bit d.inRes 1) ++ zeros 2 ++ w32 d.bytes.length ++ leBytes 2 d.cause ++ zeros 6 ++ w64 d.time
      ++ w64 d.crc

/-- DUMP_INFO. -/
def execDumpInfo (r : Req) (s : State) : Host.Outcome State Fault Refusal :=
  .next (command .dumpInfo r (fun _ => bare r true []) (fun id t => respond id true .ok 0 (dumpInfoBytes t) t) s)

/-- The effect of DUMP_READ: the page is returned and marked. -/
def dumpReadAct (offset : Nat) (id : ReqId) (s : State) : State :=
  match s.dump.held with
  | none => respond id true .notPresent 0 [] s
  | some d =>
    if d.bytes.length ≤ offset then respond id true .badParam 0 [] s
    else
      respond id true .ok 0 ((d.bytes.drop offset).take 4096)
        { s with dump := { s.dump with pagesRead := (offset / 4096) :: s.dump.pagesRead.filter fun p => decide (p ≠ offset / 4096) } }

/-- DUMP_READ. -/
def execDumpRead (r : Req) (offset : U32) (s : State) : Host.Outcome State Fault Refusal :=
  .next (command .dumpRead r (fun _ => fixed r 8 (decide (offset.toNat % 4096 = 0)) true []) (dumpReadAct offset.toNat) s)

/-- Whether DUMP_READ has returned every page. -/
def DumpUnit.allRead (u : DumpUnit) : Bool := match u.held with
  | none => false
  | some d => (List.range ((d.bytes.length + 4095) / 4096)).all fun p => decide (p ∈ u.pagesRead)

/-- Every held fatal entry may be overwritten. -/
def LogUnit.spend (l : LogUnit) : LogUnit := { l with entries := l.entries.map fun e => if e.sev = 3 then { e with spent := true } else e }

/-- The clear: the header in the partition goes; the reservoir copy and DUMP_RES_OFFSET stay as they stand. -/
def clearDump (s : State) : State :=
  settleFault (logEvent 0x0E04 srcDump 0
    { s with dump := { s.dump with held := none, pagesRead := [] }, log := s.log.spend })

/-- The effect of DUMP_CLEAR; without a dump there is nothing to clear. -/
def dumpClearAct (force : Bool) (id : ReqId) (s : State) : State :=
  if s.dump.held.isNone then respond id true .notPresent 0 [] s
  else if force then finish id .ok 0 [] (clearDump (logEvent 0x0E08 srcDump 0 (accept id [] 0 s)))
  else if s.dump.allRead then finish id .ok 0 [] (clearDump (accept id [] 0 s))
  else respond id true .denied 0 [] s

/-- DUMP_CLEAR. -/
def execDumpClear (r : Req) (flags : Byte) (s : State) : Host.Outcome State Fault Refusal :=
  .next (command .dumpClear r (fun t => fixed r 4 (decide (flags.toNat ≤ 1)) (decide (t.mode.mode = .service)) []) (dumpClearAct (flags.getLsbD 0)) s)

/-! ## LOG_READ and LOG_CLEAR_COUNTERS (R452, R483) -/

/-- Whether an entry lies at or after a sequence number, modulo 2³². -/
def LogEntry.from (e : LogEntry) (first : Nat) : Bool := decide ((e.seq + 2 ^ 32 - first) % 2 ^ 32 < 2 ^ 31)

/-- The held entries from FIRST on whose code matches RANGE. -/
def LogUnit.matching (l : LogUnit) (first range : Nat) : List LogEntry :=
  l.entries.filter fun e => (decide (first = 0xFFFFFFFF) || e.from first) && (decide (range = 0) || decide (e.report.code / 256 = range))

/-- The response of LOG_READ. -/
def logReadBytes (first count range : Nat) (s : State) : List Byte :=
  let all := s.log.matching first range
  let out := all.take count
  let next := match (all.drop count).head? with
    | some e => e.seq
    | none => s.log.head
  w32 next ++ leBytes 2 out.length ++ zeros 2 ++ w32 s.log.lost ++ zeros 4 ++ out.flatMap LogEntry.bytes

/-- LOG_READ. -/
def execLogRead (r : Req) (first : U32) (count : U16) (range : Byte) (s : State) : Host.Outcome State Fault Refusal :=
  .next (command .logRead r (fun _ => fixed r 8 (decide (1 ≤ count.toNat ∧ count.toNat ≤ 127)) true [])
    (fun id t => respond id true .ok 0 (logReadBytes first.toNat count.toNat range.toNat t) t) s)

/-- LOG_CLEAR_COUNTERS. -/
def execLogClearCounters (r : Req) (s : State) : Host.Outcome State Fault Refusal :=
  .next (command .logClearCounters r (fun _ => bare r true [])
    (fun id t => respond id true .ok 0 (w32 t.log.lost ++ w32 t.log.ovfTotal) { t with log := { t.log with lost := 0, ovf := [] } }) s)

/-! ## The intake and the writer (R450, R451) -/

/-- EVENT_REPORT: a source reports a code, about no single frame. -/
def execEventReport (code source : U16) (data : U32) (s : State) : Host.Outcome State Fault Refusal :=
  .next (takeReport ⟨code.toNat, source.toNat, s.time.module, s.frame.lastFrame, data.toNat, 0⟩ s)

/-- LOG_WRITER: one pending report goes into the log. -/
def execLogWriter (s : State) : Host.Outcome State Fault Refusal := .next (if s.logOn then serveLog s else s)

end Sys2Proof.Machine
end

