-- ==== Sys2Proof/Machine/Fuses.lean ====
section
/-! DEFINITION. The fuse array (R372 to R381): sensing and the judgement of the zones, programming with pulses, finalising, and reading the
shadows. -/

namespace Sys2Proof.Machine

/-! ## What the array holds -/

/-- A word as the high margin reads it: the bits set. -/
def FuseUnit.high (f : FuseUnit) (z w : Nat) : U32 := (look f.words (z, w)).getD 0

/-- The same at the low margin: a weak cell reads 1 there and 0 at the high margin (R373). -/
def FuseUnit.low (f : FuseUnit) (z w : Nat) : U32 := f.high z w ||| (look f.weak (z, w)).getD 0

/-- Whether the two senses of a word differ. -/
def FuseUnit.weakAt (f : FuseUnit) (z w : Nat) : Bool := decide (f.low z w ≠ f.high z w)

/-- The zones that can be finalised: all but zone 4 (Table 15-5). -/
def finalisable (z : Nat) : Bool := decide (z ≠ 4)

/-- The zones that a role programs (Table 15-5): FACTORY all but zone 4, INTEGRATOR_FUSE zones 5 and 6. -/
def roleZone (role z : Nat) : Bool :=
  if role = 4 then decide (z ≠ 4) else decide (role = 3) && (decide (z = 5) || decide (z = 6))

/-- Words 126 and 127 of a zone from words 0 to 125 as `value` reads them (R376). -/
def zoneDigest (z : Nat) (value : Nat → U32) : U32 × U32 :=
  let d := sha384 (leBytes 1 z ++ (List.range 126).flatMap fun w => leBytes 4 (value w).toNat)
  (BitVec.ofNat 32 (leNat (d.take 4)), BitVec.ofNat 32 (leNat ((d.drop 4).take 4)))

/-- Whether the digest of a zone fits its words, by one set of values. -/
def digestFits (z : Nat) (value : Nat → U32) : Bool := decide (zoneDigest z value = (value 126, value 127))

/-- Whether the digest fits the high-margin values or the low-margin values (R374). -/
def FuseUnit.digestGood (f : FuseUnit) (z : Nat) : Bool := digestFits z (f.high z) || digestFits z (f.low z)

/-- SVN_MIN: the number of set bits in zone 4 words 0 to 125 (R383). -/
def FuseUnit.svnMin (f : FuseUnit) : Nat :=
  sumNat ((List.range 126).map fun w => sumNat ((List.range 32).map fun b => bit ((f.high 4 w).getLsbD b) 0))

/-- Where a fuse word lies, as FUSE_ADDR holds it: [6:0] word, [9:7] zone. -/
def fuseAddr (z w : Nat) : Nat := 128 * z + w

/-! ## Sensing (R373, R374) -/

/-- Whether a zone's shadows read zero: a finalised zone 5 or 6 whose digest has been found wrong. -/
def FuseUnit.dropped (f : FuseUnit) (z : Nat) : Bool :=
  (decide (z = 5) || decide (z = 6)) && f.finalised.getD z false && !(f.digestOk.getD z false)

/-- The marginal words, in order. -/
def FuseUnit.marginals (f : FuseUnit) : List (Nat × Nat) :=
  ((List.range 8).flatMap fun z => (List.range 128).map fun w => (z, w)).filter fun k => f.weakAt k.1 k.2

/-- The shadows take the high-margin values. -/
def FuseUnit.toShadow (f : FuseUnit) : FuseUnit := { f with shadow := f.words.filter fun p => !(f.dropped p.1.1) }

/-- Every word is sensed at both margins, with the weak cells as they read now; event 0x0D01 for each marginal word. -/
def senseWords (weak : List ((Nat × Nat) × U32)) (s : State) : State :=
  let f := { s.fuse with weak := weak }
  let g := { f.toShadow with marginal := f.marginals, sensed := true }
  each g.marginal (fun k t => logEvent 0x0D01 srcKeeper (fuseAddr k.1 k.2) t) { s with fuse := g }

/-- How a zone is judged: its digest is right, its digest is wrong, it fails closed for another reason than its digest, it fails closed. -/
structure ZoneVerdict where
  good : Bool
  wrong : Bool
  barred : Bool
  closed : Bool
  deriving DecidableEq, Repr

/-- The judgement of a zone (R374). -/
def FuseUnit.judge (f : FuseUnit) (z : Nat) : ZoneVerdict :=
  let fin := f.finalised.getD z false
  let good := fin && f.digestGood z
  let wrong := fin && !good
  let marginal := f.marginal.any fun k => decide (k.1 = z)
  let barred := (marginal && (decide (z = 0) || decide (z = 3) || decide (z = 4))) || (decide (z = 3) && !fin)
  ⟨good, wrong, barred, barred || (wrong && decide (z ≠ 5 ∧ z ≠ 6))⟩

/-- What a judgement logs: 0x0D02 for a wrong digest, 0x0D03 for a zone that fails closed for another reason. -/
def noteZone (z : Nat) (v : ZoneVerdict) (s : State) : State :=
  let t := if v.wrong then logEvent 0x0D02 srcKeeper z s else s
  if v.barred then logEvent 0x0D03 srcKeeper z t else t

/-- The zones are judged one by one. -/
def judgeZones (s : State) : State :=
  let vs : List ZoneVerdict := (List.range 8).map s.fuse.judge
  let f := { s.fuse with digestOk := vs.map ZoneVerdict.good, failed := vs.map ZoneVerdict.closed }
  each vs.zipIdx (fun p t => noteZone p.2 p.1 t) { s with fuse := f.toShadow }

/-- The sense of a reset, with the judgement after it. -/
def senseAtReset (weak : List ((Nat × Nat) × U32)) (s : State) : State :=
  let t := judgeZones (senseWords weak s)
  { t with fuse := { t.fuse with marginalStart := !t.fuse.marginal.isEmpty } }

/-- SENSE: FUSE_CMD has the keeper core's words sensed again. No zone is judged. -/
def execSense (weak : List ((Nat × Nat) × U32)) (s : State) : Host.Outcome State Fault Refusal :=
  .next (if s.fuse.busy || !s.power.aoOn then s
    else
      let t := senseWords weak s
      { t with fuse := { t.fuse with lastFailed := false, pulses := 0, opCnt := bump32 t.fuse.opCnt 1 } })

/-! ## Pulses (R377) -/

/-- A word after its pulses: how many, the values at the low and the high margin, whether both equal VALUE, and the senses left for a word
after it. -/
structure Pulsed where
  pulses : Nat
  low : U32
  high : U32
  ok : Bool
  rest : List (U32 × U32)
  deriving DecidableEq, Repr

/-- What a verify reads of a word that held `held`: a pulse clears no bit, and sets no bit outside VALUE. -/
def senseOf (held value : U32) (p : U32 × U32) : U32 × U32 :=
  let h := held ||| (p.2 &&& value)
  (h ||| (p.1 &&& value), h)

/-- Up to nine pulses, each verified at both margins; a verify that the command does not give reads every bit of VALUE set. -/
def pulseWord (held value : U32) (senses : List (U32 × U32)) : Pulsed :=
  let seen := (((senses.take 9).map (senseOf held value)) ++ List.replicate 9 (held ||| value, held ||| value)).take 9
  match seen.findIdx? fun p => decide (p = (value, value)) with
  | some k => ⟨k + 1, value, value, true, senses.drop (k + 1)⟩
  | none =>
    let l := seen.getLastD (held, held)
    ⟨9, l.1, l.2, false, senses.drop 9⟩

/-- The array with a word as its pulses left it. -/
def FuseUnit.written (f : FuseUnit) (z w : Nat) (p : Pulsed) : FuseUnit :=
  let g := { f with words := put f.words (z, w) p.high, weak := if p.low = p.high then del f.weak (z, w) else put f.weak (z, w) p.low }
  { g with pulses := p.pulses, readback := p.high, lastFailed := !p.ok }

/-- A word is programmed: event 0x0D04, or 0x0D05 after the ninth pulse. -/
def programWord (z w : Nat) (value : U32) (senses : List (U32 × U32)) (s : State) : State × Pulsed :=
  let p := pulseWord (s.fuse.high z w) value senses
  (logEvent (if p.ok then 0x0D04 else 0x0D05) srcKeeper (fuseAddr z w) { s with fuse := s.fuse.written z w p }, p)

/-- The same for a word that may hold its value already: then it takes no pulse. -/
def programIfDue (z w : Nat) (value : U32) (senses : List (U32 × U32)) (s : State) : State × Pulsed :=
  if s.fuse.low z w = value ∧ s.fuse.high z w = value then (s, ⟨0, value, value, true, senses⟩) else programWord z w value senses s

/-- An operation ends: the counters go up, and PD78 goes off. -/
def endFuse (ok : Bool) (s : State) : State :=
  let f := s.fuse
  let g := { f with busy := false, pd78 := false, waiting := none, lastFailed := !ok, opCnt := if ok then bump32 f.opCnt 1 else f.opCnt,
                    failCnt := if ok then f.failCnt else bump32 f.failCnt 1 }
  ({ s with fuse := g }).setDomains [78] false

/-- The response of FUSE_PROGRAM. -/
def programResponse (pulses : Nat) (readback : U32) : List Byte := leBytes 1 pulses ++ zeros 3 ++ leBytes 4 readback.toNat

/-- A zone is finalised (R379): its FINALISED bit and its FUSE_LOCK bit, and event 0x0D06. -/
def markFinal (z : Nat) (s : State) : State :=
  let f := { s.fuse with finalised := s.fuse.finalised.set z true, digestOk := s.fuse.digestOk.set z true }
  logEvent 0x0D06 srcKeeper z { s with fuse := f }

/-- An operation runs to its end. -/
def runFuse (j : FuseJob) (s : State) : State :=
  match j.work with
  | .word z w value =>
    let (s1, p) := programWord z w value j.senses s
    finishOpt j.req (if p.ok then .ok else .failed) 0 (programResponse p.pulses p.high) (endFuse p.ok s1)
  | .digest z lo hi =>
    let (s1, p) := programIfDue z 126 lo j.senses s
    if !p.ok then finishOpt j.req .failed 0 (zeros 8) (endFuse false s1)
    else
      let (s2, q) := programIfDue z 127 hi p.rest s1
      if !q.ok then finishOpt j.req .failed 0 (zeros 8) (endFuse false s2)
      else finishOpt j.req .ok 0 (leBytes 4 lo.toNat ++ leBytes 4 hi.toNat) (endFuse true (markFinal z s2))

/-- An operation starts: PD78 goes on, and in a ride-through the pulses wait (R378). -/
def startFuse (j : FuseJob) (s : State) : State :=
  let t := { s.setDomains [78] true with fuse := { s.fuse with busy := true, pd78 := true } }
  if s.power.ride.isSome then { t with fuse := { t.fuse with waiting := some j } } else runFuse j t

/-- The input has returned: an operation that waited runs. -/
def resumeFuse (s : State) : State := match s.fuse.waiting with
  | none => s
  | some j => runFuse j s

/-- A retire abandons an operation that waits. -/
def abandonFuse (s : State) : State := match s.fuse.waiting with
  | none => s
  | some j =>
    let bs := match j.work with
      | .word z w _ => programResponse 0 (s.fuse.high z w)
      | .digest _ _ _ => zeros 8
    finishOpt j.req .failed 0 bs (endFuse false s)

/-! ## FUSE_PROGRAM and PROGRAM (R377, R380) -/

/-- What a request to program a word meets: a status, or none where it goes on. -/
def programRefusal (role z w : Nat) (value : U32) (s : State) : Option Status :=
  if s.fuse.finalised.getD z false then some .locked
  else if !(roleZone role z) then some .denied
  else if finalisable z && decide (126 ≤ w) then some .badParam
  else if value &&& s.fuse.high z w ≠ s.fuse.high z w then some .badParam
  else none

/-- The effect of FUSE_PROGRAM. -/
def fuseProgramAct (z w : Nat) (value : U32) (senses : List (U32 × U32)) (id : ReqId) (s : State) : State :=
  if s.fuse.busy then respond id true .busy 0 [] s
  else
    match programRefusal s.mbox.auth.role z w value s with
    | some st => respond id true st 0 [] (if st = .locked then logEvent 0x0D08 srcKeeper (fuseAddr z w) s else s)
    | none =>
      if value = s.fuse.high z w then respond id true .ok 0 (programResponse 0 value) s
      else startFuse ⟨some id, .word z w value, senses⟩ (accept id [.fuses] 0 s)

/-- FUSE_PROGRAM: `senses` is what each verify reads, at the low margin and at the high one. -/
def execFuseProgram (r : Req) (zone : Byte) (word : U16) (value : U32) (senses : List (U32 × U32)) (s : State) :
    Host.Outcome State Fault Refusal :=
  .next (command .fuseProgram r
    (fun t => fixed r 8 (decide (zone.toNat ≤ 7 ∧ word.toNat ≤ 127)) (decide (t.mode.mode = .service)) [.fuses])
    (fuseProgramAct zone.toNat word.toNat value senses) s)

/-- FUSE_CMD PROGRAM from the keeper core: on a finalised zone it is ignored, with event 0x0D08 and the rejected-write mirror (R380). A value
that lacks a bit which the word holds cannot be reached: the operation fails. -/
def keeperProgram (senses : List (U32 × U32)) (s : State) : State :=
  let z := s.fuse.addr.toNat / 128 % 8
  let w := s.fuse.addr.toNat % 128
  let held := s.fuse.high z w
  let v := s.fuse.data
  if s.fuse.busy || !s.power.aoOn then s
  else if s.fuse.finalised.getD z false then
    logEvent 0x0D08 srcKeeper (fuseAddr z w) { s with regs := s.regs.reject .keeper 0 0x2B000 1 s.time.module }
  else if v &&& held ≠ held then endFuse false { s with fuse := { s.fuse with pulses := 0, readback := held } }
  else if v = held then endFuse true { s with fuse := { s.fuse with pulses := 0, readback := held } }
  else startFuse ⟨none, .word z w v, senses⟩ s

/-- PROGRAM. -/
def execProgram (senses : List (U32 × U32)) (s : State) : Host.Outcome State Fault Refusal := .next (keeperProgram senses s)

/-! ## FUSE_FINALIZE and FINALIZE (R379) -/

/-- The words that a declaration names. -/
def declaredWords (declared : List U32) : List Nat := (List.range 128).filter fun w => (declared.getD (w / 32) 0).getLsbD (w % 32)

/-- The first declared word that is zero, or marginal at a fresh sense: `fresh` lists the low-margin values that differ. -/
def badWord (z : Nat) (declared : List U32) (fresh : List (Nat × U32)) (f : FuseUnit) : Option Nat :=
  (declaredWords declared).find? fun w =>
    let h := f.high z w
    decide (h = 0) || decide (h ||| (look fresh w).getD 0 ≠ h)

/-- The operation that finalises a zone. -/
def finalJob (req : Option ReqId) (z : Nat) (senses : List (U32 × U32)) (f : FuseUnit) : FuseJob :=
  let d := zoneDigest z (f.high z)
  ⟨req, .digest z d.1 d.2, senses⟩

/-- The effect of FUSE_FINALIZE. -/
def fuseFinalizeAct (z : Nat) (declared : List U32) (fresh : List (Nat × U32)) (senses : List (U32 × U32)) (id : ReqId) (s : State) : State :=
  if s.fuse.busy then respond id true .busy 0 [] s
  else if z = 4 ∨ 126 ∈ declaredWords declared ∨ 127 ∈ declaredWords declared then respond id true .badParam 0 [] s
  else if s.fuse.finalised.getD z false then respond id true .locked 0 [] s
  else if !(roleZone s.mbox.auth.role z) then respond id true .denied 0 [] s
  else
    match badWord z declared fresh s.fuse with
    | some w => respond id true .badParam 0 [] (logEvent 0x0D07 srcKeeper (fuseAddr z w) s)
    | none => startFuse (finalJob (some id) z senses s.fuse) (accept id [.fuses] 0 s)

/-- FUSE_FINALIZE. -/
def execFuseFinalize (r : Req) (zone : Byte) (declared : List U32) (fresh : List (Nat × U32)) (senses : List (U32 × U32)) (s : State) :
    Host.Outcome State Fault Refusal :=
  .next (command .fuseFinalize r
    (fun t => fixed r 20 (decide (zone.toNat ≤ 7) && decide (declared.length = 4)) (decide (t.mode.mode = .service)) [.fuses])
    (fuseFinalizeAct zone.toNat declared fresh senses) s)

/-- FUSE_CMD FINALIZE from the keeper core, of the zone in FUSE_ADDR with FUSE_DECLARED: what the request refuses fails here. -/
def keeperFinalize (fresh : List (Nat × U32)) (senses : List (U32 × U32)) (s : State) : State :=
  let z := s.fuse.addr.toNat / 128 % 8
  let d := s.fuse.declared
  if s.fuse.busy || !s.power.aoOn then s
  else if z = 4 ∨ 126 ∈ declaredWords d ∨ 127 ∈ declaredWords d ∨ s.fuse.finalised.getD z false = true then endFuse false s
  else
    match badWord z d fresh s.fuse with
    | some w => endFuse false (logEvent 0x0D07 srcKeeper (fuseAddr z w) s)
    | none => startFuse (finalJob none z senses s.fuse) s

/-- FINALIZE. -/
def execFinalize (fresh : List (Nat × U32)) (senses : List (U32 × U32)) (s : State) : Host.Outcome State Fault Refusal :=
  .next (keeperFinalize fresh senses s)

/-! ## FUSE_READ (R381) -/

/-- A word as FUSE_READ returns it: the device secret reads zero. -/
def FuseUnit.readable (f : FuseUnit) (z w : Nat) : Nat := if z = 7 ∧ w < 12 then 0 else f.word z w

/-- The response of FUSE_READ. -/
def fuseReadBytes (z w n : Nat) (s : State) : List Byte :=
  let f := s.fuse
  leBytes 1 z ++ leBytes 1 (bit (f.sensed && f.finalised.getD z false) 0) ++ zeros 2
    ++ ((List.range n).flatMap fun i => leBytes 4 (f.readable z (w + i)))
    ++ leBytes 16 (bitsOf 128 fun i => decide ((z, i) ∈ f.marginal))

/-- FUSE_READ. -/
def execFuseRead (r : Req) (zone : Byte) (word count : U16) (s : State) : Host.Outcome State Fault Refusal :=
  .next (command .fuseRead r
    (fun _ => fixed r 8 (decide (zone.toNat ≤ 7 ∧ 1 ≤ count.toNat ∧ word.toNat + count.toNat ≤ 128)) true [])
    (fun id t => respond id true .ok 0 (fuseReadBytes zone.toNat word.toNat count.toNat t) t) s)

end Sys2Proof.Machine
end

