-- ==== Sys2Proof/Machine/Power.lean ====
section
/-! DEFINITION. The inputs, the hold-up store, the ride-through and the declaration of a retire (R179, R390 to R400), the load limit (R405),
power stage faults (R406), the power policy, and the temperatures (R473 to R475). Durations and thresholds are in ticks and 0.1 W. -/

namespace Sys2Proof.Machine

/-! ## V_RETIRE (R397) -/

/-- The largest number below 2^14 whose square is not above n. -/
def root14 (n : Nat) : Nat := ((List.range 14).reverse).foldl (fun r k => if (r + 2 ^ k) * (r + 2 ^ k) ≤ n then r + 2 ^ k else r) 0

/-- T_min of the geometry in force, 0 in a mode without readout. -/
def State.tMinNow (s : State) : Nat := if s.reads then s.frame.sens0.tMin else 0

/-- The square of V_RETIRE, in (10 mV)²: 24.0² and e_need / 0.00405, with e_need 148 W for t_min and 1.50 J. -/
def State.vRetireSq (s : State) : Nat := 5760000 + 2 * (148 * s.tMinNow + 150000000) / 81

/-- V_RETIRE in 10 mV. -/
def State.vRetire (s : State) : Nat := root14 s.vRetireSq

/-- HOLD_STATE at a store voltage. -/
def State.holdStateAt (s : State) (v : Nat) : HoldState :=
  if s.power.ride.isSome || s.power.retire.isSome then (if v ≤ s.vRetire then .atRetire else .discharging)
  else if 4600 ≤ v then .ready else .charging

/-! ## The draw (R391) -/

/-- The draw moves from one input to the other. -/
def moveDraw (goal : Draw) (s : State) : State :=
  let p := { s.power with draw := goal, acSince := none, transferCnt := bump32 s.power.transferCnt 1 }
  fire0 30 (logEvent (if goal = .dc then 0x0103 else 0x0104) srcAo 0 { s with power := p })

/-- Both inputs are absent: the ride-through starts (R179). -/
def startRide (s : State) : State :=
  let p := { s.power with draw := .none, acSince := none, ride := some s.time.now, rideCnt := bump32 s.power.rideCnt 1, holdState := .discharging }
  fire0 30 { s with power := p }

/-- An input returns in a ride-through before the retire is declared: capture has never stopped, and a
fuse operation that waited goes on (R179, R378). -/
def endRide (goal : Draw) (s : State) : State :=
  match s.power.ride with
  | none => { s with power := { s.power with draw := goal } }
  | some t =>
    let p := { s.power with draw := goal, ride := none, lastRide := (s.time.now - t) / 1000 % 2 ^ 16 }
    let s1 := { s with power := p }
    resumeFuse (fire0 30 (logEvent 0x0106 srcAo 0 { s1 with power := { p with holdState := s1.holdStateAt p.holdVolts } }))

/-- An input has gone: the draw moves to the other, or the ride-through starts. After the declaration of a retire nothing moves (R180). -/
def inputGone (ac : Bool) (s : State) : State :=
  let p := s.power
  if p.retire.isSome then s
  else if p.draw = (if ac then .ac else .dc) then
    if ac && p.dcPresent then moveDraw .dc s
    else if !ac && p.acPresent then moveDraw .ac s
    else startRide s
  else s

/-- AC becomes absent. -/
def loseAc (s : State) : State :=
  if s.power.aoOn && s.power.acPresent then
    inputGone true (logEvent 0x0101 srcAo 0 { s with power := { s.power with acPresent := false, acSince := none } })
  else { s with power := { s.power with acRange := false } }

/-- DC becomes absent. -/
def loseDc (s : State) : State :=
  if s.power.aoOn && s.power.dcPresent then
    inputGone false (logEvent 0x0102 srcAo 0 { s with power := { s.power with dcPresent := false } })
  else { s with power := { s.power with dcRange := false } }

/-- AC_ABSENT (R391). -/
def execAcAbsent (s : State) : Host.Outcome State Fault Refusal := .next (loseAc s)

/-- DC_ABSENT (R391). -/
def execDcAbsent (s : State) : Host.Outcome State Fault Refusal := .next (loseDc s)

/-- INPUT_OUT_OF_RANGE: the input is disconnected and counts as absent (R390). -/
def outOfRange (ac : Bool) (s : State) : State :=
  let p := s.power
  if !p.aoOn || (if ac then p.acRange else p.dcRange) then s
  else if ac then
    let s1 := loseAc (logEvent 0x0107 srcAo 0 s)
    { s1 with power := { s1.power with acRange := true } }
  else
    let s1 := loseDc (logEvent 0x0107 srcAo 1 s)
    { s1 with power := { s1.power with dcRange := true } }

/-- INPUT_OUT_OF_RANGE. -/
def execInputOutOfRange (ac : Bool) (s : State) : Host.Outcome State Fault Refusal := .next (outOfRange ac s)

/-- INPUT_PRESENT (R391, R396): it ends a ride-through, or AC waits for its 1.0 s while the module draws from DC. -/
def inputCame (ac : Bool) (s : State) : State :=
  let p := s.power
  let p1 := if ac then { p with acPresent := true, acRange := false } else { p with dcPresent := true, dcRange := false }
  if !p.aoOn || (if ac then p.acPresent else p.dcPresent) then s
  else if p.retire.isSome then { s with power := p1 }
  else if p.draw = .none then endRide (if ac then .ac else .dc) { s with power := p1 }
  else if ac && decide (p.draw = .dc) then { s with power := { p1 with acSince := some s.time.now } }
  else { s with power := p1 }

/-- INPUT_PRESENT. -/
def execInputPresent (ac : Bool) (s : State) : Host.Outcome State Fault Refusal := .next (inputCame ac s)

/-- AC_RETURN_SETTLED (R391): AC has stayed present for 1.0 s. -/
def acSettled (s : State) : State :=
  match s.power.acSince with
  | none => s
  | some t =>
    if s.power.acPresent && decide (s.power.draw = .dc) && s.power.retire.isNone then
      moveDraw .ac (reachNow (t + Config.ticksPerSecond) s)
    else s

/-- AC_RETURN_SETTLED. -/
def execAcReturnSettled (s : State) : Host.Outcome State Fault Refusal := .next (acSettled s)

/-! ## The retire (R179, R397, R398, R467) -/

/-- A dump that is being written is cut short by a retire (Table 19-9). -/
def cutDump (s : State) : State :=
  match s.dump.fatal with
  | some f => if s.dumpWriting then storeDump true f s else s
  | none => s

/-- The retire is declared (Table 7-10, steps 1 to 3): no later boundary occurs, an exposure in progress is abandoned, and a mode change ends
with FAILED. Where no readout is in progress the steps after it follow at once. -/
def declareRetire (s : State) : State :=
  let p := { s.power with retire := some ⟨s.time.module⟩, pwrGood := false }
  let s1 := logEvent 0x0423 srcAo 0 { s with power := p }
  finishRetire (cutDump (abandonFuse (abandonChange 0x0423 (abandonExposure (haltEngine s1)))))

/-- RIDE_THROUGH_EXPIRY: 20.0 ms after the loss (R179). -/
def rideExpiry (s : State) : State :=
  match s.power.ride with
  | none => s
  | some t => if s.power.retire.isNone && s.power.aoOn then declareRetire (reachNow (t + 20 * Config.ms) s) else s

/-- RIDE_THROUGH_EXPIRY. -/
def execRideThroughExpiry (s : State) : Host.Outcome State Fault Refusal := .next (rideExpiry s)

/-- STORE_AT_V_RETIRE: the store has fallen to V_RETIRE in a ride-through (R397). -/
def storeLow (s : State) : State :=
  if s.power.ride.isSome && s.power.retire.isNone && s.power.aoOn then
    declareRetire { s with power := { s.power with holdVolts := s.vRetire, holdState := .atRetire } }
  else s

/-- STORE_AT_V_RETIRE. -/
def execStoreAtVRetire (s : State) : Host.Outcome State Fault Refusal := .next (storeLow s)

/-! ## The load (R392, R405) -/

/-- PFC_EN: set above 20 W of AC input power, cleared below 12 W. -/
def pfcAfter (en : Bool) (acPower : Nat) : Bool := if 200 < acPower then true else if acPower < 120 then false else en

/-- The load limit: above 148 W for 100 ms the cooler is capped; below 140 W for 1 s the cap is lifted. `cooler` is its power. -/
def limitLoad (load cooler : Nat) (s : State) : State :=
  let p := s.power
  if 1480 < load then
    match p.overSince with
    | none => { s with power := { p with overSince := some s.time.now, underSince := none } }
    | some t =>
      if t + 100 * Config.ms ≤ s.time.now then
        logEvent 0x010B srcAo load
          { s with power := { p with overSince := some s.time.now, underSince := none, loadCap := some (cooler - (load - 1480)),
                                     loadLimitCnt := bump32 p.loadLimitCnt 1 } }
      else { s with power := { p with underSince := none } }
  else if p.loadCap.isSome ∧ load < 1400 then
    match p.underSince with
    | none => { s with power := { p with overSince := none, underSince := some s.time.now } }
    | some t =>
      if t + Config.ticksPerSecond ≤ s.time.now then
        { s with power := { p with overSince := none, underSince := none, loadCap := none } }
      else { s with power := { p with overSince := none } }
  else { s with power := { p with overSince := none, underSince := none } }

/-- LOAD_SAMPLE: what the housekeeping core measures every 10 ms. -/
def sampleLoad (load acPower dcPower acVolts acHz dcVolts store : Nat) (pdPwr : List Nat) (s0 : State) : State :=
  if s0.power.aoOn then
    let s := reachNow (s0.power.sampled + 10 * Config.ms) s0
    let pd := (List.range 81).map fun d => pdPwr.getD d 0 % 2 ^ 16
    let p := { s.power with sampled := s.time.now, load := load, acPower := acPower, dcPower := dcPower, acVolts := acVolts, acHz := acHz,
                            dcVolts := dcVolts, holdVolts := store, holdState := s.holdStateAt store, pdPwr := pd,
                            pfcEn := pfcAfter s.power.pfcEn acPower }
    limitLoad load (pd.getD 79 0 / 10) { s with power := p }
  else s0

/-- LOAD_SAMPLE. -/
def execLoadSample (load acPower dcPower acVolts acHz dcVolts store : Nat) (pdPwr : List Nat) (s : State) :
    Host.Outcome State Fault Refusal := .next (sampleLoad load acPower dcPower acVolts acHz dcVolts store pdPwr s)

/-- A power stage fault: FAULT_SUMMARY bit 1 and the fatal sequence (R406). -/
def stageFault (s : State) : State :=
  if s.power.aoOn then fatalCause 0x0108 srcAo 0 false { s with power := { s.power with stageFault := true } } else s

/-- POWER_STAGE_FAULT. -/
def execPowerStageFault (s : State) : Host.Outcome State Fault Refusal := .next (stageFault s)

/-- POWER_POLICY_SET (R191, R278). -/
def execPowerPolicySet (r : Req) (flags : Byte) (idleS : U16) (s : State) : Host.Outcome State Fault Refusal :=
  .next (command .powerPolicySet r (fun _ => fixed r 4 (decide (flags.toNat < 4)) true [])
    (fun id t => respond id true .ok 0 []
      { t with power := { t.power with permitL2 := flags.getLsbD 0, idleToDormant := flags.getLsbD 1, idleS := idleS.toNat } }) s)

/-! ## Temperatures (R473 to R475, Table 20-4) -/

/-- A set-point clamped to +5.00 to +35.00 °C. -/
def clampSetpoint (v : Int) : Int := max 80 (min 560 v)

/-- THERMAL_SET (R473). -/
def execThermalSet (r : Req) (setpoint : U16) (s : State) : Host.Outcome State Fault Refusal :=
  .next (command .thermalSet r (fun _ => fixed r 4 true true [])
    (fun id t =>
      let v := clampSetpoint setpoint.toInt
      respond id true .ok 0 (leBytes 2 v.toNat ++ zeros 2) { t with thermal := { t.thermal with applied := v } }) s)

/-- The working set-point 10 ms on, in 1/1,600 °C: it moves by 0.25 °C per second. -/
def rampSetpoint (applied working : Int) : Int := max (working - 4) (min (working + 4) (100 * applied))

/-- How far the stack lies from the working set-point, in 1/1,600 °C. -/
def ThermalUnit.offBand (t : ThermalUnit) : Nat := (100 * t.stack - t.working).natAbs

/-- Whether the stack is measured inside the regulation band of ±0.50 °C. -/
def ThermalUnit.inBand (t : ThermalUnit) : Bool := !t.outOfBand && decide (t.offBand ≤ 800)

/-- A threshold with its hysteresis of 2.0 °C. -/
def hotAfter (hot : Bool) (t limit : Int) : Bool := if limit < t then true else if t < limit - 32 then false else hot

/-- The states after a comparison. The band needs the cooler. -/
def ThermalUnit.compared (t : ThermalUnit) (cooler : Bool) : ThermalUnit :=
  { t with outOfBand := cooler && (if 800 < t.offBand then true else if t.offBand < 640 then false else t.outOfBand),
           genazHot := hotAfter t.genazHot t.genaz 1520, holdHot := hotAfter t.holdHot t.hold 1200,
           powerHot := hotAfter t.powerHot t.power 1440 }

/-- The states of the four thresholds: the band, GENAZ_TEMP, HOLD_TEMP, POWER_TEMP. -/
def ThermalUnit.states (t : ThermalUnit) : List Bool := [t.outOfBand, t.genazHot, t.holdHot, t.powerHot]

/-- A crossing into a state: vector 29 and event 0x010D, with the sensor's number in DATA. -/
def noteCrossing (i : Nat) (s : State) : State := fire0 29 (logEvent 0x010D srcAo i s)

/-- THERMAL_CHECK: the temperatures as measured, every 10 ms. -/
def checkThermal (stack genaz hold power : Int) (s0 : State) : State :=
  if s0.power.aoOn then
    let s := reachNow (s0.thermal.checked + 10 * Config.ms) s0
    let a := s.thermal
    let b : ThermalUnit := { a with checked := s.time.now, stack := stack, genaz := genaz, hold := hold, power := power,
                                    working := rampSetpoint a.applied a.working }
    let c := b.compared (s.pdOn 79)
    let new := (List.range 4).filter fun i => c.states.getD i false && !(a.states.getD i false)
    let s1 := each new noteCrossing { s with thermal := c }
    let s2 := if a.states.any id && !(c.states.any id) then logEvent 0x010E srcAo 0 s1 else s1
    if 1680 < power && !s2.power.stageFault then stageFault s2 else s2
  else s0

/-- THERMAL_CHECK. -/
def execThermalCheck (stack genaz hold power : Int) (s : State) : Host.Outcome State Fault Refusal :=
  .next (checkThermal stack genaz hold power s)

/-- TILE_TEMP_SAMPLE (R45, R47, R302): the eight codes, of the tiles whose logic layer is on; event 0x0312 once per fault of a sensor. -/
def sampleTiles (codes : List (BitVec 12)) (s : State) : State :=
  let on (t : Nat) : Bool := s.pdOn (8 + t)
  let code (t : Nat) : Int := if on t then (codes.map BitVec.toInt).getD t (s.sensor.temps.getD t 0) else s.sensor.temps.getD t 0
  let all := (List.range 8).map code
  let bad (t : Nat) : Bool := if on t then sensorFaulty all t else s.sensor.faulty.getD t false
  let new := (List.range 8).filter fun t => bad t && !(s.sensor.faulty.getD t false)
  let u : SensorUnit := { s.sensor with temps := all, faulty := (List.range 8).map bad }
  each new (fun t x => logEvent 0x0312 (srcTile t) t x) { s with sensor := u }

/-- TILE_TEMP_SAMPLE. -/
def execTileTempSample (codes : List (BitVec 12)) (s : State) : Host.Outcome State Fault Refusal := .next (sampleTiles codes s)

end Sys2Proof.Machine
end

