-- ==== Sys2Proof/Machine/Sequence.lean ====
section
/-! DEFINITION. Sequenced mode changes (R130 to R134, R402 to R404): the entry to READY step by step, the other power sequences, and
MODE_REQUEST. -/

namespace Sys2Proof.Machine

/-! ## The domains of a mode -/

/-- The domains of the mode that a sequenced change leaves. -/
def modeDomains (m : Mode) : List Nat := match m with
  | .dormant => dormantDomains
  | .service => serviceDomains
  | .ready | .view | .take | .burst => [73, 56, 55, 69] ++ entryOrder

/-! ## The end of a sequenced change -/

/-- A sequenced change has reached its mode: it completes with OK. In READY the grid of boundaries starts at this moment (R131). A power-up
to VIEW goes on from READY (R134). -/
def completeSeq (q : SeqChange) (s : State) : State :=
  let h := { s.bus.hbus with engineIdle := false }
  let s1 := { s with mode := { s.mode with seq := none }, bus := { s.bus with hbus := h, hbusHeard := s.time.now } }
  let s2 := if q.goal = .ready then
      let f := s1.frame
      let y := { s1.sync with genlock := { s1.sync.genlock with span := 0, targets := [] } }
      { s1 with sync := y, frame := { f with lastB := none, origin := s1.time.module, steps := 0, originNum := f.sens1.rateNum, originDen := f.sens1.rateDen } }
    else s1
  let s3 := finishOpt q.req .ok 0 (modeResponse (modeCode q.goal) 1 0 0) (setMode q.goal s2)
  if q.goal = .ready ∧ s3.mode.powerup = some .view then startChange .view .plain (s3.frame.index + 4) none s3 else s3

/-- A sequenced change fails (R404): the module stays in the mode it left, and the domains that the change powered go off. -/
def failSeq (q : SeqChange) (reason : Nat) (s : State) : State :=
  let s1 := powerDownTo (modeDomains s.mode.mode) q.around.drops { s with mode := { s.mode with seq := none } }
  failPowerup q.req reason (finishOpt q.req .failed 0 (modeResponse (modeCode s1.mode.mode) 1 reason 0) s1)

/-- A sequenced change waits at a stage. -/
def holdSeq (q : SeqChange) (g : SeqStage) (s : State) : State := { s with mode := { s.mode with seq := some { q with stage := g } } }

/-! ## The entry to READY (Table 16-4) -/

/-- Steps 4 to 9: the remaining domains, the calibration words, the slices, and the reservoir. The band is waited for after them. -/
def enterStack (q : SeqChange) (s : State) : State :=
  match powerUp q.around.noPowerGood entryStep4 s with
  | (t, false) => failSeq q 0x0109 t
  | (t, true) =>
    match loadWords q.around.tilesOnce q.around.tilesTwice t with
    | (u, false) => failSeq q 0x0310 u
    | (u, true) => holdSeq q .band (discover q.around.devices (calibrateSlices false q.around.slices u))

/-- Whether PLL-B and PLL-C are locked. -/
def State.pllsLocked (s : State) : Bool := decide (s.clk.pllB.state = .locked) && decide (s.clk.pllC.state = .locked)

/-- Why a PLL cannot lock any more: no enabled band (0x0203), or a second failure (0x0204); none where a lock or a retry is still due. -/
def Pll.lost (p : Pll) : Option Nat :=
  if p.state = .failed ∧ p.retryAt = none then some (if p.tries = 0 then 0x0203 else 0x0204) else none

/-- Step 3 where it can end: PLL-B and PLL-C locked; a PLL that cannot lock ends the entry (R417). -/
def awaitPlls (q : SeqChange) (s : State) : State :=
  match (s.clk.pllA.lost.orElse fun _ => s.clk.pllB.lost).orElse fun _ => s.clk.pllC.lost with
  | some reason => failSeq q reason s
  | none => if s.pllsLocked then enterStack q s else holdSeq q .plls s

/-- Steps 2 and 3. -/
def enterReady (q : SeqChange) (s : State) : State :=
  match powerUp q.around.noPowerGood entryStep2 s with
  | (t, false) => failSeq q 0x0109 t
  | (t, true) => awaitPlls q t

/-- The power sequence of a change whose store is ready. -/
def proceedSeq (q : SeqChange) (s : State) : State :=
  match q.goal with
  | .ready => enterReady q (endProcedure s)
  | .service =>
    if s.mode.mode = .dormant then
      match powerUp q.around.noPowerGood ([70, 71, 68] ++ (List.range 8).map (· + 60)) s with
      | (t, false) => failSeq q 0x0109 t
      | (t, true) => completeSeq q t
    else completeSeq q (powerDownTo serviceDomains q.around.drops (endReadout s))
  | .dormant => completeSeq q (powerDownTo dormantDomains q.around.drops (endJoin (endReadout s)))
  | .view | .take | .burst => s

/-- A sequenced change is accepted: out of DORMANT it waits for the store (R396). -/
def startSeq (goal : Mode) (req : Option ReqId) (around : Surroundings) (s : State) : State :=
  let q : SeqChange := ⟨goal, req, s.time.now, .store, around⟩
  if s.mode.mode = .dormant ∧ s.power.holdState ≠ .ready then holdSeq q .store s else proceedSeq q s

/-! ## What a waiting change meets -/

/-- HOLD_STORE_READY: the store has reached 46.0 V with an input present (R396). -/
def storeReady (s : State) : State :=
  let p := s.power
  if p.aoOn && p.ride.isNone && p.retire.isNone then
    let s1 := { s with power := { p with holdVolts := max 4600 p.holdVolts, holdState := .ready } }
    match s.mode.seq with
    | some q => if q.stage = .store then proceedSeq q s1 else s1
    | none => s1
  else s

/-- HOLD_STORE_READY. -/
def execHoldStoreReady (s : State) : Host.Outcome State Fault Refusal := .next (storeReady s)

/-- HOLD_STORE_TIMEOUT: the store has not reached READY within 3.0 s (R396). -/
def storeTimeout (s : State) : State :=
  match s.mode.seq with
  | none => s
  | some q =>
    if q.stage = .store then failSeq q 0x010A (logEvent 0x010A srcAo 0 (reachNow (q.since + 3 * Config.ticksPerSecond) s)) else s

/-- HOLD_STORE_TIMEOUT. -/
def execHoldStoreTimeout (s : State) : Host.Outcome State Fault Refusal := .next (storeTimeout s)

/-- READY_ENTRY_COMPLETE: the stack lies in its regulation band (Table 16-4, step 10). -/
def readyComplete (s : State) : State :=
  match s.mode.seq with
  | none => s
  | some q => if q.stage = .band ∧ s.thermal.inBand = true then completeSeq q s else s

/-- READY_ENTRY_COMPLETE. -/
def execReadyEntryComplete (s : State) : Host.Outcome State Fault Refusal := .next (readyComplete s)

/-- READY_ENTRY_TIMEOUT: 120 s after the acceptance the stack is not in its band. -/
def readyTimeout (s : State) : State :=
  match s.mode.seq with
  | none => s
  | some q =>
    if q.stage = .band then failSeq q 0x010C (logEvent 0x010C srcCooler 0 (reachNow (q.since + 120 * Config.ticksPerSecond) s)) else s

/-- READY_ENTRY_TIMEOUT. -/
def execReadyEntryTimeout (s : State) : Host.Outcome State Fault Refusal := .next (readyTimeout s)

/-- A transfer that runs on a bus ends, since its engine has no power (RESULT 5: DESIGN CHOICE, log entry 42). -/
def cutXfer (b : BusId) (s : State) : State := if (s.bus.get b).xfer.isSome then endXfer b 5 0 .failed [] s else s

/-- What needs a domain outside a sequenced change fails with it: a transfer or a capture in DORMANT (R338, R361), a fuse operation (R377), a
procedure of SERVICE (R404). -/
def failUsers (d : Nat) (s : State) : State :=
  if d = 77 then abusOff (cutXfer .abus1 (cutXfer .abus0 s))
  else if d = 72 then auxOff (endCapture 1 .failed (zeros 8) (fun i => i) (endCapture 0 .failed (zeros 8) (fun i => i) s))
  else if d = 78 then abandonFuse s
  else if d ∈ procedureDomains ∧ s.mode.mode = .service then stopProcedure s
  else s

/-- POWER_GOOD_TIMEOUT: a domain that a change has powered has no power good (R402, R404). -/
def domainFails (d : Nat) (s : State) : State :=
  if s.power.en.getD d false then
    match s.mode.seq with
    | some q => if d ∈ modeDomains s.mode.mode then s else failSeq q 0x0109 (failDomain d s)
    | none => if d ∈ modeDomains s.mode.mode then s else failDomain d (failUsers d s)
  else s

/-- POWER_GOOD_TIMEOUT. -/
def execPowerGoodTimeout (domain : Nat) (s : State) : Host.Outcome State Fault Refusal :=
  if domain < 80 then .next (domainFails domain s) else .fault (.noSuchDomain domain)

/-- What a change without a request meets: nothing fails, and nothing is discovered. -/
def noSurroundings : Surroundings := ⟨[], [], [], none, ⟨⟨⟨0, 0, 0, 0, 0⟩, ⟨0, 0, 0, 0, 0⟩⟩, []⟩, ⟨[], [], 0, [], (0, 0), [], []⟩, []⟩

/-- READY_IDLE_TIMEOUT (R278): IDLE_S seconds after the entry to READY and the latest request, with nothing accepted under way. -/
def idleTimeout (s : State) : State :=
  if s.mode.mode = .ready ∧ s.power.idleToDormant = true ∧ s.modeBusy = false ∧ s.mbox.claims = [] then
    startSeq .dormant none noSurroundings
      (reachNow (max s.mode.since s.mbox.lastTaken + s.power.idleS * Config.ticksPerSecond) s)
  else s

/-- READY_IDLE_TIMEOUT. -/
def execReadyIdleTimeout (s : State) : Host.Outcome State Fault Refusal := .next (idleTimeout s)

/-! ## MODE_REQUEST -/

/-- The mode of a code. -/
def modeOf (n : Nat) : Option Mode := match n with
  | 0 => some .dormant
  | 1 => some .ready
  | 2 => some .view
  | 3 => some .take
  | 4 => some .burst
  | 5 => some .service
  | _ => none

/-- The edges of Table 6-3 that MODE_REQUEST asks for. In BURST it names what follows the burst (R149). -/
def requestable (m goal : Mode) : Bool := match m with
  | .dormant => decide (goal = .ready) || decide (goal = .service)
  | .ready => decide (goal = .dormant) || decide (goal = .view) || decide (goal = .service)
  | .view => decide (goal = .ready) || decide (goal = .burst)
  | .take => false
  | .burst => decide (goal = .view) || decide (goal = .ready)
  | .service => decide (goal = .ready) || decide (goal = .dormant)

/-- The fields of a burst fit each other (R148). -/
def burstOk (f : ModeFields) : Bool :=
  let b := f.burst
  decide (b.takeId.toNat ≠ 0) && decide (f.nextMode.toNat = 1 ∨ f.nextMode.toNat = 2 ∨ f.nextMode.toNat = 3) &&
    if f.nextMode.toNat = 3 then decide (b.nextTakeId.toNat ≠ 0) && decide (b.nextTakeId ≠ b.takeId) else decide (b.nextTakeId.toNat = 0)

/-- Check 10 of MODE_REQUEST: the mode is one that a request may name, and the burst's fields stand with BURST only. -/
def fieldsSound (f : ModeFields) (r : Req) (s : State) : Bool :=
  match modeOf f.mode.toNat with
  | none | some .take => false
  | some .burst => decide (s.major r ≠ 2) && burstOk f
  | some _ => decide (f.nextMode.toNat = 0) && decide (f.burstCount.toNat = 0)

/-- The checks of MODE_REQUEST. -/
def modeChecks (r : Req) (f : ModeFields) (s : State) : Checks :=
  let goal := (modeOf f.mode.toNat).getD .take
  { len := if goal = .burst then decide (r.len = 72 ∧ f.burst.wrapped.length = 40) else decide (r.len = 8)
    param := sound r (fieldsSound f r s && !(decide (s.mode.mode = .ready) && decide (r.target.toNat ≠ 0)))
    mode := requestable s.mode.mode goal
    claims := [.mode] }

/-- VIEW to BURST (R148). -/
def startBurst (f : ModeFields) (e : Nat) (id : ReqId) (s : State) : State :=
  let b := f.burst
  let isSealed := s.seals
  if !(s.cap 3) || keyDenied b.keyId.toNat s then respond id true .denied 0 [] s
  else match takeRefusal (s.numberAt e) false s with
  | some st => respond id true st 0 [] s
  | none =>
    if !(keyFits isSealed b.keyId.toNat b.wrapped) then respond id true .badParam 0 [] s
    else
      let (key, s1) := takeKey isSealed b.keyId.toNat b.wrapped s
      startChange .burst
        (.startBurst f.burstCount.toNat f.nextMode.toNat b.takeId.toNat b.nextTakeId.toNat b.keyId.toNat key isSealed) e (some id)
        (accept id [.mode] (s.epochFrame e) s1)

/-- A request for VIEW or READY in BURST (R149): NEXT_MODE is replaced, and in the capture phase the capture ends at the epoch. -/
def redirectBurst (b : Burst) (goal : Mode) (e : Nat) (id : ReqId) (s : State) : State :=
  let s1 := accept id [.mode] (if b.drain then 0 else s.epochFrame e)
    { s with mode := { s.mode with burst := some { b with nextMode := modeCode goal } } }
  if b.drain then finish id .ok 0 (modeResponse 4 1 0 0) s1
  else startChange .burst (.endCapture false) e (some id) s1

/-- The effect of MODE_REQUEST. -/
def modeRequestAct (f : ModeFields) (sur : Surroundings) (target : Nat) (id : ReqId) (s : State) : State :=
  let e := s.epochFor target
  if s.mode.mode = .service ∧ s.dump.fatalPending = true then respond id true .denied 0 [] s
  else if s.modeBusy then respond id true .busy 0 [] s
  else
    match modeOf f.mode.toNat, s.mode.burst with
    | some .burst, _ => startBurst f e id s
    | some goal, some b => redirectBurst b goal e id s
    | some goal, none =>
      if goal = .view ∨ (goal = .ready ∧ s.mode.mode = .view) then
        startChange goal .plain e (some id) (accept id [.mode] (s.epochFrame e) s)
      else startSeq goal (some id) sur (accept id [.mode] 0 s)
    | none, _ => s

/-- MODE_REQUEST (R130, R148, R149). -/
def execModeRequest (r : Req) (f : ModeFields) (sur : Surroundings) (s : State) : Host.Outcome State Fault Refusal :=
  .next (command .modeRequest r (modeChecks r f) (modeRequestAct f sur r.target.toNat) s)

end Sys2Proof.Machine
end

