-- ==== Sys2Proof/Machine/ClockEvents.lean ====
section
/-! DEFINITION. Events of the clocks and the commands of the clock unit (R411, R414, R416 to R419). -/

namespace Sys2Proof.Machine

/-! ## Locks (R416, R417) -/

/-- A failed lock is retried once, 10 ms after its failure. -/
def retryLock (p : PllId) (s : State) : State :=
  match (s.clk.get p).retryAt with
  | none => s
  | some t => if s.pdOn (pllDomain p) then requestLock p (reachNow t s) else s

/-- An entry to READY that waits for its PLLs goes on, or ends. -/
def notePlls (s : State) : State :=
  match s.mode.seq with
  | none => s
  | some q => if q.stage = .plls then awaitPlls q s else s

/-- Whether a reference that a PLL follows counts as present: XREF, or GENREF only while the genlock meter is LOCKED (R418). -/
def State.refHere (s : State) (p : PllId) (ref : Nat) : Bool :=
  if p = .b ∧ ref = 1 then decide (s.sync.genlock.state = .locked) else s.clk.xrefPresent

/-- PLL_LOCK_DETECT: the detector agrees, at T_LOCK or later (Table 17-4). Without its reference it has nothing to agree with (R417). -/
def lockDetect (p : PllId) (s0 : State) : State :=
  let s := retryLock p s0
  let x := s.clk.get p
  if x.state = .locking ∧ s.refHere p x.ref = true then notePlls (completeLock p (reachNow (x.since + lockTime p) s)) else s

/-- PLL_LOCK_DETECT. -/
def execPllLockDetect (p : PllId) (s : State) : Host.Outcome State Fault Refusal := .next (lockDetect p s)

/-- PLL_LOCK_TIMEOUT: the detector has not agreed by 10 × T_LOCK. The first failure is retried. -/
def lockTimeout (p : PllId) (s0 : State) : State :=
  let s := retryLock p s0
  let x := s.clk.get p
  if x.state = .locking then
    let t := reachNow (x.since + 10 * lockTime p) s
    let y := { x with state := .failed, agrees := false, tries := x.tries + 1,
                      retryAt := if x.tries = 0 then some (t.time.now + 10 * Config.ms) else none }
    let c := t.clk.set p y
    notePlls (logEvent 0x0204 srcAo (pllNum p) { t with clk := { c with relockFail := bump32 c.relockFail 1 } })
  else s

/-- PLL_LOCK_TIMEOUT. -/
def execPllLockTimeout (p : PllId) (s : State) : Host.Outcome State Fault Refusal := .next (lockTimeout p s)

/-! ## Holdover (R411, R418) -/

/-- PLL_REF_LOSS: a locked PLL enters holdover. -/
def execPllRefLoss (p : PllId) (s : State) : Host.Outcome State Fault Refusal := .next (enterHoldover p s)

/-- Whether the reference of a PLL counts as present: XREF, or GENREF only while the genlock meter is LOCKED. -/
def State.refBack (s : State) (p : PllId) : Bool :=
  if p = .b ∧ s.clk.pllB.ref = 1 then decide (s.sync.genlock.state = .locked) else true

/-- PLL_REF_RETURN: the reference has been present for 1 ms, and the loop resumes from the frozen value without a relock. -/
def refReturn (p : PllId) (s : State) : State :=
  let x := s.clk.get p
  if s.refBack p then
    let c := if p = .b ∧ x.ref = 1 then s.clk else { s.clk with xrefPresent := true }
    if x.state = .holdover then
      logEvent 0x0205 srcAo (pllNum p) { s with clk := c.set p { x with state := .locked, agrees := true, refPresent := true } }
    else { s with clk := c.set p { x with refPresent := true } }
  else s

/-- PLL_REF_RETURN. -/
def execPllRefReturn (p : PllId) (s : State) : Host.Outcome State Fault Refusal := .next (refReturn p s)

/-- XREF_LOSS: the reference multiplier moves to HKOSC, and all three PLLs enter holdover. -/
def loseXref (s : State) : State :=
  if s.power.aoOn then
    let s1 := { s with clk := { s.clk with xrefPresent := false, onHkosc := true } }
    let s2 := if s.clk.onHkosc then s1 else logEvent 0x0206 srcAo 0 s1
    enterHoldover .c (enterHoldover .b (enterHoldover .a s2))
  else s

/-- XREF_LOSS. -/
def execXrefLoss (s : State) : Host.Outcome State Fault Refusal := .next (loseXref s)

/-- XREF_RETURN: XREF has run for 10 ms, and the multiplier returns to it. -/
def execXrefReturn (s : State) : Host.Outcome State Fault Refusal :=
  .next { s with clk := { s.clk with xrefPresent := true, onHkosc := false } }

/-! ## Commands of the clock unit -/

/-- Whether a lock may be asked for: PLL-C only while MPERST0# to MPERST3# are asserted and the tandem link is down (R419). -/
def State.mayRelock (s : State) (p : PllId) : Bool :=
  decide (s.mode.mode = .service) && s.pdOn (pllDomain p) && !(decide (p = .c) && (s.pdOn 58 || s.tandem.up))

/-- A bit of PLL_CMD. -/
def pllCommand (p : PllId) (s : State) : State := if s.mayRelock p then requestLock p s else s

/-- PLL_CMD_LOCK (R419). -/
def execPllCmdLock (p : PllId) (s : State) : Host.Outcome State Fault Refusal := .next (pllCommand p s)

/-- A format field of OUT_CFG after a write: a reserved code keeps the format (R6). -/
def formatAfter (old v : U32) (i : Nat) : Nat := if field v (4 * i) 3 ≤ 4 then field v (4 * i) 3 else field old (4 * i) 3

/-- OUT_CFG: an output whose format changes is held low for 10 µs. -/
def writeOutCfg (v : U32) (s : State) : State :=
  let c := s.clk
  let new := (List.range 5).map (formatAfter c.outCfg v)
  let low := (List.range 5).map fun i =>
    if new.getD i 0 = field c.outCfg (4 * i) 3 then c.outLow.getD i 0 else s.time.now + 10 * Config.us
  { s with clk := { c with outCfg := BitVec.ofNat 32 (sumNat ((List.range 5).map fun i => 16 ^ i * new.getD i 0)), outLow := low } }

/-- OUT_CFG (R414). -/
def execOutCfg (v : U32) (s : State) : Host.Outcome State Fault Refusal := .next (writeOutCfg v s)

end Sys2Proof.Machine
end

