-- ==== Sys2Proof/Machine/Link.lean ====
section
/-! DEFINITION. The host link: training, resets and power states (R187 to R192, R196, R204), interrupts (R197), link errors (R205), the DOE
mailbox and link IDE (R200, R201). -/

namespace Sys2Proof.Machine

/-! ## Vectors that waited (R197) -/

/-- A function of the link. -/
def LinkUnit.func (l : LinkUnit) (pf1 : Bool) : Function := if pf1 then l.pf1 else l.pf0

/-- Replaces a function of the link. -/
def LinkUnit.setFunc (l : LinkUnit) (pf1 : Bool) (f : Function) : LinkUnit := if pf1 then { l with pf1 := f } else { l with pf0 := f }

/-- Sends a pending vector and clears its bit. -/
def sendPending (pf1 : Bool) (n : Nat) (s : State) : State :=
  let f := s.link.func pf1
  ({ s with link := s.link.setFunc pf1 { f with pba := f.pba.filter fun k => decide (k ≠ n) } }).send (.vector pf1 n)

/-- Sends every pending vector that the masks allow, in ascending order. -/
def releaseVectors (pf1 : Bool) (s : State) : State :=
  each ((List.range 64).filter fun n => decide (n ∈ (s.link.func pf1).pba) && s.link.vectorOpen pf1 n) (sendPending pf1) s

/-- The vectors whose sources hold unserviced content: completions, ring entries, captures, inbox entries and queue entries. -/
def State.unserviced (s : State) (pf1 : Bool) : List Nat :=
  let c (x : Channel) : Bool := decide (x.cqTail ≠ x.cqHead)
  let i (x : Bus) : Bool := decide (x.inProduced ≠ x.inConsumed)
  if pf1 then (if c s.mbox.c1 then [0] else [])
  else
    (if c s.mbox.c0 then [0] else []) ++ (if c s.mbox.c2 then [1] else [])
      ++ (if s.mbox.ring.produced ≠ s.mbox.ring.consumed then [2] else [])
      ++ ((List.range 16).filter fun n => (s.sync.timers.getD n Reset.timer).capValid).map (· + 6)
      ++ (if i s.bus.abus0 then [22] else []) ++ (if i s.bus.abus1 then [23] else []) ++ (if i s.bus.hbus then [24] else [])
      ++ (if s.aux.produced ≠ s.aux.consumed then [25] else [])

/-- MSIX_ENABLE: a write of Message Control. -/
def msixControl (pf1 enable mask : Bool) (s : State) : State :=
  let f := s.link.func pf1
  let g := { f with msixEnable := enable, msixMask := mask }
  let h := if enable && !f.msixEnable then (s.unserviced pf1).foldl Function.pend g else g
  releaseVectors pf1 { s with link := s.link.setFunc pf1 h }

/-- MSIX_ENABLE. -/
def execMsixEnable (fn : Func) (enable functionMask : Bool) (s : State) : Host.Outcome State Fault Refusal :=
  .next (msixControl (decide (fn = .pf1)) enable functionMask s)

/-! ## What pauses and resumes (R203, R204, R221) -/

/-- Welt goes on: a session that owes progress starts its time again, and what waited goes out. It goes on at the first page that no commit names:
pages of a frame that was committed and is not yet acknowledged are not written again (DESIGN CHOICE, log entry 70: Table 1-6 says 'first
unacknowledged page', and a posted write that left has no acknowledgement of its own but the link's). -/
def resumeWelt (s : State) : State :=
  let again (b : Nat) (t : State) : State := if (t.bay b).owing then restartProgress b t else t
  if s.link.mayWrite false then onCredit (again 1 (again 0 s)) else s

/-- A function may write again: its pending vectors leave, and Welt goes on. -/
def resume (pf1 : Bool) (s : State) : State :=
  let t := releaseVectors pf1 s
  if pf1 then t else resumeWelt t

/-- BUS_MASTER_ENABLE. -/
def busMaster (pf1 on : Bool) (s : State) : State :=
  let t := { s with link := s.link.setFunc pf1 { s.link.func pf1 with bme := on } }
  if on && !(s.link.func pf1).bme then resume pf1 t else t

/-- BUS_MASTER_ENABLE (R276). -/
def execBusMasterEnable (fn : Func) (on : Bool) (s : State) : Host.Outcome State Fault Refusal := .next (busMaster (decide (fn = .pf1)) on s)

/-- D3HOT_ENTRY (R196). -/
def execD3hotEntry (fn : Func) (s : State) : Host.Outcome State Fault Refusal :=
  let p := decide (fn = .pf1)
  .next { s with link := s.link.setFunc p { s.link.func p with d3hot := true } }

/-- D3HOT_EXIT (R221). -/
def leaveD3hot (pf1 : Bool) (s : State) : State :=
  let t := { s with link := s.link.setFunc pf1 { s.link.func pf1 with d3hot := false } }
  if (s.link.func pf1).d3hot then resume pf1 t else t

/-- D3HOT_EXIT. -/
def execD3hotExit (fn : Func) (s : State) : Host.Outcome State Fault Refusal := .next (leaveD3hot (decide (fn = .pf1)) s)

/-! ## Link resets (R204, R276, Table 8-6) -/

/-- Every tap and stream that is started stops with reason 3. -/
def ViewRing.linkStop (r : ViewRing) : ViewRing :=
  if r.state = .stopped then r else { r with state := .stopped, reason := 3, change := none, timeoutRun := 0 }

/-- All rings stop with reason 3. -/
def stopRings (s : State) : State := { s with view := { s.view with rings := s.view.rings.map ViewRing.linkStop } }

/-- Accesses that wait in the bridge are dropped (R297). -/
def dropBridge (s : State) : State := { s with regs := { s.regs with waiting := none, queue := [] } }

/-- A request channel of PF0 at a link reset: its copies are written again, then the responses still pending, and then fetching resumes (R276). -/
def Channel.linkReset (c : Channel) : Channel := { c with rewrite := c.copies.length, owed := c.outgoing.length }

/-- The mailbox at a link reset: CH0 and CH2 write their copies again, CH1 is discarded, and CH2 authentication ends. -/
def Mailbox.linkReset (m : Mailbox) : Mailbox :=
  { m with c0 := m.c0.linkReset, c2 := m.c2.linkReset, c1 := m.c1.discarded, auth := { m.auth.ended with challenge := none } }

/-- Both functions return to their reset configuration, DOE and IDE with it. -/
def LinkUnit.resetConfig (l : LinkUnit) : LinkUnit :=
  { l with pf0 := Reset.link.pf0, pf1 := Reset.link.pf1, ide := Reset.link.ide, doe := ⟨none, l.doe.busyCnt⟩, aer0 := Reset.aer, aer1 := Reset.aer, mps := 128,
           reads := [] }

/-- The link goes down: PERST#, a hot reset, or a loss of the link. -/
def linkReset (s : State) : State :=
  let l := { s.link.resetConfig with state := .down, active := 0 }
  let t := { s with link := l, mbox := s.mbox.linkReset, trust := { s.trust with secured := false } }
  logEvent 0x0501 srcHost 0 (dropBridge (stopRings t))

/-- PERST: the pin falls, or a hot reset arrives; and the pin rises again. -/
def perstChange (asserted : Bool) (s : State) : State :=
  if asserted then linkReset { s with link := { s.link with perst := true } } else { s with link := { s.link with perst := false } }

/-- PERST (R204). -/
def execPerst (asserted : Bool) (s : State) : Host.Outcome State Fault Refusal := .next (perstChange asserted s)

/-- LINK_DOWN without PERST# (R204). In L2 the link is down already (R191). -/
def execLinkDown (s : State) : Host.Outcome State Fault Refusal :=
  .next (if s.link.state = .down ∨ s.link.state = .l2 then s else linkReset s)

/-- LINK_TRAINED (R189): the link reaches L0 at a rate and width, or retrains to new ones. -/
def hostLinkUp (rate0 width0 : Nat) (flit : Bool) (mps : Nat) (s : State) : State :=
  if s.pdOn 55 && s.pdOn 56 && !s.link.perst && s.clk.refclk && s.power.retire.isNone then
    -- a link that can form x2 alone trains x1, and 64 GT/s needs flit mode (Table 8-1)
    let width := if width0 = 2 then 1 else width0
    let rate := if flit then rate0 else min rate0 320
    let asked := if s.reads then width else 1
    let l := { s.link with state := .l0, rate := rate, width := width, active := width, flit := flit, mps := mps, asked := asked }
    let t := renewBsus (logEvent 0x0502 srcHost (rate + 65536 * width) { s with link := l })
    if s.reads then t else t.send (.askWidth 1)
  else s

/-- LINK_TRAINED. -/
def execLinkTrained (rate width : Nat) (flit : Bool) (mps : Nat) (s : State) : Host.Outcome State Fault Refusal :=
  .next (hostLinkUp rate width flit mps s)

/-- L0P_NARROWING: the active width changes. The width that the module asked for is granted; the full width ends the narrowed interval, and Welt goes on.
Another width is the partner's narrowing: event 0x050A, and the full width is asked for again after 1 ms (R190). -/
def narrowLink (width : Nat) (s : State) : State :=
  if !(s.link.live && s.link.flit && decide (0 < width)) then s
  else
    let l : LinkUnit := if width < s.link.width then { s.link with state := .l0p, active := width } else { s.link with state := .l0, active := s.link.width }
    if s.link.width ≤ width then resumeWelt { s with link := l }
    else if width = s.link.asked then { s with link := l }
    else
    let t := reachNow (s.time.now + Config.ms) (logEvent 0x050A srcHost width { s with link := l })
    ({ t with link := { t.link with asked := t.link.width } }).send (.askWidth t.link.width)

/-- L0P_NARROWING. -/
def execL0pNarrowing (width : Nat) (s : State) : Host.Outcome State Fault Refusal := .next (narrowLink width s)

/-- The event ring without its contents. -/
def EventRing.discarded (r : EventRing) : EventRing :=
  { r with produced := 0, consumed := 0, noticeDue := false, updates := [], stale := [], vecDue := false }

/-- FLR_PF0: CH0, CH2 and CH3 are discarded, and Bus Master Enable is clear. -/
def resetPf0 (s : State) : State :=
  let m := s.mbox
  let n : Mailbox := { m with c0 := m.c0.discarded, c2 := m.c2.discarded, ring := m.ring.discarded, auth := { m.auth.ended with challenge := none } }
  let t : LinkUnit := { s.link with pf0 := Reset.link.pf0, doe := ⟨none, s.link.doe.busyCnt⟩ }
  logEvent 0x0507 srcHost 0 (dropBridge { s with mbox := n, link := t })

/-- FLR_PF0 (R204). -/
def execFlrPf0 (s : State) : Host.Outcome State Fault Refusal := .next (resetPf0 s)

/-- FLR_PF1: every ring stops, and CH1 is discarded. -/
def resetPf1 (s : State) : State :=
  logEvent 0x0508 srcHost 1
    (stopRings { s with mbox := { s.mbox with c1 := s.mbox.c1.discarded }, link := { s.link with pf1 := Reset.link.pf1 } })

/-- FLR_PF1 (R204). -/
def execFlrPf1 (s : State) : Host.Outcome State Fault Refusal := .next (resetPf1 s)

/-- PME_TURN_OFF: PME_TO_Ack in any mode, and L2 in DORMANT where the power policy permits it (R191). -/
def turnOff (s : State) : State :=
  if s.link.hears then
    let t := s.send .pmeToAck
    if s.mode.mode = .dormant ∧ s.power.permitL2 = true then { t with link := { t.link with state := .l2, active := 0 } } else t
  else s

/-- PME_TURN_OFF. -/
def execPmeTurnOff (s : State) : Host.Outcome State Fault Refusal := .next (turnOff s)

/-- WAKE# is driven in L2 while a vector of PF0 has a pending cause (R191). -/
def State.wake (s : State) : Bool := decide (s.link.state = .l2) && (decide (s.link.pf0.pba ≠ []) || decide (s.unserviced false ≠ []))

/-! ## Link errors (Table 8-9) -/

/-- UNEXPECTED_COMPLETION: discarded; an insecure stream discards it before (R201). -/
def execUnexpectedCompletion (s : State) : Host.Outcome State Fault Refusal :=
  .next (if s.link.hears then logEvent 0x0506 srcHost 0 (reportError false 16 s) else s)

/-- An access that completes with Unsupported Request (R196). -/
def unsupported (pf1 : Bool) (off : Nat) (s : State) : State :=
  (logEvent 0x0503 srcHost off (reportError pf1 20 s)).send (.completion .unsupported)

/-- BAR0_ACCESS_ERROR: a poisoned write or a failed ECRC is discarded, the latter with checking enabled; an unsupported size completes with
Unsupported Request. An insecure stream discards what it receives before (R201). -/
def accessError (e : Bar0Error) (s : State) : State :=
  if !s.link.hears then s
  else match e with
  | .poisoned fn off => logEvent 0x0504 srcHost off (reportError (decide (fn = .pf1)) 12 s)
  | .ecrc fn off =>
    let p := decide (fn = .pf1)
    if (s.link.aer p).ecrcCheck then logEvent 0x0504 srcHost off (reportError p 19 s) else s
  | .badSize fn off => unsupported (decide (fn = .pf1)) off s

/-- BAR0_ACCESS_ERROR. -/
def execBar0AccessError (e : Bar0Error) (s : State) : Host.Outcome State Fault Refusal := .next (accessError e s)

/-- IDE_INTEGRITY_FAILURE: the stream is insecure until it is keyed again (R201). -/
def execIdeIntegrityFailure (s : State) : Host.Outcome State Fault Refusal :=
  .next (if s.link.ide.started then
    logEvent 0x0509 srcHost 0 { s with link := { s.link with ide := { s.link.ide with insecure := true } } }
  else s)

/-! ## The DOE mailbox (R200) -/

/-- A DOE object: vendor ID and type, length in DW, and the data (PRESUMED, the PCI Express standard; log entry 18). -/
def doeObject (kind : Nat) (bs : List Byte) : List Byte :=
  let n := (bs.length + 3) / 4
  leBytes 2 1 ++ leBytes 1 kind ++ zeros 1 ++ leBytes 4 (n + 2) ++ padTo (4 * n) bs

/-- The answer to Discovery: the type at an index, and the next index. -/
def discoveryAnswer (index : Nat) : List Byte :=
  if index < 3 then doeObject 0 (leBytes 2 1 ++ leBytes 1 index ++ leBytes 1 (if index = 2 then 0 else index + 1))
  else doeObject 0 (leBytes 2 0xFFFF ++ leBytes 1 0 ++ leBytes 1 0)

/-- An answer of the keeper core, which the host may read. -/
def doeAnswer (bs : List Byte) (s : State) : State :=
  ({ s with link := { s.link with doe := { s.link.doe with response := some bs } } }).send (.doe bs)

/-- An SPDM answer: its contents are free. -/
def spdmAnswer (kind : Nat) (s : State) : State := doeAnswer (doeObject kind (Config.freeSpdm s.free)) s.drew

/-- GET_VERSION, and its answer: SPDM 1.2 and 1.3 (R200; the layout of the messages is that of SPDM: PRESUMED, log entry 18). -/
def versionAnswer : List Byte := doeObject 1 ([0x10, 0x04] ++ zeros 3 ++ leBytes 1 2 ++ leBytes 2 0x1200 ++ leBytes 2 0x1300)

/-- The answer to a request of another version: VersionMismatch. -/
def versionError : List Byte := doeObject 1 [0x12, 0x7F, 0x41, 0]

/-- Whether a request is of SPDM version 1.2 or 1.3. -/
def spdmVersionOk (bs : List Byte) : Bool := bs[0]? == some 0x12 || bs[0]? == some 0x13

/-- The object's length in bytes, header included. -/
def doeLength (o : DoeObject) : Nat := match o with
  | .discovery _ => 12
  | .spdm bs | .openSession bs | .secured bs => 8 + bs.length
  | .endSession => 8

/-- A request object while a response is unread gets the busy indication (R200). DOE objects are configuration requests, which an insecure stream
takes too (R201). -/
def doeUnlessBusy (fetched : Bool) (act : State → State) (s : State) : State :=
  if s.link.doe.response.isSome && !fetched then
    ({ s with link := { s.link with doe := { s.link.doe with busyCnt := s.link.doe.busyCnt + 1 } } }).send .doeBusy
  else act s

/-- DOE_REQUEST: busy while a response is unread; `fetched` says that the host has read the response before. -/
def doeRequestAct (o : DoeObject) (fetched : Bool) (s : State) : State :=
  if 4096 < doeLength o then s
  else doeUnlessBusy fetched (fun s => match o with
    | .discovery i => doeAnswer (discoveryAnswer i.toNat) s
    | .spdm bs =>
      if bs.take 2 = [0x10, 0x84] then doeAnswer versionAnswer s
      else if spdmVersionOk bs then spdmAnswer 1 s else doeAnswer versionError s
    | .openSession bs =>
      if spdmVersionOk bs then spdmAnswer 1 { s with trust := { s.trust with secured := true } } else doeAnswer versionError s
    | .secured _ => spdmAnswer 2 s
    | .endSession => spdmAnswer 2 { s with trust := { s.trust with secured := false } }) s

/-- DOE_REQUEST. -/
def execDoeRequest (o : DoeObject) (fetched : Bool) (s : State) : Host.Outcome State Fault Refusal := .next (doeRequestAct o fetched s)

/-- DOE_ABORT: the pending request and response are discarded. -/
def execDoeAbort (s : State) : Host.Outcome State Fault Refusal :=
  .next { s with link := { s.link with doe := { s.link.doe with response := none } } }

/-- IDE_KM: keys in a secured session set or refresh the keys of a direction, and re-key an insecure stream. The feature bit governs it; without
it, or without a session, the answer is an SPDM error (R201, R301). -/
def ideKeys (rx tx : List Byte) (s : State) : State :=
  if s.trust.secured && s.cap 5 then
    let old := s.link.ide
    let keep (k : List Byte) (o : Option (List Byte)) : Option (List Byte) := if k = [] then o else some k
    let r := keep rx old.rxKey
    let t := keep tx old.txKey
    spdmAnswer 2 { s with link := { s.link with ide := ⟨r, t, r.isSome && t.isSome, old.insecure && decide (rx = [])⟩ } }
  else spdmAnswer 1 s

/-- IDE_KM. -/
def execIdeKm (rx : SecuredObject) (tx : List Byte) (s : State) : Host.Outcome State Fault Refusal :=
  .next (doeUnlessBusy rx.fetched (ideKeys rx.body tx) s)

end Sys2Proof.Machine
end

