-- ==== Sys2Proof/Machine/Picture.lean ====
section
/-! DEFINITION. The picture engines (R235 to R242): intake, crop, colour formation, downscaling, matrix, shaper, 3D LUT, output
formats, and the analysis block. Charges are exact rationals, in e⁻. -/

namespace Sys2Proof.Machine

/-- A charge in e⁻. -/
abbrev Charge : Type := Rat

/-- A sample as stages 1 and 2 give it: what it brings to each of the channels R, G and B. -/
structure Sample where
  charge : List (Option Charge)
  clipped : Bool
  padded : Bool

/-- A cropped source: its size, whether its samples form a mosaic, and the sample at a place of the crop. -/
structure Source where
  w : Nat
  h : Nat
  mosaic : Bool
  sample : Nat → Nat → Sample

/-! ## Stages 1 and 2: LOCAL (R236, R99) -/

/-- The charge of a linear value: one unit is 1/16 e⁻ over the pedestal. -/
def chargeOf (v : Nat) : Charge := (((v : Int) - 1024 : Int) : Rat) / 16

/-- A charge that the site at (x, y) brings: to its own channel of the mosaic, or to every channel on MF-9170M. -/
def toChannels (mono : Bool) (x y : Nat) (q : Option Charge) : List (Option Charge) :=
  (List.range 3).map fun c => if mono || decide (siteChannel x y = c) then q else none

/-- The sample of a value at (x, y). -/
def localSample (mono : Bool) (x y v : Nat) : Sample :=
  let hot := decide (v = Config.codeRun) || decide (v = Config.codeSat)
  ⟨toChannels mono x y (if hot then some (chargeOf Config.maxValue) else if v < 0xFFFFF0 then some (chargeOf v) else none), hot, false⟩

/-- The sample of the crop outside the frame's window: the pedestal, flagged. -/
def padSample (mono : Bool) (x y : Nat) : Sample := ⟨toChannels mono x y (some (chargeOf Config.pedestal)), false, true⟩

/-- The plane that TWIN_PLANE chooses; a frame that is no twin frame has plane A only. -/
def Frame.viewNode (f : Frame) (x : RingSet) : Node := if x.twinPlane = 1 ∧ f.gov.sensor.program.twin then .b else .a

/-- A value of the window at an active place, in the unit of the binning; none outside the window. -/
def Frame.windowValue (f : Frame) (grid : List (List Nat)) (X Y : Nat) : Option Nat :=
  let g := f.gov.geometry
  let x0 := g.window.x0 / g.bin
  let y0 := (Config.activeRows / 2 - g.window.h / 2) / g.bin
  if x0 ≤ X ∧ y0 ≤ Y then (grid[Y - y0]?).bind fun r => r[X - x0]? else none

/-- The crop of a LOCAL source. -/
def Frame.localSource (f : Frame) (x : RingSet) : Source :=
  let b := f.gov.geometry.bin
  let grid := f.viewGrid (f.viewNode x)
  ⟨x.cropW / b, x.cropH / b, !f.data.mono, fun i j =>
    let X := x.cropX0 / b + i
    let Y := x.cropY0 / b + j
    match f.windowValue grid X Y with
    | some v => localSample f.data.mono X Y v
    | none => padSample f.data.mono X Y⟩

/-! ## Stages 1 and 2: PARTNER and COMPOSITE (R257, R258) -/

/-- A binary16 number: finite in units of 2⁻²⁴, an infinity, or none of these. -/
inductive Half where
  | finite (v : Int)
  | infinite (negative : Bool)
  | nan
  deriving DecidableEq, Repr

/-- The number of a binary16 encoding. -/
def halfOf (h : Nat) : Half :=
  let e := h / 1024 % 32
  let m := h % 1024
  let neg := decide (0x8000 ≤ h % 0x10000)
  if e = 31 then (if m = 0 then .infinite neg else .nan)
  else
    let a : Nat := if e = 0 then m else (1024 + m) * 2 ^ (e - 1)
    .finite (if neg then -(a : Int) else a)

/-- The encoding of num / den units of 2⁻²⁴ of a finite result: beyond the range it is an infinity. -/
def halfRound (num : Int) (den : Nat) : Nat :=
  let h := half num (den * 2 ^ 24)
  if 0x7C00 ≤ h % 0x8000 then h / 0x8000 * 0x8000 + halfInf else h

/-- (L + F) / 2 of two numbers. -/
def halfMix (a b : Nat) : Nat := match halfOf a, halfOf b with
  | .finite x, .finite y => halfRound (x + y) 2
  | .infinite p, .infinite q => if p = q then a else halfNan
  | .infinite _, .finite _ => a
  | .finite _, .infinite _ => b
  | _, _ => halfNan

/-- |L − F| of two numbers. -/
def halfDistance (a b : Nat) : Nat := match halfOf a, halfOf b with
  | .finite x, .finite y => halfRound ((x - y).natAbs : Int) 1
  | .infinite p, .infinite q => if p = q then halfNan else halfInf
  | .infinite _, .finite _ => halfInf
  | .finite _, .infinite _ => halfInf
  | _, _ => halfNan

/-- A pixel from two, channel by channel. -/
def pixelBy (f : Nat → Nat → Nat) (a b : Pixel) : Pixel := (f a.1 b.1, f a.2.1 b.2.1, f a.2.2 b.2.2)

/-- The composite of the leader's and the follower's pixels (Table 10-11); `left` is 0 where the leader is the left eye. -/
def composite (mode left : Nat) (l f : List (List Pixel)) : List (List Pixel) :=
  let p := if left = 0 then l else f
  let q := if left = 0 then f else l
  match mode with
  | 1 => (p.zip q).map fun r => r.1 ++ r.2
  | 2 => p ++ q
  | 3 => (l.zip f).map fun r => (r.1.zip r.2).map fun x => pixelBy halfMix x.1 x.2
  | 4 => (l.zip f).map fun r => (r.1.zip r.2).map fun x => pixelBy halfDistance x.1 x.2
  | 5 => (p.zip q).zipIdx.map fun r => if r.2 % 2 = 0 then r.1.1 else r.1.2
  | _ => l

/-- The partner's pixels at the leader's size: zeros where there is no partner frame. -/
def partnerPixels (p : Option PartnerFrame) (w h : Nat) : List (List Pixel) := match p with
  | some f => (f.fit w h).lines.map (·.pixels)
  | none => List.replicate h (List.replicate w (0, 0, 0))

/-- What a channel of the intermediate brings; one unit of it is 64 e⁻. -/
def halfCharge (h : Nat) : Option Charge := match halfOf h with
  | .finite v => some ((v : Rat) * 64 / 2 ^ 24)
  | .infinite _ => Config.infinityEnters
  | .nan => Config.nanEnters

/-- Whether a channel clips, as the site that it comes from does. -/
def halfClips (h : Nat) : Bool := match halfOf h with
  | .infinite _ => true
  | _ => false

/-- The sample of a pixel. -/
def pixelSample (p : Pixel) : Sample :=
  ⟨[halfCharge p.1, halfCharge p.2.1, halfCharge p.2.2], halfClips p.1 || halfClips p.2.1 || halfClips p.2.2, false⟩

/-- The crop of a source of pixels. -/
def pixelSource (grid : List (List Pixel)) (x : RingSet) : Source :=
  ⟨x.cropW, x.cropH, false, fun i j =>
    match (grid[x.cropY0 + j]?).bind fun r => r[x.cropX0 + i]? with
    | some p => pixelSample p
    | none => padSample true 0 0⟩

/-! ## Stages 3 and 4 (R236) -/

/-- An output pixel after stage 4: its charge in each channel, and its marks. -/
structure OutPixel where
  charge : List Charge
  clipped : Bool
  missing : Bool
  padded : Bool

/-- The samples along one axis whose centre lies in the area of output place i, of n samples on `out` places. -/
def centres (n out i : Nat) : List Nat :=
  (List.range n).filter fun x => decide (2 * i * n ≤ (2 * x + 1) * out ∧ (2 * x + 1) * out < 2 * (i + 1) * n)

/-- The pairs along one axis that lie wholly in the area of output place i. -/
def wholePairs (n out i : Nat) : List Nat :=
  (List.range (n / 2)).filter fun a => decide (i * n ≤ 2 * a * out ∧ (2 * a + 2) * out ≤ (i + 1) * n)

/-- The mean of some charges. -/
def meanCharge (l : List Charge) : Option Charge := if l = [] then none else some (l.foldl (· + ·) 0 / (l.length : Rat))

/-- The channel of a sample. -/
def Sample.chan (p : Sample) (c : Nat) : Option Charge := p.charge.getD c none

/-- The places around (x, y), in the crop, at the given offsets. -/
def Source.around (src : Source) (x y : Nat) (offsets : List (Int × Int)) : List (Nat × Nat) :=
  offsets.filterMap fun d =>
    let a : Int := (x : Int) + d.1
    let b : Int := (y : Int) + d.2
    if 0 ≤ a ∧ a < (src.w : Int) ∧ 0 ≤ b ∧ b < (src.h : Int) then some (a.toNat, b.toNat) else none

/-- A channel at a site of the mosaic: its own, or the mean of the nearest sites of that colour. The crop begins on a whole quad. -/
def Source.interpolated (src : Source) (x y c : Nat) : Option Charge :=
  if siteChannel x y = c then (src.sample x y).chan c
  else
    let side := [(0, -1), (-1, 0), (1, 0), (0, 1)]
    let corner := [(-1, -1), (1, -1), (-1, 1), (1, 1)]
    let near := if siteChannel x y = 1 ∨ c = 1 then side else corner
    let sites := (src.around x y near).filter fun p => decide (siteChannel p.1 p.2 = c)
    meanCharge (sites.filterMap fun p => (src.sample p.1 p.2).chan c)

/-- The charges of channel c that enter output pixel (i, j). -/
def Source.entering (src : Source) (outW outH i j c : Nat) : List Charge :=
  if src.mosaic && decide (2 * outW ≤ src.w) && decide (2 * outH ≤ src.h) then
    (wholePairs src.h outH j).flatMap fun b => (wholePairs src.w outW i).flatMap fun a =>
      [(2 * a, 2 * b), (2 * a + 1, 2 * b), (2 * a, 2 * b + 1), (2 * a + 1, 2 * b + 1)].filterMap fun p => (src.sample p.1 p.2).chan c
  else
    (centres src.h outH j).flatMap fun y => (centres src.w outW i).filterMap fun x =>
      if src.mosaic then src.interpolated x y c else (src.sample x y).chan c

/-- Output pixel (i, j) after stage 4. -/
def Source.scaled (src : Source) (outW outH i j : Nat) : OutPixel :=
  let area := (centres src.h outH j).flatMap fun y => (centres src.w outW i).map fun x => src.sample x y
  let got := (List.range 3).map fun c => meanCharge (src.entering outW outH i j c)
  let missing := got.all (·.isNone)
  ⟨got.map fun q => if missing then 0 else q.getD Config.channelCharge, area.any (·.clipped), missing, area.any (·.padded)⟩

/-! ## Stages 5 to 7 -/

/-- Stage 5: the matrix, with results clamped at 0 below. -/
def matrixOf (m : List Int) (q : List Charge) : List Charge :=
  (List.range 3).map fun k =>
    max 0 (((List.range 3).map fun c => (m.getD (3 * k + c) 0 : Rat) / 4096 * q.getD c 0).foldl (· + ·) 0)

/-- floor(65,536 × log2 q) of a charge of at least 2⁻⁴. -/
def log2Fixed (q : Charge) : Int := (Nat.log2 (q.num.toNat ^ 65536 * 2 ^ 262144 / q.den ^ 65536) : Int) - 262144

/-- The index of the shaper, in 1/256 of an entry (R237). -/
def shaperIndex (expShift : Int) (q : Charge) : Nat :=
  let x := log2Fixed (max q (1 / 16)) + 262144 + 256 * expShift
  (min (max x 0) (6143 * 256)).toNat

/-- An entry of a 1D LUT: of channel c, in slot 0 a logarithmic curve. -/
def lutEntry (lut : Option (List Byte)) (c i : Nat) : Nat := match lut with
  | none => meanInt (65535 * i) 6143
  | some b => leNat ((b.drop (2 * (6144 * c + i))).take 2)

/-- Stage 6 on channel c. -/
def shape (lut : Option (List Byte)) (expShift : Int) (c : Nat) (q : Charge) : Nat :=
  let x := shaperIndex expShift q
  let i := x / 256
  let f := x % 256
  meanInt (lutEntry lut c i * (256 - f) + lutEntry lut c (min (i + 1) 6143) * f) 256

/-- A node of a 3D LUT, channel c. -/
def cubeNode (b : List Byte) (r g bl c : Nat) : Nat := leNat ((b.drop (2 * (3 * (r + 33 * g + 1089 * bl) + c))).take 2)

/-- Stage 7 on three 16-bit values, node 32 standing for 65,535: from the node below, along the axes in the order of the fractions. -/
def cube (b : List Byte) (v : List Nat) : List Nat :=
  let lo := v.map fun x => min 31 (x * 32 / 65535)
  let fr := (v.zip lo).map fun p => p.1 * 32 - p.2 * 65535
  let order := [0, 1, 2].mergeSort fun i j => decide (fr.getD j 0 ≤ fr.getD i 0)
  let step (i : Nat) (p : List Nat) : List Nat := p.set i (p.getD i 0 + 1)
  let p1 := step (order.getD 0 0) lo
  let p2 := step (order.getD 1 0) p1
  let p3 := step (order.getD 2 0) p2
  let f (k : Nat) : Nat := fr.getD (order.getD k 0) 0
  (List.range 3).map fun c =>
    let node (p : List Nat) : Nat := cubeNode b (p.getD 0 0) (p.getD 1 0) (p.getD 2 0) c
    meanInt (node lo * (65535 - f 0) + node p1 * (f 0 - f 1) + node p2 * (f 1 - f 2) + node p3 * f 2) 65535

/-- The bytes of a LUT slot; a slot that nothing has stored to holds no stated bytes. -/
def ViewUnit.lut (v : ViewUnit) (kind slot : Nat) : List Byte :=
  ((v.luts.find? fun p => decide (p.1 = (kind, slot))).map (·.2)).getD
    ((List.range (if kind = 0 then 36864 else 215622)).map (Config.freeLutByte kind slot))

/-- Stages 6 and 7 of a ring on the charges after stage 5. -/
def ViewUnit.shaped (v : ViewUnit) (x : RingSet) (q : List Charge) : List Nat :=
  let lut := if x.lut1d = 0 then none else some (v.lut 0 x.lut1d)
  let a := q.zipIdx.map fun p => shape lut x.expShift p.2 p.1
  if x.lut3d = 0xFF then a else cube (v.lut 1 x.lut3d) a

/-! ## Stage 8: output formats (Table 10-3) -/

/-- A row's bytes, and the pitch of R240. -/
def RingSet.rowLen (x : RingSet) : Nat :=
  if x.format = 0 then 4 * x.outW else if x.format = 2 then (x.outW + 5) / 6 * 16 else 6 * x.outW

/-- Row pitch. -/
def RingSet.pitch (x : RingSet) : Nat := roundUp x.rowLen 256

/-- The mark of a pixel in format 0. -/
def markOf (p : OutPixel) : Nat :=
  if p.missing then 2 else if p.clipped && p.padded then Config.bothMarks.toNat else if p.clipped then 1 else if p.padded then 3 else 0

/-- A format 0 pixel. -/
def rgb10 (p : OutPixel) (v : List Nat) : List Byte :=
  let t (c : Nat) : Nat := (Config.tenBits (BitVec.ofNat 16 (v.getD c 0))).toNat
  leBytes 4 (t 0 + 1024 * t 1 + 1024 * 1024 * t 2 + 2 ^ 30 * markOf p)

/-- The weights of red and blue in the luma of YCC_MATRIX: BT.709, or BT.2020 (PRESUMED, log entry 21: the recommendations' own numbers). -/
def lumaWeights (matrix : Nat) : Rat × Rat := if matrix = 0 then (2126 / 10000, 722 / 10000) else (2627 / 10000, 593 / 10000)

/-- Y′, Cb and Cr of three 16-bit values, from 0 to 1 and from −1/2 to 1/2. -/
def yccOf (matrix : Nat) (v : List Nat) : Rat × Rat × Rat :=
  let (kr, kb) := lumaWeights matrix
  let q (c : Nat) : Rat := (v.getD c 0 : Rat) / 65535
  let y := kr * q 0 + (1 - kr - kb) * q 1 + kb * q 2
  (y, (q 2 - y) / (2 * (1 - kb)), (q 0 - y) / (2 * (1 - kr)))

/-- The place of a luma value in the 10 bits of YCC_RANGE: 64 to 940 narrow, 0 to 1,023 full (PRESUMED, log entry 21). -/
def lumaCode (range : Nat) (y : Rat) : Rat := if range = 0 then 64 + 876 * y else 1023 * y

/-- The place of a chroma value: 64 to 960 around 512 narrow, 1,023 steps around 512 full (PRESUMED, log entry 21). -/
def chromaCode (range : Nat) (c : Rat) : Rat := if range = 0 then 512 + 896 * c else 512 + 1023 * c

/-- Cb, Y, Cr and the second Y of two neighbouring pixels. -/
def yccPair (x : RingSet) (a b : List Nat) : List (BitVec 10) :=
  let p := yccOf x.yccMatrix a
  let q := yccOf x.yccMatrix b
  let chroma (u v : Rat) : BitVec 10 := Config.yccCode (chromaCode x.yccRange (Config.chromaSite u v))
  [chroma p.2.1 q.2.1, Config.yccCode (lumaCode x.yccRange p.1), chroma p.2.2 q.2.2, Config.yccCode (lumaCode x.yccRange q.1)]

/-- The samples of a row in format 2, in the order Cb0 Y0 Cr0 Y1 Cb2 Y2 Cr2 Y3 …: three to a word, and whole groups of six pixels. -/
def yccRow (x : RingSet) (row : List (List Nat)) : List Byte :=
  let s := (pieces 2 row).flatMap fun p => yccPair x (p.getD 0 []) (p.getD 1 [])
  let n := (x.outW + 5) / 6 * 12
  let full := s ++ List.replicate (n - s.length) 0
  (pieces 3 full).flatMap fun w =>
    leBytes 4 ((w.getD 0 0).toNat + 1024 * (w.getD 1 0).toNat + 1024 * 1024 * (w.getD 2 0).toNat)

/-- A channel in format 3. -/
def linearHalf (q : Charge) : Nat := min halfInf (half q.num (64 * q.den))

/-- A row of a picture, filled to the pitch. -/
def ViewUnit.row (v : ViewUnit) (x : RingSet) (src : Source) (j : Nat) : List Byte :=
  let ps := (List.range x.outW).map fun i => src.scaled x.outW x.outH i j
  let lin (p : OutPixel) : List Charge := matrixOf x.matrix p.charge
  padTo x.pitch (match x.format with
    | 0 => ps.flatMap fun p => rgb10 p (v.shaped x (lin p))
    | 1 => ps.flatMap fun p => (v.shaped x (lin p)).flatMap (leBytes 2)
    | 2 => yccRow x (ps.map fun p => v.shaped x (lin p))
    | _ => ps.flatMap fun p => (lin p).flatMap fun q => leBytes 2 (linearHalf q))

/-- The rows of a picture. -/
def ViewUnit.picture (v : ViewUnit) (x : RingSet) (src : Source) : List Byte := (List.range x.outH).flatMap (v.row x src)

/-! ## The analysis block (R242) -/

/-- The bin of a value over the pedestal: bin 0 up to 2⁻⁴ e⁻, then the least k with v ≤ 2^(k/8). -/
def histBin (u : Int) : Nat := if u ≤ 1 then 0 else ((List.range 193).find? fun k => decide (u.toNat ^ 8 ≤ 2 ^ k)).getD 192

/-- The bin of a site's value; none for a defect. -/
def siteBin (v : Nat) : Option Nat :=
  if v = Config.codeRun ∨ v = Config.codeSat then some 193 else if v < 0xFFFFF0 then some (histBin ((v : Int) - 1024)) else none

/-- The zone of a place along one axis: n equal areas, with the remainder in the last. -/
def zoneOf (size n x : Nat) : Nat := if size / n = 0 then n - 1 else min (n - 1) (x / (size / n))

/-- A window site of the crop: its zone, its channel and its value, with the values two columns to each side. -/
structure ZoneSite where
  zone : Nat
  chan : Nat
  value : Nat
  left : Option Nat
  right : Option Nat

/-- The window sites of plane A in a crop. -/
def Frame.zoneSites (f : Frame) (x : RingSet) : List ZoneSite :=
  let b := f.gov.geometry.bin
  let grid := f.viewGrid .a
  let (w, h) := (x.cropW / b, x.cropH / b)
  let value (i j : Nat) : Option Nat := f.windowValue grid (x.cropX0 / b + i) (x.cropY0 / b + j)
  (List.range h).flatMap fun j => (List.range w).filterMap fun i =>
    (value i j).map fun v =>
      ⟨64 * zoneOf h 32 j + zoneOf w 64 i, if f.data.mono then 0 else siteChannel (x.cropX0 / b + i) (x.cropY0 / b + j), v,
        if 2 ≤ i then value (i - 2) j else none, if i + 2 < w then value (i + 2) j else none⟩

/-- HIST. -/
def histBytes (l : List ZoneSite) : List Byte :=
  (List.range 3).flatMap fun c => (List.range 194).flatMap fun k =>
    leBytes 4 (l.filter fun z => decide (z.chan = c) && decide (siteBin z.value = some k)).length

/-- The value with which a site enters: a clipped one enters as 0xFFFFEF, a defect not at all (R236). -/
def entersAs (v : Nat) : Option Nat :=
  if v = Config.codeRun ∨ v = Config.codeSat then some Config.maxValue else if v < 0xFFFFF0 then some v else none

/-- ZONE_MEAN of the sites of channel c of zone k: in 1/16 e⁻, rounded to nearest, defects excluded. -/
def zoneMeanOf (k c : Nat) (l : List ZoneSite) : BitVec 32 :=
  let valid := l.filterMap fun z => entersAs z.value
  let sum : Int := (sumNat valid : Int) - 1024 * valid.length
  if valid = [] then Config.zoneMean k c else BitVec.ofInt 32 ((2 * sum + valid.length) / (2 * valid.length))

/-- The term of a site in ZONE_FOCUS: free where a neighbour is missing or one of the three is a defect. -/
def focusOf (z : ZoneSite) : Nat :=
  match z.left.bind entersAs, entersAs z.value, z.right.bind entersAs with
  | some a, some v, some b => ((a : Int) - 2 * (v : Int) + (b : Int)).natAbs
  | a, v, b => Config.focusTerm a v b

/-- ZONE_FOCUS of the sites of a zone. -/
def zoneFocusOf (l : List ZoneSite) : BitVec 32 := BitVec.ofNat 32 (min 0xFFFFFFFF (sumNat (l.map focusOf) / 16))

/-- Bytes 0x0100 to 0xAA1B of the analysis block. -/
def Frame.analysis (f : Frame) (x : RingSet) : List Byte :=
  let l := f.zoneSites x
  let zone (k : Nat) : List ZoneSite := l.filter fun z => decide (z.zone = k)
  let mean := (List.range 2048).flatMap fun k => (List.range 3).flatMap fun c =>
    leBytes 4 (zoneMeanOf k c ((zone k).filter fun z => f.data.mono || decide (z.chan = c))).toNat
  let clip := (List.range 2048).flatMap fun k => leBytes 4 ((zone k).filter fun z => decide (siteBin z.value = some 193)).length
  let focus := (List.range 2048).flatMap fun k =>
    leBytes 4 (zoneFocusOf ((zone k).filter fun z => f.data.mono || decide (z.chan = 1))).toNat
  let body := histBytes l ++ mean ++ clip ++ focus
  body ++ leBytes 4 (crc32c body)

end Sys2Proof.Machine
end

