-- ==== Sys2Proof/Machine/View.lean ====
section
/-! DEFINITION. The viewing rings (R243 to R248), LUT loading (R238), and module reads that time out (R198). -/

namespace Sys2Proof.Machine

/-! ## The viewing header (Table 10-7) -/

/-- The partner frame that pairing settled for leader frame n, with the compositor mode and left eye; none while it is not settled. A
module that is no leader has no partner, and its compositor waits for none. -/
def State.settled (s : State) (n : Nat) : Option Pairing :=
  if s.tandemRole = 2 then
    ([s.tandem.pairing, s.tandem.before].filterMap id).find? fun p => decide (p.frame = n) && (match p.partner with
      | some f => f.ended
      | none => true)
  else some ⟨n, none, false, true, s.tandem.compMode, s.tandem.compLeft⟩

/-- Whether a row of a plane failed its check word. -/
def Frame.stackFail (f : Frame) : Bool := f.data.rows.any fun r => !r.linkOk

/-- What a picture shows beside its rows: flags, the partner frame, rows filled and rows dropped. -/
structure ViewMarks where
  flags : Nat
  partner : Nat
  pad : Nat
  trunc : Nat

/-- Whether a crop reaches outside its source. -/
def Source.pads (src : Source) : Bool :=
  (List.range src.h).any fun j => (List.range src.w).any fun i => (src.sample i j).padded

/-- The marks of a picture of a source, with the pairing where the source is not LOCAL. -/
def Frame.viewMarks (f : Frame) (src : Source) (x : RingSet) (p : Option Pairing) : ViewMarks :=
  let g := f.gov
  let q := p.bind (·.partner)
  let (pad, trunc) := if x.source = 1 then (0, 0) else f.viewShort
  let mine := decide (g.take.takeId ≠ 0)
  let paired := decide (x.source ≠ 0)
  { flags := bit (src.pads || decide (0 < pad)) 0 + bit (decide (0 < trunc)) 1 + bit (decide (x.source ≠ 1) && f.stackFail) 2
      + bit ((p.map (·.repeated)).getD false && paired) 3 + bit ((q.map (·.padded)).getD false && paired) 4
      + bit ((q.map (·.truncated)).getD false && paired) 5 + bit ((p.map (·.absent)).getD false && paired) 6
      + bit (mine && !g.take.preroll) 7 + bit g.take.preroll 8 + bit g.follower 9 + bit g.holdover 10
    partner := (q.map (·.frame)).getD 0
    pad := pad + (q.map (·.padRows)).getD 0
    trunc := trunc + (q.map (·.truncRows)).getD 0 }

/-- The viewing header, 256 bytes. -/
def viewHeader (i : Nat) (x : RingSet) (g : FrameGov) (m : ViewMarks) : List Byte :=
  let pitch := if i = 2 then Config.analysisPitch.toNat else x.pitch
  let bs := leBytes 4 0x5756464D ++ leBytes 2 1 ++ leBytes 1 (ringNumber i) ++ leBytes 1 (if i = 2 then 0xFF else x.format)
    ++ leBytes 8 g.n ++ leBytes 8 g.boundary ++ leBytes 8 g.take.takeId ++ leBytes 4 g.take.index ++ leBytes 4 g.ledgerSeq
    ++ leBytes 2 x.outW ++ leBytes 2 x.outH ++ leBytes 4 pitch ++ leBytes 4 m.flags ++ leBytes 1 x.source ++ leBytes 1 x.lut1d
    ++ leBytes 1 x.lut3d ++ zeros 1 ++ leBytes 8 m.partner ++ leBytes 4 m.pad ++ leBytes 4 m.trunc
  padTo 252 bs ++ leBytes 4 (crc32c (padTo 252 bs))

/-! ## Pictures of a frame -/

/-- The source of a ring, cropped. -/
def Frame.source (f : Frame) (x : RingSet) (p : Option Pairing) : Source :=
  if x.source = 0 then f.localSource x
  else
    let own := f.intermediate
    let mate := partnerPixels (p.bind (·.partner)) (f.gov.geometry.outW / 4) (f.gov.geometry.outH / 4)
    if x.source = 1 then pixelSource mate x
    else pixelSource (composite ((p.map (·.mode)).getD 0) ((p.map (·.left)).getD 0) own mate) x

/-- The header and the body that ring i delivers of a frame. -/
def ViewUnit.delivers (v : ViewUnit) (i : Nat) (x : RingSet) (f : Frame) (p : Option Pairing) : List Byte × List Byte :=
  let src := f.source x p
  (viewHeader i x f.gov (f.viewMarks src x p), if i = 2 then f.analysis x else v.picture x src)

/-- The buffer bytes of a delivered frame: the viewing header, and the picture or the analysis block. -/
def RingSet.bufferBytes (x : RingSet) (i : Nat) : Nat := if i = 2 then 0xAA1C else 256 + x.pitch * x.outH

/-! ## Delivery (R247) -/

/-- The ring at a place. -/
def ViewUnit.ring (v : ViewUnit) (i : Nat) : ViewRing := v.rings.getD i Reset.viewRing

/-- The state with another ring at a place. -/
def State.setRing (s : State) (i : Nat) (r : ViewRing) : State := { s with view := { s.view with rings := s.view.rings.set i r } }

/-- The setting of ring i that governs the frame of a readout. -/
def Readout.ring (r : Readout) (i : Nat) : RingSet := r.gov.recs.rings.getD i Factory.ring

/-- Whether ring i has yet to take the frame of a readout, and the frame is one of its rate. -/
def State.takesFrame (s : State) (i : Nat) (r : Readout) : Bool :=
  decide ((s.view.ring i).taken < r.gov.n ∧ r.gov.n % (r.ring i).rateDiv = (r.ring i).ratePhase)

/-- The readout that ring i is to take: the latest one; a ring on the compositor takes the one before it first, where that has settled late (R248). -/
def State.dueReadout (s : State) (i : Nat) : Option Readout :=
  match (s.tandem.kept.filter fun r => decide ((r.ring i).source ≠ 0)).filter (s.takesFrame i) with
  | some r => some r
  | none => s.frame.shown.filter (s.takesFrame i)

/-- The frame that ring i is to take now, with its setting and its pairing: where the ring runs, its engine is on, and the compositor has settled
the frame. -/
def State.dueFrame (s : State) (i : Nat) : Option (Frame × RingSet × Option Pairing) :=
  if (s.view.ring i).state = .running ∧ s.pdOn (44 + i) = true then
    (s.dueReadout i).bind fun r =>
      if (r.ring i).source = 0 then some (⟨r.data, r.gov⟩, r.ring i, none)
      else (s.settled r.gov.n).map fun p => (⟨r.data, r.gov⟩, r.ring i, some p)
  else none

/-- Descriptor PRODUCED of a ring. -/
def ViewRing.descriptor (r : ViewRing) : Nat := r.descBase.toNat + 32 * (r.produced.toNat % r.descEntries.toNat)

/-- The frame is skipped. -/
def ViewRing.skip (r : ViewRing) (n : Nat) : ViewRing := { r with skipped := bump32 r.skipped 1, taken := n }

/-- A descriptor completes: the buffer's bytes, bytes 0x10 to 0x1F of the descriptor, PRODUCED, and then the vector. -/
def completeDescriptor (i n address : Nat) (bytes : List Byte) (status : Nat) (s : State) : State :=
  let r := s.view.ring i
  let tail := leBytes 8 n ++ leBytes 4 bytes.length ++ leBytes 4 (r.produced.toNat % 65536 + 65536 * status)
  let s1 := ((s.send (.picture (ringNumber i) address bytes)).send (.ringDone (ringNumber i) (r.descriptor + 16) tail)).send
    (.ringPos (ringNumber i) r.posAddr.toNat (r.produced + 1).toNat)
  let r1 := { r with produced := r.produced + 1, taken := n, timeoutRun := 0 }
  fire1 (1 + i) (s1.setRing i (if status = 0 then { r1 with delivered := bump32 r.delivered 1, lastFrame := n } else r1))

/-- Ring i handles the frame that it is to take: in a pause, or with no posted descriptor, it skips the frame; a buffer that is too
small takes the header only; where the link cannot take the writes, the frame is abandoned and the descriptor is used again. -/
def deliver (i address size : Nat) (overflow : Bool) (s : State) : State :=
  if s.link.ide.insecure then s else match s.dueFrame i with
  | none => s
  | some (f, x, p) =>
    let r := s.view.ring i
    let n := f.gov.n
    if !(s.link.mayWrite true) || s.link.narrowed || decide (r.posted = r.produced) then s.setRing i (r.skip n)
    else
      let (head, body) := s.view.delivers i x f p
      if size < x.bufferBytes i then completeDescriptor i n address head 1 s
      else if overflow then s.setRing i { r with abandoned := bump32 r.abandoned 1, taken := n, timeoutRun := 0 }
      else completeDescriptor i n address (head ++ body) 0 s

/-- VIEW_FRAME_DELIVERY: the descriptor that the ring read has BUF_ADDR and BUF_BYTES. -/
def execViewFrameDelivery (ring : Byte) (bufAddr : U64) (bufBytes : U32) (overflow : Bool) (s : State) : Host.Outcome State Fault Refusal :=
  .next (match ringIndex ring.toNat with
    | some i => deliver i bufAddr.toNat bufBytes.toNat overflow s
    | none => s)

/-- A descriptor read of ring i times out: the frame is skipped, and the eighth in a row stops the ring. -/
def ringTimeout (i : Nat) (s : State) : State :=
  match s.dueFrame i with
  | none => s
  | some (f, _, _) =>
    let r := s.view.ring i
    if !(s.link.mayWrite true) || decide (r.posted = r.produced) then s
    else
      let r1 := { r.skip f.gov.n with timeouts := bump32 r.timeouts 1, timeoutRun := r.timeoutRun + 1 }
      let s1 := readTimeout true s
      if r1.timeoutRun < 8 then s1.setRing i r1
      else fire1 (1 + i) (logEvent 0x0701 (256 * (44 + i)) (ringNumber i)
        (s1.setRing i { r1 with state := .stopped, reason := 2, change := none, timeoutRun := 0 }))

/-- DESCRIPTOR_READ_TIMEOUT (R247). -/
def execDescriptorReadTimeout (ring : Byte) (s : State) : Host.Outcome State Fault Refusal :=
  .next (match ringIndex ring.toNat with
    | some i => ringTimeout i s
    | none => s)

/-- COMPLETION_TIMEOUT: a read of the module times out, and counts against the ring that issued it (R198). -/
def execCompletionTimeout (fn : Func) (ring : Option Byte) (s : State) : Host.Outcome State Fault Refusal :=
  .next (match ring.bind fun b => ringIndex b.toNat with
    | some i => if fn = .pf1 then ringTimeout i s else readTimeout false s
    | none => if s.link.mayWrite (decide (fn = .pf1)) then readTimeout (decide (fn = .pf1)) s else s)

/-- A write of POSTED (R244): it stops the ring where it runs ahead of the descriptors or back. -/
def writePosted (i : Nat) (v : U32) (s : State) : State :=
  let r := s.view.ring i
  let s1 := s.setRing i { r with posted := v }
  if r.descEntries.toNat < (v - r.produced).toNat ∨ (v - r.produced).toNat < (r.posted - r.produced).toNat then
    logEvent 0x0705 srcHost (ringNumber i)
      (s.setRing i { r with posted := v, state := .stopped, reason := 4, change := none, timeoutRun := 0 })
  else s1

/-- POSTED. -/
def execPosted (ring : Byte) (v : U32) (s : State) : Host.Outcome State Fault Refusal :=
  .next (match ringIndex ring.toNat with
    | some i => viaBar0 true (writePosted i v) s
    | none => s)

/-! ## STREAM_START and STREAM_STOP (R243, R244) -/

/-- Whether a ring's registers hold valid values: DESC_BASE and POS_ADDR aligned, and DESC_ENTRIES a power of two from 2 to 256. -/
def ViewRing.sound (r : ViewRing) : Bool :=
  decide (r.descBase.toNat % 64 = 0) && decide (r.posAddr.toNat % 8 = 0)
    && decide (r.descEntries.toNat ∈ [2, 4, 8, 16, 32, 64, 128, 256])

/-- The viewing demand of ring i in units of f_max / 720,720 of a byte: 720,720 is a multiple of every RATE_DIV. -/
def RingSet.demand (x : RingSet) (i : Nat) : Nat := x.bufferBytes i * (720720 / x.rateDiv)

/-- Whether the demand of the started rings and ring i lies within 0.10 × b_host (R243). -/
def State.viewFits (s : State) (i : Nat) : Bool :=
  let f := s.settings.sensor.fMax s.sync.genlock
  let started := (List.range 11).filter fun j => decide (j = i) || decide ((s.view.ring j).state ≠ .stopped)
  let d := sumNat (started.map fun j => (s.settings.recs.rings.getD j Factory.ring).demand j)
  decide (d * f.1 ≤ 720720 * (100 * s.link.bHost) * f.2)

/-- The effect of STREAM_START: the ring is armed, and runs from the next boundary that carries a frame number. -/
def streamStartAct (i : Nat) (id : ReqId) (s : State) : State :=
  let r := s.view.ring i
  if !r.sound then respond id true .badParam 0 [] s
  else if !(s.viewFits i) then respond id true .noResource 0 [] s
  else
    let r1 := if r.state = .stopped then { r with state := .armed, reason := 0, timeoutRun := 0 } else r
    respond id true .ok s.appliedFrame (leBytes 8 s.appliedFrame) (s.setRing i { r1 with change := none })

/-- STREAM_START (R244). -/
def execStreamStart (r : Req) (ring : Byte) (s : State) : Host.Outcome State Fault Refusal :=
  .next (command .streamStart r (fun _ => fixed r 4 (ringIndex ring.toNat).isSome true [])
    (streamStartAct ((ringIndex ring.toNat).getD 0)) s)

/-- The effect of STREAM_STOP, at the next boundary; at once where there are none. -/
def streamStopAct (i : Nat) (id : ReqId) (s : State) : State :=
  let r := s.view.ring i
  let r1 : ViewRing := if r.state = .stopped then r else if s.hasBoundaries then { r with change := some false } else
    { r with state := .stopped, reason := 1, change := none, timeoutRun := 0 }
  respond id true .ok s.appliedFrame (leBytes 8 s.appliedFrame) (s.setRing i r1)

/-- STREAM_STOP (R244). -/
def execStreamStop (r : Req) (ring : Byte) (s : State) : Host.Outcome State Fault Refusal :=
  .next (command .streamStop r (fun _ => fixed r 4 (ringIndex ring.toNat).isSome true [])
    (streamStopAct ((ringIndex ring.toNat).getD 0)) s)

/-! ## LUT_LOAD (R238) -/

/-- Bytes of a LUT of a kind. -/
def lutBytes (kind : Nat) : Nat := if kind = 0 then 36864 else 215622

/-- Whether a ring setting names a LUT slot. -/
def RingSet.names (x : RingSet) (kind slot : Nat) : Bool := if kind = 0 then decide (x.lut1d = slot) else decide (x.lut3d = slot)

/-- Whether a ring setting in force or waiting names a LUT slot. -/
def State.lutInUse (s : State) (kind slot : Nat) : Bool :=
  s.settings.recs.rings.any (fun x => x.names kind slot)
    || s.ledger.waiting.any fun p => p.2.settings.any fun y => match y with
        | .ring r => (ringSetOf r).names kind slot
        | _ => false

/-- The load in progress of a slot, of a channel that has not been discarded since. -/
def State.lutLoad (s : State) (kind slot : Nat) : Option LutLoad :=
  s.view.loads.find? fun l => decide (l.kind = kind) && decide (l.slot = slot) && decide ((s.mbox.get l.chan).gen = l.gen)

/-- Loads without that of a slot. -/
def ViewUnit.dropLoad (v : ViewUnit) (kind slot : Nat) : ViewUnit :=
  { v with loads := v.loads.filter fun l => !(decide (l.kind = kind) && decide (l.slot = slot)) }

/-- A LUT as a slot holds it from now on. -/
def ViewUnit.storeLut (v : ViewUnit) (kind slot : Nat) (b : List Byte) : ViewUnit :=
  { v with luts := ((kind, slot), b) :: v.luts.filter fun p => decide (p.1 ≠ (kind, slot)) }

/-- A sound piece of a load: it joins what was received, and the last piece stores the LUT where the CRC passes. -/
def lutPiece (kind slot : Nat) (last : Bool) (crc : Nat) (all : List Byte) (id : ReqId) (s : State) : State :=
  let held := leBytes 4 all.length ++ zeros 4
  let s1 := { s with view := s.view.dropLoad kind slot }
  if !last then respond id true .ok 0 held { s1 with view := { s1.view with loads := ⟨kind, slot, id.chan, id.gen, all⟩ :: s1.view.loads } }
  else
    let s2 := accept id [.lutSlot kind slot] 0 s1
    if crc32c all = crc then finish id .ok 0 held { s2 with view := s2.view.storeLut kind slot all }
    else finish id .badCheck 0 [] (logEvent 0x0703 srcConductor (slot + 256 * kind) s2)

/-- The effect of LUT_LOAD. -/
def lutLoadAct (kind slot : Nat) (last : Bool) (offset total crc : Nat) (data : List Byte) (id : ReqId) (s : State) : State :=
  let had := s.lutLoad kind slot
  if kind = 0 ∧ slot = 0 then respond id true .locked 0 [] s
  else if s.lutInUse kind slot || (had.map fun l => decide (l.chan ≠ id.chan)).getD false then respond id true .busy 0 [] s
  else
    let got := (had.map (·.bytes)).getD []
    let n := got.length + data.length
    if offset ≠ got.length ∨ total < n ∨ (last = true ∧ n ≠ total) then
      respond id true .badParam 0 [] { s with view := s.view.dropLoad kind slot }
    else lutPiece kind slot last crc (got ++ data) id s

/-- LUT_LOAD (R238, R271). -/
def execLutLoad (r : Req) (kind slot flags : Byte) (offset total lutCrc : U32) (data : List Byte) (s : State) : Host.Outcome State Fault Refusal :=
  .next (command .lutLoad r (fun t =>
      ⟨decide (r.len = 16 + data.length) && decide (data.length ≤ 4080),
       sound r (decide (kind.toNat ≤ 1 ∧ slot.toNat < (if kind = 0 then 8 else 4) ∧ flags.toNat ≤ 1) && decide (total.toNat = lutBytes kind.toNat)
         && !(decide (kind = 1) && decide (t.major r = 2) && decide (t.minor r = 0))), true, []⟩)
    (lutLoadAct kind.toNat slot.toNat (flags.getLsbD 0) offset.toNat total.toNat lutCrc.toNat data) s)

end Sys2Proof.Machine
end

