-- ==== Sys2Proof/Machine/Info.lean ====
section
/-! DEFINITION. What the module tells of itself: GET_IDENTITY and GET_STATUS (R277), the target's read commands (R345, R346) and Host
Notify (R351); and the timebase and timecode commands (R308, R309, R316). -/

namespace Sys2Proof.Machine

/-! ## GET_IDENTITY and GET_STATUS (Table 11-8) -/

/-- The payload of GET_IDENTITY. -/
def State.identity (s : State) : List Byte :=
  leBytes 1 (bit s.mono 0) ++ leBytes 1 (s.fuse.word 0 2 / 256) ++ leBytes 1 (bit s.trust.activeB 0) ++ zeros 1 ++ leBytes 8 s.serial
    ++ leBytes 4 s.fwVersion ++ leBytes 4 s.fwSvn ++ leBytes 4 ((s.cal.inForce.map (·.setId)).getD 0) ++ leBytes 1 3 ++ leBytes 1 0
    ++ leBytes 1 3 ++ zeros 1

/-- GET_IDENTITY. -/
def execGetIdentity (r : Req) (s : State) : Host.Outcome State Fault Refusal :=
  .next (command .getIdentity r (fun _ => bare r true []) (fun id t => respond id true .ok 0 t.identity t) s)

/-- The payload of GET_STATUS. -/
def State.status (s : State) : List Byte :=
  leBytes 1 (modeCode s.mode.mode) ++ leBytes 1 s.mode.profile ++ leBytes 1 (bit s.mode.profileSubst 0)
    ++ leBytes 1 (bit s.dump.fatalPending 0 + bit s.dump.held.isSome 1) ++ leBytes 4 s.faultSummary ++ leBytes 2 s.mode.powerupEvent
    ++ zeros 2 ++ leBytes 8 s.time.module ++ leBytes 8 s.frame.lastFrame
    ++ (List.range 16).flatMap fun g => leBytes 4 (s.conv.ovr.getD g 0)

/-- GET_STATUS. -/
def execGetStatus (r : Req) (s : State) : Host.Outcome State Fault Refusal :=
  .next (command .getStatus r (fun _ => bare r true []) (fun id t => respond id true .ok 0 t.status t) s)

/-! ## The target's read commands (Table 14-2) -/

/-- A part of the status mirror. -/
def State.mirrorPart (s : State) (off n : Nat) : List Byte := (s.mirror.drop off).take n

/-- A counted block: its count and its bytes. -/
def counted (bs : List Byte) : List Byte := leBytes 1 bs.length ++ bs

/-- What a read command returns, snapshot at its repeated START; none for a code that is no read command of the bus. -/
def targetData (b : BusId) (code : Nat) (s : State) : Option (List Byte) := match code with
  | 1 => some (counted (leBytes 1 (bit s.mono 0) ++ leBytes 1 (s.fuse.word 0 2 / 256) ++ zeros 2 ++ leBytes 8 s.serial ++ leBytes 4 s.fwVersion))
  | 2 => some (s.mirrorPart 0x00 4)
  | 3 => some (s.mirrorPart 0x04 4)
  | 4 => some (s.mirrorPart 0x48 4)
  | 5 => some (counted (s.mirrorPart 0x40 8))
  | 6 => some (counted (s.mirrorPart 0x08 8 ++ s.mirrorPart 0x4C 8))
  | 7 => some (counted (s.mirrorPart 0x30 16))
  | 8 => some (if s.pdOn 76 then leBytes 8 s.sync.tc.word.toNat else zeros 8)
  | 0x41 => if b = .abus0 then some (counted (s.bus.abus0.outData.take (min 32 s.bus.abus0.outLen.toNat))) else none
  | _ => none

/-- TARGET_READ_COMMAND: the data, with the PEC of the whole transaction where PEC_EN is set (R345, R346, R348). -/
def targetRead (b : BusId) (addr code : Nat) (s : State) : State :=
  if targetAnswers b addr s then
    let s1 := seesStart b (heardHbus b s)
    if code ∉ targetCodes b then unknownCode b code s1
    else match targetData b code s1 with
      | none => (discardTarget b s1).send (.busAnswer (busNum b) none)
      | some d =>
        let all := BitVec.ofNat 8 (2 * addr) :: BitVec.ofNat 8 code :: BitVec.ofNat 8 (2 * addr + 1) :: d
        s1.send (.busAnswer (busNum b) (some (if (s1.bus.get b).pecEn then d ++ leBytes 1 (pec all) else d)))
  else wakeHbus b addr s

/-- TARGET_READ_COMMAND. -/
def execTargetReadCommand (bus : BusId) (address code : Byte) (s : State) : Host.Outcome State Fault Refusal :=
  .next (targetRead bus address.toNat code.toNat s)

/-! ## Host Notify (R351) -/

/-- The enabled FAULT_SUMMARY bits that differ from those of the latest notice, lowest first. -/
def State.changedFaults (s : State) : List Nat :=
  (List.range 32).filter fun i =>
    s.bus.hbus.notifyMask.getLsbD i && decide (s.faultSummary.testBit i ≠ s.bus.noticeFaults.testBit i)

/-- Whether MODE differs from that of the latest notice. -/
def State.modeChanged (s : State) : Bool := decide (modeCode s.mode.mode ≠ s.bus.noticeMode)

/-- Whether a notice is due. -/
def State.noticeDue (s : State) : Bool :=
  s.bus.hbus.ctlEn && ((s.modeChanged && s.bus.hbus.notifyCtrl.getLsbD 0) || !s.changedFaults.isEmpty)

/-- The data word of a notice. -/
def State.noticeWord (s : State) : Nat :=
  let l := s.changedFaults
  let low := match l.head? with
    | some i => i + bit (s.faultSummary.testBit i) 5
    | none => Config.noChange.toNat + bit true 6
  modeCode s.mode.mode + bit s.modeChanged 7 + 2 ^ 8 * (low + bit (decide (1 < l.length)) 7)

/-- The latest notice is that of the state now. -/
def State.noticed (s : State) : State :=
  { s with bus := { s.bus with noticeFaults := s.faultSummary, noticeMode := modeCode s.mode.mode, noticeTries := 0 } }

/-- The first address of TGT_ADDR, which Host Notify sends. -/
def State.noticeAddress (s : State) : Nat := field s.bus.hbus.tgtAddr 0 7

/-- A notice is sent, and acknowledged or not; after the third failure it is dropped. -/
def sendNotice (e : ControllerEnd) (s : State) : State :=
  let s1 := noteEnd .hbus e (seesStart .hbus (s.send (.hostNotify s.noticeAddress s.noticeWord)))
  let s2 := { s1 with bus := { s1.bus with lastNotice := some s1.time.now } }
  let x := s2.bus.hbus
  if e = .done then (s2.setBus .hbus { x with notifyCnt := bump32 x.notifyCnt 1 }).noticed
  else if s2.bus.noticeTries < 2 then { s2 with bus := { s2.bus with noticeTries := s2.bus.noticeTries + 1 } }
  else
    let s3 := logEvent 0x0B0C (srcBus .hbus) s.noticeWord (s2.noticed.setBus .hbus { x with notifyFail := bump32 x.notifyFail 1 })
    if x.ctrl.getLsbD 10 then fire0 24 s3 else s3

/-- The earliest moment of the next notice: 10 ms after the last. -/
def noticeMoment (s : State) : State := match s.bus.lastNotice with
  | some t => reachNow (t + 10 * Config.ms) s
  | none => s

/-- HOST_NOTIFY: a due notice is sent, at most one in 10 ms. -/
def hostNotice (e : ControllerEnd) (s : State) : State :=
  if (noticeMoment s).noticeDue then sendNotice e (noticeMoment s) else s

/-- HOST_NOTIFY. -/
def execHostNotify (ended : ControllerEnd) (s : State) : Host.Outcome State Fault Refusal := .next (hostNotice ended s)

/-! ## TIMEBASE_DISCIPLINE (R308, R309) -/

/-- A stamp in 1/256 tick of the meter, moved by a step. -/
def movedMeter (d : Int) (t : Nat) : Nat := ((t : Int) + 256 * d).toNat

/-- A pulse, moved by a step. -/
def movedPulse (d : Int) (p : Nat × Nat) : Nat × Nat := (((p.1 : Int) + d).toNat, ((p.2 : Int) + d).toNat)

/-- The stamps that frame timing places boundaries by, moved by a step of module time. -/
def FrameUnit.stepped (f : FrameUnit) (d : Int) : FrameUnit :=
  { f with lastB := f.lastB.map (· + d), origin := f.origin + d, leaderNext := f.leaderNext.map fun p => (p.1, ((p.2 : Int) + d).toNat),
           clearReady := ((f.clearReady : Int) + d).toNat, strobe := f.strobe.map (movedPulse d),
           trigPulse := f.trigPulse.map (movedPulse d) }

/-- The stamps of the sync block, moved by a step of module time: those of the meter, the LTC reader and the generator. -/
def SyncUnit.stepped (y : SyncUnit) (d : Int) : SyncUnit :=
  let g := y.genlock
  let t := y.tc
  { y with genlock := { g with lastStart := movedMeter d g.lastStart, series := movedMeter d g.series, targets := g.targets.map fun p => (movedMeter d p.1, ((p.2 : Int) + d).toNat),
                               origin := ((g.origin : Int) + d).toNat },
           tc := { t with origin := t.origin + d, lastTime := ((t.lastTime : Int) + d).toNat,
                          waiting := t.waiting.map fun w => (((w.1 : Int) + d).toNat, w.2) } }

/-- SET_TIME: module time takes a value; the rate origin and the generator's origin move by the step. -/
def setTime (v : Nat) (s : State) : State :=
  let old := s.time.module
  let d : Int := (v : Int) - (old : Int)
  logEvent 0x0A08 srcSync (old % 2 ^ 32)
    { s with time := { s.time with module := v, setCnt := bump32 s.time.setCnt 1 }, frame := s.frame.stepped d, sync := s.sync.stepped d }

/-- The response of TIMEBASE_DISCIPLINE. -/
def State.timebaseReply (s : State) : List Byte :=
  leBytes 8 s.time.module ++ leBytes 4 (intField 32 s.offsetNow) ++ leBytes 1 (dstate s) ++ zeros 3

/-- The effect of TIMEBASE_DISCIPLINE: a new reference counts in READY and SERVICE at once, and elsewhere at the next entry to READY. -/
def timebaseAct (ref : Nat) (set : Bool) (v : Nat) (id : ReqId) (s : State) : State :=
  let s1 := applyRef { s with time := { s.time with ref := ref } }
  let s2 := if set then setTime v s1 else s1
  respond id true .ok 0 s2.timebaseReply s2

/-- TIMEBASE_DISCIPLINE. -/
def execTimebaseDiscipline (r : Req) (ref flags : Byte) (value : U64) (s : State) : Host.Outcome State Fault Refusal :=
  .next (command .timebaseDiscipline r (fun t => fixed r 16 (decide (ref.toNat ≤ 1 ∧ flags.toNat ≤ 1))
      (!(flags.getLsbD 0) || decide (t.mode.mode = .dormant) || decide (t.mode.mode = .ready)) [])
    (timebaseAct ref.toNat (flags.getLsbD 0) value.toNat) s)

/-! ## TIMECODE_SET (R316) -/

/-- The frame of the first boundary at or after t: 0 where it carries no number. -/
def State.frameFrom (s : State) (t : Nat) : Nat :=
  if !s.hasBoundaries || !s.nextNumbered then 0
  else match nextBoundary s with
    | some b => if t ≤ b then s.nextFrame else s.nextFrame + 1
    | none => s.nextFrame

/-- The effect of TIMECODE_SET: it waits for t0, the first boundary at least 100 µs after acceptance; in DORMANT t0 is known now. -/
def timecodeAct (source : Nat) (out : Bool) (num den : Nat) (word : U64) (id : ReqId) (s : State) : State :=
  let t0 := s.time.module + 100 * Config.us
  if s.mode.mode = .dormant then respond id true .ok 0 (leBytes 8 0) (tcApply source out num den word t0 s)
  else
    respond id true .ok (s.frameFrom t0) (leBytes 8 (s.frameFrom t0)) (s.setTc { s.sync.tc with waiting := some (t0, source, out, num, den, word) })

/-- Whether a rate and a codeword suit the generator. -/
def generatorOk (num den : Nat) (word : U64) : Bool :=
  decide ((num, den) ∈ tcRates) && tcValid (tcFps num den) word && (!(word.getLsbD 10) || decide ((num, den) = (30000, 1001)))

/-- TIMECODE_SET. -/
def execTimecodeSet (r : Req) (source flags : Byte) (num den : U16) (codeword : U64) (s : State) : Host.Outcome State Fault Refusal :=
  .next (command .timecodeSet r (fun _ => fixed r 20 (decide (source.toNat ≤ 2 ∧ flags.toNat ≤ 1)
      && (decide (source.toNat ≠ 2) || generatorOk num.toNat den.toNat codeword)) true [])
    (timecodeAct source.toNat (flags.getLsbD 0) num.toNat den.toNat codeword) s)

end Sys2Proof.Machine
end

