-- ==== Sys2Proof/Machine/PciConfig.lean ====
section
/-! DEFINITION. The configuration space of PF0 and PF1 (R186, R187, R191, R193 to R195, R198, R199): identification, BARs, the capability structures of
Table 8-4 with their links, and what a configuration write does. Where the manual names a structure of the PCI Express standard, its registers
lie as the standard lays them out (PRESUMED, log entry 72); a register whose contents neither gives is a free value. -/

namespace Sys2Proof.Machine

/-! ## Settings that host software makes -/

/-- Maximum payload size and maximum read request size: 128 bytes times a power of two, up to 4,096 (R198, Table 8-1). -/
def sizeOfCode (c : Nat) : Nat := 128 * 2 ^ min c 5

/-- Maximum read request size of a function. -/
def Function.readSize (f : Function) : Nat := sizeOfCode (field (BitVec.ofNat 32 f.config.devCtl) 12 3)

/-- The completion timeout of a function's own reads, in ticks: the shortest and the longest; 50 ms by default, and a value within each sub-range of
ranges B, C and D (R198). -/
def Function.completionTimeout (f : Function) : Nat × Nat :=
  let r (a b : Nat) : Nat × Nat := (a * Config.ms, b * Config.ms)
  match f.config.devCtl2 % 16 with
  | 5 => r 16 55
  | 6 => r 65 210
  | 9 => r 260 900
  | 10 => r 1000 3500
  | 13 => r 4000 13000
  | 14 => r 17000 64000
  | _ => r 50 50

/-- Non-posted requests that a function keeps outstanding at most (R198). -/
def maxOutstanding : Nat := 256

/-- A write as it leaves on the link: its address, its bytes, and whether it may carry Relaxed Ordering (R199). -/
structure LinkWrite where
  address : Nat
  bytes : List Byte
  mayRelax : Bool
  deriving DecidableEq, Repr

/-- A run of bytes cut into writes of at most n bytes, in ascending order (R198). -/
def cutWrites (relaxed : Bool) (n : Nat) (address : Nat) (bs : List Byte) : List LinkWrite :=
  (List.range ((bs.length + n - 1) / max n 1)).map fun k => ⟨address + n * k, (bs.drop (n * k)).take n, relaxed⟩

/-- The memory writes that something the module sends leaves as (R198, R199). Only Welt pages and pictures may be relaxed, and only where host software
has enabled Relaxed Ordering; a descriptor and a ring position never are. -/
def Out.linkWrites (l : LinkUnit) (o : Out) : List LinkWrite :=
  let relaxed (f : Function) : Bool := f.config.devCtl.testBit 4
  match o with
  | .response _ a bs | .eventEntry a bs => cutWrites false l.mps a bs
  | .pages _ ws => ws.flatMap fun w => cutWrites (relaxed l.pf0) l.mps w.1 w.2
  | .descriptor _ a bs => cutWrites false l.mps a bs
  | .picture _ a bs => cutWrites (relaxed l.pf1) l.mps a bs
  | .ringDone _ a bs => cutWrites false l.mps a bs
  | .ringPos _ a v => cutWrites false l.mps a (leBytes 4 v)
  | _ => []

/-- Whether L1 is permitted now: by the mode, and by the host's enable of ASPM L1 in both functions (R191). -/
def LinkUnit.l1Open (l : LinkUnit) : Bool := l.l1Permit && l.pf0.config.linkCtl.testBit 1 && l.pf1.config.linkCtl.testBit 1

/-- Whether the link rests in L1 between transactions: ASPM where it is permitted, and D3hot of both functions in any mode (R191). -/
def LinkUnit.rests (l : LinkUnit) : Bool := l.live && (l.l1Open || (l.pf0.d3hot && l.pf1.d3hot))

/-- A function in D3hot signals PME where host software has enabled it and a vector has a pending cause, which is what WAKE# takes too (Table 8-1, R191). -/
def Function.pme (f : Function) : Bool := f.d3hot && f.config.pmeEnable && !f.pba.isEmpty

/-- CLKREQ# is driven low whenever PD56 is powered (R187). -/
def State.clkreqLow (s : State) : Bool := s.pdOn 56

/-! ## Header, BARs and capabilities -/

/-- The size of a BAR (Table 8-5); none where the function lacks it. -/
def barSize (pf1 : Bool) (bar : Nat) : Option Nat :=
  if bar = 0 then some (if pf1 then 2 ^ 16 else 2 ^ 18) else if bar = 2 ∧ pf1 = false then some (2 ^ 36) else none

/-- A 64-bit BAR register as it reads: the address, and its type: 64-bit memory, prefetchable for BAR2. -/
def barWord (bar address : Nat) : Nat := address + 4 + (if bar = 2 then 8 else 0)

/-- The capability structures below 0x100: offset, ID. -/
def capList : List (Nat × Nat) := [(0x40, 0x01), (0x50, 0x10), (0xB0, 0x11)]

/-- The extended capability structures of Table 8-4: offset, ID, version, and whether PF1 holds it too. -/
def extendedList : List (Nat × Nat × Nat × Bool) :=
  [(0x100, 0x01, 2, true), (0x148, 0x03, 1, true), (0x158, 0x19, 1, false), (0x188, 0x25, 1, false), (0x1A0, 0x26, 1, false),
   (0x1E0, 0x2A, 1, false), (0x220, 0x31, 1, false), (0x240, 0x27, 1, false), (0x290, 0x2F, 1, false), (0x2A0, 0x32, 1, false),
   (0x2C0, 0x18, 1, false), (0x2D0, 0x2E, 1, false), (0x300, 0x30, 1, false)]

/-- The extended structures that a function shows: feature bit 5 leaves IDE out (R301). -/
def State.extended (pf1 : Bool) (s : State) : List (Nat × Nat × Nat × Bool) :=
  extendedList.filter fun e => (!pf1 || e.2.2.2) && (decide (e.1 ≠ 0x300) || s.cap 5)

/-- The entry that follows an offset in a list in ascending order; 0 closes the list (R194). -/
def nextAfter (offsets : List Nat) (off : Nat) : Nat := (offsets.find? fun o => decide (off < o)).getD 0

/-- The header of a capability structure at an offset. -/
def State.capHeader (pf1 : Bool) (off : Nat) (s : State) : Option Nat :=
  match capList.find? fun c => decide (c.1 = off) with
  | some c => some (c.2 + 2 ^ 8 * nextAfter (capList.map (·.1)) off)
  | none =>
    let l := s.extended pf1
    (l.find? fun e => decide (e.1 = off)).map fun e => e.2.1 + 2 ^ 16 * e.2.2.1 + 2 ^ 20 * nextAfter (l.map (·.1)) off

/-- The code of a rate: 1 for 2.5 GT/s to 6 for 64 GT/s. -/
def speedCode (rate : Nat) : Nat :=
  if rate = 640 then 6 else if rate = 320 then 5 else if rate = 160 then 4 else if rate = 80 then 3 else if rate = 50 then 2 else bit (rate = 25) 0

/-- The code of a maximum payload size. -/
def sizeCode (n : Nat) : Nat := ((List.range 6).find? fun c => decide (sizeOfCode c = n)).getD 0

/-- Device Control as it reads: its payload size is the one in use. -/
def LinkUnit.devCtl (l : LinkUnit) (pf1 : Bool) : Nat :=
  let c := (if pf1 then l.pf1 else l.pf0).config.devCtl
  c - 32 * (c / 32 % 8) + 32 * sizeCode l.mps

/-- The registers of configuration space that have contents here; none for any other. Offsets count 4 bytes. Features that Table 8-1 marks absent have no
structure and no control bit, and read zero (R186). -/
def State.configWord (pf1 : Bool) (off : Nat) (s : State) : Option Nat :=
  let f := s.link.func pf1
  let a := s.link.aer pf1
  match off with
  | 0x00 => some (0x1E9C + 2 ^ 16 * (if pf1 then 0x9171 else 0x9170))
  | 0x04 => some (f.config.command + bit f.bme 2 + 2 ^ 20)
  | 0x08 => some (s.fuse.word 0 2 / 256 % 256 + 2 ^ 8 * (if pf1 then 0x040000 else 0x048000))
  | 0x0C => some (2 ^ 16 * (if pf1 then 0 else 0x80))
  | 0x10 => some (barWord 0 f.config.bar0 % 2 ^ 32)
  | 0x14 => some (f.config.bar0 / 2 ^ 32)
  | 0x18 => some (if pf1 then 0 else barWord 2 f.config.bar2 % 2 ^ 32)
  | 0x1C => some (if pf1 then 0 else f.config.bar2 / 2 ^ 32)
  | 0x20 | 0x24 | 0x28 | 0x30 | 0x38 | 0x3C => some 0
  | 0x2C => some s.subsystem
  | 0x34 => some 0x40
  | 0x40 => (s.capHeader pf1 off).map (· + 2 ^ 16 * 0x4003)
  | 0x44 => some ((if f.d3hot then 3 else 0) + bit true 3 + bit f.config.pmeEnable 8 + bit (f.d3hot && !f.pba.isEmpty) 15)
  | 0x50 => (s.capHeader pf1 off).map (· + 2 ^ 16 * 2)
  | 0x54 => some (5 + bit true 5 + bit true 15 + bit true 28)
  | 0x58 => some (s.link.devCtl pf1)
  | 0x5C => some (6 + 2 ^ 4 * 16 + 2 ^ 11 + 2 ^ 15 * 4)
  | 0x60 => some (f.config.linkCtl + 2 ^ 16 * (speedCode s.link.rate + 2 ^ 4 * s.link.width))
  | 0x74 => some (0xE + bit true 11 + bit true 16 + bit true 17)
  | 0x78 => some f.config.devCtl2
  | 0x7C => some 0x7E
  | 0xB0 => (s.capHeader pf1 off).map (· + 2 ^ 16 * (f.table.length - 1 + bit f.msixMask 14 + bit f.msixEnable 15))
  | 0xB4 => some (if pf1 then 0x8000 else 0x10000)
  | 0xB8 => some (if pf1 then 0x9000 else 0x18000)
  | 0x104 => some a.status
  | 0x108 => some a.mask
  | 0x10C => some a.severity
  | 0x110 | 0x114 => some 0
  | 0x118 => some (a.first + bit true 5 + bit a.ecrcGen 6 + bit true 7 + bit a.ecrcCheck 8)
  | 0x11C | 0x120 | 0x124 | 0x128 => some (infoAt a.header (off - 0x11C) 4)
  | 0x14C => some (s.serial % 2 ^ 32)
  | 0x150 => some (s.serial / 2 ^ 32)
  | 0x2D8 => if pf1 then none else some 0
  | 0x2DC => if pf1 then none else some (bit s.link.doe.response.isSome 31)
  | _ => s.capHeader pf1 off

/-- Whether an offset lies in a structure that the function holds: from its header to the next structure. -/
def State.inStructure (pf1 : Bool) (off : Nat) (s : State) : Bool :=
  let hosts := capList.map (·.1) ++ (s.extended pf1).map (·.1)
  let ends := [0xBC, 0x154, 0x2E8, 0x400]
  match (hosts.filter fun o => decide (o ≤ off)).getLast? with
  | none => false
  | some o => match ends.find? fun e => decide (o < e) with
    | some e => decide (off < e)
    | none => false

/-- What a configuration read of 4 bytes gives; none is Request Retry Status, until the fuses are sensed and the functions are ready (R187). -/
def readConfig (pf1 : Bool) (off : Nat) (s : State) : Option Nat :=
  if !s.fuse.sensed then none
  else some (match s.configWord pf1 off with
    | some w => w
    | none => if s.inStructure pf1 off then (Config.freeConfig pf1 off).toNat else 0)

/-! ## Configuration writes -/

/-- Replaces the registers of a function that host software writes. -/
def setConfig (pf1 : Bool) (g : ConfigRegs → ConfigRegs) (s : State) : State :=
  let f := s.link.func pf1
  { s with link := s.link.setFunc pf1 { f with config := g f.config } }

/-- A BAR register written whole: only the address bits above its size are kept (Table 8-5). -/
def barKept (pf1 : Bool) (bar address : Nat) : Nat := match barSize pf1 bar with
  | some n => address / n * n % 2 ^ 64
  | none => 0

/-- A word of a 64-bit address replaced. -/
def wordOf (old : Nat) (high : Bool) (v : Nat) : Nat := if high then old % 2 ^ 32 + 2 ^ 32 * v else old / 2 ^ 32 * 2 ^ 32 + v

/-- Device Control: error reporting, Relaxed Ordering, both sizes, and the function-level reset. The payload size of PF0 governs the port. -/
def writeDevCtl (pf1 : Bool) (v : Nat) (s : State) : State :=
  let s1 := setConfig pf1 (fun c => { c with devCtl := v &&& 0x79FF }) s
  let s2 := if pf1 then s1 else renewBsus { s1 with link := { s1.link with mps := sizeOfCode (v / 32 % 8) } }
  if v.testBit 15 then (if pf1 then resetPf1 s2 else resetPf0 s2) else s2

/-- Link Control: ASPM L1 alone, the common clock and the extended synch. A change of whether L1 is permitted sends an LTR message (R192). -/
def writeLinkCtl (pf1 : Bool) (v : Nat) (s : State) : State :=
  let t := setConfig pf1 (fun c => { c with linkCtl := v &&& 0xCA }) s
  if t.link.l1Open = s.link.l1Open then t else t.send (.ltr t.link.ltr)

/-- PMCSR: the power state and the PME enable. D1 and D2 are absent, so that a write of theirs keeps the state. -/
def writePower (pf1 : Bool) (v : Nat) (s : State) : State :=
  let t := setConfig pf1 (fun c => { c with pmeEnable := v.testBit 8 }) s
  if v % 4 = 3 then { t with link := t.link.setFunc pf1 { t.link.func pf1 with d3hot := true } } else if v % 4 = 0 then leaveD3hot pf1 t else t

/-- What a configuration write of 4 bytes does. A configuration request is answered in D3hot and in an insecure stream too (R196, R201). -/
def writeConfig (pf1 : Bool) (off v : Nat) (s : State) : State :=
  let a := s.link.aer pf1
  let aer (b : Aer) : State := { s with link := s.link.setAer pf1 b }
  if !s.link.live || !s.fuse.sensed then s
  else match off with
  | 0x04 => busMaster pf1 (v.testBit 2) (setConfig pf1 (fun c => { c with command := v &&& 0x542 }) s)
  | 0x10 => setConfig pf1 (fun c => { c with bar0 := barKept pf1 0 (wordOf c.bar0 false v) }) s
  | 0x14 => setConfig pf1 (fun c => { c with bar0 := barKept pf1 0 (wordOf c.bar0 true v) }) s
  | 0x18 => setConfig pf1 (fun c => { c with bar2 := barKept pf1 2 (wordOf c.bar2 false v) }) s
  | 0x1C => setConfig pf1 (fun c => { c with bar2 := barKept pf1 2 (wordOf c.bar2 true v) }) s
  | 0x44 => writePower pf1 v s
  | 0x58 => writeDevCtl pf1 (v % 2 ^ 16) s
  | 0x60 => writeLinkCtl pf1 (v % 2 ^ 16) s
  | 0x78 => setConfig pf1 (fun c => { c with devCtl2 := v &&& 0x141F }) s
  | 0xB0 => msixControl pf1 (v.testBit 31) (v.testBit 30) s
  | 0x104 => aer { a with status := a.status - (a.status &&& v) }
  | 0x108 => aer { a with mask := v }
  | 0x10C => aer { a with severity := v }
  | 0x118 => aer { a with ecrcGen := v.testBit 6, ecrcCheck := v.testBit 8 }
  | _ => s

end Sys2Proof.Machine
end

