-- ==== Sys2Proof/Machine/RegWrite.lean ====
section
/-! DEFINITION. What a write to a register does (R283 to R299, Tables 12-1 to 12-4): the fields that take it, the locks, the privileged
fields, the domains that are off, and the peripheral bridge with its waits. -/

namespace Sys2Proof.Machine

/-! ## Fields of 32 bits -/

/-- A 64-bit field with one half replaced (R294). -/
def setHalf (old : U64) (high : Bool) (v : Nat) : U64 :=
  if high then BitVec.ofNat 64 (old.toNat % 2 ^ 32 + 2 ^ 32 * v) else BitVec.ofNat 64 (old.toNat / 2 ^ 32 * 2 ^ 32 + v)

/-- What a write of 32 bits comes to: the field keeps its value unnoticed (R284), the write is rejected with a reason (R293), or it
takes effect. -/
inductive Written (α : Type) where
  | kept
  | rejected (reason : Nat)
  | done (a : α)

/-- A field that a condition locks (R285). -/
def Written.unless {α : Type} (locked : Bool) (a : α) : Written α := if locked then .rejected 0 else .done a

/-- A privileged field: only the keeper core writes it (R293). -/
def Written.keeper {α : Type} (m : Master) (a : α) : Written α := if m = .keeper then .done a else .rejected 1

/-- A field that an instance has or lacks (R353). -/
def Written.only {α : Type} (has : Bool) (a : α) : Written α := if has then .done a else .kept

/-- The same outcome in another state. -/
def Written.map {α β : Type} (f : α → β) (w : Written α) : Written β := match w with
  | .kept => .kept
  | .rejected n => .rejected n
  | .done a => .done (f a)

/-! ## The direct path -/

/-- A register of a request channel (Table 11-2). -/
def Channel.write (c : Channel) (off v : Nat) : Written Channel := match off with
  | 0x00 => .unless c.enable { c with sqBase := setHalf c.sqBase false v }
  | 0x04 => .unless c.enable { c with sqBase := setHalf c.sqBase true v }
  | 0x08 => .unless c.enable { c with cqBase := setHalf c.cqBase false v }
  | 0x0C => .unless c.enable { c with cqBase := setHalf c.cqBase true v }
  | 0x10 => .unless c.enable { c with entries := BitVec.ofNat 32 v }
  | 0x14 => .done (c.setEnable (v.testBit 0))
  | 0x18 => .done (c.ringDoorbell (BitVec.ofNat 32 v))
  | 0x24 => .done (c.consume (BitVec.ofNat 32 v))
  | 0x30 => .done { c with rejectCnt := v }
  | _ => .kept

/-- A register of the event ring (Table 11-12). -/
def ringRegWrite (off v : Nat) (s : State) : Written State :=
  let r := s.mbox.ring
  let put (x : EventRing) : State := { s with mbox := { s.mbox with ring := x } }
  match off with
  | 0x00 => .done (put { r with base := setHalf r.base false v })
  | 0x04 => .done (put { r with base := setHalf r.base true v })
  | 0x08 => .done (put { r with entries := BitVec.ofNat 32 v })
  | 0x0C => .done (put { r with enable := v.testBit 0 })
  | 0x10 => .done (put { r with mask := BitVec.ofNat 32 v &&& 0x7FFE })
  | 0x18 => .done (ringConsume (BitVec.ofNat 32 v) s)
  | 0x1C => .done (put { r with lost := v })
  | _ => .kept

/-- A word of an MSI-X table; a vector that becomes unmasked leaves where it was pending (R197). -/
def tableWrite (pf1 : Bool) (off v : Nat) (s : State) : Written State :=
  let f := s.link.func pf1
  match f.table[off / 16]? with
  | none => .kept
  | some e =>
    let e1 : MsixEntry := match off % 16 with
      | 0 => { e with address := setHalf e.address false v }
      | 4 => { e with address := setHalf e.address true v }
      | 8 => { e with data := BitVec.ofNat 32 v }
      | _ => { e with masked := v.testBit 0 }
    .done (releaseVectors pf1 { s with link := s.link.setFunc pf1 { f with table := f.table.set (off / 16) e1 } })

/-- A register of a viewing ring (Table 10-5): where the descriptors and the position lie is locked while the ring is not STOPPED. -/
def viewRegWrite (i off v : Nat) (s : State) : Written State :=
  let r := s.view.ring i
  let busy := decide (r.state ≠ .stopped)
  match off with
  | 0x00 => .unless busy (s.setRing i { r with descBase := setHalf r.descBase false v })
  | 0x04 => .unless busy (s.setRing i { r with descBase := setHalf r.descBase true v })
  | 0x08 => .unless busy (s.setRing i { r with descEntries := BitVec.ofNat 32 v })
  | 0x0C => .done (writePosted i (BitVec.ofNat 32 v) s)
  | 0x10 => .unless busy (s.setRing i { r with posAddr := setHalf r.posAddr false v })
  | 0x14 => .unless busy (s.setRing i { r with posAddr := setHalf r.posAddr true v })
  | 0x20 => .done (s.setRing i { r with delivered := v })
  | 0x24 => .done (s.setRing i { r with skipped := v })
  | 0x28 => .done (s.setRing i { r with abandoned := v })
  | 0x2C => .done (s.setRing i { r with timeouts := v })
  | _ => .kept

/-! ## Timers and timebase -/

/-- CMD of a channel: a stop prevails over a start, and a reset applies with either (R321). -/
def Timer.command (t : Timer) (v now : Nat) : Timer :=
  let t1 := if v.testBit 1 then t.halt else if v.testBit 0 then t.begin now else t
  if v.testBit 2 then t1.resetCount now else t1

/-- A register of a timer channel (Tables 13-7 and 13-8). CTRL, CMD, COUNT and COMPARE of TMR12 to TMR15 are locked to the host (R326);
CTRL of a channel that runs with RUN_ALWAYS is locked (R325). -/
def timerRegWrite (m : Master) (n off v : Nat) (s : State) : Written State :=
  let t := s.sync.timer n
  let reserved := decide (12 ≤ n) && (decide (m = .pf0) || decide (m = .pf1))
  match off with
  | 0x00 =>
    let t1 := { t with ctrl := BitVec.ofNat 32 v &&& 0xFFFF7FFF }
    .unless (reserved || t.locked) (s.setTimer n { t1 with locked := t1.running && decide (t1.haltBeh = 1) })
  | 0x04 => .unless reserved (s.setTimer n (t.command v s.time.now))
  | 0x08 => .unless reserved (s.setTimer n { t with count := BitVec.ofNat 32 v })
  | 0x0C => .unless reserved (s.setTimer n { t with compare := BitVec.ofNat 32 v })
  | 0x20 => .done (s.setTimer n { t with stuckMs := v % 2 ^ 16 })
  | 0x24 => .done (s.setTimer n { t with matchCnt := v })
  | 0x28 => .done (s.setTimer n { t with ovfCnt := v })
  | 0x2C => .done (s.setTimer n { t with glitchCnt := v })
  | _ => .kept

/-- A register of the timers region (Tables 13-3 to 13-7). -/
def timersWrite (m : Master) (off v : Nat) (s : State) : Written State :=
  let g := s.sync.genlock
  let t := s.sync.tc
  if 0x100 ≤ off then timerRegWrite m ((off - 0x100) / 0x40) ((off - 0x100) % 0x40) v s
  else match off with
    | 0x10 => .done { s with time := { s.time with setCnt := v } }
    | 0x50 => .done (s.setMeter { g with frameCnt := v })
    | 0x54 => .done (s.setMeter { g with missCnt := v })
    | 0x94 => .done (s.setTc { t with goodCnt := v })
    | 0x98 => .done (s.setTc { t with errCnt := v })
    | 0xD0 => .done (s.setMeter { g with reacqCnt := v })
    | 0xD4 => .done (s.setMeter { g with holdoverCnt := v })
    | _ => .kept

/-! ## Buses and auxiliary converters -/

/-- Four bytes of OUT_DATA. -/
def outWrite (l : List Byte) (i v : Nat) : List Byte := (padTo 32 l).take i ++ leBytes 4 v ++ (padTo 32 l).drop (i + 4)

/-- A register of a bus (Table 14-4). A target address from 0x00 to 0x07 or 0x78 to 0x7F makes a rejected write (R344). A write of CTRL
finds the bus free; where it does not, BUS_CTRL says so. -/
def busRegWrite (b : BusId) (off v : Nat) (s : State) : Written State :=
  let x := s.bus.get b
  let w : U32 := BitVec.ofNat 32 v
  let goal (y : Bus) : State := s.setBus b y
  let a0 := decide (b = .abus0)
  let hb := decide (b = .hbus)
  let tgt := decide (b ≠ .abus1)
  match off with
  | 0x00 => .done (busCtrlAct b w true s)
  | 0x04 => .done (goal { x with timingNext := some w })
  | 0x08 => .done (goal { x with timeoutNext := some (w &&& 0xFFFF) })
  | 0x0C => .only tgt (goal { x with tgtAddr := w &&& 0x7F7F7F7F })
  | 0x10 => .only tgt (goal { x with tgtMode := w &&& 0x7F7F73 })
  | 0x20 => .done (goal { x with arbLost := v })
  | 0x24 => .done (goal { x with busErr := v })
  | 0x28 => .done (goal { x with timeouts := v })
  | 0x2C => .done (goal { x with nacks := v })
  | 0x30 => .only tgt (goal { x with aborts := v })
  | 0x34 => .done (goal { x with pecErr := v })
  | 0x38 => .done (goal { x with clears := v })
  | 0x3C => .only hb (goal { x with sleepNacks := v })
  | 0x40 => .only a0 (goal { x with lensCtrl := w &&& 0xFF7F01 })
  | 0x44 => .only a0 (goal { x with lensLen := w &&& 0xFFFF07FF })
  | 0x48 => .only a0 (goal { x with lensOkCnt := v })
  | 0x4C => .only a0 (goal { x with lensFailCnt := v })
  | 0x60 => .only hb (goal { x with notifyMask := w })
  | 0x64 => .only hb (goal { x with notifyCtrl := w &&& 1 })
  | 0x68 => .only hb (goal { x with notifyCnt := v })
  | 0x6C => .only hb (goal { x with notifyFail := v })
  | 0x74 => .only a0 (inboxConsume b w s)
  | 0x78 => .only a0 (goal { x with inLost := v })
  | 0x80 => .only a0 (goal { x with outLen := w &&& 0x3F })
  | _ => if 0x84 ≤ off ∧ off < 0xA4 then .only a0 (goal { x with outData := outWrite x.outData (off - 0x84) v }) else .kept

/-- A target register that would name a reserved address keeps its value, and the write is rejected (R344). -/
def busWrite (b : BusId) (off v : Nat) (s : State) : Written State :=
  match busRegWrite b off v s with
  | .done t =>
    let x := t.bus.get b
    if (off = 0x0C ∨ off = 0x10) ∧ tgtReserved x.tgtAddr x.tgtMode = true then .rejected 0 else .done t
  | w => w

/-- A register of the auxiliary converters (Table 14-7). -/
def auxWrite (off v : Nat) (s : State) : Written State :=
  let a := s.aux
  match off with
  | 0x00 => .done (queueVector { s with aux := { a with ctrl := BitVec.ofNat 32 v &&& 0xFF03 } })
  | 0x04 => .done { s with aux := { a with xchkLimit := BitVec.ofNat 32 v &&& 0xFF } }
  | 0x14 => .done { s with aux := { a with xchkFaultCnt := v } }
  | 0x1C => .done (queueConsume (BitVec.ofNat 32 v) s)
  | 0x20 => .done { s with aux := { a with lost := v } }
  | _ => .kept

/-! ## Clocks, power, fuses and the calibration store -/

/-- PLL_CMD: the locks that its bits ask for. -/
def pllCommands (v : Nat) (s : State) : State :=
  let go (i : Nat) (p : PllId) (t : State) : State := if v.testBit i then pllCommand p t else t
  go 2 .c (go 1 .b (go 0 .a s))

/-- A register of the clocks region (Table 17-6). -/
def clockWrite (m : Master) (off v : Nat) (s : State) : Written State :=
  let c := s.clk
  match off with
  | 0x04 => .keeper m (applyRef { s with time := { s.time with ref := v % 2 } })
  | 0x08 => .keeper m (pllCommands v s)
  | 0x0C => .keeper m { s with clk := { c with ditherA := v % 2 ^ 16, ditherB := v / 2 ^ 16 } }
  | 0x10 => .keeper m { s with clk := { c with ditherC := v % 2 ^ 16 } }
  | 0x14 => .keeper m (writeOutCfg (BitVec.ofNat 32 v) s)
  | 0x18 => .done { s with clk := { c with lockLoss := v } }
  | 0x1C => .done { s with clk := { c with holdoverCnt := v } }
  | 0x20 => .done { s with clk := { c with relockCnt := v } }
  | 0x24 => .done { s with clk := { c with relockFail := v } }
  | 0x28 => .done { s with clk := { c with isoDrop := v } }
  | _ => .kept

/-- A register of the power region (Table 16-5). -/
def powerWrite (off v : Nat) (s : State) : Written State :=
  let p := s.power
  match off with
  | 0x4C => .done { s with power := { p with rideCnt := v } }
  | 0x50 => .done { s with power := { p with transferCnt := v } }
  | 0x58 => .done { s with power := { p with pgFailCnt := v } }
  | 0x5C => .done { s with power := { p with loadLimitCnt := v } }
  | _ => .kept

/-- A register of the fuse control region (Table 15-6). FUSE_CMD has commands of its own: PROGRAM, SENSE and FINALIZE. -/
def fuseWrite (m : Master) (off v : Nat) (s : State) : Written State :=
  let f := s.fuse
  let w : U32 := BitVec.ofNat 32 v
  match off with
  | 0x00 => .keeper m s
  | 0x04 => .keeper m { s with fuse := { f with addr := w &&& 0x3FF } }
  | 0x08 => .keeper m { s with fuse := { f with data := w } }
  | 0x10 => if m = .keeper then .kept else .rejected 1
  | 0x14 => .done { s with fuse := { f with opCnt := v } }
  | 0x18 => .done { s with fuse := { f with failCnt := v } }
  | _ => if 0x30 ≤ off ∧ off < 0x40 then .keeper m { s with fuse := { f with declared := f.declared.set ((off - 0x30) / 4) w } } else .kept

/-- A fuse shadow: the device secret is privileged (R381). -/
def shadowWrite (m : Master) (off : Nat) : Written State :=
  if secretWord (off / 512) (off % 512 / 4) && decide (m ≠ .keeper) then .rejected 1 else .kept

/-- A register of the calibration store region (Table 15-4). -/
def calWrite (off v : Nat) (s : State) : Written State := match off with
  | 0x28 => .done { s with cal := { s.cal with loadCnt := v } }
  | 0x2C => .done { s with cal := { s.cal with loadRetryCnt := v } }
  | _ => .kept

/-! ## The log, the ledger view and the voting block -/

/-- A register of the event log window (Table 19-4). -/
def logRegWrite (off v : Nat) (s : State) : Written State :=
  let l := s.log
  match off with
  | 0x10 => .done { s with log := { l with lost := v } }
  | 0x18 => .done { s with log := { l with resCopy := v.testBit 0 } }
  | 0x2C => .done { s with log := { l with winSeq := v } }
  | _ =>
    let d := (off - 0x40) / 2
    if 0x40 ≤ off ∧ d < 82 then .done { s with log := { l with ovf := put (put l.ovf d (v % 2 ^ 16)) (d + 1) (v / 2 ^ 16) } } else .kept

/-- A register of the ledger view (Table 12-8). -/
def ledgerRegWrite (off v : Nat) (s : State) : Written State := match off with
  | 0x20 => .done { s with ledger := { s.ledger with slipCnt := v } }
  | 0x24 => .done { s with ledger := { s.ledger with cancelCnt := v } }
  | 0x28 => .done { s with ledger := { s.ledger with refuseCnt := v } }
  | _ => .kept

/-- A register of the voting block (Table 12-10). -/
def voteWrite (off v : Nat) (s : State) : Written State := match off with
  | 0x00 => .done { s with regs := { s.regs with voteRepairCnt := v } }
  | 0x20 => .done { s with regs := { s.regs with rejCnt := v } }
  | 0x38 => .done { s with regs := { s.regs with hangCnt := v } }
  | _ => .kept

/-! ## The maps -/

/-- A word of a PF0 region. The Welt page takes its writes by commands of its own (Table 9-2). -/
def write0 (m : Master) (base off v : Nat) (s : State) : Written State :=
  let chan (c : Chan) : Written State := ((s.mbox.get c).write off v).map fun x => { s with mbox := s.mbox.set c x }
  if base = 0x01000 then chan .ch0
  else if base = 0x02000 then chan .ch2
  else if base = 0x03000 then ringRegWrite off v s
  else if base = 0x10000 then tableWrite false off v s
  else if base = 0x20000 then timersWrite m off v s
  else if base = 0x22000 then busWrite .abus0 off v s
  else if base = 0x22400 then busWrite .abus1 off v s
  else if base = 0x22800 then busWrite .hbus off v s
  else if base = 0x24000 then auxWrite off v s
  else if base = 0x26000 then clockWrite m off v s
  else if base = 0x28000 then powerWrite off v s
  else if base = 0x2A000 then shadowWrite m off
  else if base = 0x2B000 then fuseWrite m off v s
  else if base = 0x2C000 then calWrite off v s
  else if base = 0x2E000 then logRegWrite off v s
  else if base = 0x30000 then ledgerRegWrite off v s
  else if base = 0x38000 then voteWrite off v s
  else .kept

/-- A word of a PF1 region. -/
def write1 (base off v : Nat) (s : State) : Written State :=
  if base = 0x1000 then (s.mbox.c1.write off v).map fun x => { s with mbox := { s.mbox with c1 := x } }
  else if base = 0x2000 then viewRegWrite (off / 0x40) (off % 0x40) v s
  else if base = 0x3000 then viewRegWrite (3 + off / 0x40) (off % 0x40) v s
  else if base = 0x8000 then tableWrite true off v s
  else .kept

/-- A write of 32 bits at a BAR0 offset: nothing where no region covers it (R283); rejected where its domain is off (R296). -/
def writeWord (m : Master) (pf1 : Bool) (off v : Nat) (s : State) : State :=
  match regionAt pf1 off with
  | none => s
  | some r =>
    if !(r.on s) then rejectWrite m 2 off v s
    else match (if pf1 then write1 r.base (off - r.base) v s else write0 m r.base (off - r.base) v s) with
      | .kept => s
      | .rejected reason => rejectWrite m reason off v s
      | .done t => t

/-! ## The peripheral bridge (R297) -/

/-- The clock that can stop under an offset of the peripheral window: CK03 of the genlock meter, or CK59 of the LTC reader. -/
def bridgeClock (off : Nat) : Option Nat :=
  if 0x20040 ≤ off ∧ off < 0x20060 then some 3 else if 0x20080 ≤ off ∧ off < 0x200A0 then some 59 else none

/-- The clock that an access at an offset waits for now. -/
def State.waitsFor (s : State) (off : Nat) : Option Nat :=
  (bridgeClock off).filter fun c => s.pdOn 76 && s.clockStopped c

/-- A write of 32 bits that goes through the bridge where its region lies behind it: it queues behind an access that waits, and waits
itself where its clock is stopped. -/
def bridgeWord (m : Master) (pf1 : Bool) (off v : Nat) (s : State) : State :=
  if pf1 || decide (off < 0x20000) then writeWord m pf1 off v s
  else
    let a : BridgeAccess := ⟨false, off, v, 0, s.time.now, false, m⟩
    if s.regs.waiting.isSome then { s with regs := { s.regs with queue := s.regs.queue ++ [a] } }
    else match s.waitsFor off with
      | some c => { s with regs := { s.regs with waiting := some { a with clock := c } } }
      | none => writeWord m pf1 off v s

/-- A read of 32 bits: what it gives, and what a read of CAP_RISE leaves behind (R324). -/
def readWord (m : Master) (pf1 : Bool) (off : Nat) (s : State) : Nat × State :=
  let capRise := !pf1 && decide (0x20100 ≤ off ∧ off < 0x20500) && decide ((off - 0x20100) % 0x40 = 0x18)
  (readReg pf1 (decide (m = .keeper)) off s, if capRise then snapPair ((off - 0x20100) / 0x40) s else s)

/-- A read of 4 or 8 bytes completes: two words, the low half first (R196). -/
def readNow (m : Master) (pf1 : Bool) (off len : Nat) (s : State) : State :=
  let (a, s1) := readWord m pf1 off s
  if len = 8 then
    let (b, s2) := readWord m pf1 (off + 4) s1
    s2.send (.completion (.data (leBytes 4 a ++ leBytes 4 b)))
  else s1.send (.completion (.data (leBytes 4 a)))

/-- A read, which waits and queues in the bridge as a write does (R297). -/
def bridgeRead (m : Master) (pf1 : Bool) (off len : Nat) (s : State) : State :=
  if pf1 || decide (off < 0x20000) then readNow m pf1 off len s
  else
    let a : BridgeAccess := ⟨true, off, len, 0, s.time.now, false, m⟩
    if s.regs.waiting.isSome then { s with regs := { s.regs with queue := s.regs.queue ++ [a] } }
    else match s.waitsFor off with
      | some c => { s with regs := { s.regs with waiting := some { a with clock := c } } }
      | none => readNow m pf1 off len s

/-- An access that the bridge carries out after a wait, of the master that sent it. A late completion of a read still leaves: at the host it is an
unexpected one (R297). -/
def bridgeRun (a : BridgeAccess) (s : State) : State :=
  if a.isRead then bridgeRead a.master false a.offset a.data s else bridgeWord a.master false a.offset a.data s

/-- BRIDGE_CLOCK_RETURN: the clock of the access that waits runs again; the access ends, and its queue goes on. -/
def bridgeReturn (s : State) : State :=
  match s.regs.waiting with
  | none => s
  | some a =>
    let c := if s.pdOn 76 then (if a.clock = 3 then { s.clk with genref := true } else { s.clk with ltcck := true }) else s.clk
    let rest := s.regs.queue
    each (a :: rest) bridgeRun { s with clk := c, regs := { s.regs with waiting := none, queue := [] } }

/-- BRIDGE_CLOCK_RETURN. -/
def execBridgeClockReturn (s : State) : Host.Outcome State Fault Refusal := .next (bridgeReturn s)

/-- BRIDGE_WAIT_TIMEOUT: an access has waited for 1 ms. -/
def bridgeHang (s : State) : State :=
  match s.regs.waiting with
  | none => s
  | some a =>
    if a.counted then s
    else
      let s1 := reachNow (a.since + Config.ms) s
      logEvent 0x0906 srcHost a.offset
        { s1 with regs := { s1.regs with hangCnt := bump32 s1.regs.hangCnt 1, hangOffset := a.offset % 2 ^ 18, hangClock := a.clock,
                                         waiting := some { a with counted := true } } }

/-- BRIDGE_WAIT_TIMEOUT. -/
def execBridgeWaitTimeout (s : State) : Host.Outcome State Fault Refusal := .next (bridgeHang s)

/-! ## REGISTER_WRITE -/

/-- Whether a master reaches the registers: the host through a function that takes requests, the scan port while it is open. -/
def State.reaches (s : State) (m : Master) (pf1 : Bool) : Bool := match m with
  | .pf0 | .pf1 => s.link.takes pf1
  | .scanPort => s.trust.debugOpen
  | _ => true

/-- The map that a master's write goes to. -/
def masterPf1 (m : Master) (fn : Func) : Bool := match m with
  | .pf0 => false
  | .pf1 => true
  | _ => decide (fn = .pf1)

/-- Whether a run of bytes at an offset may be written as it stands: in the mailbox regions and the Welt page any run of words within the region and
the maximum payload size; elsewhere 4 or 8 bytes, aligned (R196). -/
def writable (pf1 : Bool) (off len mps : Nat) : Bool :=
  let aligned := decide (off % len = 0) && (len == 4 || len == 8)
  match regionAt pf1 off with
  | none => aligned
  | some r =>
    let open4 := if pf1 then r.base == 0x1000 else [0x01000, 0x02000, 0x03000, 0x08000, 0x0C000].contains r.base
    if open4 then decide (off % 4 = 0 ∧ off + len ≤ r.base + r.len ∧ len ≤ max 128 mps) else aligned

/-- The words of a register write, in ascending order (R294). -/
def Access.words (a : Access) (data : Nat) : List Nat := match a with
  | .word | .together | .config => [data % 2 ^ 32]
  | .read _ | .configRead => []
  | .pair => [data % 2 ^ 32, data / 2 ^ 32]
  | .block more => data % 2 ^ 32 :: data / 2 ^ 32 :: more.map BitVec.toNat

/-- Words written one after another, each judged on its own, the lowest first (R294). -/
def writeRun (m : Master) (pf1 : Bool) (off : Nat) (ws : List Nat) (s : State) : State := match ws with
  | [] => s
  | w :: rest => writeRun m pf1 (off + 4) rest (bridgeWord m pf1 off w s)

/-- Whether 32 bits of BAR0 hold a counter (R290). The overflow counters of the event log are two to a word, of which hardware increments one: they
are left out. -/
def isCounter (pf1 : Bool) (off : Nat) : Bool :=
  let at_ (base : Nat) (l : List Nat) : Bool := decide (base ≤ off) && l.contains (off - base)
  let ring (base n : Nat) : Bool := decide (base ≤ off ∧ off < base + 0x40 * n) && [0x20, 0x24, 0x28, 0x2C].contains ((off - base) % 0x40)
  let busy := [0x20, 0x24, 0x28, 0x2C, 0x30, 0x34, 0x38]
  if pf1 then at_ 0x1000 [0x30] || ring 0x2000 3 || ring 0x3000 8
  else at_ 0x01000 [0x30] || at_ 0x02000 [0x30] || at_ 0x03000 [0x1C] || at_ 0x20000 [0x10, 0x50, 0x54, 0x94, 0x98, 0xD0, 0xD4]
    || (decide (0x20100 ≤ off ∧ off < 0x20500) && [0x24, 0x28, 0x2C].contains ((off - 0x20100) % 0x40))
    || at_ 0x22000 (busy ++ [0x48, 0x4C, 0x78]) || at_ 0x22400 busy || at_ 0x22800 (busy ++ [0x3C, 0x68, 0x6C, 0x78])
    || at_ 0x24000 [0x14, 0x20] || at_ 0x26000 [0x18, 0x1C, 0x20, 0x24, 0x28] || at_ 0x28000 [0x4C, 0x50, 0x58, 0x5C]
    || at_ 0x2B000 [0x14, 0x18] || at_ 0x2C000 [0x28, 0x2C] || at_ 0x2E000 [0x10] || at_ 0x30000 [0x20, 0x24, 0x28]
    || at_ 0x38000 [0x00, 0x20, 0x38]

/-- What a write of 32 bits sets where hardware increments the counter in the same clock: v + 1, capped (Table 12-3). -/
def collided (pf1 : Bool) (off v : Nat) : Nat := if isCounter pf1 off then bump32 v 1 else v

/-- An access to BAR0 or to configuration space. One to BAR0 that R196 does not admit completes with Unsupported Request where a host sends it, and has no effect from another master. -/
def registerWrite (m : Master) (pf1 : Bool) (off : Nat) (a : Access) (data : Nat) (s : State) : State :=
  let ws := Access.words a data
  let host := decide (m = .pf0) || decide (m = .pf1)
  match a with
  | .config => if host then writeConfig pf1 off (data % 2 ^ 32) s else s
  | .configRead =>
    if !host || !s.link.live then s
    else match readConfig pf1 off s with
      | some w => s.send (.completion (.data (leBytes 4 w)))
      | none => s.send (.completion .retry)
  | .read wide =>
    if !(s.reaches m pf1) then s
    else if off % (if wide then 8 else 4) = 0 then bridgeRead m pf1 off (if wide then 8 else 4) s
    else if host then unsupported pf1 off s else s
  | .together =>
    if !(s.reaches m pf1) then s
    else if off % 4 = 0 then bridgeWord m pf1 off (collided pf1 off (data % 2 ^ 32)) s
    else if host then unsupported pf1 off s else s
  | _ =>
  if !(s.reaches m pf1) then s
  else if writable pf1 off (4 * ws.length) s.link.mps then writeRun m pf1 off ws s
  else if host then unsupported pf1 off s else s

/-- REGISTER_WRITE. -/
def execRegisterWrite (master : Master) (fn : Func) (offset : Nat) (access : Access) (data : U64) (s : State) : Host.Outcome State Fault Refusal :=
  .next (registerWrite master (masterPf1 master fn) offset access data.toNat s)

end Sys2Proof.Machine
end

