-- ==== Sys2Proof/Machine/Calibration.lean ====
section
/-! DEFINITION. The calibration store (R363 to R371): the bytes of a set, the procedures of CAL_RUN, the plausibility checks, CAL_INSTALL
and CAL_ROLLBACK. -/

namespace Sys2Proof.Machine

/-! ## The bytes of a set (Table 15-1) -/

/-- The photosites of a tile in ascending (y, x) order. -/
def tileSites (t : Nat) : List (Nat × Nat) :=
  (List.range 4640).flatMap fun j => (List.range 4640).map fun i => (4640 * (t % 4) + i, 4640 * (t / 4) + j)

/-- The words of a tile, 6 bytes each. -/
def WordMap.tileBytes (m : WordMap) (mono : Bool) (t : Nat) : List Byte :=
  (tileSites t).flatMap fun p => leBytes 6 (m.at mono p.1 p.2).toNat

/-- The targets of a span. -/
def Targets.bytes (t : Targets) : List Byte := leBytes 4 t.lo ++ leBytes 4 t.m1 ++ leBytes 4 t.m2 ++ leBytes 4 t.hi

/-- Bytes 0x000 to 0x2FF of a copy. -/
def CalSet.front (c : CalSet) (mono : Bool) (serial : Nat) : List Byte :=
  leBytes 4 0x5343464D ++ leBytes 2 1 ++ leBytes 1 (bit mono 0) ++ zeros 1 ++ leBytes 8 serial ++ leBytes 4 c.setId ++ leBytes 4 c.parentId
    ++ leBytes 8 c.time ++ leBytes 2 (intField 16 c.tCal) ++ leBytes 2 c.procs ++ leBytes 2 c.keySlot ++ zeros 2
    ++ padTo 16 (c.tileTrim.flatMap (leBytes 2)) ++ zeros 8 ++ ((List.range 8).flatMap fun t => leBytes 8 (crc64 (c.words.tileBytes mono t)))
    ++ padTo 64 (c.refs.flatMap fun v => leBytes 8 (intField 64 v)) ++ zeros 64
    ++ (List.range 16).flatMap fun g => (c.single.getD g ⟨0, 0, 0, 0⟩).bytes ++ (c.double.getD g ⟨0, 0, 0, 0⟩).bytes

/-- The bytes that COPY_CRC and DIGEST cover. -/
def CalSet.bytes (c : CalSet) (mono : Bool) (serial : Nat) : List Byte :=
  padTo 4096 (c.front mono serial) ++ (List.range 8).flatMap (c.words.tileBytes mono)

/-- A set with its COPY_CRC and its DIGEST. -/
def CalSet.checked (c : CalSet) (mono : Bool) (serial : Nat) : CalSet :=
  { c with check := crc64 (c.bytes mono serial), digest := sha384 (c.bytes mono serial) }

/-! ## CAL_STATUS -/

/-- VALID, SET_ID and CHECK of a copy. -/
def copyBytes (c : Option CalSet) : List Byte :=
  leBytes 1 (bit c.isSome 0) ++ zeros 3 ++ leBytes 4 ((c.map (·.setId)).getD 0) ++ leBytes 8 ((c.map (·.check)).getD 0)

/-- The payload of CAL_STATUS. -/
def CalUnit.statusBytes (c : CalUnit) : List Byte :=
  leBytes 1 (bit c.useB 0) ++ zeros 3 ++ leBytes 4 ((c.inForce.map (·.setId)).getD 0) ++ leBytes 8 ((c.inForce.map (·.check)).getD 0)
    ++ leBytes 4 c.count ++ zeros 4 ++ leBytes 8 c.lastCalTime ++ copyBytes c.copyA ++ copyBytes c.copyB

/-- CAL_STATUS. -/
def execCalStatus (r : Req) (s : State) : Host.Outcome State Fault Refusal :=
  .next (command .calStatus r (fun _ => bare r true []) (fun id t => respond id true .ok 0 t.cal.statusBytes t) s)

/-! ## Procedures (Table 15-2) -/

/-- Steps of a procedure. -/
def calSteps (p : Nat) : Nat := [1, 4, 2, 4, 8, 1, 1].getD p 0

/-- The bits of a word that a procedure measures: DARK_OFS, GAIN, STEP, and DEF, RST_BAD and BLK_EXCL. -/
def calMask (p : Nat) : BitVec 48 := match p with
  | 1 => 0xFFF
  | 3 => 0xFFF000
  | 4 => 0xFFFF000000
  | 5 => 0x70000000000
  | _ => 0

/-- A word with the bits of a mask taken from another. -/
def maskedWord (mask old new : BitVec 48) : BitVec 48 := (old &&& ~~~ mask) ||| (new &&& mask)

/-- Words with the bits of a mask measured anew; PAR follows (R39). -/
def WordMap.merge (old : WordMap) (mask : BitVec 48) (new : WordMap) (mono : Bool) : WordMap :=
  let sites := ((old.except ++ new.except).map (·.1)).eraseDups
  ⟨maskedWord mask old.common new.common,
   sites.map fun p => (p, withParity (maskedWord mask (old.at mono p.1 p.2) (new.at mono p.1 p.2)))⟩

/-- A word with DEF set. -/
def defective (w : BitVec 48) : BitVec 48 := withParity (w ||| 0x10000000000)

/-- A word as the STEP procedure writes it: a STEP outside the valid range is clamped, and the site carries DEF (R40). -/
def clampStep (w : BitVec 48) : BitVec 48 :=
  let v := max 0x7800 (min 0x8200 (wordStep w))
  if v = wordStep w then w else defective (maskedWord 0xFFFF000000 w (BitVec.ofNat 48 (v * 2 ^ 24)))

/-- The words after the STEP procedure; the given sites carry DEF (R40). -/
def WordMap.afterSteps (m : WordMap) (mono : Bool) (bad : List (Nat × Nat)) : WordMap :=
  let sites := (m.except.map (·.1) ++ bad).eraseDups
  ⟨clampStep m.common, sites.map fun p => (p, let w := clampStep (m.at mono p.1 p.2); if p ∈ bad then defective w else w)⟩

/-- Whether STEP lies in its valid range. -/
def stepValid (w : BitVec 48) : Bool := decide (0x7800 ≤ wordStep w ∧ wordStep w ≤ 0x8200)

/-- The words with DEF at every site whose measured step lay outside the valid range or above the threshold (R40), whatever the DEFECT procedure
measures. -/
def WordMap.keepBad (m : WordMap) (mono : Bool) (raw : Option WordMap) (bad : List (Nat × Nat)) : WordMap :=
  let out (w : BitVec 48) : Bool := !(stepValid w)
  let sites := (m.except.map (·.1) ++ ((raw.map (·.except)).getD []).map (·.1) ++ bad).eraseDups
  ⟨if raw.any fun r => out r.common then defective m.common else m.common,
   sites.map fun p => (p, if decide (p ∈ bad) || raw.any (fun r => out (r.at mono p.1 p.2)) then defective (m.at mono p.1 p.2) else m.at mono p.1 p.2)⟩

/-- Targets as a measurement gives them. -/
def targetsOf (l : List (Nat × Nat × Nat × Nat)) : List Targets := l.map fun t => ⟨t.1, t.2.1, t.2.2.1, t.2.2.2⟩

/-- What the last step of a procedure puts into the candidate. -/
def CalSet.measure (c : CalSet) (p : Nat) (mono : Bool) (raw : Option WordMap) (bad : List (Nat × Nat)) (m : CalMeasure) : CalSet :=
  let words := c.words.merge (calMask p) ⟨m.words, m.wordsExcept⟩ mono
  match p with
  | 1 => { c with words := words, tCal := m.tCal }
  | 2 => { c with single := targetsOf m.single, double := targetsOf m.double }
  | 3 => { c with words := words, tileTrim := m.tileTrim }
  | 4 => { c with words := words.afterSteps mono m.badSteps }
  | 5 => { c with words := words.keepBad mono raw bad }
  | _ => c

/-! ## Plausibility (Table 15-3) -/

/-- The words of a set in use: the common word as two sites of a quad hold it, and the exceptions. -/
def WordMap.all (m : WordMap) (mono : Bool) : List (BitVec 48) := placeWord mono m.common 0 0 :: m.except.map (·.2)

/-- Sites with DEF in a tile. -/
def WordMap.defects (m : WordMap) (t : Nat) : Nat :=
  let mine := m.except.filter fun e => decide (tileOf e.1.1 e.1.2 = t)
  (mine.filter fun e => wordDef e.2).length + (if wordDef m.common then 4640 * 4640 - mine.length else 0)

/-- The median of a field over the words of a tile: the lower one of an even count. -/
def WordMap.median (m : WordMap) (f : BitVec 48 → Nat) (t : Nat) : Nat :=
  let mine := ((m.except.filter fun e => decide (tileOf e.1.1 e.1.2 = t)).map fun e => f e.2).mergeSort
  let c := f m.common
  let lo := mine.filter fun v => decide (v < c)
  let hi := mine.filter fun v => decide (c < v)
  let k := (4640 * 4640 - 1) / 2
  if k < lo.length then lo.getD k 0 else if k < 4640 * 4640 - hi.length then c else hi.getD (k - (4640 * 4640 - hi.length)) 0

/-- The nominal positions of the ladder levels, in 1/16 code: those that the sets of the factory hold. -/
def targetOk (t : Targets) : Bool :=
  let near (v n : Nat) : Bool := decide (dist v n ≤ 8192)
  decide (t.lo < t.m1 ∧ t.m1 < t.m2 ∧ t.m2 < t.hi) && near t.lo Factory.targets.lo && near t.m1 Factory.targets.m1
    && near t.m2 Factory.targets.m2 && near t.hi Factory.targets.hi

/-- The checks of Table 15-3 in order, with the set that the candidate is a child of. -/
def CalSet.checks (c : CalSet) (mono : Bool) (bad : List (Nat × Nat)) (readBack : U64) (parent : CalSet) : List Bool :=
  let ws := c.words.all mono
  [ ws.all stepValid && bad.all fun p => wordDef (c.words.at mono p.1 p.2),
    ws.all fun w => decide (1416 ≤ wordGain w) || wordDef w,
    decide (c.tileTrim.length = 8) && c.tileTrim.all fun v => decide (16220 ≤ v ∧ v ≤ 16548),
    (List.range 8).all fun t => decide (c.words.defects t ≤ 2153),
    decide (c.single.length = 16 ∧ c.double.length = 16) && (c.single ++ c.double).all targetOk,
    decide (-320 ≤ c.tCal ∧ c.tCal ≤ 640),
    ws.all oddOnes && decide (readBack = 0),
    decide (c.parentId = 0) || (List.range 8).all fun t =>
      decide (dist (c.words.median wordDark t) (parent.words.median wordDark t) ≤ 256)
        && decide (dist (c.words.median wordGain t) (parent.words.median wordGain t) ≤ 82) ]

/-- The first check that fails, from 1. -/
def firstFailing (l : List Bool) : Option Nat := (l.findIdx? fun b => !b).map (· + 1)

/-! ## CAL_RUN -/

/-- The final response of CAL_RUN. -/
def calReply (stepDone next candidate : Nat) (measured : Int) : List Byte :=
  leBytes 2 stepDone ++ leBytes 2 next ++ leBytes 4 candidate ++ leBytes 8 (intField 64 measured)

/-- The copy not in force takes a set, or none. -/
def CalUnit.setOther (c : CalUnit) (x : Option CalSet) : CalUnit := if c.useB then { c with copyA := x } else { c with copyB := x }

/-- The pointer record names the other copy (R364). -/
def CalUnit.repoint (c : CalUnit) : CalUnit := { c with useB := !c.useB, pointer := (0, 0) }

/-- The copy not in force. -/
def CalUnit.other (c : CalUnit) : Option CalSet := if c.useB then c.copyA else c.copyB

/-- BEGIN: the copy not in force is invalid, and a candidate begins with the parts of the set in force (R367). -/
def calBegin (ref : Int) (s : State) : State :=
  let c0 := s.calSet
  let cand := { c0 with parentId := 0, time := intField 64 ref, procs := 0, keySlot := 0, refs := ref :: List.replicate 7 0 }
  let run : CalRun := { nextStep := 0xFFFF :: List.replicate 6 0, measured := [], badSteps := [], rawSteps := none, candidate := cand }
  { s with cal := { s.cal.setOther none with run := some run, candidate := none } }

/-- The candidate as FINISH completes it (R367). -/
def CalRun.finished (q : CalRun) (id slot : Nat) (parent : Option CalSet) : CalSet :=
  let kept := ([1, 2, 3, 4, 5].any fun p => decide (p ∉ q.measured))
  { q.candidate with setId := id, parentId := if kept then (parent.map (·.setId)).getD 0 else 0, keySlot := slot,
                     procs := sumNat (q.measured.map fun p => 2 ^ p) }

/-- The exposure program of a procedure's step: one window of its duration in node A (R366). -/
def SensorSet.procedure (x : SensorSet) (ticks : Nat) : SensorSet :=
  { x with window := Factory.sensor.window, bin := 1, program := ⟨none, [⟨ticks, 0, .a⟩]⟩ }

/-- A ring in SERVICE: the display and analysis taps run where they are started, the others stay armed (R232). -/
def ViewRing.inService (i n : Nat) (r : ViewRing) : ViewRing := r.atBoundary (decide (i = 0) || decide (i = 2)) n

/-- A step of DARK, FLAT or STEP exposes for its duration and reads out full field under the module's own program; no record is written (R366). The
readout takes the next frame number, and its rows and its end are those of any readout (DESIGN CHOICE, log entry 60). -/
def procedureReadout (ticks : Nat) (m : CalMeasure) (s : State) : State :=
  let s1 := reach (s.time.module + ticks) (endReadout s)
  let b := s1.time.module
  let n := s1.frame.lastFrame + 1
  let x := s1.settings.sensor.procedure ticks
  let s2 := { s1 with cal := { s1.cal with wordsLoaded := true }
                      sensor := { s1.sensor with
                        words := s1.calSet.words
                        sites := m.nodes.map fun v => ((v.1, v.2.1), { clearSite with a := ⟨0, v.2.2.1, v.2.2.2.1, v.2.2.2.2⟩ }) }
                      frame := { s1.frame with sens0 := x, cond := s1.settings.cond, recs := s1.settings.recs, lastFrame := n } }
  let g := governing n b (b - ticks) x.program.entries s2.sensor.temps s2.sensor.faulty false false s2
  let d : FrameData := ⟨[], s2.sensor.words, s2.conv.corr, s2.calSet.tileTrim, [], s2.mono⟩
  { s2 with frame := { s2.frame with sens0 := s1.frame.sens0, gov := some g, readout := some ⟨g, d, 0, [], List.replicate 16 0, none, s2.early, false⟩ },
            view := { s2.view with rings := s2.view.rings.mapIdx fun i r => r.inService i n } }

/-- FINISH (R368): a candidate that passes every check is kept with its identity; another is discarded, with event 0x0D22. -/
def calFinish (q : CalRun) (readBack : U64) (id : ReqId) (s : State) : State :=
  let c := q.finished (s.cal.lastId + 1) s.mbox.auth.slot s.cal.inForce
  let t := endProcedure s
  match firstFailing (c.checks s.mono q.badSteps readBack s.calSet) with
  | some k => finish id .failed 0 [] (logEvent 0x0D22 srcKeeper k { t with cal := { t.cal with run := none } })
  | none =>
    finish id .ok 0 (calReply 0 0xFFFF c.setId 0)
      { t with cal := { t.cal with run := none, candidate := some (c.checked s.mono s.serial), lastId := c.setId } }

/-- A step of a measuring procedure: the last one puts what was measured into the candidate. -/
def calStep (p k : Nat) (ref : Int) (ticks : Nat) (m : CalMeasure) (q : CalRun) (id : ReqId) (s : State) : State :=
  let next := if k + 1 < calSteps p then k + 1 else 0xFFFF
  let last := decide (next = 0xFFFF)
  let cand := { q.candidate with refs := q.candidate.refs.set p ref }
  let q1 := { q with nextStep := q.nextStep.set p next, measured := if last then q.measured ++ [p] else q.measured,
                     badSteps := if last ∧ p = 4 then m.badSteps else q.badSteps,
                     rawSteps := if last ∧ p = 4 then some (cand.words.merge (calMask 4) ⟨m.words, m.wordsExcept⟩ s.mono) else q.rawSteps,
                     candidate := if last then cand.measure p s.mono q.rawSteps q.badSteps m else cand }
  match if p = 5 then (s, true) else powerUp m.noPowerGood procedureDomains s with
  | (u, false) => finish id .failed 0 [] (stopProcedure u)
  | (u, true) =>
    let t := if p ∈ [1, 3, 4] then procedureReadout ticks m u else u
    finish id .ok 0 (calReply k next 0 m.measured) { t with cal := { t.cal with run := some q1 } }

/-- Whether a request is the next step of its procedure. -/
def calDue (p k duration : Nat) (s : State) : Bool :=
  match p, s.cal.run with
  | 0, _ => decide (k = 0)
  | _, none => false
  | p, some q =>
    decide (q.nextStep.getD p 0xFFFF = k) && (decide (p ≠ 5) || [1, 3, 4].all fun x => decide (x ∈ q.measured))
      && (decide (p ∉ [1, 3, 4]) || decide (1 ≤ duration ∧ duration ≤ 10000))

/-- The effect of CAL_RUN. The role CALIBRATION needs the feature bit of field calibration (R301). -/
def calRunAct (p k : Nat) (ref : Int) (duration : Nat) (m : CalMeasure) (id : ReqId) (s : State) : State :=
  if s.mbox.auth.role = 1 ∧ s.cap 6 = false then respond id true .denied 0 [] s
  else if !(calDue p k duration s) then respond id true .badParam 0 [] s
  else
    let s1 := accept id [.calStore] 0 s
    match s1.cal.run with
    | some q =>
      if p = 0 then finish id .ok 0 (calReply 0 0xFFFF 0 0) (calBegin ref s1)
      else if p = 6 then calFinish q m.readBack id s1
      else calStep p k ref (duration * Config.ms) m q id s1
    | none => finish id .ok 0 (calReply 0 0xFFFF 0 0) (calBegin ref s1)

/-- CAL_RUN (R366). -/
def execCalRun (r : Req) (procedure stepNo : U16) (refValue : U64) (durationMs : U32) (m : CalMeasure) (s : State) :
    Host.Outcome State Fault Refusal :=
  .next (command .calRun r
    (fun t => fixed r 20 (decide (procedure.toNat ≤ 6)) (decide (t.mode.mode = .service)) [.calStore])
    (calRunAct procedure.toNat stepNo.toNat refValue.toInt durationMs.toNat m) s)

/-! ## CAL_INSTALL and CAL_ROLLBACK -/

/-- The words of the set in force load again before the module leaves the mode (R43); in SERVICE the tile logic goes on for it (R19). -/
def reloadWords (sur : Surroundings) (s : State) : State × Bool :=
  match powerUp sur.noPowerGood ((List.range 8).map (· + 8)) s with
  | (t, false) => (t, false)
  | (t, true) => loadWords sur.tilesOnce sur.tilesTwice t

/-- The pointer record names the other copy, and its words load. -/
def switchCopy (sur : Surroundings) (s : State) : State × Bool := reloadWords sur { s with cal := s.cal.repoint }

/-- The response of CAL_INSTALL. -/
def CalUnit.installReply (c : CalUnit) : List Byte :=
  leBytes 4 ((c.inForce.map (·.setId)).getD 0) ++ zeros 4 ++ leBytes 8 ((c.inForce.map (·.check)).getD 0)

/-- The end of an install or a rollback: FAILED where a tile fails its check value twice (R42). -/
def endSwitch (id : ReqId) (r : State × Bool) : State :=
  if r.2 then finish id .ok 0 r.1.cal.installReply r.1 else finish id .failed 0 [] r.1

/-- Whether the module may take the calibration commands: R301 gives the role CALIBRATION a feature bit. -/
def State.calDenied (s : State) : Bool := decide (s.mbox.auth.role = 1) && !(s.cap 6)

/-- The effect of CAL_INSTALL (R369). -/
def calInstallAct (candidate : Nat) (sur : Surroundings) (id : ReqId) (s : State) : State :=
  if s.calDenied then respond id true .denied 0 [] s
  else if s.modeBusy then respond id true .busy 0 [] s
  else
    let s1 := accept id [.mode, .calStore] 0 s
    match (s1.cal.candidate.orElse fun _ => s1.cal.other).filter fun c =>
        decide (c.setId = candidate) && decide ((!s1.cal.useB) ∉ sur.upsets.copies) with
    | none => finish id .badParam 0 [] s1
    | some c =>
      let u := s1.cal.setOther (some c)
      let s2 := { s1 with cal := { u.repoint with candidate := none, count := u.count + 1, lastCalTime := c.time } }
      endSwitch id (reloadWords sur (logEvent 0x0D21 srcKeeper c.setId s2))

/-- READY or SERVICE. -/
def State.mayInstall (s : State) : Bool := decide (s.mode.mode = .ready) || decide (s.mode.mode = .service)

/-- CAL_INSTALL. -/
def execCalInstall (r : Req) (candidate : U32) (sur : Surroundings) (s : State) : Host.Outcome State Fault Refusal :=
  .next (command .calInstall r (fun t => fixed r 8 true t.mayInstall [.mode, .calStore]) (calInstallAct candidate.toNat sur) s)

/-- The effect of CAL_ROLLBACK (R370). -/
def calRollbackAct (sur : Surroundings) (id : ReqId) (s : State) : State :=
  if s.calDenied then respond id true .denied 0 [] s
  else if s.modeBusy then respond id true .busy 0 [] s
  else match s.cal.other with
    | none => respond id true .notPresent 0 [] s
    | some c => endSwitch id (switchCopy sur (logEvent 0x0D23 srcKeeper c.setId (accept id [.mode, .calStore] 0 s)))

/-- CAL_ROLLBACK. -/
def execCalRollback (r : Req) (sur : Surroundings) (s : State) : Host.Outcome State Fault Refusal :=
  .next (command .calRollback r (fun t => bare r t.mayInstall [.mode, .calStore]) (calRollbackAct sur) s)

end Sys2Proof.Machine
end

