-- ==== Sys2Proof/Machine/Firmware.lean ====
section
/-! DEFINITION. Firmware images and their slots (R382 to R385), the take key-encryption key and the measurements (R386 to R388). -/

namespace Sys2Proof.Machine

/-! ## Images (Table 15-7, R383) -/

/-- Some bytes of a header. -/
def cut (bs : List Byte) (start n : Nat) : List Byte := (bs.drop start).take n

/-- The digest of the root public key that fuse zone 3 holds. -/
def State.rootDigest (s : State) : List Byte := (List.range 12).flatMap fun w => leBytes 4 (s.fuse.word 3 w)

/-- The layout of an image: the magic number, the header version, the length of the body, and an FW_SVN that the thermometer can hold. -/
def imageShape (head body : List Byte) : Bool :=
  decide (head.length = 4096) && decide (leNat (cut head 0 4) = 0x5746464D) && decide (leNat (cut head 4 2) = 1)
    && decide (leNat (cut head 0x10 8) = body.length) && decide (body.length ≤ 268431360) && decide (leNat (cut head 0xC 4) ≤ 4032)

/-- Whether an image passes: ROOT_KEY, SIGNER_SIG, HDR_SIG and BODY_DIGEST verify, FLAGS admits the variant, and FW_SVN is not below SVN_MIN. -/
def imagePasses (head body : List Byte) (s : State) : Bool :=
  let root := cut head 0x50 96
  let signer := cut head 0xB0 96
  imageShape head body && decide (sha384 root = s.rootDigest) && ecdsaVerify root signer (cut head 0x110 96)
    && ecdsaVerify signer (head.take 0xFA0) (cut head 0xFA0 96) && decide (sha384 body = cut head 0x20 48)
    && (leNat (cut head 6 2)).testBit (bit s.mono 0) && decide (s.fuse.svnMin ≤ leNat (cut head 0xC 4))

/-- An image as a slot holds it. -/
def imageOf (head body : List Byte) : Image := ⟨leNat (cut head 8 4), leNat (cut head 0xC 4), head, body⟩

/-- Whether an image in a slot passes. -/
def Image.passes (i : Image) (s : State) : Bool := imagePasses i.header i.body s

/-- The image of a slot: false A, true B. -/
def TrustUnit.slot (t : TrustUnit) (b : Bool) : Option Image := if b then t.slotB else t.slotA

/-- The slots with another image in one of them. -/
def TrustUnit.setSlot (t : TrustUnit) (b : Bool) (i : Option Image) : TrustUnit := if b then { t with slotB := i } else { t with slotA := i }

/-! ## FW_STAGE (R384) -/

/-- The staging in progress, of a channel that has not been discarded since. -/
def State.staging (s : State) : Option Staging := s.trust.staging.filter fun g => decide ((s.mbox.get g.chan).gen = g.gen)

/-- The last piece: the image is verified, and the slot that is not active takes it. -/
def stageImage (all : List Byte) (id : ReqId) (s : State) : State :=
  let head := all.take 4096
  let body := all.drop 4096
  if imagePasses head body s then
    let i := imageOf head body
    finish id .ok 0 (leBytes 4 i.version ++ leBytes 4 i.svn)
      (logEvent 0x0D15 srcKeeper i.version { s with trust := s.trust.setSlot (!s.trust.activeB) (some i) })
  else finish id .failed 0 [] (logEvent 0x0D16 srcKeeper 0 s)

/-- The effect of FW_STAGE: the first piece empties the slot that is not active, and pieces follow at increasing OFFSET. -/
def fwStageAct (offset total : Nat) (last : Bool) (data : List Byte) (id : ReqId) (s : State) : State :=
  let had := s.staging
  let got := (had.map (·.bytes)).getD []
  let n := got.length + data.length
  let s1 := { s with trust := { s.trust with staging := none } }
  if offset ≠ got.length ∨ total < n ∨ (last = true ∧ n ≠ total) ∨ had.any (fun g => decide (g.total ≠ total)) = true then
    respond id true .badParam 0 [] s1
  else
    let s2 := if had.isNone then { s1 with trust := s1.trust.setSlot (!s1.trust.activeB) none } else s1
    if last then stageImage (got ++ data) id (accept id [.fwSlots] 0 s2)
    else
      respond id true .ok 0 (leBytes 8 Config.stagedSoFar.toNat)
        { s2 with trust := { s2.trust with staging := some ⟨id.chan, id.gen, total, got ++ data⟩ } }

/-- FW_STAGE. -/
def execFwStage (r : Req) (offset total : U32) (flags : Byte) (data : List Byte) (s : State) : Host.Outcome State Fault Refusal :=
  .next (command .fwStage r
    (fun _ => ⟨decide (r.len = 12 + data.length) && decide (data.length ≤ 4084), sound r (decide (flags.toNat ≤ 1)), true, [.fwSlots]⟩)
    (fwStageAct offset.toNat total.toNat (flags.getLsbD 0) data) s)

/-! ## FW_ACTIVATE and RESET_WARM (R9, R384) -/

/-- A warm reset begins 1 ms after the response. -/
def resetSoon (s : State) : State := { s with pins := { s.pins with resetAt := some (s.time.now + Config.ms) } }

/-- The effect of FW_ACTIVATE: the staged slot is named active, and its image is to report its self-test after the reset. -/
def fwActivateAct (id : ReqId) (s : State) : State :=
  let b := !s.trust.activeB
  if s.modeBusy || s.staging.isSome then respond id true .busy 0 [] s
  else if (s.trust.slot b).isNone then respond id true .notPresent 0 [] s
  else
    finish id .ok 0 (leBytes 1 (bit b 0) ++ zeros 7)
      (resetSoon (accept id [.mode, .fwSlots] 0 { s with trust := { s.trust with bootB := b, selfTest := some s.time.now } }))

/-- FW_ACTIVATE. -/
def execFwActivate (r : Req) (s : State) : Host.Outcome State Fault Refusal :=
  .next (command .fwActivate r (fun t => bare r (decide (t.mode.mode = .service)) [.mode, .fwSlots]) fwActivateAct s)

/-- RESET_WARM (R278): in TAKE and BURST only with FORCE. -/
def execResetWarm (r : Req) (flags : Byte) (s : State) : Host.Outcome State Fault Refusal :=
  .next (command .resetWarm r
    (fun t => fixed r 4 (decide (flags.toNat ≤ 1)) (flags.getLsbD 0 || !(decide (t.mode.mode = .take) || decide (t.mode.mode = .burst))) [.mode])
    (fun id t => respond id true .ok 0 [] (resetSoon t)) s)

/-! ## KEK_SET (R387) -/

/-- Whether KEK_SET is taken: in a secured session, not while PRIV_STATE is DEBUG, with the feature bit (R301). -/
def State.takesKek (s : State) : Bool := s.trust.secured && !s.trust.debugOpen && s.cap 1

/-- KEK_SET: the response payload is COMMAND, RESULT and two reserved bytes. -/
def setKek (kek : List Byte) (s : State) : State :=
  if s.takesKek && decide (kek.length = 32) then
    doeAnswer (leBytes 1 1 ++ zeros 3) (logEvent 0x0D31 srcKeeper 0 { s with trust := { s.trust with kek := some kek } })
  else doeAnswer (leBytes 1 1 ++ leBytes 1 1 ++ zeros 2) s

/-- KEK_SET. -/
def execKekSet (kek : SecuredObject) (s : State) : Host.Outcome State Fault Refusal := .next (doeUnlessBusy kek.fetched (setKek kek.body) s)

/-! ## GET_MEASUREMENTS (R388) -/

/-- Words 126 and 127 of zones 0 to 3 and 5 to 7, and SVN_MIN. -/
def State.zoneMeasure (s : State) : List Byte :=
  ([0, 1, 2, 3, 5, 6, 7].flatMap fun z => leBytes 4 (s.fuse.word z 126) ++ leBytes 4 (s.fuse.word z 127)) ++ leBytes 4 s.fuse.svnMin

/-- A block of Table 15-10: none where what it measures is not there. -/
def State.measurement (s : State) (i : Nat) : Option (List Byte) := match i with
  | 1 => some (beBytes 48 Config.romDigest.toNat)
  | 2 => s.trust.running.map fun x => sha384 (x.header ++ x.body)
  | 3 => s.cal.inForce.map fun x => sha384 (leBytes 4 x.setId ++ x.digest)
  | 4 => some (sha384 s.zoneMeasure)
  | 5 => some (sha384 (leBytes 4 s.privState ++ leBytes 4 s.fuseLock ++ leBytes 1 (bit ((s.fuse.word 3 12).testBit 0) 0)))
  | _ => none

/-- The answer: each block asked for, its index before it. -/
def measurements (indices : List Byte) (s : State) : List Byte :=
  indices.flatMap fun i => match s.measurement i.toNat with
    | some d => leBytes 1 i.toNat ++ d
    | none => []

/-- GET_MEASUREMENTS. -/
def execGetMeasurements (indices : SecuredObject) (s : State) : Host.Outcome State Fault Refusal :=
  .next (doeUnlessBusy indices.fetched (fun s => doeAnswer (measurements indices.body s) s) s)

end Sys2Proof.Machine
end

