-- ==== Sys2Proof/Machine/Boot.lean ====
section
/-! DEFINITION. The boot (Table 15-8, R134, R365, R383), cold and warm resets (R9, R436, R437, R440, R465, R466), and the self-test of a new
image (R385). -/

namespace Sys2Proof.Machine

/-! ## Steps 1 and 2: the fuses -/

/-- Whether the four banks that hold a copy or a slot work: banks 0 to 3 for A, 4 to 7 for B (Table 7-8). -/
def HoldUnit.half (h : HoldUnit) (b : Bool) : Bool :=
  (List.range 4).all fun i => !(h.failed.getD (if b then 4 + i else i) false)

/-- A module with a zone failed closed boots no image, and FAULT# is driven (R375, R441). -/
def closeOnFuses (s : State) : State :=
  if s.fuse.failed.any id then { s with trust := { s.trust with romOnly := true }, pins := { s.pins with fault := true } } else s

/-! ## What the stores have lost -/

/-- The profiles with the differences that a boot finds. -/
def upsetProfiles (u : Upsets) (l : List ProfileSlot) : List ProfileSlot :=
  u.profiles.foldl (fun acc p => match acc[p.1]? with
    | none => acc
    | some x => acc.set p.1 (if p.2.1 then { x with second := { x.second with upset := x.second.upset ^^^ p.2.2 } }
        else { x with first := { x.first with upset := x.first.upset ^^^ p.2.2 } })) l

/-- A ring entry with the differences that a boot finds. -/
def upsetEntry (u : Upsets) (e : RingEntry) : RingEntry :=
  u.ring.foldl (fun x p => if p.1 = x.index then { x with checkUpset := x.checkUpset ^^^ p.2.1, crcUpset := x.crcUpset ^^^ p.2.2 } else x) e

/-- The copies as their checks find them. -/
def CalUnit.found (c : CalUnit) (okA okB : Bool) : CalUnit :=
  { c with copyA := if okA then c.copyA else none, copyB := if okB then c.copyB else none }

/-- An input with the differences of its stored copies. -/
def upsetSysCal (u : Upsets) (n : Fin 2) (i : AuxInput) : AuxInput :=
  u.sysCal.foldl (fun x p =>
    if p.1 ≠ n then x
    else if p.2.1 then { x with copy2 := { x.copy2 with upset := x.copy2.upset ^^^ p.2.2 } }
    else { x with copy1 := { x.copy1 with upset := x.copy1.upset ^^^ p.2.2 } }) i

/-- An image with a byte that differs. -/
def Image.upset (i : Image) (k : Nat) (x : Byte) : Image :=
  let flip (bs : List Byte) (k : Nat) : List Byte := bs.set k (bs.getD k 0 ^^^ x)
  if k < 4096 then imageOf (flip i.header k) i.body else imageOf i.header (flip i.body (k - 4096))

/-- The firmware slots as a boot finds them. -/
def upsetSlots (u : Upsets) (t : TrustUnit) : TrustUnit :=
  u.slots.foldl (fun x p => x.setSlot p.1 ((x.slot p.1).map fun i => i.upset p.2.1 p.2.2)) t

/-- The calibration store with the differences of its pointer record. -/
def CalUnit.upsetPointer (c : CalUnit) (u : Upsets) : CalUnit :=
  { c with pointer := (c.pointer.1 ^^^ u.pointer.1, c.pointer.2 ^^^ u.pointer.2) }

/-- The stores as a boot finds them. -/
def applyUpsets (u : Upsets) (s : State) : State :=
  { s with profiles := upsetProfiles u s.profiles, cal := (s.cal.found (false ∉ u.copies) (true ∉ u.copies)).upsetPointer u,
           trust := upsetSlots u s.trust,
           aux := { s.aux with in0 := upsetSysCal u 0 s.aux.in0, in1 := upsetSysCal u 1 s.aux.in1 },
           hold := { s.hold with entries := s.hold.entries.map (upsetEntry u),
                                 retire := s.hold.retire.map fun r => { r with upset := r.upset ^^^ u.retire } } }

/-! ## Steps 3 and 4: the firmware slots -/

/-- Whether the image of a slot passes. -/
def State.slotPasses (s : State) (b : Bool) : Bool := s.hold.half b && (s.trust.slot b).any fun i => i.passes s

/-- The slot that the control partition names runs where it passes; else the other one; else none. -/
def bootSlots (s : State) : State :=
  let b := s.trust.bootB
  if s.trust.romOnly then s
  else if s.slotPasses b then { s with trust := { s.trust with activeB := b } }
  else
    let s1 := logEvent 0x0D10 srcKeeper (bit b 0) s
    if s.slotPasses (!b) then
      logEvent 0x0D11 srcKeeper (bit (!b) 0) { s1 with trust := { s1.trust with activeB := !b, bootB := !b, selfTest := none } }
    else logEvent 0x0D12 srcKeeper 0 { s1 with trust := { s1.trust with romOnly := true, selfTest := none } }

/-! ## The calibration copies (R365) -/

/-- The first copy of the pointer record that passes its check names the copy in force; where neither does, the copy is a free value. -/
def CalUnit.pointed (c : CalUnit) : CalUnit :=
  if c.pointer.1 = 0 ∨ c.pointer.2 = 0 then c else { c with useB := Config.lostPointer }


/-- Both copies are checked (Table 15-2a). -/
def checkCopies (s : State) : State :=
  let c := s.cal.pointed.found (s.hold.half false) (s.hold.half true)
  let t := { s with cal := c }
  match c.inForce, c.other with
  | some _, some _ => t
  | some _, none => logEvent 0x0D20 srcKeeper (bit (!c.useB) 0) t
  | none, some _ => logEvent 0x0D20 srcKeeper (bit c.useB 0) { t with cal := c.repoint }
  | none, none => logEvent 0x0D24 srcKeeper 0 { t with mode := { t.mode with powerupEvent := 0x0D24 } }

/-! ## The profile (R151 to R155) -/

/-- The settings of a profile are in force, and what it sets beside them. -/
def bootProfile (n : Nat) (s : State) : State :=
  let (p, copy) := s.readProfile n
  let f := { Reset.frame p.settings with lastFrame := s.frame.lastFrame }
  adoptProfile n p copy { s with settings := p.settings, frame := f }

/-! ## The end of a boot (R134, R375, R464) -/

/-- The mode that a power-up code names (Table 6-9). -/
def powerupMode (n : Nat) : Mode := if n = 1 then .ready else if n = 2 then .view else .dormant

/-- Whether the boot ends in SERVICE: a zone or both slots failed, both calibration copies failed, or a dump is held. -/
def State.bootsToService (s : State) : Bool := s.trust.romOnly || s.dump.held.isSome || (s.cal.inForce.isNone && s.cal.other.isNone)

/-- What is left of a cut dump, and the event of a held one (R464, R467). -/
def noteDump (s : State) : State := match s.dump.held with
  | none => s
  | some d =>
    let cutShort := (leNat ((d.bytes.drop 0x39).take 1)).testBit 1
    let t := if cutShort then logEvent 0x0E02 srcDump d.cause s else s
    logEvent 0x0E09 srcDump d.cause { t with mode := { t.mode with powerupEvent := 0x0E09 } }

/-- The module moves from DORMANT to SERVICE, or to the power-up mode of the profile. -/
def leaveBoot (sur : Surroundings) (s : State) : State :=
  if s.bootsToService then startSeq .service none sur s
  else
    match powerupMode (s.readProfile s.mode.profile).1.powerup with
    | .ready => startSeq .ready none sur { s with mode := { s.mode with powerup := some .ready } }
    | .view => startSeq .ready none sur { s with mode := { s.mode with powerup := some .view } }
    | _ => powerDownTo dormantDomains sur.drops s

/-- SERVICE_EN# opens the scan port while the debug lock is not blown (R389): at a cold reset only. -/
def openDebug (s : State) : State :=
  if s.pins.serviceEn && !((s.fuse.word 3 12).testBit 0) then
    logEvent 0x0D30 srcKeeper 0 { s with trust := { s.trust with debugOpen := true } }
  else s

/-- The boot up to the start of the conductor core: power for it, the fuses, the slots, and what the keeper core finds in its stores. A new
image has its self-test to report before the module leaves DORMANT (R385). -/
def boot (cold : Bool) (weak : List ((Nat × Nat) × U32)) (profile : Nat) (sur : Surroundings) (s : State) : State :=
  let s1 := closeOnFuses (senseAtReset weak (applyUpsets sur.upsets s))
  let s2 := loadBands (if cold then openDebug s1 else s1)
  let s3 := checkCopies (bootSlots (powerUp none bootDomains s2).1)
  let s4 := noteDump (scanRing (loadSysCal 1 (loadSysCal 0 (bootProfile profile s3))))
  if s4.trust.selfTest.isSome && !s4.bootsToService then { s4 with trust := { s4.trust with selfTest := some s4.time.now } }
  else leaveBoot sur { s4 with trust := { s4.trust with selfTest := none } }

/-! ## COLD_RESET (R9, R396, R400, R436, R437) -/

/-- TANDEM_ROLE at a level in mV (Table 18-8): 1 none, 2 leader, 3 follower; none at all for an intermediate level. -/
def strapRole (mv : Nat) : Option Nat :=
  if 2500 ≤ mv then some 2 else if mv ≤ 800 then some 3 else if 1200 ≤ mv ∧ mv ≤ 2100 then some 1 else none

/-- What the module finds on its straps and inputs when power comes. -/
def findPower (c : ColdStart) (s : State) : State :=
  let p : PowerUnit := { s.power with acPresent := c.ac, dcPresent := c.dc, draw := if c.ac then .ac else if c.dc then .dc else .none,
                                      holdVolts := c.store, holdState := if 4600 ≤ c.store then .ready else .charging, pwrGood := true }
  let q : PinsUnit := { s.pins with psel0 := c.psel0, psel1 := c.psel1, tandemRole := (strapRole c.roleMv).getD 1, serviceEn := c.serviceEn }
  let t := each (c.unstable.filter fun k => decide (k < 4)) (fun k x => logEvent 0x0110 srcAo k x) { s with power := p, pins := q }
  if (strapRole c.roleMv).isNone then logEvent 0x0110 srcAo 2 t else t

/-- The profile that the straps choose (R153). -/
def strapProfile (c : ColdStart) : Nat := 2 * bit c.psel1 0 + bit c.psel0 0

/-- COLD_RESET: power comes from at least one input. -/
def resetCold (c : ColdStart) (s : State) : State :=
  if c.ac || c.dc then boot true c.weak (strapProfile c) c.around (findPower c (coldState s)) else s

/-- COLD_RESET. -/
def execColdReset (c : ColdStart) (s : State) : Host.Outcome State Fault Refusal := .next (resetCold c s)

/-! ## Warm resets (R9, R465, R466) -/

/-- A channel over a warm reset. -/
def Channel.reborn (c : Channel) : Channel := { Reset.channel with gen := c.gen + 1 }

/-- The mailbox over a warm reset: channels, versions and the authentication are discarded. Acceptance times stay distinct. -/
def Mailbox.reborn (m : Mailbox) : Mailbox :=
  { Reset.mailbox with c0 := m.c0.reborn, c1 := m.c1.reborn, c2 := m.c2.reborn, lastAccept := m.lastAccept, lastTaken := m.lastTaken }

/-- What a warm reset leaves (Table 19-8), once the log is saved and every domain but PD-AO is off: what PD-AO holds stays, and so do the
non-volatile stores; the rest is at its reset values. -/
def warmState (s : State) : State :=
  let z := State.reset
  { z with
    time := { s.time with refActive := 0, offsetPpb := 0 }, free := s.free, pending := s.pending, sent := s.sent,
    mbox := s.mbox.reborn, log := s.log,
    dump := { z.dump with held := s.dump.held, seq := s.dump.seq, resOffset := s.dump.resOffset, resBytes := s.dump.resBytes, pagesRead := s.dump.pagesRead },
    mode := { z.mode with profile := s.mode.profile, profileSubst := s.mode.profileSubst, since := s.time.now },
    profiles := s.profiles, regs := { s.regs with waiting := none, queue := [] },
    frame := { z.frame with lastFrame := s.frame.lastFrame }, hold := s.hold.atReset,
    take := { z.take with sessions := s.take.sessions }, view := { z.view with luts := s.view.luts },
    bus := { z.bus with hbus := s.bus.hbus, noticeFaults := s.bus.noticeFaults, noticeMode := s.bus.noticeMode, lastNotice := s.bus.lastNotice,
                        hbusHeard := s.bus.hbusHeard },
    aux := { z.aux with in0 := s.aux.in0.kept, in1 := s.aux.in1.kept }, cal := s.cal.kept,
    fuse := { s.fuse with waiting := none, busy := false, pd78 := false },
    trust := { z.trust with slotA := s.trust.slotA, slotB := s.trust.slotB, activeB := s.trust.activeB, bootB := s.trust.bootB,
                            selfTest := s.trust.selfTest, debugOpen := s.trust.debugOpen },
    power := s.power, clk := s.clk, link := { z.link with perst := s.link.perst },
    thermal := { s.thermal with applied := z.thermal.applied, outOfBand := false },
    pins := { s.pins with resetAt := none, inReset := false } }

/-- Every domain but PD-AO goes off, whatever still runs in it; the log is saved first (R453). -/
def enterReset (s : State) : State :=
  let t := (warmState (powerDownTo [] [] s)).setDomains (List.range 80) false
  { t with regs := { t.regs with heldMirror := some s.mirror } }

/-- The boot of a warm reset. The weak cells are as they were; what the reset discarded in the crossings' queues is counted (R424). -/
def warmBoot (sur : Surroundings) (s : State) : State :=
  boot false s.fuse.weak s.mode.profile sur (each sur.drops discardWords { s with regs := { s.regs with heldMirror := none } })

/-- Whether a warm reset has an effect: not once a retire is declared (R440). -/
def State.resettable (s : State) : Bool := s.power.aoOn && s.power.retire.isNone

/-- A warm reset that meets a dump being written waits for its end (R440, R467). -/
def deferReset (s : State) : State := match s.dump.fatal with
  | some f => { s with dump := { s.dump with fatal := some { f with resetWaits := true } }, pins := { s.pins with resetAt := none } }
  | none => s

/-- A warm reset: at once, or at the tick that a request has set. One that MOD_RESET# holds goes on to its rising edge. -/
def resetWarm (sur : Surroundings) (s : State) : State :=
  if !s.resettable || s.pins.inReset then s
  else if s.dumpWriting then deferReset s
  else warmBoot sur (enterReset (reachNow (s.pins.resetAt.getD 0) s))

/-- WARM_RESET. -/
def execWarmReset (sur : Surroundings) (s : State) : Host.Outcome State Fault Refusal := .next (resetWarm sur s)

/-! ## MOD_RESET# (R440) -/

/-- The pin is low for 100 samples: the module stays in warm reset while it is low. -/
def assertReset (s : State) : State :=
  let t := { s with pins := { s.pins with modReset := true } }
  if !t.resettable || t.pins.inReset then t
  else if t.dumpWriting then deferReset t
  else
    let u := enterReset t
    { u with pins := { u.pins with inReset := true } }

/-- MOD_RESET_ASSERT. -/
def execModResetAssert (s : State) : Host.Outcome State Fault Refusal := .next (assertReset s)

/-- The rising edge starts the boot. -/
def releaseReset (sur : Surroundings) (s : State) : State :=
  let t := { s with pins := { s.pins with modReset := false, inReset := false } }
  if s.pins.inReset && s.resettable then warmBoot sur t else t

/-- MOD_RESET_RELEASE. -/
def execModResetRelease (sur : Surroundings) (s : State) : Host.Outcome State Fault Refusal := .next (releaseReset sur s)

/-! ## The self-test of a new image (R385) -/

/-- Word w of the thermometer with n bits set. -/
def thermoWord (n w : Nat) : U32 := BitVec.ofNat 32 (2 ^ min 32 (n - 32 * w) - 1)

/-- The thermometer takes n bits, word by word; an operation that fails ends it. -/
def raiseThermo (n : Nat) : List Nat → List (U32 × U32) → State → State × Bool
  | [], _, s => (s, true)
  | w :: ws, l, s =>
    let v := thermoWord n w
    if v &&& s.fuse.high 4 w ≠ v then
      match programWord 4 w (v ||| s.fuse.high 4 w) l s with
      | (t, p) => if p.ok then raiseThermo n ws p.rest t else (t, false)
    else raiseThermo n ws l s

/-- Whether a new image has its self-test to report now. -/
def State.testing (s : State) : Bool := s.trust.selfTest.isSome && s.pins.resetAt.isNone && s.resettable && !s.pins.inReset

/-- The thermometer advances where FW_SVN is above SVN_MIN: event 0x0D14. -/
def advanceThermo (senses : List (U32 × U32)) (s : State) : State :=
  if s.fuse.svnMin < s.fwSvn then
    let (t, ok) := raiseThermo s.fwSvn (List.range 126) senses s
    let u := endFuse ok t
    if ok then logEvent 0x0D14 srcKeeper s.fwSvn u else u
  else s

/-- The report within 5.0 s: the thermometer advances, and the module goes on to its power-up mode. No pulse starts in a ride-through
(R378). -/
def selfTestPass (senses : List (U32 × U32)) (sur : Surroundings) (s : State) : State :=
  match s.trust.selfTest with
  | none => s
  | some t =>
    if s.testing && s.power.ride.isNone && decide (s.time.now ≤ t + 5 * Config.ticksPerSecond) then
      leaveBoot sur (advanceThermo senses { s with trust := { s.trust with selfTest := none } })
    else s

/-- FW_SELF_TEST_PASS: `senses` is what the verifies of the thermometer's words read. -/
def execFwSelfTestPass (senses : List (U32 × U32)) (sur : Surroundings) (s : State) : Host.Outcome State Fault Refusal :=
  .next (selfTestPass senses sur s)

/-- FW_SELF_TEST_TIMEOUT: the test failed or its time is over; the previous slot is named active, and a warm reset starts. -/
def selfTestFail (sur : Surroundings) (s : State) : State :=
  if s.testing then
    resetWarm sur (logEvent 0x0D11 srcKeeper (bit (!s.trust.activeB) 0)
      { s with trust := { s.trust with bootB := !s.trust.activeB, selfTest := none } })
  else s

/-- FW_SELF_TEST_TIMEOUT. -/
def execFwSelfTestTimeout (sur : Surroundings) (s : State) : Host.Outcome State Fault Refusal := .next (selfTestFail sur s)

end Sys2Proof.Machine
end

