-- ==== Sys2Proof/Machine/FatalEnd.lean ====
section
/-! DEFINITION. Triplicated fields (R286, R287), the fatal causes of the keeper core's watchdog and of the firmware (R447, R457), and the end of
the fatal sequence (Table 19-5, steps 3 to 6; R456, R457, R461, R467). -/

namespace Sys2Proof.Machine

/-! ## Triplicated fields -/

/-- Whether Table 12-2 gives a FIELD_ID to a field. -/
def tripled (field : Nat) : Bool :=
  decide (1 ≤ field ∧ field ≤ 4) || decide (0x10 ≤ field ∧ field ≤ 0x60) || decide (0x70 ≤ field ∧ field ≤ 0x72)

/-- One copy differs: it is rewritten, and the voting block takes the field, the copy and the time. -/
def repairCopy (field copy : Nat) (s : State) : State :=
  if tripled field && decide (copy < 3) && s.power.aoOn then
    logEvent 0x0901 srcAo field
      { s with regs := { s.regs with voteRepairCnt := bump32 s.regs.voteRepairCnt 1, voteField := field, voteCopy := copy, voteTime := s.time.module } }
  else s

/-- TRIPLICATE_UPSET (R287). -/
def execTriplicateUpset (field copy : Nat) (s : State) : Host.Outcome State Fault Refusal := .next (repairCopy field copy s)

/-- TRIPLICATE_DISAGREE (R287): a fatal cause. -/
def execTriplicateDisagree (field : Nat) (s : State) : Host.Outcome State Fault Refusal :=
  .next (if tripled field && s.power.aoOn then fatalCause 0x0902 srcAo field false s else s)

/-! ## Watchdog and assertion -/

/-- The keeper watchdog expires: whatever sequence runs, a warm reset follows it (R299, R457). -/
def watchdogExpires (s : State) : State :=
  let t := fatalCause 0x0E10 srcAo 0 true s
  { t with dump := { t.dump with fatal := t.dump.fatal.map fun f => { f with watchdog := true } } }

/-- KEEPER_WATCHDOG_EXPIRY. -/
def execKeeperWatchdogExpiry (s : State) : Host.Outcome State Fault Refusal := .next (if s.power.aoOn then watchdogExpires s else s)

/-- The number of a core, as the dump numbers it (Table 19-7). -/
def coreNum (c : CoreId) : Nat := match c with
  | .conductor => 0
  | .keeper => 1
  | .housekeeping => 2

/-- FIRMWARE_ASSERTION. -/
def execFirmwareAssertion (core : CoreId) (s : State) : Host.Outcome State Fault Refusal :=
  .next (if s.power.aoOn then fatalCause 0x0E11 (srcFirmware (coreNum core)) (coreNum core) false s else s)

/-! ## Steps 3 to 5 -/

/-- Step 3: the record of a readout in progress closes, and the retire record is written; nothing in DORMANT. -/
def settleStore (s : State) : State := if s.mode.mode = .dormant then s else writeRetire 3 (endReadout s)

/-- In DORMANT the sequencer powers PD60 to PD71 for step 4; the log returns with PD71. -/
def powerForDump (s : State) : State :=
  if s.mode.mode = .dormant then restoreLog true true (powerUp none ([70, 71, 68] ++ (List.range 8).map (· + 60)) s).1 else s

/-- Steps 4 and 5, where no dump is held. -/
def writeDump (f : FatalSeq) (s : State) : State := if f.noDump then s else storeDump false f (powerForDump s)

/-! ## Step 6 -/

/-- A session that is not CLOSED returns to it without a write, with event 0x0602. -/
def endBay (b : Nat) (s : State) : State := if (s.bay b).state = .closed then s else closeBay b s

/-- The sessions end, the take ends without TAKE_END, and the ring is locked where it holds entries of a take (R456). A WELT_OPEN or a
HOLDOVER_READ accepted during the sequence has its FAILED first (R274). -/
def endSessions (s : State) : State :=
  let t := endBay 1 (endBay 0 (abandonJob (abandonOpen 1 (abandonOpen 0 s))))
  scanRing { t with take := t.take.lost }

/-- The module is in SERVICE: readout, conditioning and viewing are off. -/
def enterService (drops : List (Nat × Nat)) (s : State) : State :=
  let t := (powerUp none serviceDomains (powerDownTo serviceDomains drops (endJoin s))).1
  setMode .service { t with mode := { t.mode with burst := none }, dump := { t.dump with fatal := none } }

/-- The sequence ends: in SERVICE, or with the warm reset that follows it or has waited for it. -/
def finishFatal (sur : Surroundings) (s : State) : State :=
  match s.dump.fatal with
  | none => s
  | some f =>
    let t := writeDump f (settleStore s)
    if !s.resettable then { t with dump := { t.dump with fatal := none } }
    else if t.pins.modReset then
      let u := enterReset t
      { u with pins := { u.pins with inReset := true } }
    else if f.watchdog || f.resetWaits then warmBoot sur (enterReset t)
    else settleFault (enterService sur.drops (endSessions t))

/-- DUMP_WRITE_DONE (R455). -/
def execDumpWriteDone (sur : Surroundings) (s : State) : Host.Outcome State Fault Refusal := .next (finishFatal sur s)

end Sys2Proof.Machine
end

