-- ==== Sys2Proof/Machine/Dispatch.lean ====
section
/-! DEFINITION. The meaning of each command, one arm per row of the table of operations and events. -/

namespace Sys2Proof.Machine

def exec (i : Instr) (s : State) : Host.Outcome State Fault Refusal :=
  match i with
  | .hello r major minor => Sys2Proof.Machine.execHello r major minor s
  | .bye r => Sys2Proof.Machine.execBye r s
  | .getIdentity r => Sys2Proof.Machine.execGetIdentity r s
  | .getStatus r => Sys2Proof.Machine.execGetStatus r s
  | .modeRequest r f sur => Sys2Proof.Machine.execModeRequest r f sur s
  | .modeQuery r => Sys2Proof.Machine.execModeQuery r s
  | .profileSelect r profile => Sys2Proof.Machine.execProfileSelect r profile s
  | .profileStore r profile count items => Sys2Proof.Machine.execProfileStore r profile count items s
  | .profileRead r profile => Sys2Proof.Machine.execProfileRead r profile s
  | .ledgerPost r count items => Sys2Proof.Machine.execLedgerPost r count items s
  | .ledgerQuery r seq => Sys2Proof.Machine.execLedgerQuery r seq s
  | .ledgerCancel r seq => Sys2Proof.Machine.execLedgerCancel r seq s
  | .windowSet r x0 w h => Sys2Proof.Machine.execWindowSet r x0 w h s
  | .exposureProgramSet r p => Sys2Proof.Machine.execExposureProgramSet r p s
  | .triggerSet r t => Sys2Proof.Machine.execTriggerSet r t s
  | .binningSet r v => Sys2Proof.Machine.execBinningSet r v s
  | .rotationSet r v => Sys2Proof.Machine.execRotationSet r v s
  | .syncSourceSet r v => Sys2Proof.Machine.execSyncSourceSet r v s
  | .reservoirInfo r gib => Sys2Proof.Machine.execReservoirInfo r gib s
  | .prerollSet r lengthMs => Sys2Proof.Machine.execPrerollSet r lengthMs s
  | .holdoverStatus r => Sys2Proof.Machine.execHoldoverStatus r s
  | .holdoverScan r part => Sys2Proof.Machine.execHoldoverScan r part s
  | .holdoverRead r takeId first last route bay => Sys2Proof.Machine.execHoldoverRead r takeId first last route bay s
  | .holdoverRelease r takeId through flags => Sys2Proof.Machine.execHoldoverRelease r takeId through flags s
  | .weltOpen r bay maxVersion flags rid ackTimeoutMs => Sys2Proof.Machine.execWeltOpen r bay maxVersion flags rid ackTimeoutMs s
  | .weltClose r bay flags => Sys2Proof.Machine.execWeltClose r bay flags s
  | .weltRelay r fromBay kind => Sys2Proof.Machine.execWeltRelay r fromBay kind s
  | .weltAllowlistSet r count ranges => Sys2Proof.Machine.execWeltAllowlistSet r count ranges s
  | .takeStart r takeId keyId wrapped => Sys2Proof.Machine.execTakeStart r takeId keyId wrapped s
  | .takeStop r => Sys2Proof.Machine.execTakeStop r s
  | .tapConfig r ring => Sys2Proof.Machine.execTapConfig r ring s
  | .streamConfig r ring => Sys2Proof.Machine.execStreamConfig r ring s
  | .streamStart r ring => Sys2Proof.Machine.execStreamStart r ring s
  | .streamStop r ring => Sys2Proof.Machine.execStreamStop r ring s
  | .lutLoad r kind slot flags offset total lutCrc data => Sys2Proof.Machine.execLutLoad r kind slot flags offset total lutCrc data s
  | .tandemRoleSet r role => Sys2Proof.Machine.execTandemRoleSet r role s
  | .tandemStatus r => Sys2Proof.Machine.execTandemStatus r s
  | .compositorSet r mode leftEye => Sys2Proof.Machine.execCompositorSet r mode leftEye s
  | .timecodeSet r source flags num den codeword => Sys2Proof.Machine.execTimecodeSet r source flags num den codeword s
  | .timebaseDiscipline r ref flags value => Sys2Proof.Machine.execTimebaseDiscipline r ref flags value s
  | .abusXfer r bus addr flags writeLen readLen writeData => Sys2Proof.Machine.execAbusXfer r bus addr flags writeLen readLen writeData s
  | .abusTargetSet r amode count addrs base mask => Sys2Proof.Machine.execAbusTargetSet r amode count addrs base mask s
  | .auxSequenceSet r count entries => Sys2Proof.Machine.execAuxSequenceSet r count entries s
  | .auxSyscal r input point fullScale => Sys2Proof.Machine.execAuxSyscal r input point fullScale s
  | .calStatus r => Sys2Proof.Machine.execCalStatus r s
  | .calRun r procedure stepNo refValue durationMs m => Sys2Proof.Machine.execCalRun r procedure stepNo refValue durationMs m s
  | .calInstall r candidate sur => Sys2Proof.Machine.execCalInstall r candidate sur s
  | .calRollback r sur => Sys2Proof.Machine.execCalRollback r sur s
  | .fuseRead r zone word count => Sys2Proof.Machine.execFuseRead r zone word count s
  | .fuseProgram r zone word value senses => Sys2Proof.Machine.execFuseProgram r zone word value senses s
  | .fuseFinalize r zone declared fresh senses => Sys2Proof.Machine.execFuseFinalize r zone declared fresh senses s
  | .logRead r first count range => Sys2Proof.Machine.execLogRead r first count range s
  | .logClearCounters r => Sys2Proof.Machine.execLogClearCounters r s
  | .dumpInfo r => Sys2Proof.Machine.execDumpInfo r s
  | .dumpRead r offset => Sys2Proof.Machine.execDumpRead r offset s
  | .dumpClear r flags => Sys2Proof.Machine.execDumpClear r flags s
  | .fwStage r offset total flags data => Sys2Proof.Machine.execFwStage r offset total flags data s
  | .fwActivate r => Sys2Proof.Machine.execFwActivate r s
  | .authChallenge r role => Sys2Proof.Machine.execAuthChallenge r role s
  | .authResponse r role keySlot signature => Sys2Proof.Machine.execAuthResponse r role keySlot signature s
  | .resetWarm r flags => Sys2Proof.Machine.execResetWarm r flags s
  | .thermalSet r setpoint => Sys2Proof.Machine.execThermalSet r setpoint s
  | .powerPolicySet r flags idleS => Sys2Proof.Machine.execPowerPolicySet r flags idleS s
  | .sqTail ch v => Sys2Proof.Machine.execSqTail ch v s
  | .requestFetch ch m => Sys2Proof.Machine.execRequestFetch ch m s
  | .fetchTimeout ch => Sys2Proof.Machine.execFetchTimeout ch s
  | .cqHead ch v => Sys2Proof.Machine.execCqHead ch v s
  | .responseWrite ch => Sys2Proof.Machine.execResponseWrite ch s
  | .mboxCtrlEnable ch enable => Sys2Proof.Machine.execMboxCtrlEnable ch enable s
  | .eventRingCtrlEnable enable => Sys2Proof.Machine.execEventRingCtrlEnable enable s
  | .consumed v => Sys2Proof.Machine.execConsumed v s
  | .lossNotice => Sys2Proof.Machine.execLossNotice s
  | .repeatCountUpdate source => Sys2Proof.Machine.execRepeatCountUpdate source s
  | .frameBoundary o => Sys2Proof.Machine.execFrameBoundary o s
  | .idleBoundary o => Sys2Proof.Machine.execIdleBoundary o s
  | .rowPairPeriod d => Sys2Proof.Machine.execRowPairPeriod d s
  | .calWordRestore x y => Sys2Proof.Machine.execCalWordRestore x y s
  | .recordClose => Sys2Proof.Machine.execRecordClose s
  | .exposureWindowStart => Sys2Proof.Machine.execExposureWindowStart s
  | .exposureWindowEnd sites => Sys2Proof.Machine.execExposureWindowEnd sites s
  | .selfReset x y well still => Sys2Proof.Machine.execSelfReset x y well still s
  | .readySliceCalibration sums => Sys2Proof.Machine.execReadySliceCalibration sums s
  | .trigInEdge => Sys2Proof.Machine.execTrigInEdge s
  | .gateClose => Sys2Proof.Machine.execGateClose s
  | .prerollRewriteDone => Sys2Proof.Machine.execPrerollRewriteDone s
  | .genlockFrameStart sub struct => Sys2Proof.Machine.execGenlockFrameStart sub struct s
  | .genlockSyncTimeout => Sys2Proof.Machine.execGenlockSyncTimeout s
  | .genlockStartTimeout => Sys2Proof.Machine.execGenlockStartTimeout s
  | .ltcCodeword word bitPeriod cells reversed => Sys2Proof.Machine.execLtcCodeword word bitPeriod cells reversed s
  | .ltcAbsentTimeout => Sys2Proof.Machine.execLtcAbsentTimeout s
  | .timecodeFrameStart => Sys2Proof.Machine.execTimecodeFrameStart s
  | .timerTick n => Sys2Proof.Machine.execTimerTick n s
  | .timerInputEdge n line rising => Sys2Proof.Machine.execTimerInputEdge n line rising s
  | .timerStuck n => Sys2Proof.Machine.execTimerStuck n s
  | .start n => Sys2Proof.Machine.execStart n s
  | .stop n => Sys2Proof.Machine.execStop n s
  | .reset n => Sys2Proof.Machine.execReset n s
  | .count n v => Sys2Proof.Machine.execCount n v s
  | .compare n v => Sys2Proof.Machine.execCompare n v s
  | .capRise n => Sys2Proof.Machine.execCapRise n s
  | .auxPassEnd codes codeA codeB => Sys2Proof.Machine.execAuxPassEnd codes codeA codeB s
  | .auxSyscalCaptureDone input => Sys2Proof.Machine.execAuxSyscalCaptureDone input s
  | .qconsumed v => Sys2Proof.Machine.execQconsumed v s
  | .abusXferDone bus result done data pec => Sys2Proof.Machine.execAbusXferDone bus result done data pec s
  | .arbitrationLost bus done => Sys2Proof.Machine.execArbitrationLost bus done s
  | .busError bus done => Sys2Proof.Machine.execBusError bus done s
  | .sclTimeout bus asTarget done => Sys2Proof.Machine.execSclTimeout bus asTarget done s
  | .sdaTimeout bus freed => Sys2Proof.Machine.execSdaTimeout bus freed s
  | .sdaReleased bus => Sys2Proof.Machine.execSdaReleased bus s
  | .busCtrl bus v freed => Sys2Proof.Machine.execBusCtrl bus v freed s
  | .targetWriteCommand bus address code data ending => Sys2Proof.Machine.execTargetWriteCommand bus address code data ending s
  | .targetReadCommand bus address code => Sys2Proof.Machine.execTargetReadCommand bus address code s
  | .inboxConsumed bus v => Sys2Proof.Machine.execInboxConsumed bus v s
  | .hbusIdleTimeout => Sys2Proof.Machine.execHbusIdleTimeout s
  | .hbusWake address => Sys2Proof.Machine.execHbusWake address s
  | .hostNotify ended => Sys2Proof.Machine.execHostNotify ended s
  | .lensPoll ended bytes => Sys2Proof.Machine.execLensPoll ended bytes s
  | .deviceHealthPoll found => Sys2Proof.Machine.execDeviceHealthPoll found s
  | .dormantAbusPowerOff => Sys2Proof.Machine.execDormantAbusPowerOff s
  | .descLimit bay rid v => Sys2Proof.Machine.execDescLimit bay rid v s
  | .pageLimit bay rid v whole => Sys2Proof.Machine.execPageLimit bay rid v whole s
  | .openAckSession bay rid session version => Sys2Proof.Machine.execOpenAckSession bay rid session version s
  | .ackProducer bay rid v entries => Sys2Proof.Machine.execAckProducer bay rid v entries s
  | .agentInfo bay rid bytes => Sys2Proof.Machine.execAgentInfo bay rid bytes s
  | .weltPageWriteDiscard bay rid offset => Sys2Proof.Machine.execWeltPageWriteDiscard bay rid offset s
  | .weltOpenTimeout bay => Sys2Proof.Machine.execWeltOpenTimeout bay s
  | .ackTimeout bay => Sys2Proof.Machine.execAckTimeout bay s
  | .weltRecordSend bay poisoned => Sys2Proof.Machine.execWeltRecordSend bay poisoned s
  | .deviceMediaError page => Sys2Proof.Machine.execDeviceMediaError page s
  | .memoryLinkRetrain device lanes rate done => Sys2Proof.Machine.execMemoryLinkRetrain device lanes rate done s
  | .deviceLost device => Sys2Proof.Machine.execDeviceLost device s
  | .bar2Read offset len poisoned => Sys2Proof.Machine.execBar2Read offset len poisoned s
  | .bar2Write offset => Sys2Proof.Machine.execBar2Write offset s
  | .holdoverBlockFail bank => Sys2Proof.Machine.execHoldoverBlockFail bank s
  | .holdoverBankFail bank => Sys2Proof.Machine.execHoldoverBankFail bank s
  | .viewFrameDelivery ring bufAddr bufBytes overflow => Sys2Proof.Machine.execViewFrameDelivery ring bufAddr bufBytes overflow s
  | .descriptorReadTimeout ring => Sys2Proof.Machine.execDescriptorReadTimeout ring s
  | .posted ring v => Sys2Proof.Machine.execPosted ring v s
  | .pairingWindowClose => Sys2Proof.Machine.execPairingWindowClose s
  | .partnerFrameDeadline => Sys2Proof.Machine.execPartnerFrameDeadline s
  | .tandemLinkUp => Sys2Proof.Machine.execTandemLinkUp s
  | .helloPacket role maxVersion mode identity rttNs => Sys2Proof.Machine.execHelloPacket role maxVersion mode identity rttNs s
  | .heartbeat boundary frame mode idle => Sys2Proof.Machine.execHeartbeat boundary frame mode idle s
  | .heartbeatKeepalive => Sys2Proof.Machine.execHeartbeatKeepalive s
  | .join first settings waiting => Sys2Proof.Machine.execJoin first settings waiting s
  | .ledger entry => Sys2Proof.Machine.execLedger entry s
  | .ledgerAck seq => Sys2Proof.Machine.execLedgerAck seq s
  | .ledgerResend => Sys2Proof.Machine.execLedgerResend s
  | .ledgerCancelPacket seq classes => Sys2Proof.Machine.execLedgerCancelPacket seq classes s
  | .frameBegin frame width height => Sys2Proof.Machine.execFrameBegin frame width height s
  | .lines frame index first pixels => Sys2Proof.Machine.execLines frame index first pixels s
  | .frameEnd frame sent dropped => Sys2Proof.Machine.execFrameEnd frame sent dropped s
  | .partnerStatus temps input faults => Sys2Proof.Machine.execPartnerStatus temps input faults s
  | .tandemPacketCrcFail => Sys2Proof.Machine.execTandemPacketCrcFail s
  | .tandemLinkTimeout => Sys2Proof.Machine.execTandemLinkTimeout s
  | .tsyncEdge => Sys2Proof.Machine.execTsyncEdge s
  | .coldReset c => Sys2Proof.Machine.execColdReset c s
  | .warmReset sur => Sys2Proof.Machine.execWarmReset sur s
  | .modResetAssert => Sys2Proof.Machine.execModResetAssert s
  | .modResetRelease sur => Sys2Proof.Machine.execModResetRelease sur s
  | .fwSelfTestPass senses sur => Sys2Proof.Machine.execFwSelfTestPass senses sur s
  | .fwSelfTestTimeout sur => Sys2Proof.Machine.execFwSelfTestTimeout sur s
  | .readyEntryComplete => Sys2Proof.Machine.execReadyEntryComplete s
  | .readyEntryTimeout => Sys2Proof.Machine.execReadyEntryTimeout s
  | .powerGoodTimeout domain => Sys2Proof.Machine.execPowerGoodTimeout domain s
  | .acAbsent => Sys2Proof.Machine.execAcAbsent s
  | .dcAbsent => Sys2Proof.Machine.execDcAbsent s
  | .inputPresent ac => Sys2Proof.Machine.execInputPresent ac s
  | .acReturnSettled => Sys2Proof.Machine.execAcReturnSettled s
  | .inputOutOfRange ac => Sys2Proof.Machine.execInputOutOfRange ac s
  | .rideThroughExpiry => Sys2Proof.Machine.execRideThroughExpiry s
  | .storeAtVRetire => Sys2Proof.Machine.execStoreAtVRetire s
  | .holdStoreTimeout => Sys2Proof.Machine.execHoldStoreTimeout s
  | .loadSample load acPower dcPower acVolts acHz dcVolts store pdPwr => Sys2Proof.Machine.execLoadSample load acPower dcPower acVolts acHz dcVolts store pdPwr s
  | .powerStageFault => Sys2Proof.Machine.execPowerStageFault s
  | .thermalCheck stack genaz hold power => Sys2Proof.Machine.execThermalCheck stack genaz hold power s
  | .tileTempSample codes => Sys2Proof.Machine.execTileTempSample codes s
  | .perst asserted => Sys2Proof.Machine.execPerst asserted s
  | .linkDown => Sys2Proof.Machine.execLinkDown s
  | .linkTrained rate width flit mps => Sys2Proof.Machine.execLinkTrained rate width flit mps s
  | .l0pNarrowing width => Sys2Proof.Machine.execL0pNarrowing width s
  | .flrPf0 => Sys2Proof.Machine.execFlrPf0 s
  | .flrPf1 => Sys2Proof.Machine.execFlrPf1 s
  | .busMasterEnable fn on => Sys2Proof.Machine.execBusMasterEnable fn on s
  | .d3hotEntry fn => Sys2Proof.Machine.execD3hotEntry fn s
  | .pmeTurnOff => Sys2Proof.Machine.execPmeTurnOff s
  | .msixEnable fn enable functionMask => Sys2Proof.Machine.execMsixEnable fn enable functionMask s
  | .completionTimeout fn ring => Sys2Proof.Machine.execCompletionTimeout fn ring s
  | .unexpectedCompletion => Sys2Proof.Machine.execUnexpectedCompletion s
  | .bar0AccessError e => Sys2Proof.Machine.execBar0AccessError e s
  | .ideIntegrityFailure => Sys2Proof.Machine.execIdeIntegrityFailure s
  | .doeRequest o fetched => Sys2Proof.Machine.execDoeRequest o fetched s
  | .ideKm rx tx => Sys2Proof.Machine.execIdeKm rx tx s
  | .kekSet kek => Sys2Proof.Machine.execKekSet kek s
  | .getMeasurements indices => Sys2Proof.Machine.execGetMeasurements indices s
  | .authIdleTimeout => Sys2Proof.Machine.execAuthIdleTimeout s
  | .pllLockDetect p => Sys2Proof.Machine.execPllLockDetect p s
  | .pllLockTimeout p => Sys2Proof.Machine.execPllLockTimeout p s
  | .pllRefLoss p => Sys2Proof.Machine.execPllRefLoss p s
  | .pllRefReturn p => Sys2Proof.Machine.execPllRefReturn p s
  | .xrefLoss => Sys2Proof.Machine.execXrefLoss s
  | .xrefReturn => Sys2Proof.Machine.execXrefReturn s
  | .pllCmdLock p => Sys2Proof.Machine.execPllCmdLock p s
  | .outCfg v => Sys2Proof.Machine.execOutCfg v s
  | .program senses => Sys2Proof.Machine.execProgram senses s
  | .sense weak => Sys2Proof.Machine.execSense weak s
  | .finalize fresh senses => Sys2Proof.Machine.execFinalize fresh senses s
  | .bridgeWaitTimeout => Sys2Proof.Machine.execBridgeWaitTimeout s
  | .bridgeClockReturn => Sys2Proof.Machine.execBridgeClockReturn s
  | .registerWrite master fn offset access data => Sys2Proof.Machine.execRegisterWrite master fn offset access data s
  | .triplicateUpset field copy => Sys2Proof.Machine.execTriplicateUpset field copy s
  | .triplicateDisagree field => Sys2Proof.Machine.execTriplicateDisagree field s
  | .keeperWatchdogExpiry => Sys2Proof.Machine.execKeeperWatchdogExpiry s
  | .firmwareAssertion core => Sys2Proof.Machine.execFirmwareAssertion core s
  | .stackLinkLoss => Sys2Proof.Machine.execStackLinkLoss s
  | .dumpWriteDone sur => Sys2Proof.Machine.execDumpWriteDone sur s
  | .eventReport code source data => Sys2Proof.Machine.execEventReport code source data s
  | .logWriter => Sys2Proof.Machine.execLogWriter s
  | .logRestore first second => Sys2Proof.Machine.execLogRestore first second s
  | .holdStoreReady => Sys2Proof.Machine.execHoldStoreReady s
  | .readyIdleTimeout => Sys2Proof.Machine.execReadyIdleTimeout s
  | .tandemLinkDown => Sys2Proof.Machine.execTandemLinkDown s
  | .d3hotExit fn => Sys2Proof.Machine.execD3hotExit fn s
  | .doeAbort => Sys2Proof.Machine.execDoeAbort s
  | .debugHalt on => Sys2Proof.Machine.execDebugHalt on s

end Sys2Proof.Machine
end

