-- ==== Sys2Proof/Machine/Tick.lean ====
section
/-! DEFINITION. The passing of time with no command. -/

namespace Sys2Proof.Machine

/-- Vector 2 of the event ring, where it waited for its 100 µs (R281). -/
def ringVector (s : State) : State :=
  match s.mbox.ring.vecDue, s.mbox.ring.lastVec with
  | true, some t =>
    if t + 100 * Config.us ≤ s.time.now then
      fire0 2 { s with mbox := { s.mbox with ring := { s.mbox.ring with vecDue := false, lastVec := some s.time.now } } }
    else s
  | _, _ => s

/-- One tick of 10 ns passes; a ring vector that waited is fired, and reads of BAR2 that have waited long enough end: what a clock does at its own time beside that is a command
of the table (log entry 1). -/
def tick (s : State) : State := settleReads (ringVector { s with time := s.time.advance 1 })

end Sys2Proof.Machine
end

