-- ==== Sys2Proof/Safety.lean ====
section
/-! DEFINITION. The words that the claims are stated in: which units a command leaves as they were, when a request waits to be taken and what
answers it, and what holds of every sound state. -/

namespace Sys2Proof.Machine

/-! ## Frames -/

/-- The units of the state, one for each field. -/
inductive Part where
  | time | free | pending | sent | mbox | log | dump | mode | ledger | profiles | settings | prefs | profileTandem | regs | sensor | conv
  | frame | res | hold | take | view | tandem | sync | bus | aux | cal | fuse | trust | power | clk | link | thermal | pins
  deriving DecidableEq, Repr

/-- Whether two states agree on a unit. -/
def Part.same (p : Part) (s t : State) : Prop := match p with
  | .time => t.time = s.time
  | .free => t.free = s.free
  | .pending => t.pending = s.pending
  | .sent => t.sent = s.sent
  | .mbox => t.mbox = s.mbox
  | .log => t.log = s.log
  | .dump => t.dump = s.dump
  | .mode => t.mode = s.mode
  | .ledger => t.ledger = s.ledger
  | .profiles => t.profiles = s.profiles
  | .settings => t.settings = s.settings
  | .prefs => t.prefs = s.prefs
  | .profileTandem => t.profileTandem = s.profileTandem
  | .regs => t.regs = s.regs
  | .sensor => t.sensor = s.sensor
  | .conv => t.conv = s.conv
  | .frame => t.frame = s.frame
  | .res => t.res = s.res
  | .hold => t.hold = s.hold
  | .take => t.take = s.take
  | .view => t.view = s.view
  | .tandem => t.tandem = s.tandem
  | .sync => t.sync = s.sync
  | .bus => t.bus = s.bus
  | .aux => t.aux = s.aux
  | .cal => t.cal = s.cal
  | .fuse => t.fuse = s.fuse
  | .trust => t.trust = s.trust
  | .power => t.power = s.power
  | .clk => t.clk = s.clk
  | .link => t.link = s.link
  | .thermal => t.thermal = s.thermal
  | .pins => t.pins = s.pins

/-- Every unit outside a list is as it was. -/
def onlyIn (ps : List Part) (s t : State) : Prop := ∀ p, p ∉ ps → p.same s t

/-- What a report to the log can change: the log, what the module sends, and in the mailbox and the link only what `reportsOnly` admits. -/
def reporting : List Part := [.log, .sent, .mbox, .link]

/-- The mailbox and the link but for what a report changes: the event ring, and the pending bits of the vectors. -/
def reportsOnly (s t : State) : Prop :=
  { t.mbox with ring := s.mbox.ring } = s.mbox ∧
  { t.link with pf0 := { t.link.pf0 with pba := s.link.pf0.pba }, pf1 := { t.link.pf1 with pba := s.link.pf1.pba } } = s.link

/-- A command ends in a next state of which something holds, and changes no unit outside a list. -/
def Completes (c : Instr) (s : State) (ps : List Part) (post : State → Prop) : Prop :=
  ∃ t, exec c s = .next t ∧ onlyIn ps s t ∧ post t

/-- A command ends in a next state of which something holds, and leaves some units as they were. -/
def CompletesKeeping (c : Instr) (s : State) (kept : List Part) (post : State → Prop) : Prop :=
  ∃ t, exec c s = .next t ∧ (∀ p ∈ kept, p.same s t) ∧ post t

/-- What no change of mode or power touches: the commands that wait, the stored profiles, and the fuses. -/
def stored : List Part := [.pending, .profiles, .fuse]

/-! ## Requests and responses -/

/-- A request that the module has fetched is the one that the conductor core takes next (R275), and no response is held on its channel; the
authentication that the command needs stands (R279), an image runs, the reserved bytes of the payload are zero, and no accepted request
claims a resource. -/
structure Waiting (o : Opcode) (r : Req) (s : State) : Prop where
  turn : s.mbox.takes o r = true
  ready : ∀ f ∈ (s.mbox.get r.chan).flights, f.held = none
  covered : lacksAuth o s = false
  running : s.trust.romOnly = false
  reserved : r.rsv = 0
  unclaimed : s.mbox.claims = []

/-- The channel of a request has one response more, with FINAL or without, and the other channels are as they were. -/
def Answered (o : Opcode) (r : Req) (final : Bool) (st : Status) (target : Nat) (payload : List Byte) (s t : State) : Prop :=
  (t.mbox.get r.chan).outgoing = (s.mbox.get r.chan).outgoing ++
    [⟨(s.mbox.get r.chan).version, r.tag, o.code, final, st, target, payload, false⟩] ∧
  ∀ c, c ≠ r.chan → t.mbox.get c = s.mbox.get c

/-- The channel of a request has an ACCEPTED more, which carries the time of acceptance and the planned frame (R273). -/
def Accepted (o : Opcode) (r : Req) (planned : Nat) (s t : State) : Prop :=
  Answered o r false .accepted 0 (leBytes 8 s.time.tock.module ++ leBytes 8 planned) s t

/-- An asynchronous command that is done at once: ACCEPTED, and then the final response. -/
def AcceptedThen (o : Opcode) (r : Req) (planned : Nat) (st : Status) (target : Nat) (payload : List Byte) (s t : State) : Prop :=
  (t.mbox.get r.chan).outgoing = (s.mbox.get r.chan).outgoing ++
    [⟨(s.mbox.get r.chan).version, r.tag, o.code, false, .accepted, 0, leBytes 8 s.time.tock.module ++ leBytes 8 planned, false⟩,
     ⟨(s.mbox.get r.chan).version, r.tag, o.code, true, st, target, payload, false⟩] ∧
  ∀ c, c ≠ r.chan → t.mbox.get c = s.mbox.get c

/-- A request as it is once the conductor core has taken it: its channel, tag and opcode, and how often the channel was discarded. -/
def reqOf (o : Opcode) (r : Req) (s : State) : ReqId := ⟨r.chan, r.tag, o, (s.mbox.get r.chan).gen⟩

/-- A request in flight, whose channel has not been discarded since (R263). -/
def Alive (id : ReqId) (s : State) : Prop :=
  (s.mbox.get id.chan).gen = id.gen ∧ ∃ f ∈ (s.mbox.get id.chan).flights, f.tag = id.tag ∧ f.op = some id.op

/-- An accepted request has its final response now, and gives back what it claimed (R274, R275). -/
def Concludes (id : ReqId) (st : Status) (target : Nat) (payload : List Byte) (s t : State) : Prop :=
  (t.mbox.get id.chan).outgoing = (s.mbox.get id.chan).outgoing ++
    [⟨(s.mbox.get id.chan).version, id.tag, id.op.code, true, st, target, payload, false⟩] ∧
  t.mbox.claims = s.mbox.claims.filter fun p => decide (p.2 ≠ id)

/-- A final response of an accepted request has joined the responses of its channel, whatever else the mailbox holds. -/
def Responds (id : ReqId) (st : Status) (target : Nat) (payload : List Byte) (s t : State) : Prop :=
  (t.mbox.get id.chan).outgoing = (s.mbox.get id.chan).outgoing ++
    [⟨(s.mbox.get id.chan).version, id.tag, id.op.code, true, st, target, payload, false⟩]

/-- ACCEPTED and a final response have joined the responses of a request's channel. -/
def RespondsAccepted (o : Opcode) (r : Req) (planned : Nat) (st : Status) (target : Nat) (payload : List Byte) (s t : State) : Prop :=
  (t.mbox.get r.chan).outgoing = (s.mbox.get r.chan).outgoing ++
    [⟨(s.mbox.get r.chan).version, r.tag, o.code, false, .accepted, 0, leBytes 8 s.time.tock.module ++ leBytes 8 planned, false⟩,
     ⟨(s.mbox.get r.chan).version, r.tag, o.code, true, st, target, payload, false⟩]

/-- A write or read through the peripheral bridge reaches its block: the function takes memory requests, and no access waits there (R297). -/
def Reachable (s : State) : Prop := s.link.takes false = true ∧ s.regs.waiting = none

/-- A source has reported an event code now. -/
def Reports (code source : Nat) (t : State) : Prop := look t.log.reported (source, code) = some t.time.now

/-- A vector of a function has been sent now, or its pending bit is set (R197). -/
def Fires (pf1 : Bool) (n : Nat) (s t : State) : Prop :=
  if s.link.vectorOpen pf1 n then t.sent.head? = some (.vector pf1 n) else n ∈ (if pf1 then t.link.pf1.pba else t.link.pf0.pba)

/-- The conductor core took the request one tick later, at a time after every earlier acceptance. -/
def Taken (s t : State) : Prop := t.time = s.time.tock ∧ t.mbox.lastAccept = s.time.tock.module

/-- A command whose request waits answers OK at once with a payload, read from the state as it is once the request is taken; nothing changes
but time and the mailbox, and there only the channel of the request, the times of the latest acceptance and the idle time of CH2. -/
def Reads (c : Instr) (o : Opcode) (r : Req) (payload : State → List Byte) (s : State) : Prop :=
  Completes c s [.time, .mbox] fun t =>
    Taken s t ∧ Answered o r true .ok 0 (payload (takeUp r s)) s t ∧ t.mbox.ring = s.mbox.ring ∧ t.mbox.claims = s.mbox.claims

/-! ## Bus transfers -/

/-- A transfer of a bus has ended with a RESULT, a count of bytes and data (Table 11-11): the bus is as after a STOP of a given engine. -/
def TransferEnds (b : BusId) (f : Xfer) (result done : Nat) (st : Status) (data : List Byte) (x : Bus) (s t : State) : Prop :=
  t.bus = { s.bus.set b x.atStop with xferEnd := s.time.now } ∧
  Concludes f.req st 0 (leBytes 1 result ++ leBytes 1 0 ++ leBytes 2 done ++ zeros 4 ++ data) s t

/-! ## Posts -/

/-- The settings that a ledger-making command posts, with its opcode and request (R140, R278). -/
def postOf (i : Instr) : Option (Opcode × Req × List Setting) := match i with
  | .ledgerPost r _ items => some (.ledgerPost, r, items.map (·.value))
  | .windowSet r x0 w h => some (.windowSet, r, [.window x0 w h])
  | .exposureProgramSet r p => some (.exposureProgramSet, r, [.program p])
  | .triggerSet r t => some (.triggerSet, r, [.trigger t])
  | .binningSet r v => some (.binningSet, r, [.binning v])
  | .rotationSet r v => some (.rotationSet, r, [.rotK v])
  | .syncSourceSet r v => some (.syncSourceSet, r, [.sync v])
  | .tapConfig r g => some (.tapConfig, r, [.ring g])
  | .streamConfig r g => some (.streamConfig, r, [.ring g])
  | _ => none

/-- Whether LENGTH and the other fields of such a command suit its payload (Tables 11-9 and 11-10). -/
def postFits (i : Instr) : Bool := match i with
  | .ledgerPost r n items => decide (r.len = 4 + itemsLen items) && items.all (fun x => lenFits x.value x.len.toNat)
      && decide (1 ≤ n.toNat ∧ n.toNat ≤ 64) && decide (items.length = n.toNat) && itemsDistinct items
  | .windowSet r .. | .syncSourceSet r _ => decide (r.len = 8)
  | .exposureProgramSet r p => decide (r.len = 8 + 8 * p.entries.length ∧ 16 ≤ r.len ∧ r.len ≤ 72)
  | .triggerSet r _ => decide (r.len = 16)
  | .binningSet r _ | .rotationSet r _ => decide (r.len = 4)
  | .tapConfig r g => decide (r.len = 44 ∧ g.ring.toNat ≤ 2)
  | .streamConfig r g => decide (r.len = 44 ∧ 0x10 ≤ g.ring.toNat)
  | _ => false

/-! ## Sound states -/

/-- The bits of one word are bits of another. -/
def bitsIn (a b : U32) : Prop := a &&& b = a

/-- A fuse operation that waits is one that the array can take: its word exists, and its zone is not finalised. -/
def FuseJob.fits (j : FuseJob) (f : FuseUnit) : Prop := match j.work with
  | .word z w _ => z < 8 ∧ w < 128 ∧ f.finalised.getD z false = false
  | .digest z _ _ => z < 8 ∧ z ≠ 4 ∧ f.finalised.getD z false = false

/-- A fuse bit never goes back to 0, and a word of a finalised zone never changes (R372, R379, R380). -/
def FuseUnit.keeps (f g : FuseUnit) : Prop :=
  (∀ z w, bitsIn (f.high z w) (g.high z w)) ∧
  (∀ z, z ≠ 4 → f.finalised.getD z false = true → g.finalised.getD z false = true ∧ ∀ w, g.high z w = f.high z w)

/-- A state that the module can be in: four profiles of which the first is the factory profile (R151), eight zones of 128 words (R372), and a
fuse operation that waits only while the array is busy, and only on a word that it can take. -/
structure State.Sound (s : State) : Prop where
  profiles : s.profiles.length = 4
  factory : (s.profiles[0]?).map (fun p => (p.first.body, p.second.body)) = some (Factory.profile, Factory.profile)
  zones : s.fuse.finalised.length = 8
  places : ∀ e ∈ s.fuse.words, e.1.1 < 8 ∧ e.1.2 < 128
  busy : s.fuse.busy = s.fuse.waiting.isSome
  waiting : ∀ j, s.fuse.waiting = some j → j.fits s.fuse

end Sys2Proof.Machine
end

