-- ==== Sys2Proof/Certificates/Slice0/Obligations.lean ====
section
/-! DEFINITION. The statements for the provers, family by family. -/

open Sys2Proof Sys2Proof.Machine

/-- GET_IDENTITY, GET_STATUS, MODE_QUERY, TANDEM_STATUS, CAL_STATUS, HOLDOVER_STATUS, DUMP_INFO (Tables 11-8 to 11-11): a query with an empty
payload is accepted in every mode and answers at once; nothing else changes. A request goes on waiting while another has the turn (R275). -/
def Obligations.BareQueriesAnswer : Prop :=
  ∀ (r : Req) (s : State), r.len = 0 →
    (Waiting .getIdentity r s → Reads (.getIdentity r) .getIdentity r State.identity s) ∧
    (Waiting .getStatus r s → Reads (.getStatus r) .getStatus r State.status s) ∧
    (Waiting .modeQuery r s → Reads (.modeQuery r) .modeQuery r modeQueryBytes s) ∧
    (Waiting .tandemStatus r s → Reads (.tandemStatus r) .tandemStatus r tandemStatusBytes s) ∧
    (Waiting .calStatus r s → Reads (.calStatus r) .calStatus r (fun t => t.cal.statusBytes) s) ∧
    (Waiting .holdoverStatus r s → Reads (.holdoverStatus r) .holdoverStatus r holdStatusBytes s) ∧
    (Waiting .dumpInfo r s → Reads (.dumpInfo r) .dumpInfo r dumpInfoBytes s) ∧
    ((s.mbox.get r.chan).waits .getIdentity r.tag = true → s.mbox.takes .getIdentity r = false → exec (.getIdentity r) s = .next s)

/-- PROFILE_READ, LEDGER_QUERY, FUSE_READ, LOG_READ (R140, R278, R381, R483): the queries with fields. -/
def Obligations.FieldQueriesAnswer : Prop :=
  ∀ (r : Req) (s : State),
    (∀ profile : Byte, profile.toNat ≤ 3 → r.len = 4 → Waiting .profileRead r s →
      Reads (.profileRead r profile) .profileRead r (profileBytes profile.toNat) s) ∧
    (∀ seq : U32, r.len = 4 → Waiting .ledgerQuery r s →
      Reads (.ledgerQuery r seq) .ledgerQuery r
        (fun t => leBytes 2 (t.ledger.named seq.toNat).length ++ zeros 2 ++ (t.ledger.named seq.toNat).flatMap LedgerEntry.query) s) ∧
    (∀ (zone : Byte) (word count : U16), zone.toNat ≤ 7 → 1 ≤ count.toNat → word.toNat + count.toNat ≤ 128 → r.len = 8 →
      Waiting .fuseRead r s →
      Reads (.fuseRead r zone word count) .fuseRead r (fuseReadBytes zone.toNat word.toNat count.toNat) s) ∧
    (∀ (first : U32) (count : U16) (range : Byte), 1 ≤ count.toNat → count.toNat ≤ 127 → r.len = 8 → Waiting .logRead r s →
      Reads (.logRead r first count range) .logRead r (logReadBytes first.toNat count.toNat range.toNat) s)

/-- R269: HELLO gives its channel the version 3.0 for an offer of major 3 or higher, and 2.min(m, 2) for an offer of major 2 and minor m; a lower
offer receives BAD_VERSION. BYE returns the channel to the state before HELLO. HELLO is looked at on a channel without a version, or whose only request in flight it is. -/
def Obligations.HelloAndByeSetVersion : Prop :=
  ∀ (r : Req) (major minor : Byte) (s : State),
    (Waiting .hello r s → r.len = 4 → 1 < (s.mbox.get r.chan).inflight → Completes (.hello r major minor) s [.time, .mbox] fun t =>
      (t.mbox.get r.chan).ver = (s.mbox.get r.chan).ver ∧ Answered .hello r true .busy 0 [] s t) ∧
    (Waiting .hello r s → r.len = 4 → (s.mbox.get r.chan).inflight ≤ 1 →
      (3 ≤ major.toNat → Completes (.hello r major minor) s [.time, .mbox] fun t => (t.mbox.get r.chan).ver = some (3, 0)) ∧
      (major.toNat = 2 → Completes (.hello r major minor) s [.time, .mbox] fun t =>
        (t.mbox.get r.chan).ver = some (2, min minor.toNat 2)) ∧
      (major.toNat < 2 → Completes (.hello r major minor) s [.time, .mbox] fun t =>
        (t.mbox.get r.chan).ver = (s.mbox.get r.chan).ver ∧ Answered .hello r true .badVersion 0 [] s t)) ∧
    (Waiting .bye r s → r.len = 0 → Completes (.bye r) s [.time, .mbox] fun t =>
      (t.mbox.get r.chan).ver = none ∧ (r.chan = .ch2 → t.mbox.auth.role = 0) ∧ Answered .bye r true .ok 0 [] s t)

/-- R280: a right AUTH_RESPONSE gives CH2 the role of its challenge, a wrong one receives DENIED, and either uses the challenge up; the third
failure in a row locks the challenges for 60 s. AUTH_CHALLENGE stores a challenge for 60 s. CH2 loses its role after 600 s without a request. A
command whose role has gone when the conductor core takes it receives DENIED (R279). -/
def Obligations.AuthenticationFollowsChallenge : Prop :=
  ∀ (r : Req) (role : Byte) (slot : U16) (sig : List Byte) (s : State),
    (Waiting .authChallenge r s → r.len = 4 → 1 ≤ role.toNat → role.toNat ≤ 4 → s.mbox.auth.lockedUntil ≤ s.time.tock.now →
      Completes (.authChallenge r role) s [.time, .mbox, .free] fun t =>
        t.mbox.auth.challenge = some ⟨Config.freeNonce s.free, role.toNat, s.time.tock.now + 60000 * Config.ms⟩) ∧
    (Waiting .authResponse r s → r.len = 104 → sig.length = 96 → 1 ≤ role.toNat → role.toNat ≤ 4 →
      Completes (.authResponse r role slot sig) s (.time :: reporting) fun t =>
        t.mbox.auth.challenge = none ∧
        (authGood role.toNat slot.toNat sig (takeUp r s) = true →
          t.mbox.auth.role = role.toNat ∧ t.mbox.auth.fails = 0 ∧ t.mbox.auth.lockedUntil = s.mbox.auth.lockedUntil) ∧
        (authGood role.toNat slot.toNat sig (takeUp r s) = false →
          t.mbox.auth.role = s.mbox.auth.role ∧ Answered .authResponse r true .denied 0 [] s t ∧
          (t.mbox.auth.lockedUntil = if s.mbox.auth.fails < 2 then s.mbox.auth.lockedUntil else s.time.tock.now + 60000 * Config.ms))) ∧
    (∀ sur, s.mbox.takes .calRollback r = true → (∀ f ∈ (s.mbox.get r.chan).flights, f.held = none) → lacksAuth .calRollback s = true →
      s.trust.romOnly = false → Completes (.calRollback r sur) s (.time :: reporting) fun t =>
        Responds (reqOf .calRollback r s) .denied 0 [] s t ∧ Reports 0x0807 (srcHost + chanNum r.chan) t) ∧
    (s.mbox.auth.role ≠ 0 → Completes .authIdleTimeout s [.time, .mbox] fun t =>
      t.mbox.auth.role = 0 ∧ t.time.now = max s.time.now (s.mbox.auth.lastRequest + 600000 * Config.ms))

/-- R263, R264: a doorbell that stays in its range moves its count; one outside it halts the channel with its reason. Clearing ENABLE discards
the channel. -/
def Obligations.DoorbellsMoveOrHalt : Prop :=
  ∀ (ch : Chan) (v : U32) (s : State), s.link.takes (chanPf1 ch) = true → (s.mbox.get ch).enable = true → (s.mbox.get ch).halt = 0 →
    (((s.mbox.get ch).sqTail - (s.mbox.get ch).sqHead).toNat ≤ (v - (s.mbox.get ch).sqHead).toNat →
      (v - (s.mbox.get ch).sqHead).toNat ≤ (s.mbox.get ch).entries.toNat →
      Completes (.sqTail ch v) s [.mbox] fun t => t.mbox = s.mbox.set ch { s.mbox.get ch with sqTail := v }) ∧
    ((s.mbox.get ch).entries.toNat < (v - (s.mbox.get ch).sqHead).toNat →
      Completes (.sqTail ch v) s [.mbox] fun t => t.mbox = s.mbox.set ch { s.mbox.get ch with halt := 3 }) ∧
    (((s.mbox.get ch).cqTail - (s.mbox.get ch).cqHead).toNat < (v - (s.mbox.get ch).cqHead).toNat →
      Completes (.cqHead ch v) s [.mbox] fun t => t.mbox = s.mbox.set ch { s.mbox.get ch with halt := 4 }) ∧
    ((v - (s.mbox.get ch).cqHead).toNat ≤ ((s.mbox.get ch).cqTail - (s.mbox.get ch).cqHead).toNat →
      Completes (.cqHead ch v) s [.mbox] fun t => (t.mbox.get ch).cqHead = v ∧ (t.mbox.get ch).cqTail = (s.mbox.get ch).cqTail ∧
        (t.mbox.get ch).halt = 0 ∧ ∀ c, c ≠ ch → t.mbox.get c = s.mbox.get c) ∧
    Completes (.mboxCtrlEnable ch false) s [.mbox] fun t =>
      (t.mbox.get ch).enable = false ∧ (t.mbox.get ch).ver = none ∧ (t.mbox.get ch).flights = [] ∧ (t.mbox.get ch).outgoing = [] ∧
      (t.mbox.get ch).sqTail = 0 ∧ (t.mbox.get ch).sqHead = 0 ∧ (t.mbox.get ch).cqTail = 0 ∧ (t.mbox.get ch).cqHead = 0 ∧
      ∀ c, c ≠ ch → t.mbox.get c = s.mbox.get c

/-- R263, R264, R268: the first of checks 1 to 8 that fails gives its status; the module fetches the request, answers it once with FINAL,
and for checks 1 to 7 logs the check and counts the reject. A request that passes is in flight and waits. A fetch that times out twice
is tried again, and the third time the channel halts. -/
def Obligations.FetchingChecksEachRequest : Prop :=
  ∀ (ch : Chan) (m : Message) (s : State), canFetch ch s = true →
    (4096 < m.length.toNat → messageChecks ch m s = some (1, .badLength)) ∧
    (∀ k st, messageChecks ch m s = some (k, st) → Completes (.requestFetch ch m) s reporting fun t =>
      (t.mbox.get ch).sqHead = (s.mbox.get ch).sqHead + 1 ∧
      (let p : Response := ⟨(s.mbox.get ch).version, m.tag, m.opcode.toNat, true, st, 0, [], true⟩
       ((s.mbox.get ch).flights.any Flight.blocks = false → (t.mbox.get ch).outgoing = (s.mbox.get ch).outgoing ++ [p]) ∧
       ((s.mbox.get ch).flights.any Flight.blocks = true → (t.mbox.get ch).outgoing = (s.mbox.get ch).outgoing ∧
         (t.mbox.get ch).flights = (s.mbox.get ch).flights ++ [⟨m.tag, none, m.target, false, some p⟩])) ∧
      (k ≤ 7 → (t.mbox.get ch).rejectCnt = bump32 (s.mbox.get ch).rejectCnt 1 ∧ Reports (0x0800 + k) (srcHost + chanNum ch) t) ∧
      (7 < k → (t.mbox.get ch).rejectCnt = (s.mbox.get ch).rejectCnt) ∧ ∀ c, c ≠ ch → t.mbox.get c = s.mbox.get c) ∧
    (messageChecks ch m s = none → ∃ o, Opcode.ofCode m.opcode.toNat = some o ∧ Completes (.requestFetch ch m) s [.mbox, .sent] fun t =>
      t.sent = .read (chanPf1 ch) ((s.mbox.get ch).sqBase.toNat + 8192 * ((s.mbox.get ch).sqHead.toNat % (s.mbox.get ch).entries.toNat))
        (32 + m.length.toNat) :: s.sent ∧
      t.mbox = s.mbox.set ch { s.mbox.get ch with
        sqHead := (s.mbox.get ch).sqHead + 1, fetchTries := 0,
        flights := (s.mbox.get ch).flights ++ [⟨m.tag, some o, m.target, true, none⟩] }) ∧
    Completes (.fetchTimeout ch) s reporting (fun t => Reports 0x0505 srcHost t ∧ (t.link.aer (chanPf1 ch)).status.testBit 14 = true ∧
      ((s.mbox.get ch).fetchTries < 2 →
        (t.mbox.get ch).fetchTries = (s.mbox.get ch).fetchTries + 1 ∧ (t.mbox.get ch).halt = 0) ∧
      (2 ≤ (s.mbox.get ch).fetchTries → (t.mbox.get ch).halt = 2 ∧ Reports 0x0808 (srcHost + chanNum ch) t))

/-- R265, R266, R274: a response that has a place in the completion queue is written to it, and CQ_TAIL after it, on a halted channel too; then
the channel's vector fires. The module keeps a copy, and a final response takes its request out of flight. -/
def Obligations.ResponsesReachTheQueue : Prop :=
  ∀ (ch : Chan) (p : Response) (rest : List Response) (s : State),
    (s.mbox.get ch).enable = true → (s.mbox.get ch).rewrite = 0 → s.link.mayWrite (chanPf1 ch) = true →
    (∀ f ∈ (s.mbox.get ch).flights, f.held = none) → (s.mbox.get ch).outgoing = p :: rest →
    ((s.mbox.get ch).cqTail - (s.mbox.get ch).cqHead).toNat < (s.mbox.get ch).entries.toNat →
    Completes (.responseWrite ch) s [.mbox, .sent, .link] fun t =>
      (t.mbox.get ch).outgoing = rest ∧ (t.mbox.get ch).cqTail = (s.mbox.get ch).cqTail + 1 ∧
      (t.mbox.get ch).copies = (s.mbox.get ch).copies ++ [p] ∧ (t.mbox.get ch).owed = (s.mbox.get ch).owed - 1 ∧
      (t.mbox.get ch).flights = (if p.final then (s.mbox.get ch).flights.eraseP (fun f => decide (f.tag = p.tag) && decide (f.op.isNone = p.refused))
        else (s.mbox.get ch).flights) ∧
      (∀ c, c ≠ ch → t.mbox.get c = s.mbox.get c) ∧
      Fires (chanPf1 ch) (chanVector ch) s t ∧
      ∃ v, t.sent = v ++ .cqTail ch ((s.mbox.get ch).cqTail + 1).toNat ::
        .response ch ((s.mbox.get ch).cqBase.toNat + 8192 * ((s.mbox.get ch).cqTail.toNat % (s.mbox.get ch).entries.toNat)) p.bytes :: s.sent

/-- R281: CONSUMED within CONSUMED to PRODUCED is stored, and outside it is ignored and logged; CTRL enables the ring; a loss notice and a
repeat-count update each write one entry, the update at most once per 10 ms of a source. -/
def Obligations.EventRingKeepsItsCounts : Prop :=
  ∀ (on : Bool) (v : U32) (source : U16) (s : State),
    (s.link.takes false = true →
      (Completes (.eventRingCtrlEnable on) s [.mbox] fun t => t.mbox = { s.mbox with ring := { s.mbox.ring with enable := on } }) ∧
      ((v - s.mbox.ring.consumed).toNat ≤ (s.mbox.ring.produced - s.mbox.ring.consumed).toNat →
        Completes (.consumed v) s [.mbox] fun t => t.mbox = { s.mbox with ring := { s.mbox.ring with consumed := v } }) ∧
      ((s.mbox.ring.produced - s.mbox.ring.consumed).toNat < (v - s.mbox.ring.consumed).toNat →
        Completes (.consumed v) s reporting fun t => t.mbox.ring.consumed = s.mbox.ring.consumed ∧ Reports 0x0809 srcHost t)) ∧
    (s.mbox.ring.enable = true → s.mbox.ring.noticeDue = true → s.mbox.ring.held < s.mbox.ring.entries.toNat →
      Completes .lossNotice s [.mbox, .sent, .link] fun t =>
        t.mbox.ring.noticeDue = false ∧ t.mbox.ring.produced = s.mbox.ring.produced + 1 ∧
        Out.eventEntry (s.mbox.ring.base.toNat + 64 * (s.mbox.ring.produced.toNat % s.mbox.ring.entries.toNat))
          (ringEntryBytes s.mbox.ring.produced.toNat 3 s.time.module s.mbox.ring.lost []) ∈ t.sent) ∧
    (∀ e, s.log.latestOf source.toNat = some e → e.seq ∈ s.mbox.ring.stale → s.mbox.ring.takes e.report.code = true →
      s.mbox.ring.noticeDue = true → s.mbox.ring.held + 1 < s.mbox.ring.entries.toNat →
      Completes (.repeatCountUpdate source) s [.time, .mbox, .sent, .link] fun t =>
        t.mbox.ring.noticeDue = false ∧ t.mbox.ring.produced = s.mbox.ring.produced + 2 ∧ e.seq ∉ t.mbox.ring.stale ∧
        Out.eventEntry (s.mbox.ring.base.toNat + 64 * (s.mbox.ring.produced.toNat % s.mbox.ring.entries.toNat))
          (ringEntryBytes s.mbox.ring.produced.toNat 3 s.time.module s.mbox.ring.lost []) ∈ t.sent ∧
        Out.eventEntry (s.mbox.ring.base.toNat + 64 * ((s.mbox.ring.produced + 1).toNat % s.mbox.ring.entries.toNat))
          (ringEntryBytes (s.mbox.ring.produced + 1).toNat 2 t.time.module s.frame.lastFrame e.bytes) ∈ t.sent) ∧
    (∀ e, s.log.latestOf source.toNat = some e → e.seq ∈ s.mbox.ring.stale → s.mbox.ring.takes e.report.code = true →
      s.mbox.ring.noticeDue = false → s.mbox.ring.held < s.mbox.ring.entries.toNat →
      Completes (.repeatCountUpdate source) s [.time, .mbox, .sent, .link] fun t =>
        t.mbox.ring.produced = s.mbox.ring.produced + 1 ∧ e.seq ∉ t.mbox.ring.stale ∧
        (∀ q, look s.mbox.ring.updates source.toNat = some q → q + 10 * Config.ms ≤ t.time.now) ∧
        look t.mbox.ring.updates source.toNat = some t.time.now ∧
        Out.eventEntry (s.mbox.ring.base.toNat + 64 * (s.mbox.ring.produced.toNat % s.mbox.ring.entries.toNat))
          (ringEntryBytes s.mbox.ring.produced.toNat 2 t.time.module s.frame.lastFrame e.bytes) ∈ t.sent)

/-- R450: the intake of a report, case by case: into the pending slot of its source; merged with the same code that waits there; merged with
the latest entry of the source; or dropped and counted. A fatal report has a slot of its own, and is never merged. A reserved code is
never logged (R468), and PD-AO holds the reports while PD71 is off (R453). -/
def Obligations.IntakeFollowsTheFourCases : Prop :=
  ∀ (code source : U16) (data : U32) (s : State),
    let r : Report := ⟨code.toNat, source.toNat, s.time.module, s.frame.lastFrame, data.toNat, 0⟩
    (severity code.toNat = none → exec (.eventReport code source data) s = .next s) ∧
    (∀ v, severity code.toNat = some v →
      (s.logOn = false → Completes (.eventReport code source data) s [.log] fun t =>
        t.log.entries = s.log.entries ∧ t.log.slots = s.log.slots ∧
        (s.log.buffer = [] → t.log.buffer = [r])) ∧
      (s.logOn = true → Completes (.eventReport code source data) s [.log, .mbox] fun t =>
        Reports code.toNat source.toNat t ∧
        (v = 3 → t.log.entries = s.log.entries ∧ t.log.slots = s.log.slots ∧
          (look s.log.fatalSlots source.toNat = none → t.log.fatalSlots = s.log.fatalSlots ++ [(source.toNat, r)] ∧ t.log.lost = s.log.lost) ∧
          ((look s.log.fatalSlots source.toNat).isSome → t.log.fatalSlots = s.log.fatalSlots ∧ t.log.lost = bump32 s.log.lost 1)) ∧
        (v < 3 → t.log.fatalSlots = s.log.fatalSlots ∧
          (∀ p, look s.log.slots source.toNat = some p → p.code = code.toNat →
            t.log.entries = s.log.entries ∧ t.log.lost = s.log.lost ∧
            t.log.slots = s.log.slots.map fun q => if q.1 = source.toNat then (q.1, { q.2 with rep := min 0xFFFF (q.2.rep + 1) }) else q) ∧
          (∀ q, (∀ p, look s.log.slots source.toNat = some p → p.code ≠ code.toNat) → s.log.mergeable r s.time.now = some q →
            t.log.entries = mergeInto q s.log.entries ∧ t.log.slots = s.log.slots ∧ t.log.lost = s.log.lost ∧ q ∈ t.mbox.ring.stale) ∧
          (look s.log.slots source.toNat = none → s.log.mergeable r s.time.now = none →
            t.log.slots = s.log.slots ++ [(source.toNat, r)] ∧ t.log.entries = s.log.entries ∧ t.log.lost = s.log.lost) ∧
          (∀ p, look s.log.slots source.toNat = some p → p.code ≠ code.toNat → s.log.mergeable r s.time.now = none →
            t.log.slots = s.log.slots ∧ t.log.entries = s.log.entries ∧ t.log.lost = bump32 s.log.lost 1 ∧
            look t.log.ovf (source.toNat / 256) = some (bump16 ((look s.log.ovf (source.toNat / 256)).getD 0) 1)))))

/-- R451, R452, R453: the writer serves fatal reports first, and otherwise the sources in turn, and each service writes one entry with the next
sequence number; LOG_CLEAR_COUNTERS reports the counts of lost reports and clears them; the log that returns with PD71 is the first
saved copy that passes, or empty. -/
def Obligations.WriterCountersAndRestore : Prop :=
  ∀ (r : Req) (first second : Bool) (s : State),
    (s.logOn = true → ∀ src p, s.log.entries.length < 4096 →
      (nextSource s.log.lastServed s.log.fatalSlots = some (src, p) → severity p.code = some 3 → s.log.fatalHeld < 64 →
        Completes .logWriter s reporting fun t =>
          t.log.entries = s.log.entries ++ [⟨p, s.log.head, 3, false, false, false⟩] ∧ t.log.head = (s.log.head + 1) % 2 ^ 32 ∧
          t.log.fatalSlots = del s.log.fatalSlots src ∧ t.log.slots = s.log.slots) ∧
      (∀ v, s.log.fatalSlots = [] → nextSource s.log.lastServed s.log.slots = some (src, p) → severity p.code = some v → v < 3 →
        Completes .logWriter s reporting fun t =>
          t.log.entries = s.log.entries ++ [⟨p, s.log.head, v, false, false, false⟩] ∧ t.log.head = (s.log.head + 1) % 2 ^ 32 ∧
          t.log.slots = del s.log.slots src ∧ t.log.lastServed = src ∧ t.log.fatalSlots = [])) ∧
    (Waiting .logClearCounters r s → r.len = 0 → Completes (.logClearCounters r) s [.time, .mbox, .log] fun t =>
      t.log = { s.log with lost := 0, ovf := [] } ∧
      Answered .logClearCounters r true .ok 0 (leBytes 4 s.log.lost ++ leBytes 4 s.log.ovfTotal) s t) ∧
    (s.pdOn 71 = true → s.log.restoreDue = true → Completes (.logRestore first second) s reporting fun t =>
      t.log.restoreDue = false ∧ t.log.buffer = [] ∧
      (s.log.buffer = [] → ∀ c, (if first then s.log.save1 else if second then s.log.save2 else none) = some c →
        t.log.entries = c.entries.map (fun e => { e with restored := true }) ∧ t.log.head = c.head ∧ t.log.ovf = c.ovf) ∧
      (s.log.buffer = [] → first = false → second = false → s.log.saved = false → t.log.entries = [] ∧ t.log.head = 0))

/-- R143: in DORMANT, READY and SERVICE a ledger-making command changes the settings in force at once, where the rules on its settings allow
it; the response names the frame after the last one assigned, with flag [1]. Each setting changes what it names. -/
def Obligations.PostsChangeSettingsAtOnce : Prop :=
  (∀ (i : Instr) (o : Opcode) (r : Req) (l : List Setting) (s : State), postOf i = some (o, r, l) → postFits i = true →
    settingsOk r l s = true → Waiting o r s → s.dump.fatal = none → s.ledgerRuns = false → s.following = false →
    entryCheck l (applySensor l s.settings.sensor) (applySensor l s.settings.sensor).tMin 0 s = none →
    Completes i s [.time, .mbox, .settings, .ledger, .frame, .tandem, .sent] fun t =>
      (s.mirrorsNow = false → t.tandem = s.tandem ∧ t.sent = s.sent) ∧ t.settings = applyAll l s.settings ∧
      t.frame = { s.frame with sens0 := t.settings.sensor, sens1 := t.settings.sensor, sens2 := t.settings.sensor,
                               rotK0 := t.settings.rotK, rotK1 := t.settings.rotK, cond := t.settings.cond, recs := t.settings.recs } ∧
      t.ledger = { s.ledger with nextSeq := s.ledger.nextSeq + 1, govSeq := s.ledger.nextSeq % 2 ^ 32, govTarget := r.target.toNat } ∧
      Answered o r true .ok (s.frame.lastFrame + 1)
        (ledgerResponse (s.ledger.nextSeq % 2 ^ 32) (classesOf l) 2 (s.frame.lastFrame + 1) s.time.tock.module) s t) ∧
  (∀ (x : Settings) (v : Byte), applyAll [.srThreshold v] x = { x with sensor := { x.sensor with srThreshold := v.toNat } }) ∧
  (∀ (x : Settings) (n d : U32), applyAll [.rate n d] x = { x with sensor := { x.sensor with rateNum := n.toNat, rateDen := d.toNat } }) ∧
  (∀ (x : Settings) (v : Byte), applyAll [.blkMode v] x = { x with cond := { x.cond with blkMode := v.toNat } }) ∧
  (∀ (x : Settings) (v : Byte), applyAll [.blkRowWin v] x = { x with cond := { x.cond with blkRowWin := v.toNat } }) ∧
  (∀ (x : Settings) (v : U16), applyAll [.blkLim v] x = { x with cond := { x.cond with blkLim := v.toNat } }) ∧
  (∀ (x : Settings) (v : U16), applyAll [.recScale v] x = { x with cond := { x.cond with recScale := v.toNat } }) ∧
  (∀ (x : Settings) (v : Byte), applyAll [.defRepl v] x = { x with cond := { x.cond with defRepl := v.toNat } }) ∧
  (∀ (x : Settings) (b : List Byte), applyAll [.hostBlock b] x = { x with recs := { x.recs with hostBlock := b } }) ∧
  (∀ (x : Settings) (x0 w h : U16), applyAll [.window x0 w h] x =
    { x with sensor := { x.sensor with window := ⟨x0.toNat, w.toNat, h.toNat⟩ } }) ∧
  (∀ (x : Settings) (v : Byte), applyAll [.binning v] x = { x with sensor := { x.sensor with bin := v.toNat } }) ∧
  (∀ (x : Settings) (v : Byte), applyAll [.rotK v] x = { x with rotK := v.toNat }) ∧
  (∀ (x : Settings) (p : RawProgram), applyAll [.program p] x = { x with sensor := { x.sensor with program := programOf p } }) ∧
  (∀ (x : Settings) (p : RawTrigger), applyAll [.trigger p] x = { x with sensor := { x.sensor with trigger := triggerOf p } }) ∧
  (∀ (x : Settings) (p : RawSync), applyAll [.sync p] x = { x with sensor := { x.sensor with sync := syncOf p } }) ∧
  (∀ (x : Settings) (g : RawRing) (n : Nat), ringIndex g.ring.toNat = some n →
    applyAll [.ring g] x = { x with recs := { x.recs with rings := x.recs.rings.set n (ringSetOf g) } })

/-- R140, R142: while frames run, a ledger-making command whose target is in time takes a free slot and applies from its target; a late one
slips to the earliest frame, with TOO_LATE, a slip counted, event 0x0852 and vector 26; a full ledger answers NO_RESOURCE. -/
def Obligations.PostsTakeLedgerSlots : Prop :=
  ∀ (i : Instr) (o : Opcode) (r : Req) (l : List Setting) (s : State), postOf i = some (o, r, l) → postFits i = true →
    settingsOk r l s = true → Waiting o r s → s.dump.fatal = none → s.ledgerRuns = true → s.following = false →
    let n := if r.target = 0 then s.earliest else max r.target.toNat s.earliest
    entryCheck l (applySensor l (s.sensorAt n)) (s.tMinBefore n) n s = none →
    let e : LedgerEntry := ⟨s.ledger.nextSeq % 2 ^ 32, r.target.toNat, n, l, Classes.none, Classes.none,
      decide (r.target ≠ 0 ∧ r.target.toNat < s.earliest), false, s.time.tock.module, chanNum r.chan, r.tag⟩
    (∀ k, s.ledger.freeSlot = some k → (r.target = 0 ∨ s.earliest ≤ r.target.toNat) →
      Completes i s [.time, .mbox, .ledger, .tandem, .sent] fun t =>
        (s.mirrorsNow = false → t.tandem = s.tandem ∧ t.sent = s.sent) ∧ t.ledger.slots = s.ledger.slots.set k (some e) ∧ t.ledger.nextSeq = s.ledger.nextSeq + 1 ∧ t.ledger.slipCnt = s.ledger.slipCnt ∧
        Answered o r true .ok n (ledgerResponse e.seq (classesOf l) 0 n s.time.tock.module) s t) ∧
    (∀ k, s.ledger.freeSlot = some k → r.target ≠ 0 → r.target.toNat < s.earliest →
      Completes i s (.time :: .ledger :: .tandem :: reporting) fun t =>
        (s.mirrorsNow = false → t.tandem = s.tandem) ∧ n = s.earliest ∧ t.ledger.slots = s.ledger.slots.set k (some e) ∧ t.ledger.slipCnt = bump32 s.ledger.slipCnt 1 ∧
        Reports 0x0852 srcConductor t ∧
        (t.mbox.get r.chan).outgoing = (s.mbox.get r.chan).outgoing ++ [⟨(s.mbox.get r.chan).version, r.tag, o.code, true, .tooLate, n,
          ledgerResponse e.seq (classesOf l) 1 n s.time.tock.module, false⟩]) ∧
    (s.ledger.freeSlot = none →
      Completes i s [.time, .mbox] fun t => Answered o r true .noResource 0 [] s t)

/-- R144: LEDGER_CANCEL takes away the classes of a waiting entry that have not latched, and answers them; with all gone the slot is free. An
entry that has left, or has nothing left to remove, answers TOO_LATE, and a number never assigned answers BAD_PARAM. A leader on a link of
version 1.0 answers DENIED (R250); on a later one it tells the follower too. -/
def Obligations.CancelRemovesUnlatchedClasses : Prop :=
  ∀ (r : Req) (seq : U32) (s : State), Waiting .ledgerCancel r s → r.len = 8 →
    (s.mirrorsNow = true → s.tandem.version = 0x10 → Completes (.ledgerCancel r seq) s [.time, .mbox] fun t =>
      Answered .ledgerCancel r true .denied 0 [] s t) ∧
    ((s.mirrorsNow = true → s.tandem.version ≠ 0x10) →
      (∀ k e, (s.ledger.waiting.find? fun p => decide (p.2.seq = seq.toNat) && !p.2.mirrored) = some (k, e) →
      (e.removable ≠ Classes.none → Completes (.ledgerCancel r seq) s (.time :: .ledger :: .frame :: .tandem :: reporting) fun t =>
        (s.mirrorsNow = false → t.tandem = s.tandem) ∧ t.ledger.cancelCnt = bump32 s.ledger.cancelCnt 1 ∧
        t.ledger.slots = s.ledger.slots.set k (if ({ e with cancelled := e.cancelled.or e.removable } : LedgerEntry).classes = Classes.none
          then none else some { e with cancelled := e.cancelled.or e.removable }) ∧
        (e.latched.sensor = true → Reports 0x0854 srcConductor t) ∧
        (t.mbox.get r.chan).outgoing = (s.mbox.get r.chan).outgoing ++ [⟨(s.mbox.get r.chan).version, r.tag, Opcode.ledgerCancel.code, true,
          .ok, 0, leBytes 1 e.removable.bits ++ zeros 7, false⟩]) ∧
      (e.removable = Classes.none → Completes (.ledgerCancel r seq) s [.time, .mbox] fun t =>
        Answered .ledgerCancel r true .tooLate 0 [] s t)) ∧
    ((s.ledger.waiting.find? fun p => decide (p.2.seq = seq.toNat) && !p.2.mirrored) = none →
      Completes (.ledgerCancel r seq) s [.time, .mbox] fun t =>
        Answered .ledgerCancel r true (if s.ledger.assigned seq.toNat then .tooLate else .badParam) 0 [] s t))

/-- R182, R462, R463: HOLDOVER_SCAN reports in READY and SERVICE; DUMP_READ returns a page of the held dump and marks it; DUMP_CLEAR in SERVICE
clears a dump that was read whole, or with FORCE any dump with event 0x0E08 before, and makes the fatal entries of the log overwritable. -/
def Obligations.ScansAndDumpsAnswer : Prop :=
  ∀ (r : Req) (part flags : Byte) (offset : U32) (s : State),
    (Waiting .holdoverScan r s → r.len = 4 → part.toNat ≤ 1 → (s.mode.mode = .ready ∨ s.mode.mode = .service) →
      Completes (.holdoverScan r part) s [.time, .mbox] fun t =>
        AcceptedThen .holdoverScan r 0 .ok 0 (if part = 0 then s.hold.scanBytes else s.hold.scanEvents) s t ∧ t.mbox.claims = []) ∧
    (Waiting .dumpRead r s → r.len = 8 → offset.toNat % 4096 = 0 →
      (s.dump.held = none → Completes (.dumpRead r offset) s [.time, .mbox] fun t => Answered .dumpRead r true .notPresent 0 [] s t) ∧
      (∀ d, s.dump.held = some d →
        (offset.toNat < d.bytes.length → Completes (.dumpRead r offset) s [.time, .mbox, .dump] fun t =>
          Answered .dumpRead r true .ok 0 ((d.bytes.drop offset.toNat).take 4096) s t ∧
          (∀ p, p ∈ t.dump.pagesRead ↔ p = offset.toNat / 4096 ∨ p ∈ s.dump.pagesRead) ∧
          { t.dump with pagesRead := s.dump.pagesRead } = s.dump) ∧
        (d.bytes.length ≤ offset.toNat → Completes (.dumpRead r offset) s [.time, .mbox] fun t =>
          Answered .dumpRead r true .badParam 0 [] s t))) ∧
    (Waiting .dumpClear r s → r.len = 4 → flags.toNat ≤ 1 → s.mode.mode = .service → s.dump.held.isSome →
      (s.dump.allRead = false → flags = 0 → Completes (.dumpClear r flags) s [.time, .mbox] fun t =>
        Answered .dumpClear r true .denied 0 [] s t) ∧
      (s.dump.allRead = true ∨ flags = 1 → Completes (.dumpClear r flags) s (.time :: .dump :: .pins :: reporting) fun t =>
        t.dump.held = none ∧ t.dump.pagesRead = [] ∧ t.dump.seq = s.dump.seq ∧ Reports 0x0E04 srcDump t ∧
        (flags = 1 → Reports 0x0E08 srcDump t) ∧
        (s.power.stageFault = false → s.fuse.failed = List.replicate 8 false → s.dump.fatal = none → t.pins.fault = false) ∧
        (t.mbox.get r.chan).outgoing = (s.mbox.get r.chan).outgoing ++
          [⟨(s.mbox.get r.chan).version, r.tag, Opcode.dumpClear.code, false, .accepted, 0, leBytes 8 s.time.tock.module ++ leBytes 8 0, false⟩,
           ⟨(s.mbox.get r.chan).version, r.tag, Opcode.dumpClear.code, true, .ok, 0, [], false⟩]))

/-- R473, R191, R278, R171, R146, R213, R344, R356, R258: the commands that set one thing, in force at once or at the moment the rule names;
nothing else changes. -/
def Obligations.SettersTakeEffect : Prop :=
  ∀ (r : Req) (s : State),
    (∀ v : U16, Waiting .thermalSet r s → r.len = 4 → Completes (.thermalSet r v) s [.time, .mbox, .thermal] fun t =>
      t.thermal = { s.thermal with applied := max 80 (min 560 v.toInt) } ∧
      Answered .thermalSet r true .ok 0 (leBytes 2 (max 80 (min 560 v.toInt)).toNat ++ zeros 2) s t) ∧
    (∀ (flags : Byte) (n : U16), Waiting .powerPolicySet r s → r.len = 4 → flags.toNat < 4 →
      Completes (.powerPolicySet r flags n) s [.time, .mbox, .power] fun t =>
        t.power = { s.power with permitL2 := flags.getLsbD 0, idleToDormant := flags.getLsbD 1, idleS := n.toNat } ∧
        Answered .powerPolicySet r true .ok 0 [] s t) ∧
    (∀ gib : U32, Waiting .reservoirInfo r s → r.len = 8 → Completes (.reservoirInfo r gib) s [.time, .mbox, .res] fun t =>
      t.res = (if gib = 0xFFFFFFFF then s.res else { s.res with aperture := gib.toNat }) ∧
      Answered .reservoirInfo r true .ok 0 (reservoirBytes t) s t) ∧
    (∀ ms : U32, Waiting .prerollSet r s → r.len = 8 → ms.toNat ≤ 30000 → (s.mode.mode = .ready ∨ s.mode.mode = .view) →
      ((ms = 0 ∨ s.armed = false) → Completes (.prerollSet r ms) s [.time, .mbox, .res] fun t =>
        t.res.prerollMs = ms.toNat ∧
        t.res.prerollApplied = (if s.res.present && s.cap 4 then min ms.toNat (prerollCap s) else 0) ∧
        Answered .prerollSet r true .ok 0 (leBytes 4 t.res.prerollApplied ++ zeros 4) s t) ∧
      (ms ≠ 0 → s.armed = true → Completes (.prerollSet r ms) s [.time, .mbox] fun t =>
        Answered .prerollSet r true .denied 0 [] s t)) ∧
    (∀ (count : U16) (l : List (U64 × U64)), Waiting .weltAllowlistSet r s → r.len = 4 + 16 * l.length → count.toNat ≤ 16 →
      l.length = count.toNat → (∀ p ∈ l, p.1.toNat % 4096 = 0 ∧ p.2.toNat % 4096 = 0) →
      s.take.a.state = .closed → s.take.b.state = .closed →
      Completes (.weltAllowlistSet r count l) s [.time, .mbox, .take] fun t =>
        t.take = { s.take with allow := l.map fun p => (p.1.toNat, p.2.toNat) } ∧ Answered .weltAllowlistSet r true .ok 0 [] s t) ∧
    (∀ (amode count : Byte) (addrs : List Byte) (base mask : Byte), Waiting .abusTargetSet r s → r.len = 12 → addrs.length = 4 →
      amode.toNat ≤ 2 → count.toNat ≤ 4 → base.toNat < 128 → mask.toNat < 128 → (∀ a ∈ addrs, a.toNat < 128) →
      (tgtReserved (tgtRegs amode.toNat count.toNat addrs base.toNat mask.toNat).1
          (tgtRegs amode.toNat count.toNat addrs base.toNat mask.toNat).2 = false →
        Completes (.abusTargetSet r amode count addrs base mask) s [.time, .mbox, .bus] fun t =>
          t.bus = { s.bus with abus0 := { s.bus.abus0 with
            tgtAddr := (tgtRegs amode.toNat count.toNat addrs base.toNat mask.toNat).1,
            tgtMode := (tgtRegs amode.toNat count.toNat addrs base.toNat mask.toNat).2 } } ∧
          Answered .abusTargetSet r true .ok 0 [] s t) ∧
      (tgtReserved (tgtRegs amode.toNat count.toNat addrs base.toNat mask.toNat).1
          (tgtRegs amode.toNat count.toNat addrs base.toNat mask.toNat).2 = true →
        Completes (.abusTargetSet r amode count addrs base mask) s [.time, .mbox] fun t =>
          Answered .abusTargetSet r true .badParam 0 [] s t)) ∧
    (∀ (count : Byte) (l : List (Byte × Byte × Byte)), Waiting .auxSequenceSet r s → r.len = 4 + 4 * count.toNat →
      l.length = count.toNat → 1 ≤ count.toNat → count.toNat ≤ 32 →
      (∀ e ∈ l, e.1.toNat ≤ 1 ∧ e.2.1.toNat ≤ 0x0E ∧ e.2.2.toNat ≤ 1) →
      Completes (.auxSequenceSet r count l) s [.time, .mbox, .aux] fun t =>
        (s.pdOn 72 = true → t.aux = { s.aux with nextList := some (l.map fun e => ⟨e.1.toNat, e.2.1.toNat, e.2.2.getLsbD 0⟩) }) ∧
        (s.pdOn 72 = false → t.aux.list = (l.map fun e => ⟨e.1.toNat, e.2.1.toNat, e.2.2.getLsbD 0⟩) ∧
          ∀ x ∈ t.aux.results, x.valid = false) ∧
        Answered .auxSequenceSet r true .ok 0 [] s t) ∧
    (∀ mode left : Byte, Waiting .compositorSet r s → r.len = 4 → mode.toNat ≤ 5 → left.toNat ≤ 1 →
      ((mode = 0 ∨ s.cap 2 = true) → Completes (.compositorSet r mode left) s [.time, .mbox, .tandem] fun t =>
        (s.hasBoundaries = true → t.tandem = { s.tandem with compChange := some (mode.toNat, left.toNat) }) ∧
        (s.hasBoundaries = false → t.tandem = { s.tandem with compMode := mode.toNat, compLeft := left.toNat, compChange := none }) ∧
        Answered .compositorSet r true .ok s.nextFrame (leBytes 8 s.nextFrame) s t) ∧
      (mode ≠ 0 → s.cap 2 = false → Completes (.compositorSet r mode left) s [.time, .mbox] fun t =>
        Answered .compositorSet r true .denied 0 [] s t))

/-- R334 to R343: ABUS_XFER is accepted and occupies its bus, and on a faulted bus ends at once with RESULT 5. A transfer ends with its data at the
STOP, with RESULT 1 or 2 after a NACK, 3 after a lost arbitration or a bus error, 4 after an SCL timeout and 5 where SDA stays low; each
counts and logs what happened, and leaves the other buses as they were. -/
def Obligations.TransfersConclude : Prop :=
  (∀ (r : Req) (bus addr flags : Byte) (w n : U16) (data : List Byte) (s : State), Waiting .abusXfer r s → r.len = 8 + w.toNat →
    data.length = w.toNat → bus.toNat ≤ 1 → addr.toNat < 128 → flags.toNat < 2 → w.toNat ≤ 4088 → n.toNat ≤ 4088 → s.pdOn 77 = true →
    ((s.bus.get (abusOf bus.toNat)).faulted = false → Completes (.abusXfer r bus addr flags w n data) s [.time, .mbox, .bus, .sent] fun t =>
      Accepted .abusXfer r 0 s t ∧ t.sent = Xfer.out ⟨reqOf .abusXfer r s, addr.toNat, decide (flags.toNat % 2 = 1), data, n.toNat⟩ (abusOf bus.toNat) :: s.sent ∧ t.mbox.claims = [(.abus bus.toNat, reqOf .abusXfer r s)] ∧
      t.bus = s.bus.set (abusOf bus.toNat) { (s.bus.get (abusOf bus.toNat)).atStart with
        xfer := some ⟨reqOf .abusXfer r s, addr.toNat, decide (flags.toNat % 2 = 1), data, n.toNat⟩, ctlBusy := true }) ∧
    ((s.bus.get (abusOf bus.toNat)).faulted = true → Completes (.abusXfer r bus addr flags w n data) s [.time, .mbox, .bus] fun t =>
      AcceptedThen .abusXfer r 0 .failed 0 (leBytes 1 5 ++ leBytes 1 0 ++ leBytes 2 0 ++ zeros 4) s t ∧
      (t.bus.get (abusOf bus.toNat)).xfer = none ∧ t.mbox.claims = [])) ∧
  (∀ (b : BusId) (x : Bus) (f : Xfer) (done : Nat) (data : List Byte) (pec : Option Byte) (s : State), s.bus.get b = x → x.xfer = some f →
    Alive f.req s → busOn b s = true → x.ctlBusy = true →
    ((f.usePec = false ∨ f.readLen = 0) → Completes (.abusXferDone b .done done data pec) s [.mbox, .bus]
      (TransferEnds b f 0 (f.writeData.length + f.readLen) .ok (padTo f.readLen data) x s)) ∧
    (f.usePec = true → 0 < f.readLen → pec ≠ some (BitVec.ofNat 8 (Sys2Proof.Machine.pec (f.pecBytes (padTo f.readLen data)))) →
      Completes (.abusXferDone b .done done data pec) s (.bus :: reporting) fun t =>
        TransferEnds b f 0 (f.writeData.length + f.readLen) .badCheck (padTo f.readLen data) { x with pecErr := bump32 x.pecErr 1 } s t ∧
        Reports 0x0B09 (srcBus b) t) ∧
    Completes (.abusXferDone b .addressNack done data pec) s [.mbox, .bus] (TransferEnds b f 1 (if 0 < done ∧ 0 < f.readLen then f.writeData.length else 0) .failed [] { x with nacks := bump32 x.nacks 1 } s) ∧
    Completes (.abusXferDone b .dataNack done data pec) s [.mbox, .bus] (TransferEnds b f 2 done .failed [] { x with nacks := bump32 x.nacks 1 } s) ∧
    (Completes (.arbitrationLost b done) s (.bus :: reporting) fun t =>
      TransferEnds b f 3 done .failed [] { x with arbLost := bump32 x.arbLost 1 } s t ∧ Reports 0x0B01 (srcBus b) t) ∧
    (Completes (.busError b done) s (.bus :: reporting) fun t =>
      TransferEnds b f 3 done .failed [] { x with busErr := bump32 x.busErr 1 } s t ∧ Reports 0x0B02 (srcBus b) t) ∧
    (Completes (.sclTimeout b false done) s (.bus :: reporting) fun t =>
      TransferEnds b f 4 done .failed [] { x with timeouts := bump32 x.timeouts 1 } s t ∧ Reports 0x0B03 (srcBus b) t) ∧
    (targetActive b s = true → Completes (.sclTimeout b true done) s (.bus :: reporting) fun t =>
      t.bus = s.bus.set b { x with aborts := bump32 x.aborts 1, tgtBusy := false } ∧ Reports 0x0B08 (srcBus b) t) ∧
    (Completes (.sdaTimeout b false) s (.bus :: reporting) fun t =>
      TransferEnds b f 5 0 .failed [] { x with faulted := true } s t ∧ Reports 0x0B04 (srcBus b) t ∧ Reports 0x0B06 (srcBus b) t)) ∧
  (∀ (b : BusId) (s : State), busOn b s = true →
    (Completes (.sdaTimeout b true) s (.bus :: reporting) fun t =>
      t.bus = s.bus.set b { s.bus.get b with clears := bump32 (s.bus.get b).clears 1 } ∧
      Reports 0x0B04 (srcBus b) t ∧ Reports 0x0B05 (srcBus b) t) ∧
    ((s.bus.get b).faulted = true → Completes (.sdaReleased b) s (.bus :: reporting) fun t =>
      t.bus = s.bus.set b { s.bus.get b with faulted := false } ∧ Reports 0x0B07 (srcBus b) t) ∧
    (Reachable s → ∀ (v : U32) (freed : Bool),
      ((s.bus.get b).ctlBusy = false → ((s.bus.get b).ctlEn = true ∨ v.getLsbD 0 = false) →
        Completes (.busCtrl b v freed) s [.bus] fun t =>
          t.bus = s.bus.set b { s.bus.get b with ctrl := v &&& ctrlMask b, disableDue := false }) ∧
      ((s.bus.get b).ctlBusy = false → (s.bus.get b).ctlEn = false → v.getLsbD 0 = true →
        Completes (.busCtrl b v true) s (.bus :: reporting) fun t =>
          t.bus = s.bus.set b { s.bus.get b with
            ctrl := v &&& ctrlMask b, disableDue := false, clears := bump32 (s.bus.get b).clears 1 } ∧ Reports 0x0B05 (srcBus b) t)))

/-- R345, R346, R348, R349: the target gives a NACK to an unknown code, returns the data of a read command with its PEC where PEC_EN is set, puts a
posted message of the accessory bus into the inbox, and refuses it when 16 wait. A write of INBOX_CONSUMED within the waiting entries is stored. -/
def Obligations.TargetsAnswerCommands : Prop :=
  ∀ (b : BusId) (addr code : Byte) (data : List Byte) (ending : WriteEnd) (v : U32) (s : State),
    (targetAnswers b addr.toNat s = true → code.toNat ∉ targetCodes b →
      (Completes (.targetReadCommand b addr code) s (.bus :: reporting) fun t =>
        t.bus.get b = { (s.bus.get b).atStart with aborts := bump32 (s.bus.get b).aborts 1 } ∧
        t.sent.head? = some (.busAnswer (busNum b) none) ∧ Reports 0x0B0E (srcBus b) t) ∧
      (Completes (.targetWriteCommand b addr code data ending) s (.bus :: reporting) fun t =>
        t.bus.get b = { (s.bus.get b).atStart with aborts := bump32 (s.bus.get b).aborts 1 } ∧
        t.sent.head? = some (.busAnswer (busNum b) none) ∧ Reports 0x0B0E (srcBus b) t)) ∧
    (targetAnswers b addr.toNat s = true → code.toNat ∈ targetCodes b → ∀ d, targetData b code.toNat s = some d →
      Completes (.targetReadCommand b addr code) s [.bus, .sent] fun t =>
        t.bus.get b = (s.bus.get b).atStart ∧ (b = .hbus → t.bus.hbusHeard = s.time.now) ∧
        t.sent = .busAnswer (busNum b) (some (if (s.bus.get b).pecEn then
          d ++ leBytes 1 (pec (BitVec.ofNat 8 (2 * addr.toNat) :: code :: BitVec.ofNat 8 (2 * addr.toNat + 1) :: d)) else d)) :: s.sent) ∧
    (targetAnswers .abus0 addr.toNat s = true → ∀ (count : Byte) (body : List Byte) (p : Option Byte),
      (16 ≤ (s.bus.abus0.inProduced - s.bus.abus0.inConsumed).toNat →
        Completes (.targetWriteCommand .abus0 addr 0x40 (count :: body) ending) s (.bus :: reporting) fun t =>
          t.bus = { s.bus with abus0 := { s.bus.abus0.atStart with inLost := bump32 s.bus.abus0.inLost 1 } } ∧
          t.sent.head? = some (.busAnswer 0 none) ∧ Reports 0x0B0A (srcBus .abus0) t) ∧
      ((s.bus.abus0.inProduced - s.bus.abus0.inConsumed).toNat < 16 → 1 ≤ count.toNat → count.toNat ≤ 32 → body.length = count.toNat →
        (s.bus.abus0.pecEn = true → p = some (BitVec.ofNat 8 (pec (BitVec.ofNat 8 (2 * addr.toNat) :: 0x40 :: count :: body)))) →
        Completes (.targetWriteCommand .abus0 addr 0x40 (count :: body) (.whole p)) s [.bus, .sent, .link] fun t =>
          t.bus = { s.bus with abus0 := { s.bus.abus0.atStart with
            inbox := put s.bus.abus0.inbox (s.bus.abus0.inProduced.toNat % 16) ⟨addr.toNat, s.time.module, body⟩,
            inProduced := s.bus.abus0.inProduced + 1 } } ∧
          (s.bus.abus0.ctrl.getLsbD 9 = true → Fires false 22 s t)) ∧
      ((s.bus.abus0.inProduced - s.bus.abus0.inConsumed).toNat < 16 → 1 ≤ count.toNat → count.toNat ≤ 32 → body.length = count.toNat →
        s.bus.abus0.pecEn = true → p ≠ none → p ≠ some (BitVec.ofNat 8 (pec (BitVec.ofNat 8 (2 * addr.toNat) :: 0x40 :: count :: body))) →
        Completes (.targetWriteCommand .abus0 addr 0x40 (count :: body) (.whole p)) s (.bus :: reporting) fun t =>
          t.bus = { s.bus with abus0 := { s.bus.abus0.atStart with
            pecErr := bump32 s.bus.abus0.pecErr 1, aborts := bump32 s.bus.abus0.aborts 1, tgtBusy := false } } ∧
          t.sent.head? = some (.busAnswer 0 none) ∧ Reports 0x0B09 (srcBus .abus0) t ∧ Reports 0x0B08 (srcBus .abus0) t)) ∧
    (Reachable s → busOn .abus0 s = true →
      ((v - s.bus.abus0.inConsumed).toNat ≤ (s.bus.abus0.inProduced - s.bus.abus0.inConsumed).toNat →
        Completes (.inboxConsumed .abus0 v) s [.bus] fun t => t.bus = { s.bus with abus0 := { s.bus.abus0 with inConsumed := v } }) ∧
      ((s.bus.abus0.inProduced - s.bus.abus0.inConsumed).toNat < (v - s.bus.abus0.inConsumed).toNat →
        Completes (.inboxConsumed .abus0 v) s reporting fun t => Reports 0x0B0F (srcBus .abus0) t))

/-- R338, R339, R350, R351: HBUS sleeps 100 ms after it was last addressed in DORMANT and wakes at its own address with a NACK; a due Host Notify is
sent, at most one in 10 ms, and given up after the third failure; a lens poll takes in the answer; PD77 goes off again in DORMANT. -/
def Obligations.BusesServeTheModule : Prop :=
  ∀ (addr : Byte) (bytes : List Byte) (s : State),
    (s.mode.mode = .dormant → Completes .hbusIdleTimeout s [.time, .bus] fun t =>
      t.bus = { s.bus with hbus := { s.bus.hbus with engineIdle := true } } ∧ s.bus.hbusHeard + 100 * Config.ms ≤ t.time.now) ∧
    (s.bus.hbus.engineIdle = true → s.power.aoOn = true → s.bus.hbus.tgtEn = true →
      tgtMatch s.bus.hbus.tgtAddr s.bus.hbus.tgtMode addr.toNat = true →
      ∀ c ∈ ([.hbusWake addr, .targetReadCommand .hbus addr 1, .targetWriteCommand .hbus addr 0x40 [] .broken] : List Instr),
      Completes c s [.bus, .sent] fun t =>
        t.bus = { s.bus with
          hbus := { s.bus.hbus with engineIdle := false, sleepNacks := bump32 s.bus.hbus.sleepNacks 1 }, hbusHeard := s.time.now } ∧
        t.sent = .busAnswer 2 none :: s.sent) ∧
    (s.noticeDue = true →
      (Completes (.hostNotify .done) s [.time, .bus, .sent] fun t =>
        t.sent = .hostNotify s.noticeAddress s.noticeWord :: s.sent ∧ t.bus.lastNotice = some t.time.now ∧
        (∀ q, s.bus.lastNotice = some q → q + 10 * Config.ms ≤ t.time.now) ∧
        t.bus.hbus.notifyCnt = bump32 s.bus.hbus.notifyCnt 1 ∧ t.bus.noticeMode = modeCode s.mode.mode ∧ t.bus.noticeTries = 0) ∧
      (s.bus.noticeTries < 2 → Completes (.hostNotify .nack) s [.time, .bus, .sent] fun t =>
        t.sent = .hostNotify s.noticeAddress s.noticeWord :: s.sent ∧ t.bus.noticeTries = s.bus.noticeTries + 1 ∧
        t.bus.noticeMode = s.bus.noticeMode ∧ t.bus.hbus.nacks = bump32 s.bus.hbus.nacks 1) ∧
      (s.bus.noticeTries < 2 → Completes (.hostNotify .arbitrationLost) s (.time :: .bus :: reporting) fun t =>
        t.bus.noticeTries = s.bus.noticeTries + 1 ∧ t.bus.noticeMode = s.bus.noticeMode ∧
        t.bus.hbus.arbLost = bump32 s.bus.hbus.arbLost 1 ∧ Reports 0x0B01 (srcBus .hbus) t) ∧
      (2 ≤ s.bus.noticeTries → ∀ e, e ≠ .done → Completes (.hostNotify e) s (.time :: .bus :: reporting) fun t =>
        t.bus.hbus.notifyFail = bump32 s.bus.hbus.notifyFail 1 ∧ t.bus.noticeTries = 0 ∧ t.bus.noticeMode = modeCode s.mode.mode ∧
        Reports 0x0B0C (srcBus .hbus) t ∧ (s.bus.hbus.ctrl.getLsbD 10 = true → Fires false 24 s t))) ∧
    (s.bus.abus0.lensCtrl.getLsbD 0 = true → s.mode.mode ≠ .dormant → s.pdOn 77 = true → s.bus.abus0.faulted = false → s.bus.abus0.xfer = none →
      let gap := s.bus.abus0.lensLen.toNat / 65536 * Config.us
      (Completes (.lensPoll .done bytes) s [.time, .bus, .sent] fun t =>
        t.sent = .busMaster 0 (s.bus.abus0.lensCtrl.toNat / 256 % 128) (leBytes 1 (s.bus.abus0.lensCtrl.toNat / 65536 % 256)) s.bus.abus0.lensBytes :: s.sent ∧
        (∀ p, s.bus.lensStop = some p → p + gap ≤ t.time.now) ∧
        t.bus = { s.bus with
          lens := padTo 1024 (padTo s.bus.abus0.lensBytes bytes), lensStop := some t.time.now, lensFailing := false,
          abus0 := { s.bus.abus0.atStart with lensOk := true, lensOkCnt := bump32 s.bus.abus0.lensOkCnt 1 } }) ∧
      (∀ e, e ≠ .done → Completes (.lensPoll e bytes) s (.time :: .bus :: reporting) fun t =>
        t.bus.lens = s.bus.lens ∧ t.bus.abus0.lensOk = false ∧ t.bus.abus0.lensFailCnt = bump32 s.bus.abus0.lensFailCnt 1 ∧
        t.bus.lensFailing = true ∧ (s.bus.lensFailing = false → Reports 0x0B0D (srcBus .abus0) t) ∧
        (e = .nack → t.bus.abus0.nacks = bump32 s.bus.abus0.nacks 1) ∧
        (e = .arbitrationLost → t.bus.abus0.arbLost = bump32 s.bus.abus0.arbLost 1 ∧ Reports 0x0B01 (srcBus .abus0) t) ∧
        (e = .busError → t.bus.abus0.busErr = bump32 s.bus.abus0.busErr 1 ∧ Reports 0x0B02 (srcBus .abus0) t) ∧
        (e = .sclTimeout → t.bus.abus0.timeouts = bump32 s.bus.abus0.timeouts 1 ∧ Reports 0x0B03 (srcBus .abus0) t))) ∧
    (s.mode.mode = .dormant → s.bus.dormantPower = true → s.bus.abus0.xfer = none → s.bus.abus1.xfer = none →
      Completes .dormantAbusPowerOff s [.time, .bus, .power] fun t =>
        t.bus.dormantPower = false ∧ t.pdOn 77 = false ∧ s.bus.xferEnd + 10 * Config.ms ≤ t.time.now)

/-- R356 to R358: a pass of the auxiliary converters averages four codes for each entry, stores the result under the number of the pass, and
compares the converters at its end; a list that waits takes effect then. QCONSUMED within the queued results is stored. -/
def Obligations.AuxPassesStoreResults : Prop :=
  ∀ (codes : List (Int × Int × Int × Int)) (codeA codeB : Int) (v : U32) (s : State), s.pdOn 72 = true →
    let bad := decide (s.aux.limit < (codeA - codeB).natAbs)
    (s.aux.nextList = none → s.aux.results.length = s.aux.list.length →
      Completes (.auxPassEnd codes codeA codeB) s (.time :: .aux :: reporting) fun t =>
        s.aux.passStart + passTicks s.aux.list ≤ t.time.now ∧ t.aux.passStart = t.time.now ∧
        t.aux.pass = s.aux.pass + 1 ∧ t.aux.codeA = codeA ∧ t.aux.codeB = codeB ∧ t.aux.xchkFault = bad ∧ t.aux.list = s.aux.list ∧
        t.aux.xchkFaultCnt = (if bad then bump32 s.aux.xchkFaultCnt 1 else s.aux.xchkFaultCnt) ∧
        (∀ (k : Nat) e c, s.aux.list[k]? = some e → codes[k]? = some c → t.aux.results[k]? = some ⟨auxValue e.channel c, s.aux.pass.toNat, true, bad⟩) ∧
        (bad = true → s.aux.xchkFault = false → Reports 0x0C01 srcAux t) ∧
        (bad = false → s.aux.xchkFault = true → Reports 0x0C02 srcAux t)) ∧
    (∀ l, s.aux.nextList = some l → s.aux.in0.capture = none → s.aux.in1.capture = none →
      Completes (.auxPassEnd codes codeA codeB) s (.time :: .aux :: reporting) fun t =>
        s.aux.passStart + passTicks s.aux.list ≤ t.time.now ∧ t.aux.passStart = t.time.now ∧
        t.aux.list = l ∧ t.aux.nextList = none ∧ t.aux.pass = s.aux.pass + 1 ∧ t.aux.results.length = l.length ∧
        ∀ x ∈ t.aux.results, x.valid = false) ∧
    (Reachable s →
      ((v - s.aux.consumed).toNat ≤ (s.aux.produced - s.aux.consumed).toNat →
        Completes (.qconsumed v) s [.aux, .sent, .link] fun t => t.aux.consumed = v ∧ t.aux.produced = s.aux.produced) ∧
      ((s.aux.produced - s.aux.consumed).toNat < (v - s.aux.consumed).toNat →
        Completes (.qconsumed v) s reporting fun t => Reports 0x0C04 srcAux t))

/-- R360, R361: AUX_SYSCAL with POINT 0 or 1 starts a capture from the next pass; POINT 2 computes offset and gain from both captures and stores
them twice, or reports that they give none and drops both; an input that is not in the list is no sound parameter. -/
def Obligations.SystemCalibrationCapturesAndInstalls : Prop :=
  ∀ (r : Req) (input point : Byte) (full : U32) (s : State), Waiting .auxSyscal r s → r.len = 8 → input.toNat ≤ 1 →
    (∀ e, entryFor s.aux.list input.toNat = some e → s.pdOn 72 = true →
      (point.toNat ≤ 1 → (point.toNat = 1 ↔ full.toInt ≠ 0) → Completes (.auxSyscal r input point full) s [.time, .mbox, .aux] fun t =>
        Accepted .auxSyscal r 0 s t ∧ t.mbox.claims = [(.auxin input.toNat, reqOf .auxSyscal r s)] ∧
        (t.aux.input input.toNat).capture =
          some ⟨reqOf .auxSyscal r s, point.toNat, full.toInt, e, s.aux.pass.toNat + 1, [], false⟩) ∧
      (∀ z f fs, point.toNat = 2 → full.toInt = 0 → (s.aux.input input.toNat).zeroSum = some z → (s.aux.input input.toNat).fullSum = some (f, fs) →
        (∀ p, sysCal z f fs = some p → Completes (.auxSyscal r input point full) s (.time :: .aux :: reporting) fun t =>
          (t.aux.input input.toNat).z = p.1 ∧ (t.aux.input input.toNat).g = p.2 ∧ (t.aux.input input.toNat).copy1 = ⟨p.1, p.2, 0⟩ ∧
          (t.aux.input input.toNat).copy2 = ⟨p.1, p.2, 0⟩ ∧ (t.aux.input input.toNat).zeroSum = none ∧ Reports 0x0C10 srcAux t) ∧
        (sysCal z f fs = none → Completes (.auxSyscal r input point full) s (.time :: .aux :: reporting) fun t =>
          (t.aux.input input.toNat).z = (s.aux.input input.toNat).z ∧ (t.aux.input input.toNat).g = (s.aux.input input.toNat).g ∧
          (t.aux.input input.toNat).zeroSum = none ∧ (t.aux.input input.toNat).fullSum = none ∧ Reports 0x0C11 srcAux t))) ∧
    (entryFor s.aux.list input.toNat = none → point.toNat ≤ 2 → Completes (.auxSyscal r input point full) s [.time, .mbox] fun t =>
      Answered .auxSyscal r true .badParam 0 [] s t)

/-- R360: the end of a capture of 256 results. -/
def Obligations.CapturesEndWithTheirMean : Prop :=
  ∀ (n : Fin 2) (c : Capture) (s : State), (s.aux.input n.val).capture = some c → Alive c.req s → 256 ≤ c.codes.length → s.mode.mode ≠ .dormant →
    let v := (c.codes.foldl (· + ·) 0 + 8) / 16
    (c.bad = false → spread c.codes ≤ 64 → Completes (.auxSyscalCaptureDone n) s [.mbox, .aux] fun t =>
      Concludes c.req .ok 0 (zeros 4 ++ signed32 v) s t ∧ (t.aux.input n.val).capture = none ∧
      (c.point = 0 → (t.aux.input n.val).zeroSum = some v) ∧ (c.point ≠ 0 → (t.aux.input n.val).fullSum = some (v, c.fullScale))) ∧
    ((c.bad = true ∨ 64 < spread c.codes) → Completes (.auxSyscalCaptureDone n) s (.aux :: reporting) fun t =>
      (t.mbox.get c.req.chan).outgoing = (s.mbox.get c.req.chan).outgoing ++
        [⟨(s.mbox.get c.req.chan).version, c.req.tag, c.req.op.code, true, .failed, 0, zeros 8, false⟩] ∧
      (t.aux.input n.val).capture = none ∧ (t.aux.input n.val).zeroSum = (s.aux.input n.val).zeroSum ∧ Reports 0x0C11 srcAux t)

/-- R130, R135, R145, R148, R149: a MODE_REQUEST between READY and VIEW, TAKE_START in VIEW, and TAKE_STOP in TAKE and in the capture phase of BURST
are accepted with the frame of their epoch, claim the mode, and put the change before the module; nothing else changes but that VIEW's domains
go on. While a change is in progress each receives BUSY, and nothing else changes. -/
def Obligations.ModeChangesBegin : Prop :=
  (∀ (r : Req) (f : ModeFields) (sur : Surroundings) (s : State), s.modeBusy = true →
    (Waiting .modeRequest r s → r.len = 8 → s.dump.fatalPending = false → f.nextMode = 0 → f.burstCount = 0 → r.target = 0 →
      ((f.mode = 1 ∧ s.mode.mode = .view) ∨ (f.mode = 2 ∧ s.mode.mode = .ready)) →
      Completes (.modeRequest r f sur) s [.time, .mbox] fun t => Answered .modeRequest r true .busy 0 [] s t) ∧
    (∀ (takeId : U64) (keyId : U32) (wrapped : List Byte), Waiting .takeStart r s → r.len = 56 → wrapped.length = 40 → takeId ≠ 0 →
      s.major r ≠ 2 → s.mode.mode = .view →
      Completes (.takeStart r takeId keyId wrapped) s [.time, .mbox] fun t => Answered .takeStart r true .busy 0 [] s t) ∧
    (Waiting .takeStop r s → r.len = 0 → s.stoppable = true →
      Completes (.takeStop r) s [.time, .mbox] fun t => Answered .takeStop r true .busy 0 [] s t)) ∧
  (∀ (r : Req) (f : ModeFields) (sur : Surroundings) (s : State), s.modeBusy = false →
    (Waiting .modeRequest r s → r.len = 8 → s.dump.fatalPending = false → s.mode.burst = none → f.nextMode = 0 → f.burstCount = 0 →
      (f.mode = 2 → s.mode.mode = .ready → r.target = 0 → Completes (.modeRequest r f sur) s [.time, .mbox, .mode, .power] fun t =>
        Accepted .modeRequest r (s.epochFrame (s.epochFor 0)) s t ∧
        (s.tandem.onTsync = false → s.epochFrame (s.epochFor 0) = s.frame.lastFrame + 1) ∧ t.mbox.claims = [(.mode, reqOf .modeRequest r s)] ∧
        t.power = (s.setDomains viewDomains true).power ∧
        t.mode = { s.mode with change := some ⟨.view, .plain, s.epochFor 0, 1, false, some (reqOf .modeRequest r s)⟩ }) ∧
      (f.mode = 1 → s.mode.mode = .view → Completes (.modeRequest r f sur) s [.time, .mbox, .mode] fun t =>
        Accepted .modeRequest r (s.numberAt (s.epochFor r.target.toNat)) s t ∧ t.mbox.claims = [(.mode, reqOf .modeRequest r s)] ∧
        t.mode = { s.mode with
          change := some ⟨.ready, .plain, s.epochFor r.target.toNat, 1, false, some (reqOf .modeRequest r s)⟩ })) ∧
    (∀ (takeId : U64) (keyId : U32) (wrapped : List Byte), Waiting .takeStart r s → r.len = 56 → wrapped.length = 40 → takeId ≠ 0 →
      s.major r ≠ 2 → s.mode.mode = .view → takeRefusal (s.numberAt (s.epochFor r.target.toNat)) true s = none → s.cap 1 = true →
      (s.seals = false → keyId = 0 → wrapped.all (fun b => decide (b = 0)) = true →
        Completes (.takeStart r takeId keyId wrapped) s [.time, .mbox, .mode] fun t =>
          Accepted .takeStart r (s.numberAt (s.epochFor r.target.toNat)) s t ∧
          t.mode = { s.mode with change := some ⟨.take, .startTake takeId.toNat 0 none false, s.epochFor r.target.toNat, 1, false,
            some (reqOf .takeStart r s)⟩ }) ∧
      (∀ kek, s.seals = true → keyId ≠ 0 → wrapped.any (fun b => decide (b ≠ 0)) = true → s.trust.kek = some kek →
        Completes (.takeStart r takeId keyId wrapped) s (.time :: .mode :: reporting) fun t =>
          Accepted .takeStart r (s.numberAt (s.epochFor r.target.toNat)) s t ∧
          t.mode = { s.mode with change := some ⟨.take, .startTake takeId.toNat keyId.toNat (aesUnwrap kek wrapped) true,
            s.epochFor r.target.toNat, 1, false, some (reqOf .takeStart r s)⟩ } ∧
          ((aesUnwrap kek wrapped).isSome → t.log = s.log ∧ t.sent = s.sent) ∧
          (aesUnwrap kek wrapped = none → Reports 0x060E srcKeeper t))) ∧
    (Waiting .takeStop r s → r.len = 0 →
      (s.mode.mode = .take → Completes (.takeStop r) s [.time, .mbox, .mode] fun t =>
        Accepted .takeStop r (s.numberAt (s.epochFor r.target.toNat)) s t ∧
        t.mode = { s.mode with change := some ⟨.view, .stopTake, s.epochFor r.target.toNat, 1, false, some (reqOf .takeStop r s)⟩ }) ∧
      (∀ b, s.mode.mode = .burst → s.mode.burst = some b → b.drain = false → Completes (.takeStop r) s [.time, .mbox, .mode] fun t =>
        Accepted .takeStop r (s.numberAt (s.epochFor r.target.toNat)) s t ∧
        t.mode = { s.mode with change := some ⟨.burst, .endCapture true, s.epochFor r.target.toNat, 1, false, some (reqOf .takeStop r s)⟩ })))

/-- R130, R131, R278, R396, R402, R404: a sequenced change out of READY reaches its mode at once; the entry to READY completes when the stack is in
its band, and fails after 120 s, or after 3.0 s without the hold-up store, with the module in the mode it was in; the domains that wait for
power good fail with event 0x0109. The commands that wait, the profiles and the fuses are untouched. -/
def Obligations.SequencedChangesEnd : Prop :=
  ∀ (r : Req) (f : ModeFields) (sur : Surroundings) (s : State),
    (Waiting .modeRequest r s → r.len = 8 → s.modeBusy = false → s.mode.burst = none → f.nextMode = 0 → f.burstCount = 0 →
      s.mode.mode = .ready → r.target = 0 →
      (f.mode = 0 → CompletesKeeping (.modeRequest r f sur) s stored fun t => t.mode.mode = .dormant ∧ t.mode.seq = none) ∧
      (f.mode = 5 → CompletesKeeping (.modeRequest r f sur) s stored fun t => t.mode.mode = .service ∧ t.mode.seq = none)) ∧
    (s.mode.mode = .ready → s.power.idleToDormant = true → s.modeBusy = false → s.mbox.claims = [] →
      CompletesKeeping .readyIdleTimeout s stored fun t => t.mode.mode = .dormant ∧
        max s.mode.since s.mbox.lastTaken + s.power.idleS * Config.ticksPerSecond ≤ t.time.now) ∧
    (∀ q, s.mode.seq = some q →
      (q.stage = .band → s.thermal.inBand = true → CompletesKeeping .readyEntryComplete s stored fun t =>
        t.mode.mode = q.goal ∧ t.mode.seq = none) ∧
      (q.stage = .band → CompletesKeeping .readyEntryTimeout s stored fun t =>
        t.mode.mode = s.mode.mode ∧ t.mode.seq = none ∧ q.since + 120 * Config.ticksPerSecond ≤ t.time.now ∧ Reports 0x010C srcCooler t) ∧
      (q.stage = .store → CompletesKeeping .holdStoreTimeout s stored fun t =>
        t.mode.mode = s.mode.mode ∧ t.mode.seq = none ∧ q.since + 3 * Config.ticksPerSecond ≤ t.time.now ∧ Reports 0x010A srcAo t) ∧
      (∀ d, d < 80 → s.power.en.getD d false = true → d ∉ modeDomains s.mode.mode →
        CompletesKeeping (.powerGoodTimeout d) s stored fun t =>
          t.mode.mode = s.mode.mode ∧ t.mode.seq = none ∧ Reports 0x0109 srcAo t)) ∧
    (s.power.aoOn = true → s.power.ride = none → s.power.retire = none → (∀ q, s.mode.seq = some q → q.stage ≠ .store) →
      Completes .holdStoreReady s [.power] fun t =>
        t.power = { s.power with holdVolts := max 4600 s.power.holdVolts, holdState := .ready }) ∧
    (∀ d, s.mode.seq = none → d < 80 → d ∉ modeDomains s.mode.mode → s.power.en.getD d false = true →
      CompletesKeeping (.powerGoodTimeout d) s [.settings, .profiles, .trust, .mode, .take, .res] fun t =>
        t.power.pgFailCnt = bump32 s.power.pgFailCnt 1 ∧ t.pdOn d = false ∧ Reports 0x0109 srcAo t ∧
        (d = 77 → t.bus.abus0.xfer = none ∧ t.bus.abus1.xfer = none ∧
          ∀ f, s.bus.abus0.xfer = some f → s.bus.abus1.xfer = none → Alive f.req s →
            Concludes f.req .failed 0 (leBytes 1 5 ++ zeros 7) s t)) ∧
    (∀ d, s.mode.seq = none → s.mode.mode = .ready → d ∈ viewDomains → s.power.en.getD d false = true →
      Completes (.powerGoodTimeout d) s (.power :: reporting) fun t =>
        t.power.pgFailCnt = bump32 s.power.pgFailCnt 1 ∧ t.pdOn d = false ∧ Reports 0x0109 srcAo t) ∧
    (∀ d, 80 ≤ d → exec (.powerGoodTimeout d) s = .fault (.noSuchDomain d))

/-- R151, R152, R154, R156: PROFILE_STORE writes both copies of a profile but the factory profile, which it answers with LOCKED; PROFILE_SELECT
takes the first copy that passes its check, and the factory profile with event 0x0856 where none does. -/
def Obligations.ProfilesAreStoredAndSelected : Prop :=
  ∀ (r : Req) (n : Byte) (s : State),
    (∀ (count : U16) (items : List Item), Waiting .profileStore r s → r.len = 4 + itemsLen items →
      items.all (fun i => lenFits i.value i.len.toNat) = true → n.toNat ≤ 3 → count.toNat ≤ 5 → items.length = count.toNat →
      itemsDistinct items = true → items.all (fun i => profileOnly i.value && inRange i.value 0 1) = true →
      (s.mode.mode = .ready ∨ s.mode.mode = .view ∨ s.mode.mode = .service) →
      (n ≠ 0 → n.toNat < s.profiles.length → Completes (.profileStore r n count items) s [.time, .mbox, .profiles] fun t =>
        AcceptedThen .profileStore r 0 .ok 0 [] s t ∧ t.profiles.length = s.profiles.length ∧
        (∀ m, m ≠ n.toNat → t.profiles[m]? = s.profiles[m]?) ∧
        ∃ p, t.profiles[n.toNat]? = some ⟨⟨p, 0⟩, ⟨p, 0⟩⟩ ∧ p.settings = s.settings ∧
          (items = [] → p = { (s.readProfile n.toNat).1 with settings := s.settings }) ∧
          (∀ v, items.map (·.value) = [.prerollMs v] → p.prerollMs = v.toNat)) ∧
      (n = 0 → Completes (.profileStore r n count items) s (.time :: reporting) fun t =>
        Reports 0x0904 srcConductor t ∧ (t.mbox.get r.chan).outgoing = (s.mbox.get r.chan).outgoing ++
          [⟨(s.mbox.get r.chan).version, r.tag, Opcode.profileStore.code, true, .locked, 0, [], false⟩])) ∧
    (Waiting .profileSelect r s → r.len = 4 → n.toNat ≤ 3 → (s.mode.mode = .dormant ∨ s.joinable = true) →
      s.dump.fatal = none → s.ledgerRuns = false →
      ∀ p copy, s.readProfile n.toNat = (p, copy) →
      (let x := applySensor (rawSettings p.settings) s.settings.sensor
       entryCheck (rawSettings p.settings) x x.tMin 0 s = none) →
      CompletesKeeping (.profileSelect r n) s [.pending, .profiles, .fuse, .trust, .pins, .dump, .thermal, .power, .cal, .hold] fun t =>
        t.mode.profile = n.toNat ∧ t.mode.profileSubst = decide (copy = 3) ∧ t.prefs = p.prefs ∧ t.profileTandem = p.tandem ∧
        t.res.prerollMs = p.prerollMs ∧ (copy = 3 → Reports 0x0856 srcConductor t)) ∧
    ((s.readProfile n.toNat).2 = 3 → (s.readProfile n.toNat).1 = Factory.profile)

/-- R178, R182 to R184: HOLDOVER_READ by the mailbox delivers each frame of a range of a held take, and by Welt waits for its session; a take not held
answers NOT_PRESENT. HOLDOVER_RELEASE needs the frames delivered or FORCE. A failing block takes a spare or shrinks the ring, and a failing
bank degrades the store. -/
def Obligations.HoldoverGivesBackItsFrames : Prop :=
  ∀ (r : Req) (takeId first last : U64) (route bay flags : Byte) (bank : Fin 8) (s : State),
    (Waiting .holdoverRead r s → r.len = 32 → first.toNat ≤ last.toNat → route.toNat ≤ 2 → bay.toNat ≤ 1 → s.mode.mode = .ready →
      s.major r ≠ 2 →
      (takeId.toNat ∉ s.hold.takes → Completes (.holdoverRead r takeId first last route bay) s [.time, .mbox] fun t =>
        Answered .holdoverRead r true .notPresent 0 [] s t) ∧
      (takeId.toNat ∈ s.hold.takes → s.hold.rangeFirst takeId.toNat ≤ first.toNat → last.toNat ≤ s.hold.rangeLast takeId.toNat →
        (route = 2 → Completes (.holdoverRead r takeId first last route bay) s [.time, .mbox, .hold] fun t =>
          (∀ n, first.toNat ≤ n → n ≤ last.toNat → (takeId.toNat, n) ∈ t.hold.delivered) ∧ t.hold.entries = s.hold.entries ∧
          (t.mbox.get r.chan).outgoing.getLast? = some ⟨(s.mbox.get r.chan).version, r.tag, Opcode.holdoverRead.code, true, .ok, 0,
            deliveredBytes (last.toNat + 1 - first.toNat), false⟩) ∧
        (route = 1 → routeWelt bay.toNat takeId.toNat s = none →
          Completes (.holdoverRead r takeId first last route bay) s [.time, .mbox, .hold] fun t =>
            t.hold = { s.hold with
              job := some ⟨reqOf .holdoverRead r s, takeId.toNat, first.toNat, last.toNat, 1, bay.toNat, first.toNat, 0⟩ } ∧
            t.mbox.claims = [(.holdRing, reqOf .holdoverRead r s), (.bay bay.toNat, reqOf .holdoverRead r s)]))) ∧
    (Waiting .holdoverRelease r s → r.len = 24 → flags.toNat ≤ 1 → (s.mode.mode = .ready ∨ s.mode.mode = .service) →
      takeId.toNat ∈ s.hold.takes → s.hold.rangeFirst takeId.toNat ≤ last.toNat → last.toNat ≤ s.hold.rangeLast takeId.toNat →
      (flags = 0 → s.hold.deliveredThrough takeId.toNat last.toNat = false →
        Completes (.holdoverRelease r takeId last flags) s [.time, .mbox] fun t => Answered .holdoverRelease r true .denied 0 [] s t) ∧
      ((flags = 1 ∨ s.hold.deliveredThrough takeId.toNat last.toNat = true) →
        Completes (.holdoverRelease r takeId last flags) s (.time :: .hold :: reporting) fun t =>
          t.hold.entries = s.hold.entries.map (fun e => if e.gov.take.takeId = takeId.toNat ∧ e.gov.n ≤ last.toNat ∧ e.locks = true then
            { e with state := .released, stateTime := s.time.tock.module } else e) ∧
          (t.hold.entries.any RingEntry.locks = false → t.hold.locked = false) ∧ (flags = 1 → Reports 0x0427 srcHold t))) ∧
    (s.pdOn 68 = true →
      (0 < s.hold.spares.getD bank.val 0 → Completes (.holdoverBlockFail bank) s (.hold :: reporting) fun t =>
        t.hold = { s.hold with spares := s.hold.spares.set bank.val (s.hold.spares.getD bank.val 0 - 1) } ∧ Reports 0x0421 srcHold t) ∧
      (s.hold.spares.getD bank.val 0 = 0 → Completes (.holdoverBlockFail bank) s (.hold :: reporting) fun t =>
        t.hold = { s.hold with pages := s.hold.pages - 16 } ∧ Reports 0x0428 srcHold t)) ∧
    (s.hold.failed.getD bank.val false = false → s.hold.job = none → Completes (.holdoverBankFail bank) s (.hold :: .res :: reporting) fun t =>
      t.hold = { s.hold with degraded := true, failed := s.hold.failed.set bank.val true, locked := false } ∧
      { t.res with bSus := s.res.bSus } = s.res ∧ Reports 0x0422 srcHold t ∧ Fires false 28 s t)

/-- R157, R162, R170 to R172: the faults of the memory side and the aperture. A media error in no live record changes nothing, a record that it
meets is voided; a link that retrains stops the port until it is done; a lost device takes the reservoir away; the aperture answers reads
from the reservoir, and discards writes. -/
def Obligations.MemoryPortFollowsItsFaults : Prop :=
  (∀ (page : Nat) (s : State), s.res.present = true →
    (∀ e r, s.res.recordAt page = some e → (s.res.entryOf e.frame).bind (·.record) = some r →
      CompletesKeeping (.deviceMediaError page) s (stored ++ [.time, .mode, .settings, .frame, .power]) fun t =>
        (∃ x, t.res.entryOf e.frame = some x ∧ x.record = some (r.voided 2)) ∧ Reports 0x0407 srcMem t ∧ Reports 0x0401 srcFormatter t) ∧
    (s.res.recordAt page = none → exec (.deviceMediaError page) s = .next s)) ∧
  (∀ (d lanes rate : Nat) (dev : MemDevice) (s : State), d < 4 → s.res.present = true → s.res.devices[d]? = some dev → dev.dstate = 1 →
    (Completes (.memoryLinkRetrain d lanes rate false) s (.res :: reporting) fun t =>
      t.res = { s.res with retrain := true } ∧ Reports 0x0405 srcMem t) ∧
    (Completes (.memoryLinkRetrain d lanes rate true) s (.res :: .free :: reporting) fun t =>
      t.link.reads = [] ∧
      t.res.retrain = false ∧ t.res.queued = 0 ∧ t.res.devices = s.res.devices.set d { dev with lanes := lanes, rate := rate } ∧
      t.res.entries = s.res.entries) ∧
    (s.reads = false → Completes (.deviceLost d) s (.res :: reporting) fun t =>
      t.res.present = false ∧ t.res.prerollApplied = 0 ∧ t.res.devices = s.res.devices.set d { dev with dstate := 0 } ∧
      Reports 0x0408 srcMem t)) ∧
  (∀ (d lanes rate : Nat) (done : Bool) (s : State), 4 ≤ d →
    exec (.memoryLinkRetrain d lanes rate done) s = .fault (.noSuchDevice d) ∧ exec (.deviceLost d) s = .fault (.noSuchDevice d)) ∧
  (∀ (h : DeviceHealth) (s : State), busOn .abus1 s = true → h.poison = [] → Completes (.deviceHealthPoll [h]) s reporting fun t =>
    h.hot = true → Reports 0x040C srcMem t) ∧
  (∀ (offset : U64) (len : Nat) (s : State), s.link.live = true → s.link.ide.insecure = false →
    (s.res.present = true → s.pdOn 57 = true → s.pdOn 58 = true → s.link.pf0.d3hot = false → s.res.retrain = false →
      (Completes (.bar2Read offset len false) s [.free, .sent] fun t =>
        ∃ bs, bs.length = len ∧ t.sent = .completion (.data bs) :: s.sent ∧
          ∀ i, i < len → bs[i]? = some (s.resByte ((s.res.aperture * 2 ^ 30 + offset.toNat + i) % max 1 s.res.capacity))) ∧
      (Completes (.bar2Read offset len true) s (.free :: .res :: reporting) fun t => Reports 0x0407 srcMem t ∧ t.res.entries = s.res.entries)) ∧
    (s.res.present = true → s.pdOn 57 = true → s.pdOn 58 = true → s.link.pf0.d3hot = false → s.res.retrain = true →
      ∀ p, Completes (.bar2Read offset len p) s [.link] fun t =>
        t.link.reads = s.link.reads ++ [⟨offset.toNat, len, p, s.time.now + 10 * Config.ms⟩]) ∧
    (s.res.present = false → Completes (.bar2Read offset len false) s [.sent] fun t => t.sent = .completion .unsupported :: s.sent) ∧
    (Completes (.bar2Write offset) s reporting fun t =>
      t.link.aer0.status.testBit 20 = true ∧ Reports 0x040A srcHost t))

/-- R209, R211, R212, R215, R216, R229, R231: WELT_OPEN begins a session; the agent's information is kept; its first descriptor credit brings the
checks and SESSION_OPEN; the right echo opens the session, and a wrong one or a second without it closes it; credit that rises is stored,
and credit that falls aborts the session; WELT_CLOSE closes a session that holds no frames. -/
def Obligations.SessionsOpenStepByStep : Prop :=
  ∀ (bay : Bay) (s : State),
    let b := bayNum bay
    let x := s.bay b
    (∀ (r : Req) (v flags : Byte) (rid : U16) (ms : U32), Waiting .weltOpen r s → r.len = 12 → v.toNat ∈ weltVersions → flags.toNat ≤ 1 →
      100 ≤ ms.toNat → ms.toNat ≤ 30000 → s.mode.mode ≠ .dormant → x.state = .closed →
      Completes (.weltOpen r (BitVec.ofNat 8 b) v flags rid ms) s [.time, .mbox, .take] fun t =>
        Accepted .weltOpen r 0 s t ∧ t.mbox.claims = [(.bay b, reqOf .weltOpen r s)] ∧
        t.take = s.take.setBay b (Session.begin rid v.toNat ms.toNat (flags.getLsbD 0) false t.time.now (reqOf .weltOpen r s))) ∧
    (∀ (r : Req), Waiting .weltClose r s → r.len = 4 → x.state = .opened → s.holdsFrames b = false →
      Completes (.weltClose r (BitVec.ofNat 8 b) 0) s (.time :: .take :: reporting) fun t =>
        (t.bay b).state = .closed ∧ t.bay (otherBay b) = s.bay (otherBay b) ∧ Reports 0x0602 srcHost t ∧
        RespondsAccepted .weltClose r 0 .ok 0 [] s t) ∧
    (∀ (rid : U16), s.link.takes false = true →
      (acceptsWrite b rid s = true →
        (∀ bytes, (x.state = .opening → x.checked = false → Completes (.agentInfo bay rid bytes) s [.take] fun t =>
            t.take = s.take.setBay b { x with info := padTo 1024 bytes, infoWritten := true }) ∧
          (x.state = .opened → s.take.state = .none → s.hold.job = none → Completes (.agentInfo bay rid bytes) s (.take :: reporting) fun t =>
            (t.bay b).state = .aborted ∧ Reports 0x0606 srcHost t ∧ Fires false 3 s t)) ∧
        (∀ (v : U32), x.state = .opening → x.checked = false → x.descLimit ≤ v.toNat → v ≠ 0 → infoOk x.info = true →
          covered s.take.allow (infoWindows x.info) (infoAt x.info 0x10 8) (infoAt x.info 0x18 4) = true → x.wantsSeal = false →
          (let total := sumNat ((infoWindows x.info).map (·.2)); 262144 ≤ total ∧ x.pageLimit ≤ total) →
          ∀ ver, chooseVersion (infoAt x.info 4 2) x.maxVersion = some ver → x.descSeq = 0 →
          Completes (.descLimit bay rid v) s [.take, .sent] fun t =>
            (t.bay b).version = ver ∧ (t.bay b).state = .opening ∧ (t.bay b).descLimit = v.toNat ∧
            (t.bay b).sessionId = s.take.sessions + 1 ∧ t.take.sessions = s.take.sessions + 1 ∧ t.bay (otherBay b) = s.bay (otherBay b) ∧
            (s.weltWrites = true → (t.bay b).descSeq = 1 ∧ ∃ bs, t.sent = .descriptor b (infoAt x.info 0x10 8) bs :: s.sent) ∧
            (s.weltWrites = false → (t.bay b).descSeq = 0 ∧ t.sent = s.sent)) ∧
        (∀ (v : U32), x.state = .opened → x.descLimit ≤ v.toNat → Completes (.descLimit bay rid v) s (.take :: reporting) fun t =>
          (t.bay b).descLimit = v.toNat ∧ (t.bay b).pageLimit = x.pageLimit) ∧
        (∀ (v : U32), x.state = .opened → v.toNat < x.descLimit → s.take.state = .none → s.hold.job = none →
          Completes (.descLimit bay rid v) s (.take :: reporting) fun t => (t.bay b).state = .aborted ∧ Reports 0x0606 srcHost t) ∧
        (∀ (v : U64), (Completes (.pageLimit bay rid v false) s reporting fun t => Reports 0x060C srcHost t) ∧
          (x.state = .opened → x.pageLimit ≤ v.toNat → v.toNat ≤ x.oldPage + x.wTotal → Completes (.pageLimit bay rid v true) s (.take :: reporting) fun t =>
            (t.bay b).pageLimit = v.toNat ∧ (t.bay b).descLimit = x.descLimit)) ∧
        (∀ id (session : U32) (version : Byte), x.state = .opening → x.checked = true → 0 < x.descSeq → x.req = some id → Alive id s →
          (session.toNat = x.sessionId → version.toNat = x.version → s.take.relay = none →
            Completes (.openAckSession bay rid session version) s (.take :: .res :: reporting) fun t =>
              (t.bay b).state = .opened ∧ (t.bay b).req = none ∧ Reports 0x0601 srcHost t ∧ Fires false 3 s t ∧
              ∃ payload, payload.length = 24 ∧ Responds id .ok 0 payload s t) ∧
          (session.toNat ≠ x.sessionId → Completes (.openAckSession bay rid session version) s (.take :: reporting) fun t =>
            (t.bay b).state = .closed ∧ Reports 0x0603 srcHost t ∧ Responds id .failed 0 [] s t)) ∧
        (∀ off, reservedOffset off = true → Completes (.weltPageWriteDiscard bay rid off) s reporting fun t => Reports 0x060C srcHost t)) ∧
      (acceptsWrite b rid s = false → ∀ off, x.rid ≠ rid → Completes (.weltPageWriteDiscard bay rid off) s reporting fun t =>
        Reports 0x060A srcHost t)) ∧
    (∀ id, x.state = .opening → (x.checked = true → 0 < x.descSeq) → x.req = some id → Alive id s → Completes (.weltOpenTimeout bay) s (.time :: .take :: reporting) fun t =>
      (t.bay b).state = .closed ∧ Reports 0x0603 srcHost t ∧ x.stepTime + 1000 * Config.ms ≤ t.time.now ∧
      Responds id (if x.checked then .failed else .timeout) 0 [] s t)

/-- R215, R217, R219 to R222, R225, R226: the next record of the take goes out with its pages and its descriptor once credit covers it; an
acknowledgement makes the oldest frames durable, and one with status 1 faults the bay; a session that owes progress for its timeout is faulted;
a relay without a take moves the active session, and with one the take. -/
def Obligations.RecordsAreSentAndAcknowledged : Prop :=
  ∀ (bay : Bay) (s : State),
    let b := bayNum bay
    let x := s.bay b
    (∀ e rec, s.weltWrites = true → s.link.narrowed = false → s.hold.job = none → s.take.active = some b → s.take.state ≠ .none →
      skipDurable s (s.take.sentUpTo + 1) s.take.sendNext = s.take.sendNext → s.res.entryOf s.take.sendNext = some e → e.record = some rec →
      s.take.begun = true → s.take.relay = none → s.take.holdBack ≠ some s.take.sendNext → s.take.paged = none → x.descCredit = true → x.state = .streaming →
      x.nextPage + rec.pages ≤ x.pageLimit →
      Completes (.weltRecordSend bay false) s [.take, .res, .sent] fun t =>
        (t.bay b).nextPage = x.nextPage + rec.pages ∧ t.take.sendNext = rec.gov.n + 1 ∧ (t.bay b).state = .streaming ∧
        (t.bay b).commits = x.commits ++ [⟨rec.gov.n, x.descSeq, rec.headerCrc, x.nextPage, rec.pages, rec.gov.take.last, false⟩] ∧
        Out.pages b (x.pageWrites x.nextPage rec.bytes) ∈ t.sent ∧
        Out.descriptor b (x.ringBase + 64 * (x.descSeq % max 1 x.ringEntries))
          (descriptorBytes x (frameDescriptor rec x.nextPage (decide (rec.gov.n < s.take.sentUpTo)))) ∈ t.sent) ∧
    (∀ (rid : U16) (v : U32) (e : AckEntry), s.link.takes false = true → acceptsWrite b rid s = true → x.state = .streaming →
      v.toNat = x.acked + 1 → x.ackProducer ≤ v.toNat → ackCause x e = 0 →
      (e.status = 0 → CompletesKeeping (.ackProducer bay rid v [e]) s (stored ++ [.time, .settings, .power, .bus, .aux, .cal, .trust]) fun t =>
        (t.bay b).commits = x.commits.drop e.count.toNat ∧ (t.bay b).acked = x.acked + 1 ∧ (t.bay b).ackProducer = v.toNat) ∧
      (e.status = 1 → CompletesKeeping (.ackProducer bay rid v [e]) s (stored ++ [.time, .settings, .power, .bus, .aux, .cal, .trust]) fun t =>
        (t.bay b).state = .faulted ∧ (t.bay b).commits = [] ∧ Reports 0x0609 srcHost t)) ∧
    (x.owing = true → x.state = .streaming → s.weltWrites = true →
      CompletesKeeping (.ackTimeout bay) s (stored ++ [.settings, .frame, .power, .bus, .aux, .cal, .trust]) fun t =>
        (t.bay b).state = .faulted ∧ x.progress + x.ackTimeoutMs * Config.ms ≤ t.time.now ∧ Reports 0x0605 srcHost t) ∧
    (∀ (r : Req), Waiting .weltRelay r s → r.len = 4 → s.reads = true → x.state = .opened ∨ x.state = .streaming →
      (s.take.active ≠ some b → s.relayTarget b false = true →
        Completes (.weltRelay r (BitVec.ofNat 8 b) 0) s [.time, .mbox, .take] fun t =>
          (t.bay b).primary = false ∧ (t.bay (otherBay b)).primary = true ∧ t.take.active = s.take.active ∧
          AcceptedThen .weltRelay r 0 .ok 0 (relayBytes 0 (otherBay b)) s t) ∧
      (s.take.active = some b → s.take.state ≠ .none → s.relayTarget b true = true → s.take.last = none →
        Completes (.weltRelay r (BitVec.ofNat 8 b) 0) s (.time :: .take :: reporting) fun t =>
          t.take.active = some (otherBay b) ∧ Reports 0x0607 srcHost t ∧
          RespondsAccepted .weltRelay r 0 .ok 0 (relayBytes s.take.sendNext (otherBay b)) s t))

/-- R198, R238, R243, R244, R247: STREAM_START arms a sound ring whose demand the link carries, STREAM_STOP ends it at the next boundary, and a
POSTED that runs ahead of the descriptors or back stops it. A due frame goes into the buffer of the next descriptor, or only its header where
the buffer is too small, or is abandoned, or skipped where no descriptor is posted; the eighth timeout in a row stops the ring. LUT_LOAD
stores a LUT with its last piece where the CRC passes. -/
def Obligations.ViewingRingsDeliver : Prop :=
  ∀ (ring : Byte) (i : Nat) (s : State), ringIndex ring.toNat = some i →
    let v := s.view.ring i
    (∀ (r : Req), Waiting .streamStart r s → r.len = 4 →
      (v.sound = true → s.viewFits i = true → Completes (.streamStart r ring) s [.time, .mbox, .view] fun t =>
        (v.state = .stopped → t.view = (s.setRing i { v with state := .armed, reason := 0, timeoutRun := 0, change := none }).view) ∧
        (v.state ≠ .stopped → t.view = (s.setRing i { v with change := none }).view) ∧
        Answered .streamStart r true .ok s.nextFrame (leBytes 8 s.nextFrame) s t) ∧
      (v.sound = false → Completes (.streamStart r ring) s [.time, .mbox] fun t => Answered .streamStart r true .badParam 0 [] s t) ∧
      (v.sound = true → s.viewFits i = false → Completes (.streamStart r ring) s [.time, .mbox] fun t =>
        Answered .streamStart r true .noResource 0 [] s t)) ∧
    (∀ (r : Req), Waiting .streamStop r s → r.len = 4 → v.state ≠ .stopped → Completes (.streamStop r ring) s [.time, .mbox, .view] fun t =>
      t.view = (s.setRing i (if s.hasBoundaries then { v with change := some false }
        else { v with state := .stopped, reason := 1, change := none, timeoutRun := 0 })).view) ∧
    (∀ (p : U32), s.link.takes true = true →
      ((p - v.produced).toNat ≤ v.descEntries.toNat → (v.posted - v.produced).toNat ≤ (p - v.produced).toNat →
        Completes (.posted ring p) s [.view] fun t => t.view = (s.setRing i { v with posted := p }).view) ∧
      (v.descEntries.toNat < (p - v.produced).toNat ∨ (p - v.produced).toNat < (v.posted - v.produced).toNat → Completes (.posted ring p) s (.view :: reporting) fun t =>
        t.view = (s.setRing i { v with posted := p, state := .stopped, reason := 4, change := none, timeoutRun := 0 }).view ∧
        Reports 0x0705 srcHost t)) ∧
    (∀ (buf : U64) (size : U32) (f : Frame) (x : RingSet) (q : Option Pairing), s.link.ide.insecure = false → s.dueFrame i = some (f, x, q) →
      ((s.link.narrowed = true ∨ v.posted = v.produced) → Completes (.viewFrameDelivery ring buf size false) s [.view] fun t =>
        t.view = (s.setRing i { v with skipped := bump32 v.skipped 1, taken := f.gov.n }).view) ∧
      (s.link.mayWrite true = true → s.link.narrowed = false → v.posted ≠ v.produced →
        (x.bufferBytes i ≤ size.toNat →
          (Completes (.viewFrameDelivery ring buf size false) s [.view, .sent, .link] fun t =>
            t.view = (s.setRing i { v with
              produced := v.produced + 1, taken := f.gov.n, timeoutRun := 0, delivered := bump32 v.delivered 1, lastFrame := f.gov.n }).view ∧
            Out.picture (ringNumber i) buf.toNat ((s.view.delivers i x f q).1 ++ (s.view.delivers i x f q).2) ∈ t.sent ∧
            Fires true (1 + i) s t) ∧
          (Completes (.viewFrameDelivery ring buf size true) s [.view] fun t =>
            t.view = (s.setRing i { v with abandoned := bump32 v.abandoned 1, taken := f.gov.n, timeoutRun := 0 }).view)) ∧
        (size.toNat < x.bufferBytes i → Completes (.viewFrameDelivery ring buf size false) s [.view, .sent, .link] fun t =>
          t.view = (s.setRing i { v with produced := v.produced + 1, taken := f.gov.n, timeoutRun := 0 }).view ∧
          Out.picture (ringNumber i) buf.toNat (s.view.delivers i x f q).1 ∈ t.sent) ∧
        (v.timeoutRun < 7 →
          let w := { v with skipped := bump32 v.skipped 1, taken := f.gov.n, timeouts := bump32 v.timeouts 1, timeoutRun := v.timeoutRun + 1 }
          (Completes (.descriptorReadTimeout ring) s (.view :: reporting) fun t =>
            t.view = (s.setRing i w).view ∧ Reports 0x0505 srcHost t ∧ t.link.aer1.status.testBit 14 = true) ∧
          (Completes (.completionTimeout .pf1 (some ring)) s (.view :: reporting) fun t =>
            t.view = (s.setRing i w).view ∧ Reports 0x0505 srcHost t ∧ t.link.aer1.status.testBit 14 = true)) ∧
        (7 ≤ v.timeoutRun → i < s.view.rings.length → Completes (.descriptorReadTimeout ring) s (.view :: reporting) fun t =>
          (t.view.ring i).state = .stopped ∧ (t.view.ring i).reason = 2 ∧ Fires true (1 + i) s t))) ∧
    (s.link.mayWrite false = true → Completes (.completionTimeout .pf0 none) s reporting fun t =>
      Reports 0x0505 srcHost t ∧ t.link.aer0.status.testBit 14 = true) ∧
    (∀ (r : Req) (kind slot : Byte) (crc : U32) (data : List Byte), Waiting .lutLoad r s → r.len = 16 + data.length →
      data.length ≤ 4080 → kind = 1 → slot.toNat < 4 → s.major r ≠ 2 → s.lutInUse 1 slot.toNat = false →
      (∀ l, s.lutLoad 1 slot.toNat = some l → l.chan = r.chan → l.bytes.length + data.length = lutBytes 1 →
        (crc.toNat = crc32c (l.bytes ++ data) →
          Completes (.lutLoad r kind slot 1 (BitVec.ofNat 32 l.bytes.length) (BitVec.ofNat 32 (lutBytes 1)) crc data) s [.time, .mbox, .view]
            fun t => t.view = (s.view.dropLoad 1 slot.toNat).storeLut 1 slot.toNat (l.bytes ++ data)) ∧
        (crc.toNat ≠ crc32c (l.bytes ++ data) →
          Completes (.lutLoad r kind slot 1 (BitVec.ofNat 32 l.bytes.length) (BitVec.ofNat 32 (lutBytes 1)) crc data) s
            (.time :: .view :: reporting) fun t =>
              t.view = s.view.dropLoad 1 slot.toNat ∧ Reports 0x0703 srcConductor t ∧ RespondsAccepted .lutLoad r 0 .badCheck 0 [] s t)) ∧
      (s.lutLoad 1 slot.toNat = none →
        Completes (.lutLoad r kind slot 0 0 (BitVec.ofNat 32 (lutBytes 1)) crc data) s [.time, .mbox, .view] fun t =>
          Answered .lutLoad r true .ok 0 (leBytes 4 data.length ++ zeros 4) s t ∧ t.view.luts = s.view.luts))

/-- R249 to R253, R256, R260: the tandem link comes up with HELLO and goes down; HELLO settles the version, and two different roles begin to join;
heartbeats are noted, and a follower answers one; a packet that fails its check is counted; 50 ms without a packet end the join; TSYNC places the
follower's boundaries. TANDEM_ROLE_SET changes the role. -/
def Obligations.TandemModulesMeet : Prop :=
  ∀ (s : State),
    (s.pdOn 59 = true → s.tandem.up = false → Completes .tandemLinkUp s [.tandem, .sent, .link] fun t =>
      t.tandem.up = true ∧ t.tandem.heard = s.time.now ∧ t.tandem.join = s.tandem.join ∧ t.tandem.queue = [] ∧
      ∀ p ∈ s.tandem.queue, Out.packet p.2 ∈ t.sent) ∧
    (s.tandem.up = true →
      (Completes .tandemLinkDown s [.tandem, .sent, .link] fun t => t.tandem = { s.tandem with up := false } ∧ Fires false 31 s t) ∧
      (∀ (role mx mode : Byte) (identity : U64) (rtt : U32),
        (mx.toNat < 0x10 → Completes (.helloPacket role mx mode identity rtt) s (.tandem :: reporting) fun t =>
          t.tandem = { s.tandem with heard := s.time.now, partnerRole := role.toNat, partnerMode := mode.toNat, version := 0, rtt := rtt.toNat } ∧
          Reports 0x0724 srcTandem t) ∧
        (0x11 ≤ mx.toNat → mode ≠ 0 → 2 ≤ role.toNat → s.tandemRole ≠ 1 → s.tandemRole ≠ role.toNat → s.tandem.join = .none →
          Completes (.helloPacket role mx mode identity rtt) s (.tandem :: reporting) fun t =>
            t.tandem.version = 0x11 ∧ t.tandem.join = .joining ∧ t.tandem.rtt = rtt.toNat ∧ Reports 0x0710 srcTandem t ∧ Fires false 31 s t) ∧
        (0x11 ≤ mx.toNat → mode ≠ 0 → 2 ≤ role.toNat → s.tandemRole = role.toNat → s.tandem.onTsync = false →
          Completes (.helloPacket role mx mode identity rtt) s (.tandem :: reporting) fun t =>
            t.tandem.join = .conflict ∧ Reports 0x0712 srcTandem t) ∧
        (0x11 ≤ mx.toNat → role.toNat < 2 → s.tandem.partnerRole ≠ role.toNat → s.tandem.join = .conflict →
          Completes (.helloPacket role mx mode identity rtt) s [.tandem, .sent, .link] fun t =>
            t.tandem.join = .none ∧ t.tandem.partnerRole = role.toNat ∧ Fires false 31 s t)) ∧
      (∀ (b f : U64) (mode : Byte),
        (s.tandemRole = 3 → mode ≠ 0 → Completes (.heartbeat b f mode false) s [.tandem, .sent, .frame] fun t =>
          t.tandem.partnerMode = mode.toNat ∧ t.tandem.partnerFrame = f.toNat ∧ t.tandem.partnerArrival = s.time.module ∧
          Out.packet (packetBytes 2 s.tandem.version ((look s.tandem.seqs 2).getD 0) f.toNat (heartbeatBytes b.toNat f.toNat 0 t)) ∈ t.sent ∧
          t.tandem.heard = s.time.now ∧ t.tandem.join = s.tandem.join ∧
          t.frame = { s.frame with lastFrame := t.frame.lastFrame } ∧
          (s.tandem.onTsync = false → t.frame.lastFrame = s.frame.lastFrame) ∧
          (s.tandem.onTsync = true → s.tandem.join = .joined → s.frame.leaderNext = none → t.frame.lastFrame = max s.frame.lastFrame f.toNat)) ∧
        (s.tandemRole = 3 → mode ≠ 0 → Completes (.heartbeat b f mode true) s [.tandem, .sent, .frame] fun t =>
          t.tandem.partnerMode = mode.toNat ∧ t.tandem.partnerFrame = s.tandem.partnerFrame ∧ t.tandem.heard = s.time.now ∧
          Out.packet (packetBytes 2 s.tandem.version ((look s.tandem.seqs 2).getD 0) f.toNat (heartbeatBytes b.toNat f.toNat 1 t)) ∈ t.sent ∧
          t.tandem.join = s.tandem.join ∧ t.frame = { s.frame with lastFrame := t.frame.lastFrame } ∧
          (s.tandem.onTsync = true → s.tandem.join = .joined → s.frame.leaderNext = none →
            t.frame.lastFrame = if s.tandem.guessed = true then s.frame.lastFrame - 1 else s.frame.lastFrame)) ∧
        (s.tandemRole ≠ 3 → mode ≠ 0 → ∀ idle, Completes (.heartbeat b f mode idle) s [.tandem] fun t =>
          t.tandem = { s.tandem with heard := s.time.now, partnerMode := mode.toNat }) ∧
        (mode = 0 → (s.tandem.join = .joined ∨ s.tandem.join = .joining) → s.tandem.onTsync = false →
          ∀ idle, Completes (.heartbeat b f mode idle) s (.tandem :: reporting) fun t =>
            t.tandem.join = .none ∧ t.tandem.partnerMode = 0 ∧ Reports 0x0711 srcTandem t ∧ Reports 0x0714 srcTandem t ∧ Fires false 31 s t)) ∧
      (s.tandemRole = 2 → Completes .heartbeatKeepalive s [.time, .tandem, .sent] fun t =>
        s.tandem.sent + 10 * Config.ms ≤ t.time.now ∧ t.tandem.sent = t.time.now) ∧
      (Completes .tandemPacketCrcFail s (.tandem :: reporting) fun t =>
        t.tandem = { s.tandem with crcFail := bump32 s.tandem.crcFail 1, crcFrame := some s.frame.lastFrame } ∧
        (s.tandem.crcFrame ≠ some s.frame.lastFrame → Reports 0x0723 srcTandem t)) ∧
      (∀ temps (input : Byte) (faults : U32), s.tandem.version = 0x11 → Completes (.partnerStatus temps input faults) s [.tandem] fun t =>
        t.tandem = { s.tandem with heard := s.time.now, info := some ⟨temps, input.toNat, faults.toNat⟩ })) ∧
    ((s.tandem.join = .joined ∨ s.tandem.join = .joining) → s.tandem.onTsync = false →
      Completes .tandemLinkTimeout s (.time :: .tandem :: reporting) fun t =>
        t.tandem.join = .none ∧ t.tandem.unacked = [] ∧ s.tandem.heard + 50 * Config.ms ≤ t.time.now ∧
        Reports 0x0711 srcTandem t ∧ Reports 0x0714 srcTandem t ∧ Fires false 31 s t) ∧
    (s.tandemRole = 3 →
      (s.tandem.onTsync = true → Completes .tsyncEdge s [.frame] fun t =>
        t.frame = { s.frame with leaderNext := some (s.lastNumber + 1, s.time.module + 200 - s.tandem.rtt / 20) }) ∧
      (s.tandem.onTsync = false → s.tandem.join = .joining → s.tandem.joinIn = 1 →
        (Completes .tsyncEdge s ([.frame, .tandem, .ledger, .settings] ++ reporting) fun t =>
          t.tandem = { s.tandem with onTsync := true, holdover := false } ∧
          t.frame.leaderNext = some (s.tandem.joinFrame, s.time.module + 200 - s.tandem.rtt / 20) ∧ t.frame.flying = none ∧
          t.frame.window = none) ∧
        ((∀ p ∈ s.ledger.waiting, p.2.mirrored = false) → Completes .tsyncEdge s [.frame, .tandem] fun t =>
          t.frame.sens0 = s.frame.sens0 ∧ t.frame.sens1 = s.frame.sens2 ∧ t.frame.sens2 = s.frame.sens2)) ∧
      (s.tandem.onTsync = false → s.tandem.join = .joining → 1 < s.tandem.joinIn → Completes .tsyncEdge s [.tandem] fun t =>
        t.tandem = { s.tandem with joinIn := s.tandem.joinIn - 1 })) ∧
    (∀ (r : Req) (role : Byte), Waiting .tandemRoleSet r s → r.len = 4 → role.toNat ≤ 3 → s.roleMode = true →
      (s.tandem.up = false → (role.toNat < 2 ∨ s.cap 2 = true) → s.tandem.join = .none →
        Completes (.tandemRoleSet r role) s [.time, .mbox, .tandem] fun t =>
          t.tandem = { s.tandem with roleSet := role.toNat } ∧ Answered .tandemRoleSet r true .ok 0 [] s t) ∧
      (2 ≤ role.toNat → s.cap 2 = false → Completes (.tandemRoleSet r role) s [.time, .mbox] fun t =>
        Answered .tandemRoleSet r true .denied 0 [] s t))

/-- R250, R252, R254, R255, R257: a follower takes up the leader's settings with JOIN and its mirrored entries with LEDGER, which it acknowledges and the
leader sends again after 20 µs; LEDGER_CANCEL takes them away. A leader keeps the lines of the follower's frame of its own frame number, and
repeats the last good one where none has come. -/
def Obligations.TandemModulesMirror : Prop :=
  ∀ (s : State),
    (s.tandem.up = true →
      (∀ (first : U64) (l : List Setting), s.tandemRole = 3 → s.tandem.join = .joining → s.joinable = true → s.ledger.waiting = [] →
        Completes (.join first l []) s (.settings :: .frame :: .res :: .tandem :: reporting) fun t =>
          t.settings = applyAll l s.settings ∧ t.frame.sens0 = t.settings.sensor ∧ t.tandem.joinIn = 4 ∧ t.tandem.joinFrame = first.toNat ∧
          t.res = s.res.dropPreroll ∧ Reports 0x0716 srcTandem t) ∧
      (∀ (m : Mirrored) (k : Nat), s.tandemRole = 3 → s.tandem.join = .joined →
        (s.ledger.waiting.any fun p => p.2.mirrored && decide (p.2.seq = m.seq.toNat)) = false → s.ledger.freeSlot = some k →
        (let c := classesOf m.settings; let ahead : Int := if c.sensor then 2 else if c.conv then 1 else 0
         s.number (s.frame.index + 1) + ahead ≤ (m.applied.toNat : Int)) →
        Completes (.ledger m) s [.tandem, .ledger, .sent] fun t =>
          t.ledger.slots = s.ledger.slots.set k (some ⟨m.seq.toNat, m.applied.toNat, m.applied.toNat, m.settings, Classes.none, Classes.none, false,
            true, s.time.module, 0xFF, 0⟩) ∧ t.tandem.slips = s.tandem.slips ∧
          t.sent = .packet (packetBytes 5 s.tandem.version ((look s.tandem.seqs 5).getD 0) m.applied.toNat (leBytes 4 m.seq.toNat)) :: s.sent) ∧
      (∀ (q : U32), Completes (.ledgerAck q) s [.tandem] fun t =>
        t.tandem = { s.tandem with heard := s.time.now, unacked := s.tandem.unacked.filter fun p => decide (p.1.seq ≠ q) }) ∧
      (∀ (q : U32) (k : Nat) (e : LedgerEntry), s.tandemRole = 3 → s.tandem.version = 0x11 → e.removable = ⟨true, true, true, true⟩ →
        (s.ledger.waiting.filter fun p => p.2.mirrored && decide (p.2.seq = q.toNat)) = [(k, e)] →
        CompletesKeeping (.ledgerCancelPacket q 15) s (stored ++ [.time, .mode, .settings, .power, .take]) fun t =>
          t.ledger.slots[k]? = some none ∨ s.ledger.slots.length ≤ k) ∧
      (∀ (n : U64) (w h : U16), s.tandemRole = 2 → s.tandem.join = .joined → s.tandem.wants n.toNat = true →
        Completes (.frameBegin n w h) s [.tandem] fun t =>
          t.tandem = { s.tandem with
            heard := s.time.now, partnerFrame := n.toNat, partnerArrival := s.time.module,
            receiving := ⟨n.toNat, w.toNat, h.toNat, [], false, s.time.module, 0, 0, false, false⟩ ::
              s.tandem.receiving.filter fun x => decide (x.frame + 1 = n.toNat) }) ∧
      (∀ (n : U64) (j k : U16) (px : List (U16 × U16 × U16)), Completes (.lines n j k px) s [.tandem] fun t =>
        t.tandem = { s.tandem with
          heard := s.time.now,
          receiving := s.tandem.receiving.map fun p => if p.frame = n.toNat then
            { p with lines := p.lines ++ [⟨j.toNat, k.toNat, px.map fun q => (q.1.toNat, q.2.1.toNat, q.2.2.toNat)⟩] } else p }) ∧
      (∀ (n : U64) (sent dropped : U16) (p : PartnerFrame), s.tandem.receives n.toNat = some p → p.lines ≠ [] →
        Completes (.frameEnd n sent dropped) s (.tandem :: reporting) fun t =>
          (∃ q, t.tandem.lastGood = some q ∧ q.frame = n.toNat ∧ q.ended = true) ∧ t.tandem.join = s.tandem.join)) ∧
    ((s.tandem.join = .joined ∨ s.tandem.join = .joining) → ∀ (m : Mirrored) (at' : Nat), s.tandem.unacked = [(m, at')] →
      (s.tandem.up = true → Completes .ledgerResend s [.time, .tandem, .sent] fun t =>
        at' + 20 * Config.us ≤ t.time.now ∧ t.tandem.unacked = [(m, t.time.now)]) ∧
      (s.tandem.up = false → Completes .ledgerResend s [] fun t => t.tandem.unacked = [(m, at')])) ∧
    (∀ g, s.frame.gov = some g → s.tandemRole = 2 → (s.tandem.pairing.map (·.frame)).getD 0 ≠ g.n →
      (∀ q p p', s.tandem.pairing = some q → q.frame + 1 = g.n → q.repeated = false → q.absent = false → s.tandem.receives q.frame = some p →
        p.lines ≠ [] → s.tandem.receives g.n = some p' → Completes .pairingWindowClose s (.time :: .tandem :: reporting) fun t =>
          t.tandem.pairing = some ⟨g.n, some p', false, false, s.tandem.compMode, s.tandem.compLeft⟩ ∧
          (∃ b, t.tandem.before = some b ∧ b.frame = q.frame) ∧ ∃ x, t.tandem.lastGood = some x ∧ x.frame = q.frame ∧ x.ended = true) ∧
      (∀ p, s.tandem.receives (g.n - 1) = none → s.tandem.receives g.n = some p → Completes .pairingWindowClose s [.time, .tandem] fun t =>
        t.tandem = { s.tandem with
          pairing := some ⟨g.n, some p, false, false, s.tandem.compMode, s.tandem.compLeft⟩, before := s.tandem.pairing } ∧
        g.boundary + g.period / 4 ≤ t.time.module) ∧
      (s.tandem.receiving = [] → s.tandem.join = .joined → Completes .pairingWindowClose s (.time :: .tandem :: reporting) fun t =>
        t.tandem.pairing = some ⟨g.n, s.tandem.lastGood, s.tandem.lastGood.isSome, s.tandem.lastGood.isNone, s.tandem.compMode,
          s.tandem.compLeft⟩ ∧ Reports 0x0720 srcComp t ∧ Fires true 12 s t)) ∧
    (∀ g q p, s.frame.gov = some g → s.tandem.pairing = some q → q.frame + 1 = g.n → q.repeated = false → q.absent = false →
      s.tandem.receives q.frame = some p → p.lines ≠ [] →
      Completes .partnerFrameDeadline s (.time :: .tandem :: reporting) fun t =>
        (∃ x, t.tandem.lastGood = some x ∧ x.frame = q.frame ∧ x.ended = true) ∧ g.boundary + g.period / 4 ≤ t.time.module)

/-- R319 to R327: a tick steps COUNT, counts a match and an overflow and applies the self-actions; START, STOP, RESET and writes of COUNT and COMPARE act
on channels 0 to 11 and are rejected on 12 to 15; captures store a pair, of which a read of CAP_RISE takes the snapshot; a quadrature edge
steps COUNT up or down; an input without edges is stuck. -/
def Obligations.TimersCountAndCapture : Prop :=
  ∀ (n : Fin 16) (v : U32) (s : State), s.sync.timers.length = 16 →
    let tm := s.sync.timer n.val
    (tm.running = true → tm.kind = 0 → timerFrozen tm s = false → tm.linked ≠ n.val → tm.ovfSelf = 0 →
      let k := (tm.nextTicks (s.pdOn 76) s.time.now).2.1
      let m := tm.condAt (tm.count + BitVec.ofNat 32 k) && !tm.cond
      Completes (.timerTick n) s [.time, .sync, .sent, .link] fun t =>
        (t.sync.timer n.val).count = (if m && (tm.matchSelf = 1 || tm.matchSelf = 3) then 0 else tm.count + BitVec.ofNat 32 k) ∧
        (t.sync.timer n.val).matchCnt = (if m then bump32 tm.matchCnt 1 else tm.matchCnt) ∧
        (t.sync.timer n.val).ovfCnt = (if decide (2 ^ 32 ≤ tm.count.toNat + k) && !(m && (decide (tm.matchSelf = 1) || decide (tm.matchSelf = 3)))
          then bump32 tm.ovfCnt 1 else tm.ovfCnt) ∧
        (t.sync.timer n.val).running = !(m && (tm.matchSelf = 2 || tm.matchSelf = 3) && !tm.locked) ∧
        (m = true → tm.ctrl.getLsbD 28 = true → Fires false (6 + n.val) s t) ∧
        (s.pdOn 76 = true → k = 1 ∧ tm.prescale + 2 ^ tm.prescaler ≤ t.time.now) ∧
        (s.pdOn 76 = false → tm.haltBeh = 2 → k = 1 ∧ nextEdge tm.prescale ≤ t.time.now) ∧
        (s.pdOn 76 = false → tm.haltBeh = 1 →
          let e := nextEdge (tm.prescale + 2 ^ tm.prescaler - 1)
          k = (e - tm.prescale) / 2 ^ tm.prescaler ∧ e ≤ t.time.now)) ∧
    (Reachable s → s.pdOn 76 = true →
      (n.val < 12 →
        (tm.running = false → Completes (.start n) s [.sync] fun t => t.sync = (s.setTimer n.val { tm with
          running := true, cond := false, prescale := s.time.now, lastEdge := s.time.now, locked := tm.locked || decide (tm.haltBeh = 1) }).sync) ∧
        (tm.locked = false → Completes (.stop n) s [.sync] fun t => t.sync = (s.setTimer n.val { tm with running := false }).sync) ∧
        (tm.locked = true → Completes (.stop n) s [.sync] fun t => t.sync = (s.setTimer n.val tm).sync) ∧
        (Completes (.reset n) s [.sync] fun t =>
          t.sync = (s.setTimer n.val { tm with count := 0, cond := false, prescale := s.time.now }).sync) ∧
        (Completes (.count n v) s [.sync] fun t => t.sync = (s.setTimer n.val { tm with count := v }).sync) ∧
        (Completes (.compare n v) s [.sync] fun t => t.sync = (s.setTimer n.val { tm with compare := v }).sync)) ∧
      (12 ≤ n.val → ∀ c ∈ ([.start n, .stop n, .reset n, .count n v, .compare n v] : List Instr),
        Completes c s (.regs :: reporting) fun t => Reports 0x0904 srcHost t) ∧
      (Completes (.capRise n) s [.sync, .sent] fun t =>
        t.sync = (s.setTimer n.val { tm with snapFall := tm.capFall }).sync ∧
        t.sent = .completion (.data (leBytes 4 tm.capRise.toNat)) :: s.sent)) ∧
    (s.pdOn 76 = true →
      (∀ rising, Completes (.timerInputEdge n .glitch rising) s [.sync] fun t => t.sync = (s.setTimer n.val tm.glitch).sync) ∧
      (∀ c, tm.inputSel ≠ 0 → tm.kind ≠ 1 → tm.capEn = true → tm.fallFirst = false → tm.pairFirst = some c →
        Completes (.timerInputEdge n .input false) s [.sync, .sent, .link] fun t =>
          t.sync = (s.setTimer n.val { tm with
            stuck := false, lastEdge := s.time.now, pairFirst := none, capValid := true, capCnt := tm.capCnt + 1, capRise := c,
            capFall := tm.count }).sync ∧
          (tm.ctrl.getLsbD 30 = true → Fires false (6 + n.val) s t)) ∧
      (∀ rising, tm.running = true → tm.kind = 2 → timerFrozen tm s = false → tm.linked ≠ n.val → tm.matchSelf = 0 → tm.ovfSelf = 0 →
        Completes (.timerInputEdge n .encA rising) s [.sync, .sent, .link] fun t =>
          (t.sync.timer n.val).count = (if quadStep true rising s.sync.encB then tm.count + 1 else tm.count - 1) ∧ t.sync.encA = rising) ∧
      (tm.stuckMs ≠ 0 → tm.running = true → tm.stuck = false → (tm.capEn = true ∨ tm.kind = 1 ∨ tm.kind = 2) →
        Completes (.timerStuck n) s (.time :: .sync :: reporting) fun t =>
          t.sync = (s.setTimer n.val { tm with stuck := true }).sync ∧ tm.lastEdge + tm.stuckMs * Config.ms ≤ t.time.now ∧
          Reports 0x0A10 srcSync t ∧ (tm.ctrl.getLsbD 31 = true → Fires false (6 + n.val) s t))) ∧
    (∀ on, s.trust.debugOpen = true → Completes (.debugHalt on) s [.sync] fun t => t.sync = { s.sync with halted := on })

/-- R308 to R312, R315, R316: the genlock meter goes from absent to detected at the second start of a structure, locks on eight even periods, and holds over
when a period strays, a start is missed or the sync falls silent; LTC codewords that follow each other are counted, and LTC_IN is lost after
three codeword periods; TIMECODE_SET waits for a boundary, and the generator advances by a frame. -/
def Obligations.TimecodeAndGenlockFollowTheirInputs : Prop :=
  ∀ (sub struct : Byte) (s : State),
    let g := s.sync.genlock
    let c := s.sync.tc
    let now := s.time.module * 256 + sub.toNat
    (s.pdOn 76 = true →
      (g.state = .absent → g.lastStart ≠ 0 → struct.toNat = g.struct → 1 ≤ g.struct → g.struct ≤ 5 →
        Completes (.genlockFrameStart sub struct) s [.sync, .clk] fun t =>
          t.sync.genlock = { g with state := .detected, periods := [], lastStart := now, frameCnt := bump32 g.frameCnt 1 } ∧
          t.clk.genref = true ∧ t.sync.tc = c ∧ t.sync.timers = s.sync.timers) ∧
      (g.state = .detected → struct.toNat = g.struct → 1 ≤ g.struct → g.struct ≤ 5 →
        lockCriterion g.struct (lastPeriods (now - g.lastStart) g.periods) = true →
        Completes (.genlockFrameStart sub struct) s ([.sync, .clk, .time] ++ reporting) fun t =>
          t.sync.genlock.state = .locked ∧ t.sync.genlock.per = meanOf (lastPeriods (now - g.lastStart) g.periods) ∧
          t.sync.genlock.acquire = true ∧ Reports 0x0A01 srcSync t) ∧
      (g.state = .locked → (struct.toNat ≠ g.struct ∨ within (now - g.lastStart) g.per 200 = false) →
        Completes (.genlockFrameStart sub struct) s ([.sync, .clk, .time] ++ reporting) fun t =>
          t.sync.genlock.state = .holdover ∧ t.sync.genlock.holdoverCnt = bump32 g.holdoverCnt 1 ∧ Reports 0x0A02 srcSync t) ∧
      (g.state = .locked → Completes .genlockSyncTimeout s ([.sync, .clk, .time] ++ reporting) fun t =>
        t.sync.genlock.state = .holdover ∧ t.clk.genref = false ∧ Reports 0x0A02 srcSync t) ∧
      (g.state = .detected → Completes .genlockSyncTimeout s [.sync, .clk] fun t =>
        t.sync.genlock = { g with state := .absent, periods := [], lastStart := 0, struct := 0 } ∧ t.clk.genref = false)) ∧
    (g.state = .locked → Completes .genlockStartTimeout s ([.sync, .clk, .time] ++ reporting) fun t =>
      t.sync.genlock.state = .holdover ∧ t.sync.genlock.missCnt = bump32 g.missCnt 1 ∧ Reports 0x0A02 srcSync t ∧
      (2 * g.lastStart + 3 * g.per) / 512 ≤ t.time.module) ∧
    (∀ (w : U64) (p : U32), s.pdOn 76 = true →
      (∀ cells, Completes (.ltcCodeword w p cells true) s [.sync, .clk] fun t =>
        t.sync = { s.sync with tc := { c with errCnt := bump32 c.errCnt 1, reversed := true } } ∧ t.clk.ltcck = true) ∧
      (∀ cells, (cellsAgree cells p.toNat && ltcSpeedOk p.toNat) = false → Completes (.ltcCodeword w p cells false) s [.sync, .clk] fun t =>
        t.sync = { s.sync with tc := { c with errCnt := bump32 c.errCnt 1 } }) ∧
      (∀ cells, cellsAgree cells p.toNat = true → ltcSpeedOk p.toNat = true → c.goodCnt ≠ 0 → c.present = true →
        (let r := nearestRate p.toNat; tcAdvance (tcFps r.1 r.2) c.lastWord &&& tcMask = w &&& tcMask) →
        Completes (.ltcCodeword w p cells false) s [.sync, .clk] fun t =>
          t.sync.tc.lastWord = w ∧ t.sync.tc.goodCnt = bump32 c.goodCnt 1 ∧ t.sync.tc.present = true ∧ t.sync.tc.errCnt = c.errCnt ∧
          t.sync.tc.bitPeriod = p.toNat)) ∧
    (c.present = true → Completes .ltcAbsentTimeout s ([.sync, .clk, .time] ++ reporting) fun t =>
      t.sync.tc.present = false ∧ t.clk.ltcck = false ∧ Reports 0x0A06 srcSync t ∧
      (c.source = 1 → c.tcSource = 1 → t.sync.tc.tcSource = 2 ∧ (t.sync.tc.num, t.sync.tc.den) = nearestRate c.bitPeriod)) ∧
    (c.source = 1 → c.present = true → c.fresh = true → Completes .timecodeFrameStart s [.sync, .sent] fun t =>
      (let r := nearestRate c.bitPeriod; t.sync.tc.word = tcAdvance (tcFps r.1 r.2) c.lastWord) ∧ t.sync.tc.tcSource = 1 ∧
      t.sync.tc.count = 0 ∧ t.sync.tc.fresh = false) ∧
    (c.source ≠ 1 ∨ c.present = false ∨ c.fresh = false → c.tcSource = 2 → 0 < c.num → Completes .timecodeFrameStart s [.sync, .time, .sent] fun t =>
      t.sync.tc.word = tcAdvance (tcFps c.num c.den) c.word ∧ t.sync.tc.frame = c.frame + 1 ∧ t.sync.tc.count = 0 ∧
      (c.ltcOut = true → t.sent = .ltc (tcAdvance (tcFps c.num c.den) c.word) :: s.sent)) ∧
    (∀ (r : Req) (flags : Byte) (num den : U16) (w : U64), Waiting .timecodeSet r s → r.len = 20 → flags.toNat ≤ 1 →
      generatorOk num.toNat den.toNat w = true → s.mode.mode ≠ .dormant →
      Completes (.timecodeSet r 2 flags num den w) s [.time, .mbox, .sync] fun t =>
        t.sync = { s.sync with tc := { c with waiting := some (s.time.tock.module + 100 * Config.us, 2, flags.getLsbD 0, num.toNat, den.toNat, w) } }) ∧
    (∀ (r : Req) (value : U64), Waiting .timebaseDiscipline r s → r.len = 16 → s.time.ref = 0 → s.time.refActive = 0 →
      (s.mode.mode = .dormant ∨ s.mode.mode = .ready) →
      Completes (.timebaseDiscipline r 0 1 value) s ([.time, .sync, .frame, .tandem, .clk] ++ reporting) fun t =>
        t.time.module = value.toNat ∧ t.time.setCnt = bump32 s.time.setCnt 1 ∧ t.time.now = s.time.tock.now)

/-- R74, R78, R98, R131, R147: a boundary comes at the moment that frame timing gives it; one that carries a frame takes the next number and begins its
readout, and an idle one takes none. Each row-pair period reads one row of each bank, the record closes after the last one, the slices
calibrate every 10 s in READY, and a rewritten pre-roll lets the take begin. -/
def Obligations.BoundariesBeginAndEndReadouts : Prop :=
  ∀ (s : State),
    (∀ (o : BoundaryObs) (b : Nat), nextBoundary s = some b → s.engineRuns = true →
      (s.nextNumbered = true → CompletesKeeping (.frameBoundary o) s stored fun t =>
        t.frame.index = s.frame.index + 1 ∧ t.frame.lastFrame = s.nextFrame ∧ t.frame.lastB = some (b : Int) ∧ b ≤ t.time.module ∧
        ∃ r, t.frame.readout = some r ∧ r.gov.n = s.nextFrame ∧ r.gov.boundary = b ∧ r.done = 0) ∧
      (s.nextNumbered = false → CompletesKeeping (.idleBoundary o) s stored fun t =>
        t.frame.index = s.frame.index + 1 ∧ t.frame.lastFrame = s.idleNumber ∧ t.frame.lastB = some (b : Int) ∧ b ≤ t.time.module ∧
        (s.tandem.onTsync = false → t.frame.lastFrame = s.frame.lastFrame))) ∧
    (∀ (d : PeriodData) (r : Readout), s.frame.readout = some r → r.stopAt = none → r.done < r.gov.sensor.pairs → d.linkOkTop = true →
      d.linkOkBottom = true → s.frame.linkRunB < 16 →
      Completes (.rowPairPeriod d) s ([.time, .sensor, .frame, .conv, .res] ++ reporting) fun t =>
        r.gov.boundary + 16640 + 176 * (r.done + 1) ≤ t.time.module ∧
        ∃ q, t.frame.readout = some q ∧ q.done = r.done + 1 ∧ q.gov = r.gov ∧ q.data.rows.length = r.data.rows.length + 2) ∧
    (∀ (r : Readout), s.frame.readout = some r → r.gov.sensor.pairs ≤ r.done → s.power.retire = none →
      CompletesKeeping .recordClose s (stored ++ [.mode, .settings, .power, .cal, .trust, .aux, .bus]) fun t =>
        t.frame.readout = none ∧ t.frame.shown = some r ∧ r.gov.boundary + r.gov.sensor.tMin + 80 ≤ t.time.module) ∧
    (∀ (sums : CalSums), s.mode.mode = .ready → Completes (.readySliceCalibration sums) s ([.time, .conv] ++ reporting) fun t =>
      t.conv.lastCal = t.time.now ∧ s.conv.lastCal + 10 * Config.ticksPerSecond ≤ t.time.now ∧ t.conv.single = [] ∧ t.conv.double = []) ∧
    (s.take.rewriting = true → 0 < s.take.first → Completes .prerollRewriteDone s [.take, .sent] fun t =>
      t.take.rewriting = false ∧ t.take.first = s.take.first ∧ t.take.takeId = s.take.takeId)

/-- R24, R28, R29, R31 to R34, R44, R93 to R95: a window opens with every photosite clear; a self-reset takes one step off the well and counts it,
the 64th sets SAT; the end of the window moves residual and tally into the node; an upset calibration word is written again; a trigger is
taken, kept, or counted as overrun; a gate closes. A photosite outside the array does not exist. -/
def Obligations.PhotositesAndTriggersFollowTheirRules : Prop :=
  ∀ (s : State),
    (∀ e b, s.dueWindow = some (e, b) → Completes .exposureWindowStart s [.time, .frame, .sensor] fun t =>
      t.frame.window = some ⟨e.node, b - e.endBefore, s.firstInto e.node⟩ ∧ t.frame.windows = s.frame.windows + 1 ∧ t.frame.applied = s.program ∧
      (∃ p, t.frame.strobe.head? = some p ∧ p.1 ≤ max (b - e.startBefore) s.frame.clearReady + outputLag - s.frame.sens1.trigger.advance ∧
        b - e.endBefore + outputLag - s.frame.sens1.trigger.advance ≤ p.2) ∧
      t.sensor = s.sensor.mapSites Site.fresh ∧ b - e.startBefore ≤ t.time.module) ∧
    (∀ x y well still w, s.frame.window = some w → readable x y = true →
      let p := s.sensor.site x y
      let step := s.stepAt (s.threshold w) x y
      Completes (.selfReset x y well still) s [.sensor, .free] fun t =>
        (∀ u v, (u, v) ≠ (x, y) → t.sensor.site u v = s.sensor.site u v) ∧ t.sensor.words = s.sensor.words ∧
        (p.sat = false → p.tally < 63 → step ≤ well →
          t.sensor.site x y = { p with well := well - step, tally := p.tally + 1, run := p.run || still }) ∧
        (p.sat = false → p.tally = 63 → t.sensor.site x y = { p with well := well, sat := true }) ∧
        (p.sat = true → t.sensor.site x y = { p with well := well })) ∧
    (∀ c w, s.frame.window = some w → readable c.x c.y = true → s.unread = false →
      Completes (.exposureWindowEnd [c]) s [.time, .frame, .sensor, .free] fun t =>
        t.frame.window = none ∧ t.frame.strobe = s.frame.strobe ∧ w.endAt ≤ t.time.module ∧
        let p := (if w.first then s.sensor.mapSites (fun q => q.cleared w.node) else s.sensor).site c.x c.y
        let held := p.node w.node
        let code := s.threshold w
        let sum := held.receive { p with well := c.charge }
        (held.charge = 0 → t.sensor.site c.x c.y = ({ p with well := 0 }).setNode w.node sum) ∧
        (held.charge ≠ 0 → 1000 * sum.charge < 985 * 32768 * qth code → t.sensor.site c.x c.y = ({ p with well := 0 }).setNode w.node sum) ∧
        (held.charge ≠ 0 → 32768 * qth code ≤ sum.charge → s.stepAt code c.x c.y ≤ sum.charge →
          1000 * (sum.charge - s.stepAt code c.x c.y) < 985 * 32768 * qth code → sum.tally < 63 →
          t.sensor.site c.x c.y = ({ p with well := 0 }).setNode w.node
            { sum with charge := sum.charge - s.stepAt code c.x c.y, tally := sum.tally + 1 })) ∧
    (∀ cs w, s.frame.window = some w → (∀ c ∈ cs, readable c.x c.y = true) → s.unread = true → exec (.exposureWindowEnd cs) s = .next s) ∧
    (∀ x y well still, readable x y = false → exec (.selfReset x y well still) s = .fault (.noSuchSite x y) ∧
      exec (.calWordRestore x y) s = .fault (.noSuchSite x y) ∧
      ∀ q f, exec (.exposureWindowEnd [⟨x, y, q, f⟩]) s = .fault (.noSuchSite x y)) ∧
    (∀ x y c, readable x y = true → s.pdOn (8 + tileOf x y) = true → s.cal.inForce = some c → Completes (.calWordRestore x y) s [.sensor] fun t =>
      t.sensor.words.at s.mono x y = c.words.at s.mono x y ∧ t.sensor.sites = s.sensor.sites ∧
      ∀ u v, (u, v) ≠ (x, y) → t.sensor.words.at s.mono u v = s.sensor.words.at s.mono u v) ∧
    (s.pdOn 76 = true → s.heedsTriggers = true → s.frame.sens1.trigger.mode = .triggered →
      (s.frame.flying = none → CompletesKeeping .trigInEdge s (stored ++ [.time, .mode, .settings, .ledger, .sensor, .conv, .power, .cal]) fun t =>
        (t.frame.trigTime = s.time.module ∨ s.time.module ∈ t.frame.trigLate) ∧ t.pins.trigIn = true ∧ ∃ g, t.frame.flying = some g ∧ g.edge = s.time.module) ∧
      (s.frame.flying = none → (s.take.isRunning = true → 0 < s.take.first) → Completes .trigInEdge s ([.pins, .frame] ++ reporting) fun t =>
        ∃ g, t.frame.flying = some g ∧ g.edge = s.time.module) ∧
      (s.frame.flying ≠ none → s.frame.pending = none → Completes .trigInEdge s [.pins, .frame] fun t =>
        t.frame.pending = some s.time.module ∧ t.frame.flying = s.frame.flying) ∧
      (s.frame.flying ≠ none → s.frame.pending ≠ none → Completes .trigInEdge s ([.pins, .frame] ++ reporting) fun t =>
        t.frame.overrun = bump32 s.frame.overrun 1 ∧ t.frame.flying = s.frame.flying ∧ t.frame.pending = s.frame.pending ∧
        Reports 0x0331 srcEngine t)) ∧
    (s.pdOn 76 = true → s.frame.gateOpen = true → s.frame.sens1.trigger.mode = .gated → s.heedsTriggers = true →
      Completes .gateClose s ([.pins, .frame, .sensor] ++ reporting) fun t => t.frame.gateOpen = false ∧ t.pins.trigIn = false)

/-- R366 to R370: CAL_RUN with BEGIN opens a candidate in the copy not in force; each step of a procedure comes in its order, and the last one puts what
was measured into the candidate; a step that exposes reads out full field, which the display and analysis taps show; FINISH keeps a candidate that passes every check, and discards another. CAL_INSTALL puts the candidate
in force, and CAL_ROLLBACK the other copy. -/
def Obligations.CalibrationSetsAreMadeAndInstalled : Prop :=
  ∀ (r : Req) (p k : U16) (ref : U64) (ms : U32) (m : CalMeasure) (candidate : U32) (sur : Surroundings) (s : State),
    (s.mbox.auth.role = 1 → s.cap 6 = true) →
    (Waiting .calRun r s → r.len = 20 → p.toNat ≤ 6 → s.mode.mode = .service →
      (p = 0 → k = 0 → Completes (.calRun r p k ref ms m) s [.time, .mbox, .cal] fun t =>
        AcceptedThen .calRun r 0 .ok 0 (calReply 0 0xFFFF 0 0) s t ∧ t.cal.other = none ∧ t.cal.inForce = s.cal.inForce ∧
        t.cal.candidate = none ∧ ∃ q, t.cal.run = some q ∧ q.measured = [] ∧ q.nextStep = 0xFFFF :: List.replicate 6 0) ∧
      (calDue p.toNat k.toNat ms.toNat s = false → Completes (.calRun r p k ref ms m) s [.time, .mbox] fun t =>
        Answered .calRun r true .badParam 0 [] s t) ∧
      (∀ q d, s.cal.run = some q → calDue p.toNat k.toNat ms.toNat s = true → 1 ≤ p.toNat → p.toNat ≤ 4 → m.noPowerGood = some d →
        d ∈ procedureDomains → s.usable d = true → s.pdOn d = false →
        CompletesKeeping (.calRun r p k ref ms m) s (stored ++ [.settings, .mode, .trust]) fun t => t.cal.run = some q ∧ t.pdOn d = false) ∧
      (∀ q, s.cal.run = some q → calDue p.toNat k.toNat ms.toNat s = true → 1 ≤ p.toNat → p.toNat ≤ 5 → m.noPowerGood = none →
        let next := if k.toNat + 1 < calSteps p.toNat then k.toNat + 1 else 0xFFFF
        CompletesKeeping (.calRun r p k ref ms m) s (stored ++ [.settings, .mode, .trust, .bus]) fun t =>
          t.cal.copyA = s.cal.copyA ∧ t.cal.copyB = s.cal.copyB ∧
          (s.frame.readout = none → RespondsAccepted .calRun r 0 .ok 0 (calReply k.toNat next 0 m.measured) s t ∧ t.ledger = s.ledger ∧ t.conv = s.conv ∧ t.take = s.take ∧ t.hold = s.hold ∧ t.res = s.res) ∧
          ((p = 2 ∨ p = 5) → t.frame = s.frame ∧ t.view = s.view ∧ t.sensor = s.sensor) ∧
          ((p = 1 ∨ p = 3 ∨ p = 4) → t.frame.lastFrame = s.frame.lastFrame + 1 ∧
            (∃ x, t.frame.readout = some x ∧ x.done = 0 ∧ x.gov.n = s.frame.lastFrame + 1 ∧ x.gov.sensor.window = ⟨0, 18432, 9216⟩ ∧
              x.gov.sensor.bin = 1 ∧ s.time.module + ms.toNat * Config.ms ≤ x.gov.boundary) ∧
            (∀ i, i ≠ 0 → i ≠ 2 → (t.view.ring i).state ≠ .running) ∧
            ∀ i, (i = 0 ∨ i = 2) → (s.view.ring i).state = .armed → (s.view.ring i).change ≠ some false → (t.view.ring i).state = .running) ∧
          ∃ q', t.cal.run = some q' ∧ q'.nextStep = q.nextStep.set p.toNat next ∧
            q'.measured = (if next = 0xFFFF then q.measured ++ [p.toNat] else q.measured) ∧
            (next ≠ 0xFFFF → q'.candidate.words = q.candidate.words)) ∧
      (∀ q, s.cal.run = some q → p = 6 → k = 0 → q.nextStep.getD 6 0xFFFF = 0 →
        let c := q.finished (s.cal.lastId + 1) s.mbox.auth.slot s.cal.inForce
        (firstFailing (c.checks s.mono q.badSteps m.readBack s.calSet) = none →
          (s.pdOn 44 = false → Completes (.calRun r p k ref ms m) s [.time, .mbox, .cal] fun t =>
            AcceptedThen .calRun r 0 .ok 0 (calReply 0 0xFFFF (s.cal.lastId + 1) 0) s t ∧
            t.cal = { s.cal with run := none, candidate := some (c.checked s.mono s.serial), lastId := s.cal.lastId + 1 }) ∧
          CompletesKeeping (.calRun r p k ref ms m) s (stored ++ [.settings, .mode, .trust, .bus]) fun t =>
            (s.frame.readout = none → RespondsAccepted .calRun r 0 .ok 0 (calReply 0 0xFFFF (s.cal.lastId + 1) 0) s t) ∧ t.pdOn 44 = false ∧
            t.cal = { s.cal with
              run := none, candidate := some (c.checked s.mono s.serial), lastId := s.cal.lastId + 1, wordsLoaded := t.cal.wordsLoaded }) ∧
        (∀ n, firstFailing (c.checks s.mono q.badSteps m.readBack s.calSet) = some n →
          (s.pdOn 44 = false → Completes (.calRun r p k ref ms m) s (.time :: .cal :: reporting) fun t =>
            RespondsAccepted .calRun r 0 .failed 0 [] s t ∧ t.cal = { s.cal with run := none } ∧ Reports 0x0D22 srcKeeper t) ∧
          CompletesKeeping (.calRun r p k ref ms m) s (stored ++ [.settings, .mode, .trust, .bus]) fun t =>
            (s.frame.readout = none → RespondsAccepted .calRun r 0 .failed 0 [] s t) ∧ t.pdOn 44 = false ∧ Reports 0x0D22 srcKeeper t ∧
            t.cal = { s.cal with run := none, wordsLoaded := t.cal.wordsLoaded }))) ∧
    (s.mayInstall = true → s.modeBusy = false →
      (∀ c, Waiting .calInstall r s → r.len = 8 → s.cal.candidate = some c → c.setId = candidate.toNat → sur.tilesTwice = [] → sur.noPowerGood = none → sur.upsets.copies = [] →
        Completes (.calInstall r candidate sur) s (.time :: .cal :: .sensor :: .power :: reporting) fun t =>
          t.cal.inForce = some c ∧ t.cal.other = s.cal.inForce ∧ t.cal.count = s.cal.count + 1 ∧ t.cal.lastCalTime = c.time ∧
          t.cal.candidate = none ∧ t.sensor.words = c.words ∧ t.cal.wordsLoaded = true ∧
          Reports 0x0D21 srcKeeper t ∧ RespondsAccepted .calInstall r 0 .ok 0 (t.cal.installReply) s t) ∧
      (Waiting .calRollback r s → r.len = 0 →
        (s.cal.other = none → Completes (.calRollback r sur) s [.time, .mbox] fun t => Answered .calRollback r true .notPresent 0 [] s t) ∧
        (∀ c, s.cal.other = some c → sur.tilesTwice = [] → sur.noPowerGood = none →
          Completes (.calRollback r sur) s (.time :: .cal :: .sensor :: .power :: reporting) fun t =>
            t.cal.inForce = some c ∧ t.cal.other = s.cal.inForce ∧ t.cal.count = s.cal.count ∧ Reports 0x0D23 srcKeeper t ∧
            t.sensor.words = c.words ∧ t.cal.wordsLoaded = true ∧
            RespondsAccepted .calRollback r 0 .ok 0 (t.cal.installReply) s t)))

/-- R373, R377 to R381: a word of a zone that is not finalised takes pulses, and its bits only rise towards VALUE; on a finalised zone FUSE_PROGRAM
answers LOCKED, and the keeper core's PROGRAM is ignored, each with event 0x0D08; in a ride-through the pulses wait. Finalising programs the
digest into words 126 and 127 and locks the zone; a declared word that is zero or marginal stops it. SENSE notes the marginal words and
renews the shadows. -/
def Obligations.FuseOperationsRun : Prop :=
  ∀ (r : Req) (zone : Byte) (word : U16) (value : U32) (senses : List (U32 × U32)) (declared : List U32) (fresh : List (Nat × U32))
    (weak : List ((Nat × Nat) × U32)) (s : State), s.fuse.busy = false →
    let z := zone.toNat
    let w := word.toNat
    (Waiting .fuseProgram r s → r.len = 8 → z ≤ 7 → w ≤ 127 → s.mode.mode = .service →
      (s.fuse.finalised.getD z false = true → Completes (.fuseProgram r zone word value senses) s (.time :: reporting) fun t =>
        Responds (reqOf .fuseProgram r s) .locked 0 [] s t ∧ Reports 0x0D08 srcKeeper t) ∧
      (s.fuse.finalised.getD z false = false →
        (roleZone s.mbox.auth.role z = false → Completes (.fuseProgram r zone word value senses) s [.time, .mbox] fun t =>
          Answered .fuseProgram r true .denied 0 [] s t) ∧
        (roleZone s.mbox.auth.role z = true → w < 126 → value &&& s.fuse.high z w ≠ s.fuse.high z w →
          Completes (.fuseProgram r zone word value senses) s [.time, .mbox] fun t => Answered .fuseProgram r true .badParam 0 [] s t) ∧
        (roleZone s.mbox.auth.role z = true → w < 126 → value = s.fuse.high z w →
          Completes (.fuseProgram r zone word value senses) s [.time, .mbox] fun t =>
            Answered .fuseProgram r true .ok 0 (programResponse 0 value) s t) ∧
        (roleZone s.mbox.auth.role z = true → w < 126 → bitsIn (s.fuse.high z w) value → value ≠ s.fuse.high z w →
          let q := pulseWord (s.fuse.high z w) value senses
          (s.power.ride = none → Completes (.fuseProgram r zone word value senses) s (.time :: .fuse :: .power :: reporting) fun t =>
            t.fuse.high z w = q.high ∧ bitsIn (s.fuse.high z w) q.high ∧ bitsIn q.high value ∧ (q.ok = true → q.high = value) ∧
            (∀ z' w', (z', w') ≠ (z, w) → t.fuse.high z' w' = s.fuse.high z' w') ∧ t.fuse.finalised = s.fuse.finalised ∧ t.fuse.busy = false ∧
            Reports (if q.ok then 0x0D04 else 0x0D05) srcKeeper t ∧
            RespondsAccepted .fuseProgram r 0 (if q.ok then .ok else .failed) 0 (programResponse q.pulses q.high) s t) ∧
          (s.power.ride.isSome → Completes (.fuseProgram r zone word value senses) s [.time, .mbox, .fuse, .power] fun t =>
            Accepted .fuseProgram r 0 s t ∧ t.fuse.words = s.fuse.words ∧ t.fuse.busy = true ∧
            t.fuse.waiting = some ⟨some (reqOf .fuseProgram r s), .word z w value, senses⟩)))) ∧
    (Waiting .fuseFinalize r s → r.len = 20 → z ≤ 7 → declared.length = 4 → s.mode.mode = .service → z ≠ 4 →
      126 ∉ declaredWords declared → 127 ∉ declaredWords declared → s.fuse.finalised.getD z false = false →
      roleZone s.mbox.auth.role z = true →
      (∀ k, badWord z declared fresh s.fuse = some k → Completes (.fuseFinalize r zone declared fresh senses) s (.time :: reporting) fun t =>
        Responds (reqOf .fuseFinalize r s) .badParam 0 [] s t ∧ Reports 0x0D07 srcKeeper t) ∧
      (badWord z declared fresh s.fuse = none → s.power.ride = none → s.fuse.high z 126 = 0 → s.fuse.high z 127 = 0 →
        let d := zoneDigest z (s.fuse.high z)
        Completes (.fuseFinalize r zone declared fresh []) s (.time :: .fuse :: .power :: reporting) fun t =>
          t.fuse.finalised = s.fuse.finalised.set z true ∧ t.fuse.high z 126 = d.1 ∧ t.fuse.high z 127 = d.2 ∧
          (∀ z' w', (z', w') ≠ (z, 126) → (z', w') ≠ (z, 127) → t.fuse.high z' w' = s.fuse.high z' w') ∧ Reports 0x0D06 srcKeeper t ∧
          RespondsAccepted .fuseFinalize r 0 .ok 0 (leBytes 4 d.1.toNat ++ leBytes 4 d.2.toNat) s t)) ∧
    (s.power.aoOn = true →
      (let a := s.fuse.addr.toNat / 128 % 8
       let b := s.fuse.addr.toNat % 128
       (s.fuse.finalised.getD a false = true → Completes (.program senses) s (.regs :: reporting) fun t =>
          t.regs.rejCnt = bump32 s.regs.rejCnt 1 ∧ Reports 0x0D08 srcKeeper t) ∧
       (s.fuse.finalised.getD a false = false → bitsIn (s.fuse.high a b) s.fuse.data → s.fuse.data ≠ s.fuse.high a b → s.power.ride = none →
          let q := pulseWord (s.fuse.high a b) s.fuse.data senses
          Completes (.program senses) s (.fuse :: .power :: reporting) fun t =>
            t.fuse.high a b = q.high ∧ (∀ z' w', (z', w') ≠ (a, b) → t.fuse.high z' w' = s.fuse.high z' w') ∧
            t.fuse.finalised = s.fuse.finalised ∧ t.fuse.readback = q.high ∧ t.fuse.pulses = q.pulses ∧ t.fuse.lastFailed = !q.ok) ∧
       (a ≠ 4 → 126 ∉ declaredWords s.fuse.declared → 127 ∉ declaredWords s.fuse.declared → s.fuse.finalised.getD a false = false →
          badWord a s.fuse.declared fresh s.fuse = none → s.power.ride = none → s.fuse.high a 126 = 0 → s.fuse.high a 127 = 0 →
          Completes (.finalize fresh []) s (.fuse :: .power :: reporting) fun t =>
            t.fuse.finalised = s.fuse.finalised.set a true ∧
            (t.fuse.high a 126, t.fuse.high a 127) = zoneDigest a (s.fuse.high a) ∧ Reports 0x0D06 srcKeeper t)) ∧
      Completes (.sense weak) s (.fuse :: reporting) fun t =>
        t.fuse.words = s.fuse.words ∧ t.fuse.finalised = s.fuse.finalised ∧ t.fuse.weak = weak ∧ t.fuse.opCnt = bump32 s.fuse.opCnt 1 ∧
        (∀ x y, s.fuse.dropped x = false → t.fuse.word x y = (s.fuse.high x y).toNat) ∧
        (∀ x y, (x, y) ∈ t.fuse.marginal ↔ x < 8 ∧ y < 128 ∧ t.fuse.low x y ≠ t.fuse.high x y) ∧
        (t.fuse.marginal ≠ [] → Reports 0x0D01 srcKeeper t))

/-- R384, R385: the pieces of an image follow each other, and the last one is verified and stored in the slot that is not active; FW_ACTIVATE names that
slot and has a warm reset follow 1 ms later, and so does RESET_WARM. The self-test's report lets the module leave DORMANT with the
thermometer advanced to FW_SVN; without it the previous slot is named and the module resets. -/
def Obligations.FirmwareIsStagedAndActivated : Prop :=
  ∀ (r : Req) (offset total : U32) (flags : Byte) (data : List Byte) (sur : Surroundings) (s : State),
    (Waiting .fwStage r s → r.len = 12 + data.length → data.length ≤ 4084 →
      (∀ g, s.staging = some g → g.total = total.toNat → offset.toNat = g.bytes.length → g.bytes.length + data.length ≤ total.toNat →
        (flags = 0 → Completes (.fwStage r offset total flags data) s [.time, .mbox, .trust] fun t =>
          Answered .fwStage r true .ok 0 (leBytes 8 Config.stagedSoFar.toNat) s t ∧
          t.trust = { s.trust with staging := some ⟨r.chan, (s.mbox.get r.chan).gen, total.toNat, g.bytes ++ data⟩ }) ∧
        (flags = 1 → g.bytes.length + data.length = total.toNat →
          Completes (.fwStage r offset total flags data) s (.time :: .trust :: reporting) fun t =>
            let all := g.bytes ++ data
            let i := imageOf (all.take 4096) (all.drop 4096)
            t.trust.staging = none ∧ t.trust.activeB = s.trust.activeB ∧ t.trust.slot s.trust.activeB = s.trust.slot s.trust.activeB ∧
            (imagePasses (all.take 4096) (all.drop 4096) s = true → t.trust.slot (!s.trust.activeB) = some i ∧ Reports 0x0D15 srcKeeper t ∧
              RespondsAccepted .fwStage r 0 .ok 0 (leBytes 4 i.version ++ leBytes 4 i.svn) s t) ∧
            (imagePasses (all.take 4096) (all.drop 4096) s = false → t.trust = { s.trust with staging := none } ∧
              Reports 0x0D16 srcKeeper t ∧ RespondsAccepted .fwStage r 0 .failed 0 [] s t))) ∧
      (s.staging = none → flags = 0 → offset = 0 → data.length ≤ total.toNat →
        Completes (.fwStage r offset total flags data) s [.time, .mbox, .trust] fun t =>
          t.trust.slot (!s.trust.activeB) = none ∧ t.trust.slot s.trust.activeB = s.trust.slot s.trust.activeB ∧
          t.trust.staging = some ⟨r.chan, (s.mbox.get r.chan).gen, total.toNat, data⟩) ∧
      (flags.toNat ≤ 1 → offset.toNat ≠ ((s.staging.map (·.bytes)).getD []).length →
        Completes (.fwStage r offset total flags data) s [.time, .mbox, .trust] fun t =>
          t.trust = { s.trust with staging := none } ∧ Answered .fwStage r true .badParam 0 [] s t)) ∧
    (Waiting .fwActivate r s → r.len = 0 → s.mode.mode = .service → s.modeBusy = false → s.staging = none →
      ((s.trust.slot (!s.trust.activeB)).isSome → Completes (.fwActivate r) s [.time, .mbox, .trust, .pins] fun t =>
        t.trust = { s.trust with bootB := !s.trust.activeB, selfTest := some t.time.now } ∧
        t.pins = { s.pins with resetAt := some (t.time.now + Config.ms) } ∧
        AcceptedThen .fwActivate r 0 .ok 0 (leBytes 1 (bit (!s.trust.activeB) 0) ++ zeros 7) s t) ∧
      (s.trust.slot (!s.trust.activeB) = none → Completes (.fwActivate r) s [.time, .mbox] fun t =>
        Answered .fwActivate r true .notPresent 0 [] s t)) ∧
    (Waiting .resetWarm r s → r.len = 4 → flags.toNat ≤ 1 →
      (flags = 1 ∨ (s.mode.mode ≠ .take ∧ s.mode.mode ≠ .burst) → Completes (.resetWarm r flags) s [.time, .mbox, .pins] fun t =>
        t.pins = { s.pins with resetAt := some (t.time.now + Config.ms) } ∧ Answered .resetWarm r true .ok 0 [] s t) ∧
      (flags = 0 → (s.mode.mode = .take ∨ s.mode.mode = .burst) → Completes (.resetWarm r flags) s [.time, .mbox] fun t =>
        Answered .resetWarm r true .wrongMode 0 [] s t)) ∧
    (s.testing = true →
      (∀ at', s.trust.selfTest = some at' → s.time.now ≤ at' + 5 * Config.ticksPerSecond → s.power.ride = none →
        CompletesKeeping (.fwSelfTestPass [] sur) s [.pending, .profiles] fun t =>
          t.trust.selfTest = none ∧ t.trust.slotA = s.trust.slotA ∧ t.trust.slotB = s.trust.slotB ∧ t.trust.activeB = s.trust.activeB ∧
          (s.fwSvn ≤ s.fuse.svnMin → t.fuse.words = s.fuse.words) ∧
          (s.fuse.svnMin < s.fwSvn → ∀ w, w < 126 → t.fuse.high 4 w = thermoWord s.fwSvn w ||| s.fuse.high 4 w) ∧
          (∀ z w, z ≠ 4 → t.fuse.high z w = s.fuse.high z w)) ∧
      (s.dumpWriting = false → CompletesKeeping (.fwSelfTestTimeout sur) s [.pending] fun t =>
        t.profiles = upsetProfiles sur.upsets s.profiles ∧
        t.trust.selfTest = none ∧ t.trust.slotA = s.trust.slotA ∧ t.trust.slotB = s.trust.slotB ∧ t.fuse.words = s.fuse.words ∧
        (t.trust.romOnly = false → t.trust.activeB = t.trust.bootB) ∧ (∀ ch, (t.mbox.get ch).enable = false)))

/-- R9, R153, R437, R440, R466: a cold reset finds its inputs and straps and boots the profile that the straps choose; a warm reset boots the profile
in use; MOD_RESET# holds the module in reset with every domain off until its rising edge. The profiles, the fuses, the finalised zones
and the firmware slots outlast each; the channels are discarded. -/
def Obligations.ResetsKeepTheirStores : Prop :=
  ∀ (c : ColdStart) (sur : Surroundings) (s : State),
    ((c.ac || c.dc) = true → CompletesKeeping (.coldReset c) s [.pending] fun t =>
      t.profiles = upsetProfiles c.around.upsets s.profiles ∧
      t.mode.profile = strapProfile c ∧ t.power.acPresent = c.ac ∧ t.power.dcPresent = c.dc ∧ t.pins.psel0 = c.psel0 ∧ t.pins.psel1 = c.psel1 ∧
      t.settings = (t.readProfile (strapProfile c)).1.settings ∧ t.fuse.words = s.fuse.words ∧ t.fuse.finalised = s.fuse.finalised ∧
      t.fuse.sensed = true ∧ t.trust.slotA = s.trust.slotA ∧ t.trust.slotB = s.trust.slotB ∧ t.mbox.claims = [] ∧
      (∀ ch, (t.mbox.get ch).enable = false)) ∧
    (s.resettable = true → s.pins.inReset = false → s.dumpWriting = false →
      (CompletesKeeping (.warmReset sur) s [.pending] fun t =>
        t.profiles = upsetProfiles sur.upsets s.profiles ∧
        t.mode.profile = s.mode.profile ∧ t.settings = (t.readProfile s.mode.profile).1.settings ∧ t.fuse.words = s.fuse.words ∧
        t.fuse.finalised = s.fuse.finalised ∧ t.fuse.sensed = true ∧ t.trust.slotA = s.trust.slotA ∧ t.trust.slotB = s.trust.slotB ∧
        t.trust.debugOpen = s.trust.debugOpen ∧ t.frame.lastFrame = s.frame.lastFrame ∧ t.pins.resetAt = none ∧
        (∀ q, s.pins.resetAt = some q → q ≤ t.time.now) ∧ (∀ ch, (t.mbox.get ch).enable = false)) ∧
      (CompletesKeeping .modResetAssert s [.pending, .profiles] fun t =>
        t.pins.inReset = true ∧ t.pins.modReset = true ∧ t.fuse.words = s.fuse.words ∧ t.fuse.finalised = s.fuse.finalised ∧
        (∀ d, d < 80 → t.pdOn d = false) ∧ (∀ ch, (t.mbox.get ch).enable = false))) ∧
    (s.resettable = true → s.pins.inReset = true → CompletesKeeping (.modResetRelease sur) s [.pending] fun t =>
      t.profiles = upsetProfiles sur.upsets s.profiles ∧
      t.pins.inReset = false ∧ t.pins.modReset = false ∧ t.fuse.sensed = true ∧ t.fuse.words = s.fuse.words ∧
      t.trust.debugOpen = s.trust.debugOpen)

/-- R179, R390, R391, R397, R399: an input that goes away moves the draw to the other, or starts a ride-through; one that comes back ends the
ride-through, or has AC wait for its 1.0 s; an input out of range counts as absent. A ride-through ends after 20.0 ms, or at V_RETIRE, with the
retire: with no readout in progress PD-AO goes off, and else the record closes first. -/
def Obligations.InputsMoveTheDraw : Prop :=
  ∀ (s : State), s.power.aoOn = true → s.power.retire = none →
    (s.power.acPresent = true → s.power.draw = .ac →
      (s.power.dcPresent = true → Completes .acAbsent s (.power :: reporting) fun t =>
        t.power = { s.power with acPresent := false, acSince := none, draw := .dc, transferCnt := bump32 s.power.transferCnt 1 } ∧
        Reports 0x0101 srcAo t ∧ Reports 0x0103 srcAo t ∧ Fires false 30 s t) ∧
      (s.power.dcPresent = false → Completes .acAbsent s (.power :: reporting) fun t =>
        t.power = { s.power with acPresent := false, acSince := none, draw := .none, ride := some s.time.now,
                                 rideCnt := bump32 s.power.rideCnt 1, holdState := .discharging } ∧ Reports 0x0101 srcAo t ∧ Fires false 30 s t) ∧
      Completes (.inputOutOfRange true) s (.power :: reporting) fun t =>
        (s.power.acRange = false → t.power.acPresent = false ∧ t.power.acRange = true ∧ Reports 0x0107 srcAo t ∧ Reports 0x0101 srcAo t)) ∧
    (s.power.dcPresent = true → s.power.draw = .dc →
      (s.power.acPresent = true → Completes .dcAbsent s (.power :: reporting) fun t =>
        t.power = { s.power with dcPresent := false, acSince := none, draw := .ac, transferCnt := bump32 s.power.transferCnt 1 } ∧
        Reports 0x0102 srcAo t ∧ Reports 0x0104 srcAo t ∧ Fires false 30 s t) ∧
      (s.power.acPresent = false → Completes .dcAbsent s (.power :: reporting) fun t =>
        t.power = { s.power with dcPresent := false, acSince := none, draw := .none, ride := some s.time.now,
                                 rideCnt := bump32 s.power.rideCnt 1, holdState := .discharging } ∧ Reports 0x0102 srcAo t ∧ Fires false 30 s t) ∧
      (s.power.acPresent = false → Completes (.inputPresent true) s [.power] fun t =>
        t.power = { s.power with acPresent := true, acRange := false, acSince := some s.time.now }) ∧
      Completes (.inputOutOfRange false) s (.power :: reporting) fun t =>
        (s.power.dcRange = false → t.power.dcPresent = false ∧ t.power.dcRange = true ∧ Reports 0x0107 srcAo t ∧ Reports 0x0102 srcAo t)) ∧
    (∀ q, s.power.acSince = some q → s.power.acPresent = true → s.power.draw = .dc →
      Completes .acReturnSettled s (.time :: .power :: reporting) fun t =>
        t.power = { s.power with draw := .ac, acSince := none, transferCnt := bump32 s.power.transferCnt 1 } ∧
        q + Config.ticksPerSecond ≤ t.time.now ∧ Reports 0x0104 srcAo t ∧ Fires false 30 s t) ∧
    (∀ q, s.power.ride = some q →
      (∀ ac, (if ac then s.power.acPresent else s.power.dcPresent) = false → s.power.draw = .none → s.fuse.waiting = none →
        Completes (.inputPresent ac) s (.power :: reporting) fun t =>
          t.power.ride = none ∧ t.power.draw = (if ac then .ac else .dc) ∧ t.power.lastRide = (s.time.now - q) / 1000 % 2 ^ 16 ∧
          t.power.holdState = (if 4600 ≤ s.power.holdVolts then .ready else .charging) ∧ Reports 0x0106 srcAo t ∧ Fires false 30 s t) ∧
      (s.frame.readout.isSome →
        (CompletesKeeping .rideThroughExpiry s [.pending, .profiles, .cal, .trust, .clk, .thermal] fun t =>
          t.power.retire.isSome ∧ t.power.pwrGood = false ∧ t.frame.halted = true ∧ t.frame.window = none ∧ q + 20 * Config.ms ≤ t.time.now ∧
          t.fuse.words = s.fuse.words ∧ Reports 0x0423 srcAo t) ∧
        (CompletesKeeping .storeAtVRetire s [.pending, .profiles, .time, .cal, .trust, .clk, .thermal] fun t =>
          t.power.retire.isSome ∧ t.power.holdVolts = s.vRetire ∧ t.frame.halted = true ∧ t.fuse.words = s.fuse.words ∧ Reports 0x0423 srcAo t)) ∧
      (s.frame.readout = none → s.mode.change = none → s.hold.locked = false → s.hold.degraded = false →
        ∀ i ∈ ([.rideThroughExpiry, .storeAtVRetire] : List Instr), CompletesKeeping i s [.pending, .profiles] fun t =>
          t.power.aoOn = false ∧ t.fuse.words = s.fuse.words ∧ t.fuse.finalised = s.fuse.finalised ∧
          (s.mode.mode ≠ .dormant → ∃ n, t.hold.retire = some n ∧ n.cause = 1)))

/-- R392, R405, R473 to R475: a load sample is stored, and PFC_EN follows the AC power; a load above 148 W for 100 ms caps the cooler, and below 140 W
for 1 s frees it. The temperatures are compared, with 2.0 °C of hysteresis and events at a crossing; POWER_TEMP above 105 °C is
a power stage fault. The codes of powered tiles are taken, and a faulty sensor is logged once. -/
def Obligations.LoadAndTemperaturesAreWatched : Prop :=
  ∀ (load acPower dcPower acVolts acHz dcVolts store : Nat) (pd : List Nat) (stack genaz hold power : Int) (codes : List (BitVec 12)) (s : State),
    (s.power.aoOn = true →
      (Completes (.loadSample load acPower dcPower acVolts acHz dcVolts store pd) s (.time :: .power :: reporting) fun t =>
        t.power.load = load ∧ t.power.acPower = acPower ∧ t.power.dcPower = dcPower ∧ t.power.acVolts = acVolts ∧ t.power.holdVolts = store ∧
        t.power.sampled = t.time.now ∧ s.power.sampled + 10 * Config.ms ≤ t.time.now ∧
        (200 < acPower → t.power.pfcEn = true) ∧ (acPower < 120 → t.power.pfcEn = false) ∧
        (120 ≤ acPower → acPower ≤ 200 → t.power.pfcEn = s.power.pfcEn) ∧
        (1480 < load → s.power.overSince = none → t.power.overSince = some t.time.now ∧ t.power.loadCap = s.power.loadCap) ∧
        (1480 < load → ∀ q, s.power.overSince = some q → q + 100 * Config.ms ≤ t.time.now →
          t.power.loadCap = some (pd.getD 79 0 % 2 ^ 16 / 10 - (load - 1480)) ∧ t.power.loadLimitCnt = bump32 s.power.loadLimitCnt 1 ∧
          Reports 0x010B srcAo t) ∧
        (load < 1400 → s.power.loadCap.isSome → ∀ q, s.power.underSince = some q → q + Config.ticksPerSecond ≤ t.time.now →
          t.power.loadCap = none) ∧
        (1400 ≤ load → load ≤ 1480 → t.power.loadCap = s.power.loadCap)) ∧
      ((power ≤ 1680 ∨ s.power.stageFault = true) →
        Completes (.thermalCheck stack genaz hold power) s (.time :: .thermal :: reporting) fun t =>
          t.thermal.stack = stack ∧ t.thermal.genaz = genaz ∧ t.thermal.hold = hold ∧ t.thermal.power = power ∧
          t.thermal.working = rampSetpoint s.thermal.applied s.thermal.working ∧ s.thermal.checked + 10 * Config.ms ≤ t.time.now ∧
          t.thermal.applied = s.thermal.applied ∧
          (1520 < genaz → t.thermal.genazHot = true ∧ (s.thermal.genazHot = false → Reports 0x010D srcAo t)) ∧
          (genaz < 1488 → t.thermal.genazHot = false) ∧
          (1488 ≤ genaz → genaz ≤ 1520 → t.thermal.genazHot = s.thermal.genazHot) ∧
          (s.pdOn 79 = true → 800 < (100 * stack - t.thermal.working).natAbs → t.thermal.outOfBand = true) ∧
          (s.thermal.states.any id = true → t.thermal.states.any id = false → Reports 0x010E srcAo t)) ∧
      (1680 < power → s.power.stageFault = false →
        CompletesKeeping (.thermalCheck stack genaz hold power) s (stored ++ [.cal, .trust]) fun t =>
          t.thermal.power = power ∧ t.power.stageFault = true ∧ t.dump.fatal.isSome ∧ t.pins.fault = (s.pins.fault || s.dump.fatal.isNone) ∧
          Reports 0x0108 srcAo t)) ∧
    Completes (.tileTempSample codes) s (.sensor :: reporting) fun t =>
      t.sensor.words = s.sensor.words ∧ t.sensor.sites = s.sensor.sites ∧
      ∀ n, n < 8 →
        (s.pdOn (8 + n) = true → ∀ c, codes[n]? = some c → t.sensor.temps[n]? = some c.toInt) ∧
        (s.pdOn (8 + n) = false → t.sensor.temps[n]? = some (s.sensor.temps.getD n 0) ∧ t.sensor.faulty[n]? = some (s.sensor.faulty.getD n false)) ∧
        (t.sensor.faulty[n]? = some true → s.sensor.faulty.getD n false = false → Reports 0x0312 (srcTile n) t)

/-- R187 to R191, R196, R197, R204, R276: PERST#, a hot reset or a loss of the link discards CH1, has CH0 and CH2 write their copies again, stops the
rings with reason 3 and ends a secured session; a function-level reset discards its own channels. The link trains, narrows and rests in L2;
Bus Master Enable, D3hot and MSI-X hold back what a function sends, and let it go again. -/
def Obligations.HostLinkChangesState : Prop :=
  ∀ (rate width mps : Nat) (flit : Bool) (fn : Func) (enable mask : Bool) (s : State),
    let p := decide (fn = .pf1)
    (∀ i ∈ ([.perst true] ++ (if s.link.state = .down ∨ s.link.state = .l2 then [] else [.linkDown]) : List Instr),
      Completes i s ([.view, .trust, .regs] ++ reporting) fun t =>
        t.link.state = .down ∧ t.link.pf0.bme = false ∧ t.link.pf1.bme = false ∧ t.trust = { s.trust with secured := false } ∧
        t.mbox.c1 = s.mbox.c1.discarded ∧
        t.mbox.c0 = { s.mbox.c0 with rewrite := s.mbox.c0.copies.length, owed := s.mbox.c0.outgoing.length } ∧
        t.mbox.c2 = { s.mbox.c2 with rewrite := s.mbox.c2.copies.length, owed := s.mbox.c2.outgoing.length } ∧ t.mbox.auth.role = 0 ∧ t.mbox.claims = s.mbox.claims ∧
        t.view.rings = s.view.rings.map ViewRing.linkStop ∧ t.regs.waiting = none ∧ Reports 0x0501 srcHost t) ∧
    (Completes (.perst false) s [.link] fun t => t.link = { s.link with perst := false }) ∧
    (s.pdOn 55 = true → s.pdOn 56 = true → s.link.perst = false → s.clk.refclk = true → s.power.retire = none →
      Completes (.linkTrained rate width flit mps) s (.res :: reporting) fun t =>
        t.link.state = .l0 ∧ t.link.rate = (if flit = true then rate else min rate 320) ∧ t.link.width = (if width = 2 then 1 else width) ∧
        t.link.active = t.link.width ∧ t.link.flit = flit ∧ t.link.mps = mps ∧
        (s.reads = false → t.sent.head? = some (.askWidth 1)) ∧ Reports 0x0502 srcHost t) ∧
    (s.link.live = true → s.link.flit = true → 0 < width →
      (width < s.link.width → width ≠ s.link.asked → Completes (.l0pNarrowing width) s (.time :: reporting) fun t =>
        t.link.state = .l0p ∧ t.link.active = width ∧ t.link.asked = s.link.width ∧ s.time.now + Config.ms ≤ t.time.now ∧
        t.sent.head? = some (.askWidth s.link.width) ∧ look t.log.reported (srcHost, 0x050A) = some s.time.now) ∧
      (width < s.link.width → width = s.link.asked → Completes (.l0pNarrowing width) s [.link] fun t =>
        t.link = { s.link with state := .l0p, active := width }) ∧
      (s.link.width ≤ width → CompletesKeeping (.l0pNarrowing width) s (stored ++ [.time, .settings, .cal, .power]) fun t =>
        t.link.state = .l0 ∧ t.link.active = s.link.width)) ∧
    (Completes .flrPf0 s (.regs :: reporting) fun t =>
      t.mbox.c0 = s.mbox.c0.discarded ∧ t.mbox.c2 = s.mbox.c2.discarded ∧ t.mbox.c1 = s.mbox.c1 ∧ t.mbox.auth.role = 0 ∧
      t.mbox.ring.enable = s.mbox.ring.enable ∧ t.link.pf0.bme = false ∧ t.link.state = s.link.state ∧ t.regs.waiting = none ∧
      Reports 0x0507 srcHost t) ∧
    (Completes .flrPf1 s (.view :: reporting) fun t =>
      t.mbox.c1 = s.mbox.c1.discarded ∧ t.mbox.c0 = s.mbox.c0 ∧ t.mbox.c2 = s.mbox.c2 ∧ t.link.pf1.bme = false ∧ t.link.state = s.link.state ∧
      t.view.rings = s.view.rings.map ViewRing.linkStop ∧ Reports 0x0508 srcHost t) ∧
    (s.link.hears = true →
      (s.mode.mode = .dormant → s.power.permitL2 = true → Completes .pmeTurnOff s [.link, .sent] fun t =>
        t.link = { s.link with state := .l2, active := 0 } ∧ t.sent = .pmeToAck :: s.sent) ∧
      ((s.mode.mode ≠ .dormant ∨ s.power.permitL2 = false) → Completes .pmeTurnOff s [.sent] fun t => t.sent = .pmeToAck :: s.sent)) ∧
    (s.link.hears = false → exec .pmeTurnOff s = .next s) ∧
    (Completes (.busMasterEnable fn false) s [.link] fun t =>
      t.link = s.link.setFunc p { s.link.func p with bme := false } ∧ t.link.mayWrite p = false) ∧
    (Completes (.d3hotEntry fn) s [.link] fun t =>
      t.link = s.link.setFunc p { s.link.func p with d3hot := true } ∧ t.link.mayWrite p = false ∧ t.link.takes p = false) ∧
    (fn = .pf1 →
      ((s.link.pf1.bme = false → Completes (.busMasterEnable fn true) s [.link, .sent] fun t =>
          t.link.pf1.bme = true ∧ t.link.pf0 = s.link.pf0 ∧ ∀ n, n < 64 → t.link.vectorOpen true n = true → n ∉ t.link.pf1.pba) ∧
       (s.link.pf1.d3hot = true → Completes (.d3hotExit fn) s [.link, .sent] fun t =>
          t.link.pf1.d3hot = false ∧ t.link.pf0 = s.link.pf0 ∧ ∀ n, n < 64 → t.link.vectorOpen true n = true → n ∉ t.link.pf1.pba))) ∧
    (fn = .pf0 →
      (CompletesKeeping (.busMasterEnable fn true) s (stored ++ [.time, .settings, .cal, .power]) fun t => t.link.pf0.bme = true) ∧
      (CompletesKeeping (.d3hotExit fn) s (stored ++ [.time, .settings, .cal, .power]) fun t => t.link.pf0.d3hot = false)) ∧
    Completes (.msixEnable fn enable mask) s [.link, .sent] fun t =>
      (t.link.func p).msixEnable = enable ∧ (t.link.func p).msixMask = mask ∧ (t.link.func p).table = (s.link.func p).table ∧
      (enable = false → (t.link.func p).pba = (s.link.func p).pba) ∧
      (enable = true → (s.link.func p).msixEnable = false → ∀ n ∈ s.unserviced p,
        if t.link.vectorOpen p n then Out.vector p n ∈ t.sent else n ∈ (t.link.func p).pba)

/-- R186, R187, R191 to R195: the identification of Table 8-3, the types and sizes of the BARs of Table 8-5, and the structures of Table 8-4, each with its ID and the offset of
the next; IDE is left out where its feature bit is clear. Until the fuses are sensed every read is retried. Configuration writes move Bus Master
Enable, the power state, the payload size of the port, and the permission of L1, which an LTR message follows. -/
def Obligations.ConfigurationSpaceAnswers : Prop :=
  ∀ (pf1 : Bool) (off : Nat) (v : U64) (s : State),
    (s.fuse.sensed = false → readConfig pf1 off s = none) ∧
    (s.fuse.sensed = true →
      readConfig pf1 0x00 s = some (0x1E9C + 2 ^ 16 * (if pf1 = true then 0x9171 else 0x9170)) ∧
      readConfig pf1 0x2C s = some s.subsystem ∧
      (∀ o ∈ [0x20, 0x24, 0x30], readConfig pf1 o s = some 0) ∧
      (∀ e ∈ s.extended pf1, ∃ w, readConfig pf1 e.1 s = some w ∧ w % 2 ^ 16 = e.2.1 ∧
        (w / 2 ^ 20 = 0 ∨ ∃ e2 ∈ s.extended pf1, w / 2 ^ 20 = e2.1 ∧ e.1 < e2.1)) ∧
      (s.extended true).map (·.1) = [0x100, 0x148] ∧
      (s.cap 5 = false → ∀ e ∈ s.extended false, e.1 ≠ 0x300) ∧
      (∀ o, 0x158 ≤ o → o < 0x1000 → readConfig true o s = some 0) ∧
      (s.link.live = true →
        (Completes (.registerWrite (if pf1 = true then .pf1 else .pf0) .pf0 0x10 .config 0xFFFFFFFF) s [.link] fun t =>
          readConfig pf1 0x10 t = some (2 ^ 32 - (if pf1 = true then 2 ^ 16 else 2 ^ 18) + 4)) ∧
        (Completes (.registerWrite .pf0 .pf0 0x18 .config 0xFFFFFFFF) s [.link] fun t => readConfig false 0x18 t = some 12) ∧
        (Completes (.registerWrite .pf0 .pf0 0x1C .config 0xFFFFFFFF) s [.link] fun t => readConfig false 0x1C t = some (2 ^ 32 - 16)) ∧
        (v.getLsbD 2 = false → Completes (.registerWrite (if pf1 = true then .pf1 else .pf0) .pf0 0x04 .config v) s [.link] fun t =>
          (t.link.func pf1).bme = false ∧ (t.link.func !pf1) = s.link.func !pf1) ∧
        (v.getLsbD 2 = true → (s.link.func pf1).bme = true →
          Completes (.registerWrite (if pf1 = true then .pf1 else .pf0) .pf0 0x04 .config v) s [.link] fun t =>
            (t.link.func pf1).bme = true ∧ (t.link.func !pf1) = s.link.func !pf1) ∧
        (∀ c, c < 6 → Completes (.registerWrite .pf0 .pf0 0x58 .config (BitVec.ofNat 64 (32 * c))) s (.res :: reporting) fun t =>
          t.link.mps = 128 * 2 ^ c) ∧
        (Completes (.registerWrite (if pf1 = true then .pf1 else .pf0) .pf0 0x10C .config v) s [.link] fun t =>
          (t.link.aer pf1).severity = v.toNat % 2 ^ 32) ∧
        (Completes (.registerWrite .pf1 .pf0 0x44 .config 3) s [.link] fun t =>
          t.link.pf1.d3hot = true ∧ t.link.pf1.bme = s.link.pf1.bme ∧ t.link.pf0 = s.link.pf0) ∧
        (s.link.l1Permit = true → s.link.pf1.config.linkCtl = 2 → s.link.pf0.config.linkCtl = 0 →
          Completes (.registerWrite .pf0 .pf0 0x60 .config 2) s [.link, .sent] fun t =>
            t.link.l1Open = true ∧ t.sent = .ltr s.link.ltr :: s.sent)))

/-- R200, R201, R205, R387, R388: link errors set their AER bit and are logged; a failed IDE stream takes no request until it is keyed again. The DOE
mailbox answers one object at a time, opens and ends the secured session, and discards a response at an abort; only in that session are keys of
the link and the take key-encryption key taken. -/
def Obligations.LinkErrorsAndDoeAnswer : Prop :=
  ∀ (fn : Func) (off : Nat) (i : Byte) (bs rx tx kek : List Byte) (indices : List Byte) (fetched : Bool) (s : State),
    let p := decide (fn = .pf1)
    (s.link.hears = true →
      (Completes .unexpectedCompletion s reporting fun t => t.link.aer0.status.testBit 16 = true ∧ Reports 0x0506 srcHost t) ∧
      (Completes (.bar0AccessError (.poisoned fn off)) s reporting fun t => (t.link.aer p).status.testBit 12 = true ∧ Reports 0x0504 srcHost t) ∧
      ((s.link.aer p).ecrcCheck = true → Completes (.bar0AccessError (.ecrc fn off)) s reporting fun t =>
        (t.link.aer p).status.testBit 19 = true ∧ Reports 0x0504 srcHost t) ∧
      (Completes (.bar0AccessError (.badSize fn off)) s reporting fun t =>
        (t.link.aer p).status.testBit 20 = true ∧ Reports 0x0503 srcHost t ∧ t.sent.head? = some (.completion .unsupported))) ∧
    (s.link.hears = false → exec .unexpectedCompletion s = .next s ∧ exec (.bar0AccessError (.poisoned fn off)) s = .next s) ∧
    (s.link.ide.started = true → Completes .ideIntegrityFailure s reporting fun t =>
      t.link.ide = { s.link.ide with insecure := true } ∧ (∀ p, t.link.takes p = false) ∧ Reports 0x0509 srcHost t) ∧
    (s.link.doe.response.isSome → Completes (.doeRequest (.discovery i) false) s [.link, .sent] fun t =>
      t.link.doe = { s.link.doe with busyCnt := s.link.doe.busyCnt + 1 } ∧ t.sent = .doeBusy :: s.sent) ∧
    ((s.link.doe.response = none ∨ fetched = true) →
      (Completes (.doeRequest (.discovery i) fetched) s [.link, .sent] fun t =>
        t.link.doe.response = some (discoveryAnswer i.toNat) ∧ t.sent = .doe (discoveryAnswer i.toNat) :: s.sent) ∧
      (bs.length ≤ 4088 → spdmVersionOk bs = true → Completes (.doeRequest (.openSession bs) fetched) s [.link, .sent, .trust, .free] fun t =>
        t.trust = { s.trust with secured := true } ∧ t.link.doe.response.isSome) ∧
      (Completes (.doeRequest .endSession fetched) s [.link, .sent, .trust, .free] fun t =>
        t.trust = { s.trust with secured := false } ∧ t.link.doe.response.isSome)) ∧
    (Completes .doeAbort s [.link] fun t => t.link = { s.link with doe := { s.link.doe with response := none } }) ∧
    (s.link.doe.response.isSome →
      ∀ c ∈ ([.ideKm ⟨false, rx⟩ tx, .kekSet ⟨false, kek⟩, .getMeasurements ⟨false, indices⟩] : List Instr), Completes c s [.link, .sent] fun t =>
        t.link.doe = { s.link.doe with busyCnt := s.link.doe.busyCnt + 1 } ∧ t.sent = .doeBusy :: s.sent) ∧
    ((s.link.doe.response = none ∨ fetched = true) →
      (s.trust.secured = true → s.cap 5 = true → Completes (.ideKm ⟨fetched, rx⟩ tx) s [.link, .sent, .free] fun t =>
        (rx ≠ [] → t.link.ide.rxKey = some rx ∧ t.link.ide.insecure = false) ∧ (tx ≠ [] → t.link.ide.txKey = some tx) ∧
        (rx = [] → t.link.ide.rxKey = s.link.ide.rxKey ∧ t.link.ide.insecure = s.link.ide.insecure)) ∧
      ((s.trust.secured = false ∨ s.cap 5 = false) → Completes (.ideKm ⟨fetched, rx⟩ tx) s [.link, .sent, .free] fun t =>
        t.link.ide = s.link.ide) ∧
      (s.takesKek = true → kek.length = 32 → Completes (.kekSet ⟨fetched, kek⟩) s (.trust :: reporting) fun t =>
        t.trust = { s.trust with kek := some kek } ∧ t.link.doe.response = some [1, 0, 0, 0] ∧ Reports 0x0D31 srcKeeper t) ∧
      (s.takesKek = false → Completes (.kekSet ⟨fetched, kek⟩) s [.link, .sent] fun t => t.link.doe.response = some [1, 1, 0, 0]) ∧
      Completes (.getMeasurements ⟨fetched, indices⟩) s [.link, .sent] fun t =>
        t.link.doe.response = some (measurements indices s) ∧ t.sent = .doe (measurements indices s) :: s.sent)

/-- R411, R413, R414, R416 to R419: a lock that is requested takes the lowest enabled band for its frequency, and fails at once without one; it completes
at T_LOCK or later, or fails after 10 × T_LOCK and is tried once more 10 ms later; a PLL that loses its reference holds over, and goes on
without a relock when it returns. The loss of XREF moves the multiplier to HKOSC. OUT_CFG holds an output low that changes its format. -/
def Obligations.PllsLockAndHoldOver : Prop :=
  ∀ (p : PllId) (v : U32) (s : State),
    let x := s.clk.get p
    (s.mode.seq = none →
      (x.state = .locking → x.retryAt = none →
        (s.refHere p x.ref = true → Completes (.pllLockDetect p) s ([.time, .clk] ++ reporting) fun t =>
          (t.clk.get p).state = .locked ∧ (t.clk.get p).locks = x.locks + 1 ∧ x.since + lockTime p ≤ t.time.now ∧
          t.clk.relockCnt = (if 0 < x.locks then bump32 s.clk.relockCnt 1 else s.clk.relockCnt) ∧ (∀ q, q ≠ p → t.clk.get q = s.clk.get q) ∧
          Reports 0x0201 srcAo t) ∧
        (Completes (.pllLockTimeout p) s ([.time, .clk] ++ reporting) fun t =>
          (t.clk.get p).state = .failed ∧ (t.clk.get p).retryAt = (if x.tries = 0 then some (t.time.now + 10 * Config.ms) else none) ∧
          x.since + 10 * lockTime p ≤ t.time.now ∧ t.clk.relockFail = bump32 s.clk.relockFail 1 ∧ (∀ q, q ≠ p → t.clk.get q = s.clk.get q) ∧
          Reports 0x0204 srcAo t)) ∧
      (x.state = .locking → x.retryAt = none → s.refHere p x.ref = false → Completes (.pllLockDetect p) s [] fun _ => True) ∧
      (∀ at' e, x.retryAt = some at' → s.pdOn (pllDomain p) = true → s.clk.bandFor p (vcoTarget p s) = some e →
        s.refHere p (if p = .b then s.refWanted else 0) = true →
        Completes (.pllLockDetect p) s ([.time, .clk] ++ reporting) fun t =>
          (t.clk.get p).state = .locked ∧ (t.clk.get p).band = some e ∧ at' + lockTime p ≤ t.time.now ∧ Reports 0x0201 srcAo t)) ∧
    (x.state = .locked → Completes (.pllRefLoss p) s ([.time, .clk] ++ reporting) fun t =>
      t.clk.get p = { x with state := .holdover, agrees := false, refPresent := false } ∧ t.clk.holdoverCnt = bump32 s.clk.holdoverCnt 1 ∧
      t.clk.lockLoss = bump32 s.clk.lockLoss 1 ∧ t.time.now = s.time.now ∧ Reports 0x0202 srcAo t) ∧
    (x.state ≠ .locked → Completes (.pllRefLoss p) s [.clk] fun t => t.clk = s.clk.set p { x with refPresent := false }) ∧
    (s.refBack p = true → x.state = .holdover → Completes (.pllRefReturn p) s (.clk :: reporting) fun t =>
      t.clk.get p = { x with state := .locked, agrees := true, refPresent := true } ∧ t.clk.relockCnt = s.clk.relockCnt ∧
      Reports 0x0205 srcAo t) ∧
    (s.power.aoOn = true → Completes .xrefLoss s ([.time, .clk] ++ reporting) fun t =>
      t.clk.onHkosc = true ∧ t.clk.xrefPresent = false ∧ (∀ q, (s.clk.get q).state = .locked → (t.clk.get q).state = .holdover) ∧
      (s.clk.onHkosc = false → Reports 0x0206 srcAo t)) ∧
    (Completes .xrefReturn s [.clk] fun t => t.clk = { s.clk with xrefPresent := true, onHkosc := false }) ∧
    (s.mayRelock p = true →
      (∀ e, s.clk.bandFor p (vcoTarget p s) = some e → Completes (.pllCmdLock p) s [.clk] fun t =>
        (t.clk.get p).state = .locking ∧ (t.clk.get p).band = some e ∧ (t.clk.get p).seed = s.clk.seedOf p ∧ (t.clk.get p).since = s.time.now) ∧
      (s.clk.bandFor p (vcoTarget p s) = none → Completes (.pllCmdLock p) s (.clk :: reporting) fun t =>
        (t.clk.get p).state = .failed ∧ Reports 0x0203 srcAo t)) ∧
    (s.mode.mode ≠ .service → exec (.pllCmdLock p) s = .next s) ∧
    Completes (.outCfg v) s [.clk] fun t =>
      ∀ i, i < 5 → field t.clk.outCfg (4 * i) 3 = formatAfter s.clk.outCfg v i ∧
        (field t.clk.outCfg (4 * i) 3 ≠ field s.clk.outCfg (4 * i) 3 → t.clk.outLow.getD i 0 = s.time.now + 10 * Config.us) ∧
        (field t.clk.outCfg (4 * i) 3 = field s.clk.outCfg (4 * i) 3 → t.clk.outLow.getD i 0 = s.clk.outLow.getD i 0)

/-- R263, R283, R285, R287, R290, R292 to R294, R296, R297: a request channel with sound ENTRIES and bases is enabled, and another one HALTED with reason 1. A write to a
locked field, a privileged field or a domain that is off is rejected, with its event and the mirror of the write; a write where no region lies changes
nothing; a write of 8 bytes is two of 4; a write in the clock of an increment adds one. A read of the genlock meter waits while CK03 is stopped. An access that waits in the bridge is counted once after 1 ms, and ends when its clock returns.
A differing copy of a triplicated field is repaired. -/
def Obligations.RegisterWritesAreJudged : Prop :=
  ∀ (ch : Chan) (off : Nat) (data : U64) (field copy : Nat) (s : State),
    (s.link.takes (chanPf1 ch) = true → (s.mbox.get ch).enable = false →
      ((powerIn (s.mbox.get ch).entries.toNat 2 16 && decide ((s.mbox.get ch).sqBase.toNat % 4096 = 0) &&
          decide ((s.mbox.get ch).cqBase.toNat % 4096 = 0)) = true →
        Completes (.mboxCtrlEnable ch true) s [.mbox] fun t => t.mbox = s.mbox.set ch { s.mbox.get ch with enable := true, halt := 0 }) ∧
      ((powerIn (s.mbox.get ch).entries.toNat 2 16 && decide ((s.mbox.get ch).sqBase.toNat % 4096 = 0) &&
          decide ((s.mbox.get ch).cqBase.toNat % 4096 = 0)) = false →
        Completes (.mboxCtrlEnable ch true) s [.mbox] fun t => t.mbox = s.mbox.set ch { s.mbox.get ch with enable := true, halt := 1 })) ∧
    (s.link.takes false = true → s.regs.waiting = none →
      (off % 4 = 0 → regionAt false off = none → exec (.registerWrite .pf0 .pf0 off .word data) s = .next s) ∧
      (off % 4 = 0 → off < 0x20000 → Completes (.registerWrite .pf0 .pf0 off (.read false) data) s [.sent] fun t =>
        t.sent = .completion (.data (leBytes 4 (readReg false false off s))) :: s.sent) ∧
      (s.pdOn 76 = true → s.clk.genref = false → Completes (.registerWrite .pf0 .pf0 0x20048 (.read false) data) s [.regs] fun t =>
        t.regs = { s.regs with waiting := some ⟨true, 0x20048, 4, 3, s.time.now, false, .pf0⟩ }) ∧
      (Completes (.registerWrite .pf0 .pf0 0x26018 .together data) s [.clk] fun t =>
        t.clk = { s.clk with lockLoss := bump32 (data.toNat % 2 ^ 32) 1 }) ∧
      (off % 4 ≠ 0 → Completes (.registerWrite .pf0 .pf0 off .word data) s reporting fun t =>
        t.link.aer0.status.testBit 20 = true ∧ Reports 0x0503 srcHost t ∧ t.sent.head? = some (.completion .unsupported)) ∧
      (∀ x, off % 4 = 0 → regionAt false off = some x → x.on s = false →
        Completes (.registerWrite .pf0 .pf0 off .word data) s (.regs :: reporting) fun t =>
          t.regs.rejCnt = bump32 s.regs.rejCnt 1 ∧ t.regs.rejOffset = off % 2 ^ 18 ∧ t.regs.rejData = data.toNat % 2 ^ 32 ∧
          t.regs.rejReason = 2 ∧ Reports 0x0905 srcHost t) ∧
      (Completes (.registerWrite .pf0 .pf0 0x26004 .word data) s (.regs :: reporting) fun t =>
        t.regs.rejReason = 1 ∧ t.regs.rejOffset = 0x26004 ∧ t.regs.rejCnt = bump32 s.regs.rejCnt 1 ∧ Reports 0x0903 srcHost t) ∧
      (s.mbox.c0.enable = true → s.pdOn 55 = true → Completes (.registerWrite .pf0 .pf0 0x01010 .word data) s (.regs :: reporting) fun t =>
        t.mbox.c0 = s.mbox.c0 ∧ t.regs.rejReason = 0 ∧ Reports 0x0904 srcHost t) ∧
      (s.mbox.c0.enable = false → s.pdOn 55 = true →
        (Completes (.registerWrite .pf0 .pf0 0x01010 .word data) s [.mbox] fun t =>
          t.mbox = { s.mbox with c0 := { s.mbox.c0 with entries := BitVec.ofNat 32 data.toNat } }) ∧
        (Completes (.registerWrite .pf0 .pf0 0x01000 .pair data) s [.mbox] fun t =>
          t.mbox = { s.mbox with c0 := { s.mbox.c0 with sqBase := data } }))) ∧
    (∀ a, s.regs.waiting = some a →
      (a.counted = false → Completes .bridgeWaitTimeout s ([.time, .regs] ++ reporting) fun t =>
        t.regs.hangCnt = bump32 s.regs.hangCnt 1 ∧ t.regs.hangOffset = a.offset % 2 ^ 18 ∧ t.regs.hangClock = a.clock ∧
        t.regs.waiting = some { a with counted := true } ∧ a.since + Config.ms ≤ t.time.now ∧ Reports 0x0906 srcHost t) ∧
      (a.isRead = false → a.offset = 0x20054 → a.clock = 3 → s.regs.queue = [] → s.pdOn 76 = true →
        Completes .bridgeClockReturn s [.regs, .clk, .sync] fun t =>
          t.regs = { s.regs with waiting := none } ∧ t.clk = { s.clk with genref := true } ∧
          t.sync = { s.sync with genlock := { s.sync.genlock with missCnt := a.data } })) ∧
    (tripled field = true → copy < 3 → s.power.aoOn = true → Completes (.triplicateUpset field copy) s (.regs :: reporting) fun t =>
      t.regs = { s.regs with voteRepairCnt := bump32 s.regs.voteRepairCnt 1, voteField := field, voteCopy := copy, voteTime := s.time.module } ∧
      Reports 0x0901 srcAo t)

/-- R406, R446, R447, R455 to R457, R461, R467: the fatal causes: FAULT# is driven, no later boundary comes, a change in progress ends, and the sequence is
noted with its cause; a later cause is logged with 0x0E03. The end of the sequence writes the dump and leaves the module in SERVICE without
sessions or take; after the keeper's watchdog it is a warm reset. Without capture the loss of the stack link is no fatal cause. -/
def Obligations.FatalCausesRunTheSequence : Prop :=
  ∀ (field : Nat) (core : CoreId) (sur : Surroundings) (s : State), s.power.aoOn = true →
    (s.dump.fatal = none →
      ∀ i ∈ ([(.powerStageFault, 0x0108, srcAo), (.keeperWatchdogExpiry, 0x0E10, srcAo), (.firmwareAssertion core, 0x0E11, srcFirmware (coreNum core))]
          ++ (if tripled field then [(.triplicateDisagree field, 0x0902, srcAo)] else [])
          ++ (if s.pdOn 32 = true ∧ s.frame.linkLost = false ∧ s.capturing = true then [(.stackLinkLoss, 0x0343, srcLane 0)] else [])
          : List (Instr × Nat × Nat)),
        CompletesKeeping i.1 s (stored ++ [.time, .cal, .trust]) fun t =>
          (∃ f, t.dump.fatal = some f ∧ f.cause = i.2.1 ∧ f.time = s.time.module ∧ f.noDump = s.dump.held.isSome ∧
            f.watchdog = decide (i.1 = .keeperWatchdogExpiry)) ∧
          t.dump.fatalPending = true ∧ t.dump.held = s.dump.held ∧ t.pins.fault = true ∧ t.frame.halted = true ∧ t.frame.window = none ∧
          t.mode.change = none ∧ t.mode.seq = none ∧ t.mode.mode = s.mode.mode ∧ Reports i.2.1 i.2.2 t ∧
          (s.dump.held.isSome → Reports 0x0E03 srcDump t)) ∧
    (s.pdOn 32 = true → s.frame.linkLost = false → s.capturing = false → Completes .stackLinkLoss s (.frame :: reporting) fun t =>
      t.frame = { s.frame with linkLost := true, linkRunT := 0, linkRunB := 0 } ∧ Reports 0x0344 (srcLane 0) t) ∧
    (∀ f, s.dump.fatal = some f →
      (f.time ≠ s.time.module → Completes (.firmwareAssertion core) s reporting fun t => Reports 0x0E03 srcDump t) ∧
      (f.time = s.time.module → f.noDump = false → Completes (.firmwareAssertion core) s (.dump :: reporting) fun t =>
        t.dump = { s.dump with fatal := some (if causeRow 0x0E11 < causeRow f.cause then { f with cause := 0x0E11 } else f) }) ∧
      (s.resettable = true → s.pins.modReset = false →
        (f.watchdog = false → f.resetWaits = false → CompletesKeeping (.dumpWriteDone sur) s stored fun t =>
          t.mode.mode = .service ∧ t.dump.fatal = none ∧ (∀ b, b < 2 → (t.bay b).state = .closed) ∧ t.take.state = .none ∧
          (f.noDump = true → t.dump.held = s.dump.held) ∧
          (f.noDump = false → s.hold.degraded = false → ∃ d, t.dump.held = some d ∧ d.cause = f.cause ∧ d.time = f.time ∧ d.inHold = true) ∧
          (t.dump.held.isSome → t.pins.fault = s.pins.fault)) ∧
        (f.watchdog = true → CompletesKeeping (.dumpWriteDone sur) s [.pending] fun t =>
          t.profiles = upsetProfiles sur.upsets s.profiles ∧
          t.dump.fatal = none ∧ t.fuse.sensed = true ∧ (∀ ch, (t.mbox.get ch).enable = false) ∧
          (f.noDump = false → s.hold.degraded = false → ∃ d, t.dump.held = some d ∧ d.cause = f.cause ∧ d.inHold = true))))

/-- R34: a node's tally latch stays at 63 or below; an addition or a fold that would take it past 63 sets SAT instead, and the stack emits
0xFFFFFF for a node with SAT, and 0xFFFFFE for one with RUN. -/
def Obligations.TalliesEndAtSixtyThree : Prop :=
  (∀ (v : NodeState) (p : Site), v.tally ≤ 63 → (v.receive p).tally ≤ 63 ∧
    (v.tally + p.tally ≤ 63 → (v.receive p).tally = v.tally + p.tally ∧ (v.receive p).sat = (v.sat || p.sat)) ∧
    (63 < v.tally + p.tally → (v.receive p).sat = true)) ∧
  (∀ (v : NodeState) (step k : Nat), v.tally ≤ 63 → (v.fold step k).tally ≤ 63 ∧
    (v.tally < 63 → (v.fold step k).tally = v.tally + 1 ∧ (v.fold step k).sat = v.sat) ∧ (v.tally = 63 → (v.fold step k).sat = true)) ∧
  (∀ (n : Node) (x y : Nat) (q : Site), (q.node n).sat = true ∨ (q.node n).run = true →
    latchOf n y ((x, y), q) = some ⟨x, 0, (q.node n).tally, (q.node n).sat, (q.node n).run⟩) ∧
  (∀ (f : Frame) (r : RowRead) (l : LatchRead), f.gov.sensor.bin = 1 →
    (r.latches.find? fun m => decide (m.x = l.x ∧ m.y = 0)) = some l →
    (l.run = true → f.stackAt r l.x = 0xFFFFFE) ∧ (l.run = false → l.sat = true → f.stackAt r l.x = 0xFFFFFF))

/-- R38: a binned value is 0xFFFFFE where one of its four photosites has RUN set, and otherwise 0xFFFFFF where one has SAT set. -/
def Obligations.BinnedSitesShowTheirLatches : Prop :=
  ∀ (f : Frame) (r : RowRead) (X : Nat), f.gov.sensor.bin ≠ 1 →
    let x := leadOf f.data.mono f.gov.sensor.bin X
    let d := partner f.data.mono
    let four := [f.siteRead r x 0, f.siteRead r x 1, f.siteRead r (x + d) 0, f.siteRead r (x + d) 1]
    ((∃ p ∈ four, p.run = true) → f.stackAt r X = 0xFFFFFE) ∧
    ((∀ p ∈ four, p.run = false) → (∃ p ∈ four, p.sat = true) → f.stackAt r X = 0xFFFFFF)

/-- R103: a black sample is valid where its value is below 0xFFFFF0 and within BLK_LIM of 1,024; a site with BLK_EXCL arrives as 0xFFFFFD
(R63) and is never valid. -/
def Obligations.BlackSamplesAreValidNearThePedestal : Prop :=
  (∀ lim v : Nat, validBlack lim v = true ↔ v < 0xFFFFF0 ∧ v ≤ 1024 + lim ∧ 1024 ≤ v + lim) ∧
  (∀ (lim : Nat) (f : Frame) (r : RowRead) (x : Nat), f.gov.sensor.bin = 1 → active x r.y = false → wordExcl (f.siteRead r x 0).word = true →
    validBlack lim (f.stackAt r x) = false ∧
    ((f.siteRead r x 0).run = false → (f.siteRead r x 0).sat = false → f.stackAt r x = 0xFFFFFD))

/-- R54: the rotation position of a frame is floor(N / K) mod 6, with N the number that its header carries and K the value of ROT_K in the ledger
entry that governs it; ROTATION_SET takes 1 to 255, 0 receives BAD_PARAM, and the factory profile has 4. -/
def Obligations.RotationFollowsTheFrameNumber : Prop :=
  (∀ (n b oldB : Nat) (applied : List ProgEntry) (temps : List Int) (subst : List Bool) (h sl : Bool) (s : State),
    let g := governing n b oldB applied temps subst h sl s
    g.rho = n / s.frame.rotK0 % 6 ∧ g.n = n ∧ g.rotK = s.frame.rotK0) ∧
  (∀ (g : FrameGov) (m : HeadMarks), ((headBytes g m).drop 8).take 8 = leBytes 8 g.n) ∧
  (∀ s : State, (shiftSettings s).frame.rotK0 = s.frame.rotK1) ∧
  (∀ (i : Nat) (e : LedgerEntry) (v : Byte) (s : State), e.standing = [.rotK v] →
    (latchConv (i, e) s).frame.rotK1 = v.toNat) ∧
  Factory.settings.rotK = 4 ∧
  (∀ (r : Req) (v : Byte) (s : State), Waiting .rotationSet r s → r.len = 4 →
    (v = 0 → Completes (.rotationSet r v) s [.time, .mbox] fun t => Answered .rotationSet r true .badParam 0 [] s t) ∧
    (1 ≤ v.toNat → s.following = false → s.dump.fatal = none → s.ledgerRuns = false →
      entryCheck [.rotK v] s.settings.sensor s.settings.sensor.tMin 0 s = none →
      Completes (.rotationSet r v) s [.time, .mbox, .settings, .ledger, .frame, .tandem, .sent] fun t =>
        (s.mirrorsNow = false → t.tandem = s.tandem ∧ t.sent = s.sent) ∧
        t.settings = { s.settings with rotK := v.toNat } ∧ t.frame.rotK0 = v.toNat ∧ t.frame.rotK1 = v.toNat))

/-- R320: a channel judges its compare condition at each tick with the new COUNT, and matches where it holds and did not hold before; after a
START or a RESET it counts as not having held; a COMPARE or COUNT written between ticks is judged at the next one; COMPARE 0 acts as 1. -/
def Obligations.CompareMatchesOnce : Prop :=
  (∀ (t : Timer) (c : U32) (wrapped : Bool) (now : Nat),
    let cmp := if t.compare = 0 then 1 else t.compare.toNat
    let holds := decide ((c.toNat + 2 ^ 32 - cmp) % 2 ^ 32 < 2 ^ 31)
    let k := t.step c wrapped now
    k.matched = (holds && !t.cond) ∧
    (t.matchSelf ≠ 1 → t.matchSelf ≠ 3 → t.ovfSelf ≠ 1 → t.ovfSelf ≠ 3 → k.t.cond = holds) ∧
    (t.matchSelf = 1 ∨ t.matchSelf = 3 → k.matched = true → k.t.cond = false ∧ k.t.count = 0)) ∧
  (∀ (n : Fin 16) (v : U32) (s : State), s.sync.timers.length = 16 → Reachable s → s.pdOn 76 = true → n.val < 12 →
    ((s.sync.timer n.val).running = false → Completes (.start n) s [.sync] fun t => (t.sync.timer n.val).cond = false) ∧
    (Completes (.reset n) s [.sync] fun t => (t.sync.timer n.val).cond = false) ∧
    (Completes (.count n v) s [.sync] fun t =>
      (t.sync.timer n.val).count = v ∧ (t.sync.timer n.val).cond = (s.sync.timer n.val).cond ∧
      (t.sync.timer n.val).matchCnt = (s.sync.timer n.val).matchCnt) ∧
    (Completes (.compare n v) s [.sync] fun t =>
      (t.sync.timer n.val).compare = v ∧ (t.sync.timer n.val).cond = (s.sync.timer n.val).cond ∧
      (t.sync.timer n.val).matchCnt = (s.sync.timer n.val).matchCnt))

/-- A step takes the command at the front of the queue and is exec of it, with the rest of the queue left; with no command waiting one tick of 10 ns
passes, which changes nothing but time, a vector of the event ring that has waited for its 100 µs, and the reads of BAR2 that a retrain holds up. -/
def Obligations.StepRunsTheFrontCommand : Prop :=
  ∀ (c : Instr) (rest : List Instr) (s : State),
    step { s with pending := c :: rest } = exec c { s with pending := rest } ∧
    (s.pending = [] → ∃ t, step s = .next t ∧ onlyIn (.time :: .res :: reporting) s t ∧ t.time.now = s.time.now + 1 ∧
      t.time = s.time.advance 1 ∧ (s.link.reads = [] → onlyIn [.time, .mbox, .sent, .link] s t ∧
        (s.mbox.ring.vecDue = false → t.mbox = s.mbox ∧ t.sent = s.sent ∧ t.link = s.link)))

/-- R134, R263, R304, R306, R473, Tables 11-2, 13-7, 14-4, 16-5 and 17-6: what the specification gives for the state after a cold reset. -/
def Obligations.ResetLeavesTheStatedValues : Prop :=
  State.reset.time.module = 0 ∧ State.reset.mode.mode = .dormant ∧ State.reset.thermal.applied = 320 ∧ State.reset.log.head = 0 ∧
  State.reset.ledger.slots = List.replicate 16 none ∧ State.reset.ledger.gens = List.replicate 16 0 ∧
  (∀ d, State.reset.pdOn d = false) ∧
  (∀ ch, (State.reset.mbox.get ch).enable = false ∧ (State.reset.mbox.get ch).ver = none ∧ (State.reset.mbox.get ch).sqTail = 0 ∧
    (State.reset.mbox.get ch).cqTail = 0) ∧
  (∀ b, (State.reset.bay b).state = .closed) ∧ (∀ r ∈ State.reset.view.rings, r.state = .stopped ∧ r.reason = 0) ∧
  State.reset.view.rings.length = 11 ∧ (∀ n, n < 16 → (State.reset.sync.timer n).compare = 0x80000000 ∧ (State.reset.sync.timer n).ctrl = 0 ∧
    (State.reset.sync.timer n).running = false) ∧
  State.reset.bus.abus0.ctrl = 0 ∧ State.reset.bus.abus1.ctrl = 1 ∧ State.reset.bus.hbus.ctrl = 3 ∧ State.reset.bus.hbus.tgtAddr = 0x5A ∧
  (∀ b, (State.reset.bus.get b).timing = 0x0A0CB0C8) ∧ State.reset.clk.outCfg = 0x21111 ∧ (∀ p, State.reset.clk.seedOf p = 0xACE1) ∧
  State.reset.pending = []

/-- Every command has its effect in every state, but one that names a photosite outside the array (R21), a power domain above PD79 (R401) or a device
above 3 (R157): no such thing exists. -/
def Obligations.EveryCommandHasAnEffect : Prop :=
  ∀ (c : Instr) (s : State), (∃ t, exec c s = .next t) ∨ (∃ x y, exec c s = .fault (.noSuchSite x y) ∧ readable x y = false) ∨
    (∃ d, exec c s = .fault (.noSuchDomain d) ∧ 80 ≤ d) ∨ (∃ d, exec c s = .fault (.noSuchDevice d) ∧ 4 ≤ d)

/-- The state after reset is sound. -/
def Obligations.ResetIsSound : Prop := State.reset.Sound

/-- R372: whatever the module does, every step keeps a sound state sound: its stores keep their shape, profile 0 stays the factory profile, and
a fuse operation that waits stays one that the array can take. -/
def Obligations.EveryStepKeepsStatesSound : Prop :=
  ∀ (s t : State), s.Sound → step s = .next t → t.Sound

/-- R372, R379, R380: no command of any agent, no reset and no loss of power clears a fuse bit; a finalised zone stays finalised, and its
words stay as they are. -/
def Obligations.NoStepUndoesAFuse : Prop :=
  ∀ (s t : State), s.Sound → step s = .next t → s.fuse.keeps t.fuse

/-- Commands wait first in, first out: a step takes one command off the front of the queue, and no command, reset or loss of power adds, drops or
reorders one. -/
def Obligations.TheQueueIsFirstInFirstOut : Prop :=
  ∀ (s t : State), step s = .next t → t.pending = s.pending.tail
end

