-- ==== Sys2Proof/Laws/Frames.lean ====
section
/-! SUPPORT. Frames of the shared operations: which units a report, an interrupt, a response and a passing of time can change. -/

namespace Sys2Proof.Machine

/-! ## Rules of frames -/

theorem onlyIn_refl (ps : List Part) (s : State) : onlyIn ps s s := fun p _ => by cases p <;> rfl

theorem onlyIn_trans {ps : List Part} {s t u : State} (h : onlyIn ps s t) (k : onlyIn ps t u) : onlyIn ps s u := by
  intro p hp
  have a := h p hp
  have b := k p hp
  cases p <;> exact b.trans a

theorem onlyIn_mono {ps qs : List Part} {s t : State} (h : onlyIn ps s t) (k : ∀ p, p ∈ ps → p ∈ qs) : onlyIn qs s t :=
  fun p hp => h p fun q => hp (k p q)

theorem onlyIn_ite {ps : List Part} {c : Prop} [Decidable c] {s a b : State} (h : onlyIn ps s a) (k : onlyIn ps s b) :
    onlyIn ps s (if c then a else b) := by
  split
  · exact h
  · exact k

/-- A fold of steps that each keep to some units keeps to them. -/
theorem onlyIn_each {α : Type} {ps : List Part} (f : α → State → State) (h : ∀ a s, onlyIn ps s (f a s)) (l : List α) (s : State) :
    onlyIn ps s (each l f s) := by
  induction l generalizing s with
  | nil => exact onlyIn_refl ps s
  | cons a l ih => exact onlyIn_trans (h a s) (ih (f a s))

/-! ## Interrupts and what is sent -/

theorem onlyIn_send (o : Out) (s : State) : onlyIn [.sent] s (s.send o) := by
  intro p hp; cases p <;> first | rfl | exact absurd (by decide) hp

theorem onlyIn_fire (f : Bool) (n : Nat) (s : State) : onlyIn [.sent, .link] s (fire f n s) := by
  unfold fire; split <;> (intro p hp; cases p <;> first | rfl | exact absurd (by decide) hp)

/-! ## Reports -/

theorem onlyIn_ringEntry (k n : Nat) (e : List Byte) (s : State) : onlyIn [.mbox, .sent, .link] s (ringWrite k n e s) :=
  onlyIn_ite
    (onlyIn_trans (by intro p hp; cases p <;> first | rfl | exact absurd (by decide) hp)
      (onlyIn_mono (onlyIn_fire _ _ _) (by decide)))
    (by intro p hp; cases p <;> first | rfl | exact absurd (by decide) hp)

theorem onlyIn_ringWrite (k n : Nat) (e : List Byte) (s : State) : onlyIn reporting s (ringWrite k n e s) :=
  onlyIn_mono (onlyIn_ringEntry k n e s) (by decide)

theorem onlyIn_ringNotice (s : State) : onlyIn reporting s (ringNotice s) := by
  unfold ringNotice
  split
  · exact onlyIn_trans (by intro p hp; cases p <;> first | rfl | exact absurd (by decide) hp) (onlyIn_ringWrite _ _ _ _)
  · exact onlyIn_refl _ _

theorem onlyIn_ringCopy (e : LogEntry) (s : State) : onlyIn reporting s (ringCopy e s) := by
  unfold ringCopy
  split
  · dsimp only
    split
    · exact onlyIn_trans (onlyIn_ringNotice s) (onlyIn_ringWrite _ _ _ _)
    · exact onlyIn_trans (onlyIn_ringNotice s) (by intro p hp; cases p <;> first | rfl | exact absurd (by decide) hp)
  · exact onlyIn_refl _ _

theorem onlyIn_logWrite (r : Report) (h : Bool) (s : State) : onlyIn reporting s (logWrite r h s) := by
  unfold logWrite
  split
  · intro p hp; cases p <;> first | rfl | exact absurd (by decide) hp
  · exact onlyIn_trans (by intro p hp; cases p <;> first | rfl | exact absurd (by decide) hp) (onlyIn_ringCopy _ _)

theorem onlyIn_serveSource (n : Nat) (s : State) : onlyIn reporting s (serveSource n s) := by
  unfold serveSource
  split
  · exact onlyIn_trans (by intro p hp; cases p <;> first | rfl | exact absurd (by decide) hp) (onlyIn_logWrite _ _ _)
  · split
    · exact onlyIn_trans (by intro p hp; cases p <;> first | rfl | exact absurd (by decide) hp) (onlyIn_logWrite _ _ _)
    · exact onlyIn_refl _ _

theorem onlyIn_serveLog (s : State) : onlyIn reporting s (serveLog s) := by
  unfold serveLog
  split
  · exact onlyIn_trans (by intro p hp; cases p <;> first | rfl | exact absurd (by decide) hp) (onlyIn_logWrite _ _ _)
  · split
    · exact onlyIn_trans (by intro p hp; cases p <;> first | rfl | exact absurd (by decide) hp) (onlyIn_logWrite _ _ _)
    · exact onlyIn_refl _ _

theorem onlyIn_takeReport (r : Report) (s : State) : onlyIn [.log, .mbox] s (takeReport r s) := by
  unfold takeReport
  split
  · exact onlyIn_refl _ _
  · split
    · split <;> (intro p hp; cases p <;> first | rfl | exact absurd (by decide) hp)
    · intro p hp; cases p <;> first | rfl | exact absurd (by decide) hp

theorem onlyIn_logFrame (c src n d : Nat) (s : State) : onlyIn reporting s (logFrame c src n d s) := by
  unfold logFrame
  dsimp only
  split
  · exact onlyIn_trans (onlyIn_mono (onlyIn_takeReport _ s) (by decide)) (onlyIn_serveSource _ _)
  · exact onlyIn_mono (onlyIn_takeReport _ s) (by decide)

theorem onlyIn_logEvent (c src d : Nat) (s : State) : onlyIn reporting s (logEvent c src d s) := onlyIn_logFrame _ _ _ _ _

/-! ## Responses -/

theorem onlyIn_respond (id : ReqId) (f : Bool) (st : Status) (n : Nat) (b : List Byte) (s : State) :
    onlyIn [.mbox] s (respond id f st n b s) := by
  unfold respond
  dsimp only
  split <;> (intro p hp; cases p <;> first | rfl | exact absurd (by decide) hp)

theorem onlyIn_finish (id : ReqId) (st : Status) (n : Nat) (b : List Byte) (s : State) : onlyIn [.mbox] s (finish id st n b s) :=
  onlyIn_trans (by intro p hp; cases p <;> first | rfl | exact absurd (by decide) hp) (onlyIn_respond _ _ _ _ _ _)

theorem onlyIn_finishOpt (id : Option ReqId) (st : Status) (n : Nat) (b : List Byte) (s : State) :
    onlyIn [.mbox] s (finishOpt id st n b s) := by
  cases id with
  | none => exact onlyIn_refl _ _
  | some i => exact onlyIn_finish _ _ _ _ _

theorem onlyIn_accept (id : ReqId) (l : List Resource) (n : Nat) (s : State) : onlyIn [.mbox] s (accept id l n s) :=
  onlyIn_trans (by intro p hp; cases p <;> first | rfl | exact absurd (by decide) hp) (onlyIn_respond _ _ _ _ _ _)

theorem onlyIn_takeUp (r : Req) (s : State) : onlyIn [.time, .mbox] s (takeUp r s) := by
  intro p hp; cases p <;> first | rfl | exact absurd (by decide) hp

theorem onlyIn_rejectWrite (m : Master) (k o d : Nat) (s : State) : onlyIn (.regs :: reporting) s (rejectWrite m k o d s) :=
  onlyIn_trans (by intro p hp; cases p <;> first | rfl | exact absurd (by decide) hp)
    (onlyIn_mono (onlyIn_logEvent _ _ _ _) (by decide))

/-! ## Time and domains -/

theorem onlyIn_reach (n : Nat) (s : State) : onlyIn [.time] s (reach n s) := by
  intro p hp; cases p <;> first | rfl | exact absurd (by decide) hp

theorem onlyIn_reachNow (n : Nat) (s : State) : onlyIn [.time] s (reachNow n s) := by
  intro p hp; cases p <;> first | rfl | exact absurd (by decide) hp

theorem onlyIn_setDomains (l : List Nat) (b : Bool) (s : State) : onlyIn [.power] s (s.setDomains l b) := by
  intro p hp; cases p <;> first | rfl | exact absurd (by decide) hp

end Sys2Proof.Machine
end

