-- ==== Sys2Proof/Laws/Reports.lean ====
section
/-! SUPPORT. What a report leaves of the mailbox and of the host link: everything but the event ring and the pending bits of the vectors. -/

namespace Sys2Proof.Machine

theorem reportsOnly_refl (s : State) : reportsOnly s s := ⟨rfl, rfl⟩

theorem reportsOnly_trans {s t u : State} (h : reportsOnly s t) (k : reportsOnly t u) : reportsOnly s u := by
  obtain ⟨a, b⟩ := h
  obtain ⟨c, d⟩ := k
  refine ⟨?_, ?_⟩
  · rw [← a, ← c]
  · rw [← b, ← d]

theorem reportsOnly_after {s t u : State} (k : reportsOnly t u) (h : reportsOnly s t) : reportsOnly s u := reportsOnly_trans h k

theorem reportsOnly_ite {c : Prop} [Decidable c] {s a b : State} (h : reportsOnly s a) (k : reportsOnly s b) :
    reportsOnly s (if c then a else b) := by
  split
  · exact h
  · exact k

theorem reportsOnly_each {α : Type} (f : α → State → State) (h : ∀ a s, reportsOnly s (f a s)) (l : List α) (s : State) :
    reportsOnly s (each l f s) := by
  induction l generalizing s with
  | nil => exact reportsOnly_refl s
  | cons a l ih => exact reportsOnly_trans (h a s) (ih (f a s))

theorem pend_pba (f : Function) (n : Nat) : { f.pend n with pba := f.pba } = f := by
  unfold Function.pend; split <;> rfl

theorem reportsOnly_fire (f : Bool) (n : Nat) (s : State) : reportsOnly s (fire f n s) := by
  refine reportsOnly_ite ⟨rfl, rfl⟩ ⟨rfl, ?_⟩
  unfold LinkUnit.pend
  cases f
  · simp only [Bool.false_eq_true, if_false, pend_pba]
  · simp only [if_true, pend_pba]

theorem reportsOnly_ringWrite (k n : Nat) (e : List Byte) (s : State) : reportsOnly s (ringWrite k n e s) :=
  reportsOnly_ite (reportsOnly_after (reportsOnly_fire _ _ _) ⟨rfl, rfl⟩)
    ⟨rfl, rfl⟩

theorem reportsOnly_ringNotice (s : State) : reportsOnly s (ringNotice s) :=
  reportsOnly_ite (reportsOnly_after (reportsOnly_ringWrite _ _ _ _) ⟨rfl, rfl⟩)
    (reportsOnly_refl _)

theorem reportsOnly_ringCopy (e : LogEntry) (s : State) : reportsOnly s (ringCopy e s) :=
  reportsOnly_ite
    (reportsOnly_ite (reportsOnly_trans (reportsOnly_ringNotice s) (reportsOnly_ringWrite _ _ _ _))
      (reportsOnly_trans (reportsOnly_ringNotice s) ⟨rfl, rfl⟩))
    (reportsOnly_refl _)

theorem reportsOnly_logWrite (r : Report) (h : Bool) (s : State) : reportsOnly s (logWrite r h s) := by
  unfold logWrite
  split
  · exact ⟨rfl, rfl⟩
  · exact reportsOnly_after (reportsOnly_ringCopy _ _) ⟨rfl, rfl⟩

theorem reportsOnly_serveSource (n : Nat) (s : State) : reportsOnly s (serveSource n s) := by
  unfold serveSource
  split
  · exact reportsOnly_after (reportsOnly_logWrite _ _ _) ⟨rfl, rfl⟩
  · split
    · exact reportsOnly_after (reportsOnly_logWrite _ _ _) ⟨rfl, rfl⟩
    · exact reportsOnly_refl _

theorem reportsOnly_serveLog (s : State) : reportsOnly s (serveLog s) := by
  unfold serveLog
  split
  · exact reportsOnly_after (reportsOnly_logWrite _ _ _) ⟨rfl, rfl⟩
  · split
    · exact reportsOnly_after (reportsOnly_logWrite _ _ _) ⟨rfl, rfl⟩
    · exact reportsOnly_refl _

theorem reportsOnly_takeReport (r : Report) (s : State) : reportsOnly s (takeReport r s) := by
  unfold takeReport
  split
  · exact reportsOnly_refl _
  · split
    · split <;> exact ⟨rfl, rfl⟩
    · exact ⟨rfl, rfl⟩

theorem reportsOnly_logFrame (c src n d : Nat) (s : State) : reportsOnly s (logFrame c src n d s) :=
  reportsOnly_ite (reportsOnly_trans (reportsOnly_takeReport _ s) (reportsOnly_serveSource _ _)) (reportsOnly_takeReport _ s)

theorem reportsOnly_logEvent (c src d : Nat) (s : State) : reportsOnly s (logEvent c src d s) := reportsOnly_logFrame _ _ _ _ _

end Sys2Proof.Machine
end

