-- ==== Sys2Proof/Laws/Fields.lean ====
section
/-! SUPPORT. What each shared operation leaves of each unit of the state, one lemma a unit. -/

namespace Sys2Proof.Machine

/-! ## send -/

@[simp] theorem send_time (o : Out) (s : State) : (s.send o).time = s.time := onlyIn_send o s .time (by decide)
@[simp] theorem send_free (o : Out) (s : State) : (s.send o).free = s.free := onlyIn_send o s .free (by decide)
@[simp] theorem send_pending (o : Out) (s : State) : (s.send o).pending = s.pending := onlyIn_send o s .pending (by decide)
@[simp] theorem send_mbox (o : Out) (s : State) : (s.send o).mbox = s.mbox := onlyIn_send o s .mbox (by decide)
@[simp] theorem send_log (o : Out) (s : State) : (s.send o).log = s.log := onlyIn_send o s .log (by decide)
@[simp] theorem send_dump (o : Out) (s : State) : (s.send o).dump = s.dump := onlyIn_send o s .dump (by decide)
@[simp] theorem send_mode (o : Out) (s : State) : (s.send o).mode = s.mode := onlyIn_send o s .mode (by decide)
@[simp] theorem send_ledger (o : Out) (s : State) : (s.send o).ledger = s.ledger := onlyIn_send o s .ledger (by decide)
@[simp] theorem send_profiles (o : Out) (s : State) : (s.send o).profiles = s.profiles := onlyIn_send o s .profiles (by decide)
@[simp] theorem send_settings (o : Out) (s : State) : (s.send o).settings = s.settings := onlyIn_send o s .settings (by decide)
@[simp] theorem send_prefs (o : Out) (s : State) : (s.send o).prefs = s.prefs := onlyIn_send o s .prefs (by decide)
@[simp] theorem send_profileTandem (o : Out) (s : State) : (s.send o).profileTandem = s.profileTandem := onlyIn_send o s .profileTandem (by decide)
@[simp] theorem send_regs (o : Out) (s : State) : (s.send o).regs = s.regs := onlyIn_send o s .regs (by decide)
@[simp] theorem send_sensor (o : Out) (s : State) : (s.send o).sensor = s.sensor := onlyIn_send o s .sensor (by decide)
@[simp] theorem send_conv (o : Out) (s : State) : (s.send o).conv = s.conv := onlyIn_send o s .conv (by decide)
@[simp] theorem send_frame (o : Out) (s : State) : (s.send o).frame = s.frame := onlyIn_send o s .frame (by decide)
@[simp] theorem send_res (o : Out) (s : State) : (s.send o).res = s.res := onlyIn_send o s .res (by decide)
@[simp] theorem send_hold (o : Out) (s : State) : (s.send o).hold = s.hold := onlyIn_send o s .hold (by decide)
@[simp] theorem send_take (o : Out) (s : State) : (s.send o).take = s.take := onlyIn_send o s .take (by decide)
@[simp] theorem send_view (o : Out) (s : State) : (s.send o).view = s.view := onlyIn_send o s .view (by decide)
@[simp] theorem send_tandem (o : Out) (s : State) : (s.send o).tandem = s.tandem := onlyIn_send o s .tandem (by decide)
@[simp] theorem send_sync (o : Out) (s : State) : (s.send o).sync = s.sync := onlyIn_send o s .sync (by decide)
@[simp] theorem send_bus (o : Out) (s : State) : (s.send o).bus = s.bus := onlyIn_send o s .bus (by decide)
@[simp] theorem send_aux (o : Out) (s : State) : (s.send o).aux = s.aux := onlyIn_send o s .aux (by decide)
@[simp] theorem send_cal (o : Out) (s : State) : (s.send o).cal = s.cal := onlyIn_send o s .cal (by decide)
@[simp] theorem send_fuse (o : Out) (s : State) : (s.send o).fuse = s.fuse := onlyIn_send o s .fuse (by decide)
@[simp] theorem send_trust (o : Out) (s : State) : (s.send o).trust = s.trust := onlyIn_send o s .trust (by decide)
@[simp] theorem send_power (o : Out) (s : State) : (s.send o).power = s.power := onlyIn_send o s .power (by decide)
@[simp] theorem send_clk (o : Out) (s : State) : (s.send o).clk = s.clk := onlyIn_send o s .clk (by decide)
@[simp] theorem send_link (o : Out) (s : State) : (s.send o).link = s.link := onlyIn_send o s .link (by decide)
@[simp] theorem send_thermal (o : Out) (s : State) : (s.send o).thermal = s.thermal := onlyIn_send o s .thermal (by decide)
@[simp] theorem send_pins (o : Out) (s : State) : (s.send o).pins = s.pins := onlyIn_send o s .pins (by decide)

/-! ## fire0 -/

@[simp] theorem fire0_time (n : Nat) (s : State) : (fire0 n s).time = s.time := onlyIn_fire false n s .time (by decide)
@[simp] theorem fire0_free (n : Nat) (s : State) : (fire0 n s).free = s.free := onlyIn_fire false n s .free (by decide)
@[simp] theorem fire0_pending (n : Nat) (s : State) : (fire0 n s).pending = s.pending := onlyIn_fire false n s .pending (by decide)
@[simp] theorem fire0_mbox (n : Nat) (s : State) : (fire0 n s).mbox = s.mbox := onlyIn_fire false n s .mbox (by decide)
@[simp] theorem fire0_log (n : Nat) (s : State) : (fire0 n s).log = s.log := onlyIn_fire false n s .log (by decide)
@[simp] theorem fire0_dump (n : Nat) (s : State) : (fire0 n s).dump = s.dump := onlyIn_fire false n s .dump (by decide)
@[simp] theorem fire0_mode (n : Nat) (s : State) : (fire0 n s).mode = s.mode := onlyIn_fire false n s .mode (by decide)
@[simp] theorem fire0_ledger (n : Nat) (s : State) : (fire0 n s).ledger = s.ledger := onlyIn_fire false n s .ledger (by decide)
@[simp] theorem fire0_profiles (n : Nat) (s : State) : (fire0 n s).profiles = s.profiles := onlyIn_fire false n s .profiles (by decide)
@[simp] theorem fire0_settings (n : Nat) (s : State) : (fire0 n s).settings = s.settings := onlyIn_fire false n s .settings (by decide)
@[simp] theorem fire0_prefs (n : Nat) (s : State) : (fire0 n s).prefs = s.prefs := onlyIn_fire false n s .prefs (by decide)
@[simp] theorem fire0_profileTandem (n : Nat) (s : State) : (fire0 n s).profileTandem = s.profileTandem := onlyIn_fire false n s .profileTandem (by decide)
@[simp] theorem fire0_regs (n : Nat) (s : State) : (fire0 n s).regs = s.regs := onlyIn_fire false n s .regs (by decide)
@[simp] theorem fire0_sensor (n : Nat) (s : State) : (fire0 n s).sensor = s.sensor := onlyIn_fire false n s .sensor (by decide)
@[simp] theorem fire0_conv (n : Nat) (s : State) : (fire0 n s).conv = s.conv := onlyIn_fire false n s .conv (by decide)
@[simp] theorem fire0_frame (n : Nat) (s : State) : (fire0 n s).frame = s.frame := onlyIn_fire false n s .frame (by decide)
@[simp] theorem fire0_res (n : Nat) (s : State) : (fire0 n s).res = s.res := onlyIn_fire false n s .res (by decide)
@[simp] theorem fire0_hold (n : Nat) (s : State) : (fire0 n s).hold = s.hold := onlyIn_fire false n s .hold (by decide)
@[simp] theorem fire0_take (n : Nat) (s : State) : (fire0 n s).take = s.take := onlyIn_fire false n s .take (by decide)
@[simp] theorem fire0_view (n : Nat) (s : State) : (fire0 n s).view = s.view := onlyIn_fire false n s .view (by decide)
@[simp] theorem fire0_tandem (n : Nat) (s : State) : (fire0 n s).tandem = s.tandem := onlyIn_fire false n s .tandem (by decide)
@[simp] theorem fire0_sync (n : Nat) (s : State) : (fire0 n s).sync = s.sync := onlyIn_fire false n s .sync (by decide)
@[simp] theorem fire0_bus (n : Nat) (s : State) : (fire0 n s).bus = s.bus := onlyIn_fire false n s .bus (by decide)
@[simp] theorem fire0_aux (n : Nat) (s : State) : (fire0 n s).aux = s.aux := onlyIn_fire false n s .aux (by decide)
@[simp] theorem fire0_cal (n : Nat) (s : State) : (fire0 n s).cal = s.cal := onlyIn_fire false n s .cal (by decide)
@[simp] theorem fire0_fuse (n : Nat) (s : State) : (fire0 n s).fuse = s.fuse := onlyIn_fire false n s .fuse (by decide)
@[simp] theorem fire0_trust (n : Nat) (s : State) : (fire0 n s).trust = s.trust := onlyIn_fire false n s .trust (by decide)
@[simp] theorem fire0_power (n : Nat) (s : State) : (fire0 n s).power = s.power := onlyIn_fire false n s .power (by decide)
@[simp] theorem fire0_clk (n : Nat) (s : State) : (fire0 n s).clk = s.clk := onlyIn_fire false n s .clk (by decide)
@[simp] theorem fire0_thermal (n : Nat) (s : State) : (fire0 n s).thermal = s.thermal := onlyIn_fire false n s .thermal (by decide)
@[simp] theorem fire0_pins (n : Nat) (s : State) : (fire0 n s).pins = s.pins := onlyIn_fire false n s .pins (by decide)

/-! ## fire1 -/

@[simp] theorem fire1_time (n : Nat) (s : State) : (fire1 n s).time = s.time := onlyIn_fire true n s .time (by decide)
@[simp] theorem fire1_free (n : Nat) (s : State) : (fire1 n s).free = s.free := onlyIn_fire true n s .free (by decide)
@[simp] theorem fire1_pending (n : Nat) (s : State) : (fire1 n s).pending = s.pending := onlyIn_fire true n s .pending (by decide)
@[simp] theorem fire1_mbox (n : Nat) (s : State) : (fire1 n s).mbox = s.mbox := onlyIn_fire true n s .mbox (by decide)
@[simp] theorem fire1_log (n : Nat) (s : State) : (fire1 n s).log = s.log := onlyIn_fire true n s .log (by decide)
@[simp] theorem fire1_dump (n : Nat) (s : State) : (fire1 n s).dump = s.dump := onlyIn_fire true n s .dump (by decide)
@[simp] theorem fire1_mode (n : Nat) (s : State) : (fire1 n s).mode = s.mode := onlyIn_fire true n s .mode (by decide)
@[simp] theorem fire1_ledger (n : Nat) (s : State) : (fire1 n s).ledger = s.ledger := onlyIn_fire true n s .ledger (by decide)
@[simp] theorem fire1_profiles (n : Nat) (s : State) : (fire1 n s).profiles = s.profiles := onlyIn_fire true n s .profiles (by decide)
@[simp] theorem fire1_settings (n : Nat) (s : State) : (fire1 n s).settings = s.settings := onlyIn_fire true n s .settings (by decide)
@[simp] theorem fire1_prefs (n : Nat) (s : State) : (fire1 n s).prefs = s.prefs := onlyIn_fire true n s .prefs (by decide)
@[simp] theorem fire1_profileTandem (n : Nat) (s : State) : (fire1 n s).profileTandem = s.profileTandem := onlyIn_fire true n s .profileTandem (by decide)
@[simp] theorem fire1_regs (n : Nat) (s : State) : (fire1 n s).regs = s.regs := onlyIn_fire true n s .regs (by decide)
@[simp] theorem fire1_sensor (n : Nat) (s : State) : (fire1 n s).sensor = s.sensor := onlyIn_fire true n s .sensor (by decide)
@[simp] theorem fire1_conv (n : Nat) (s : State) : (fire1 n s).conv = s.conv := onlyIn_fire true n s .conv (by decide)
@[simp] theorem fire1_frame (n : Nat) (s : State) : (fire1 n s).frame = s.frame := onlyIn_fire true n s .frame (by decide)
@[simp] theorem fire1_res (n : Nat) (s : State) : (fire1 n s).res = s.res := onlyIn_fire true n s .res (by decide)
@[simp] theorem fire1_hold (n : Nat) (s : State) : (fire1 n s).hold = s.hold := onlyIn_fire true n s .hold (by decide)
@[simp] theorem fire1_take (n : Nat) (s : State) : (fire1 n s).take = s.take := onlyIn_fire true n s .take (by decide)
@[simp] theorem fire1_view (n : Nat) (s : State) : (fire1 n s).view = s.view := onlyIn_fire true n s .view (by decide)
@[simp] theorem fire1_tandem (n : Nat) (s : State) : (fire1 n s).tandem = s.tandem := onlyIn_fire true n s .tandem (by decide)
@[simp] theorem fire1_sync (n : Nat) (s : State) : (fire1 n s).sync = s.sync := onlyIn_fire true n s .sync (by decide)
@[simp] theorem fire1_bus (n : Nat) (s : State) : (fire1 n s).bus = s.bus := onlyIn_fire true n s .bus (by decide)
@[simp] theorem fire1_aux (n : Nat) (s : State) : (fire1 n s).aux = s.aux := onlyIn_fire true n s .aux (by decide)
@[simp] theorem fire1_cal (n : Nat) (s : State) : (fire1 n s).cal = s.cal := onlyIn_fire true n s .cal (by decide)
@[simp] theorem fire1_fuse (n : Nat) (s : State) : (fire1 n s).fuse = s.fuse := onlyIn_fire true n s .fuse (by decide)
@[simp] theorem fire1_trust (n : Nat) (s : State) : (fire1 n s).trust = s.trust := onlyIn_fire true n s .trust (by decide)
@[simp] theorem fire1_power (n : Nat) (s : State) : (fire1 n s).power = s.power := onlyIn_fire true n s .power (by decide)
@[simp] theorem fire1_clk (n : Nat) (s : State) : (fire1 n s).clk = s.clk := onlyIn_fire true n s .clk (by decide)
@[simp] theorem fire1_thermal (n : Nat) (s : State) : (fire1 n s).thermal = s.thermal := onlyIn_fire true n s .thermal (by decide)
@[simp] theorem fire1_pins (n : Nat) (s : State) : (fire1 n s).pins = s.pins := onlyIn_fire true n s .pins (by decide)

/-! ## logFrame -/

@[simp] theorem logFrame_time (c src n d : Nat) (s : State) : (logFrame c src n d s).time = s.time := onlyIn_logFrame c src n d s .time (by decide)
@[simp] theorem logFrame_free (c src n d : Nat) (s : State) : (logFrame c src n d s).free = s.free := onlyIn_logFrame c src n d s .free (by decide)
@[simp] theorem logFrame_pending (c src n d : Nat) (s : State) : (logFrame c src n d s).pending = s.pending := onlyIn_logFrame c src n d s .pending (by decide)
@[simp] theorem logFrame_dump (c src n d : Nat) (s : State) : (logFrame c src n d s).dump = s.dump := onlyIn_logFrame c src n d s .dump (by decide)
@[simp] theorem logFrame_mode (c src n d : Nat) (s : State) : (logFrame c src n d s).mode = s.mode := onlyIn_logFrame c src n d s .mode (by decide)
@[simp] theorem logFrame_ledger (c src n d : Nat) (s : State) : (logFrame c src n d s).ledger = s.ledger := onlyIn_logFrame c src n d s .ledger (by decide)
@[simp] theorem logFrame_profiles (c src n d : Nat) (s : State) : (logFrame c src n d s).profiles = s.profiles := onlyIn_logFrame c src n d s .profiles (by decide)
@[simp] theorem logFrame_settings (c src n d : Nat) (s : State) : (logFrame c src n d s).settings = s.settings := onlyIn_logFrame c src n d s .settings (by decide)
@[simp] theorem logFrame_prefs (c src n d : Nat) (s : State) : (logFrame c src n d s).prefs = s.prefs := onlyIn_logFrame c src n d s .prefs (by decide)
@[simp] theorem logFrame_profileTandem (c src n d : Nat) (s : State) : (logFrame c src n d s).profileTandem = s.profileTandem := onlyIn_logFrame c src n d s .profileTandem (by decide)
@[simp] theorem logFrame_regs (c src n d : Nat) (s : State) : (logFrame c src n d s).regs = s.regs := onlyIn_logFrame c src n d s .regs (by decide)
@[simp] theorem logFrame_sensor (c src n d : Nat) (s : State) : (logFrame c src n d s).sensor = s.sensor := onlyIn_logFrame c src n d s .sensor (by decide)
@[simp] theorem logFrame_conv (c src n d : Nat) (s : State) : (logFrame c src n d s).conv = s.conv := onlyIn_logFrame c src n d s .conv (by decide)
@[simp] theorem logFrame_frame (c src n d : Nat) (s : State) : (logFrame c src n d s).frame = s.frame := onlyIn_logFrame c src n d s .frame (by decide)
@[simp] theorem logFrame_res (c src n d : Nat) (s : State) : (logFrame c src n d s).res = s.res := onlyIn_logFrame c src n d s .res (by decide)
@[simp] theorem logFrame_hold (c src n d : Nat) (s : State) : (logFrame c src n d s).hold = s.hold := onlyIn_logFrame c src n d s .hold (by decide)
@[simp] theorem logFrame_take (c src n d : Nat) (s : State) : (logFrame c src n d s).take = s.take := onlyIn_logFrame c src n d s .take (by decide)
@[simp] theorem logFrame_view (c src n d : Nat) (s : State) : (logFrame c src n d s).view = s.view := onlyIn_logFrame c src n d s .view (by decide)
@[simp] theorem logFrame_tandem (c src n d : Nat) (s : State) : (logFrame c src n d s).tandem = s.tandem := onlyIn_logFrame c src n d s .tandem (by decide)
@[simp] theorem logFrame_sync (c src n d : Nat) (s : State) : (logFrame c src n d s).sync = s.sync := onlyIn_logFrame c src n d s .sync (by decide)
@[simp] theorem logFrame_bus (c src n d : Nat) (s : State) : (logFrame c src n d s).bus = s.bus := onlyIn_logFrame c src n d s .bus (by decide)
@[simp] theorem logFrame_aux (c src n d : Nat) (s : State) : (logFrame c src n d s).aux = s.aux := onlyIn_logFrame c src n d s .aux (by decide)
@[simp] theorem logFrame_cal (c src n d : Nat) (s : State) : (logFrame c src n d s).cal = s.cal := onlyIn_logFrame c src n d s .cal (by decide)
@[simp] theorem logFrame_fuse (c src n d : Nat) (s : State) : (logFrame c src n d s).fuse = s.fuse := onlyIn_logFrame c src n d s .fuse (by decide)
@[simp] theorem logFrame_trust (c src n d : Nat) (s : State) : (logFrame c src n d s).trust = s.trust := onlyIn_logFrame c src n d s .trust (by decide)
@[simp] theorem logFrame_power (c src n d : Nat) (s : State) : (logFrame c src n d s).power = s.power := onlyIn_logFrame c src n d s .power (by decide)
@[simp] theorem logFrame_clk (c src n d : Nat) (s : State) : (logFrame c src n d s).clk = s.clk := onlyIn_logFrame c src n d s .clk (by decide)
@[simp] theorem logFrame_thermal (c src n d : Nat) (s : State) : (logFrame c src n d s).thermal = s.thermal := onlyIn_logFrame c src n d s .thermal (by decide)
@[simp] theorem logFrame_pins (c src n d : Nat) (s : State) : (logFrame c src n d s).pins = s.pins := onlyIn_logFrame c src n d s .pins (by decide)

/-! ## logEvent -/

@[simp] theorem logEvent_time (c src d : Nat) (s : State) : (logEvent c src d s).time = s.time := onlyIn_logEvent c src d s .time (by decide)
@[simp] theorem logEvent_free (c src d : Nat) (s : State) : (logEvent c src d s).free = s.free := onlyIn_logEvent c src d s .free (by decide)
@[simp] theorem logEvent_pending (c src d : Nat) (s : State) : (logEvent c src d s).pending = s.pending := onlyIn_logEvent c src d s .pending (by decide)
@[simp] theorem logEvent_dump (c src d : Nat) (s : State) : (logEvent c src d s).dump = s.dump := onlyIn_logEvent c src d s .dump (by decide)
@[simp] theorem logEvent_mode (c src d : Nat) (s : State) : (logEvent c src d s).mode = s.mode := onlyIn_logEvent c src d s .mode (by decide)
@[simp] theorem logEvent_ledger (c src d : Nat) (s : State) : (logEvent c src d s).ledger = s.ledger := onlyIn_logEvent c src d s .ledger (by decide)
@[simp] theorem logEvent_profiles (c src d : Nat) (s : State) : (logEvent c src d s).profiles = s.profiles := onlyIn_logEvent c src d s .profiles (by decide)
@[simp] theorem logEvent_settings (c src d : Nat) (s : State) : (logEvent c src d s).settings = s.settings := onlyIn_logEvent c src d s .settings (by decide)
@[simp] theorem logEvent_prefs (c src d : Nat) (s : State) : (logEvent c src d s).prefs = s.prefs := onlyIn_logEvent c src d s .prefs (by decide)
@[simp] theorem logEvent_profileTandem (c src d : Nat) (s : State) : (logEvent c src d s).profileTandem = s.profileTandem := onlyIn_logEvent c src d s .profileTandem (by decide)
@[simp] theorem logEvent_regs (c src d : Nat) (s : State) : (logEvent c src d s).regs = s.regs := onlyIn_logEvent c src d s .regs (by decide)
@[simp] theorem logEvent_sensor (c src d : Nat) (s : State) : (logEvent c src d s).sensor = s.sensor := onlyIn_logEvent c src d s .sensor (by decide)
@[simp] theorem logEvent_conv (c src d : Nat) (s : State) : (logEvent c src d s).conv = s.conv := onlyIn_logEvent c src d s .conv (by decide)
@[simp] theorem logEvent_frame (c src d : Nat) (s : State) : (logEvent c src d s).frame = s.frame := onlyIn_logEvent c src d s .frame (by decide)
@[simp] theorem logEvent_res (c src d : Nat) (s : State) : (logEvent c src d s).res = s.res := onlyIn_logEvent c src d s .res (by decide)
@[simp] theorem logEvent_hold (c src d : Nat) (s : State) : (logEvent c src d s).hold = s.hold := onlyIn_logEvent c src d s .hold (by decide)
@[simp] theorem logEvent_take (c src d : Nat) (s : State) : (logEvent c src d s).take = s.take := onlyIn_logEvent c src d s .take (by decide)
@[simp] theorem logEvent_view (c src d : Nat) (s : State) : (logEvent c src d s).view = s.view := onlyIn_logEvent c src d s .view (by decide)
@[simp] theorem logEvent_tandem (c src d : Nat) (s : State) : (logEvent c src d s).tandem = s.tandem := onlyIn_logEvent c src d s .tandem (by decide)
@[simp] theorem logEvent_sync (c src d : Nat) (s : State) : (logEvent c src d s).sync = s.sync := onlyIn_logEvent c src d s .sync (by decide)
@[simp] theorem logEvent_bus (c src d : Nat) (s : State) : (logEvent c src d s).bus = s.bus := onlyIn_logEvent c src d s .bus (by decide)
@[simp] theorem logEvent_aux (c src d : Nat) (s : State) : (logEvent c src d s).aux = s.aux := onlyIn_logEvent c src d s .aux (by decide)
@[simp] theorem logEvent_cal (c src d : Nat) (s : State) : (logEvent c src d s).cal = s.cal := onlyIn_logEvent c src d s .cal (by decide)
@[simp] theorem logEvent_fuse (c src d : Nat) (s : State) : (logEvent c src d s).fuse = s.fuse := onlyIn_logEvent c src d s .fuse (by decide)
@[simp] theorem logEvent_trust (c src d : Nat) (s : State) : (logEvent c src d s).trust = s.trust := onlyIn_logEvent c src d s .trust (by decide)
@[simp] theorem logEvent_power (c src d : Nat) (s : State) : (logEvent c src d s).power = s.power := onlyIn_logEvent c src d s .power (by decide)
@[simp] theorem logEvent_clk (c src d : Nat) (s : State) : (logEvent c src d s).clk = s.clk := onlyIn_logEvent c src d s .clk (by decide)
@[simp] theorem logEvent_thermal (c src d : Nat) (s : State) : (logEvent c src d s).thermal = s.thermal := onlyIn_logEvent c src d s .thermal (by decide)
@[simp] theorem logEvent_pins (c src d : Nat) (s : State) : (logEvent c src d s).pins = s.pins := onlyIn_logEvent c src d s .pins (by decide)

/-! ## takeReport -/

@[simp] theorem takeReport_time (r : Report) (s : State) : (takeReport r s).time = s.time := onlyIn_takeReport r s .time (by decide)
@[simp] theorem takeReport_free (r : Report) (s : State) : (takeReport r s).free = s.free := onlyIn_takeReport r s .free (by decide)
@[simp] theorem takeReport_pending (r : Report) (s : State) : (takeReport r s).pending = s.pending := onlyIn_takeReport r s .pending (by decide)
@[simp] theorem takeReport_sent (r : Report) (s : State) : (takeReport r s).sent = s.sent := onlyIn_takeReport r s .sent (by decide)
@[simp] theorem takeReport_dump (r : Report) (s : State) : (takeReport r s).dump = s.dump := onlyIn_takeReport r s .dump (by decide)
@[simp] theorem takeReport_mode (r : Report) (s : State) : (takeReport r s).mode = s.mode := onlyIn_takeReport r s .mode (by decide)
@[simp] theorem takeReport_ledger (r : Report) (s : State) : (takeReport r s).ledger = s.ledger := onlyIn_takeReport r s .ledger (by decide)
@[simp] theorem takeReport_profiles (r : Report) (s : State) : (takeReport r s).profiles = s.profiles := onlyIn_takeReport r s .profiles (by decide)
@[simp] theorem takeReport_settings (r : Report) (s : State) : (takeReport r s).settings = s.settings := onlyIn_takeReport r s .settings (by decide)
@[simp] theorem takeReport_prefs (r : Report) (s : State) : (takeReport r s).prefs = s.prefs := onlyIn_takeReport r s .prefs (by decide)
@[simp] theorem takeReport_profileTandem (r : Report) (s : State) : (takeReport r s).profileTandem = s.profileTandem := onlyIn_takeReport r s .profileTandem (by decide)
@[simp] theorem takeReport_regs (r : Report) (s : State) : (takeReport r s).regs = s.regs := onlyIn_takeReport r s .regs (by decide)
@[simp] theorem takeReport_sensor (r : Report) (s : State) : (takeReport r s).sensor = s.sensor := onlyIn_takeReport r s .sensor (by decide)
@[simp] theorem takeReport_conv (r : Report) (s : State) : (takeReport r s).conv = s.conv := onlyIn_takeReport r s .conv (by decide)
@[simp] theorem takeReport_frame (r : Report) (s : State) : (takeReport r s).frame = s.frame := onlyIn_takeReport r s .frame (by decide)
@[simp] theorem takeReport_res (r : Report) (s : State) : (takeReport r s).res = s.res := onlyIn_takeReport r s .res (by decide)
@[simp] theorem takeReport_hold (r : Report) (s : State) : (takeReport r s).hold = s.hold := onlyIn_takeReport r s .hold (by decide)
@[simp] theorem takeReport_take (r : Report) (s : State) : (takeReport r s).take = s.take := onlyIn_takeReport r s .take (by decide)
@[simp] theorem takeReport_view (r : Report) (s : State) : (takeReport r s).view = s.view := onlyIn_takeReport r s .view (by decide)
@[simp] theorem takeReport_tandem (r : Report) (s : State) : (takeReport r s).tandem = s.tandem := onlyIn_takeReport r s .tandem (by decide)
@[simp] theorem takeReport_sync (r : Report) (s : State) : (takeReport r s).sync = s.sync := onlyIn_takeReport r s .sync (by decide)
@[simp] theorem takeReport_bus (r : Report) (s : State) : (takeReport r s).bus = s.bus := onlyIn_takeReport r s .bus (by decide)
@[simp] theorem takeReport_aux (r : Report) (s : State) : (takeReport r s).aux = s.aux := onlyIn_takeReport r s .aux (by decide)
@[simp] theorem takeReport_cal (r : Report) (s : State) : (takeReport r s).cal = s.cal := onlyIn_takeReport r s .cal (by decide)
@[simp] theorem takeReport_fuse (r : Report) (s : State) : (takeReport r s).fuse = s.fuse := onlyIn_takeReport r s .fuse (by decide)
@[simp] theorem takeReport_trust (r : Report) (s : State) : (takeReport r s).trust = s.trust := onlyIn_takeReport r s .trust (by decide)
@[simp] theorem takeReport_power (r : Report) (s : State) : (takeReport r s).power = s.power := onlyIn_takeReport r s .power (by decide)
@[simp] theorem takeReport_clk (r : Report) (s : State) : (takeReport r s).clk = s.clk := onlyIn_takeReport r s .clk (by decide)
@[simp] theorem takeReport_link (r : Report) (s : State) : (takeReport r s).link = s.link := onlyIn_takeReport r s .link (by decide)
@[simp] theorem takeReport_thermal (r : Report) (s : State) : (takeReport r s).thermal = s.thermal := onlyIn_takeReport r s .thermal (by decide)
@[simp] theorem takeReport_pins (r : Report) (s : State) : (takeReport r s).pins = s.pins := onlyIn_takeReport r s .pins (by decide)

/-! ## serveLog -/

@[simp] theorem serveLog_time (s : State) : (serveLog s).time = s.time := onlyIn_serveLog s .time (by decide)
@[simp] theorem serveLog_free (s : State) : (serveLog s).free = s.free := onlyIn_serveLog s .free (by decide)
@[simp] theorem serveLog_pending (s : State) : (serveLog s).pending = s.pending := onlyIn_serveLog s .pending (by decide)
@[simp] theorem serveLog_dump (s : State) : (serveLog s).dump = s.dump := onlyIn_serveLog s .dump (by decide)
@[simp] theorem serveLog_mode (s : State) : (serveLog s).mode = s.mode := onlyIn_serveLog s .mode (by decide)
@[simp] theorem serveLog_ledger (s : State) : (serveLog s).ledger = s.ledger := onlyIn_serveLog s .ledger (by decide)
@[simp] theorem serveLog_profiles (s : State) : (serveLog s).profiles = s.profiles := onlyIn_serveLog s .profiles (by decide)
@[simp] theorem serveLog_settings (s : State) : (serveLog s).settings = s.settings := onlyIn_serveLog s .settings (by decide)
@[simp] theorem serveLog_prefs (s : State) : (serveLog s).prefs = s.prefs := onlyIn_serveLog s .prefs (by decide)
@[simp] theorem serveLog_profileTandem (s : State) : (serveLog s).profileTandem = s.profileTandem := onlyIn_serveLog s .profileTandem (by decide)
@[simp] theorem serveLog_regs (s : State) : (serveLog s).regs = s.regs := onlyIn_serveLog s .regs (by decide)
@[simp] theorem serveLog_sensor (s : State) : (serveLog s).sensor = s.sensor := onlyIn_serveLog s .sensor (by decide)
@[simp] theorem serveLog_conv (s : State) : (serveLog s).conv = s.conv := onlyIn_serveLog s .conv (by decide)
@[simp] theorem serveLog_frame (s : State) : (serveLog s).frame = s.frame := onlyIn_serveLog s .frame (by decide)
@[simp] theorem serveLog_res (s : State) : (serveLog s).res = s.res := onlyIn_serveLog s .res (by decide)
@[simp] theorem serveLog_hold (s : State) : (serveLog s).hold = s.hold := onlyIn_serveLog s .hold (by decide)
@[simp] theorem serveLog_take (s : State) : (serveLog s).take = s.take := onlyIn_serveLog s .take (by decide)
@[simp] theorem serveLog_view (s : State) : (serveLog s).view = s.view := onlyIn_serveLog s .view (by decide)
@[simp] theorem serveLog_tandem (s : State) : (serveLog s).tandem = s.tandem := onlyIn_serveLog s .tandem (by decide)
@[simp] theorem serveLog_sync (s : State) : (serveLog s).sync = s.sync := onlyIn_serveLog s .sync (by decide)
@[simp] theorem serveLog_bus (s : State) : (serveLog s).bus = s.bus := onlyIn_serveLog s .bus (by decide)
@[simp] theorem serveLog_aux (s : State) : (serveLog s).aux = s.aux := onlyIn_serveLog s .aux (by decide)
@[simp] theorem serveLog_cal (s : State) : (serveLog s).cal = s.cal := onlyIn_serveLog s .cal (by decide)
@[simp] theorem serveLog_fuse (s : State) : (serveLog s).fuse = s.fuse := onlyIn_serveLog s .fuse (by decide)
@[simp] theorem serveLog_trust (s : State) : (serveLog s).trust = s.trust := onlyIn_serveLog s .trust (by decide)
@[simp] theorem serveLog_power (s : State) : (serveLog s).power = s.power := onlyIn_serveLog s .power (by decide)
@[simp] theorem serveLog_clk (s : State) : (serveLog s).clk = s.clk := onlyIn_serveLog s .clk (by decide)
@[simp] theorem serveLog_thermal (s : State) : (serveLog s).thermal = s.thermal := onlyIn_serveLog s .thermal (by decide)
@[simp] theorem serveLog_pins (s : State) : (serveLog s).pins = s.pins := onlyIn_serveLog s .pins (by decide)

/-! ## respond -/

@[simp] theorem respond_time (id : ReqId) (f : Bool) (st : Status) (n : Nat) (b : List Byte) (s : State) : (respond id f st n b s).time = s.time := onlyIn_respond id f st n b s .time (by decide)
@[simp] theorem respond_free (id : ReqId) (f : Bool) (st : Status) (n : Nat) (b : List Byte) (s : State) : (respond id f st n b s).free = s.free := onlyIn_respond id f st n b s .free (by decide)
@[simp] theorem respond_pending (id : ReqId) (f : Bool) (st : Status) (n : Nat) (b : List Byte) (s : State) : (respond id f st n b s).pending = s.pending := onlyIn_respond id f st n b s .pending (by decide)
@[simp] theorem respond_sent (id : ReqId) (f : Bool) (st : Status) (n : Nat) (b : List Byte) (s : State) : (respond id f st n b s).sent = s.sent := onlyIn_respond id f st n b s .sent (by decide)
@[simp] theorem respond_log (id : ReqId) (f : Bool) (st : Status) (n : Nat) (b : List Byte) (s : State) : (respond id f st n b s).log = s.log := onlyIn_respond id f st n b s .log (by decide)
@[simp] theorem respond_dump (id : ReqId) (f : Bool) (st : Status) (n : Nat) (b : List Byte) (s : State) : (respond id f st n b s).dump = s.dump := onlyIn_respond id f st n b s .dump (by decide)
@[simp] theorem respond_mode (id : ReqId) (f : Bool) (st : Status) (n : Nat) (b : List Byte) (s : State) : (respond id f st n b s).mode = s.mode := onlyIn_respond id f st n b s .mode (by decide)
@[simp] theorem respond_ledger (id : ReqId) (f : Bool) (st : Status) (n : Nat) (b : List Byte) (s : State) : (respond id f st n b s).ledger = s.ledger := onlyIn_respond id f st n b s .ledger (by decide)
@[simp] theorem respond_profiles (id : ReqId) (f : Bool) (st : Status) (n : Nat) (b : List Byte) (s : State) : (respond id f st n b s).profiles = s.profiles := onlyIn_respond id f st n b s .profiles (by decide)
@[simp] theorem respond_settings (id : ReqId) (f : Bool) (st : Status) (n : Nat) (b : List Byte) (s : State) : (respond id f st n b s).settings = s.settings := onlyIn_respond id f st n b s .settings (by decide)
@[simp] theorem respond_prefs (id : ReqId) (f : Bool) (st : Status) (n : Nat) (b : List Byte) (s : State) : (respond id f st n b s).prefs = s.prefs := onlyIn_respond id f st n b s .prefs (by decide)
@[simp] theorem respond_profileTandem (id : ReqId) (f : Bool) (st : Status) (n : Nat) (b : List Byte) (s : State) : (respond id f st n b s).profileTandem = s.profileTandem := onlyIn_respond id f st n b s .profileTandem (by decide)
@[simp] theorem respond_regs (id : ReqId) (f : Bool) (st : Status) (n : Nat) (b : List Byte) (s : State) : (respond id f st n b s).regs = s.regs := onlyIn_respond id f st n b s .regs (by decide)
@[simp] theorem respond_sensor (id : ReqId) (f : Bool) (st : Status) (n : Nat) (b : List Byte) (s : State) : (respond id f st n b s).sensor = s.sensor := onlyIn_respond id f st n b s .sensor (by decide)
@[simp] theorem respond_conv (id : ReqId) (f : Bool) (st : Status) (n : Nat) (b : List Byte) (s : State) : (respond id f st n b s).conv = s.conv := onlyIn_respond id f st n b s .conv (by decide)
@[simp] theorem respond_frame (id : ReqId) (f : Bool) (st : Status) (n : Nat) (b : List Byte) (s : State) : (respond id f st n b s).frame = s.frame := onlyIn_respond id f st n b s .frame (by decide)
@[simp] theorem respond_res (id : ReqId) (f : Bool) (st : Status) (n : Nat) (b : List Byte) (s : State) : (respond id f st n b s).res = s.res := onlyIn_respond id f st n b s .res (by decide)
@[simp] theorem respond_hold (id : ReqId) (f : Bool) (st : Status) (n : Nat) (b : List Byte) (s : State) : (respond id f st n b s).hold = s.hold := onlyIn_respond id f st n b s .hold (by decide)
@[simp] theorem respond_take (id : ReqId) (f : Bool) (st : Status) (n : Nat) (b : List Byte) (s : State) : (respond id f st n b s).take = s.take := onlyIn_respond id f st n b s .take (by decide)
@[simp] theorem respond_view (id : ReqId) (f : Bool) (st : Status) (n : Nat) (b : List Byte) (s : State) : (respond id f st n b s).view = s.view := onlyIn_respond id f st n b s .view (by decide)
@[simp] theorem respond_tandem (id : ReqId) (f : Bool) (st : Status) (n : Nat) (b : List Byte) (s : State) : (respond id f st n b s).tandem = s.tandem := onlyIn_respond id f st n b s .tandem (by decide)
@[simp] theorem respond_sync (id : ReqId) (f : Bool) (st : Status) (n : Nat) (b : List Byte) (s : State) : (respond id f st n b s).sync = s.sync := onlyIn_respond id f st n b s .sync (by decide)
@[simp] theorem respond_bus (id : ReqId) (f : Bool) (st : Status) (n : Nat) (b : List Byte) (s : State) : (respond id f st n b s).bus = s.bus := onlyIn_respond id f st n b s .bus (by decide)
@[simp] theorem respond_aux (id : ReqId) (f : Bool) (st : Status) (n : Nat) (b : List Byte) (s : State) : (respond id f st n b s).aux = s.aux := onlyIn_respond id f st n b s .aux (by decide)
@[simp] theorem respond_cal (id : ReqId) (f : Bool) (st : Status) (n : Nat) (b : List Byte) (s : State) : (respond id f st n b s).cal = s.cal := onlyIn_respond id f st n b s .cal (by decide)
@[simp] theorem respond_fuse (id : ReqId) (f : Bool) (st : Status) (n : Nat) (b : List Byte) (s : State) : (respond id f st n b s).fuse = s.fuse := onlyIn_respond id f st n b s .fuse (by decide)
@[simp] theorem respond_trust (id : ReqId) (f : Bool) (st : Status) (n : Nat) (b : List Byte) (s : State) : (respond id f st n b s).trust = s.trust := onlyIn_respond id f st n b s .trust (by decide)
@[simp] theorem respond_power (id : ReqId) (f : Bool) (st : Status) (n : Nat) (b : List Byte) (s : State) : (respond id f st n b s).power = s.power := onlyIn_respond id f st n b s .power (by decide)
@[simp] theorem respond_clk (id : ReqId) (f : Bool) (st : Status) (n : Nat) (b : List Byte) (s : State) : (respond id f st n b s).clk = s.clk := onlyIn_respond id f st n b s .clk (by decide)
@[simp] theorem respond_link (id : ReqId) (f : Bool) (st : Status) (n : Nat) (b : List Byte) (s : State) : (respond id f st n b s).link = s.link := onlyIn_respond id f st n b s .link (by decide)
@[simp] theorem respond_thermal (id : ReqId) (f : Bool) (st : Status) (n : Nat) (b : List Byte) (s : State) : (respond id f st n b s).thermal = s.thermal := onlyIn_respond id f st n b s .thermal (by decide)
@[simp] theorem respond_pins (id : ReqId) (f : Bool) (st : Status) (n : Nat) (b : List Byte) (s : State) : (respond id f st n b s).pins = s.pins := onlyIn_respond id f st n b s .pins (by decide)

/-! ## finish -/

@[simp] theorem finish_time (id : ReqId) (st : Status) (n : Nat) (b : List Byte) (s : State) : (finish id st n b s).time = s.time := onlyIn_finish id st n b s .time (by decide)
@[simp] theorem finish_free (id : ReqId) (st : Status) (n : Nat) (b : List Byte) (s : State) : (finish id st n b s).free = s.free := onlyIn_finish id st n b s .free (by decide)
@[simp] theorem finish_pending (id : ReqId) (st : Status) (n : Nat) (b : List Byte) (s : State) : (finish id st n b s).pending = s.pending := onlyIn_finish id st n b s .pending (by decide)
@[simp] theorem finish_sent (id : ReqId) (st : Status) (n : Nat) (b : List Byte) (s : State) : (finish id st n b s).sent = s.sent := onlyIn_finish id st n b s .sent (by decide)
@[simp] theorem finish_log (id : ReqId) (st : Status) (n : Nat) (b : List Byte) (s : State) : (finish id st n b s).log = s.log := onlyIn_finish id st n b s .log (by decide)
@[simp] theorem finish_dump (id : ReqId) (st : Status) (n : Nat) (b : List Byte) (s : State) : (finish id st n b s).dump = s.dump := onlyIn_finish id st n b s .dump (by decide)
@[simp] theorem finish_mode (id : ReqId) (st : Status) (n : Nat) (b : List Byte) (s : State) : (finish id st n b s).mode = s.mode := onlyIn_finish id st n b s .mode (by decide)
@[simp] theorem finish_ledger (id : ReqId) (st : Status) (n : Nat) (b : List Byte) (s : State) : (finish id st n b s).ledger = s.ledger := onlyIn_finish id st n b s .ledger (by decide)
@[simp] theorem finish_profiles (id : ReqId) (st : Status) (n : Nat) (b : List Byte) (s : State) : (finish id st n b s).profiles = s.profiles := onlyIn_finish id st n b s .profiles (by decide)
@[simp] theorem finish_settings (id : ReqId) (st : Status) (n : Nat) (b : List Byte) (s : State) : (finish id st n b s).settings = s.settings := onlyIn_finish id st n b s .settings (by decide)
@[simp] theorem finish_prefs (id : ReqId) (st : Status) (n : Nat) (b : List Byte) (s : State) : (finish id st n b s).prefs = s.prefs := onlyIn_finish id st n b s .prefs (by decide)
@[simp] theorem finish_profileTandem (id : ReqId) (st : Status) (n : Nat) (b : List Byte) (s : State) : (finish id st n b s).profileTandem = s.profileTandem := onlyIn_finish id st n b s .profileTandem (by decide)
@[simp] theorem finish_regs (id : ReqId) (st : Status) (n : Nat) (b : List Byte) (s : State) : (finish id st n b s).regs = s.regs := onlyIn_finish id st n b s .regs (by decide)
@[simp] theorem finish_sensor (id : ReqId) (st : Status) (n : Nat) (b : List Byte) (s : State) : (finish id st n b s).sensor = s.sensor := onlyIn_finish id st n b s .sensor (by decide)
@[simp] theorem finish_conv (id : ReqId) (st : Status) (n : Nat) (b : List Byte) (s : State) : (finish id st n b s).conv = s.conv := onlyIn_finish id st n b s .conv (by decide)
@[simp] theorem finish_frame (id : ReqId) (st : Status) (n : Nat) (b : List Byte) (s : State) : (finish id st n b s).frame = s.frame := onlyIn_finish id st n b s .frame (by decide)
@[simp] theorem finish_res (id : ReqId) (st : Status) (n : Nat) (b : List Byte) (s : State) : (finish id st n b s).res = s.res := onlyIn_finish id st n b s .res (by decide)
@[simp] theorem finish_hold (id : ReqId) (st : Status) (n : Nat) (b : List Byte) (s : State) : (finish id st n b s).hold = s.hold := onlyIn_finish id st n b s .hold (by decide)
@[simp] theorem finish_take (id : ReqId) (st : Status) (n : Nat) (b : List Byte) (s : State) : (finish id st n b s).take = s.take := onlyIn_finish id st n b s .take (by decide)
@[simp] theorem finish_view (id : ReqId) (st : Status) (n : Nat) (b : List Byte) (s : State) : (finish id st n b s).view = s.view := onlyIn_finish id st n b s .view (by decide)
@[simp] theorem finish_tandem (id : ReqId) (st : Status) (n : Nat) (b : List Byte) (s : State) : (finish id st n b s).tandem = s.tandem := onlyIn_finish id st n b s .tandem (by decide)
@[simp] theorem finish_sync (id : ReqId) (st : Status) (n : Nat) (b : List Byte) (s : State) : (finish id st n b s).sync = s.sync := onlyIn_finish id st n b s .sync (by decide)
@[simp] theorem finish_bus (id : ReqId) (st : Status) (n : Nat) (b : List Byte) (s : State) : (finish id st n b s).bus = s.bus := onlyIn_finish id st n b s .bus (by decide)
@[simp] theorem finish_aux (id : ReqId) (st : Status) (n : Nat) (b : List Byte) (s : State) : (finish id st n b s).aux = s.aux := onlyIn_finish id st n b s .aux (by decide)
@[simp] theorem finish_cal (id : ReqId) (st : Status) (n : Nat) (b : List Byte) (s : State) : (finish id st n b s).cal = s.cal := onlyIn_finish id st n b s .cal (by decide)
@[simp] theorem finish_fuse (id : ReqId) (st : Status) (n : Nat) (b : List Byte) (s : State) : (finish id st n b s).fuse = s.fuse := onlyIn_finish id st n b s .fuse (by decide)
@[simp] theorem finish_trust (id : ReqId) (st : Status) (n : Nat) (b : List Byte) (s : State) : (finish id st n b s).trust = s.trust := onlyIn_finish id st n b s .trust (by decide)
@[simp] theorem finish_power (id : ReqId) (st : Status) (n : Nat) (b : List Byte) (s : State) : (finish id st n b s).power = s.power := onlyIn_finish id st n b s .power (by decide)
@[simp] theorem finish_clk (id : ReqId) (st : Status) (n : Nat) (b : List Byte) (s : State) : (finish id st n b s).clk = s.clk := onlyIn_finish id st n b s .clk (by decide)
@[simp] theorem finish_link (id : ReqId) (st : Status) (n : Nat) (b : List Byte) (s : State) : (finish id st n b s).link = s.link := onlyIn_finish id st n b s .link (by decide)
@[simp] theorem finish_thermal (id : ReqId) (st : Status) (n : Nat) (b : List Byte) (s : State) : (finish id st n b s).thermal = s.thermal := onlyIn_finish id st n b s .thermal (by decide)
@[simp] theorem finish_pins (id : ReqId) (st : Status) (n : Nat) (b : List Byte) (s : State) : (finish id st n b s).pins = s.pins := onlyIn_finish id st n b s .pins (by decide)

/-! ## finishOpt -/

@[simp] theorem finishOpt_time (id : Option ReqId) (st : Status) (n : Nat) (b : List Byte) (s : State) : (finishOpt id st n b s).time = s.time := onlyIn_finishOpt id st n b s .time (by decide)
@[simp] theorem finishOpt_free (id : Option ReqId) (st : Status) (n : Nat) (b : List Byte) (s : State) : (finishOpt id st n b s).free = s.free := onlyIn_finishOpt id st n b s .free (by decide)
@[simp] theorem finishOpt_pending (id : Option ReqId) (st : Status) (n : Nat) (b : List Byte) (s : State) : (finishOpt id st n b s).pending = s.pending := onlyIn_finishOpt id st n b s .pending (by decide)
@[simp] theorem finishOpt_sent (id : Option ReqId) (st : Status) (n : Nat) (b : List Byte) (s : State) : (finishOpt id st n b s).sent = s.sent := onlyIn_finishOpt id st n b s .sent (by decide)
@[simp] theorem finishOpt_log (id : Option ReqId) (st : Status) (n : Nat) (b : List Byte) (s : State) : (finishOpt id st n b s).log = s.log := onlyIn_finishOpt id st n b s .log (by decide)
@[simp] theorem finishOpt_dump (id : Option ReqId) (st : Status) (n : Nat) (b : List Byte) (s : State) : (finishOpt id st n b s).dump = s.dump := onlyIn_finishOpt id st n b s .dump (by decide)
@[simp] theorem finishOpt_mode (id : Option ReqId) (st : Status) (n : Nat) (b : List Byte) (s : State) : (finishOpt id st n b s).mode = s.mode := onlyIn_finishOpt id st n b s .mode (by decide)
@[simp] theorem finishOpt_ledger (id : Option ReqId) (st : Status) (n : Nat) (b : List Byte) (s : State) : (finishOpt id st n b s).ledger = s.ledger := onlyIn_finishOpt id st n b s .ledger (by decide)
@[simp] theorem finishOpt_profiles (id : Option ReqId) (st : Status) (n : Nat) (b : List Byte) (s : State) : (finishOpt id st n b s).profiles = s.profiles := onlyIn_finishOpt id st n b s .profiles (by decide)
@[simp] theorem finishOpt_settings (id : Option ReqId) (st : Status) (n : Nat) (b : List Byte) (s : State) : (finishOpt id st n b s).settings = s.settings := onlyIn_finishOpt id st n b s .settings (by decide)
@[simp] theorem finishOpt_prefs (id : Option ReqId) (st : Status) (n : Nat) (b : List Byte) (s : State) : (finishOpt id st n b s).prefs = s.prefs := onlyIn_finishOpt id st n b s .prefs (by decide)
@[simp] theorem finishOpt_profileTandem (id : Option ReqId) (st : Status) (n : Nat) (b : List Byte) (s : State) : (finishOpt id st n b s).profileTandem = s.profileTandem := onlyIn_finishOpt id st n b s .profileTandem (by decide)
@[simp] theorem finishOpt_regs (id : Option ReqId) (st : Status) (n : Nat) (b : List Byte) (s : State) : (finishOpt id st n b s).regs = s.regs := onlyIn_finishOpt id st n b s .regs (by decide)
@[simp] theorem finishOpt_sensor (id : Option ReqId) (st : Status) (n : Nat) (b : List Byte) (s : State) : (finishOpt id st n b s).sensor = s.sensor := onlyIn_finishOpt id st n b s .sensor (by decide)
@[simp] theorem finishOpt_conv (id : Option ReqId) (st : Status) (n : Nat) (b : List Byte) (s : State) : (finishOpt id st n b s).conv = s.conv := onlyIn_finishOpt id st n b s .conv (by decide)
@[simp] theorem finishOpt_frame (id : Option ReqId) (st : Status) (n : Nat) (b : List Byte) (s : State) : (finishOpt id st n b s).frame = s.frame := onlyIn_finishOpt id st n b s .frame (by decide)
@[simp] theorem finishOpt_res (id : Option ReqId) (st : Status) (n : Nat) (b : List Byte) (s : State) : (finishOpt id st n b s).res = s.res := onlyIn_finishOpt id st n b s .res (by decide)
@[simp] theorem finishOpt_hold (id : Option ReqId) (st : Status) (n : Nat) (b : List Byte) (s : State) : (finishOpt id st n b s).hold = s.hold := onlyIn_finishOpt id st n b s .hold (by decide)
@[simp] theorem finishOpt_take (id : Option ReqId) (st : Status) (n : Nat) (b : List Byte) (s : State) : (finishOpt id st n b s).take = s.take := onlyIn_finishOpt id st n b s .take (by decide)
@[simp] theorem finishOpt_view (id : Option ReqId) (st : Status) (n : Nat) (b : List Byte) (s : State) : (finishOpt id st n b s).view = s.view := onlyIn_finishOpt id st n b s .view (by decide)
@[simp] theorem finishOpt_tandem (id : Option ReqId) (st : Status) (n : Nat) (b : List Byte) (s : State) : (finishOpt id st n b s).tandem = s.tandem := onlyIn_finishOpt id st n b s .tandem (by decide)
@[simp] theorem finishOpt_sync (id : Option ReqId) (st : Status) (n : Nat) (b : List Byte) (s : State) : (finishOpt id st n b s).sync = s.sync := onlyIn_finishOpt id st n b s .sync (by decide)
@[simp] theorem finishOpt_bus (id : Option ReqId) (st : Status) (n : Nat) (b : List Byte) (s : State) : (finishOpt id st n b s).bus = s.bus := onlyIn_finishOpt id st n b s .bus (by decide)
@[simp] theorem finishOpt_aux (id : Option ReqId) (st : Status) (n : Nat) (b : List Byte) (s : State) : (finishOpt id st n b s).aux = s.aux := onlyIn_finishOpt id st n b s .aux (by decide)
@[simp] theorem finishOpt_cal (id : Option ReqId) (st : Status) (n : Nat) (b : List Byte) (s : State) : (finishOpt id st n b s).cal = s.cal := onlyIn_finishOpt id st n b s .cal (by decide)
@[simp] theorem finishOpt_fuse (id : Option ReqId) (st : Status) (n : Nat) (b : List Byte) (s : State) : (finishOpt id st n b s).fuse = s.fuse := onlyIn_finishOpt id st n b s .fuse (by decide)
@[simp] theorem finishOpt_trust (id : Option ReqId) (st : Status) (n : Nat) (b : List Byte) (s : State) : (finishOpt id st n b s).trust = s.trust := onlyIn_finishOpt id st n b s .trust (by decide)
@[simp] theorem finishOpt_power (id : Option ReqId) (st : Status) (n : Nat) (b : List Byte) (s : State) : (finishOpt id st n b s).power = s.power := onlyIn_finishOpt id st n b s .power (by decide)
@[simp] theorem finishOpt_clk (id : Option ReqId) (st : Status) (n : Nat) (b : List Byte) (s : State) : (finishOpt id st n b s).clk = s.clk := onlyIn_finishOpt id st n b s .clk (by decide)
@[simp] theorem finishOpt_link (id : Option ReqId) (st : Status) (n : Nat) (b : List Byte) (s : State) : (finishOpt id st n b s).link = s.link := onlyIn_finishOpt id st n b s .link (by decide)
@[simp] theorem finishOpt_thermal (id : Option ReqId) (st : Status) (n : Nat) (b : List Byte) (s : State) : (finishOpt id st n b s).thermal = s.thermal := onlyIn_finishOpt id st n b s .thermal (by decide)
@[simp] theorem finishOpt_pins (id : Option ReqId) (st : Status) (n : Nat) (b : List Byte) (s : State) : (finishOpt id st n b s).pins = s.pins := onlyIn_finishOpt id st n b s .pins (by decide)

/-! ## accept -/

@[simp] theorem accept_time (id : ReqId) (l : List Resource) (n : Nat) (s : State) : (accept id l n s).time = s.time := onlyIn_accept id l n s .time (by decide)
@[simp] theorem accept_free (id : ReqId) (l : List Resource) (n : Nat) (s : State) : (accept id l n s).free = s.free := onlyIn_accept id l n s .free (by decide)
@[simp] theorem accept_pending (id : ReqId) (l : List Resource) (n : Nat) (s : State) : (accept id l n s).pending = s.pending := onlyIn_accept id l n s .pending (by decide)
@[simp] theorem accept_sent (id : ReqId) (l : List Resource) (n : Nat) (s : State) : (accept id l n s).sent = s.sent := onlyIn_accept id l n s .sent (by decide)
@[simp] theorem accept_log (id : ReqId) (l : List Resource) (n : Nat) (s : State) : (accept id l n s).log = s.log := onlyIn_accept id l n s .log (by decide)
@[simp] theorem accept_dump (id : ReqId) (l : List Resource) (n : Nat) (s : State) : (accept id l n s).dump = s.dump := onlyIn_accept id l n s .dump (by decide)
@[simp] theorem accept_mode (id : ReqId) (l : List Resource) (n : Nat) (s : State) : (accept id l n s).mode = s.mode := onlyIn_accept id l n s .mode (by decide)
@[simp] theorem accept_ledger (id : ReqId) (l : List Resource) (n : Nat) (s : State) : (accept id l n s).ledger = s.ledger := onlyIn_accept id l n s .ledger (by decide)
@[simp] theorem accept_profiles (id : ReqId) (l : List Resource) (n : Nat) (s : State) : (accept id l n s).profiles = s.profiles := onlyIn_accept id l n s .profiles (by decide)
@[simp] theorem accept_settings (id : ReqId) (l : List Resource) (n : Nat) (s : State) : (accept id l n s).settings = s.settings := onlyIn_accept id l n s .settings (by decide)
@[simp] theorem accept_prefs (id : ReqId) (l : List Resource) (n : Nat) (s : State) : (accept id l n s).prefs = s.prefs := onlyIn_accept id l n s .prefs (by decide)
@[simp] theorem accept_profileTandem (id : ReqId) (l : List Resource) (n : Nat) (s : State) : (accept id l n s).profileTandem = s.profileTandem := onlyIn_accept id l n s .profileTandem (by decide)
@[simp] theorem accept_regs (id : ReqId) (l : List Resource) (n : Nat) (s : State) : (accept id l n s).regs = s.regs := onlyIn_accept id l n s .regs (by decide)
@[simp] theorem accept_sensor (id : ReqId) (l : List Resource) (n : Nat) (s : State) : (accept id l n s).sensor = s.sensor := onlyIn_accept id l n s .sensor (by decide)
@[simp] theorem accept_conv (id : ReqId) (l : List Resource) (n : Nat) (s : State) : (accept id l n s).conv = s.conv := onlyIn_accept id l n s .conv (by decide)
@[simp] theorem accept_frame (id : ReqId) (l : List Resource) (n : Nat) (s : State) : (accept id l n s).frame = s.frame := onlyIn_accept id l n s .frame (by decide)
@[simp] theorem accept_res (id : ReqId) (l : List Resource) (n : Nat) (s : State) : (accept id l n s).res = s.res := onlyIn_accept id l n s .res (by decide)
@[simp] theorem accept_hold (id : ReqId) (l : List Resource) (n : Nat) (s : State) : (accept id l n s).hold = s.hold := onlyIn_accept id l n s .hold (by decide)
@[simp] theorem accept_take (id : ReqId) (l : List Resource) (n : Nat) (s : State) : (accept id l n s).take = s.take := onlyIn_accept id l n s .take (by decide)
@[simp] theorem accept_view (id : ReqId) (l : List Resource) (n : Nat) (s : State) : (accept id l n s).view = s.view := onlyIn_accept id l n s .view (by decide)
@[simp] theorem accept_tandem (id : ReqId) (l : List Resource) (n : Nat) (s : State) : (accept id l n s).tandem = s.tandem := onlyIn_accept id l n s .tandem (by decide)
@[simp] theorem accept_sync (id : ReqId) (l : List Resource) (n : Nat) (s : State) : (accept id l n s).sync = s.sync := onlyIn_accept id l n s .sync (by decide)
@[simp] theorem accept_bus (id : ReqId) (l : List Resource) (n : Nat) (s : State) : (accept id l n s).bus = s.bus := onlyIn_accept id l n s .bus (by decide)
@[simp] theorem accept_aux (id : ReqId) (l : List Resource) (n : Nat) (s : State) : (accept id l n s).aux = s.aux := onlyIn_accept id l n s .aux (by decide)
@[simp] theorem accept_cal (id : ReqId) (l : List Resource) (n : Nat) (s : State) : (accept id l n s).cal = s.cal := onlyIn_accept id l n s .cal (by decide)
@[simp] theorem accept_fuse (id : ReqId) (l : List Resource) (n : Nat) (s : State) : (accept id l n s).fuse = s.fuse := onlyIn_accept id l n s .fuse (by decide)
@[simp] theorem accept_trust (id : ReqId) (l : List Resource) (n : Nat) (s : State) : (accept id l n s).trust = s.trust := onlyIn_accept id l n s .trust (by decide)
@[simp] theorem accept_power (id : ReqId) (l : List Resource) (n : Nat) (s : State) : (accept id l n s).power = s.power := onlyIn_accept id l n s .power (by decide)
@[simp] theorem accept_clk (id : ReqId) (l : List Resource) (n : Nat) (s : State) : (accept id l n s).clk = s.clk := onlyIn_accept id l n s .clk (by decide)
@[simp] theorem accept_link (id : ReqId) (l : List Resource) (n : Nat) (s : State) : (accept id l n s).link = s.link := onlyIn_accept id l n s .link (by decide)
@[simp] theorem accept_thermal (id : ReqId) (l : List Resource) (n : Nat) (s : State) : (accept id l n s).thermal = s.thermal := onlyIn_accept id l n s .thermal (by decide)
@[simp] theorem accept_pins (id : ReqId) (l : List Resource) (n : Nat) (s : State) : (accept id l n s).pins = s.pins := onlyIn_accept id l n s .pins (by decide)

/-! ## takeUp -/

@[simp] theorem takeUp_free (r : Req) (s : State) : (takeUp r s).free = s.free := onlyIn_takeUp r s .free (by decide)
@[simp] theorem takeUp_pending (r : Req) (s : State) : (takeUp r s).pending = s.pending := onlyIn_takeUp r s .pending (by decide)
@[simp] theorem takeUp_sent (r : Req) (s : State) : (takeUp r s).sent = s.sent := onlyIn_takeUp r s .sent (by decide)
@[simp] theorem takeUp_log (r : Req) (s : State) : (takeUp r s).log = s.log := onlyIn_takeUp r s .log (by decide)
@[simp] theorem takeUp_dump (r : Req) (s : State) : (takeUp r s).dump = s.dump := onlyIn_takeUp r s .dump (by decide)
@[simp] theorem takeUp_mode (r : Req) (s : State) : (takeUp r s).mode = s.mode := onlyIn_takeUp r s .mode (by decide)
@[simp] theorem takeUp_ledger (r : Req) (s : State) : (takeUp r s).ledger = s.ledger := onlyIn_takeUp r s .ledger (by decide)
@[simp] theorem takeUp_profiles (r : Req) (s : State) : (takeUp r s).profiles = s.profiles := onlyIn_takeUp r s .profiles (by decide)
@[simp] theorem takeUp_settings (r : Req) (s : State) : (takeUp r s).settings = s.settings := onlyIn_takeUp r s .settings (by decide)
@[simp] theorem takeUp_prefs (r : Req) (s : State) : (takeUp r s).prefs = s.prefs := onlyIn_takeUp r s .prefs (by decide)
@[simp] theorem takeUp_profileTandem (r : Req) (s : State) : (takeUp r s).profileTandem = s.profileTandem := onlyIn_takeUp r s .profileTandem (by decide)
@[simp] theorem takeUp_regs (r : Req) (s : State) : (takeUp r s).regs = s.regs := onlyIn_takeUp r s .regs (by decide)
@[simp] theorem takeUp_sensor (r : Req) (s : State) : (takeUp r s).sensor = s.sensor := onlyIn_takeUp r s .sensor (by decide)
@[simp] theorem takeUp_conv (r : Req) (s : State) : (takeUp r s).conv = s.conv := onlyIn_takeUp r s .conv (by decide)
@[simp] theorem takeUp_frame (r : Req) (s : State) : (takeUp r s).frame = s.frame := onlyIn_takeUp r s .frame (by decide)
@[simp] theorem takeUp_res (r : Req) (s : State) : (takeUp r s).res = s.res := onlyIn_takeUp r s .res (by decide)
@[simp] theorem takeUp_hold (r : Req) (s : State) : (takeUp r s).hold = s.hold := onlyIn_takeUp r s .hold (by decide)
@[simp] theorem takeUp_take (r : Req) (s : State) : (takeUp r s).take = s.take := onlyIn_takeUp r s .take (by decide)
@[simp] theorem takeUp_view (r : Req) (s : State) : (takeUp r s).view = s.view := onlyIn_takeUp r s .view (by decide)
@[simp] theorem takeUp_tandem (r : Req) (s : State) : (takeUp r s).tandem = s.tandem := onlyIn_takeUp r s .tandem (by decide)
@[simp] theorem takeUp_sync (r : Req) (s : State) : (takeUp r s).sync = s.sync := onlyIn_takeUp r s .sync (by decide)
@[simp] theorem takeUp_bus (r : Req) (s : State) : (takeUp r s).bus = s.bus := onlyIn_takeUp r s .bus (by decide)
@[simp] theorem takeUp_aux (r : Req) (s : State) : (takeUp r s).aux = s.aux := onlyIn_takeUp r s .aux (by decide)
@[simp] theorem takeUp_cal (r : Req) (s : State) : (takeUp r s).cal = s.cal := onlyIn_takeUp r s .cal (by decide)
@[simp] theorem takeUp_fuse (r : Req) (s : State) : (takeUp r s).fuse = s.fuse := onlyIn_takeUp r s .fuse (by decide)
@[simp] theorem takeUp_trust (r : Req) (s : State) : (takeUp r s).trust = s.trust := onlyIn_takeUp r s .trust (by decide)
@[simp] theorem takeUp_power (r : Req) (s : State) : (takeUp r s).power = s.power := onlyIn_takeUp r s .power (by decide)
@[simp] theorem takeUp_clk (r : Req) (s : State) : (takeUp r s).clk = s.clk := onlyIn_takeUp r s .clk (by decide)
@[simp] theorem takeUp_link (r : Req) (s : State) : (takeUp r s).link = s.link := onlyIn_takeUp r s .link (by decide)
@[simp] theorem takeUp_thermal (r : Req) (s : State) : (takeUp r s).thermal = s.thermal := onlyIn_takeUp r s .thermal (by decide)
@[simp] theorem takeUp_pins (r : Req) (s : State) : (takeUp r s).pins = s.pins := onlyIn_takeUp r s .pins (by decide)

/-! ## reach -/

@[simp] theorem reach_free (n : Nat) (s : State) : (reach n s).free = s.free := onlyIn_reach n s .free (by decide)
@[simp] theorem reach_pending (n : Nat) (s : State) : (reach n s).pending = s.pending := onlyIn_reach n s .pending (by decide)
@[simp] theorem reach_sent (n : Nat) (s : State) : (reach n s).sent = s.sent := onlyIn_reach n s .sent (by decide)
@[simp] theorem reach_mbox (n : Nat) (s : State) : (reach n s).mbox = s.mbox := onlyIn_reach n s .mbox (by decide)
@[simp] theorem reach_log (n : Nat) (s : State) : (reach n s).log = s.log := onlyIn_reach n s .log (by decide)
@[simp] theorem reach_dump (n : Nat) (s : State) : (reach n s).dump = s.dump := onlyIn_reach n s .dump (by decide)
@[simp] theorem reach_mode (n : Nat) (s : State) : (reach n s).mode = s.mode := onlyIn_reach n s .mode (by decide)
@[simp] theorem reach_ledger (n : Nat) (s : State) : (reach n s).ledger = s.ledger := onlyIn_reach n s .ledger (by decide)
@[simp] theorem reach_profiles (n : Nat) (s : State) : (reach n s).profiles = s.profiles := onlyIn_reach n s .profiles (by decide)
@[simp] theorem reach_settings (n : Nat) (s : State) : (reach n s).settings = s.settings := onlyIn_reach n s .settings (by decide)
@[simp] theorem reach_prefs (n : Nat) (s : State) : (reach n s).prefs = s.prefs := onlyIn_reach n s .prefs (by decide)
@[simp] theorem reach_profileTandem (n : Nat) (s : State) : (reach n s).profileTandem = s.profileTandem := onlyIn_reach n s .profileTandem (by decide)
@[simp] theorem reach_regs (n : Nat) (s : State) : (reach n s).regs = s.regs := onlyIn_reach n s .regs (by decide)
@[simp] theorem reach_sensor (n : Nat) (s : State) : (reach n s).sensor = s.sensor := onlyIn_reach n s .sensor (by decide)
@[simp] theorem reach_conv (n : Nat) (s : State) : (reach n s).conv = s.conv := onlyIn_reach n s .conv (by decide)
@[simp] theorem reach_frame (n : Nat) (s : State) : (reach n s).frame = s.frame := onlyIn_reach n s .frame (by decide)
@[simp] theorem reach_res (n : Nat) (s : State) : (reach n s).res = s.res := onlyIn_reach n s .res (by decide)
@[simp] theorem reach_hold (n : Nat) (s : State) : (reach n s).hold = s.hold := onlyIn_reach n s .hold (by decide)
@[simp] theorem reach_take (n : Nat) (s : State) : (reach n s).take = s.take := onlyIn_reach n s .take (by decide)
@[simp] theorem reach_view (n : Nat) (s : State) : (reach n s).view = s.view := onlyIn_reach n s .view (by decide)
@[simp] theorem reach_tandem (n : Nat) (s : State) : (reach n s).tandem = s.tandem := onlyIn_reach n s .tandem (by decide)
@[simp] theorem reach_sync (n : Nat) (s : State) : (reach n s).sync = s.sync := onlyIn_reach n s .sync (by decide)
@[simp] theorem reach_bus (n : Nat) (s : State) : (reach n s).bus = s.bus := onlyIn_reach n s .bus (by decide)
@[simp] theorem reach_aux (n : Nat) (s : State) : (reach n s).aux = s.aux := onlyIn_reach n s .aux (by decide)
@[simp] theorem reach_cal (n : Nat) (s : State) : (reach n s).cal = s.cal := onlyIn_reach n s .cal (by decide)
@[simp] theorem reach_fuse (n : Nat) (s : State) : (reach n s).fuse = s.fuse := onlyIn_reach n s .fuse (by decide)
@[simp] theorem reach_trust (n : Nat) (s : State) : (reach n s).trust = s.trust := onlyIn_reach n s .trust (by decide)
@[simp] theorem reach_power (n : Nat) (s : State) : (reach n s).power = s.power := onlyIn_reach n s .power (by decide)
@[simp] theorem reach_clk (n : Nat) (s : State) : (reach n s).clk = s.clk := onlyIn_reach n s .clk (by decide)
@[simp] theorem reach_link (n : Nat) (s : State) : (reach n s).link = s.link := onlyIn_reach n s .link (by decide)
@[simp] theorem reach_thermal (n : Nat) (s : State) : (reach n s).thermal = s.thermal := onlyIn_reach n s .thermal (by decide)
@[simp] theorem reach_pins (n : Nat) (s : State) : (reach n s).pins = s.pins := onlyIn_reach n s .pins (by decide)

/-! ## reachNow -/

@[simp] theorem reachNow_free (n : Nat) (s : State) : (reachNow n s).free = s.free := onlyIn_reachNow n s .free (by decide)
@[simp] theorem reachNow_pending (n : Nat) (s : State) : (reachNow n s).pending = s.pending := onlyIn_reachNow n s .pending (by decide)
@[simp] theorem reachNow_sent (n : Nat) (s : State) : (reachNow n s).sent = s.sent := onlyIn_reachNow n s .sent (by decide)
@[simp] theorem reachNow_mbox (n : Nat) (s : State) : (reachNow n s).mbox = s.mbox := onlyIn_reachNow n s .mbox (by decide)
@[simp] theorem reachNow_log (n : Nat) (s : State) : (reachNow n s).log = s.log := onlyIn_reachNow n s .log (by decide)
@[simp] theorem reachNow_dump (n : Nat) (s : State) : (reachNow n s).dump = s.dump := onlyIn_reachNow n s .dump (by decide)
@[simp] theorem reachNow_mode (n : Nat) (s : State) : (reachNow n s).mode = s.mode := onlyIn_reachNow n s .mode (by decide)
@[simp] theorem reachNow_ledger (n : Nat) (s : State) : (reachNow n s).ledger = s.ledger := onlyIn_reachNow n s .ledger (by decide)
@[simp] theorem reachNow_profiles (n : Nat) (s : State) : (reachNow n s).profiles = s.profiles := onlyIn_reachNow n s .profiles (by decide)
@[simp] theorem reachNow_settings (n : Nat) (s : State) : (reachNow n s).settings = s.settings := onlyIn_reachNow n s .settings (by decide)
@[simp] theorem reachNow_prefs (n : Nat) (s : State) : (reachNow n s).prefs = s.prefs := onlyIn_reachNow n s .prefs (by decide)
@[simp] theorem reachNow_profileTandem (n : Nat) (s : State) : (reachNow n s).profileTandem = s.profileTandem := onlyIn_reachNow n s .profileTandem (by decide)
@[simp] theorem reachNow_regs (n : Nat) (s : State) : (reachNow n s).regs = s.regs := onlyIn_reachNow n s .regs (by decide)
@[simp] theorem reachNow_sensor (n : Nat) (s : State) : (reachNow n s).sensor = s.sensor := onlyIn_reachNow n s .sensor (by decide)
@[simp] theorem reachNow_conv (n : Nat) (s : State) : (reachNow n s).conv = s.conv := onlyIn_reachNow n s .conv (by decide)
@[simp] theorem reachNow_frame (n : Nat) (s : State) : (reachNow n s).frame = s.frame := onlyIn_reachNow n s .frame (by decide)
@[simp] theorem reachNow_res (n : Nat) (s : State) : (reachNow n s).res = s.res := onlyIn_reachNow n s .res (by decide)
@[simp] theorem reachNow_hold (n : Nat) (s : State) : (reachNow n s).hold = s.hold := onlyIn_reachNow n s .hold (by decide)
@[simp] theorem reachNow_take (n : Nat) (s : State) : (reachNow n s).take = s.take := onlyIn_reachNow n s .take (by decide)
@[simp] theorem reachNow_view (n : Nat) (s : State) : (reachNow n s).view = s.view := onlyIn_reachNow n s .view (by decide)
@[simp] theorem reachNow_tandem (n : Nat) (s : State) : (reachNow n s).tandem = s.tandem := onlyIn_reachNow n s .tandem (by decide)
@[simp] theorem reachNow_sync (n : Nat) (s : State) : (reachNow n s).sync = s.sync := onlyIn_reachNow n s .sync (by decide)
@[simp] theorem reachNow_bus (n : Nat) (s : State) : (reachNow n s).bus = s.bus := onlyIn_reachNow n s .bus (by decide)
@[simp] theorem reachNow_aux (n : Nat) (s : State) : (reachNow n s).aux = s.aux := onlyIn_reachNow n s .aux (by decide)
@[simp] theorem reachNow_cal (n : Nat) (s : State) : (reachNow n s).cal = s.cal := onlyIn_reachNow n s .cal (by decide)
@[simp] theorem reachNow_fuse (n : Nat) (s : State) : (reachNow n s).fuse = s.fuse := onlyIn_reachNow n s .fuse (by decide)
@[simp] theorem reachNow_trust (n : Nat) (s : State) : (reachNow n s).trust = s.trust := onlyIn_reachNow n s .trust (by decide)
@[simp] theorem reachNow_power (n : Nat) (s : State) : (reachNow n s).power = s.power := onlyIn_reachNow n s .power (by decide)
@[simp] theorem reachNow_clk (n : Nat) (s : State) : (reachNow n s).clk = s.clk := onlyIn_reachNow n s .clk (by decide)
@[simp] theorem reachNow_link (n : Nat) (s : State) : (reachNow n s).link = s.link := onlyIn_reachNow n s .link (by decide)
@[simp] theorem reachNow_thermal (n : Nat) (s : State) : (reachNow n s).thermal = s.thermal := onlyIn_reachNow n s .thermal (by decide)
@[simp] theorem reachNow_pins (n : Nat) (s : State) : (reachNow n s).pins = s.pins := onlyIn_reachNow n s .pins (by decide)

/-! ## setDomains -/

@[simp] theorem setDomains_time (l : List Nat) (b : Bool) (s : State) : (s.setDomains l b).time = s.time := onlyIn_setDomains l b s .time (by decide)
@[simp] theorem setDomains_free (l : List Nat) (b : Bool) (s : State) : (s.setDomains l b).free = s.free := onlyIn_setDomains l b s .free (by decide)
@[simp] theorem setDomains_pending (l : List Nat) (b : Bool) (s : State) : (s.setDomains l b).pending = s.pending := onlyIn_setDomains l b s .pending (by decide)
@[simp] theorem setDomains_sent (l : List Nat) (b : Bool) (s : State) : (s.setDomains l b).sent = s.sent := onlyIn_setDomains l b s .sent (by decide)
@[simp] theorem setDomains_mbox (l : List Nat) (b : Bool) (s : State) : (s.setDomains l b).mbox = s.mbox := onlyIn_setDomains l b s .mbox (by decide)
@[simp] theorem setDomains_log (l : List Nat) (b : Bool) (s : State) : (s.setDomains l b).log = s.log := onlyIn_setDomains l b s .log (by decide)
@[simp] theorem setDomains_dump (l : List Nat) (b : Bool) (s : State) : (s.setDomains l b).dump = s.dump := onlyIn_setDomains l b s .dump (by decide)
@[simp] theorem setDomains_mode (l : List Nat) (b : Bool) (s : State) : (s.setDomains l b).mode = s.mode := onlyIn_setDomains l b s .mode (by decide)
@[simp] theorem setDomains_ledger (l : List Nat) (b : Bool) (s : State) : (s.setDomains l b).ledger = s.ledger := onlyIn_setDomains l b s .ledger (by decide)
@[simp] theorem setDomains_profiles (l : List Nat) (b : Bool) (s : State) : (s.setDomains l b).profiles = s.profiles := onlyIn_setDomains l b s .profiles (by decide)
@[simp] theorem setDomains_settings (l : List Nat) (b : Bool) (s : State) : (s.setDomains l b).settings = s.settings := onlyIn_setDomains l b s .settings (by decide)
@[simp] theorem setDomains_prefs (l : List Nat) (b : Bool) (s : State) : (s.setDomains l b).prefs = s.prefs := onlyIn_setDomains l b s .prefs (by decide)
@[simp] theorem setDomains_profileTandem (l : List Nat) (b : Bool) (s : State) : (s.setDomains l b).profileTandem = s.profileTandem := onlyIn_setDomains l b s .profileTandem (by decide)
@[simp] theorem setDomains_regs (l : List Nat) (b : Bool) (s : State) : (s.setDomains l b).regs = s.regs := onlyIn_setDomains l b s .regs (by decide)
@[simp] theorem setDomains_sensor (l : List Nat) (b : Bool) (s : State) : (s.setDomains l b).sensor = s.sensor := onlyIn_setDomains l b s .sensor (by decide)
@[simp] theorem setDomains_conv (l : List Nat) (b : Bool) (s : State) : (s.setDomains l b).conv = s.conv := onlyIn_setDomains l b s .conv (by decide)
@[simp] theorem setDomains_frame (l : List Nat) (b : Bool) (s : State) : (s.setDomains l b).frame = s.frame := onlyIn_setDomains l b s .frame (by decide)
@[simp] theorem setDomains_res (l : List Nat) (b : Bool) (s : State) : (s.setDomains l b).res = s.res := onlyIn_setDomains l b s .res (by decide)
@[simp] theorem setDomains_hold (l : List Nat) (b : Bool) (s : State) : (s.setDomains l b).hold = s.hold := onlyIn_setDomains l b s .hold (by decide)
@[simp] theorem setDomains_take (l : List Nat) (b : Bool) (s : State) : (s.setDomains l b).take = s.take := onlyIn_setDomains l b s .take (by decide)
@[simp] theorem setDomains_view (l : List Nat) (b : Bool) (s : State) : (s.setDomains l b).view = s.view := onlyIn_setDomains l b s .view (by decide)
@[simp] theorem setDomains_tandem (l : List Nat) (b : Bool) (s : State) : (s.setDomains l b).tandem = s.tandem := onlyIn_setDomains l b s .tandem (by decide)
@[simp] theorem setDomains_sync (l : List Nat) (b : Bool) (s : State) : (s.setDomains l b).sync = s.sync := onlyIn_setDomains l b s .sync (by decide)
@[simp] theorem setDomains_bus (l : List Nat) (b : Bool) (s : State) : (s.setDomains l b).bus = s.bus := onlyIn_setDomains l b s .bus (by decide)
@[simp] theorem setDomains_aux (l : List Nat) (b : Bool) (s : State) : (s.setDomains l b).aux = s.aux := onlyIn_setDomains l b s .aux (by decide)
@[simp] theorem setDomains_cal (l : List Nat) (b : Bool) (s : State) : (s.setDomains l b).cal = s.cal := onlyIn_setDomains l b s .cal (by decide)
@[simp] theorem setDomains_fuse (l : List Nat) (b : Bool) (s : State) : (s.setDomains l b).fuse = s.fuse := onlyIn_setDomains l b s .fuse (by decide)
@[simp] theorem setDomains_trust (l : List Nat) (b : Bool) (s : State) : (s.setDomains l b).trust = s.trust := onlyIn_setDomains l b s .trust (by decide)
@[simp] theorem setDomains_clk (l : List Nat) (b : Bool) (s : State) : (s.setDomains l b).clk = s.clk := onlyIn_setDomains l b s .clk (by decide)
@[simp] theorem setDomains_link (l : List Nat) (b : Bool) (s : State) : (s.setDomains l b).link = s.link := onlyIn_setDomains l b s .link (by decide)
@[simp] theorem setDomains_thermal (l : List Nat) (b : Bool) (s : State) : (s.setDomains l b).thermal = s.thermal := onlyIn_setDomains l b s .thermal (by decide)
@[simp] theorem setDomains_pins (l : List Nat) (b : Bool) (s : State) : (s.setDomains l b).pins = s.pins := onlyIn_setDomains l b s .pins (by decide)

/-! ## The mailbox and the link after a report -/

@[simp] theorem logEvent_mbox_c0 (c src d : Nat) (s : State) : (logEvent c src d s).mbox.c0 = s.mbox.c0 := congrArg (·.c0) (reportsOnly_logEvent c src d s).1
@[simp] theorem logEvent_mbox_c1 (c src d : Nat) (s : State) : (logEvent c src d s).mbox.c1 = s.mbox.c1 := congrArg (·.c1) (reportsOnly_logEvent c src d s).1
@[simp] theorem logEvent_mbox_c2 (c src d : Nat) (s : State) : (logEvent c src d s).mbox.c2 = s.mbox.c2 := congrArg (·.c2) (reportsOnly_logEvent c src d s).1
@[simp] theorem logEvent_mbox_auth (c src d : Nat) (s : State) : (logEvent c src d s).mbox.auth = s.mbox.auth := congrArg (·.auth) (reportsOnly_logEvent c src d s).1
@[simp] theorem logEvent_mbox_claims (c src d : Nat) (s : State) : (logEvent c src d s).mbox.claims = s.mbox.claims := congrArg (·.claims) (reportsOnly_logEvent c src d s).1
@[simp] theorem logEvent_mbox_lastAccept (c src d : Nat) (s : State) : (logEvent c src d s).mbox.lastAccept = s.mbox.lastAccept := congrArg (·.lastAccept) (reportsOnly_logEvent c src d s).1
@[simp] theorem logEvent_mbox_lastTaken (c src d : Nat) (s : State) : (logEvent c src d s).mbox.lastTaken = s.mbox.lastTaken := congrArg (·.lastTaken) (reportsOnly_logEvent c src d s).1
@[simp] theorem logEvent_mbox_get (c src d : Nat) (s : State) (k : Chan) : (logEvent c src d s).mbox.get k = s.mbox.get k := by
  cases k <;> simp [Mailbox.get]
@[simp] theorem logEvent_link_state (c src d : Nat) (s : State) : (logEvent c src d s).link.state = s.link.state := congrArg (·.state) (reportsOnly_logEvent c src d s).2
@[simp] theorem logEvent_link_rate (c src d : Nat) (s : State) : (logEvent c src d s).link.rate = s.link.rate := congrArg (·.rate) (reportsOnly_logEvent c src d s).2
@[simp] theorem logEvent_link_width (c src d : Nat) (s : State) : (logEvent c src d s).link.width = s.link.width := congrArg (·.width) (reportsOnly_logEvent c src d s).2
@[simp] theorem logEvent_link_active (c src d : Nat) (s : State) : (logEvent c src d s).link.active = s.link.active := congrArg (·.active) (reportsOnly_logEvent c src d s).2
@[simp] theorem logEvent_link_flit (c src d : Nat) (s : State) : (logEvent c src d s).link.flit = s.link.flit := congrArg (·.flit) (reportsOnly_logEvent c src d s).2
@[simp] theorem logEvent_link_mps (c src d : Nat) (s : State) : (logEvent c src d s).link.mps = s.link.mps := congrArg (·.mps) (reportsOnly_logEvent c src d s).2
@[simp] theorem logEvent_link_perst (c src d : Nat) (s : State) : (logEvent c src d s).link.perst = s.link.perst := congrArg (·.perst) (reportsOnly_logEvent c src d s).2
@[simp] theorem logEvent_link_asked (c src d : Nat) (s : State) : (logEvent c src d s).link.asked = s.link.asked := congrArg (·.asked) (reportsOnly_logEvent c src d s).2
@[simp] theorem logEvent_link_l1Permit (c src d : Nat) (s : State) : (logEvent c src d s).link.l1Permit = s.link.l1Permit := congrArg (·.l1Permit) (reportsOnly_logEvent c src d s).2
@[simp] theorem logEvent_link_ltr (c src d : Nat) (s : State) : (logEvent c src d s).link.ltr = s.link.ltr := congrArg (·.ltr) (reportsOnly_logEvent c src d s).2
@[simp] theorem logEvent_link_aer0 (c src d : Nat) (s : State) : (logEvent c src d s).link.aer0 = s.link.aer0 := congrArg (·.aer0) (reportsOnly_logEvent c src d s).2
@[simp] theorem logEvent_link_aer1 (c src d : Nat) (s : State) : (logEvent c src d s).link.aer1 = s.link.aer1 := congrArg (·.aer1) (reportsOnly_logEvent c src d s).2
@[simp] theorem logEvent_link_ide (c src d : Nat) (s : State) : (logEvent c src d s).link.ide = s.link.ide := congrArg (·.ide) (reportsOnly_logEvent c src d s).2
@[simp] theorem logEvent_link_doe (c src d : Nat) (s : State) : (logEvent c src d s).link.doe = s.link.doe := congrArg (·.doe) (reportsOnly_logEvent c src d s).2
@[simp] theorem logFrame_mbox_c0 (c src n d : Nat) (s : State) : (logFrame c src n d s).mbox.c0 = s.mbox.c0 := congrArg (·.c0) (reportsOnly_logFrame c src n d s).1
@[simp] theorem logFrame_mbox_c1 (c src n d : Nat) (s : State) : (logFrame c src n d s).mbox.c1 = s.mbox.c1 := congrArg (·.c1) (reportsOnly_logFrame c src n d s).1
@[simp] theorem logFrame_mbox_c2 (c src n d : Nat) (s : State) : (logFrame c src n d s).mbox.c2 = s.mbox.c2 := congrArg (·.c2) (reportsOnly_logFrame c src n d s).1
@[simp] theorem logFrame_mbox_auth (c src n d : Nat) (s : State) : (logFrame c src n d s).mbox.auth = s.mbox.auth := congrArg (·.auth) (reportsOnly_logFrame c src n d s).1
@[simp] theorem logFrame_mbox_claims (c src n d : Nat) (s : State) : (logFrame c src n d s).mbox.claims = s.mbox.claims := congrArg (·.claims) (reportsOnly_logFrame c src n d s).1
@[simp] theorem logFrame_mbox_lastAccept (c src n d : Nat) (s : State) : (logFrame c src n d s).mbox.lastAccept = s.mbox.lastAccept := congrArg (·.lastAccept) (reportsOnly_logFrame c src n d s).1
@[simp] theorem logFrame_mbox_lastTaken (c src n d : Nat) (s : State) : (logFrame c src n d s).mbox.lastTaken = s.mbox.lastTaken := congrArg (·.lastTaken) (reportsOnly_logFrame c src n d s).1
@[simp] theorem logFrame_mbox_get (c src n d : Nat) (s : State) (k : Chan) : (logFrame c src n d s).mbox.get k = s.mbox.get k := by
  cases k <;> simp [Mailbox.get]
@[simp] theorem logFrame_link_state (c src n d : Nat) (s : State) : (logFrame c src n d s).link.state = s.link.state := congrArg (·.state) (reportsOnly_logFrame c src n d s).2
@[simp] theorem logFrame_link_rate (c src n d : Nat) (s : State) : (logFrame c src n d s).link.rate = s.link.rate := congrArg (·.rate) (reportsOnly_logFrame c src n d s).2
@[simp] theorem logFrame_link_width (c src n d : Nat) (s : State) : (logFrame c src n d s).link.width = s.link.width := congrArg (·.width) (reportsOnly_logFrame c src n d s).2
@[simp] theorem logFrame_link_active (c src n d : Nat) (s : State) : (logFrame c src n d s).link.active = s.link.active := congrArg (·.active) (reportsOnly_logFrame c src n d s).2
@[simp] theorem logFrame_link_flit (c src n d : Nat) (s : State) : (logFrame c src n d s).link.flit = s.link.flit := congrArg (·.flit) (reportsOnly_logFrame c src n d s).2
@[simp] theorem logFrame_link_mps (c src n d : Nat) (s : State) : (logFrame c src n d s).link.mps = s.link.mps := congrArg (·.mps) (reportsOnly_logFrame c src n d s).2
@[simp] theorem logFrame_link_perst (c src n d : Nat) (s : State) : (logFrame c src n d s).link.perst = s.link.perst := congrArg (·.perst) (reportsOnly_logFrame c src n d s).2
@[simp] theorem logFrame_link_asked (c src n d : Nat) (s : State) : (logFrame c src n d s).link.asked = s.link.asked := congrArg (·.asked) (reportsOnly_logFrame c src n d s).2
@[simp] theorem logFrame_link_l1Permit (c src n d : Nat) (s : State) : (logFrame c src n d s).link.l1Permit = s.link.l1Permit := congrArg (·.l1Permit) (reportsOnly_logFrame c src n d s).2
@[simp] theorem logFrame_link_ltr (c src n d : Nat) (s : State) : (logFrame c src n d s).link.ltr = s.link.ltr := congrArg (·.ltr) (reportsOnly_logFrame c src n d s).2
@[simp] theorem logFrame_link_aer0 (c src n d : Nat) (s : State) : (logFrame c src n d s).link.aer0 = s.link.aer0 := congrArg (·.aer0) (reportsOnly_logFrame c src n d s).2
@[simp] theorem logFrame_link_aer1 (c src n d : Nat) (s : State) : (logFrame c src n d s).link.aer1 = s.link.aer1 := congrArg (·.aer1) (reportsOnly_logFrame c src n d s).2
@[simp] theorem logFrame_link_ide (c src n d : Nat) (s : State) : (logFrame c src n d s).link.ide = s.link.ide := congrArg (·.ide) (reportsOnly_logFrame c src n d s).2
@[simp] theorem logFrame_link_doe (c src n d : Nat) (s : State) : (logFrame c src n d s).link.doe = s.link.doe := congrArg (·.doe) (reportsOnly_logFrame c src n d s).2
@[simp] theorem fire0_link_state (n : Nat) (s : State) : (fire0 n s).link.state = s.link.state := congrArg (·.state) (reportsOnly_fire false n s).2
@[simp] theorem fire0_link_rate (n : Nat) (s : State) : (fire0 n s).link.rate = s.link.rate := congrArg (·.rate) (reportsOnly_fire false n s).2
@[simp] theorem fire0_link_width (n : Nat) (s : State) : (fire0 n s).link.width = s.link.width := congrArg (·.width) (reportsOnly_fire false n s).2
@[simp] theorem fire0_link_active (n : Nat) (s : State) : (fire0 n s).link.active = s.link.active := congrArg (·.active) (reportsOnly_fire false n s).2
@[simp] theorem fire0_link_flit (n : Nat) (s : State) : (fire0 n s).link.flit = s.link.flit := congrArg (·.flit) (reportsOnly_fire false n s).2
@[simp] theorem fire0_link_mps (n : Nat) (s : State) : (fire0 n s).link.mps = s.link.mps := congrArg (·.mps) (reportsOnly_fire false n s).2
@[simp] theorem fire0_link_perst (n : Nat) (s : State) : (fire0 n s).link.perst = s.link.perst := congrArg (·.perst) (reportsOnly_fire false n s).2
@[simp] theorem fire0_link_asked (n : Nat) (s : State) : (fire0 n s).link.asked = s.link.asked := congrArg (·.asked) (reportsOnly_fire false n s).2
@[simp] theorem fire0_link_l1Permit (n : Nat) (s : State) : (fire0 n s).link.l1Permit = s.link.l1Permit := congrArg (·.l1Permit) (reportsOnly_fire false n s).2
@[simp] theorem fire0_link_ltr (n : Nat) (s : State) : (fire0 n s).link.ltr = s.link.ltr := congrArg (·.ltr) (reportsOnly_fire false n s).2
@[simp] theorem fire0_link_aer0 (n : Nat) (s : State) : (fire0 n s).link.aer0 = s.link.aer0 := congrArg (·.aer0) (reportsOnly_fire false n s).2
@[simp] theorem fire0_link_aer1 (n : Nat) (s : State) : (fire0 n s).link.aer1 = s.link.aer1 := congrArg (·.aer1) (reportsOnly_fire false n s).2
@[simp] theorem fire0_link_ide (n : Nat) (s : State) : (fire0 n s).link.ide = s.link.ide := congrArg (·.ide) (reportsOnly_fire false n s).2
@[simp] theorem fire0_link_doe (n : Nat) (s : State) : (fire0 n s).link.doe = s.link.doe := congrArg (·.doe) (reportsOnly_fire false n s).2
@[simp] theorem fire1_link_state (n : Nat) (s : State) : (fire1 n s).link.state = s.link.state := congrArg (·.state) (reportsOnly_fire true n s).2
@[simp] theorem fire1_link_rate (n : Nat) (s : State) : (fire1 n s).link.rate = s.link.rate := congrArg (·.rate) (reportsOnly_fire true n s).2
@[simp] theorem fire1_link_width (n : Nat) (s : State) : (fire1 n s).link.width = s.link.width := congrArg (·.width) (reportsOnly_fire true n s).2
@[simp] theorem fire1_link_active (n : Nat) (s : State) : (fire1 n s).link.active = s.link.active := congrArg (·.active) (reportsOnly_fire true n s).2
@[simp] theorem fire1_link_flit (n : Nat) (s : State) : (fire1 n s).link.flit = s.link.flit := congrArg (·.flit) (reportsOnly_fire true n s).2
@[simp] theorem fire1_link_mps (n : Nat) (s : State) : (fire1 n s).link.mps = s.link.mps := congrArg (·.mps) (reportsOnly_fire true n s).2
@[simp] theorem fire1_link_perst (n : Nat) (s : State) : (fire1 n s).link.perst = s.link.perst := congrArg (·.perst) (reportsOnly_fire true n s).2
@[simp] theorem fire1_link_asked (n : Nat) (s : State) : (fire1 n s).link.asked = s.link.asked := congrArg (·.asked) (reportsOnly_fire true n s).2
@[simp] theorem fire1_link_l1Permit (n : Nat) (s : State) : (fire1 n s).link.l1Permit = s.link.l1Permit := congrArg (·.l1Permit) (reportsOnly_fire true n s).2
@[simp] theorem fire1_link_ltr (n : Nat) (s : State) : (fire1 n s).link.ltr = s.link.ltr := congrArg (·.ltr) (reportsOnly_fire true n s).2
@[simp] theorem fire1_link_aer0 (n : Nat) (s : State) : (fire1 n s).link.aer0 = s.link.aer0 := congrArg (·.aer0) (reportsOnly_fire true n s).2
@[simp] theorem fire1_link_aer1 (n : Nat) (s : State) : (fire1 n s).link.aer1 = s.link.aer1 := congrArg (·.aer1) (reportsOnly_fire true n s).2
@[simp] theorem fire1_link_ide (n : Nat) (s : State) : (fire1 n s).link.ide = s.link.ide := congrArg (·.ide) (reportsOnly_fire true n s).2
@[simp] theorem fire1_link_doe (n : Nat) (s : State) : (fire1 n s).link.doe = s.link.doe := congrArg (·.doe) (reportsOnly_fire true n s).2

end Sys2Proof.Machine
end

