-- ==== Sys2Proof/Laws/Log.lean ====
section
/-! SUPPORT. What a report always does: its time is kept for the source and the code, and the event ring keeps its place and its settings. -/

namespace Sys2Proof.Machine

/-! ## Association lists -/

@[simp] theorem look_put {α β : Type} [DecidableEq α] (l : List (α × β)) (k : α) (v : β) : look (put l k v) k = some v := by
  simp [look, put]

theorem look_put_other {α β : Type} [DecidableEq α] (l : List (α × β)) {k j : α} (v : β) (h : j ≠ k) : look (put l k v) j = look l j := by
  unfold look put
  rw [List.find?_cons_of_neg (by simpa using h.symm), List.find?_filter]
  congr 2
  funext p
  by_cases hp : p.1 = j <;> simp [hp, h]

/-! ## The times of the reports -/

@[simp] theorem write_reported (l : LogUnit) (r : Report) (h : Bool) : (l.write r h).1.reported = l.reported := by
  unfold LogUnit.write; dsimp only; split <;> rfl

@[simp] theorem fire_reported (f : Bool) (n : Nat) (s : State) : (fire f n s).log = s.log := onlyIn_fire f n s .log (by decide)

theorem ite_log {c : Prop} [Decidable c] {a b s : State} (h : a.log = s.log) (k : b.log = s.log) : (if c then a else b).log = s.log := by
  split
  · exact h
  · exact k

@[simp] theorem ringWrite_log (k n : Nat) (e : List Byte) (s : State) : (ringWrite k n e s).log = s.log :=
  ite_log (fire_reported _ _ _) rfl

@[simp] theorem ringNotice_log (s : State) : (ringNotice s).log = s.log := by unfold ringNotice; split <;> simp

@[simp] theorem ringCopy_log (e : LogEntry) (s : State) : (ringCopy e s).log = s.log := by
  simp only [ringCopy]; split
  · split <;> simp
  · rfl

@[simp] theorem logWrite_reported (r : Report) (h : Bool) (s : State) : (logWrite r h s).log.reported = s.log.reported := by
  have := write_reported s.log r h
  unfold logWrite; split <;> simp_all

@[simp] theorem serveSource_reported (n : Nat) (s : State) : (serveSource n s).log.reported = s.log.reported := by
  unfold serveSource; split
  · simp
  · split <;> simp

theorem dropReport_reported (l : LogUnit) (n : Nat) : (l.dropReport n).reported = l.reported := rfl

theorem intake_reported (l : LogUnit) (r : Report) (now : Nat) : (l.intake r now).1.reported = put l.reported (r.source, r.code) now := by
  simp only [LogUnit.intake]
  split
  · split <;> rfl
  · split
    · split
      · rfl
      · split <;> rfl
    · split <;> rfl

theorem holdReport_reported (l : LogUnit) (r : Report) (now : Nat) : (l.holdReport r now).reported = put l.reported (r.source, r.code) now := by
  simp only [LogUnit.holdReport]
  split
  · split
    · rfl
    · split <;> rfl
  · split <;> rfl

theorem takeReport_reported {r : Report} {s : State} (h : (severity r.code).isSome) :
    (takeReport r s).log.reported = put s.log.reported (r.source, r.code) s.time.now := by
  have hn : (severity r.code).isNone = false := by cases hs : severity r.code <;> simp_all
  have hi := intake_reported s.log r s.time.now
  simp only [takeReport, hn, Bool.false_eq_true, if_false]
  split
  · split <;> simp_all
  · exact holdReport_reported _ _ _

/-- An event that has a code is reported. -/
theorem logFrame_reported {c src n d : Nat} {s : State} (h : (severity c).isSome) :
    (logFrame c src n d s).log.reported = put s.log.reported (src, c) s.time.now := by
  have := takeReport_reported (r := ⟨c, src, s.time.module, n, d, 0⟩) (s := s) h
  simp only [logFrame]; split <;> simp_all

theorem logEvent_reported {c src d : Nat} {s : State} (h : (severity c).isSome) :
    (logEvent c src d s).log.reported = put s.log.reported (src, c) s.time.now := logFrame_reported h

theorem reports_logEvent {c src d : Nat} {s : State} (h : (severity c).isSome) : Reports c src (logEvent c src d s) := by
  unfold Reports; rw [logEvent_reported h]; simp

theorem reports_logFrame {c src n d : Nat} {s : State} (h : (severity c).isSome) : Reports c src (logFrame c src n d s) := by
  unfold Reports; rw [logFrame_reported h, look_put]; exact congrArg some (congrArg _ (onlyIn_logFrame c src n d s .time (by decide))).symm

/-- A report of another code or another source leaves that a code is reported. -/
theorem reports_after {c src c' src' d' : Nat} {s : State} (h : Reports c src s) (k : (src, c) ≠ (src', c')) (hs : (severity c').isSome) :
    Reports c src (logEvent c' src' d' s) := by
  unfold Reports at *; rw [logEvent_reported hs, look_put_other _ _ k, h]; simp

/-- What is reported stays so where neither the log nor time changes. -/
theorem reports_of {c src : Nat} {s t : State} (h : Reports c src s) (hl : t.log = s.log) (ht : t.time = s.time) : Reports c src t := by
  unfold Reports at *; rw [hl, ht]; exact h

theorem reports_fire {c src : Nat} {s : State} (f : Bool) (n : Nat) (h : Reports c src s) : Reports c src (fire f n s) :=
  reports_of h (onlyIn_fire f n s .log (by decide)) (onlyIn_fire f n s .time (by decide))

theorem reports_send {c src : Nat} {s : State} (o : Out) (h : Reports c src s) : Reports c src (s.send o) := h

/-! ## Interrupts -/

@[simp] theorem fire_mbox (f : Bool) (n : Nat) (s : State) : (fire f n s).mbox = s.mbox := onlyIn_fire f n s .mbox (by decide)

theorem fires_fire {f : Bool} {n : Nat} {s u : State} (h : u.link = s.link) : Fires f n s (fire f n u) := by
  unfold Fires fire
  rw [h]
  split
  · rfl
  · simp only [LinkUnit.pend]
    cases f <;> simp [Function.pend] <;> split <;> simp_all

/-- Which vectors are open does not depend on the pending bits. -/
theorem vectorOpen_reportsOnly {s t : State} (h : reportsOnly s t) (f : Bool) (n : Nat) : t.link.vectorOpen f n = s.link.vectorOpen f n := by
  have e := h.2
  rw [← e]
  cases f <;> rfl

/-- The same, of a vector that fires after reports. -/
theorem fires_reported {f : Bool} {n : Nat} {s u : State} (h : reportsOnly s u) : Fires f n s (fire f n u) := by
  have k := fires_fire (f := f) (n := n) (s := u) rfl
  unfold Fires at *
  rwa [vectorOpen_reportsOnly h] at k

theorem fire_sent (f : Bool) (n : Nat) (u : State) : ∃ v, (fire f n u).sent = v ++ u.sent := by
  unfold fire; split
  · exact ⟨[_], rfl⟩
  · exact ⟨[], rfl⟩

/-! ## The event ring -/

theorem ringWrite_tail (b : Bool) (t : State) :
    (if b then fire0 2 t else t).mbox = t.mbox ∧ ∃ v, (if b then fire0 2 t else t).sent = v ++ t.sent := by
  cases b
  · exact ⟨rfl, [], rfl⟩
  · exact ⟨by simp, fire_sent _ _ _⟩

/-- What a ring entry does: PRODUCED counts it, and it is sent to its place. -/
theorem ringWrite_facts (k n : Nat) (e : List Byte) (s : State) :
    (ringWrite k n e s).mbox.ring.produced = s.mbox.ring.produced + 1 ∧
    (ringWrite k n e s).mbox.ring.noticeDue = s.mbox.ring.noticeDue ∧ (ringWrite k n e s).mbox.ring.stale = s.mbox.ring.stale ∧
    (ringWrite k n e s).mbox.ring.updates = s.mbox.ring.updates ∧
    Out.eventEntry (s.mbox.ring.base.toNat + 64 * (s.mbox.ring.produced.toNat % s.mbox.ring.entries.toNat))
      (ringEntryBytes s.mbox.ring.produced.toNat k s.time.module n e) ∈ (ringWrite k n e s).sent := by
  unfold ringWrite
  dsimp only
  refine ⟨by rw [(ringWrite_tail _ _).1], by rw [(ringWrite_tail _ _).1], by rw [(ringWrite_tail _ _).1], by rw [(ringWrite_tail _ _).1], ?_⟩
  obtain ⟨v, hv⟩ := (ringWrite_tail _ _).2
  rw [hv]; simp [State.send]

/-- What a report leaves of the event ring. -/
def ringKept (s t : State) : Prop :=
  t.mbox.ring.base = s.mbox.ring.base ∧ t.mbox.ring.entries = s.mbox.ring.entries ∧ t.mbox.ring.enable = s.mbox.ring.enable ∧
  t.mbox.ring.mask = s.mbox.ring.mask ∧ t.mbox.ring.consumed = s.mbox.ring.consumed

theorem ringKept_refl (s : State) : ringKept s s := ⟨rfl, rfl, rfl, rfl, rfl⟩

theorem ringKept_trans {s t u : State} (h : ringKept s t) (k : ringKept t u) : ringKept s u :=
  ⟨k.1.trans h.1, k.2.1.trans h.2.1, k.2.2.1.trans h.2.2.1, k.2.2.2.1.trans h.2.2.2.1, k.2.2.2.2.trans h.2.2.2.2⟩

theorem ringKept_ite {c : Prop} [Decidable c] {s a b : State} (h : ringKept s a) (k : ringKept s b) : ringKept s (if c then a else b) := by
  split
  · exact h
  · exact k

theorem ringKept_fire (f : Bool) (n : Nat) (s : State) : ringKept s (fire f n s) :=
  ringKept_ite ⟨rfl, rfl, rfl, rfl, rfl⟩ ⟨rfl, rfl, rfl, rfl, rfl⟩

theorem ringKept_after {s t u : State} (k : ringKept t u) (h : ringKept s t) : ringKept s u := ringKept_trans h k

theorem ringKept_ringWrite (k n : Nat) (e : List Byte) (s : State) : ringKept s (ringWrite k n e s) :=
  ringKept_ite (ringKept_after (ringKept_fire _ _ _) ⟨rfl, rfl, rfl, rfl, rfl⟩) ⟨rfl, rfl, rfl, rfl, rfl⟩

theorem ringKept_ringNotice (s : State) : ringKept s (ringNotice s) := by
  unfold ringNotice; split
  · exact ringKept_after (ringKept_ringWrite _ _ _ _) ⟨rfl, rfl, rfl, rfl, rfl⟩
  · exact ringKept_refl s

theorem ringKept_ringCopy (e : LogEntry) (s : State) : ringKept s (ringCopy e s) := by
  simp only [ringCopy]; split
  · split
    · exact ringKept_trans (ringKept_ringNotice s) (ringKept_ringWrite _ _ _ _)
    · exact ringKept_trans (ringKept_ringNotice s) ⟨rfl, rfl, rfl, rfl, rfl⟩
  · exact ringKept_refl s

theorem ringKept_logWrite (r : Report) (h : Bool) (s : State) : ringKept s (logWrite r h s) := by
  unfold logWrite; split
  · exact ⟨rfl, rfl, rfl, rfl, rfl⟩
  · exact ringKept_after (ringKept_ringCopy _ _) ⟨rfl, rfl, rfl, rfl, rfl⟩

theorem ringKept_serveSource (n : Nat) (s : State) : ringKept s (serveSource n s) := by
  unfold serveSource; split
  · exact ringKept_after (ringKept_logWrite _ _ _) ⟨rfl, rfl, rfl, rfl, rfl⟩
  · split
    · exact ringKept_after (ringKept_logWrite _ _ _) ⟨rfl, rfl, rfl, rfl, rfl⟩
    · exact ringKept_refl s

theorem ringKept_logEvent (c src d : Nat) (s : State) : ringKept s (logEvent c src d s) := by
  have h : ringKept s (takeReport ⟨c, src, s.time.module, s.frame.lastFrame, d, 0⟩ s) := by
    unfold takeReport; split
    · exact ringKept_refl s
    · split
      · split <;> exact ⟨rfl, rfl, rfl, rfl, rfl⟩
      · exact ⟨rfl, rfl, rfl, rfl, rfl⟩
  simp only [logEvent, logFrame]; split
  · exact ringKept_trans h (ringKept_serveSource _ _)
  · exact h

end Sys2Proof.Machine
end

