-- ==== Sys2Proof/Laws/Requests.lean ====
section
/-! SUPPORT. The frame of a command that a message carries: what happens where its request waits and its checks pass, and what a response adds
to its channel. -/

namespace Sys2Proof.Machine

@[simp] theorem get_set_same (m : Mailbox) (c : Chan) (x : Channel) : (m.set c x).get c = x := by cases c <;> rfl

theorem get_set_other (m : Mailbox) {c d : Chan} (h : d ≠ c) (x : Channel) : (m.set c x).get d = m.get d := by
  cases c <;> cases d <;> first | rfl | exact absurd rfl h

/-- A channel without held responses releases none. -/
theorem released_of_none {c : Channel} (h : ∀ f ∈ c.flights, f.held = none) : c.released = c := by
  have k : ∀ l : List Flight, (∀ f ∈ l, f.held = none) → (l.map fun f => { f with held := none }) = l ∧ l.filterMap Flight.held = [] := by
    intro l
    induction l with
    | nil => simp
    | cons f l ih =>
      intro hl
      obtain ⟨a, b⟩ := ih fun g hg => hl g (List.mem_cons_of_mem _ hg)
      have hf := hl f List.mem_cons_self
      refine ⟨?_, by simp [hf, b]⟩
      rw [List.map_cons, a]
      cases f; simp_all
  obtain ⟨a, b⟩ := k (c.flights.takeWhile fun f => !f.waiting) fun f hf => h f ((List.takeWhile_sublist _).subset hf)
  unfold Channel.released
  simp [a, b]

/-- The request that the conductor core takes next waits. -/
theorem Waiting.waits {o : Opcode} {r : Req} {s : State} (h : Waiting o r s) : (s.mbox.get r.chan).waits o r.tag = true := by
  have k := h.turn
  simp only [Mailbox.takes, Bool.and_eq_true, Option.any_eq_true] at k
  obtain ⟨-, f, hf, hg⟩ := k
  exact List.any_eq_true.2 ⟨f, List.mem_of_find?_eq_some hf, by rw [hg, Bool.true_and]; exact List.find?_some hf⟩
@[simp] theorem heard_get (m : Mailbox) (ch : Chan) (n : Nat) (c : Chan) : (m.heard ch n).get c = m.get c := by
  unfold Mailbox.heard; split <;> cases c <;> rfl
theorem takeUp_channel (r : Req) (s : State) : (takeUp r s).mbox.get r.chan = (s.mbox.get r.chan).takeUp r.tag := by
  have := heard_get (s.mbox.set r.chan ((s.mbox.get r.chan).takeUp r.tag)) r.chan s.time.tock.now r.chan
  rw [get_set_same] at this
  unfold takeUp; cases h : r.chan <;> simpa [Mailbox.get, h] using this
theorem takeUp_other (r : Req) (s : State) {c : Chan} (h : c ≠ r.chan) : (takeUp r s).mbox.get c = s.mbox.get c := by
  have := heard_get (s.mbox.set r.chan ((s.mbox.get r.chan).takeUp r.tag)) r.chan s.time.tock.now c
  rw [get_set_other s.mbox h] at this
  unfold takeUp; cases c <;> simpa [Mailbox.get] using this
@[simp] theorem takeUp_gen (r : Req) (s : State) : ((takeUp r s).mbox.get r.chan).gen = (s.mbox.get r.chan).gen := by
  rw [takeUp_channel]; rfl

@[simp] theorem takeUp_version (r : Req) (s : State) : ((takeUp r s).mbox.get r.chan).version = (s.mbox.get r.chan).version := by
  rw [takeUp_channel]; rfl

theorem takeUp_outgoing {o : Opcode} {r : Req} {s : State} (h : Waiting o r s) :
    ((takeUp r s).mbox.get r.chan).outgoing = (s.mbox.get r.chan).outgoing := by
  rw [takeUp_channel]
  show ((s.mbox.get r.chan).released).outgoing = _
  rw [released_of_none h.ready]
@[simp] theorem takeUp_role (r : Req) (s : State) : (takeUp r s).mbox.auth.role = s.mbox.auth.role := by
  unfold takeUp Mailbox.heard; cases r.chan <;> rfl
@[simp] theorem takeUp_claims (r : Req) (s : State) : (takeUp r s).mbox.claims = s.mbox.claims := by
  unfold takeUp; cases r.chan <;> rfl

@[simp] theorem takeUp_time (r : Req) (s : State) : (takeUp r s).time = s.time.tock := rfl

@[simp] theorem takeUp_lastAccept (r : Req) (s : State) : (takeUp r s).mbox.lastAccept = s.time.tock.module := rfl

theorem taken_takeUp (r : Req) (s : State) : Taken s (takeUp r s) := ⟨rfl, rfl⟩

/-- A request that waited is in flight once it is taken. -/
theorem takeUp_flight {o : Opcode} {r : Req} {s : State} (h : Waiting o r s) :
    (((takeUp r s).mbox.get r.chan).flights.any fun f => decide (f.tag = r.tag ∧ f.op = some o)) = true := by
  have hw := h.waits
  rw [takeUp_channel]
  simp only [Channel.waits, List.any_eq_true] at hw
  obtain ⟨f, hf, hg⟩ := hw
  simp only [Channel.takeUp, released_of_none h.ready, List.any_map, List.any_eq_true]
  refine ⟨f, hf, ?_⟩
  rw [Bool.and_eq_true] at hg
  have := of_decide_eq_true hg.1
  simp [this.1, this.2]

/-- A command whose request waits and whose checks pass does its own part on the state after it is taken. -/
theorem command_taken {o : Opcode} {r : Req} {k : State → Checks} {act : ReqId → State → State} {s : State} (h : Waiting o r s)
    (hk : (k (takeUp r s)).failing (takeUp r s).mbox = none) : command o r k act s = act (reqOf o r s) (takeUp r s) := by
  have hc : lacksAuth o (takeUp r s) = false := by rw [← h.covered]; simp [lacksAuth]
  unfold command
  simp only [h.waits, h.turn, if_true, takeUp_gen, takeUp_trust, h.running, Bool.false_and, Bool.false_eq_true, if_false, hc, hk]
  rfl

/-- The same of exec. -/
theorem command_exec {c : Instr} {o : Opcode} {r : Req} {k : State → Checks} {act : ReqId → State → State} {s : State}
    (hc : exec c s = .next (command o r k act s)) (h : Waiting o r s) (hk : (k (takeUp r s)).failing (takeUp r s).mbox = none) :
    exec c s = .next (act (reqOf o r s) (takeUp r s)) := hc.trans (congrArg _ (command_taken h hk))

/-- A completion, from the state that the command ends in. -/
theorem completes_of {c : Instr} {s v u : State} {ps : List Part} {post : State → Prop} (hc : exec c s = .next v) (e : v = u)
    (hf : onlyIn ps s u) (hp : post u) : Completes c s ps post := ⟨u, e ▸ hc, hf, hp⟩

/-- Checks pass where the length, the fields and the mode are right and nothing is claimed. -/
theorem failing_none {k : Checks} {m : Mailbox} (hl : k.len = true) (hp : k.param = true) (hm : k.mode = true) (hc : m.claims = []) :
    k.failing m = none := by
  simp [Checks.failing, Mailbox.claimed, hl, hp, hm, hc]

theorem fixed_passes {r : Req} {n : Nat} {p m : Bool} {cl : List Resource} {b : Mailbox} (hn : r.len = n) (hr : r.rsv = 0) (hp : p = true)
    (hm : m = true) (hc : b.claims = []) : (fixed r n p m cl).failing b = none :=
  failing_none (by simp [fixed, hn]) (by simp [fixed, sound, hr, hp]) (by simp [fixed, hm]) hc

theorem bare_passes {r : Req} {m : Bool} {cl : List Resource} {b : Mailbox} (hn : r.len = 0) (hr : r.rsv = 0) (hm : m = true)
    (hc : b.claims = []) : (bare r m cl).failing b = none :=
  failing_none (by simp [bare, hn]) (by simp [bare, sound, hr]) (by simp [bare, hm]) hc

/-- What a response does to the mailbox where the request is in flight. -/
theorem respond_mbox {id : ReqId} {f : Bool} {st : Status} {n : Nat} {b : List Byte} {s : State}
    (h : (s.mbox.get id.chan).gen = id.gen ∧ ((s.mbox.get id.chan).flights.any fun x => decide (x.tag = id.tag ∧ x.op = some id.op)) = true) :
    (respond id f st n b s).mbox =
      s.mbox.set id.chan ((s.mbox.get id.chan).queue ⟨(s.mbox.get id.chan).version, id.tag, id.op.code, f, st, n, b, false⟩) := by
  unfold respond; simp only [h, and_self, if_true]

/-- The response of a request that waited, on any state whose mailbox is the one after it was taken. -/
theorem respond_answers {o : Opcode} {r : Req} {f : Bool} {st : Status} {n : Nat} {b : List Byte} {s u : State} (h : Waiting o r s)
    (hu : ∀ c, u.mbox.get c = (takeUp r s).mbox.get c) : Answered o r f st n b s (respond (reqOf o r s) f st n b u) := by
  have hf : (u.mbox.get (reqOf o r s).chan).gen = (reqOf o r s).gen ∧
      ((u.mbox.get (reqOf o r s).chan).flights.any fun x => decide (x.tag = (reqOf o r s).tag ∧ x.op = some (reqOf o r s).op)) = true := by
    refine ⟨?_, ?_⟩
    · show (u.mbox.get r.chan).gen = _
      rw [hu]; exact takeUp_gen r s
    · show ((u.mbox.get r.chan).flights.any _) = true
      rw [hu]; exact takeUp_flight h
  refine ⟨?_, fun c hc => ?_⟩
  · rw [respond_mbox hf]
    show ((u.mbox.set r.chan _).get r.chan).outgoing = _
    rw [get_set_same]
    show (u.mbox.get r.chan).outgoing ++ [⟨(u.mbox.get r.chan).version, _, _, _, _, _, _, _⟩] = _
    rw [hu]; simp [reqOf, takeUp_outgoing h]
  · rw [respond_mbox hf]
    show (u.mbox.set r.chan _).get c = _
    rw [get_set_other _ hc, hu, takeUp_other r s hc]

/-- A request that was taken is in flight on every state whose channel is the one after it was taken. -/
theorem flight_alive {o : Opcode} {r : Req} {s u : State} (h : Waiting o r s)
    (hu : (u.mbox.get r.chan).gen = (s.mbox.get r.chan).gen ∧ (u.mbox.get r.chan).flights = ((takeUp r s).mbox.get r.chan).flights) :
    (u.mbox.get (reqOf o r s).chan).gen = (reqOf o r s).gen ∧
      ((u.mbox.get (reqOf o r s).chan).flights.any fun x => decide (x.tag = (reqOf o r s).tag ∧ x.op = some (reqOf o r s).op)) = true := by
  refine ⟨hu.1, ?_⟩
  show ((u.mbox.get r.chan).flights.any _) = true
  rw [hu.2]; exact takeUp_flight h

/-- What a response does to each channel where its request is in flight. -/
theorem respond_get {id : ReqId} {f : Bool} {st : Status} {n : Nat} {b : List Byte} {s : State}
    (h : (s.mbox.get id.chan).gen = id.gen ∧ ((s.mbox.get id.chan).flights.any fun x => decide (x.tag = id.tag ∧ x.op = some id.op)) = true) :
    (respond id f st n b s).mbox.get id.chan =
      (s.mbox.get id.chan).queue ⟨(s.mbox.get id.chan).version, id.tag, id.op.code, f, st, n, b, false⟩ ∧
    ∀ c, c ≠ id.chan → (respond id f st n b s).mbox.get c = s.mbox.get c := by
  rw [respond_mbox h]
  exact ⟨get_set_same _ _ _, fun c hc => get_set_other _ hc _⟩

theorem get_claims (m : Mailbox) (x : List (Resource × ReqId)) (c : Chan) : ({ m with claims := x } : Mailbox).get c = m.get c := by
  cases c <;> rfl

/-- What an acceptance does to each channel. -/
theorem accept_get {o : Opcode} {r : Req} {s : State} (cl : List Resource) (n : Nat) (h : Waiting o r s) :
    (accept (reqOf o r s) cl n (takeUp r s)).mbox.get r.chan = ((takeUp r s).mbox.get r.chan).queue
      ⟨(s.mbox.get r.chan).version, r.tag, o.code, false, .accepted, 0, leBytes 8 s.time.tock.module ++ leBytes 8 n, false⟩ ∧
    ∀ c, c ≠ r.chan → (accept (reqOf o r s) cl n (takeUp r s)).mbox.get c = s.mbox.get c := by
  have k := respond_get (id := reqOf o r s) (f := false) (st := .accepted) (n := 0) (b := leBytes 8 s.time.tock.module ++ leBytes 8 n)
    (s := { (takeUp r s) with mbox := { (takeUp r s).mbox with
      claims := (takeUp r s).mbox.claims ++ cl.map fun x => (x, reqOf o r s) } })
    (flight_alive h ⟨by dsimp only; rw [get_claims]; exact takeUp_gen r s, by dsimp only; rw [get_claims]⟩)
  dsimp only at k
  rw [get_claims] at k
  refine ⟨k.1.trans ?_, fun c hc => (k.2 c hc).trans ((get_claims _ _ _).trans (takeUp_other r s hc))⟩
  show ((takeUp r s).mbox.get r.chan).queue ⟨((takeUp r s).mbox.get r.chan).version, _, _, _, _, _, _, _⟩ = _
  rw [takeUp_version]; rfl

/-- An acceptance answers ACCEPTED. -/
theorem accept_answers {o : Opcode} {r : Req} {s u : State} {cl : List Resource} {n : Nat} (h : Waiting o r s)
    (hu : ∀ c, u.mbox.get c = (accept (reqOf o r s) cl n (takeUp r s)).mbox.get c) : Accepted o r n s u := by
  obtain ⟨a, b⟩ := accept_get cl n h
  refine ⟨?_, fun c hc => (hu c).trans (b c hc)⟩
  rw [hu, a]; simp [Channel.queue, takeUp_outgoing h]

/-- An acceptance and a final response, on a state whose channels are those after the acceptance. -/
theorem accepted_then {o : Opcode} {r : Req} {s u : State} {cl : List Resource} {n : Nat} {st : Status} {k : Nat} {b : List Byte}
    (h : Waiting o r s) (hu : ∀ c, u.mbox.get c = (accept (reqOf o r s) cl n (takeUp r s)).mbox.get c) :
    AcceptedThen o r n st k b s (finish (reqOf o r s) st k b u) := by
  obtain ⟨ha, hb⟩ := accept_get cl n h
  have hg : (u.mbox.get r.chan) = ((takeUp r s).mbox.get r.chan).queue
      ⟨(s.mbox.get r.chan).version, r.tag, o.code, false, .accepted, 0, leBytes 8 s.time.tock.module ++ leBytes 8 n, false⟩ := (hu _).trans ha
  have hrel : ∀ c, (u.mbox.release (reqOf o r s)).get c = u.mbox.get c := fun c => by cases c <;> rfl
  have k := respond_get (id := reqOf o r s) (f := true) (st := st) (n := k) (b := b) (s := { u with mbox := u.mbox.release (reqOf o r s) })
    (flight_alive h ⟨by dsimp only; rw [hrel, hg]; exact takeUp_gen r s, by dsimp only; rw [hrel, hg]; rfl⟩)
  dsimp only at k
  refine ⟨?_, fun c hc => (k.2 c hc).trans ((hrel c).trans ((hu c).trans (hb c hc)))⟩
  have e : (u.mbox.release (reqOf o r s)).get (reqOf o r s).chan = _ := (hrel r.chan).trans hg
  rw [e] at k
  refine (congrArg Channel.outgoing k.1).trans ?_
  show ((takeUp r s).mbox.get r.chan).outgoing ++ [_] ++ [⟨((takeUp r s).mbox.get r.chan).version, _, _, _, _, _, _, _⟩] = _
  rw [takeUp_version]; simp [reqOf, takeUp_outgoing h]

/-- A request that claimed nothing of anyone else gives back all it claimed. -/
theorem finish_claims (id : ReqId) (st : Status) (n : Nat) (b : List Byte) (s : State) :
    (finish id st n b s).mbox.claims = s.mbox.claims.filter fun p => decide (p.2 ≠ id) := by
  unfold finish respond; dsimp only; split
  · cases id.chan <;> rfl
  · rfl

theorem accept_claims (id : ReqId) (l : List Resource) (n : Nat) (s : State) :
    (accept id l n s).mbox.claims = s.mbox.claims ++ l.map fun r => (r, id) := by
  unfold accept respond; dsimp only; split
  · cases id.chan <;> rfl
  · rfl

/-- The final response of a request that is alive. -/
theorem finish_concludes {id : ReqId} {st : Status} {n : Nat} {b : List Byte} {s u : State} (h : Alive id s)
    (hu : ∀ c, u.mbox.get c = s.mbox.get c) (hc : u.mbox.claims = s.mbox.claims) : Concludes id st n b s (finish id st n b u) := by
  obtain ⟨hg, f, hf, h1, h2⟩ := h
  have hrel : ∀ c, (u.mbox.release id).get c = s.mbox.get c := fun c => (by cases c <;> rfl : _ = u.mbox.get c).trans (hu c)
  have k := respond_get (id := id) (f := true) (st := st) (n := n) (b := b) (s := { u with mbox := u.mbox.release id })
    ⟨by dsimp only; rw [hrel]; exact hg, by dsimp only; rw [hrel]; exact List.any_eq_true.2 ⟨f, hf, by simp [h1, h2]⟩⟩
  dsimp only at k
  rw [hrel] at k
  exact ⟨congrArg Channel.outgoing k.1, by rw [finish_claims, hc]⟩

theorem respond_ring (id : ReqId) (f : Bool) (st : Status) (n : Nat) (b : List Byte) (s : State) :
    (respond id f st n b s).mbox.ring = s.mbox.ring := by
  unfold respond; dsimp only; split
  · cases id.chan <;> rfl
  · rfl

theorem respond_claims (id : ReqId) (f : Bool) (st : Status) (n : Nat) (b : List Byte) (s : State) :
    (respond id f st n b s).mbox.claims = s.mbox.claims := by
  unfold respond; dsimp only; split
  · cases id.chan <;> rfl
  · rfl

@[simp] theorem respond_auth (id : ReqId) (f : Bool) (st : Status) (n : Nat) (b : List Byte) (s : State) :
    (respond id f st n b s).mbox.auth = s.mbox.auth := by
  unfold respond; dsimp only; split
  · cases id.chan <;> rfl
  · rfl

/-- Taking a request touches the authentication only by the time of the latest request. -/
theorem takeUp_auth (r : Req) (s : State) :
    ∃ q, (takeUp r s).mbox.auth = { s.mbox.auth with lastRequest := q } :=
  ⟨(takeUp r s).mbox.auth.lastRequest, by unfold takeUp; cases r.chan <;> rfl⟩

theorem respond_lastAccept (id : ReqId) (f : Bool) (st : Status) (n : Nat) (b : List Byte) (s : State) :
    (respond id f st n b s).mbox.lastAccept = s.mbox.lastAccept := by
  unfold respond; dsimp only; split
  · cases id.chan <;> rfl
  · rfl

@[simp] theorem takeUp_ring (r : Req) (s : State) : (takeUp r s).mbox.ring = s.mbox.ring := by
  unfold takeUp; cases r.chan <;> rfl

/-- A command that only answers: what it does where its request waits and its checks pass. -/
theorem reads_of {c : Instr} {o : Opcode} {r : Req} {k : State → Checks} {payload : State → List Byte} {s : State}
    (hc : exec c s = .next (command o r k (fun id t => respond id true .ok 0 (payload t) t) s)) (h : Waiting o r s)
    (hk : (k (takeUp r s)).failing (takeUp r s).mbox = none) : Reads c o r payload s := by
  refine ⟨_, hc.trans (congrArg _ (command_taken h hk)), ?_, ⟨?_, ?_⟩, respond_answers h fun _ => rfl, ?_, ?_⟩
  · exact onlyIn_trans (onlyIn_takeUp r s) (onlyIn_mono (onlyIn_respond _ _ _ _ _ _) (by decide))
  · simp
  · rw [respond_lastAccept]; rfl
  · rw [respond_ring]; simp
  · rw [respond_claims]; simp

end Sys2Proof.Machine
end

