-- ==== Sys2Proof/Laws/Time.lean ====
section
/-! SUPPORT. What a lapse of time can do (R306): ticks since cold reset only rise, module time never steps backward, and it reaches the moment that a
command waits for, whoever counts it. -/

namespace Sys2Proof.Machine

@[simp] theorem advance_now (t : TimeUnit) (n : Nat) : (t.advance n).now = t.now + n := by
  rcases h : t.carrier with _ | _ | p <;> simp only [TimeUnit.advance, h]
  split <;> rfl

theorem module_le_advance (t : TimeUnit) (n : Nat) : t.module ≤ (t.advance n).module := by
  rcases h : t.carrier with _ | _ | p <;> simp only [TimeUnit.advance, h]
  · omega
  · omega
  · split <;> simp only <;> omega

/-- Where TBCK counts, module time advances with time. -/
theorem advance_tbck (t : TimeUnit) (n : Nat) (h : t.carrier = .tbck) : t.advance n = { t with now := t.now + n, module := t.module + n } := by
  simp [TimeUnit.advance, h]

/-- The first edge of CK00 at which the carrier has added d ticks. -/
theorem carried_reaches (now d b : Nat) (h : edgeTick (((edgeTick (edgesTo now) + d) * 128 + 390624) / 390625) ≤ b) :
    d ≤ carriedTicks now b := by
  unfold carriedTicks edgeTick edgesTo at *
  omega

/-- `reach` brings module time to the moment that is waited for. -/
theorem reach_module (m : Nat) (s : State) : m ≤ (reach m s).time.module := by
  rcases h : s.time.carrier with _ | _ | p <;> simp only [reach, TimeUnit.until, TimeUnit.advance, h]
  · omega
  · by_cases hd : m - s.time.module = 0
    · simp only [hd, ite_true]; omega
    · simp only [hd, ite_false]
      have := carried_reaches s.time.now (m - s.time.module)
        (s.time.now + (edgeTick (((edgeTick (edgesTo s.time.now) + (m - s.time.module)) * 128 + 390624) / 390625) - s.time.now)) (by omega)
      omega
  · by_cases hd : m - s.time.module = 0
    · simp only [hd, ite_true]
      split <;> simp only <;> omega
    · simp only [hd, ite_false]
      split
      · omega
      · simp only; omega

end Sys2Proof.Machine
end

