-- ==== Sys2Proof/WellFormed.lean ====
section
/-! DEFINITION. The commands that the manual gives the module a cause for: operands that name something it has. A command that is not
well-formed still has a meaning; three of them end in a fault. -/

namespace Sys2Proof

/-- A site of the array (R21). -/
def inArray (x y : Nat) : Bool := decide (x < Config.readCols) && decide (y < Config.readRows)

/-- A word of the fuse array (R371). -/
def isFuseWord (k : Nat × Nat) : Bool := decide (k.1 < 8) && decide (k.2 < 128)

/-- Rates, in 0.1 GT/s, and widths at which the host link trains (R189, R190). -/
def isLinkRate (r : Nat) : Bool := [25, 50, 80, 160, 320, 640].contains r
def isLinkWidth (w : Nat) : Bool := [1, 2, 4, 8, 16].contains w

/-- What the surroundings answer names four devices, tiles 0 to 7 and a domain (R157, R42, R401). -/
def Surroundings.wellFormed (e : Surroundings) : Bool :=
  decide (e.devices.length ≤ 4) && e.tilesOnce.all (fun t => decide (t < 8)) && e.tilesTwice.all (fun t => decide (t < 8))
    && e.noPowerGood.all fun d => decide (d < 80)

def ColdStart.wellFormed (c : ColdStart) : Bool :=
  c.unstable.all (fun n => decide (n < 4)) && c.weak.all (fun k => isFuseWord k.1) && c.around.wellFormed

/-- Codes of 14 bits and the over-range, sixteen for a slice's references, and upset bits of stored words of 48 bits (R56, R64, R44). -/
def PeriodData.wellFormed (d : PeriodData) : Bool :=
  let code := fun v => decide (v ≤ Config.maxCode)
  let sparse := fun (c : Sparse) => code c.common && c.except.all fun e => decide (e.1 < Config.readCols) && code e.2
  sparse d.codesTop && sparse d.codesBottom && code d.refCommon
    && d.refExcept.all (fun e => decide (e.1 < Config.slices) && decide (e.2.length = 16) && e.2.all code)
    && d.upsets.all fun u => inArray u.1 u.2.1 && decide (u.2.2 < 48)

/-- A channel that a host function's interface has: any; a request's length is that of a payload (R265). -/
def Req.wellFormed (r : Req) : Bool := decide (r.len ≤ 4096)

/-- Whether a command names only what the module has. -/
def wellFormed (i : Instr) : Bool := match i with
  | .hello r _ _ | .bye r | .getIdentity r | .getStatus r | .modeQuery r | .profileSelect r _ | .profileRead r _ | .ledgerQuery r _
  | .ledgerCancel r _ | .windowSet r .. | .exposureProgramSet r _ | .triggerSet r _ | .binningSet r _ | .rotationSet r _
  | .syncSourceSet r _ | .reservoirInfo r _ | .prerollSet r _ | .holdoverStatus r | .holdoverScan r _ | .holdoverRead r ..
  | .holdoverRelease r .. | .weltOpen r .. | .weltClose r .. | .weltRelay r .. | .takeStop r | .tapConfig r _ | .streamConfig r _
  | .streamStart r _ | .streamStop r _ | .tandemRoleSet r _ | .tandemStatus r | .compositorSet r .. | .timecodeSet r ..
  | .timebaseDiscipline r .. | .auxSyscal r .. | .calStatus r | .calRun r .. | .fuseRead r .. | .fuseProgram r .. | .logRead r ..
  | .logClearCounters r | .dumpInfo r | .dumpRead r _ | .dumpClear r _ | .fwActivate r | .authChallenge r _ | .resetWarm r _
  | .thermalSet r _ | .powerPolicySet r .. => r.wellFormed
  | .modeRequest r f sur => r.wellFormed && decide (f.burst.wrapped.length = 40) && sur.wellFormed
  | .profileStore r _ n items | .ledgerPost r n items => r.wellFormed && decide (items.length = n.toNat)
  | .weltAllowlistSet r n ranges => r.wellFormed && decide (ranges.length = n.toNat)
  | .takeStart r _ _ wrapped => r.wellFormed && decide (wrapped.length = 40)
  | .lutLoad r _ _ _ _ _ _ data => r.wellFormed && decide (data.length ≤ 4096)
  | .abusXfer r _ _ _ n _ data => r.wellFormed && decide (data.length = n.toNat)
  | .abusTargetSet r _ _ addrs _ _ => r.wellFormed && decide (addrs.length ≤ 4)
  | .auxSequenceSet r n entries => r.wellFormed && decide (entries.length = n.toNat)
  | .calInstall r _ sur | .calRollback r sur => r.wellFormed && sur.wellFormed
  | .fuseFinalize r _ declared fresh _ => r.wellFormed && decide (declared.length = 4) && fresh.all fun k => decide (k.1 < 128)
  | .fwStage r _ _ _ data => r.wellFormed && decide (data.length ≤ 4096)
  | .authResponse r _ _ sig => r.wellFormed && decide (sig.length = 96)
  | .rowPairPeriod d => d.wellFormed
  | .calWordRestore x y | .selfReset x y .. => inArray x y
  | .exposureWindowEnd sites => sites.all fun c => inArray c.x c.y && decide (c.folds ≤ 2)
  | .agentInfo _ _ bytes => decide (bytes.length ≤ 1024)
  | .weltPageWriteDiscard _ _ offset => decide (offset < 0x4000)
  | .memoryLinkRetrain d .. | .deviceLost d => decide (d < 4)
  | .deviceHealthPoll found => found.all fun f => decide (f.device < 4)
  | .viewFrameDelivery ring .. | .descriptorReadTimeout ring | .posted ring _ =>
    decide (ring.toNat ≤ 2 ∨ (0x10 ≤ ring.toNat ∧ ring.toNat ≤ 0x17))
  | .coldReset c => c.wellFormed
  | .warmReset sur | .modResetRelease sur | .fwSelfTestPass _ sur | .fwSelfTestTimeout sur | .dumpWriteDone sur => sur.wellFormed
  | .powerGoodTimeout d => decide (d < 80)
  | .loadSample _ _ _ _ _ _ _ pd => decide (pd.length = 81)
  | .tileTempSample codes => decide (codes.length = 8)
  | .linkTrained rate width .. => isLinkRate rate && isLinkWidth width
  | .l0pNarrowing width => isLinkWidth width
  | .ideKm rx tx => decide (rx.body.length = 32) && decide (tx.length = 32)
  | .kekSet kek => decide (kek.body.length = 32)
  | .sense weak => weak.all fun k => isFuseWord k.1
  | .finalize fresh _ => fresh.all fun k => decide (k.1 < 128)
  | .registerWrite _ _ offset access _ => decide (offset < if access = .config ∨ access = .configRead then 0x1000 else 0x40000)
  | .triplicateUpset field copy => decide (field < 128) && decide (copy < 3)
  | .triplicateDisagree field => decide (field < 128)
  | .sqTail .. | .requestFetch .. | .fetchTimeout _ | .cqHead .. | .responseWrite _ | .mboxCtrlEnable .. | .eventRingCtrlEnable _
  | .consumed _ | .lossNotice | .repeatCountUpdate _ | .frameBoundary _ | .idleBoundary _ | .recordClose | .exposureWindowStart
  | .readySliceCalibration _ | .trigInEdge | .gateClose | .prerollRewriteDone | .genlockFrameStart .. | .genlockSyncTimeout
  | .genlockStartTimeout | .ltcCodeword .. | .ltcAbsentTimeout | .timecodeFrameStart | .timerTick _ | .timerInputEdge .. | .timerStuck _
  | .start _ | .stop _ | .reset _ | .count .. | .compare .. | .capRise _ | .auxPassEnd .. | .auxSyscalCaptureDone _ | .qconsumed _
  | .abusXferDone .. | .arbitrationLost .. | .busError .. | .sclTimeout .. | .sdaTimeout .. | .sdaReleased _ | .busCtrl ..
  | .targetWriteCommand .. | .targetReadCommand .. | .inboxConsumed .. | .hbusIdleTimeout | .hbusWake _ | .hostNotify _ | .lensPoll ..
  | .dormantAbusPowerOff | .descLimit .. | .pageLimit .. | .openAckSession .. | .ackProducer .. | .weltOpenTimeout _ | .ackTimeout _
  | .weltRecordSend .. | .deviceMediaError _ | .bar2Read .. | .bar2Write _ | .holdoverBlockFail _ | .holdoverBankFail _
  | .pairingWindowClose | .partnerFrameDeadline | .tandemLinkUp | .helloPacket .. | .heartbeat .. | .heartbeatKeepalive | .join ..
  | .ledger _ | .ledgerAck _ | .ledgerResend | .ledgerCancelPacket .. | .frameBegin .. | .lines .. | .frameEnd .. | .partnerStatus ..
  | .tandemPacketCrcFail | .tandemLinkTimeout | .tsyncEdge | .modResetAssert | .readyEntryComplete | .readyEntryTimeout | .acAbsent
  | .dcAbsent | .inputPresent _ | .acReturnSettled | .inputOutOfRange _ | .rideThroughExpiry | .storeAtVRetire | .holdStoreTimeout
  | .powerStageFault | .thermalCheck .. | .perst _ | .linkDown | .flrPf0 | .flrPf1 | .busMasterEnable .. | .d3hotEntry _ | .pmeTurnOff
  | .msixEnable .. | .completionTimeout .. | .unexpectedCompletion | .bar0AccessError _ | .ideIntegrityFailure | .doeRequest ..
  | .getMeasurements _ | .authIdleTimeout | .pllLockDetect _ | .pllLockTimeout _ | .pllRefLoss _ | .pllRefReturn _ | .xrefLoss
  | .xrefReturn | .pllCmdLock _ | .outCfg _ | .program _ | .bridgeWaitTimeout | .bridgeClockReturn | .keeperWatchdogExpiry
  | .firmwareAssertion _ | .stackLinkLoss | .eventReport .. | .logWriter | .logRestore .. | .holdStoreReady | .readyIdleTimeout
  | .tandemLinkDown | .d3hotExit _ | .doeAbort | .debugHalt _ => true

end Sys2Proof
end

