-- ==== Sys2Proof/Tests/Slice0.lean ====
section
/-! SUPPORT. Tests: ill-formed terms that the checks refuse, states that meet the hypotheses of each statement, and the worked examples of the
specification. -/

set_option Elab.async false

namespace Sys2Proof.Tests
open Sys2Proof Sys2Proof.Machine

/-- A statement about every element of a list, decided by its Boolean form. -/
theorem all_of {α : Type} {P : α → Prop} [DecidablePred P] (l : List α) (h : (l.all fun a => decide (P a)) = true) : ∀ a ∈ l, P a := by
  simpa using h

/-! ## Small states -/

/-- The CAPS word in the fuse shadow. -/
def caps (v : U32) (s : State) : State := { s with fuse := { s.fuse with shadow := [((2, 0), v)], sensed := true } }

/-- Every domain on, with both inputs present and the hold-up store ready. -/
def onAll : PowerUnit :=
  { Reset.power with
    en := List.replicate 80 true, good := List.replicate 80 true, iso := List.replicate 80 false, acPresent := true, dcPresent := true,
    draw := .ac, holdVolts := 4800, holdState := .ready, pwrGood := true }

/-- The host link at 64 GT/s with sixteen lanes, both functions as bus masters. -/
def linkUp : LinkUnit :=
  { Reset.link with
    state := .l0, rate := 640, width := 16, active := 16, asked := 16, flit := true, pf0 := { Reset.link.pf0 with bme := true },
    pf1 := { Reset.link.pf1 with bme := true } }

/-- A module in a mode. -/
def base (m : Mode) : State :=
  caps 0xFF { State.reset with time := { Reset.time with carrier := .tbck }, mode := { Reset.mode with mode := m }, power := onAll, link := linkUp }

/-- A channel after HELLO with a request of one command in flight, and a state with it as CH0. -/
def chan (o : Opcode) : Channel :=
  { Reset.channel with enable := true, entries := 16, ver := some (3, 0), flights := [⟨7, some o, 0, true, none⟩] }

/-- The authentication that a command needs: the factory role. -/
def ask (o : Opcode) (s : State) : State :=
  let m := { s.mbox with c0 := chan o }
  { s with mbox := if needsAuth o then { m with auth := { m.auth with role := 4 } } else m }

/-- That request, with its LENGTH and TARGET_FRAME. -/
def rq (len : Nat) (tgt : U64 := 0) : Req := ⟨.ch0, 7, tgt, len, 0⟩

/-- Surroundings without a fault. -/
def span : SpanSums := ⟨1024*512, 1024*6000, 1024*11500, 1024*17000, 0⟩
def dev : DeviceSeen := ⟨true, 16, 64, 64, true, 549755813888, false, true, []⟩
def sur : Surroundings := ⟨[dev], [], [], none, ⟨⟨span, span⟩, []⟩, ⟨[], [], 0, [], (0, 0), [], []⟩, []⟩
def cs : ColdStart :=
  { psel0 := false, psel1 := false, roleMv := 1650, serviceEn := false, unstable := [], ac := true, dc := false, store := 4600, weak := [],
    around := sur }

/-- The state after a command. -/
def nx (s : State) (i : Instr) : State := match exec i s with | .next t => t | _ => s

/-- Frames of a take: tag, what governs one, a readout, a record. -/
def tag (t i : Nat) : TakeTag := ⟨t, i, 0, false, false, false⟩
def govN (n : Nat) (t : TakeTag) : FrameGov :=
  ⟨n, 1000, 100000, Factory.settings.sensor, [], none, 0, 0, List.replicate 8 320, List.replicate 8 false, Factory.settings.cond,
    Factory.settings.recs, 0, 0, false, .view, 0, false, 0, 0, false, 0, 0, 0, t, [], 0, 1, 0, 320⟩
def emptyData : FrameData :=
  { rows := [], words := ⟨0, []⟩, corr := Reset.conv.corr, tileTrim := [], parity := [], mono := false }
def rd (g : FrameGov) (k : Nat) : Readout := ⟨g, emptyData, k, [], List.replicate 16 0, none, ⟨[], none, none, 0⟩, false⟩
def smp : Samples := ⟨zeros 1024, none, none, 0, 0, 0, 0, 0, false, 0, 0, 320, 0, 0, 0⟩
def recd (g : FrameGov) : Record := ⟨g, .plain [1, 2, 3], [], ⟨0, 0, 0, 0, 0, 0, 0⟩, [0, 0, 0, 0], false, List.replicate 16 0, smp, 0, 3⟩

/-- An agent information page. -/
def info0 : List Byte :=
  padTo 0x3FC (leBytes 4 0x544C4557 ++ leBytes 2 0xF ++ zeros 10 ++ leBytes 8 0x100000 ++ leBytes 4 64 ++ leBytes 4 1 ++ zeros 0x20
    ++ leBytes 8 0x200000000 ++ leBytes 4 262144 ++ zeros 4)
def info1 : List Byte := info0 ++ leBytes 4 (crc32c info0)

/-! ## The hypotheses of each statement are met -/

/-- A CRC-32C has 32 bits. -/
theorem crc32c_lt (bs : List Byte) : crc32c bs < 2 ^ 32 := by
  have bit : ∀ c, c < 2 ^ 32 → crcBit 0x82F63B78 c < 2 ^ 32 := by
    intro c h
    unfold crcBit
    split
    · exact Nat.xor_lt_two_pow (by omega) (by decide)
    · omega
  have bits : ∀ (l : List Nat) c, c < 2 ^ 32 → l.foldl (fun c _ => crcBit 0x82F63B78 c) c < 2 ^ 32 := by
    intro l
    induction l with
    | nil => exact fun c h => h
    | cons _ l ih => exact fun c h => ih _ (bit c h)
  have bytes : ∀ (l : List Byte) c, c < 2 ^ 32 → l.foldl (crcByte 0x82F63B78) c < 2 ^ 32 := by
    intro l
    induction l with
    | nil => exact fun c h => h
    | cons b l ih => exact fun c h => ih _ (bits _ _ (Nat.xor_lt_two_pow h (by have := b.isLt; omega)))
  exact Nat.xor_lt_two_pow (bytes bs _ (by decide)) (by decide)

namespace Mailbox

def s0 := base .view
def au (f : AuthState → AuthState) (s : State) : State := { s with mbox := { s.mbox with auth := f s.mbox.auth } }
def s4 := au (fun a => {a with challenge := some ⟨77, 4, 2^40⟩, fails := 2}) (ask .authResponse s0)
def sig0 : List Byte := List.replicate 96 1
def v1 : State := (au (fun a => {a with role := 1}) s0)
def dbs := let s := ask .hello s0; {s with mbox := {s.mbox with c0 := {s.mbox.c0 with sqHead := 0xFFFFFFFE, sqTail := 1, cqHead := 5, cqTail := 9}}}
def fts := let s := ask .hello s0; {s with mbox := {s.mbox with c0 := {s.mbox.c0 with flights := [], sqHead := 3, sqTail := 4}}}
def fts1 := {fts with mbox := {fts.mbox with c0 := {fts.mbox.c0 with flights := [⟨5, some .getStatus, 0, true, none⟩]}}}
def m0 : Message := ⟨3,0,0x0011,0,9,0,0,0,0,0,0,[]⟩
def m1 : Message := {m0 with crc := BitVec.ofNat 32 (crc32c (messageHead m0))}
def v2 : State := {fts with mbox := {fts.mbox with c0 := {fts.mbox.c0 with fetchTries := 2}}}
def rs0 : Response := ⟨(3,0),7,0x0004,true,.ok,0,[1,2,3,4],false⟩
def rws := let s := ask .hello s0; {s with mbox := {s.mbox with c0 := {s.mbox.c0 with outgoing := [rs0], cqTail := 15}}}
def er (f : EventRing → EventRing) (s : State) : State := { s with mbox := { s.mbox with ring := f s.mbox.ring } }
def v3 : State := (er (fun r => {r with produced := 5, consumed := 2}) s0)
def v4 : State := (er (fun r => {r with produced := 5, consumed := 2}) s0)
def v5 : State := (er (fun r => {r with produced := 5, consumed := 2}) s0)
def v6 : State := (er (fun r => {r with produced := 5, consumed := 2, enable := true, noticeDue := true, entries := 16, lost := 3}) s0)
def ent : LogEntry := ⟨⟨0x0505,0x3000,5,6,7,8⟩,9,1,false,false,false⟩
def ers := let s := er (fun r => {r with produced := 5, consumed := 2, enable := true, entries := 16, mask := 0xFFFFFFFF, stale := [9]}) s0; {s with log := {s.log with entries := [ent], latest := [(0x3000, 9)]}}

/-- Another channel has the turn. -/
def turnless : State := let s := ask .getIdentity s0; { s with mbox := { s.mbox with c1 := chan .getStatus, lastChan := .ch0 } }

theorem witness_BareQueriesAnswer :
    ((rq 0).len = 0 ∧ Waiting .getIdentity (rq 0) (ask .getIdentity s0)) ∧
    ((rq 0).len = 0 ∧ Waiting .getStatus (rq 0) (ask .getStatus s0)) ∧
    ((rq 0).len = 0 ∧ Waiting .modeQuery (rq 0) (ask .modeQuery s0)) ∧
    ((rq 0).len = 0 ∧ Waiting .tandemStatus (rq 0) (ask .tandemStatus s0)) ∧
    ((rq 0).len = 0 ∧ Waiting .calStatus (rq 0) (ask .calStatus s0)) ∧
    ((rq 0).len = 0 ∧ Waiting .holdoverStatus (rq 0) (ask .holdoverStatus s0)) ∧
    ((rq 0).len = 0 ∧ Waiting .dumpInfo (rq 0) (ask .dumpInfo s0)) ∧
    (((turnless.mbox.get (rq 0).chan).waits .getIdentity (rq 0).tag = true) ∧ turnless.mbox.takes .getIdentity (rq 0) = false) := by
  and_intros <;> first
    | decide +kernel
    | exact ⟨by decide +kernel, by decide +kernel, by decide +kernel, by decide +kernel, by decide +kernel, by decide +kernel⟩

theorem witness_FieldQueriesAnswer :
    ((3 : Byte).toNat ≤ 3 ∧ (rq 4).len = 4 ∧ Waiting .profileRead (rq 4) (ask .profileRead s0)) ∧
    ((rq 4).len = 4 ∧ Waiting .ledgerQuery (rq 4) (ask .ledgerQuery s0)) ∧
    ((7 : Byte).toNat ≤ 7 ∧ 1 ≤ (1 : U16).toNat ∧ (127 : U16).toNat + (1 : U16).toNat ≤ 128 ∧ (rq 8).len = 8 ∧ Waiting .fuseRead (rq 8) (ask .fuseRead s0)) ∧
    ((0 : Byte).toNat ≤ 7 ∧ 1 ≤ (128 : U16).toNat ∧ (0 : U16).toNat + (128 : U16).toNat ≤ 128 ∧ (rq 8).len = 8 ∧ Waiting .fuseRead (rq 8) (ask .fuseRead s0)) ∧
    (1 ≤ (127 : U16).toNat ∧ (127 : U16).toNat ≤ 127 ∧ (rq 8).len = 8 ∧ Waiting .logRead (rq 8) (ask .logRead s0)) := by
  and_intros <;> first
    | decide +kernel
    | exact ⟨by decide +kernel, by decide +kernel, by decide +kernel, by decide +kernel, by decide +kernel, by decide +kernel⟩

/-- A second request in flight behind the HELLO; and a request that waits, behind which another is refused. -/
def busyHello : State := let s := ask .hello s0; { s with mbox := { s.mbox with c0 := { s.mbox.c0 with flights := s.mbox.c0.flights ++ [⟨8, some .getStatus, 0, true, none⟩] } } }

theorem witness_HelloAndByeSetVersion :
    (Waiting .hello (rq 4) busyHello ∧ (rq 4).len = 4 ∧ 1 < (busyHello.mbox.get (rq 4).chan).inflight) ∧
    (Waiting .hello (rq 4) (ask .hello s0) ∧ (rq 4).len = 4 ∧ ((ask .hello s0).mbox.get (rq 4).chan).inflight ≤ 1 ∧ 3 ≤ (3 : Byte).toNat) ∧
    (Waiting .hello (rq 4) (ask .hello s0) ∧ (rq 4).len = 4 ∧ ((ask .hello s0).mbox.get (rq 4).chan).inflight ≤ 1 ∧ (2 : Byte).toNat = 2) ∧
    (Waiting .hello (rq 4) (ask .hello s0) ∧ (rq 4).len = 4 ∧ ((ask .hello s0).mbox.get (rq 4).chan).inflight ≤ 1 ∧ (1 : Byte).toNat < 2) ∧
    (Waiting .bye (rq 0) (ask .bye s0) ∧ (rq 0).len = 0) := by
  and_intros <;> first
    | decide +kernel
    | exact ⟨by decide +kernel, by decide +kernel, by decide +kernel, by decide +kernel, by decide +kernel, by decide +kernel⟩

def unauth := au (fun a => {a with role := 2}) (ask .calRollback (base .ready))

theorem witness_AuthenticationFollowsChallenge :
    (Waiting .authChallenge (rq 4) (ask .authChallenge s0) ∧ (rq 4).len = 4 ∧ 1 ≤ (4 : Byte).toNat ∧ (4 : Byte).toNat ≤ 4 ∧ (ask .authChallenge s0).mbox.auth.lockedUntil ≤ (ask .authChallenge s0).time.now + 1) ∧
    (Waiting .authResponse (rq 104) s4 ∧ (rq 104).len = 104 ∧ sig0.length = 96 ∧ 1 ≤ (4 : Byte).toNat) ∧
    (unauth.mbox.takes .calRollback (rq 0) = true ∧ (∀ f ∈ (unauth.mbox.get (rq 0).chan).flights, f.held = none) ∧ lacksAuth .calRollback unauth = true ∧ unauth.trust.romOnly = false) ∧
    v1.mbox.auth.role ≠ 0 := by
  and_intros <;> first
    | decide +kernel
    | exact ⟨by decide +kernel, by decide +kernel, by decide +kernel, by decide +kernel, by decide +kernel, by decide +kernel⟩

theorem witness_DoorbellsMoveOrHalt :
    (dbs.link.takes (chanPf1 Chan.ch0) = true ∧ (dbs.mbox.get Chan.ch0).enable = true ∧ (dbs.mbox.get Chan.ch0).halt = 0 ∧ BitVec.toNat ((dbs.mbox.get Chan.ch0).sqTail - (dbs.mbox.get Chan.ch0).sqHead) ≤ BitVec.toNat ((14 : U32) - (dbs.mbox.get Chan.ch0).sqHead) ∧ BitVec.toNat ((14 : U32) - (dbs.mbox.get Chan.ch0).sqHead) ≤ BitVec.toNat (dbs.mbox.get Chan.ch0).entries) ∧
    (dbs.link.takes (chanPf1 Chan.ch0) = true ∧ (dbs.mbox.get Chan.ch0).enable = true ∧ (dbs.mbox.get Chan.ch0).halt = 0 ∧ BitVec.toNat ((dbs.mbox.get Chan.ch0).sqTail - (dbs.mbox.get Chan.ch0).sqHead) ≤ BitVec.toNat ((1 : U32) - (dbs.mbox.get Chan.ch0).sqHead) ∧ BitVec.toNat ((1 : U32) - (dbs.mbox.get Chan.ch0).sqHead) ≤ BitVec.toNat (dbs.mbox.get Chan.ch0).entries) ∧
    (dbs.link.takes (chanPf1 Chan.ch0) = true ∧ (dbs.mbox.get Chan.ch0).enable = true ∧ (dbs.mbox.get Chan.ch0).halt = 0 ∧ BitVec.toNat (dbs.mbox.get Chan.ch0).entries < BitVec.toNat ((15 : U32) - (dbs.mbox.get Chan.ch0).sqHead)) ∧
    (dbs.link.takes (chanPf1 Chan.ch0) = true ∧ (dbs.mbox.get Chan.ch0).enable = true ∧ (dbs.mbox.get Chan.ch0).halt = 0 ∧ BitVec.toNat ((dbs.mbox.get Chan.ch0).cqTail - (dbs.mbox.get Chan.ch0).cqHead) < BitVec.toNat ((10 : U32) - (dbs.mbox.get Chan.ch0).cqHead)) ∧
    (dbs.link.takes (chanPf1 Chan.ch0) = true ∧ (dbs.mbox.get Chan.ch0).enable = true ∧ (dbs.mbox.get Chan.ch0).halt = 0 ∧ BitVec.toNat ((9 : U32) - (dbs.mbox.get Chan.ch0).cqHead) ≤ BitVec.toNat ((dbs.mbox.get Chan.ch0).cqTail - (dbs.mbox.get Chan.ch0).cqHead)) ∧
    (dbs.link.takes (chanPf1 Chan.ch0) = true ∧ (dbs.mbox.get Chan.ch0).enable = true ∧ (dbs.mbox.get Chan.ch0).halt = 0) := by
  and_intros <;> decide +kernel

theorem witness_FetchingChecksEachRequest :
    (canFetch Chan.ch0 fts1 = true ∧ messageChecks Chan.ch0 m0 fts1 = some (2, Status.badCheck) ∧ (fts1.mbox.get Chan.ch0).flights.any Flight.blocks = true) ∧
    (fts.mbox.get Chan.ch0).flights.any Flight.blocks = false ∧
    (canFetch Chan.ch0 fts = true ∧ messageChecks Chan.ch0 m0 fts = some (2, Status.badCheck)) ∧
    (canFetch Chan.ch0 fts = true ∧ 4096 <   BitVec.toNat     (let __src := m0;       { verMajor := __src.verMajor, verMinor := __src.verMinor, opcode := __src.opcode, flags := __src.flags, tag := __src.tag, length := (4097 : U32), status := __src.status, pad0 := __src.pad0, target := __src.target, crc := __src.crc, pad1 := __src.pad1, payload := __src.payload : Message }).length) ∧
    canFetch Chan.ch0 fts = true ∧
    canFetch Chan.ch0 v2 = true ∧
    (canFetch Chan.ch0 fts = true ∧ messageChecks Chan.ch0 m1 fts = none) := by
  and_intros <;> decide +kernel

theorem witness_ResponsesReachTheQueue :
    ((rws.mbox.get Chan.ch0).enable = true ∧ (∀ f ∈ (rws.mbox.get Chan.ch0).flights, f.held = none) ∧ (rws.mbox.get Chan.ch0).rewrite = 0 ∧ rws.link.mayWrite (chanPf1 Chan.ch0) = true ∧ (rws.mbox.get Chan.ch0).outgoing = [rs0] ∧ BitVec.toNat ((rws.mbox.get Chan.ch0).cqTail - (rws.mbox.get Chan.ch0).cqHead) < BitVec.toNat (rws.mbox.get Chan.ch0).entries) := by
  and_intros <;> decide +kernel

def ersn := er (fun r => {r with noticeDue := true}) ers

theorem witness_EventRingKeepsItsCounts :
    v3.link.takes false = true ∧
    (v4.link.takes false = true ∧ BitVec.toNat ((5 : U32) - v4.mbox.ring.consumed) ≤ BitVec.toNat (v4.mbox.ring.produced - v4.mbox.ring.consumed)) ∧
    (v5.link.takes false = true ∧ BitVec.toNat (v5.mbox.ring.produced - v5.mbox.ring.consumed) < BitVec.toNat ((6 : U32) - v5.mbox.ring.consumed)) ∧
    (v6.mbox.ring.enable = true ∧ v6.mbox.ring.noticeDue = true ∧ v6.mbox.ring.held < BitVec.toNat v6.mbox.ring.entries) ∧
    (ers.log.latestOf ((12288 : U16).toNat) = some ent ∧ ent.seq ∈ ers.mbox.ring.stale ∧ ers.mbox.ring.takes ent.report.code = true ∧ ers.mbox.ring.noticeDue = false ∧ ers.mbox.ring.held < BitVec.toNat ers.mbox.ring.entries) ∧
    (ersn.log.latestOf ((12288 : U16).toNat) = some ent ∧ ent.seq ∈ ersn.mbox.ring.stale ∧ ersn.mbox.ring.takes ent.report.code = true ∧ ersn.mbox.ring.noticeDue = true ∧ ersn.mbox.ring.held + 1 < BitVec.toNat ersn.mbox.ring.entries) := by
  and_intros <;> decide +kernel

end Mailbox

namespace LogAndLedger

def s0 := {base .view with time := { Reset.time with now := 9000000, module := 8000000, carrier := .tbck }}
def lg (f : LogUnit → LogUnit) (s : State) : State := { s with log := f s.log }
def off71 : State := { s0 with power := s0.power.setDomain 71 false }
def rp : Report := ⟨0x0505,0x3000,8000000,0,5,0⟩
def rp2 : Report := {rp with code := 0x0506}
def rpf : Report := ⟨0x0E10,0x3000,8000000,0,5,0⟩
def ent : LogEntry := ⟨rp,9,1,false,false,false⟩
def ls : State := lg (fun l => {l with slots := [(0x3000, rp)]}) s0
def lf : State := lg (fun l => {l with fatalSlots := [(0x3000, rpf)]}) s0
def l2s : State := lg (fun l => {l with slots := [(0x3000, rp2)]}) s0
def lm : State := lg (fun l => {l with entries := [ent], latest := [(0x3000, 9)], reported := [((0x3000,0x0505),8999999)]}) s0
def v1 : State := (lg (fun l => {l with restoreDue := true, saved := true, save2 := some ⟨[ent],10,1,[]⟩}) s0)
def v2 : State := (lg (fun l => {l with restoreDue := true}) s0)
def tg : RawTrigger := ⟨0,0,0,0,0,0,1,100⟩
def sn : RawSync := ⟨0,1,1,0⟩
def pr : RawProgram := ⟨1, [0x0000000100000002]⟩
def ang (n : Nat) : RawProgram := ⟨BitVec.ofNat 64 n, []⟩
def P (o : Opcode) : State := ask o {base .ready with time := s0.time}
def g44 (n : Byte) : RawRing := ⟨n,0,0,0,1,0,0,0xFF,0,0,0,0,0,18432,9216,1920,1080,[4096,0,0,0,4096,0,0,0,4096]⟩
def P1 : RawProgram := ⟨0x46500101, [0]⟩
def its : List Item := [⟨.rotK 5, 1⟩, ⟨.blkMode 3, 1⟩]
def VW (o : Opcode) : State := ask o {s0 with frame := {s0.frame with index := 4, lastFrame := 10, lastB := some 7000000}}
def E1 : LedgerEntry := ⟨7, 40, 40, [.rotK 5, .blkMode 1], Classes.none, Classes.none, false, false, 5, 0, 0⟩
def Lg (l : List (Option LedgerEntry)) (s : State) : State := { s with ledger := { s.ledger with slots := l ++ List.replicate (16 - l.length) none, gens := List.replicate 16 0, nextSeq := 8 } }
def fullL : State := Lg (List.replicate 16 (some E1)) (VW .rotationSet)
def LC := Lg [none, some E1] (VW .ledgerCancel)
def E2 : LedgerEntry := ⟨7, 40, 40, [.rotK 5], ⟨false,true,false,false⟩, Classes.none, false, false, 5, 0, 0⟩
def LC2 := Lg [none, some E2] (VW .ledgerCancel)
def Rd (o : Opcode) (m : Mode) : State := ask o {base m with time := s0.time}
def dp : Dump := ⟨0x0343, 7, List.replicate 5 3, true, false⟩
def DP (o : Opcode) (pg : List Nat) : State := let s := Rd o .service; {s with dump := {s.dump with held := some dp, pagesRead := pg}}

theorem witness_IntakeFollowsTheFourCases :
    severity ((65535 : U16).toNat) = none ∧
    (severity ((1285 : U16).toNat) = some 2 ∧ off71.logOn = false) ∧
    (severity ((3600 : U16).toNat) = some 3 ∧ s0.logOn = true) ∧
    (severity ((3600 : U16).toNat) = some 3 ∧ lf.logOn = true) ∧
    (severity ((1285 : U16).toNat) = some 2 ∧ ls.logOn = true) ∧
    (severity ((1285 : U16).toNat) = some 2 ∧ l2s.logOn = true) ∧
    (severity ((1285 : U16).toNat) = some 2 ∧ lm.logOn = true) ∧
    (severity ((1285 : U16).toNat) = some 2 ∧ s0.logOn = true) := by
  and_intros <;> decide +kernel

theorem witness_WriterCountersAndRestore :
    (lf.logOn = true ∧ lf.log.entries.length < 4096 ∧ nextSource lf.log.lastServed lf.log.fatalSlots = some (12288, rpf) ∧ severity rpf.code = some 3 ∧ lf.log.fatalHeld < 64) ∧
    (ls.logOn = true ∧ ls.log.entries.length < 4096 ∧ ls.log.fatalSlots = [] ∧ nextSource ls.log.lastServed ls.log.slots = some (12288, rp) ∧ severity rp.code = some 2 ∧ 2 < 3) ∧
    (Waiting .logClearCounters (rq 0) (ask .logClearCounters ls) ∧ (rq 0).len = 0) ∧
    (v1.pdOn 71 = true ∧ v1.log.restoreDue = true) ∧
    (v2.pdOn 71 = true ∧ v2.log.restoreDue = true) := by
  and_intros <;> first
    | decide +kernel
    | exact ⟨by decide +kernel, by decide +kernel, by decide +kernel, by decide +kernel, by decide +kernel, by decide +kernel⟩

theorem witness_PostsChangeSettingsAtOnce :
    (postOf (Instr.windowSet (rq 8) (0 : U16) (18432 : U16) (9216 : U16)) = some (.windowSet, rq 8, [Setting.window (0 : U16) (18432 : U16) (9216 : U16)]) ∧ postFits (Instr.windowSet (rq 8) (0 : U16) (18432 : U16) (9216 : U16)) = true ∧ settingsOk (rq 8) [Setting.window (0 : U16) (18432 : U16) (9216 : U16)] (P .windowSet) = true ∧ Waiting .windowSet (rq 8) (P .windowSet) ∧ (P .windowSet).dump.fatal = none ∧ (P .windowSet).ledgerRuns = false ∧ (P .windowSet).following = false ∧ (P .windowSet).mirrorsNow = false ∧ entryCheck [Setting.window (0 : U16) (18432 : U16) (9216 : U16)] (applySensor [Setting.window (0 : U16) (18432 : U16) (9216 : U16)] (P .windowSet).settings.sensor) (applySensor [Setting.window (0 : U16) (18432 : U16) (9216 : U16)] (P .windowSet).settings.sensor).tMin 0 (P .windowSet) = none) ∧
    (postOf (Instr.exposureProgramSet (rq 16) P1) = some (.exposureProgramSet, rq 16, [Setting.program P1]) ∧ postFits (Instr.exposureProgramSet (rq 16) P1) = true ∧ settingsOk (rq 16) [Setting.program P1] (P .exposureProgramSet) = true ∧ Waiting .exposureProgramSet (rq 16) (P .exposureProgramSet) ∧ (P .exposureProgramSet).dump.fatal = none ∧ (P .exposureProgramSet).ledgerRuns = false ∧ (P .exposureProgramSet).following = false ∧ (P .exposureProgramSet).mirrorsNow = false ∧ entryCheck [Setting.program P1] (applySensor [Setting.program P1] (P .exposureProgramSet).settings.sensor) (applySensor [Setting.program P1] (P .exposureProgramSet).settings.sensor).tMin 0 (P .exposureProgramSet) = none) ∧
    (postOf (Instr.binningSet (rq 4) (2 : Byte)) = some (.binningSet, rq 4, [Setting.binning (2 : Byte)]) ∧ postFits (Instr.binningSet (rq 4) (2 : Byte)) = true ∧ settingsOk (rq 4) [Setting.binning (2 : Byte)] (P .binningSet) = true ∧ Waiting .binningSet (rq 4) (P .binningSet) ∧ (P .binningSet).dump.fatal = none ∧ (P .binningSet).ledgerRuns = false ∧ (P .binningSet).following = false ∧ (P .binningSet).mirrorsNow = false ∧ entryCheck [Setting.binning (2 : Byte)] (applySensor [Setting.binning (2 : Byte)] (P .binningSet).settings.sensor) (applySensor [Setting.binning (2 : Byte)] (P .binningSet).settings.sensor).tMin 0 (P .binningSet) = none) ∧
    (postOf (Instr.rotationSet (rq 4) (5 : Byte)) = some (.rotationSet, rq 4, [Setting.rotK (5 : Byte)]) ∧ postFits (Instr.rotationSet (rq 4) (5 : Byte)) = true ∧ settingsOk (rq 4) [Setting.rotK (5 : Byte)] (P .rotationSet) = true ∧ Waiting .rotationSet (rq 4) (P .rotationSet) ∧ (P .rotationSet).dump.fatal = none ∧ (P .rotationSet).ledgerRuns = false ∧ (P .rotationSet).following = false ∧ (P .rotationSet).mirrorsNow = false ∧ entryCheck [Setting.rotK (5 : Byte)] (applySensor [Setting.rotK (5 : Byte)] (P .rotationSet).settings.sensor) (applySensor [Setting.rotK (5 : Byte)] (P .rotationSet).settings.sensor).tMin 0 (P .rotationSet) = none) ∧
    (postOf (Instr.triggerSet (rq 16) tg) = some (.triggerSet, rq 16, [Setting.trigger tg]) ∧ postFits (Instr.triggerSet (rq 16) tg) = true ∧ settingsOk (rq 16) [Setting.trigger tg] (P .triggerSet) = true ∧ Waiting .triggerSet (rq 16) (P .triggerSet) ∧ (P .triggerSet).dump.fatal = none ∧ (P .triggerSet).ledgerRuns = false ∧ (P .triggerSet).following = false ∧ (P .triggerSet).mirrorsNow = false ∧ entryCheck [Setting.trigger tg] (applySensor [Setting.trigger tg] (P .triggerSet).settings.sensor) (applySensor [Setting.trigger tg] (P .triggerSet).settings.sensor).tMin 0 (P .triggerSet) = none) ∧
    (postOf (Instr.syncSourceSet (rq 8) sn) = some (.syncSourceSet, rq 8, [Setting.sync sn]) ∧ postFits (Instr.syncSourceSet (rq 8) sn) = true ∧ settingsOk (rq 8) [Setting.sync sn] (P .syncSourceSet) = true ∧ Waiting .syncSourceSet (rq 8) (P .syncSourceSet) ∧ (P .syncSourceSet).dump.fatal = none ∧ (P .syncSourceSet).ledgerRuns = false ∧ (P .syncSourceSet).following = false ∧ (P .syncSourceSet).mirrorsNow = false ∧ entryCheck [Setting.sync sn] (applySensor [Setting.sync sn] (P .syncSourceSet).settings.sensor) (applySensor [Setting.sync sn] (P .syncSourceSet).settings.sensor).tMin 0 (P .syncSourceSet) = none) ∧
    (postOf (Instr.tapConfig (rq 44) (g44 (0 : Byte))) = some (.tapConfig, rq 44, [Setting.ring (g44 (0 : Byte))]) ∧ postFits (Instr.tapConfig (rq 44) (g44 (0 : Byte))) = true ∧ settingsOk (rq 44) [Setting.ring (g44 (0 : Byte))] (P .tapConfig) = true ∧ Waiting .tapConfig (rq 44) (P .tapConfig) ∧ (P .tapConfig).dump.fatal = none ∧ (P .tapConfig).ledgerRuns = false ∧ (P .tapConfig).following = false ∧ (P .tapConfig).mirrorsNow = false ∧ entryCheck [Setting.ring (g44 (0 : Byte))] (applySensor [Setting.ring (g44 (0 : Byte))] (P .tapConfig).settings.sensor) (applySensor [Setting.ring (g44 (0 : Byte))] (P .tapConfig).settings.sensor).tMin 0 (P .tapConfig) = none) ∧
    (postOf (Instr.streamConfig (rq 44) (g44 (23 : Byte))) = some (.streamConfig, rq 44, [Setting.ring (g44 (23 : Byte))]) ∧ postFits (Instr.streamConfig (rq 44) (g44 (23 : Byte))) = true ∧ settingsOk (rq 44) [Setting.ring (g44 (23 : Byte))] (P .streamConfig) = true ∧ Waiting .streamConfig (rq 44) (P .streamConfig) ∧ (P .streamConfig).dump.fatal = none ∧ (P .streamConfig).ledgerRuns = false ∧ (P .streamConfig).following = false ∧ (P .streamConfig).mirrorsNow = false ∧ entryCheck [Setting.ring (g44 (23 : Byte))] (applySensor [Setting.ring (g44 (23 : Byte))] (P .streamConfig).settings.sensor) (applySensor [Setting.ring (g44 (23 : Byte))] (P .streamConfig).settings.sensor).tMin 0 (P .streamConfig) = none) ∧
    (postOf (Instr.ledgerPost (rq (4 + itemsLen its)) (2 : U16) its) = some (.ledgerPost, rq (4 + itemsLen its), [Setting.rotK (5 : Byte), Setting.blkMode (3 : Byte)]) ∧ postFits (Instr.ledgerPost (rq (4 + itemsLen its)) (2 : U16) its) = true ∧ settingsOk (rq (4 + itemsLen its)) [Setting.rotK (5 : Byte), Setting.blkMode (3 : Byte)] (P .ledgerPost) = true ∧ Waiting .ledgerPost (rq (4 + itemsLen its)) (P .ledgerPost) ∧ (P .ledgerPost).dump.fatal = none ∧ (P .ledgerPost).ledgerRuns = false ∧ (P .ledgerPost).following = false ∧ (P .ledgerPost).mirrorsNow = false ∧ entryCheck [Setting.rotK (5 : Byte), Setting.blkMode (3 : Byte)] (applySensor [Setting.rotK (5 : Byte), Setting.blkMode (3 : Byte)] (P .ledgerPost).settings.sensor) (applySensor [Setting.rotK (5 : Byte), Setting.blkMode (3 : Byte)] (P .ledgerPost).settings.sensor).tMin 0 (P .ledgerPost) = none) := by
  and_intros <;> first
    | decide +kernel
    | exact ⟨by decide +kernel, by decide +kernel, by decide +kernel, by decide +kernel, by decide +kernel, by decide +kernel⟩

theorem witness_PostsTakeLedgerSlots :
    (postOf (Instr.rotationSet (rq 4) (5 : Byte)) = some (.rotationSet, rq 4, [Setting.rotK (5 : Byte)]) ∧ postFits (Instr.rotationSet (rq 4) (5 : Byte)) = true ∧ settingsOk (rq 4) [Setting.rotK (5 : Byte)] (VW .rotationSet) = true ∧ Waiting .rotationSet (rq 4) (VW .rotationSet) ∧ (VW .rotationSet).dump.fatal = none ∧ (VW .rotationSet).ledgerRuns = true ∧ (VW .rotationSet).following = false ∧ (VW .rotationSet).mirrorsNow = false ∧ entryCheck [Setting.rotK (5 : Byte)] (applySensor [Setting.rotK (5 : Byte)] ((VW .rotationSet).sensorAt (if (rq 4).target = (0 : U64) then (VW .rotationSet).earliest else max (BitVec.toNat (rq 4).target) (VW .rotationSet).earliest))) ((VW .rotationSet).tMinBefore (if (rq 4).target = (0 : U64) then (VW .rotationSet).earliest else max (BitVec.toNat (rq 4).target) (VW .rotationSet).earliest)) (if (rq 4).target = (0 : U64) then (VW .rotationSet).earliest else max (BitVec.toNat (rq 4).target) (VW .rotationSet).earliest) (VW .rotationSet) = none ∧ (VW .rotationSet).ledger.freeSlot = some 0 ∧ ((rq 4).target = (0 : U64) ∨ (VW .rotationSet).earliest ≤ BitVec.toNat (rq 4).target)) ∧
    (postOf (Instr.rotationSet (rq 4 (14 : U64)) (5 : Byte)) = some (.rotationSet, rq 4 (14 : U64), [Setting.rotK (5 : Byte)]) ∧ postFits (Instr.rotationSet (rq 4 (14 : U64)) (5 : Byte)) = true ∧ settingsOk (rq 4 (14 : U64)) [Setting.rotK (5 : Byte)] (VW .rotationSet) = true ∧ Waiting .rotationSet (rq 4 (14 : U64)) (VW .rotationSet) ∧ (VW .rotationSet).dump.fatal = none ∧ (VW .rotationSet).ledgerRuns = true ∧ (VW .rotationSet).following = false ∧ (VW .rotationSet).mirrorsNow = false ∧ entryCheck [Setting.rotK (5 : Byte)] (applySensor [Setting.rotK (5 : Byte)] ((VW .rotationSet).sensorAt (if (rq 4 (14 : U64)).target = (0 : U64) then (VW .rotationSet).earliest else max (BitVec.toNat (rq 4 (14 : U64)).target) (VW .rotationSet).earliest))) ((VW .rotationSet).tMinBefore (if (rq 4 (14 : U64)).target = (0 : U64) then (VW .rotationSet).earliest else max (BitVec.toNat (rq 4 (14 : U64)).target) (VW .rotationSet).earliest)) (if (rq 4 (14 : U64)).target = (0 : U64) then (VW .rotationSet).earliest else max (BitVec.toNat (rq 4 (14 : U64)).target) (VW .rotationSet).earliest) (VW .rotationSet) = none ∧ (VW .rotationSet).ledger.freeSlot = some 0 ∧ ((rq 4 (14 : U64)).target = (0 : U64) ∨ (VW .rotationSet).earliest ≤ BitVec.toNat (rq 4 (14 : U64)).target)) ∧
    (postOf (Instr.rotationSet (rq 4 (13 : U64)) (5 : Byte)) = some (.rotationSet, rq 4 (13 : U64), [Setting.rotK (5 : Byte)]) ∧ postFits (Instr.rotationSet (rq 4 (13 : U64)) (5 : Byte)) = true ∧ settingsOk (rq 4 (13 : U64)) [Setting.rotK (5 : Byte)] (VW .rotationSet) = true ∧ Waiting .rotationSet (rq 4 (13 : U64)) (VW .rotationSet) ∧ (VW .rotationSet).dump.fatal = none ∧ (VW .rotationSet).ledgerRuns = true ∧ (VW .rotationSet).following = false ∧ (VW .rotationSet).mirrorsNow = false ∧ entryCheck [Setting.rotK (5 : Byte)] (applySensor [Setting.rotK (5 : Byte)] ((VW .rotationSet).sensorAt (if (rq 4 (13 : U64)).target = (0 : U64) then (VW .rotationSet).earliest else max (BitVec.toNat (rq 4 (13 : U64)).target) (VW .rotationSet).earliest))) ((VW .rotationSet).tMinBefore (if (rq 4 (13 : U64)).target = (0 : U64) then (VW .rotationSet).earliest else max (BitVec.toNat (rq 4 (13 : U64)).target) (VW .rotationSet).earliest)) (if (rq 4 (13 : U64)).target = (0 : U64) then (VW .rotationSet).earliest else max (BitVec.toNat (rq 4 (13 : U64)).target) (VW .rotationSet).earliest) (VW .rotationSet) = none ∧ (VW .rotationSet).ledger.freeSlot = some 0 ∧ (rq 4 (13 : U64)).target ≠ (0 : U64) ∧ BitVec.toNat (rq 4 (13 : U64)).target < (VW .rotationSet).earliest) ∧
    (postOf (Instr.rotationSet (rq 4 (13 : U64)) (5 : Byte)) = some (.rotationSet, rq 4 (13 : U64), [Setting.rotK (5 : Byte)]) ∧ postFits (Instr.rotationSet (rq 4 (13 : U64)) (5 : Byte)) = true ∧ settingsOk (rq 4 (13 : U64)) [Setting.rotK (5 : Byte)] fullL = true ∧ Waiting .rotationSet (rq 4 (13 : U64)) fullL ∧ fullL.dump.fatal = none ∧ fullL.ledgerRuns = true ∧ fullL.following = false ∧ fullL.mirrorsNow = false ∧ entryCheck [Setting.rotK (5 : Byte)] (applySensor [Setting.rotK (5 : Byte)] (fullL.sensorAt (if (rq 4 (13 : U64)).target = (0 : U64) then fullL.earliest else max (BitVec.toNat (rq 4 (13 : U64)).target) fullL.earliest))) (fullL.tMinBefore (if (rq 4 (13 : U64)).target = (0 : U64) then fullL.earliest else max (BitVec.toNat (rq 4 (13 : U64)).target) fullL.earliest)) (if (rq 4 (13 : U64)).target = (0 : U64) then fullL.earliest else max (BitVec.toNat (rq 4 (13 : U64)).target) fullL.earliest) fullL = none ∧ fullL.ledger.freeSlot = none) := by
  and_intros <;> first
    | decide +kernel
    | exact ⟨by decide +kernel, by decide +kernel, by decide +kernel, by decide +kernel, by decide +kernel, by decide +kernel⟩

/-- A leader that mirrors over a link of a version, with LC's ledger. -/
def ML (v : Nat) : State := { LC with tandem := { LC.tandem with up := true, join := .joined, roleSet := 2, version := v } }

theorem witness_CancelRemovesUnlatchedClasses :
    (Waiting .ledgerCancel (rq 8) (ML 0x10) ∧ (ML 0x10).mirrorsNow = true ∧ (ML 0x10).tandem.version = 0x10) ∧
    ((ML 0x11).mirrorsNow = true ∧ (ML 0x11).tandem.version ≠ 0x10) ∧
    (Waiting .ledgerCancel (rq 8) LC ∧ (rq 8).len = 8 ∧ LC.mirrorsNow = false ∧ List.find? (fun p => decide (p.2.seq = (7 : U32).toNat) && !p.2.mirrored) LC.ledger.waiting = some (1, E1) ∧ E1.removable ≠ Classes.none) ∧
    (Waiting .ledgerCancel (rq 8) LC2 ∧ (rq 8).len = 8 ∧ LC2.mirrorsNow = false ∧ List.find? (fun p => decide (p.2.seq = (7 : U32).toNat) && !p.2.mirrored) LC2.ledger.waiting = some (1, E2) ∧ E2.removable = Classes.none) ∧
    (Waiting .ledgerCancel (rq 8) LC2 ∧ (rq 8).len = 8 ∧ LC2.mirrorsNow = false ∧ List.find? (fun p => decide (p.2.seq = (6 : U32).toNat) && !p.2.mirrored) LC2.ledger.waiting = none) := by
  and_intros <;> first
    | decide +kernel
    | exact ⟨by decide +kernel, by decide +kernel, by decide +kernel, by decide +kernel, by decide +kernel, by decide +kernel⟩

theorem witness_ScansAndDumpsAnswer :
    (Waiting .holdoverScan (rq 4) (Rd .holdoverScan Mode.ready) ∧ (rq 4).len = 4 ∧ (1 : Byte).toNat ≤ 1 ∧ ((Rd .holdoverScan Mode.ready).mode.mode = Mode.ready ∨ (Rd .holdoverScan Mode.ready).mode.mode = Mode.service)) ∧
    (Waiting .dumpRead (rq 8) (Rd .dumpRead Mode.ready) ∧ (rq 8).len = 8 ∧ (0 : U32).toNat % 4096 = 0 ∧ (Rd .dumpRead Mode.ready).dump.held = none) ∧
    (Waiting .dumpRead (rq 8) (DP .dumpRead []) ∧ (rq 8).len = 8 ∧ (4096 : U32).toNat % 4096 = 0 ∧ (DP .dumpRead []).dump.held = some dp ∧ dp.bytes.length ≤ (4096 : U32).toNat) ∧
    (Waiting .dumpRead (rq 8) (DP .dumpRead []) ∧ (rq 8).len = 8 ∧ (0 : U32).toNat % 4096 = 0 ∧ (DP .dumpRead []).dump.held = some dp ∧ (0 : U32).toNat < dp.bytes.length) ∧
    (Waiting .dumpClear (rq 4) (DP .dumpClear []) ∧ (rq 4).len = 4 ∧ (0 : Byte).toNat ≤ 1 ∧ (DP .dumpClear []).mode.mode = Mode.service ∧ (DP .dumpClear []).dump.held.isSome = true ∧ (DP .dumpClear []).dump.allRead = false) ∧
    (Waiting .dumpClear (rq 4) (DP .dumpClear []) ∧ (rq 4).len = 4 ∧ (1 : Byte).toNat ≤ 1 ∧ (DP .dumpClear []).mode.mode = Mode.service ∧ (DP .dumpClear []).dump.held.isSome = true ∧ ((DP .dumpClear []).dump.allRead = true ∨ (1 : Byte) = (1 : Byte))) ∧
    (Waiting .dumpClear (rq 4) (DP .dumpClear [0]) ∧ (rq 4).len = 4 ∧ (0 : Byte).toNat ≤ 1 ∧ (DP .dumpClear [0]).mode.mode = Mode.service ∧ (DP .dumpClear [0]).dump.held.isSome = true ∧ ((DP .dumpClear [0]).dump.allRead = true ∨ (0 : Byte) = (1 : Byte))) := by
  and_intros <;> first
    | decide +kernel
    | exact ⟨by decide +kernel, by decide +kernel, by decide +kernel, by decide +kernel, by decide +kernel, by decide +kernel⟩

end LogAndLedger

namespace SettersAndBuses

def s0 := {base .view with time := { Reset.time with now := 9000000, module := 8000000, carrier := .tbck }}
def Q (o : Opcode) : State := ask o s0
def QA : State := {Q .prerollSet with take := {s0.take with a := {Reset.session with state := .opened, primary := true, version := 0x20, wantsSeal := true}}, res := {s0.res with present := true}}
def al : List (U64 × U64) := List.replicate 16 (0x1000, 0x2000)
def sqs : List (Byte × Byte × Byte) := [(0,0,0),(1,0xE,1)]
def QF : State := let s := Q .abusXfer; {s with bus := s.bus.set .abus0 {s.bus.abus0 with faulted := true}}
def xr : Xfer := ⟨⟨.ch0,7,.abusXfer,0⟩, 0x20, true, [1,2], 3⟩
def xs (b : BusId) (f : Xfer) : State := let s := Q .abusXfer; {s with bus := s.bus.set b {s.bus.get b with xfer := some f, ctlBusy := true}}
def xa := xs .abus0 xr
def xr0 : Xfer := {xr with usePec := false}
def xb := xs .abus0 xr0
def xt : State := {xb with bus := {xb.bus with abus0 := {xb.bus.abus0 with ctrl := 2}}}
def v1 : State := {s0 with bus := {s0.bus with hbus := {s0.bus.hbus with faulted := true}}}
def ta (p c : U32) : State := {s0 with bus := {s0.bus with abus0 := {s0.bus.abus0 with ctrl := 2 ||| 4, tgtAddr := 0x30, tgtMode := 0x11, inProduced := p, inConsumed := c}}}
def pc : Byte := BitVec.ofNat 8 (pec (0x60 :: 0x40 :: 2 :: [5,6]))
def D0 : State := {base .dormant with time := s0.time}
def DI : State := {D0 with bus := {D0.bus with hbus := {D0.bus.hbus with engineIdle := true}}}
def N (k : Nat) : State := {s0 with bus := {s0.bus with noticeTries := k, hbus := {s0.bus.hbus with ctrl := 0x403, notifyCtrl := 1}}}
def LP : State := {s0 with bus := {s0.bus with abus0 := {s0.bus.abus0 with lensCtrl := 1, lensOk := true}}}
def DO : State := {D0 with bus := {D0.bus with dormantPower := true}}

theorem witness_SettersTakeEffect :
    (Waiting .thermalSet (rq 4) (Q .thermalSet) ∧ (rq 4).len = 4) ∧
    (Waiting .powerPolicySet (rq 4) (Q .powerPolicySet) ∧ (rq 4).len = 4 ∧ (3 : Byte).toNat < 4) ∧
    (Waiting .reservoirInfo (rq 8) (Q .reservoirInfo) ∧ (rq 8).len = 8) ∧
    (Waiting .prerollSet (rq 8) (Q .prerollSet) ∧ (rq 8).len = 8 ∧ (30000 : U32).toNat ≤ 30000 ∧ ((Q .prerollSet).mode.mode = Mode.ready ∨ (Q .prerollSet).mode.mode = Mode.view) ∧ ((30000 : U32) = (0 : U32) ∨ (Q .prerollSet).armed = false)) ∧
    (Waiting .prerollSet (rq 8) QA ∧ (rq 8).len = 8 ∧ (1 : U32).toNat ≤ 30000 ∧ (QA.mode.mode = Mode.ready ∨ QA.mode.mode = Mode.view) ∧ (1 : U32) ≠ (0 : U32) ∧ QA.armed = true) ∧
    (Waiting .weltAllowlistSet (rq 260) (Q .weltAllowlistSet) ∧ (rq 260).len = 4 + 16 * al.length ∧ (16 : U16).toNat ≤ 16 ∧ al.length = (16 : U16).toNat ∧ (∀ p ∈ al, BitVec.toNat p.1 % 4096 = 0 ∧ BitVec.toNat p.2 % 4096 = 0) ∧ (Q .weltAllowlistSet).take.a.state = SessState.closed ∧ (Q .weltAllowlistSet).take.b.state = SessState.closed) ∧
    (Waiting .abusTargetSet (rq 12) (Q .abusTargetSet) ∧ (rq 12).len = 12 ∧ [(16 : Byte), (17 : Byte), (18 : Byte), (119 : Byte)].length = 4 ∧ (1 : Byte).toNat ≤ 2 ∧ (4 : Byte).toNat ≤ 4 ∧ (0 : Byte).toNat < 128 ∧ (∀ a ∈ [(16 : Byte), (17 : Byte), (18 : Byte), (119 : Byte)], BitVec.toNat a < 128) ∧ tgtReserved (tgtRegs ((1 : Byte).toNat) ((4 : Byte).toNat) [(16 : Byte), (17 : Byte), (18 : Byte), (119 : Byte)] ((0 : Byte).toNat) ((0 : Byte).toNat)).1 (tgtRegs ((1 : Byte).toNat) ((4 : Byte).toNat) [(16 : Byte), (17 : Byte), (18 : Byte), (119 : Byte)] ((0 : Byte).toNat) ((0 : Byte).toNat)).2 = false) ∧
    (Waiting .abusTargetSet (rq 12) (Q .abusTargetSet) ∧ (rq 12).len = 12 ∧ [(16 : Byte), (17 : Byte), (18 : Byte), (120 : Byte)].length = 4 ∧ (1 : Byte).toNat ≤ 2 ∧ (4 : Byte).toNat ≤ 4 ∧ (0 : Byte).toNat < 128 ∧ (∀ a ∈ [(16 : Byte), (17 : Byte), (18 : Byte), (120 : Byte)], BitVec.toNat a < 128) ∧ tgtReserved (tgtRegs ((1 : Byte).toNat) ((4 : Byte).toNat) [(16 : Byte), (17 : Byte), (18 : Byte), (120 : Byte)] ((0 : Byte).toNat) ((0 : Byte).toNat)).1 (tgtRegs ((1 : Byte).toNat) ((4 : Byte).toNat) [(16 : Byte), (17 : Byte), (18 : Byte), (120 : Byte)] ((0 : Byte).toNat) ((0 : Byte).toNat)).2 = true) ∧
    (Waiting .auxSequenceSet (rq 12) (Q .auxSequenceSet) ∧ (rq 12).len = 4 + 4 * (2 : Byte).toNat ∧ sqs.length = (2 : Byte).toNat ∧ 1 ≤ (2 : Byte).toNat ∧ (2 : Byte).toNat ≤ 32 ∧ (∀ e ∈ sqs, BitVec.toNat e.1 ≤ 1 ∧ BitVec.toNat e.2.1 ≤ 14 ∧ BitVec.toNat e.2.2 ≤ 1)) ∧
    (Waiting .compositorSet (rq 4) (Q .compositorSet) ∧ (rq 4).len = 4 ∧ (5 : Byte).toNat ≤ 5 ∧ (1 : Byte).toNat ≤ 1 ∧ ((5 : Byte) = (0 : Byte) ∨ (Q .compositorSet).cap 2 = true)) ∧
    (Waiting .compositorSet (rq 4) (caps (251 : U32) (Q .compositorSet)) ∧ (rq 4).len = 4 ∧ (5 : Byte).toNat ≤ 5 ∧ (1 : Byte).toNat ≤ 1 ∧ (5 : Byte) ≠ (0 : Byte) ∧ (caps (251 : U32) (Q .compositorSet)).cap 2 = false) := by
  and_intros <;> first
    | exact all_of _ (by decide +kernel)
    | decide +kernel
    | exact ⟨by decide +kernel, by decide +kernel, by decide +kernel, by decide +kernel, by decide +kernel, by decide +kernel⟩

theorem witness_TransfersConclude :
    (Waiting .abusXfer (rq 4096) (Q .abusXfer) ∧ (rq 4096).len = 8 + (4088 : U16).toNat ∧ (List.replicate 4088 (1 : Byte)).length = (4088 : U16).toNat ∧ (1 : Byte).toNat ≤ 1 ∧ (127 : Byte).toNat < 128 ∧ (1 : Byte).toNat < 2 ∧ (4088 : U16).toNat ≤ 4088 ∧ (Q .abusXfer).pdOn 77 = true ∧ ((Q .abusXfer).bus.get (abusOf ((1 : Byte).toNat))).faulted = false) ∧
    (Waiting .abusXfer (rq 9) QF ∧ (rq 9).len = 8 + (1 : U16).toNat ∧ [(1 : Byte)].length = (1 : U16).toNat ∧ (0 : Byte).toNat ≤ 1 ∧ (0 : Byte).toNat < 128 ∧ (0 : Byte).toNat < 2 ∧ (1 : U16).toNat ≤ 4088 ∧ (0 : U16).toNat ≤ 4088 ∧ QF.pdOn 77 = true ∧ (QF.bus.get (abusOf ((0 : Byte).toNat))).faulted = true) ∧
    (xa.bus.get BusId.abus0 = xa.bus.get BusId.abus0 ∧ (xa.bus.get BusId.abus0).xfer = some xr ∧ Alive xr.req xa ∧ busOn BusId.abus0 xa = true ∧ (xa.bus.get BusId.abus0).ctlBusy = true ∧ xr.usePec = true ∧ 0 < xr.readLen ∧ none ≠ some (BitVec.ofNat 8 (pec (xr.pecBytes (padTo xr.readLen [(1 : Byte), (2 : Byte), (3 : Byte)]))))) ∧
    (xb.bus.get BusId.abus0 = xb.bus.get BusId.abus0 ∧ (xb.bus.get BusId.abus0).xfer = some xr0 ∧ Alive xr0.req xb ∧ busOn BusId.abus0 xb = true ∧ (xb.bus.get BusId.abus0).ctlBusy = true ∧ (xr0.usePec = false ∨ xr0.readLen = 0)) ∧
    (xb.bus.get BusId.abus0 = xb.bus.get BusId.abus0 ∧ (xb.bus.get BusId.abus0).xfer = some xr0 ∧ Alive xr0.req xb ∧ busOn BusId.abus0 xb = true ∧ (xb.bus.get BusId.abus0).ctlBusy = true) ∧
    (targetActive BusId.abus0 xt = true ∧ (xt.bus.get BusId.abus0).xfer = some xr0 ∧ Alive xr0.req xt ∧ busOn BusId.abus0 xt = true ∧ (xt.bus.get BusId.abus0).ctlBusy = true) ∧
    busOn BusId.hbus s0 = true ∧
    (busOn BusId.hbus v1 = true ∧ (v1.bus.get BusId.hbus).faulted = true) ∧
    (busOn BusId.hbus s0 = true ∧ Reachable s0 ∧ (s0.bus.get BusId.hbus).ctlBusy = false ∧ ((s0.bus.get BusId.hbus).ctlEn = true ∨ BitVec.getLsbD (4294967295 : U32) 0 = false)) ∧
    (busOn BusId.abus0 s0 = true ∧ Reachable s0 ∧ (s0.bus.get BusId.abus0).ctlBusy = false ∧ (s0.bus.get BusId.abus0).ctlEn = false ∧ BitVec.getLsbD (1 : U32) 0 = true) := by
  and_intros <;> first
    | decide +kernel
    | exact ⟨by decide +kernel, by decide +kernel, by decide +kernel, by decide +kernel, by decide +kernel, by decide +kernel⟩

theorem witness_TargetsAnswerCommands :
    (targetAnswers BusId.hbus ((90 : Byte).toNat) s0 = true ∧ (254 : Byte).toNat ∉ targetCodes BusId.hbus) ∧
    (targetAnswers BusId.hbus ((90 : Byte).toNat) s0 = true ∧ (1 : Byte).toNat ∈ targetCodes BusId.hbus ∧ (targetData BusId.hbus 1 s0).isSome = true ∧ targetData BusId.hbus ((1 : Byte).toNat) s0 = some ((targetData BusId.hbus 1 s0).get (by decide +kernel))) ∧
    (targetAnswers BusId.abus0 ((48 : Byte).toNat) (ta (8 : U32) (4294967288 : U32)) = true ∧ 16 ≤ BitVec.toNat ((ta (8 : U32) (4294967288 : U32)).bus.abus0.inProduced - (ta (8 : U32) (4294967288 : U32)).bus.abus0.inConsumed)) ∧
    (targetAnswers BusId.abus0 ((48 : Byte).toNat) (ta (7 : U32) (4294967288 : U32)) = true ∧ BitVec.toNat ((ta (7 : U32) (4294967288 : U32)).bus.abus0.inProduced - (ta (7 : U32) (4294967288 : U32)).bus.abus0.inConsumed) < 16 ∧ 1 ≤ (2 : Byte).toNat ∧ (2 : Byte).toNat ≤ 32 ∧ [(5 : Byte), (6 : Byte)].length = (2 : Byte).toNat ∧ ((ta (7 : U32) (4294967288 : U32)).bus.abus0.pecEn = true → some pc = some (BitVec.ofNat 8 (pec [BitVec.ofNat 8 (2 * (48 : Byte).toNat), (64 : Byte), (2 : Byte), (5 : Byte), (6 : Byte)])))) ∧
    (targetAnswers BusId.abus0 ((48 : Byte).toNat) (ta (7 : U32) (4294967288 : U32)) = true ∧ BitVec.toNat ((ta (7 : U32) (4294967288 : U32)).bus.abus0.inProduced - (ta (7 : U32) (4294967288 : U32)).bus.abus0.inConsumed) < 16 ∧ 1 ≤ (2 : Byte).toNat ∧ (2 : Byte).toNat ≤ 32 ∧ [(5 : Byte), 6].length = (2 : Byte).toNat ∧ (ta (7 : U32) (4294967288 : U32)).bus.abus0.pecEn = true ∧ (some (pc + 1) : Option Byte) ≠ none ∧ some (pc + 1) ≠ some (BitVec.ofNat 8 (pec (BitVec.ofNat 8 (2 * (48 : Byte).toNat) :: 0x40 :: (2 : Byte) :: [(5 : Byte), 6])))) ∧
    (Reachable (ta (5 : U32) (1 : U32)) ∧ busOn BusId.abus0 (ta (5 : U32) (1 : U32)) = true ∧ BitVec.toNat ((5 : U32) - (ta (5 : U32) (1 : U32)).bus.abus0.inConsumed) ≤ BitVec.toNat ((ta (5 : U32) (1 : U32)).bus.abus0.inProduced - (ta (5 : U32) (1 : U32)).bus.abus0.inConsumed)) ∧
    (Reachable (ta (5 : U32) (1 : U32)) ∧ busOn BusId.abus0 (ta (5 : U32) (1 : U32)) = true ∧ BitVec.toNat ((ta (5 : U32) (1 : U32)).bus.abus0.inProduced - (ta (5 : U32) (1 : U32)).bus.abus0.inConsumed) < BitVec.toNat ((6 : U32) - (ta (5 : U32) (1 : U32)).bus.abus0.inConsumed)) := by
  and_intros <;> decide +kernel

theorem witness_BusesServeTheModule :
    D0.mode.mode = Mode.dormant ∧
    (DI.bus.hbus.engineIdle = true ∧ DI.power.aoOn = true ∧ DI.bus.hbus.tgtEn = true ∧ tgtMatch DI.bus.hbus.tgtAddr DI.bus.hbus.tgtMode ((90 : Byte).toNat) = true) ∧
    (N 0).noticeDue = true ∧
    ((N 1).noticeDue = true ∧ (N 1).bus.noticeTries < 2) ∧
    ((N 2).noticeDue = true ∧ 2 ≤ (N 2).bus.noticeTries) ∧
    (BitVec.getLsbD LP.bus.abus0.lensCtrl 0 = true ∧ LP.mode.mode ≠ Mode.dormant ∧ LP.pdOn 77 = true ∧ LP.bus.abus0.faulted = false ∧ LP.bus.abus0.xfer = none) ∧
    (DO.mode.mode = Mode.dormant ∧ DO.bus.dormantPower = true ∧ DO.bus.abus0.xfer = none ∧ DO.bus.abus1.xfer = none) := by
  and_intros <;> decide +kernel

end SettersAndBuses

namespace Auxiliary

def s0 := base .ready
def ax (f : AuxUnit → AuxUnit) (s : State) : State := { s with aux := f s.aux }
def res0 : AuxResult := ⟨0,0,false,false⟩
def e0 : AuxEntry := ⟨0,0,false⟩
def e1 : AuxEntry := ⟨1,3,true⟩
def l2 := ax (fun a => {a with list := [e0,e1], results := [res0,res0]}) s0
def v1 : State := (ax (fun a => {a with nextList := some [e1]}) l2)
def v2 : State := (ax (fun a => {a with produced := 5, consumed := 1}) l2)
def v3 : State := (ax (fun a => {a with produced := 5, consumed := 1}) l2)
def sc := ask .auxSyscal (ax (fun a => {a with list := [e0,e1], results := [res0,res0]}) s0)
def sc1 := ask .auxSyscal (ax (fun a => {a with list := [⟨0,1,false⟩,⟨0,2,false⟩], results := [res0,res0]}) s0)
def sc2 := ax (fun a => {a with in1 := {a.in1 with zeroSum := some 100, fullSum := some (20000, 4000)}}) sc1
def sc3 := ax (fun a => {a with in1 := {a.in1 with zeroSum := some 100, fullSum := some (2000, 4000)}}) sc1
def idd : ReqId := ⟨.ch0, 7, .auxSyscal, 0⟩
def fl (s : State) : State := { s with mbox := { s.mbox with claims := [(.auxin 0, idd)], c0 := {s.mbox.c0 with flights := [⟨7, some .auxSyscal, 0, false, none⟩]} } }
def cp (p : Nat) (bad : Bool) (l : List Int) : Capture := ⟨idd, p, 4000, 0, 1, l, bad⟩
def cs1 (c : Capture) := ax (fun a => {a with in0 := {a.in0 with capture := some c}}) (fl sc1)

theorem witness_AuxPassesStoreResults :
    (v1.pdOn 72 = true ∧ v1.aux.nextList = some [e1] ∧ v1.aux.in0.capture = none ∧ v1.aux.in1.capture = none) ∧
    (v2.pdOn 72 = true ∧ Reachable v2 ∧ BitVec.toNat ((3 : U32) - v2.aux.consumed) ≤ BitVec.toNat (v2.aux.produced - v2.aux.consumed)) ∧
    (v3.pdOn 72 = true ∧ Reachable v3 ∧ BitVec.toNat (v3.aux.produced - v3.aux.consumed) < BitVec.toNat ((6 : U32) - v3.aux.consumed)) := by
  and_intros <;> decide +kernel

theorem witness_SystemCalibrationCapturesAndInstalls :
    (Waiting .auxSyscal (rq 8) sc1 ∧ (1 : Byte).toNat ≤ 1 ∧ entryFor sc1.aux.list ((1 : Byte).toNat) = some 1 ∧ sc1.pdOn 72 = true ∧ (0 : Byte).toNat ≤ 1 ∧ ((0 : Byte).toNat = 1 ↔ BitVec.toInt (0 : U32) ≠ (0 : Int))) ∧
    (Waiting .auxSyscal (rq 8) sc1 ∧ (1 : Byte).toNat ≤ 1 ∧ entryFor sc1.aux.list ((1 : Byte).toNat) = some 1 ∧ sc1.pdOn 72 = true ∧ ((1 : Byte).toNat = 1 ↔ BitVec.toInt (4000 : U32) ≠ (0 : Int))) ∧
    (Waiting .auxSyscal (rq 8) sc2 ∧ (1 : Byte).toNat ≤ 1 ∧ entryFor sc2.aux.list ((1 : Byte).toNat) = some 1 ∧ sc2.pdOn 72 = true ∧ (2 : Byte).toNat = 2 ∧ BitVec.toInt (0 : U32) = (0 : Int) ∧ (sc2.aux.input ((1 : Byte).toNat)).zeroSum = some (100 : Int) ∧ (sc2.aux.input ((1 : Byte).toNat)).fullSum = some ((20000 : Int), (4000 : Int)) ∧ (sysCal (100 : Int) (20000 : Int) (4000 : Int)).isSome = true ∧ sysCal (100 : Int) (20000 : Int) (4000 : Int) = some ((sysCal (100 : Int) (20000 : Int) (4000 : Int)).get (by decide +kernel))) ∧
    (Waiting .auxSyscal (rq 8) sc3 ∧ (1 : Byte).toNat ≤ 1 ∧ entryFor sc3.aux.list ((1 : Byte).toNat) = some 1 ∧ sc3.pdOn 72 = true ∧ (2 : Byte).toNat = 2 ∧ BitVec.toInt (0 : U32) = (0 : Int) ∧ (sc3.aux.input ((1 : Byte).toNat)).zeroSum = some (100 : Int) ∧ (sc3.aux.input ((1 : Byte).toNat)).fullSum = some ((2000 : Int), (4000 : Int)) ∧ sysCal (100 : Int) (2000 : Int) (4000 : Int) = none) ∧
    (Waiting .auxSyscal (rq 8) sc ∧ (1 : Byte).toNat ≤ 1 ∧ entryFor sc.aux.list ((1 : Byte).toNat) = none ∧ (2 : Byte).toNat ≤ 2) := by
  and_intros <;> first
    | decide +kernel
    | exact ⟨by decide +kernel, by decide +kernel, by decide +kernel, by decide +kernel, by decide +kernel, by decide +kernel⟩

theorem witness_CapturesEndWithTheirMean :
    (((cs1 (cp 0 false (List.replicate 256 (5 : Int)))).aux.input ↑(0 : Fin 2)).capture = some (cp 0 false (List.replicate 256 (5 : Int))) ∧ Alive (cp 0 false (List.replicate 256 (5 : Int))).req (cs1 (cp 0 false (List.replicate 256 (5 : Int)))) ∧ 256 ≤ (cp 0 false (List.replicate 256 (5 : Int))).codes.length ∧ (cs1 (cp 0 false (List.replicate 256 (5 : Int)))).mode.mode ≠ Mode.dormant ∧ (cp 0 false (List.replicate 256 (5 : Int))).bad = false ∧ spread (cp 0 false (List.replicate 256 (5 : Int))).codes ≤ (64 : Int)) ∧
    (((cs1 (cp 1 false (List.replicate 256 (5 : Int)))).aux.input ↑(0 : Fin 2)).capture = some (cp 1 false (List.replicate 256 (5 : Int))) ∧ Alive (cp 1 false (List.replicate 256 (5 : Int))).req (cs1 (cp 1 false (List.replicate 256 (5 : Int)))) ∧ 256 ≤ (cp 1 false (List.replicate 256 (5 : Int))).codes.length ∧ (cs1 (cp 1 false (List.replicate 256 (5 : Int)))).mode.mode ≠ Mode.dormant ∧ (cp 1 false (List.replicate 256 (5 : Int))).bad = false ∧ spread (cp 1 false (List.replicate 256 (5 : Int))).codes ≤ (64 : Int)) ∧
    (((cs1 (cp 1 false (List.replicate 255 (5 : Int) ++ [(70 : Int)]))).aux.input ↑(0 : Fin 2)).capture = some (cp 1 false (List.replicate 255 (5 : Int) ++ [(70 : Int)])) ∧ Alive (cp 1 false (List.replicate 255 (5 : Int) ++ [(70 : Int)])).req (cs1 (cp 1 false (List.replicate 255 (5 : Int) ++ [(70 : Int)]))) ∧ 256 ≤ (cp 1 false (List.replicate 255 (5 : Int) ++ [(70 : Int)])).codes.length ∧ (cs1 (cp 1 false (List.replicate 255 (5 : Int) ++ [(70 : Int)]))).mode.mode ≠ Mode.dormant ∧ ((cp 1 false (List.replicate 255 (5 : Int) ++ [(70 : Int)])).bad = true ∨ (64 : Int) < spread (cp 1 false (List.replicate 255 (5 : Int) ++ [(70 : Int)])).codes)) ∧
    (((cs1 (cp 1 true (List.replicate 256 (5 : Int)))).aux.input ↑(0 : Fin 2)).capture = some (cp 1 true (List.replicate 256 (5 : Int))) ∧ Alive (cp 1 true (List.replicate 256 (5 : Int))).req (cs1 (cp 1 true (List.replicate 256 (5 : Int)))) ∧ 256 ≤ (cp 1 true (List.replicate 256 (5 : Int))).codes.length ∧ (cs1 (cp 1 true (List.replicate 256 (5 : Int)))).mode.mode ≠ Mode.dormant ∧ ((cp 1 true (List.replicate 256 (5 : Int))).bad = true ∨ (64 : Int) < spread (cp 1 true (List.replicate 256 (5 : Int))).codes)) := by
  and_intros <;> decide +kernel

end Auxiliary

namespace ModeChanges

def bf : BurstFields := ⟨0,0,0,List.replicate 40 0⟩
def mf (m : Byte) : ModeFields := ⟨m,0,0,bf⟩
def R := ask .modeRequest (base .ready)
def V := ask .modeRequest (base .view)
def tk (s : State) : State := { ask .takeStart s with res := {s.res with present := true, capacity := 2^40, bSus := 10^12}, take := {s.take with a := {Reset.session with state := .opened, primary := true, version := 0x12}} }
def kekv : List Byte := beBytes 32 0x000102030405060708090A0B0C0D0E0F101112131415161718191A1B1C1D1E1F
def wr : List Byte := beBytes 40 0x28C9F404C4B810F4CBCCB35CFB87F8263F5786E2D80ED326CBC7F0E71A99F43BFB988B9B7A02DD21
def T := tk (base .view)
def TS : State := {T with take := {T.take with a := {T.take.a with wantsSeal := true}}, trust := {T.trust with kek := some kekv}}
def bu : Burst := ⟨false, 5, 0, 1, 0, 0, none, false⟩
def BS : State := let s := ask .takeStop (base .burst); {s with mode := {s.mode with burst := some bu}}
def RI : State := {base .ready with power := {onAll with idleToDormant := true, idleS := 3}}
def q (st : SeqStage) : SeqChange := ⟨.ready, none, 40, st, sur⟩
def D (st : SeqStage) : State := let s := base .dormant; {s with mode := {s.mode with seq := some (q st)}, thermal := {s.thermal with stack := 320, working := 32000}}

def busyIn (s : State) : State := { s with mode := { s.mode with change := some ⟨.view, .plain, 5, 1, false, none⟩ } }

theorem witness_ModeChangesBegin_busy :
    ((busyIn R).modeBusy = true ∧ Waiting .modeRequest (rq 8) (busyIn R) ∧ (busyIn R).dump.fatalPending = false ∧ (mf (2 : Byte)).nextMode = (0 : Byte) ∧ (mf (2 : Byte)).burstCount = (0 : U32) ∧ (rq 8).target = (0 : U64) ∧ (mf (2 : Byte)).mode = (2 : Byte) ∧ (busyIn R).mode.mode = Mode.ready) ∧
    ((busyIn T).modeBusy = true ∧ Waiting .takeStart (rq 56) (busyIn T) ∧ (rq 56).len = 56 ∧ (List.replicate 40 (0 : Byte)).length = 40 ∧ (9 : U64) ≠ (0 : U64) ∧ (busyIn T).major (rq 56) ≠ 2 ∧ (busyIn T).mode.mode = Mode.view) ∧
    ((busyIn BS).modeBusy = true ∧ Waiting .takeStop (rq 0 (5 : U64)) (busyIn BS) ∧ (rq 0 (5 : U64)).len = 0 ∧ (busyIn BS).stoppable = true) := by
  and_intros <;> first
    | decide +kernel
    | exact ⟨by decide +kernel, by decide +kernel, by decide +kernel, by decide +kernel, by decide +kernel, by decide +kernel⟩

theorem witness_ModeChangesBegin :
    (R.modeBusy = false ∧ Waiting .modeRequest (rq 8) R ∧ (rq 8).len = 8 ∧ R.dump.fatalPending = false ∧ R.mode.burst = none ∧ (mf (2 : Byte)).nextMode = (0 : Byte) ∧ (mf (2 : Byte)).burstCount = (0 : U32) ∧ (mf (2 : Byte)).mode = (2 : Byte) ∧ R.mode.mode = Mode.ready ∧ (rq 8).target = (0 : U64)) ∧
    (V.modeBusy = false ∧ Waiting .modeRequest (rq 8) V ∧ (rq 8).len = 8 ∧ V.dump.fatalPending = false ∧ V.mode.burst = none ∧ (mf (1 : Byte)).nextMode = (0 : Byte) ∧ (mf (1 : Byte)).burstCount = (0 : U32) ∧ (mf (1 : Byte)).mode = (1 : Byte) ∧ V.mode.mode = Mode.view) ∧
    (V.modeBusy = false ∧ Waiting .modeRequest (rq 8 (100 : U64)) V ∧ (rq 8 (100 : U64)).len = 8 ∧ V.dump.fatalPending = false ∧ V.mode.burst = none ∧ (mf (1 : Byte)).nextMode = (0 : Byte) ∧ (mf (1 : Byte)).burstCount = (0 : U32) ∧ (mf (1 : Byte)).mode = (1 : Byte) ∧ V.mode.mode = Mode.view) ∧
    (T.modeBusy = false ∧ Waiting .takeStart (rq 56) T ∧ (rq 56).len = 56 ∧ (List.replicate 40 (0 : Byte)).length = 40 ∧ (9 : U64) ≠ (0 : U64) ∧ T.major (rq 56) ≠ 2 ∧ T.mode.mode = Mode.view ∧ takeRefusal (T.numberAt (T.epochFor (BitVec.toNat (rq 56).target))) true T = none ∧ T.cap 1 = true ∧ T.seals = false ∧ ((List.replicate 40 (0 : Byte)).all fun b => decide (b = (0 : Byte))) = true) ∧
    (TS.modeBusy = false ∧ Waiting .takeStart (rq 56) TS ∧ (rq 56).len = 56 ∧ wr.length = 40 ∧ (9 : U64) ≠ (0 : U64) ∧ TS.major (rq 56) ≠ 2 ∧ TS.mode.mode = Mode.view ∧ takeRefusal (TS.numberAt (TS.epochFor (BitVec.toNat (rq 56).target))) true TS = none ∧ TS.cap 1 = true ∧ TS.seals = true ∧ (5 : U32) ≠ (0 : U32) ∧ (wr.any fun b => decide (b ≠ (0 : Byte))) = true ∧ TS.trust.kek = some kekv) ∧
    (TS.modeBusy = false ∧ Waiting .takeStart (rq 56) TS ∧ (rq 56).len = 56 ∧ (List.replicate 40 (1 : Byte)).length = 40 ∧ (9 : U64) ≠ (0 : U64) ∧ TS.major (rq 56) ≠ 2 ∧ TS.mode.mode = Mode.view ∧ takeRefusal (TS.numberAt (TS.epochFor (BitVec.toNat (rq 56).target))) true TS = none ∧ TS.cap 1 = true ∧ TS.seals = true ∧ (5 : U32) ≠ (0 : U32) ∧ ((List.replicate 40 (1 : Byte)).any fun b => decide (b ≠ (0 : Byte))) = true ∧ TS.trust.kek = some kekv) ∧
    ((ask .takeStop (base Mode.take)).modeBusy = false ∧ Waiting .takeStop (rq 0 (5 : U64)) (ask .takeStop (base Mode.take)) ∧ (rq 0 (5 : U64)).len = 0 ∧ (ask .takeStop (base Mode.take)).mode.mode = Mode.take) ∧
    (BS.modeBusy = false ∧ Waiting .takeStop (rq 0 (5 : U64)) BS ∧ (rq 0 (5 : U64)).len = 0 ∧ BS.mode.mode = Mode.burst ∧ BS.mode.burst = some bu ∧ bu.drain = false) := by
  and_intros <;> first
    | decide +kernel
    | exact ⟨by decide +kernel, by decide +kernel, by decide +kernel, by decide +kernel, by decide +kernel, by decide +kernel⟩

def DX : State := let s := SettersAndBuses.xa; { s with mode := { s.mode with mode := .dormant }, power := s.power.setDomain 77 true }

theorem witness_SequencedChangesEnd :
    (Waiting .modeRequest (rq 8) R ∧ (rq 8).len = 8 ∧ R.modeBusy = false ∧ R.mode.burst = none ∧ (mf (0 : Byte)).nextMode = (0 : Byte) ∧ (mf (0 : Byte)).burstCount = (0 : U32) ∧ R.mode.mode = Mode.ready ∧ (rq 8).target = (0 : U64) ∧ (mf (0 : Byte)).mode = (0 : Byte)) ∧
    (Waiting .modeRequest (rq 8) R ∧ (rq 8).len = 8 ∧ R.modeBusy = false ∧ R.mode.burst = none ∧ (mf (5 : Byte)).nextMode = (0 : Byte) ∧ (mf (5 : Byte)).burstCount = (0 : U32) ∧ R.mode.mode = Mode.ready ∧ (rq 8).target = (0 : U64) ∧ (mf (5 : Byte)).mode = (5 : Byte)) ∧
    (RI.mode.mode = Mode.ready ∧ RI.power.idleToDormant = true ∧ RI.modeBusy = false ∧ RI.mbox.claims = []) ∧
    ((D SeqStage.band).mode.seq = some (q SeqStage.band) ∧ (q SeqStage.band).stage = SeqStage.band ∧ (D SeqStage.band).thermal.inBand = true) ∧
    ((D SeqStage.band).mode.seq = some (q SeqStage.band) ∧ (q SeqStage.band).stage = SeqStage.band) ∧
    ((D SeqStage.store).mode.seq = some (q SeqStage.store) ∧ (q SeqStage.store).stage = SeqStage.store) ∧
    ((D SeqStage.plls).mode.seq = some (q SeqStage.plls) ∧ 74 < 80 ∧ (D SeqStage.plls).power.en.getD 74 false = true ∧ 74 ∉ modeDomains (D SeqStage.plls).mode.mode) ∧
    ((D SeqStage.band).power.aoOn = true ∧ (D SeqStage.band).power.ride = none ∧ (D SeqStage.band).power.retire = none ∧ (∀ (q : SeqChange), (D SeqStage.band).mode.seq = some q → q.stage ≠ SeqStage.store)) ∧
    (DX.mode.seq = none ∧ 77 < 80 ∧ 77 ∉ modeDomains DX.mode.mode ∧ DX.power.en.getD 77 false = true ∧ DX.bus.abus0.xfer = some SettersAndBuses.xr ∧ DX.bus.abus1.xfer = none ∧ Alive SettersAndBuses.xr.req DX) ∧
    ((base Mode.ready).mode.seq = none ∧ (base Mode.ready).mode.mode = Mode.ready ∧ 32 ∈ viewDomains ∧ (base Mode.ready).power.en.getD 32 false = true) := by
  and_intros <;> first
    | exact all_of _ (by decide +kernel)
    | decide +kernel
    | exact ⟨by decide +kernel, by decide +kernel, by decide +kernel, by decide +kernel, by decide +kernel, by decide +kernel⟩

end ModeChanges

namespace Stores

def S := ask .profileStore (base .ready)
def it : List Item := [⟨.prerollMs 500, 4⟩]
def P := ask .profileSelect (base .ready)
def P3 := {P with profiles := P.profiles.set 3 ⟨⟨Factory.profile, 1⟩, ⟨Factory.profile, 1⟩⟩}
def re (n : Nat) : RingEntry := ⟨n, govN n (tag 9 n), ⟨[], 0, 3, false, false⟩, .complete, 100*n, 10, 0, some (recd (govN n (tag 9 n))), 0, 0⟩
def hold (s : State) : State := {s with hold := {s.hold with locked := true, entries := [re 3, re 4]}}
def H := hold (ask .holdoverRead (base .ready))
def HW := {H with take := {H.take with a := {Reset.session with state := .opened, primary := true, version := 0x20, caps := 8}}}
def HR := hold (ask .holdoverRelease (base .ready))
def HD := {HR with hold := {HR.hold with delivered := [(9,1),(9,2),(9,3),(9,4)]}}
def HZ := {HR with hold := {HR.hold with spares := List.replicate 8 0}}

theorem witness_ProfilesAreStoredAndSelected :
    (Waiting .profileStore (rq (4 + itemsLen it)) S ∧ (rq (4 + itemsLen it)).len = 4 + itemsLen it ∧ (it.all fun i => lenFits i.value (BitVec.toNat i.len)) = true ∧ (2 : Byte).toNat ≤ 3 ∧ (1 : U16).toNat ≤ 5 ∧ it.length = (1 : U16).toNat ∧ itemsDistinct it = true ∧ (it.all fun i => profileOnly i.value && inRange i.value 0 1) = true ∧ (S.mode.mode = Mode.ready ∨ S.mode.mode = Mode.view ∨ S.mode.mode = Mode.service) ∧ (2 : Byte) ≠ (0 : Byte) ∧ (2 : Byte).toNat < S.profiles.length) ∧
    (Waiting .profileStore (rq 4) S ∧ (rq 4).len = 4 + itemsLen [] ∧ (([] : List Item).all fun i => lenFits i.value (BitVec.toNat i.len)) = true ∧ (2 : Byte).toNat ≤ 3 ∧ (0 : U16).toNat ≤ 5 ∧ ([] : List Item).length = (0 : U16).toNat ∧ itemsDistinct [] = true ∧ (([] : List Item).all fun i => profileOnly i.value && inRange i.value 0 1) = true ∧ (S.mode.mode = Mode.ready ∨ S.mode.mode = Mode.view ∨ S.mode.mode = Mode.service) ∧ (2 : Byte) ≠ (0 : Byte) ∧ (2 : Byte).toNat < S.profiles.length) ∧
    (Waiting .profileStore (rq 4) S ∧ (rq 4).len = 4 + itemsLen [] ∧ (([] : List Item).all fun i => lenFits i.value (BitVec.toNat i.len)) = true ∧ (0 : Byte).toNat ≤ 3 ∧ (0 : U16).toNat ≤ 5 ∧ ([] : List Item).length = (0 : U16).toNat ∧ itemsDistinct [] = true ∧ (([] : List Item).all fun i => profileOnly i.value && inRange i.value 0 1) = true ∧ (S.mode.mode = Mode.ready ∨ S.mode.mode = Mode.view ∨ S.mode.mode = Mode.service)) ∧
    (Waiting .profileSelect (rq 4) P ∧ (rq 4).len = 4 ∧ (3 : Byte).toNat ≤ 3 ∧ (P.mode.mode = Mode.dormant ∨ P.joinable = true) ∧ P.dump.fatal = none ∧ P.ledgerRuns = false ∧ have x := applySensor (rawSettings (P.readProfile 3).1.settings) P.settings.sensor; entryCheck (rawSettings (P.readProfile 3).1.settings) x x.tMin 0 P = none) ∧
    (Waiting .profileSelect (rq 4) P3 ∧ (rq 4).len = 4 ∧ (3 : Byte).toNat ≤ 3 ∧ (P3.mode.mode = Mode.dormant ∨ P3.joinable = true) ∧ P3.dump.fatal = none ∧ P3.ledgerRuns = false ∧ have x := applySensor (rawSettings (P3.readProfile 3).1.settings) P3.settings.sensor; entryCheck (rawSettings (P3.readProfile 3).1.settings) x x.tMin 0 P3 = none) := by
  and_intros <;> first
    | decide +kernel
    | exact ⟨by decide +kernel, by decide +kernel, by decide +kernel, by decide +kernel, by decide +kernel, by decide +kernel⟩

theorem witness_HoldoverGivesBackItsFrames :
    (Waiting .holdoverRead (rq 32) H ∧ (rq 32).len = 32 ∧ (3 : U64).toNat ≤ (4 : U64).toNat ∧ (2 : Byte).toNat ≤ 2 ∧ (0 : Byte).toNat ≤ 1 ∧ H.mode.mode = Mode.ready ∧ H.major (rq 32) ≠ 2 ∧ (8 : U64).toNat ∉ H.hold.takes) ∧
    (Waiting .holdoverRead (rq 32) H ∧ (rq 32).len = 32 ∧ (3 : U64).toNat ≤ (4 : U64).toNat ∧ (2 : Byte).toNat ≤ 2 ∧ (0 : Byte).toNat ≤ 1 ∧ H.mode.mode = Mode.ready ∧ H.major (rq 32) ≠ 2 ∧ (9 : U64).toNat ∈ H.hold.takes ∧ H.hold.rangeFirst ((9 : U64).toNat) ≤ (3 : U64).toNat ∧ (4 : U64).toNat ≤ H.hold.rangeLast ((9 : U64).toNat)) ∧
    (Waiting .holdoverRead (rq 32) HW ∧ (rq 32).len = 32 ∧ (3 : U64).toNat ≤ (4 : U64).toNat ∧ (1 : Byte).toNat ≤ 2 ∧ (0 : Byte).toNat ≤ 1 ∧ HW.mode.mode = Mode.ready ∧ HW.major (rq 32) ≠ 2 ∧ (9 : U64).toNat ∈ HW.hold.takes ∧ HW.hold.rangeFirst ((9 : U64).toNat) ≤ (3 : U64).toNat ∧ (4 : U64).toNat ≤ HW.hold.rangeLast ((9 : U64).toNat) ∧ routeWelt ((0 : Byte).toNat) ((9 : U64).toNat) HW = none) ∧
    (Waiting .holdoverRelease (rq 24) HR ∧ (rq 24).len = 24 ∧ (0 : Byte).toNat ≤ 1 ∧ (HR.mode.mode = Mode.ready ∨ HR.mode.mode = Mode.service) ∧ (9 : U64).toNat ∈ HR.hold.takes ∧ HR.hold.rangeFirst ((9 : U64).toNat) ≤ (4 : U64).toNat ∧ (4 : U64).toNat ≤ HR.hold.rangeLast ((9 : U64).toNat) ∧ HR.hold.deliveredThrough ((9 : U64).toNat) ((4 : U64).toNat) = false) ∧
    (Waiting .holdoverRelease (rq 24) HR ∧ (rq 24).len = 24 ∧ (1 : Byte).toNat ≤ 1 ∧ (HR.mode.mode = Mode.ready ∨ HR.mode.mode = Mode.service) ∧ (9 : U64).toNat ∈ HR.hold.takes ∧ HR.hold.rangeFirst ((9 : U64).toNat) ≤ (4 : U64).toNat ∧ (4 : U64).toNat ≤ HR.hold.rangeLast ((9 : U64).toNat) ∧ ((1 : Byte) = (1 : Byte) ∨ HR.hold.deliveredThrough ((9 : U64).toNat) ((4 : U64).toNat) = true)) ∧
    (Waiting .holdoverRelease (rq 24) HD ∧ (rq 24).len = 24 ∧ (0 : Byte).toNat ≤ 1 ∧ (HD.mode.mode = Mode.ready ∨ HD.mode.mode = Mode.service) ∧ (9 : U64).toNat ∈ HD.hold.takes ∧ HD.hold.rangeFirst ((9 : U64).toNat) ≤ (4 : U64).toNat ∧ (4 : U64).toNat ≤ HD.hold.rangeLast ((9 : U64).toNat) ∧ ((0 : Byte) = (1 : Byte) ∨ HD.hold.deliveredThrough ((9 : U64).toNat) ((4 : U64).toNat) = true)) ∧
    (HR.pdOn 68 = true ∧ 0 < HR.hold.spares.getD ↑(2 : Fin 8) 0) ∧
    (HZ.pdOn 68 = true ∧ HZ.hold.spares.getD ↑(2 : Fin 8) 0 = 0) ∧
    (HR.hold.failed.getD (↑(2 : Fin 8)) false = false ∧ HR.hold.job = none) := by
  and_intros <;> first
    | decide +kernel
    | exact ⟨by decide +kernel, by decide +kernel, by decide +kernel, by decide +kernel, by decide +kernel, by decide +kernel⟩

end Stores

namespace Memory

def s0 := base .view
def dv : MemDevice := { dstate := 1, lanes := 16, rate := 64, flit256 := true, capacity := 549755813888 }
def g3 := govN 3 (tag 0 0)
def rs (s : State) : State := {s with res := {s.res with present := true, capacity := 2^40, bSus := 10^9, devices := List.replicate 4 dv, entries := [⟨3,3,100,10,.closed,some (recd g3),[],false,true⟩], wr := ⟨110, 4⟩}}
def M := rs s0
def v1 : State := {M with res := {M.res with retrain := true, queued := 55}}
def MR := rs (base .ready)

theorem witness_MemoryPortFollowsItsFaults :
    (M.res.present = true ∧ (M.res.recordAt (indexPages + 105)).isSome = true ∧ M.res.recordAt (indexPages + 105) = some ((M.res.recordAt (indexPages + 105)).get (by decide +kernel)) ∧ ((M.res.entryOf ((M.res.recordAt (indexPages + 105)).get (by decide +kernel)).frame).bind fun x => x.record) = some (recd g3)) ∧
    (2 < 4 ∧ M.res.present = true ∧ M.res.devices[2]? = some dv ∧ dv.dstate = 1) ∧
    (2 < 4 ∧ v1.res.present = true ∧ v1.res.devices[2]? = some dv ∧ dv.dstate = 1) ∧
    (2 < 4 ∧ MR.res.present = true ∧ MR.res.devices[2]? = some dv ∧ dv.dstate = 1 ∧ MR.reads = false) ∧
    (busOn BusId.abus1 M = true ∧ { device := 1, hot := true, poison := [] : DeviceHealth }.poison = []) ∧
    (M.link.live = true ∧ M.link.ide.insecure = false ∧ M.res.present = true ∧ M.pdOn 57 = true ∧ M.pdOn 58 = true ∧ M.link.pf0.d3hot = false ∧ M.res.retrain = false) ∧
    (v1.link.live = true ∧ v1.link.ide.insecure = false ∧ v1.res.present = true ∧ v1.pdOn 57 = true ∧ v1.pdOn 58 = true ∧ v1.link.pf0.d3hot = false ∧ v1.res.retrain = true) ∧
    (s0.link.live = true ∧ s0.link.ide.insecure = false ∧ s0.res.present = false) ∧
    (s0.link.live = true ∧ s0.link.ide.insecure = false) := by
  and_intros <;> decide +kernel

end Memory

namespace Sessions

def s0 := base .view
def sb (x : Session) (s : State) : State := {s with take := {s.take with a := x, allow := [(0,2^40)]}}
def WO := ask .weltOpen s0
def op : Session := {Reset.session with state := .opened, rid := 5, maxVersion := 0x21, version := 0x21, wTotal := 1000}
def og : Session := {Reset.session with state := .opening, rid := 5, maxVersion := 0x21, info := info1, infoWritten := true, req := some ⟨.ch0,7,.weltOpen,0⟩}
def G := sb og s0
def Gp := { G with link := { G.link with pf0 := { G.link.pf0 with bme := false } } }
def v1 : State := (sb {op with descLimit := 9} s0)
def v2 : State := (sb {op with descLimit := 9} s0)
def v3 : State := (sb {op with descLimit := 9} s0)
def fl (s : State) : State := { s with mbox := { s.mbox with claims := [(.bay 0, ⟨.ch0,7,.weltOpen,0⟩)], c0 := {s.mbox.c0 with enable := true, entries := 16, flights := [⟨7, some .weltOpen, 0, false, none⟩]} } }
def OK0 := fl (sb {og with version := 0x21, sessionId := 8, descSeq := 1} s0)

set_option maxRecDepth 1000000 in
theorem witness_SessionsOpenStepByStep :
    (Waiting .weltOpen (rq 12) WO ∧ (rq 12).len = 12 ∧ (33 : Byte).toNat ∈ weltVersions ∧ (0 : Byte).toNat ≤ 1 ∧ 100 ≤ (100 : U32).toNat ∧ (100 : U32).toNat ≤ 30000 ∧ WO.mode.mode ≠ Mode.dormant) ∧
    (Waiting .weltOpen (rq 12) WO ∧ (rq 12).len = 12 ∧ (32 : Byte).toNat ∈ weltVersions ∧ (1 : Byte).toNat ≤ 1 ∧ 100 ≤ (30000 : U32).toNat ∧ (30000 : U32).toNat ≤ 30000 ∧ WO.mode.mode ≠ Mode.dormant) ∧
    (Waiting .weltClose (rq 4) (sb op (ask .weltClose s0)) ∧ (rq 4).len = 4 ∧ ((sb op (ask .weltClose s0)).bay (bayNum Bay.a)).state = SessState.opened ∧ (sb op (ask .weltClose s0)).holdsFrames (bayNum Bay.a) = false) ∧
    (G.link.takes false = true ∧ acceptsWrite (bayNum Bay.a) (5 : U16) G = true ∧ (G.bay (bayNum Bay.a)).state = SessState.opening ∧ (G.bay (bayNum Bay.a)).checked = false) ∧
    ((sb op s0).link.takes false = true ∧ acceptsWrite (bayNum Bay.a) (5 : U16) (sb op s0) = true ∧ ((sb op s0).bay (bayNum Bay.a)).state = SessState.opened ∧ (sb op s0).take.state = TakeState.none ∧ (sb op s0).hold.job = none) ∧
    (G.link.takes false = true ∧ acceptsWrite (bayNum Bay.a) (5 : U16) G = true ∧ (G.bay (bayNum Bay.a)).state = SessState.opening ∧ (G.bay (bayNum Bay.a)).checked = false ∧ (G.bay (bayNum Bay.a)).descLimit ≤ (3 : U32).toNat ∧ (3 : U32) ≠ (0 : U32) ∧ infoOk (G.bay (bayNum Bay.a)).info = true ∧ covered G.take.allow (infoWindows (G.bay (bayNum Bay.a)).info) (infoAt (G.bay (bayNum Bay.a)).info 16 8) (infoAt (G.bay (bayNum Bay.a)).info 24 4) = true ∧ (G.bay (bayNum Bay.a)).wantsSeal = false ∧ have total := sumNat (List.map (fun x => x.2) (infoWindows (G.bay (bayNum Bay.a)).info)); 262144 ≤ total ∧ (G.bay (bayNum Bay.a)).pageLimit ≤ total ∧ chooseVersion (infoAt (G.bay (bayNum Bay.a)).info 4 2) (G.bay (bayNum Bay.a)).maxVersion = some 33 ∧ (G.bay (bayNum Bay.a)).descSeq = 0 ∧ G.weltWrites = true) ∧
    (Gp.link.takes false = true ∧ (Gp.bay (bayNum Bay.a)).checked = false ∧ (Gp.bay (bayNum Bay.a)).descSeq = 0 ∧ Gp.weltWrites = false) ∧
    ((sb op s0).link.takes false = true ∧ acceptsWrite (bayNum Bay.a) (5 : U16) (sb op s0) = true ∧ ((sb op s0).bay (bayNum Bay.a)).state = SessState.opened ∧ ((sb op s0).bay (bayNum Bay.a)).descLimit ≤ (3 : U32).toNat) ∧
    (v1.link.takes false = true ∧ acceptsWrite (bayNum Bay.a) (5 : U16) v1 = true ∧ (v1.bay (bayNum Bay.a)).state = SessState.opened ∧ (3 : U32).toNat < (v1.bay (bayNum Bay.a)).descLimit ∧ v1.take.state = TakeState.none ∧ v1.hold.job = none) ∧
    (v2.link.takes false = true ∧ acceptsWrite (bayNum Bay.a) (5 : U16) v2 = true) ∧
    (v3.link.takes false = true ∧ acceptsWrite (bayNum Bay.a) (5 : U16) v3 = true ∧ (v3.bay (bayNum Bay.a)).state = SessState.opened ∧ (v3.bay (bayNum Bay.a)).pageLimit ≤ (1000 : U64).toNat ∧ (1000 : U64).toNat ≤ (v3.bay (bayNum Bay.a)).oldPage + (v3.bay (bayNum Bay.a)).wTotal) ∧
    (OK0.link.takes false = true ∧ acceptsWrite (bayNum Bay.a) (5 : U16) OK0 = true ∧ (OK0.bay (bayNum Bay.a)).state = SessState.opening ∧ (OK0.bay (bayNum Bay.a)).checked = true ∧ 0 < (OK0.bay (bayNum Bay.a)).descSeq ∧ (OK0.bay (bayNum Bay.a)).req = some { chan := Chan.ch0, tag := (7 : U16), op := .weltOpen, gen := 0 : ReqId } ∧ Alive { chan := Chan.ch0, tag := (7 : U16), op := .weltOpen, gen := 0 : ReqId } OK0 ∧ (8 : U32).toNat = (OK0.bay (bayNum Bay.a)).sessionId ∧ (33 : Byte).toNat = (OK0.bay (bayNum Bay.a)).version ∧ OK0.take.relay = none) ∧
    (OK0.link.takes false = true ∧ acceptsWrite (bayNum Bay.a) (5 : U16) OK0 = true ∧ (OK0.bay (bayNum Bay.a)).state = SessState.opening ∧ (OK0.bay (bayNum Bay.a)).checked = true ∧ 0 < (OK0.bay (bayNum Bay.a)).descSeq ∧ (OK0.bay (bayNum Bay.a)).req = some { chan := Chan.ch0, tag := (7 : U16), op := .weltOpen, gen := 0 : ReqId } ∧ Alive { chan := Chan.ch0, tag := (7 : U16), op := .weltOpen, gen := 0 : ReqId } OK0 ∧ (9 : U32).toNat ≠ (OK0.bay (bayNum Bay.a)).sessionId) ∧
    ((sb op s0).link.takes false = true ∧ acceptsWrite (bayNum Bay.a) (5 : U16) (sb op s0) = true ∧ reservedOffset 1045 = true) ∧
    ((sb op s0).link.takes false = true ∧ acceptsWrite (bayNum Bay.a) (6 : U16) (sb op s0) = false ∧ ((sb op s0).bay (bayNum Bay.a)).rid ≠ (6 : U16)) ∧
    (((fl (sb og s0)).bay (bayNum Bay.a)).state = SessState.opening ∧ ((fl (sb og s0)).bay (bayNum Bay.a)).checked = false ∧ ((fl (sb og s0)).bay (bayNum Bay.a)).req = some { chan := Chan.ch0, tag := (7 : U16), op := .weltOpen, gen := 0 : ReqId } ∧ Alive { chan := Chan.ch0, tag := (7 : U16), op := .weltOpen, gen := 0 : ReqId } (fl (sb og s0))) ∧
    ((OK0.bay (bayNum Bay.a)).state = SessState.opening ∧ 0 < (OK0.bay (bayNum Bay.a)).descSeq ∧ (OK0.bay (bayNum Bay.a)).req = some { chan := Chan.ch0, tag := (7 : U16), op := .weltOpen, gen := 0 : ReqId } ∧ Alive { chan := Chan.ch0, tag := (7 : U16), op := .weltOpen, gen := 0 : ReqId } OK0) := by
  and_intros <;> first
    | decide +kernel
    | exact ⟨by decide +kernel, by decide +kernel, by decide +kernel, by decide +kernel, by decide +kernel, by decide +kernel⟩

end Sessions

namespace Records

def s0 := base .take
def g (n : Nat) := govN n (tag 9 (n-2))
def op : Session := {Reset.session with state := .streaming, primary := true, rid := 5, maxVersion := 0x21, version := 0x21, wTotal := 262144, pageLimit := 5000, descLimit := 20, ringBase := 0x100000, ringEntries := 64, windows := [(0x200000000,262144)], descSeq := 1, ackTimeoutMs := 100, owing := true, progress := 3}
def T (x : Session) (s : State) : State := {s with take := {s.take with state := .running, takeId := 9, a := x, active := some 0, begun := true, first := 3, sendNext := 3, sentUpTo := 0, nextIndex := 3}, res := {s.res with present := true, capacity := 2^40, bSus := 10^9, entries := [⟨3,3,100,10,.closed,some (recd (g 3)),[],false,false⟩,⟨4,4,110,10,.closed,some (recd (g 4)),[],false,false⟩], wr := ⟨120, 5⟩}, frame := {s.frame with lastFrame := 6, index := 9}}
def S := T op s0
def c3 : Commit := ⟨3, 1, 77, 0, 3, false, false⟩
def c4 : Commit := ⟨4, 2, 78, 3, 3, false, false⟩
def oa := {op with commits := [c3, c4], descSeq := 3, nextPage := 6}
def A : State := {T oa s0 with take := {(T oa s0).take with sendNext := 5, sentUpTo := 5}}
def ak0 (st : Byte) : AckEntry := ⟨0, st, 0, 0, 3, 1, 77, 1, 0⟩
def ak (st : Byte) : AckEntry := {ak0 st with entryCrc := BitVec.ofNat 32 (crc32c (ackBytes (ak0 st)))}
def opd : Session := {op with state := .opened, caps := 1, version := 0x21, owing := false}
def RL : State := let s := ask .weltRelay (base .view); {s with take := {s.take with a := {opd with primary := true}, b := opd}}
def RT : State := let s := T {opd with primary := true, state := .streaming} (ask .weltRelay (base .take)); {s with take := {s.take with b := opd}}

theorem witness_RecordsAreSentAndAcknowledged :
    (S.weltWrites = true ∧ S.link.narrowed = false ∧ S.hold.job = none ∧ S.take.active = some (bayNum Bay.a) ∧ S.take.state ≠ TakeState.none ∧ skipDurable S (S.take.sentUpTo + 1) S.take.sendNext = S.take.sendNext ∧ S.res.entryOf S.take.sendNext = some { seq := 3, frame := 3, page := 100, pages := 10, state := SlotState.closed, record := some (recd (g 3)), reasons := [], reserved := false, preroll := false : ResEntry } ∧ { seq := 3, frame := 3, page := 100, pages := 10, state := SlotState.closed, record := some (recd (g 3)), reasons := [], reserved := false, preroll := false : ResEntry }.record = some (recd (g 3)) ∧ S.take.begun = true ∧ S.take.relay = none ∧ S.take.holdBack ≠ some S.take.sendNext ∧ S.take.paged = none ∧ (S.bay (bayNum Bay.a)).descCredit = true ∧ (S.bay (bayNum Bay.a)).state = SessState.streaming ∧ (S.bay (bayNum Bay.a)).nextPage + (recd (g 3)).pages ≤ (S.bay (bayNum Bay.a)).pageLimit) ∧
    (A.link.takes false = true ∧ acceptsWrite (bayNum Bay.a) (5 : U16) A = true ∧ (A.bay (bayNum Bay.a)).state = SessState.streaming ∧ (1 : U32).toNat = (A.bay (bayNum Bay.a)).acked + 1 ∧ (A.bay (bayNum Bay.a)).ackProducer ≤ (1 : U32).toNat ∧ ackCause (A.bay (bayNum Bay.a)) (ak (0 : Byte)) = 0 ∧ (ak (0 : Byte)).status = (0 : Byte)) ∧
    (A.link.takes false = true ∧ acceptsWrite (bayNum Bay.a) (5 : U16) A = true ∧ (A.bay (bayNum Bay.a)).state = SessState.streaming ∧ (1 : U32).toNat = (A.bay (bayNum Bay.a)).acked + 1 ∧ (A.bay (bayNum Bay.a)).ackProducer ≤ (1 : U32).toNat ∧ ackCause (A.bay (bayNum Bay.a)) (ak (1 : Byte)) = 0 ∧ (ak (1 : Byte)).status = (1 : Byte)) ∧
    ((A.bay (bayNum Bay.a)).owing = true ∧ (A.bay (bayNum Bay.a)).state = SessState.streaming ∧ A.weltWrites = true) ∧
    (Waiting .weltRelay (rq 4) RL ∧ (rq 4).len = 4 ∧ RL.reads = true ∧ (RL.bay (bayNum Bay.a)).state = SessState.opened ∧ RL.take.active ≠ some (bayNum Bay.a) ∧ RL.relayTarget (bayNum Bay.a) false = true) ∧
    (Waiting .weltRelay (rq 4) RT ∧ (rq 4).len = 4 ∧ RT.reads = true ∧ ((RT.bay (bayNum Bay.a)).state = SessState.opened ∨ (RT.bay (bayNum Bay.a)).state = SessState.streaming) ∧ RT.take.active = some (bayNum Bay.a) ∧ RT.take.state ≠ TakeState.none ∧ RT.relayTarget (bayNum Bay.a) true = true ∧ RT.take.last = none) := by
  and_intros <;> first
    | decide +kernel
    | exact ⟨by decide +kernel, by decide +kernel, by decide +kernel, by decide +kernel, by decide +kernel, by decide +kernel⟩

end Records

namespace Viewing

def s0 := base .view
def vr : ViewRing := { Reset.viewRing with descBase := 0x1000, descEntries := 8 }
def V (f : ViewRing → ViewRing) (s : State) : State := s.setRing 3 (f vr)
def S1 := V id (ask .streamStart s0)
def B : Byte := 0x10
def S1b := V (fun v => {v with state := .running, change := some false}) (ask .streamStart s0)
def S1c := V (fun v => {v with descBase := 1}) (ask .streamStart s0)
def S1d := { S1 with link := { S1.link with width := 1, active := 1, rate := 25, state := .l0 }, settings := { S1.settings with recs := { S1.settings.recs with rings := List.replicate 11 {Factory.ring with outW := 18432, outH := 9216} } } }
def S2 := V (fun v => {v with state := .running}) (ask .streamStop s0)
def S3 := V (fun v => {v with posted := 3, produced := 1, state := .running}) s0
def small : RingSet := { Factory.ring with cropX0 := 32, cropY0 := 32, cropW := 64, cropH := 64, outW := 16, outH := 16 }
def g0 := { govN 5 (tag 0 0) with recs := { Factory.settings.recs with rings := List.replicate 11 small } }
def S4 (f : ViewRing → ViewRing) := { V (fun v => f {v with posted := 3, produced := 1, state := .running}) s0 with frame := { s0.frame with shown := some (rd g0 0) } }
def S4a := S4 id
def F : Frame := ⟨emptyData, g0⟩
def S4b := S4 (fun v => {v with timeoutRun := 7})
def S4c := S4 (fun v => {v with posted := 1})
def SL (o : List Byte) := let s := ask .lutLoad s0; {s with view := {s.view with loads := [⟨1,2,.ch0,0,o⟩]}}
def tail : List Byte := [1,2,3]
def SL0 := ask .lutLoad s0

theorem witness_ViewingRingsDeliver :
    (ringIndex (BitVec.toNat B) = some 3 ∧ Waiting .streamStart (rq 4) S1 ∧ (rq 4).len = 4 ∧ (S1.view.ring 3).sound = true ∧ S1.viewFits 3 = true) ∧
    (ringIndex (BitVec.toNat B) = some 3 ∧ Waiting .streamStart (rq 4) S1b ∧ (rq 4).len = 4 ∧ (S1b.view.ring 3).sound = true ∧ S1b.viewFits 3 = true) ∧
    (ringIndex (BitVec.toNat B) = some 3 ∧ Waiting .streamStart (rq 4) S1c ∧ (rq 4).len = 4 ∧ (S1c.view.ring 3).sound = false) ∧
    (ringIndex (BitVec.toNat B) = some 3 ∧ Waiting .streamStart (rq 4) S1d ∧ (rq 4).len = 4 ∧ (S1d.view.ring 3).sound = true ∧ S1d.viewFits 3 = false) ∧
    (ringIndex (BitVec.toNat B) = some 3 ∧ Waiting .streamStop (rq 4) S2 ∧ (rq 4).len = 4 ∧ (S2.view.ring 3).state ≠ ViewState.stopped) ∧
    (ringIndex (BitVec.toNat B) = some 3 ∧ S3.link.takes true = true ∧ BitVec.toNat ((9 : U32) - (S3.view.ring 3).produced) ≤ BitVec.toNat (S3.view.ring 3).descEntries ∧ BitVec.toNat ((S3.view.ring 3).posted - (S3.view.ring 3).produced) ≤ BitVec.toNat ((9 : U32) - (S3.view.ring 3).produced)) ∧
    (ringIndex (BitVec.toNat B) = some 3 ∧ S3.link.takes true = true ∧ (BitVec.toNat (S3.view.ring 3).descEntries < BitVec.toNat ((10 : U32) - (S3.view.ring 3).produced) ∨ BitVec.toNat ((10 : U32) - (S3.view.ring 3).produced) < BitVec.toNat ((S3.view.ring 3).posted - (S3.view.ring 3).produced))) ∧
    (ringIndex (BitVec.toNat B) = some 3 ∧ S3.link.takes true = true ∧ BitVec.toNat ((2 : U32) - (S3.view.ring 3).produced) < BitVec.toNat ((S3.view.ring 3).posted - (S3.view.ring 3).produced)) ∧
    (ringIndex (BitVec.toNat B) = some 3 ∧ S3.link.takes true = true ∧ BitVec.toNat (S3.view.ring 3).descEntries < BitVec.toNat ((0 : U32) - (S3.view.ring 3).produced)) ∧
    (ringIndex (BitVec.toNat B) = some 3 ∧ S4a.link.ide.insecure = false ∧ S4a.dueFrame 3 = some (F, small, none) ∧ S4a.link.mayWrite true = true ∧ S4a.link.narrowed = false ∧ (S4a.view.ring 3).posted ≠ (S4a.view.ring 3).produced ∧ small.bufferBytes 3 ≤ (100000 : U32).toNat) ∧
    (ringIndex (BitVec.toNat B) = some 3 ∧ S4a.link.ide.insecure = false ∧ S4a.dueFrame 3 = some (F, small, none) ∧ S4a.link.mayWrite true = true ∧ S4a.link.narrowed = false ∧ (S4a.view.ring 3).posted ≠ (S4a.view.ring 3).produced ∧ (100 : U32).toNat < small.bufferBytes 3) ∧
    (ringIndex (BitVec.toNat B) = some 3 ∧ S4a.link.ide.insecure = false ∧ S4a.dueFrame 3 = some (F, small, none) ∧ S4a.link.mayWrite true = true ∧ S4a.link.narrowed = false ∧ (S4a.view.ring 3).posted ≠ (S4a.view.ring 3).produced ∧ (S4a.view.ring 3).timeoutRun < 7) ∧
    (ringIndex (BitVec.toNat B) = some 3 ∧ S4b.link.ide.insecure = false ∧ S4b.dueFrame 3 = some (F, small, none) ∧ S4b.link.mayWrite true = true ∧ S4b.link.narrowed = false ∧ (S4b.view.ring 3).posted ≠ (S4b.view.ring 3).produced ∧ 7 ≤ (S4b.view.ring 3).timeoutRun ∧ 3 < S4b.view.rings.length) ∧
    (ringIndex (BitVec.toNat B) = some 3 ∧ S4c.link.ide.insecure = false ∧ S4c.dueFrame 3 = some (F, small, none) ∧ (S4c.link.narrowed = true ∨ (S4c.view.ring 3).posted = (S4c.view.ring 3).produced)) ∧
    (ringIndex (BitVec.toNat B) = some 3 ∧ S4c.link.mayWrite false = true) ∧
    (ringIndex (BitVec.toNat B) = some 3 ∧ Waiting .lutLoad (rq 19) SL0 ∧ (rq 19).len = 16 + tail.length ∧ tail.length ≤ 4080 ∧ (2 : Byte).toNat < 4 ∧ SL0.major (rq 19) ≠ 2 ∧ SL0.lutInUse 1 ((2 : Byte).toNat) = false ∧ SL0.lutLoad 1 ((2 : Byte).toNat) = none) := by
  and_intros <;> first
    | decide +kernel
    | exact ⟨by decide +kernel, by decide +kernel, by decide +kernel, by decide +kernel, by decide +kernel, by decide +kernel⟩

/-- A load in progress meets the hypotheses whatever it has received. -/
theorem lut_load (o : List Byte) : Waiting .lutLoad (rq 19) (SL o) ∧ (SL o).major (rq 19) = 3 ∧ (SL o).lutInUse 1 2 = false ∧
    (SL o).lutLoad 1 2 = some ⟨1, 2, .ch0, 0, o⟩ :=
  ⟨⟨rfl, fun _ h => by cases List.mem_singleton.1 h; rfl, rfl, rfl, rfl, rfl⟩, rfl, rfl, rfl⟩

/-- The last piece of a 3D LUT, with the right CRC and with a wrong one. -/
theorem witness_ViewingRingsDeliver_lut :
    ∃ o : List Byte, Waiting .lutLoad (rq 19) (SL o) ∧ (rq 19).len = 16 + tail.length ∧ tail.length ≤ 4080 ∧ (2 : Byte).toNat < 4 ∧
      (SL o).major (rq 19) ≠ 2 ∧ (SL o).lutInUse 1 2 = false ∧ (SL o).lutLoad 1 2 = some ⟨1, 2, .ch0, 0, o⟩ ∧
      o.length + tail.length = lutBytes 1 ∧ (BitVec.ofNat 32 (crc32c (o ++ tail))).toNat = crc32c (o ++ tail) ∧
      (BitVec.ofNat 32 (crc32c (o ++ tail) + 1)).toNat ≠ crc32c (o ++ tail) := by
  obtain ⟨o, ho⟩ : ∃ o : List Byte, o.length = 215619 := ⟨List.replicate 215619 7, List.length_replicate⟩
  have h := lut_load o
  have hc := crc32c_lt (o ++ tail)
  refine ⟨o, h.1, rfl, by decide, by decide, by rw [h.2.1]; decide, h.2.2.1, h.2.2.2, ?_, Nat.mod_eq_of_lt hc, ?_⟩
  · rw [ho]; rfl
  · simp only [BitVec.toNat_ofNat]
    omega

end Viewing

namespace Meeting

def T (f : TandemUnit → TandemUnit) (s : State) : State := { s with tandem := f s.tandem, time := { s.time with now := 9000000, module := 8000000 } }
def s0 := base .view
def dn := T id s0
def up (r : Nat) := T (fun t => {t with up := true, roleSet := r, version := 0x11}) s0
def U := up 2
def J (r : Nat) (j : JoinState) (s : TandemUnit → TandemUnit := id) := T (fun t => s {t with up := true, roleSet := r, version := 0x11, join := j}) s0
def W (j : JoinState) (f : TandemUnit → TandemUnit) := let s := J 3 j f; s
def v1 : State := (W .joined (fun t => {t with onTsync := true, rtt := 400}))
def v2 : State := (W .joining (fun t => {t with onTsync := false, rtt := 400, joinIn := 1, joinFrame := 55}))
def v3 : State := (W .joining (fun t => {t with onTsync := false, rtt := 400, joinIn := 2, joinFrame := 55}))
def RS := ask .tandemRoleSet dn

theorem witness_TandemModulesMeet :
    (dn.pdOn 59 = true ∧ dn.tandem.up = false) ∧
    U.tandem.up = true ∧
    (U.tandem.up = true ∧ (15 : Byte).toNat < 16) ∧
    (U.tandem.up = true ∧ 17 ≤ (17 : Byte).toNat ∧ 2 ≤ (3 : Byte).toNat ∧ U.tandemRole ≠ 1 ∧ U.tandemRole ≠ (3 : Byte).toNat ∧ U.tandem.join = JoinState.none) ∧
    (U.tandem.up = true ∧ 17 ≤ (255 : Byte).toNat ∧ 2 ≤ (3 : Byte).toNat ∧ U.tandemRole ≠ 1 ∧ U.tandemRole ≠ (3 : Byte).toNat ∧ U.tandem.join = JoinState.none) ∧
    ((up 3).tandem.up = true ∧ 17 ≤ (17 : Byte).toNat ∧ 2 ≤ (2 : Byte).toNat ∧ (up 3).tandemRole ≠ 1 ∧ (up 3).tandemRole ≠ (2 : Byte).toNat ∧ (up 3).tandem.join = JoinState.none) ∧
    ((up 3).tandem.up = true ∧ 17 ≤ (17 : Byte).toNat ∧ 2 ≤ (3 : Byte).toNat ∧ (up 3).tandemRole = (3 : Byte).toNat ∧ (up 3).tandem.onTsync = false) ∧
    ((J 2 JoinState.joined).tandem.up = true ∧ 17 ≤ (17 : Byte).toNat ∧ 2 ≤ (2 : Byte).toNat ∧ (J 2 JoinState.joined).tandemRole = (2 : Byte).toNat ∧ (J 2 JoinState.joined).tandem.onTsync = false) ∧
    ((up 3).tandem.up = true ∧ (up 3).tandemRole = 3 ∧ (1 : Byte) ≠ 0) ∧
    ((J 2 JoinState.conflict).tandem.up = true ∧ 17 ≤ (17 : Byte).toNat ∧ (1 : Byte).toNat < 2 ∧ (J 2 JoinState.conflict).tandem.partnerRole ≠ (1 : Byte).toNat ∧ (J 2 JoinState.conflict).tandem.join = JoinState.conflict) ∧
    ((J 3 JoinState.joined (fun t => {t with onTsync := true})).tandem.up = true ∧ (J 3 JoinState.joined (fun t => {t with onTsync := true})).tandemRole = 3 ∧ (J 3 JoinState.joined (fun t => {t with onTsync := true})).tandem.onTsync = true ∧ (J 3 JoinState.joined (fun t => {t with onTsync := true})).tandem.join = JoinState.joined ∧ (J 3 JoinState.joined (fun t => {t with onTsync := true})).frame.leaderNext = none) ∧
    ((J 3 JoinState.joined).tandem.up = true ∧ (J 3 JoinState.joined).tandemRole = 3) ∧
    ((J 2 JoinState.joined).tandem.up = true ∧ (J 2 JoinState.joined).tandemRole ≠ 3) ∧
    ((J 2 JoinState.joined).tandem.up = true ∧ (J 2 JoinState.joined).tandemRole = 2) ∧
    (J 2 JoinState.joined).tandem.up = true ∧
    ((J 2 JoinState.joined).tandem.up = true ∧ (J 2 JoinState.joined).tandem.version = 17) ∧
    (((J 2 JoinState.joined).tandem.join = JoinState.joined ∨ (J 2 JoinState.joined).tandem.join = JoinState.joining) ∧ (J 2 JoinState.joined).tandem.onTsync = false) ∧
    (((J 3 JoinState.joined).tandem.join = JoinState.joined ∨ (J 3 JoinState.joined).tandem.join = JoinState.joining) ∧ (J 3 JoinState.joined).tandem.onTsync = false) ∧
    (((J 2 JoinState.joining).tandem.join = JoinState.joined ∨ (J 2 JoinState.joining).tandem.join = JoinState.joining) ∧ (J 2 JoinState.joining).tandem.onTsync = false) ∧
    (v1.tandemRole = 3 ∧ v1.tandem.onTsync = true) ∧
    (v2.tandemRole = 3 ∧ v2.tandem.onTsync = false ∧ v2.tandem.join = JoinState.joining ∧ v2.tandem.joinIn = 1) ∧
    (∀ p ∈ v2.ledger.waiting, p.2.mirrored = false) ∧
    (v3.tandemRole = 3 ∧ v3.tandem.onTsync = false ∧ v3.tandem.join = JoinState.joining ∧ 1 < v3.tandem.joinIn) ∧
    (Waiting .tandemRoleSet (rq 4) RS ∧ (rq 4).len = 4 ∧ (2 : Byte).toNat ≤ 3 ∧ RS.roleMode = true ∧ RS.tandem.up = false ∧ ((2 : Byte).toNat < 2 ∨ RS.cap 2 = true) ∧ RS.tandem.join = JoinState.none) ∧
    (Waiting .tandemRoleSet (rq 4) RS ∧ (rq 4).len = 4 ∧ (0 : Byte).toNat ≤ 3 ∧ RS.roleMode = true ∧ RS.tandem.up = false ∧ ((0 : Byte).toNat < 2 ∨ RS.cap 2 = true) ∧ RS.tandem.join = JoinState.none) ∧
    (Waiting .tandemRoleSet (rq 4) (caps (251 : U32) RS) ∧ (rq 4).len = 4 ∧ (2 : Byte).toNat ≤ 3 ∧ (caps (251 : U32) RS).roleMode = true ∧ 2 ≤ (2 : Byte).toNat ∧ (caps (251 : U32) RS).cap 2 = false) := by
  and_intros <;> first
    | decide +kernel
    | exact ⟨by decide +kernel, by decide +kernel, by decide +kernel, by decide +kernel, by decide +kernel, by decide +kernel⟩

end Meeting

namespace Mirroring

def T (f : TandemUnit → TandemUnit) (s : State) : State := { s with tandem := f s.tandem, time := { s.time with now := 9000000, module := 8000000 } }
def s0 := base .view
def J (r : Nat) (j : JoinState) (s : TandemUnit → TandemUnit := id) := T (fun t => s {t with up := true, roleSet := r, version := 0x11, join := j}) s0
def m : Mirrored := ⟨7, 40, [.prerollMs 5]⟩
def m1 : Mirrored := ⟨7, 1, []⟩
def v1 : State := (J 2 .joined (fun t => {t with unacked := [(m,5)]}))

theorem witness_TandemModulesMirror :
    ((J 3 JoinState.joining).tandem.up = true ∧ (J 3 JoinState.joining).tandemRole = 3 ∧ (J 3 JoinState.joining).tandem.join = JoinState.joining ∧ (J 3 JoinState.joining).joinable = true ∧ (J 3 JoinState.joining).ledger.waiting = []) ∧
    ((J 3 JoinState.joined).tandem.up = true ∧ (J 3 JoinState.joined).tandemRole = 3 ∧ (J 3 JoinState.joined).tandem.join = JoinState.joined ∧ ((J 3 JoinState.joined).ledger.waiting.any fun p => p.2.mirrored && decide (p.2.seq = BitVec.toNat m.seq)) = false ∧ (J 3 JoinState.joined).ledger.freeSlot = some 0 ∧ have c := classesOf m.settings; have ahead := if c.sensor = true then (2 : Int) else if c.conv = true then (1 : Int) else (0 : Int); (J 3 JoinState.joined).number ((J 3 JoinState.joined).frame.index + 1) + ahead ≤ ↑(BitVec.toNat m.applied)) ∧
    ((J 3 JoinState.joined).tandem.up = true ∧ (J 3 JoinState.joined).tandemRole = 3 ∧ (J 3 JoinState.joined).tandem.join = JoinState.joined ∧ ((J 3 JoinState.joined).ledger.waiting.any fun p => p.2.mirrored && decide (p.2.seq = BitVec.toNat m1.seq)) = false ∧ (J 3 JoinState.joined).ledger.freeSlot = some 0 ∧ have c := classesOf m1.settings; have ahead := if c.sensor = true then (2 : Int) else if c.conv = true then (1 : Int) else (0 : Int); (J 3 JoinState.joined).number ((J 3 JoinState.joined).frame.index + 1) + ahead ≤ ↑(BitVec.toNat m1.applied)) ∧
    v1.tandem.up = true ∧
    (J 2 JoinState.none).tandem.up = true := by
  and_intros <;> decide +kernel

end Mirroring

namespace Pairing

def T (f : TandemUnit → TandemUnit) (s : State) : State := { s with tandem := f s.tandem, time := { s.time with now := 9000000, module := 8000000 } }
def s0 := base .view
def J (r : Nat) (j : JoinState) (s : TandemUnit → TandemUnit := id) := T (fun t => s {t with up := true, roleSet := r, version := 0x11, join := j}) s0
def E0 : LedgerEntry := ⟨7, 40, 40, [.rate 24 1, .rotK 5, .blkMode 1, .hostBlock []], Classes.none, Classes.none, false, true, 5, 0xFF, 0⟩
def L (l : List (Option LedgerEntry)) (s : State) := { s with ledger := { s.ledger with slots := l ++ List.replicate (16 - l.length) none, gens := List.replicate 16 0 } }
def C := L [none, some E0] (J 3 .joined)
def pf : PartnerFrame := ⟨50, 100, 20, [], false, 7000000, 0, 0, false, false⟩
def pfl : PartnerFrame := {pf with lines := [⟨0,0,[(1,2,3)]⟩]}
def v1 : State := (J 2 .joined (fun t => {t with receiving := [pf]}))
def v2 : State := (J 2 .joined (fun t => {t with receiving := [pfl]}))
def v3 : State := (J 3 .none (fun t => {t with receiving := [pfl]}))
def m : Mirrored := ⟨7, 40, [.prerollMs 5]⟩
def v4 : State := (J 2 .joined (fun t => {t with unacked := [(m,8999999)]}))
def G (n : Nat) (s : State) : State := { s with frame := { s.frame with gov := some (govN n (tag 0 0)) } }
def v5 : State := (G 50 (J 2 .joined (fun t => {t with receiving := [pf]})))
def v6 : State := (G 50 (J 2 .joined (fun t => {t with receiving := [], lastGood := some pfl})))
def v7 : State := (G 50 (J 2 .joined (fun t => {t with receiving := [], lastGood := none})))
def q : Pairing := ⟨49, some pf, false, false, 0, 0⟩
def pf9 := {pfl with frame := 49}
def v8 : State := (G 50 (J 2 .joined (fun t => {t with receiving := [pf9], pairing := some q})))

def v9 : State := (G 50 (J 2 .joined (fun t => {t with receiving := [pf, pf9], pairing := some q})))

theorem witness_TandemModulesMirror_more :
    (C.tandem.up = true ∧ C.tandemRole = 3 ∧ C.tandem.version = 17 ∧ E0.removable = { sensor := true, conv := true, cond := true, recs := true : Classes } ∧ List.filter (fun p => p.2.mirrored && decide (p.2.seq = (7 : U32).toNat)) C.ledger.waiting = [(1, E0)]) ∧
    ((J 2 JoinState.joined).tandem.up = true ∧ (J 2 JoinState.joined).tandemRole = 2 ∧ (J 2 JoinState.joined).tandem.join = JoinState.joined ∧ (J 2 JoinState.joined).tandem.wants ((50 : U64).toNat) = true) ∧
    (v2.tandem.up = true ∧ v2.tandem.receives (50 : U64).toNat = some pfl ∧ pfl.lines ≠ []) ∧
    (v3.tandem.up = true ∧ v3.tandem.receives (50 : U64).toNat = some pfl ∧ pfl.lines ≠ []) ∧
    ((v4.tandem.join = JoinState.joined ∨ v4.tandem.join = JoinState.joining) ∧ v4.tandem.unacked = [(m, 8999999)] ∧ v4.tandem.up = true) ∧
    ((J 2 .joined (fun t => {t with up := false, unacked := [(m,5)]})).tandem.join = JoinState.joined ∧ (J 2 .joined (fun t => {t with up := false, unacked := [(m,5)]})).tandem.unacked = [(m, 5)] ∧ (J 2 .joined (fun t => {t with up := false, unacked := [(m,5)]})).tandem.up = false) ∧
    (v5.frame.gov = some (govN 50 (tag 0 0)) ∧ v5.tandemRole = 2 ∧ (Option.map (fun x => x.frame) v5.tandem.pairing).getD 0 ≠ (govN 50 (tag 0 0)).n ∧ v5.tandem.receives ((govN 50 (tag 0 0)).n - 1) = none ∧ v5.tandem.receives (govN 50 (tag 0 0)).n = some pf) ∧
    (v6.frame.gov = some (govN 50 (tag 0 0)) ∧ v6.tandemRole = 2 ∧ (Option.map (fun x => x.frame) v6.tandem.pairing).getD 0 ≠ (govN 50 (tag 0 0)).n ∧ v6.tandem.receiving = [] ∧ v6.tandem.join = JoinState.joined) ∧
    (v7.frame.gov = some (govN 50 (tag 0 0)) ∧ v7.tandemRole = 2 ∧ (Option.map (fun x => x.frame) v7.tandem.pairing).getD 0 ≠ (govN 50 (tag 0 0)).n ∧ v7.tandem.receiving = [] ∧ v7.tandem.join = JoinState.joined) ∧
    (v8.frame.gov = some (govN 50 (tag 0 0)) ∧ v8.tandem.pairing = some q ∧ q.frame + 1 = (govN 50 (tag 0 0)).n ∧ q.repeated = false ∧ q.absent = false ∧ v8.tandem.receives q.frame = some pf9 ∧ pf9.lines ≠ []) ∧
    ((Option.map (fun x => x.frame) v9.tandem.pairing).getD 0 ≠ (govN 50 (tag 0 0)).n ∧ v9.frame.gov = some (govN 50 (tag 0 0)) ∧ v9.tandemRole = 2 ∧ v9.tandem.pairing = some q ∧ q.frame + 1 = (govN 50 (tag 0 0)).n ∧ q.repeated = false ∧ q.absent = false ∧ v9.tandem.receives q.frame = some pf9 ∧ pf9.lines ≠ [] ∧ v9.tandem.receives (govN 50 (tag 0 0)).n = some pf) := by
  and_intros <;> decide +kernel

end Pairing

namespace TimerChannels

def s0 := { base .view with time := { Reset.time with now := 9000000, module := 8000000, carrier := .tbck } }
def TM (n : Nat) (f : Timer → Timer) (s : State := s0) : State := s.setTimer n (f (s.sync.timer n))
def R (n : Nat) (c : U32) (f : Timer → Timer := id) := TM n (fun t => f {t with running := true, ctrl := c})
def v1 : State := (R 3 (0x05000000 ||| 0x10000000 ||| 0x30000) (fun t => {t with count := 49999, compare := 50000}))
def v2 : State := (R 3 (0x05000000 ||| 0x10000000 ||| 0x10000) (fun t => {t with count := 0xFFFFFFFF, compare := 0}))
def v3 : State := (R 15 (0x05000000 ||| 0x10000000 ||| 0x20040) (fun t => {t with locked := true, count := 69, compare := 70}))
def v4 : State := (TM 11 (fun t => {t with locked := true}))
def v5 : State := (TM 12 (fun t => {t with capRise := 5}))
def v6 : State := (TM 12 (fun t => {t with capRise := 5}))
def v7 : State := (TM 12 (fun t => {t with pairFirst := some 5, count := 9, ctrl := 0x40001100}))
def v8 : State := (R 12 0x80001100 (fun t => {t with stuckMs := 3}))
def v9 : State := ({R 12 0x020 with trust := { s0.trust with debugOpen := true }})

def d1 : State := { R 3 (0x05000000 ||| 0x40) (fun t => {t with count := 49999}) with power := s0.power.setDomain 76 false }
def d2 : State := { R 3 (0x05000000 ||| 0x80) (fun t => {t with count := 49999}) with power := s0.power.setDomain 76 false }

theorem witness_TimersCountAndCapture :
    (v1.sync.timers.length = 16 ∧ (v1.sync.timer ↑(3 : Fin 16)).running = true ∧ (v1.sync.timer ↑(3 : Fin 16)).kind = 0 ∧ timerFrozen (v1.sync.timer ↑(3 : Fin 16)) v1 = false ∧ (v1.sync.timer ↑(3 : Fin 16)).linked ≠ ↑(3 : Fin 16) ∧ (v1.sync.timer ↑(3 : Fin 16)).ovfSelf = 0) ∧
    (v2.sync.timers.length = 16 ∧ (v2.sync.timer ↑(3 : Fin 16)).running = true ∧ (v2.sync.timer ↑(3 : Fin 16)).kind = 0 ∧ timerFrozen (v2.sync.timer ↑(3 : Fin 16)) v2 = false ∧ (v2.sync.timer ↑(3 : Fin 16)).linked ≠ ↑(3 : Fin 16) ∧ (v2.sync.timer ↑(3 : Fin 16)).ovfSelf = 0) ∧
    (v3.sync.timers.length = 16 ∧ (v3.sync.timer ↑(15 : Fin 16)).running = true ∧ (v3.sync.timer ↑(15 : Fin 16)).kind = 0 ∧ timerFrozen (v3.sync.timer ↑(15 : Fin 16)) v3 = false ∧ (v3.sync.timer ↑(15 : Fin 16)).linked ≠ ↑(15 : Fin 16) ∧ (v3.sync.timer ↑(15 : Fin 16)).ovfSelf = 0) ∧
    (d1.sync.timers.length = 16 ∧ (d1.sync.timer 3).running = true ∧ (d1.sync.timer 3).kind = 0 ∧ timerFrozen (d1.sync.timer 3) d1 = false ∧ (d1.sync.timer 3).linked ≠ 3 ∧ (d1.sync.timer 3).ovfSelf = 0 ∧ d1.pdOn 76 = false ∧ (d1.sync.timer 3).haltBeh = 1) ∧
    (d2.sync.timers.length = 16 ∧ (d2.sync.timer 3).running = true ∧ (d2.sync.timer 3).kind = 0 ∧ timerFrozen (d2.sync.timer 3) d2 = false ∧ (d2.sync.timer 3).linked ≠ 3 ∧ (d2.sync.timer 3).ovfSelf = 0 ∧ d2.pdOn 76 = false ∧ (d2.sync.timer 3).haltBeh = 2) ∧
    ((TM 11 id).sync.timers.length = 16 ∧ Reachable (TM 11 id) ∧ (TM 11 id).pdOn 76 = true ∧ ↑(11 : Fin 16) < 12 ∧ ((TM 11 id).sync.timer ↑(11 : Fin 16)).running = false) ∧
    ((TM 11 id).sync.timers.length = 16 ∧ Reachable (TM 11 id) ∧ (TM 11 id).pdOn 76 = true ∧ ↑(11 : Fin 16) < 12 ∧ ((TM 11 id).sync.timer ↑(11 : Fin 16)).locked = false) ∧
    (v4.sync.timers.length = 16 ∧ Reachable v4 ∧ v4.pdOn 76 = true ∧ ↑(11 : Fin 16) < 12 ∧ (v4.sync.timer ↑(11 : Fin 16)).locked = true) ∧
    ((TM 11 id).sync.timers.length = 16 ∧ Reachable (TM 11 id) ∧ (TM 11 id).pdOn 76 = true ∧ ↑(11 : Fin 16) < 12) ∧
    ((TM 12 id).sync.timers.length = 16 ∧ Reachable (TM 12 id) ∧ (TM 12 id).pdOn 76 = true ∧ 12 ≤ ↑(12 : Fin 16)) ∧
    (v5.sync.timers.length = 16 ∧ Reachable v5 ∧ v5.pdOn 76 = true) ∧
    (v6.sync.timers.length = 16 ∧ v6.pdOn 76 = true) ∧
    (v7.sync.timers.length = 16 ∧ v7.pdOn 76 = true ∧ (v7.sync.timer ↑(12 : Fin 16)).inputSel ≠ 0 ∧ (v7.sync.timer ↑(12 : Fin 16)).kind ≠ 1 ∧ (v7.sync.timer ↑(12 : Fin 16)).capEn = true ∧ (v7.sync.timer ↑(12 : Fin 16)).fallFirst = false ∧ (v7.sync.timer ↑(12 : Fin 16)).pairFirst = some (5 : U32)) ∧
    ((R 12 (32 : U32)).sync.timers.length = 16 ∧ (R 12 (32 : U32)).pdOn 76 = true ∧ ((R 12 (32 : U32)).sync.timer ↑(12 : Fin 16)).running = true ∧ ((R 12 (32 : U32)).sync.timer ↑(12 : Fin 16)).kind = 2 ∧ timerFrozen ((R 12 (32 : U32)).sync.timer ↑(12 : Fin 16)) (R 12 (32 : U32)) = false ∧ ((R 12 (32 : U32)).sync.timer ↑(12 : Fin 16)).linked ≠ ↑(12 : Fin 16) ∧ ((R 12 (32 : U32)).sync.timer ↑(12 : Fin 16)).matchSelf = 0 ∧ ((R 12 (32 : U32)).sync.timer ↑(12 : Fin 16)).ovfSelf = 0) ∧
    (v8.sync.timers.length = 16 ∧ v8.pdOn 76 = true ∧ (v8.sync.timer ↑(12 : Fin 16)).stuckMs ≠ 0 ∧ (v8.sync.timer ↑(12 : Fin 16)).running = true ∧ (v8.sync.timer ↑(12 : Fin 16)).stuck = false ∧ ((v8.sync.timer ↑(12 : Fin 16)).capEn = true ∨ (v8.sync.timer ↑(12 : Fin 16)).kind = 1 ∨ (v8.sync.timer ↑(12 : Fin 16)).kind = 2)) ∧
    (v9.sync.timers.length = 16 ∧ v9.trust.debugOpen = true) := by
  and_intros <;> decide +kernel

end TimerChannels

namespace Timecode

def s0 := { base .view with time := { Reset.time with now := 9000000, module := 8000000, carrier := .tbck } }
def GN (f : GenlockUnit → GenlockUnit) (s : State := s0) : State := { s with sync := { s.sync with genlock := f s.sync.genlock } }
def TC (f : TimecodeUnit → TimecodeUnit) (s : State := s0) : State := { s with sync := { s.sync with tc := f s.sync.tc } }
def GA := GN (fun g => {g with state := .absent, lastStart := 1000, struct := 2})
def P : Nat := 1024000000
def N : Nat := 8000000*256+7
def GD := GN (fun g => {g with state := .detected, lastStart := N - P, struct := 2, periods := List.replicate 7 P})
def GLk := GN (fun g => {g with state := .locked, lastStart := N - P - 300000, struct := 2, per := P, periods := List.replicate 7 P})
def w1 := tcAdvance 25 0x0102030405060708
def LTk := TC (fun c => {c with goodCnt := 5, present := true, lastWord := 0})
def LAk := TC (fun c => {c with goodCnt := 5, present := true, lastWord := 0, bitPeriod := 12800000, source := 1, tcSource := 1})
def LFk := TC (fun c => {c with goodCnt := 5, present := true, fresh := true, lastWord := 0, bitPeriod := 12800000, source := 1, tcSource := 1})
def LBk := TC (fun c => {c with goodCnt := 5, present := true, lastWord := 0, bitPeriod := 12800000, source := 2, tcSource := 2, num := 25, den := 1, ltcOut := true})
def TD (m : Mode) : State := ask .timebaseDiscipline { base m with time := { Reset.time with now := 9000000, module := 8000000, carrier := .tbck } }
def TDL : State := { TD .ready with sync := GLk.sync }
def TDT : State := { TD .ready with sync := LAk.sync, tandem := { Reset.tandem with up := true, join := .joined, roleSet := 2, version := 0x11 } }

theorem witness_TimecodeAndGenlockFollowTheirInputs :
    (GA.pdOn 76 = true ∧ GA.sync.genlock.state = MeterState.absent ∧ GA.sync.genlock.lastStart ≠ 0 ∧ (2 : Byte).toNat = GA.sync.genlock.struct ∧ 1 ≤ GA.sync.genlock.struct ∧ GA.sync.genlock.struct ≤ 5) ∧
    (GD.pdOn 76 = true ∧ GD.sync.genlock.state = MeterState.detected ∧ (2 : Byte).toNat = GD.sync.genlock.struct ∧ 1 ≤ GD.sync.genlock.struct ∧ GD.sync.genlock.struct ≤ 5 ∧ lockCriterion GD.sync.genlock.struct (lastPeriods (GD.time.module * 256 + (7 : Byte).toNat - GD.sync.genlock.lastStart) GD.sync.genlock.periods) = true) ∧
    (GLk.pdOn 76 = true ∧ GLk.sync.genlock.state = MeterState.locked ∧ ((2 : Byte).toNat ≠ GLk.sync.genlock.struct ∨ within (GLk.time.module * 256 + (7 : Byte).toNat - GLk.sync.genlock.lastStart) GLk.sync.genlock.per 200 = false)) ∧
    (GLk.pdOn 76 = true ∧ GLk.sync.genlock.state = MeterState.locked ∧ ((3 : Byte).toNat ≠ GLk.sync.genlock.struct ∨ within (GLk.time.module * 256 + (7 : Byte).toNat - GLk.sync.genlock.lastStart) GLk.sync.genlock.per 200 = false)) ∧
    (GLk.pdOn 76 = true ∧ GLk.sync.genlock.state = MeterState.locked) ∧
    (GD.pdOn 76 = true ∧ GD.sync.genlock.state = MeterState.detected) ∧
    GLk.sync.genlock.state = MeterState.locked ∧
    s0.pdOn 76 = true ∧
    (cellsAgree ⟨12800000, 16000001⟩ 12800000 && ltcSpeedOk 12800000) = false ∧
    (LTk.pdOn 76 = true ∧ cellsAgree ⟨9600000, 16000000⟩ 12800000 = true ∧ ltcSpeedOk 12800000 = true ∧ LTk.sync.tc.goodCnt ≠ 0 ∧ LTk.sync.tc.present = true ∧ have r := nearestRate ((12800000 : U32).toNat); tcAdvance (tcFps r.1 r.2) LTk.sync.tc.lastWord &&& tcMask = tcAdvance (tcFps (nearestRate 12800000).1 (nearestRate 12800000).2) (0 : U64) &&& tcMask) ∧
    LAk.sync.tc.present = true ∧
    LBk.sync.tc.present = true ∧
    (LFk.sync.tc.source = 1 ∧ LFk.sync.tc.present = true ∧ LFk.sync.tc.fresh = true) ∧
    ((LBk.sync.tc.source ≠ 1 ∨ LBk.sync.tc.present = false ∨ LBk.sync.tc.fresh = false) ∧ LBk.sync.tc.tcSource = 2 ∧ 0 < LBk.sync.tc.num) ∧
    (Waiting .timecodeSet (rq 20) (ask .timecodeSet s0) ∧ (rq 20).len = 20 ∧ (1 : Byte).toNat ≤ 1 ∧ generatorOk ((25 : U16).toNat) ((1 : U16).toNat) (0 : U64) = true ∧ (ask .timecodeSet s0).mode.mode ≠ Mode.dormant) ∧
    (Waiting .timebaseDiscipline (rq 16) (TD Mode.ready) ∧ (rq 16).len = 16 ∧ (TD Mode.ready).time.ref = 0 ∧ (TD Mode.ready).time.refActive = 0 ∧ ((TD Mode.ready).mode.mode = Mode.dormant ∨ (TD Mode.ready).mode.mode = Mode.ready)) ∧
    (Waiting .timebaseDiscipline (rq 16) (TD Mode.dormant) ∧ (rq 16).len = 16 ∧ (TD Mode.dormant).time.ref = 0 ∧ (TD Mode.dormant).time.refActive = 0 ∧ ((TD Mode.dormant).mode.mode = Mode.dormant ∨ (TD Mode.dormant).mode.mode = Mode.ready)) ∧
    (Waiting .timebaseDiscipline (rq 16) TDL ∧ (rq 16).len = 16 ∧ TDL.time.ref = 0 ∧ TDL.time.refActive = 0 ∧ (TDL.mode.mode = Mode.dormant ∨ TDL.mode.mode = Mode.ready)) ∧
    (Waiting .timebaseDiscipline (rq 16) TDT ∧ (rq 16).len = 16 ∧ TDT.time.ref = 0 ∧ TDT.time.refActive = 0 ∧ (TDT.mode.mode = Mode.dormant ∨ TDT.mode.mode = Mode.ready)) := by
  and_intros <;> first
    | decide +kernel
    | exact ⟨by decide +kernel, by decide +kernel, by decide +kernel, by decide +kernel, by decide +kernel, by decide +kernel⟩

end Timecode

namespace Boundaries

def s0 := { base .view with time := { Reset.time with now := 9000000, module := 8000000, carrier := .tbck } }
def FR (f : FrameUnit → FrameUnit) (s : State := s0) : State := { s with frame := f s.frame }
def A := FR (fun f => {f with lastB := some 7000000, origin := 7000000, sens0 := Factory.settings.sensor, sens1 := Factory.settings.sensor, sens2 := Factory.settings.sensor})
def b : Nat := (nextBoundary A).getD 0
def A2 := { A with mode := { A.mode with mode := .ready } }
def b2 : Nat := (nextBoundary A2).getD 0
def g1 := { govN 5 (tag 0 0) with sensor := { Factory.settings.sensor with window := ⟨0, 18432, 1⟩ } }
def pd : PeriodData := ⟨⟨0,[]⟩, ⟨0,[]⟩, 0, [], [], true, true, false⟩
def R1 := FR (fun f => {f with readout := some (rd g1 0), gov := some g1})
def pd0 : PeriodData := { pd with codesTop := ⟨5, []⟩ }
def R2 := FR (fun f => {f with readout := some (rd g1 5000), gov := some g1})
def sums : CalSums := ⟨⟨span, span⟩, []⟩
def v1 : State := { s0 with mode := { s0.mode with mode := .ready } }
def v2 : State := { s0 with take := { s0.take with rewriting := true, first := 7 } }

theorem witness_BoundariesBeginAndEndReadouts :
    (nextBoundary A = some b ∧ A.engineRuns = true ∧ A.nextNumbered = true) ∧
    (nextBoundary A2 = some b2 ∧ A2.engineRuns = true ∧ A2.nextNumbered = false) ∧
    (R1.frame.readout = some (rd g1 0) ∧ (rd g1 0).stopAt = none ∧ (rd g1 0).done < (rd g1 0).gov.sensor.pairs ∧ pd.linkOkTop = true ∧ pd.linkOkBottom = true ∧ R1.frame.linkRunB < 16) ∧
    (R2.frame.readout = some (rd g1 5000) ∧ (rd g1 5000).gov.sensor.pairs ≤ (rd g1 5000).done ∧ R2.power.retire = none) ∧
    v1.mode.mode = Mode.ready ∧
    (v2.take.rewriting = true ∧ 0 < v2.take.first) := by
  and_intros <;> decide +kernel

end Boundaries

namespace Photosites

def s0 := { base .view with time := { Reset.time with now := 9000000, module := 8000000, carrier := .tbck } }
def FR (f : FrameUnit → FrameUnit) (s : State := s0) : State := { s with frame := f s.frame }
def A := FR (fun f => {f with lastB := some 7000000, origin := 7000000, sens0 := Factory.settings.sensor, sens1 := Factory.settings.sensor, sens2 := Factory.settings.sensor})
def eb := A.dueWindow.getD (⟨0,0,.a⟩, 0)
def w : OpenWindow := ⟨.a, 8500000, true⟩
def Wd (f : Site → Site) := let s := FR (fun f => {f with window := some w}) A; { s with sensor := s.sensor.setSite 100 100 (f (s.sensor.site 100 100)) }
def v1 : State := (Wd (fun p => {p with tally := 63}))
def v2 : State := (Wd (fun p => {p with sat := true}))
def v3 : State := (Wd (fun p => {p with tally := 3}))
def cal1 : CalSet := { Factory.calSet with setId := 4 }
def Cx := { A with cal := { A.cal with copyA := some cal1 } }
def TG (f : FrameUnit → FrameUnit) := let z := { Factory.settings.sensor with trigger := { Factory.settings.sensor.trigger with mode := .triggered } }; FR f (FR (fun f => {f with sens0 := z, sens1 := z, sens2 := z}) A)
def v4 : State := (TG (fun f => {f with flying := some ⟨1,2,3⟩}))
def v5 : State := (TG (fun f => {f with flying := some ⟨1,2,3⟩, pending := some 3}))
def GG := let z := { Factory.settings.sensor with trigger := { Factory.settings.sensor.trigger with mode := .gated } }; FR (fun f => {f with sens0 := z, sens1 := z, sens2 := z, gateOpen := true}) A
def v6 : State := {GG with frame := {GG.frame with window := some w}}
def wb : OpenWindow := { w with first := false }
def Wh (q : Nat) := let s := FR (fun f => {f with window := some wb}) A; { s with sensor := s.sensor.setSite 100 100 { s.sensor.site 100 100 with a := ⟨q, 0, false, false⟩ } }
def vh : State := Wh 100
def qf : Nat := 32768 * qth (vh.threshold wb)
def vf : State := Wh qf
def vu : State := FR (fun f => {f with window := some wb, readout := some (rd (govN 5 (tag 0 0)) 0)}) A
def vt : State := { TG id with take := { (TG id).take with state := .running, takeId := 3, first := 5 } }
theorem witness_PhotositesAndTriggersFollowTheirRules :
    A.dueWindow = some (eb.1, eb.2) ∧
    ((Wd id).frame.window = some w ∧ readable 100 100 = true) ∧
    (v1.frame.window = some w ∧ readable 100 100 = true) ∧
    (v2.frame.window = some w ∧ readable 100 100 = true) ∧
    ((Wd id).frame.window = some w ∧ readable { x := 100, y := 100, charge := 5000, folds := 0 : SiteCharge }.x { x := 100, y := 100, charge := 5000, folds := 0 : SiteCharge }.y = true) ∧
    (v3.frame.window = some w ∧ readable { x := 100, y := 100, charge := 5000, folds := 2 : SiteCharge }.x { x := 100, y := 100, charge := 5000, folds := 2 : SiteCharge }.y = true) ∧
    ((Wd id).unread = false ∧ (((if w.first then (Wd id).sensor.mapSites (fun q => q.cleared w.node) else (Wd id).sensor).site 100 100).node w.node).charge = 0) ∧
    (vh.frame.window = some wb ∧ vh.unread = false ∧ ((vh.sensor.site 100 100).node wb.node).charge ≠ 0 ∧
      1000 * (((vh.sensor.site 100 100).node wb.node).receive { vh.sensor.site 100 100 with well := 5000 }).charge < 985 * 32768 * qth (vh.threshold wb)) ∧
    (vf.frame.window = some wb ∧ vf.unread = false ∧ ((vf.sensor.site 100 100).node wb.node).charge ≠ 0 ∧
      (let sum := ((vf.sensor.site 100 100).node wb.node).receive { vf.sensor.site 100 100 with well := 5000 }
       32768 * qth (vf.threshold wb) ≤ sum.charge ∧ vf.stepAt (vf.threshold wb) 100 100 ≤ sum.charge ∧
       1000 * (sum.charge - vf.stepAt (vf.threshold wb) 100 100) < 985 * 32768 * qth (vf.threshold wb) ∧ sum.tally < 63)) ∧
    (vu.frame.window = some wb ∧ vu.unread = true) ∧ (vt.take.isRunning = true ∧ 0 < vt.take.first ∧ vt.frame.flying = none) ∧
    (readable 100 100 = true ∧ Cx.pdOn (8 + tileOf 100 100) = true ∧ Cx.cal.inForce = some cal1) ∧
    ((TG id).pdOn 76 = true ∧ (TG id).heedsTriggers = true ∧ (TG id).frame.sens1.trigger.mode = TimingMode.triggered ∧ (TG id).frame.flying = none) ∧
    (v4.pdOn 76 = true ∧ v4.heedsTriggers = true ∧ v4.frame.sens1.trigger.mode = TimingMode.triggered ∧ v4.frame.flying ≠ none ∧ v4.frame.pending = none) ∧
    (v5.pdOn 76 = true ∧ v5.heedsTriggers = true ∧ v5.frame.sens1.trigger.mode = TimingMode.triggered ∧ v5.frame.flying ≠ none ∧ v5.frame.pending ≠ none) ∧
    (GG.pdOn 76 = true ∧ GG.frame.gateOpen = true ∧ GG.frame.sens1.trigger.mode = TimingMode.gated ∧ GG.heedsTriggers = true) ∧
    (v6.pdOn 76 = true ∧ v6.frame.gateOpen = true ∧ v6.frame.sens1.trigger.mode = TimingMode.gated ∧ v6.heedsTriggers = true) := by
  and_intros <;> decide +kernel

end Photosites

namespace Calibration

def sv := ask .calRun (base .service)
def mz : CalMeasure := ⟨0x123, 0x010080008007, [], 320, List.replicate 8 16384, [], [], [], [(4, 5, 3, false, false)], 0, none⟩
def sv1 := ask .calRun (nx sv (.calRun (rq 20) 0 0 5 0 mz))
def sv2 := ask .calRun (nx sv1 (.calRun (rq 20) 1 0 5 100 mz))
def sv3 := { sv1 with power := sv1.power.setDomain 74 false }
def mz3 : CalMeasure := { mz with noPowerGood := some 74 }
def svbad := { sv1 with cal := { sv1.cal with run := sv1.cal.run.map fun (q : CalRun) => { q with candidate := { q.candidate with tCal := 1000 } } } }
def svc := ask .calInstall {base .service with cal := {Reset.cal with candidate := some {Factory.calSet with setId := 6}}}
def rb := ask .calRollback (base .ready)
def rb0 := { rb with cal := { rb.cal with copyB := none } }

theorem witness_CalibrationSetsAreMadeAndInstalled :
    (Waiting .calRun (rq 20) sv ∧ (rq 20).len = 20 ∧ (0 : U16).toNat ≤ 6 ∧ sv.mode.mode = Mode.service) ∧
    ((sv.mbox.auth.role = 1 → sv.cap 6 = true) ∧ Waiting .calRun (rq 20) sv ∧ (rq 20).len = 20 ∧ (0 : U16).toNat ≤ 6 ∧ sv.mode.mode = Mode.service ∧ calDue ((0 : U16).toNat) ((1 : U16).toNat) ((0 : U32).toNat) sv = false) ∧
    ((sv1.mbox.auth.role = 1 → sv1.cap 6 = true) ∧ Waiting .calRun (rq 20) sv1 ∧ (rq 20).len = 20 ∧ (1 : U16).toNat ≤ 6 ∧ sv1.mode.mode = Mode.service ∧ sv1.cal.run.isSome = true ∧ sv1.cal.run = some (sv1.cal.run.get (by decide +kernel)) ∧ calDue ((1 : U16).toNat) ((0 : U16).toNat) ((100 : U32).toNat) sv1 = true ∧ 1 ≤ (1 : U16).toNat ∧ (1 : U16).toNat ≤ 5 ∧ mz.noPowerGood = none) ∧
    ((sv2.mbox.auth.role = 1 → sv2.cap 6 = true) ∧ Waiting .calRun (rq 20) sv2 ∧ (rq 20).len = 20 ∧ (1 : U16).toNat ≤ 6 ∧ sv2.mode.mode = Mode.service ∧ sv2.cal.run.isSome = true ∧ sv2.cal.run = some (sv2.cal.run.get (by decide +kernel)) ∧ calDue ((1 : U16).toNat) ((1 : U16).toNat) ((100 : U32).toNat) sv2 = true ∧ 1 ≤ (1 : U16).toNat ∧ (1 : U16).toNat ≤ 5 ∧ mz.noPowerGood = none) ∧
    (Waiting .calRun (rq 20) sv3 ∧ (rq 20).len = 20 ∧ (1 : U16).toNat ≤ 6 ∧ sv3.mode.mode = Mode.service ∧ sv3.cal.run.isSome = true ∧ calDue ((1 : U16).toNat) ((0 : U16).toNat) ((100 : U32).toNat) sv3 = true ∧ mz3.noPowerGood = some 74 ∧ 74 ∈ procedureDomains ∧ sv3.usable 74 = true ∧ sv3.pdOn 74 = false) ∧
    ((svbad.mbox.auth.role = 1 → svbad.cap 6 = true) ∧ Waiting .calRun (rq 20) svbad ∧ (rq 20).len = 20 ∧ (6 : U16).toNat ≤ 6 ∧ svbad.mode.mode = Mode.service ∧ svbad.cal.run.isSome = true ∧ svbad.cal.run = some (svbad.cal.run.get (by decide +kernel)) ∧ (svbad.cal.run.get (by decide +kernel)).nextStep.getD 6 65535 = 0 ∧ firstFailing (((svbad.cal.run.get (by decide +kernel)).finished (svbad.cal.lastId + 1) svbad.mbox.auth.slot svbad.cal.inForce).checks svbad.mono (svbad.cal.run.get (by decide +kernel)).badSteps mz.readBack svbad.calSet) = some 6) ∧
    ((svc.mbox.auth.role = 1 → svc.cap 6 = true) ∧ svc.mayInstall = true ∧ svc.modeBusy = false ∧ svc.cal.candidate.isSome = true ∧ Waiting .calInstall (rq 8) svc ∧ (rq 8).len = 8 ∧ svc.cal.candidate = some (svc.cal.candidate.get (by decide +kernel)) ∧ (svc.cal.candidate.get (by decide +kernel)).setId = (6 : U32).toNat ∧ sur.tilesTwice = [] ∧ sur.noPowerGood = none ∧ sur.upsets.copies = []) ∧
    ((rb.mbox.auth.role = 1 → rb.cap 6 = true) ∧ rb.mayInstall = true ∧ rb.modeBusy = false ∧ Waiting .calRollback (rq 0) rb ∧ (rq 0).len = 0 ∧ rb.cal.other.isSome = true ∧ rb.cal.other = some (rb.cal.other.get (by decide +kernel)) ∧ sur.tilesTwice = [] ∧ sur.noPowerGood = none) ∧
    ((rb0.mbox.auth.role = 1 → rb0.cap 6 = true) ∧ rb0.mayInstall = true ∧ rb0.modeBusy = false ∧ Waiting .calRollback (rq 0) rb0 ∧ (rq 0).len = 0 ∧ rb0.cal.other = none) := by
  and_intros <;> first
    | decide +kernel
    | exact ⟨by decide +kernel, by decide +kernel, by decide +kernel, by decide +kernel, by decide +kernel, by decide +kernel⟩

end Calibration

namespace FuseArray

def fact (s : State) : State := { s with mbox := { s.mbox with auth := { s.mbox.auth with role := 4 } } }
def fs (o : Opcode) : State := fact (ask o (base .service))
def fz (f : FuseUnit → FuseUnit) (s : State) : State := { s with fuse := f s.fuse }
def s0 := fz (fun f => { f with finalised := f.finalised.set 0 true |>.set 5 false, words := put (f.words.filter fun e => e.1.1 ≠ 5) (5,2) 1 }) (fs .fuseProgram)
def s0n := fz (fun f => { f with finalised := f.finalised.set 2 false }) { s0 with mbox := { s0.mbox with auth := { Reset.auth with role := 3 } } }
def s0r := { s0 with power := { s0.power with ride := some 3 } }
def f0 := fact (ask .fuseFinalize s0)
def k0 := fz (fun f => { f with addr := 0x282, data := 5, declared := [4,0,0,0] }) s0
def k1 := fz (fun f => { f with addr := 0x082, data := 5 }) (fz (fun f => {f with finalised := f.finalised.set 1 true}) s0)

theorem witness_FuseOperationsRun :
    (s0.fuse.busy = false ∧ Waiting .fuseProgram (rq 8) s0 ∧ (rq 8).len = 8 ∧ (0 : Byte).toNat ≤ 7 ∧ (2 : U16).toNat ≤ 127 ∧ s0.mode.mode = Mode.service ∧ s0.fuse.finalised.getD ((0 : Byte).toNat) false = true) ∧
    (s0n.fuse.busy = false ∧ Waiting .fuseProgram (rq 8) s0n ∧ (rq 8).len = 8 ∧ (2 : Byte).toNat ≤ 7 ∧ (2 : U16).toNat ≤ 127 ∧ s0n.mode.mode = Mode.service ∧ s0n.fuse.finalised.getD ((2 : Byte).toNat) false = false ∧ roleZone s0n.mbox.auth.role ((2 : Byte).toNat) = false) ∧
    (s0.fuse.busy = false ∧ Waiting .fuseProgram (rq 8) s0 ∧ (rq 8).len = 8 ∧ (5 : Byte).toNat ≤ 7 ∧ (2 : U16).toNat ≤ 127 ∧ s0.mode.mode = Mode.service ∧ s0.fuse.finalised.getD ((5 : Byte).toNat) false = false ∧ roleZone s0.mbox.auth.role ((5 : Byte).toNat) = true ∧ (2 : U16).toNat < 126 ∧ (2 : U32) &&& s0.fuse.high ((5 : Byte).toNat) ((2 : U16).toNat) ≠ s0.fuse.high ((5 : Byte).toNat) ((2 : U16).toNat)) ∧
    (s0.fuse.busy = false ∧ Waiting .fuseProgram (rq 8) s0 ∧ (rq 8).len = 8 ∧ (5 : Byte).toNat ≤ 7 ∧ (2 : U16).toNat ≤ 127 ∧ s0.mode.mode = Mode.service ∧ s0.fuse.finalised.getD ((5 : Byte).toNat) false = false ∧ roleZone s0.mbox.auth.role ((5 : Byte).toNat) = true ∧ (2 : U16).toNat < 126 ∧ (1 : U32) = s0.fuse.high ((5 : Byte).toNat) ((2 : U16).toNat)) ∧
    (s0.fuse.busy = false ∧ Waiting .fuseProgram (rq 8) s0 ∧ (rq 8).len = 8 ∧ (5 : Byte).toNat ≤ 7 ∧ (2 : U16).toNat ≤ 127 ∧ s0.mode.mode = Mode.service ∧ s0.fuse.finalised.getD ((5 : Byte).toNat) false = false ∧ roleZone s0.mbox.auth.role ((5 : Byte).toNat) = true ∧ (2 : U16).toNat < 126 ∧ bitsIn (s0.fuse.high ((5 : Byte).toNat) ((2 : U16).toNat)) (7 : U32) ∧ (7 : U32) ≠ s0.fuse.high ((5 : Byte).toNat) ((2 : U16).toNat) ∧ s0.power.ride = none) ∧
    (s0r.fuse.busy = false ∧ Waiting .fuseProgram (rq 8) s0r ∧ (rq 8).len = 8 ∧ (5 : Byte).toNat ≤ 7 ∧ (2 : U16).toNat ≤ 127 ∧ s0r.mode.mode = Mode.service ∧ s0r.fuse.finalised.getD ((5 : Byte).toNat) false = false ∧ roleZone s0r.mbox.auth.role ((5 : Byte).toNat) = true ∧ (2 : U16).toNat < 126 ∧ bitsIn (s0r.fuse.high ((5 : Byte).toNat) ((2 : U16).toNat)) (7 : U32) ∧ (7 : U32) ≠ s0r.fuse.high ((5 : Byte).toNat) ((2 : U16).toNat) ∧ s0r.power.ride.isSome = true) ∧
    (f0.fuse.busy = false ∧ Waiting .fuseFinalize (rq 20) f0 ∧ (rq 20).len = 20 ∧ (5 : Byte).toNat ≤ 7 ∧ [(4 : U32), (0 : U32), (0 : U32), (0 : U32)].length = 4 ∧ f0.mode.mode = Mode.service ∧ (5 : Byte).toNat ≠ 4 ∧ 126 ∉ declaredWords [(4 : U32), (0 : U32), (0 : U32), (0 : U32)] ∧ 127 ∉ declaredWords [(4 : U32), (0 : U32), (0 : U32), (0 : U32)] ∧ f0.fuse.finalised.getD ((5 : Byte).toNat) false = false ∧ roleZone f0.mbox.auth.role ((5 : Byte).toNat) = true ∧ badWord ((5 : Byte).toNat) [(4 : U32), (0 : U32), (0 : U32), (0 : U32)] [(2, (2 : U32))] f0.fuse = some 2) ∧
    (f0.fuse.busy = false ∧ Waiting .fuseFinalize (rq 20) f0 ∧ (rq 20).len = 20 ∧ (5 : Byte).toNat ≤ 7 ∧ [(4 : U32), (0 : U32), (0 : U32), (0 : U32)].length = 4 ∧ f0.mode.mode = Mode.service ∧ (5 : Byte).toNat ≠ 4 ∧ 126 ∉ declaredWords [(4 : U32), (0 : U32), (0 : U32), (0 : U32)] ∧ 127 ∉ declaredWords [(4 : U32), (0 : U32), (0 : U32), (0 : U32)] ∧ f0.fuse.finalised.getD ((5 : Byte).toNat) false = false ∧ roleZone f0.mbox.auth.role ((5 : Byte).toNat) = true ∧ badWord ((5 : Byte).toNat) [(4 : U32), (0 : U32), (0 : U32), (0 : U32)] [] f0.fuse = none ∧ f0.power.ride = none ∧ f0.fuse.high ((5 : Byte).toNat) 126 = (0 : U32) ∧ f0.fuse.high ((5 : Byte).toNat) 127 = (0 : U32)) ∧
    (k1.fuse.busy = false ∧ k1.power.aoOn = true ∧ k1.fuse.finalised.getD (BitVec.toNat k1.fuse.addr / 128 % 8) false = true) ∧
    (k0.fuse.busy = false ∧ k0.power.aoOn = true ∧ k0.fuse.finalised.getD (BitVec.toNat k0.fuse.addr / 128 % 8) false = false ∧ bitsIn (k0.fuse.high (BitVec.toNat k0.fuse.addr / 128 % 8) (BitVec.toNat k0.fuse.addr % 128)) k0.fuse.data ∧ k0.fuse.data ≠ k0.fuse.high (BitVec.toNat k0.fuse.addr / 128 % 8) (BitVec.toNat k0.fuse.addr % 128) ∧ k0.power.ride = none) ∧
    (k0.fuse.busy = false ∧ k0.power.aoOn = true ∧ BitVec.toNat k0.fuse.addr / 128 % 8 ≠ 4 ∧ 126 ∉ declaredWords k0.fuse.declared ∧ 127 ∉ declaredWords k0.fuse.declared ∧ k0.fuse.finalised.getD (BitVec.toNat k0.fuse.addr / 128 % 8) false = false ∧ badWord (BitVec.toNat k0.fuse.addr / 128 % 8) k0.fuse.declared [] k0.fuse = none ∧ k0.power.ride = none ∧ k0.fuse.high (BitVec.toNat k0.fuse.addr / 128 % 8) 126 = (0 : U32) ∧ k0.fuse.high (BitVec.toNat k0.fuse.addr / 128 % 8) 127 = (0 : U32)) ∧
    (k0.fuse.busy = false ∧ k0.power.aoOn = true) := by
  and_intros <;> first
    | decide +kernel
    | exact ⟨by decide +kernel, by decide +kernel, by decide +kernel, by decide +kernel, by decide +kernel, by decide +kernel⟩
    | (unfold bitsIn; decide +kernel)

end FuseArray

namespace Firmware

def s0 := ask .fwStage (base .view)
def sg : State := { s0 with trust := { s0.trust with staging := some ⟨.ch0, 0, 8, [1,2,3,4]⟩, slotB := none } }
def ac := { ask .fwActivate (base .service) with trust := { Reset.trust with slotB := some Factory.image } }
def ac0 := ask .fwActivate (base .service)
def cap2 (s : State) : State := s
def st0 : State := { base .dormant with trust := { Reset.trust with selfTest := some 0, slotA := some {Factory.image with svn := 5} } }
def st1 : State := { st0 with trust := { st0.trust with slotA := some Factory.image }, profiles := st0.profiles }
def im := Factory.image
def z3 := { s0 with fuse := { s0.fuse with shadow := Reset.fuse.words } }
def tot := im.header.length + im.body.length
def gg : Staging := ⟨.ch0, 0, tot, im.header⟩
def sg2 : State := { z3 with trust := { z3.trust with staging := some gg, slotB := none } }

theorem witness_FirmwareIsStagedAndActivated :
    (Waiting .fwStage (rq (12 + [(5 : Byte)].length)) sg ∧ (rq (12 + [(5 : Byte)].length)).len = 12 + [(5 : Byte)].length ∧ [(5 : Byte)].length ≤ 4084 ∧ sg.staging = some { chan := Chan.ch0, gen := 0, total := 8, bytes := [(1 : Byte), (2 : Byte), (3 : Byte), (4 : Byte)] : Staging } ∧ { chan := Chan.ch0, gen := 0, total := 8, bytes := [(1 : Byte), (2 : Byte), (3 : Byte), (4 : Byte)] : Staging }.total = (8 : U32).toNat ∧ (4 : U32).toNat = { chan := Chan.ch0, gen := 0, total := 8, bytes := [(1 : Byte), (2 : Byte), (3 : Byte), (4 : Byte)] : Staging }.bytes.length ∧ { chan := Chan.ch0, gen := 0, total := 8, bytes := [(1 : Byte), (2 : Byte), (3 : Byte), (4 : Byte)] : Staging }.bytes.length + [(5 : Byte)].length ≤ (8 : U32).toNat) ∧
    (Waiting .fwStage (rq (12 + [(5 : Byte), (6 : Byte), (7 : Byte), (8 : Byte)].length)) sg ∧ (rq (12 + [(5 : Byte), (6 : Byte), (7 : Byte), (8 : Byte)].length)).len = 12 + [(5 : Byte), (6 : Byte), (7 : Byte), (8 : Byte)].length ∧ [(5 : Byte), (6 : Byte), (7 : Byte), (8 : Byte)].length ≤ 4084 ∧ sg.staging = some { chan := Chan.ch0, gen := 0, total := 8, bytes := [(1 : Byte), (2 : Byte), (3 : Byte), (4 : Byte)] : Staging } ∧ { chan := Chan.ch0, gen := 0, total := 8, bytes := [(1 : Byte), (2 : Byte), (3 : Byte), (4 : Byte)] : Staging }.total = (8 : U32).toNat ∧ (4 : U32).toNat = { chan := Chan.ch0, gen := 0, total := 8, bytes := [(1 : Byte), (2 : Byte), (3 : Byte), (4 : Byte)] : Staging }.bytes.length ∧ { chan := Chan.ch0, gen := 0, total := 8, bytes := [(1 : Byte), (2 : Byte), (3 : Byte), (4 : Byte)] : Staging }.bytes.length + [(5 : Byte), (6 : Byte), (7 : Byte), (8 : Byte)].length ≤ (8 : U32).toNat ∧ { chan := Chan.ch0, gen := 0, total := 8, bytes := [(1 : Byte), (2 : Byte), (3 : Byte), (4 : Byte)] : Staging }.bytes.length + [(5 : Byte), (6 : Byte), (7 : Byte), (8 : Byte)].length = (8 : U32).toNat) ∧
    (Waiting .fwStage (rq (12 + [(5 : Byte)].length)) s0 ∧ (rq (12 + [(5 : Byte)].length)).len = 12 + [(5 : Byte)].length ∧ [(5 : Byte)].length ≤ 4084 ∧ s0.staging = none ∧ [(5 : Byte)].length ≤ (8 : U32).toNat) ∧
    (Waiting .fwStage (rq (12 + [(5 : Byte)].length)) sg ∧ (rq (12 + [(5 : Byte)].length)).len = 12 + [(5 : Byte)].length ∧ [(5 : Byte)].length ≤ 4084 ∧ (0 : Byte).toNat ≤ 1 ∧ (3 : U32).toNat ≠ ((Option.map (fun x => x.bytes) sg.staging).getD []).length) ∧
    (Waiting .fwActivate (rq 0) ac ∧ (rq 0).len = 0 ∧ ac.mode.mode = Mode.service ∧ ac.modeBusy = false ∧ ac.staging = none ∧ (ac.trust.slot !ac.trust.activeB).isSome = true) ∧
    (Waiting .fwActivate (rq 0) ac0 ∧ (rq 0).len = 0 ∧ ac0.mode.mode = Mode.service ∧ ac0.modeBusy = false ∧ ac0.staging = none ∧ (ac0.trust.slot !ac0.trust.activeB) = none) ∧
    (Waiting .resetWarm (rq 4) (ask .resetWarm (base Mode.take)) ∧ (rq 4).len = 4 ∧ (1 : Byte).toNat ≤ 1 ∧ ((1 : Byte) = (1 : Byte) ∨ (ask .resetWarm (base Mode.take)).mode.mode ≠ Mode.take ∧ (ask .resetWarm (base Mode.take)).mode.mode ≠ Mode.burst)) ∧
    (Waiting .resetWarm (rq 4) (ask .resetWarm (base Mode.take)) ∧ (rq 4).len = 4 ∧ (0 : Byte).toNat ≤ 1 ∧ ((ask .resetWarm (base Mode.take)).mode.mode = Mode.take ∨ (ask .resetWarm (base Mode.take)).mode.mode = Mode.burst)) ∧
    (st0.testing = true ∧ st0.trust.selfTest = some 0 ∧ st0.time.now ≤ 0 + 5 * Config.ticksPerSecond ∧ st0.power.ride = none) ∧
    (st1.testing = true ∧ st1.trust.selfTest = some 0 ∧ st1.time.now ≤ 0 + 5 * Config.ticksPerSecond ∧ st1.power.ride = none) ∧
    (st1.testing = true ∧ st1.dumpWriting = false) ∧
    (Waiting .fwStage (rq (12 + im.body.length)) sg2 ∧ (rq (12 + im.body.length)).len = 12 + im.body.length ∧ im.body.length ≤ 4084 ∧ sg2.staging = some gg ∧ gg.total = (BitVec.ofNat 32 tot).toNat ∧ (4096 : U32).toNat = gg.bytes.length ∧ gg.bytes.length + im.body.length ≤ (BitVec.ofNat 32 tot).toNat ∧ gg.bytes.length + im.body.length = (BitVec.ofNat 32 tot).toNat) := by
  and_intros <;> first
    | decide +kernel
    | exact ⟨by decide +kernel, by decide +kernel, by decide +kernel, by decide +kernel, by decide +kernel, by decide +kernel⟩
    | rfl

end Firmware

namespace Resets

def s0 := base .view
def s1 := { s0 with pins := { s0.pins with inReset := true, modReset := true } }
def s2 := { s0 with mode := {s0.mode with profile := 2}, pins := {s0.pins with resetAt := some 7777}, log := {s0.log with entries := [⟨⟨0x0101,0x5000,1,1,0,0⟩,0,1,false,false,false⟩]}}

theorem witness_ResetsKeepTheirStores :
    (cs.ac || cs.dc) = true ∧
    (s0.resettable = true ∧ s0.pins.inReset = false ∧ s0.dumpWriting = false) ∧
    (s0.resettable = true ∧ s0.dumpWriting = false ∧ s0.pins.inReset = false) ∧
    (s1.resettable = true ∧ s1.pins.inReset = true) ∧
    (s2.resettable = true ∧ s2.pins.inReset = false ∧ s2.dumpWriting = false) ∧
    (s2.resettable = true ∧ s2.dumpWriting = false ∧ s2.pins.inReset = false) ∧
    ((let __src := cs;       { psel0 := true, psel1 := __src.psel1, roleMv := __src.roleMv, serviceEn := __src.serviceEn, unstable := __src.unstable, ac := false, dc := true, store := 0, weak := __src.weak, around := __src.around : ColdStart }).ac ||     (let __src := cs;       { psel0 := true, psel1 := __src.psel1, roleMv := __src.roleMv, serviceEn := __src.serviceEn, unstable := __src.unstable, ac := false, dc := true, store := 0, weak := __src.weak, around := __src.around : ColdStart }).dc) =   true := by
  and_intros <;> decide +kernel

end Resets

namespace Inputs

def s0 := base .view
def pw (f : PowerUnit → PowerUnit) (s : State) : State := { s with power := f s.power }
def a1 := pw (fun p => {p with dcPresent := false}) s0
def d0 := pw (fun p => {p with draw := .dc}) s0
def d1 := pw (fun p => {p with draw := .dc, acPresent := false}) s0
def r0 := pw (fun p => {p with draw := .dc, acSince := some 400}) s0
def q0 := pw (fun p => {p with draw := .none, acPresent := false, dcPresent := false, ride := some 4000, holdState := .discharging}) {s0 with time := {s0.time with now := 5000, module := 9000}}
def q1 := { q0 with frame := { q0.frame with readout := some (rd (govN 5 (tag 0 0)) 0) } }

theorem witness_InputsMoveTheDraw :
    (s0.power.aoOn = true ∧ s0.power.retire = none ∧ s0.power.acPresent = true ∧ s0.power.draw = Draw.ac ∧ s0.power.dcPresent = true) ∧
    (a1.power.aoOn = true ∧ a1.power.retire = none ∧ a1.power.acPresent = true ∧ a1.power.draw = Draw.ac ∧ a1.power.dcPresent = false) ∧
    (a1.power.aoOn = true ∧ a1.power.retire = none ∧ a1.power.acPresent = true ∧ a1.power.draw = Draw.ac) ∧
    (s0.power.aoOn = true ∧ s0.power.retire = none ∧ s0.power.acPresent = true ∧ s0.power.draw = Draw.ac) ∧
    (d0.power.aoOn = true ∧ d0.power.retire = none ∧ d0.power.dcPresent = true ∧ d0.power.draw = Draw.dc ∧ d0.power.acPresent = true) ∧
    (d1.power.aoOn = true ∧ d1.power.retire = none ∧ d1.power.dcPresent = true ∧ d1.power.draw = Draw.dc ∧ d1.power.acPresent = false) ∧
    (d1.power.aoOn = true ∧ d1.power.retire = none ∧ d1.power.dcPresent = true ∧ d1.power.draw = Draw.dc) ∧
    (r0.power.aoOn = true ∧ r0.power.retire = none ∧ r0.power.acSince = some 400 ∧ r0.power.acPresent = true ∧ r0.power.draw = Draw.dc) ∧
    (q0.power.aoOn = true ∧ q0.power.retire = none ∧ q0.power.ride = some 4000 ∧ (if true = true then q0.power.acPresent else q0.power.dcPresent) = false ∧ q0.power.draw = Draw.none ∧ q0.fuse.waiting = none) ∧
    (q0.power.aoOn = true ∧ q0.power.retire = none ∧ q0.power.ride = some 4000 ∧ (if false = true then q0.power.acPresent else q0.power.dcPresent) = false ∧ q0.power.draw = Draw.none ∧ q0.fuse.waiting = none) ∧
    (q1.power.aoOn = true ∧ q1.power.retire = none ∧ q1.power.ride = some 4000 ∧ q1.frame.readout.isSome = true) ∧
    Instr.rideThroughExpiry ∈ [Instr.rideThroughExpiry, Instr.storeAtVRetire] ∧
    Instr.storeAtVRetire ∈ [Instr.rideThroughExpiry, Instr.storeAtVRetire] := by
  and_intros <;> decide +kernel

end Inputs

namespace Loads

def s0 := base .view
def pw (f : PowerUnit → PowerUnit) (s : State) : State := { s with power := f s.power }
def v1 : State := (pw (fun p => {p with overSince := some 0}) {s0 with time := {s0.time with now := 20000000, module := 20000000}})
def v2 : State := (pw (fun p => {p with loadCap := some 4, underSince := some 0}) {s0 with time := {s0.time with now := 200000000, module := 20000000}})
def v3 : State := (pw (fun p => {p with loadCap := some 4, underSince := some 0}) {s0 with time := {s0.time with now := 200000000, module := 20000000}})
def th (f : ThermalUnit → ThermalUnit) (s : State) : State := { s with thermal := f s.thermal }
def v4 : State := (th (fun t => {t with genazHot := true}) s0)
def v5 : State := (th (fun t => {t with genazHot := true}) s0)
def v6 : State := (th (fun t => {t with genazHot := false, working := 0}) s0)
def v7 : State := {s0 with dump := {s0.dump with fatal := some ⟨0x0343,0,0,0,2,[],[],0,false,false,false⟩}}

theorem witness_LoadAndTemperaturesAreWatched :
    s0.power.aoOn = true ∧
    v1.power.aoOn = true ∧
    v2.power.aoOn = true ∧
    v3.power.aoOn = true ∧
    (s0.power.aoOn = true ∧ ((1680 : Int) ≤ (1680 : Int) ∨ s0.power.stageFault = true)) ∧
    (v4.power.aoOn = true ∧ ((0 : Int) ≤ (1680 : Int) ∨ v4.power.stageFault = true)) ∧
    (v5.power.aoOn = true ∧ ((0 : Int) ≤ (1680 : Int) ∨ v5.power.stageFault = true)) ∧
    (v6.power.aoOn = true ∧ ((0 : Int) ≤ (1680 : Int) ∨ v6.power.stageFault = true)) ∧
    (s0.power.aoOn = true ∧ (1680 : Int) < (1681 : Int) ∧ s0.power.stageFault = false) ∧
    (v7.power.aoOn = true ∧ (1680 : Int) < (1681 : Int) ∧ v7.power.stageFault = false) := by
  and_intros <;> decide +kernel

end Loads

namespace HostLink

def s0 := base .view
def lk (f : LinkUnit → LinkUnit) (s : State) : State := { s with link := f s.link }
def s1 := ask .hello { s0 with view := { s0.view with rings := s0.view.rings.map fun r => {r with state := .running} }, trust := {s0.trust with secured := true}, regs := {s0.regs with waiting := some ⟨false,3,3,3,3,false,.pf0⟩} }
def s2 := { s1 with mbox := { s1.mbox with c0 := { s1.mbox.c0 with copies := [⟨(3,0),1,2,true,.ok,0,[],false⟩] }, auth := {s1.mbox.auth with role := 2}, ring := {s1.mbox.ring with enable := true, entries := 16, mask := 0xFFFF } } }
def v1 : State := {base .dormant with power := {onAll with permitL2 := true}}
def p1 := lk (fun l => {l with pf1 := {l.pf1 with bme := false, d3hot := true, msixEnable := true, pba := [3, 5], table := List.replicate 32 ⟨0,0,false⟩}}) s2
def v2 : State := (lk (fun l => {l with pf1 := {l.pf1 with d3hot := false}}) p1)
def v3 : State := (lk (fun l => {l with pf1 := {l.pf1 with bme := true}}) p1)
def a8 := lk (fun l => {l with asked := 8}) s2
def ins := lk (fun l => {l with ide := ⟨none, none, true, true⟩}) s2
def u0 : State := { s2 with fuse := { s2.fuse with sensed := false } }
def m0 := { s2 with mbox := { s2.mbox with c2 := {s2.mbox.c2 with cqTail := 1}, ring := {s2.mbox.ring with produced := 4} }, link := {s2.link with pf0 := {s2.link.pf0 with table := (List.replicate 64 (⟨0,0,false⟩ : MsixEntry)).set 2 ⟨0,0,true⟩}} }

theorem witness_HostLinkChangesState :
    (Instr.perst true ∈ [Instr.perst true] ++ if s2.link.state = LinkState.down ∨ s2.link.state = LinkState.l2 then [] else [Instr.linkDown]) ∧
    (Instr.linkDown ∈ [Instr.perst true] ++ if s2.link.state = LinkState.down ∨ s2.link.state = LinkState.l2 then [] else [Instr.linkDown]) ∧
    (s2.pdOn 55 = true ∧ s2.pdOn 56 = true ∧ s2.link.perst = false ∧ s2.clk.refclk = true ∧ s2.power.retire = none) ∧
    ((base Mode.ready).pdOn 55 = true ∧ (base Mode.ready).pdOn 56 = true ∧ (base Mode.ready).link.perst = false ∧
      (base Mode.ready).clk.refclk = true ∧ (base Mode.ready).power.retire = none) ∧
    (s2.link.live = true ∧ s2.link.flit = true ∧ 0 < 8 ∧ 8 < s2.link.width ∧ 8 ≠ s2.link.asked) ∧
    (a8.link.live = true ∧ a8.link.flit = true ∧ 0 < 8 ∧ 8 < a8.link.width ∧ 8 = a8.link.asked) ∧
    (s2.link.live = true ∧ s2.link.flit = true ∧ 0 < 16 ∧ s2.link.width ≤ 16) ∧
    (v1.link.hears = true ∧ v1.mode.mode = Mode.dormant ∧ v1.power.permitL2 = true) ∧
    (s2.link.hears = true ∧ (s2.mode.mode ≠ Mode.dormant ∨ s2.power.permitL2 = false)) ∧
    ins.link.hears = false ∧
    v2.link.pf1.bme = false ∧
    v3.link.pf1.d3hot = true := by
  and_intros <;> decide +kernel

def c5 : State := caps 0x1F s2
def q0 : State := lk (fun l => { l with l1Permit := true, pf1 := { l.pf1 with config := { l.pf1.config with linkCtl := 2 } } }) c5
theorem witness_ConfigurationSpaceAnswers :
    u0.fuse.sensed = false ∧
    c5.fuse.sensed = true ∧
    (c5.fuse.sensed = true ∧ (0x100, 0x01, 2, true) ∈ c5.extended true) ∧
    (c5.fuse.sensed = true ∧ c5.cap 5 = false ∧ (0x2D0, 0x2E, 1, false) ∈ c5.extended false) ∧
    (c5.fuse.sensed = true ∧ c5.link.live = true ∧ (0 : U64).getLsbD 2 = false) ∧
    (c5.fuse.sensed = true ∧ c5.link.live = true ∧ (4 : U64).getLsbD 2 = true ∧ (c5.link.func false).bme = true) ∧
    (q0.fuse.sensed = true ∧ q0.link.live = true ∧ q0.link.l1Permit = true ∧ q0.link.pf1.config.linkCtl = 2 ∧ q0.link.pf0.config.linkCtl = 0) := by
  and_intros <;> decide +kernel

/-- Table 8-4: the structures of both functions, in the order of their next pointers. -/
theorem test_capability_lists :
    readConfig false 0x40 c5 = some 0x40035001 ∧ readConfig true 0x148 c5 = some 0x10003 ∧ readConfig false 0x2C0 c5 = some 0x2D010018 ∧
      readConfig false 0x2D0 c5 = some 0x1002E := by
  decide +kernel

end HostLink

namespace LinkErrors

def s0 := base .view
def k32 : List Byte := List.replicate 32 7
def i0 := {s0 with link := {s0.link with ide := ⟨some k32, some k32, true, false⟩}}
def d0 := {s0 with link := {s0.link with doe := ⟨some [1], 3⟩}}
def z0 := {s0 with trust := {s0.trust with secured := true}, link := {s0.link with ide := ⟨some k32, none, false, true⟩}}

def e0 := {s0 with link := {s0.link with aer1 := {s0.link.aer1 with ecrcCheck := true}}}
theorem witness_LinkErrorsAndDoeAnswer :
    s0.link.hears = true ∧
    (e0.link.hears = true ∧ (e0.link.aer true).ecrcCheck = true) ∧
    {i0 with link := {i0.link with ide := ⟨some k32, some k32, true, true⟩}}.link.hears = false ∧
    i0.link.ide.started = true ∧
    d0.link.doe.response.isSome = true ∧
    (d0.link.doe.response = none ∨ true = true) ∧
    ((d0.link.doe.response = none ∨ true = true) ∧ [(0x12 : Byte), (2 : Byte)].length ≤ 4088 ∧ spdmVersionOk [0x12, 2] = true) ∧
    (s0.link.doe.response = none ∨ false = true) ∧
    ((z0.link.doe.response = none ∨ false = true) ∧ z0.trust.secured = true ∧ z0.cap 5 = true) ∧
    ((s0.link.doe.response = none ∨ false = true) ∧ (s0.trust.secured = false ∨ s0.cap 5 = false)) ∧
    (z0.takesKek = true ∧ k32.length = 32) ∧
    s0.takesKek = false := by
  and_intros <;> decide +kernel

end LinkErrors

namespace Plls

def ck (f : ClockUnit → ClockUnit) (s : State) : State := { s with clk := f s.clk }
def bands : List BandEntry := [⟨0,100,0,false⟩,⟨5000000,6120000,0,true⟩,⟨3000000,3264000,0x100,true⟩,⟨2000000,2550000,0x200,true⟩]
def s0 := ck (fun c => {c with bands := bands}) (base .service)
def st (p : PllId) (q : PllState) (s : State) : State := ck (fun c => c.set p {c.get p with state := q}) s
def lock3 := st .a .locked (st .b .locked (st .c .locked s0))
def la := st .a .locking lock3
def lb := ck (fun c => {c with pllB := {c.pllB with locks := 1, tries := 1}}) (st .b .locking lock3)
def lx := ck (fun c => {c with xrefPresent := false}) la
def ra := ck (fun c => {c with pllA := {c.pllA with retryAt := some 70000}}) (st .a .failed lock3)
def hb := st .b .holdover lock3
def sc := { s0 with power := s0.power.setDomain 58 false }
def v1 : State := (ck (fun c => {c with bands := []}) s0)

theorem witness_PllsLockAndHoldOver :
    (la.mode.seq = none ∧ (la.clk.get PllId.a).state = PllState.locking ∧ (la.clk.get PllId.a).retryAt = none ∧ la.refHere PllId.a (la.clk.get PllId.a).ref = true) ∧
    (lx.mode.seq = none ∧ (lx.clk.get PllId.a).state = PllState.locking ∧ (lx.clk.get PllId.a).retryAt = none ∧ lx.refHere PllId.a (lx.clk.get PllId.a).ref = false) ∧
    (lb.mode.seq = none ∧ (lb.clk.get PllId.b).state = PllState.locking ∧ (lb.clk.get PllId.b).retryAt = none ∧ lb.refHere PllId.b (lb.clk.get PllId.b).ref = true) ∧
    (ra.mode.seq = none ∧ (ra.clk.get PllId.a).retryAt = some 70000 ∧ ra.pdOn (pllDomain PllId.a) = true ∧ ra.clk.bandFor PllId.a (vcoTarget PllId.a ra) = some 1 ∧ ra.refHere PllId.a 0 = true) ∧
    (lock3.clk.get PllId.b).state = PllState.locked ∧
    (s0.clk.get PllId.b).state ≠ PllState.locked ∧
    (hb.refBack PllId.b = true ∧ (hb.clk.get PllId.b).state = PllState.holdover) ∧
    hb.power.aoOn = true ∧
    (sc.mayRelock PllId.c = true ∧ sc.clk.bandFor PllId.c (vcoTarget PllId.c sc) = some 3) ∧
    (v1.mayRelock PllId.b = true ∧ v1.clk.bandFor PllId.b (vcoTarget PllId.b v1) = none) := by
  and_intros <;> decide +kernel

end Plls

namespace Registers

def s0 := base .view
def c0 := { s0 with mbox := {s0.mbox with c0 := {s0.mbox.c0 with entries := 16}} }
def c1 := { s0 with mbox := {s0.mbox with c0 := {s0.mbox.c0 with entries := 12}} }
def v1 : State := {s0 with power := s0.power.setDomain 76 false}
def w : BridgeAccess := ⟨false,0x20054,77,3,40,false,.pf0⟩
def b0 := {s0 with regs := {s0.regs with waiting := some w}}

theorem witness_RegisterWritesAreJudged :
    (c0.link.takes (chanPf1 Chan.ch0) = true ∧ (c0.mbox.get Chan.ch0).enable = false ∧ (powerIn (BitVec.toNat (c0.mbox.get Chan.ch0).entries) 2 16 && decide (BitVec.toNat (c0.mbox.get Chan.ch0).sqBase % 4096 = 0) && decide (BitVec.toNat (c0.mbox.get Chan.ch0).cqBase % 4096 = 0)) = true) ∧
    (c1.link.takes (chanPf1 Chan.ch0) = true ∧ (c1.mbox.get Chan.ch0).enable = false ∧ (powerIn (BitVec.toNat (c1.mbox.get Chan.ch0).entries) 2 16 && decide (BitVec.toNat (c1.mbox.get Chan.ch0).sqBase % 4096 = 0) && decide (BitVec.toNat (c1.mbox.get Chan.ch0).cqBase % 4096 = 0)) = false) ∧
    (s0.link.takes false = true ∧ s0.regs.waiting = none ∧ 6 % 4 ≠ 0) ∧
    (s0.link.takes false = true ∧ s0.regs.waiting = none ∧ s0.pdOn 76 = true ∧ s0.clk.genref = false) ∧
    (v1.link.takes false = true ∧ v1.regs.waiting = none ∧ (regionAt false 131152).isSome = true ∧ 131152 % 4 = 0 ∧ regionAt false 131152 = some ((regionAt false 131152).get (by decide +kernel)) ∧ ((regionAt false 131152).get (by decide +kernel)).on v1 = false) ∧
    ((ask .hello s0).link.takes false = true ∧ (ask .hello s0).regs.waiting = none ∧ (ask .hello s0).mbox.c0.enable = true ∧ (ask .hello s0).pdOn 55 = true) ∧
    (s0.link.takes false = true ∧ s0.regs.waiting = none ∧ s0.mbox.c0.enable = false ∧ s0.pdOn 55 = true) ∧
    (b0.regs.waiting = some w ∧ w.counted = false) ∧
    (b0.regs.waiting = some w ∧ w.isRead = false ∧ w.offset = 131156 ∧ w.clock = 3 ∧ b0.regs.queue = [] ∧ b0.pdOn 76 = true) ∧
    (tripled 68 = true ∧ 1 < 3 ∧ s0.power.aoOn = true) := by
  and_intros <;> decide +kernel

end Registers

namespace FatalCauses

def s0 := base .view
def hd := {s0 with dump := {s0.dump with held := some ⟨0x0343, 7, List.replicate 100 0, true, false⟩}, mode := {s0.mode with mode := .take}, take := {s0.take with state := .running}, frame := {s0.frame with flying := none}}
def fq : FatalSeq := ⟨0x0343,5,0,0,2,[],[],0,false,false,false⟩
def fs (f : FatalSeq) (s : State) := {s with dump := {s.dump with fatal := some f}, pins := {s.pins with fault := true}}
def fq0 : FatalSeq := {fq with time := 0}
def fq1 : FatalSeq := {fq with time := 0, cause := 0x0E12}
def fqw : FatalSeq := {fq with watchdog := true}
def fqn : FatalSeq := {fq with noDump := true}
def dm := fs fq (base .dormant)

theorem witness_FatalCausesRunTheSequence :
    (s0.power.aoOn = true ∧ s0.dump.fatal = none ∧ (Instr.powerStageFault, 264, srcAo) ∈ ([(Instr.powerStageFault, 264, srcAo), (Instr.keeperWatchdogExpiry, 3600, srcAo), (Instr.firmwareAssertion CoreId.keeper, 3601, srcFirmware (coreNum CoreId.keeper))] ++ if tripled 68 = true then [(Instr.triplicateDisagree 68, 2306, srcAo)] else []) ++ if s0.pdOn 32 = true ∧ s0.frame.linkLost = false ∧ s0.capturing = true then [(Instr.stackLinkLoss, 835, srcLane 0)] else []) ∧
    (s0.power.aoOn = true ∧ s0.dump.fatal = none ∧ (Instr.keeperWatchdogExpiry, 3600, srcAo) ∈ ([(Instr.powerStageFault, 264, srcAo), (Instr.keeperWatchdogExpiry, 3600, srcAo), (Instr.firmwareAssertion CoreId.keeper, 3601, srcFirmware (coreNum CoreId.keeper))] ++ if tripled 68 = true then [(Instr.triplicateDisagree 68, 2306, srcAo)] else []) ++ if s0.pdOn 32 = true ∧ s0.frame.linkLost = false ∧ s0.capturing = true then [(Instr.stackLinkLoss, 835, srcLane 0)] else []) ∧
    (s0.power.aoOn = true ∧ s0.dump.fatal = none ∧ (Instr.firmwareAssertion CoreId.keeper, 3601, 20737) ∈ ([(Instr.powerStageFault, 264, srcAo), (Instr.keeperWatchdogExpiry, 3600, srcAo), (Instr.firmwareAssertion CoreId.keeper, 3601, srcFirmware (coreNum CoreId.keeper))] ++ if tripled 68 = true then [(Instr.triplicateDisagree 68, 2306, srcAo)] else []) ++ if s0.pdOn 32 = true ∧ s0.frame.linkLost = false ∧ s0.capturing = true then [(Instr.stackLinkLoss, 835, srcLane 0)] else []) ∧
    (s0.power.aoOn = true ∧ s0.dump.fatal = none ∧ (Instr.triplicateDisagree 68, 2306, srcAo) ∈ ([(Instr.powerStageFault, 264, srcAo), (Instr.keeperWatchdogExpiry, 3600, srcAo), (Instr.firmwareAssertion CoreId.keeper, 3601, srcFirmware (coreNum CoreId.keeper))] ++ if tripled 68 = true then [(Instr.triplicateDisagree 68, 2306, srcAo)] else []) ++ if s0.pdOn 32 = true ∧ s0.frame.linkLost = false ∧ s0.capturing = true then [(Instr.stackLinkLoss, 835, srcLane 0)] else []) ∧
    (s0.power.aoOn = true ∧ s0.pdOn 32 = true ∧ s0.frame.linkLost = false ∧ s0.capturing = false) ∧
    ((fs fq s0).power.aoOn = true ∧ (fs fq s0).dump.fatal = some fq ∧ fq.time ≠ (fs fq s0).time.module) ∧
    ((fs fq0 s0).power.aoOn = true ∧ (fs fq0 s0).dump.fatal = some fq0 ∧ fq0.time = (fs fq0 s0).time.module ∧ fq0.noDump = false) ∧
    ((fs fq s0).power.aoOn = true ∧ (fs fq s0).dump.fatal = some fq ∧ (fs fq s0).resettable = true ∧ (fs fq s0).pins.modReset = false ∧ fq.watchdog = false ∧ fq.resetWaits = false) ∧
    ((fs fqw s0).power.aoOn = true ∧ (fs fqw s0).dump.fatal = some fqw ∧ (fs fqw s0).resettable = true ∧ (fs fqw s0).pins.modReset = false ∧ fqw.watchdog = true) ∧
    ((fs fqn hd).power.aoOn = true ∧ (fs fqn hd).dump.fatal = some fqn ∧ (fs fqn hd).resettable = true ∧ (fs fqn hd).pins.modReset = false ∧ fqn.watchdog = false ∧ fqn.resetWaits = false) ∧
    (dm.power.aoOn = true ∧ dm.dump.fatal = some fq ∧ dm.resettable = true ∧ dm.pins.modReset = false ∧ fq.watchdog = false ∧ fq.resetWaits = false) ∧
    (hd.power.aoOn = true ∧ hd.dump.fatal = none ∧ (Instr.stackLinkLoss, 835, 8192) ∈ ([(Instr.powerStageFault, 264, srcAo), (Instr.keeperWatchdogExpiry, 3600, srcAo), (Instr.firmwareAssertion CoreId.keeper, 3601, srcFirmware (coreNum CoreId.keeper))] ++ if tripled 68 = true then [(Instr.triplicateDisagree 68, 2306, srcAo)] else []) ++ if hd.pdOn 32 = true ∧ hd.frame.linkLost = false ∧ hd.capturing = true then [(Instr.stackLinkLoss, 835, srcLane 0)] else []) := by
  and_intros <;> decide +kernel

end FatalCauses

/-! ## Single rules -/

namespace Latches

/-- A frame with one binning, and a row of black sites of which the first and the second set latches. -/
def fr (bin : Nat) : Frame := ⟨{ emptyData with words := ⟨0x40000000000, []⟩ }, { govN 7 (tag 0 0) with sensor := { Factory.settings.sensor with bin := bin } }⟩
def satL : LatchRead := ⟨8, 0, 63, true, false⟩
def runL : LatchRead := ⟨9, 0, 12, true, true⟩
def row : RowRead := ⟨.top, 4, .a, ⟨5000, []⟩, [satL, runL], [], true⟩
def three : Site := { clearSite with tally := 3 }
def full : NodeState := { clearNode with tally := 60 }
def P : State := ask .rotationSet (base .ready)

theorem witness_TalliesEndAtSixtyThree :
    (full.tally ≤ 63 ∧ full.tally + three.tally ≤ 63) ∧
    ((full.fold 1 0).tally ≤ 63 ∧ 63 < (full.fold 1 0).tally + three.tally) ∧
    (full.receive three).tally = 63 ∧
    ((clearSite.setNode .b { full with sat := true }).node .b).sat = true ∧
    ((fr 1).gov.sensor.bin = 1 ∧ (row.latches.find? fun m => decide (m.x = satL.x ∧ m.y = 0)) = some satL ∧ satL.run = false ∧
      satL.sat = true) ∧
    ((row.latches.find? fun m => decide (m.x = runL.x ∧ m.y = 0)) = some runL ∧ runL.run = true) := by
  decide +kernel

theorem witness_BinnedSitesShowTheirLatches :
    ((fr 2).gov.sensor.bin ≠ 1 ∧ leadOf false 2 4 = 8 ∧ ((fr 2).siteRead row 8 0).run = false ∧ ((fr 2).siteRead row 8 1).run = false ∧
      ((fr 2).siteRead row 10 0).run = false ∧ ((fr 2).siteRead row 10 1).run = false ∧ ((fr 2).siteRead row 8 0).sat = true) ∧
    (leadOf false 2 5 = 9 ∧ ((fr 2).siteRead row 9 0).run = true) := by
  decide +kernel

theorem witness_BlackSamplesAreValidNearThePedestal :
    (fr 1).gov.sensor.bin = 1 ∧ active 10 row.y = false ∧ wordExcl ((fr 1).siteRead row 10 0).word = true ∧
    ((fr 1).siteRead row 10 0).run = false ∧ ((fr 1).siteRead row 10 0).sat = false ∧ ((fr 1).siteRead row 9 0).run = true := by
  decide +kernel

theorem witness_RotationFollowsTheFrameNumber :
    (⟨7, 40, 40, [.rotK 5], Classes.none, Classes.none, false, false, 5, 0, 0⟩ : LedgerEntry).standing = [.rotK 5] ∧
    Waiting .rotationSet (rq 4) P ∧ (rq 4).len = 4 ∧ 1 ≤ (255 : Byte).toNat ∧ P.following = false ∧ P.dump.fatal = none ∧
    P.ledgerRuns = false ∧ entryCheck [.rotK 255] P.settings.sensor P.settings.sensor.tMin 0 P = none := by
  and_intros <;> first
    | decide +kernel
    | exact ⟨by decide +kernel, by decide +kernel, by decide +kernel, by decide +kernel, by decide +kernel, by decide +kernel⟩

theorem witness_CompareMatchesOnce :
    (base .view).sync.timers.length = 16 ∧ Reachable (base .view) ∧ (base .view).pdOn 76 = true ∧
    ((base .view).sync.timer 11).running = false ∧
    (({ Reset.timer with ctrl := 0x10000, compare := 5 } : Timer).matchSelf = 1 ∧
      (({ Reset.timer with ctrl := 0x10000, compare := 5 } : Timer).step 5 false 0).matched = true) ∧
    (Reset.timer.matchSelf ≠ 1 ∧ Reset.timer.matchSelf ≠ 3 ∧ Reset.timer.ovfSelf ≠ 1 ∧ Reset.timer.ovfSelf ≠ 3) := by
  and_intros <;> decide +kernel

end Latches

/-! ## The commands run one by one -/

namespace Global

/-- Two commands wait, and the array has a finalised zone with bits. -/
def queued : State := { ask .getStatus (base .view) with pending := [.getStatus (rq 0), .debugHalt true] }

/-- A reset state with a command that burns a word of zone 5: the first of ADDR and DATA. -/
def burning : State :=
  { State.reset with
    pending := [.program []], power := onAll, fuse := { Reset.fuse with addr := 0x282, data := 5 } }

theorem burning_sound : burning.Sound where
  profiles := by decide +kernel
  factory := by decide +kernel
  zones := by decide +kernel
  places := by decide +kernel
  busy := by decide +kernel
  waiting := by intro j h; cases h

/-- A sound state from which a step runs, and burns bits. -/
theorem witness_EveryStepKeepsStatesSound : ∃ s t, s.Sound ∧ step s = .next t ∧ t.fuse.high 5 2 = 5 :=
  ⟨burning, _, burning_sound, rfl, by decide +kernel⟩

/-- The zones that it leaves are finalised, and hold bits. -/
theorem witness_NoStepUndoesAFuse :
    ∃ s t, s.Sound ∧ step s = .next t ∧ s.fuse.finalised.getD 0 false = true ∧ s.fuse.high 0 1 ≠ 0 ∧ t.fuse ≠ s.fuse :=
  ⟨burning, _, burning_sound, rfl, by decide +kernel, by decide +kernel, by decide +kernel⟩

/-- A step with two commands waiting takes the first. -/
theorem witness_TheQueueIsFirstInFirstOut : ∃ s t, step s = .next t ∧ s.pending.length = 2 ∧ t.pending = [.debugHalt true] :=
  ⟨queued, _, rfl, rfl, by decide +kernel⟩

/-- With no command waiting, a state whose event ring owes no vector. -/
theorem witness_StepRunsTheFrontCommand : State.reset.pending = [] ∧ State.reset.mbox.ring.vecDue = false := by decide +kernel

end Global

/-! ## Ill-formed terms -/

/-- One term for each check, which it refuses. -/
theorem test_illFormed_are_refused : ∀ i ∈ ([
    .hello (rq 4097) 3 0,
    .modeRequest (rq 8) ⟨1, 0, 0, ⟨0, 0, 0, []⟩⟩ sur,
    .modeRequest (rq 8) ⟨1, 0, 0, ⟨0, 0, 0, zeros 40⟩⟩ { sur with devices := List.replicate 5 dev },
    .modeRequest (rq 8) ⟨1, 0, 0, ⟨0, 0, 0, zeros 40⟩⟩ { sur with tilesOnce := [8] },
    .modeRequest (rq 8) ⟨1, 0, 0, ⟨0, 0, 0, zeros 40⟩⟩ { sur with tilesTwice := [9] },
    .modeRequest (rq 8) ⟨1, 0, 0, ⟨0, 0, 0, zeros 40⟩⟩ { sur with noPowerGood := some 80 },
    .profileStore (rq 4) 1 1 [], .weltAllowlistSet (rq 4) 1 [], .takeStart (rq 56) 1 0 [], .lutLoad (rq 16) 0 1 0 0 36864 0 (zeros 4097),
    .abusXfer (rq 8) 0 0x10 0 1 0 [], .abusTargetSet (rq 12) 1 1 (zeros 5) 0 0, .auxSequenceSet (rq 8) 1 [],
    .fuseFinalize (rq 20) 5 [0, 0, 0] [] [], .fuseFinalize (rq 20) 5 [0, 0, 0, 0] [(128, 0)] [], .fwStage (rq 12) 0 8 0 (zeros 4097),
    .authResponse (rq 104) 1 0 (zeros 95),
    .rowPairPeriod ⟨⟨18432, []⟩, ⟨0, []⟩, 0, [], [], true, true, false⟩,
    .rowPairPeriod ⟨⟨0, [(18560, 0)]⟩, ⟨0, []⟩, 0, [], [], true, true, false⟩,
    .rowPairPeriod ⟨⟨0, []⟩, ⟨0, []⟩, 0, [(0, [])], [], true, true, false⟩,
    .rowPairPeriod ⟨⟨0, []⟩, ⟨0, []⟩, 0, [], [(0, 0, 48)], true, true, false⟩,
    .calWordRestore 18560 0, .selfReset 0 9280 0 true, .exposureWindowEnd [⟨0, 0, 0, 3⟩], .agentInfo .a 0 (zeros 1025),
    .weltPageWriteDiscard .a 0 0x4000, .memoryLinkRetrain 4 16 64 true, .deviceLost 4, .deviceHealthPoll [⟨4, false, []⟩],
    .posted 3 0, .posted 0x18 0, .coldReset { cs with unstable := [4] }, .coldReset { cs with weak := [((8, 0), 1)] },
    .warmReset { sur with tilesOnce := [8] }, .powerGoodTimeout 80, .loadSample 0 0 0 0 0 0 0 [], .tileTempSample [],
    .linkTrained 100 16 true 512, .linkTrained 640 3 true 512, .l0pNarrowing 3, .ideKm ⟨false, zeros 31⟩ (zeros 32), .ideKm ⟨false, zeros 32⟩ [],
    .kekSet ⟨false, zeros 31⟩, .sense [((0, 128), 1)], .finalize [(128, 0)] [], .registerWrite .pf0 .pf0 0x40000 .word 0,
    .triplicateUpset 128 0, .triplicateUpset 0 3, .triplicateDisagree 128] : List Instr), wellFormed i = false := by decide +kernel

/-! ## Worked examples of the specification -/

/-- Chapter 0: the pedestal field of 24 bits, least significant byte first. -/
theorem test_bytes_least_first : leBytes 3 0x000400 = [0x00, 0x04, 0x00] := by decide +kernel

/-- Chapter 1: 4,640 row-pair periods of a full field, T_min 8,332.8 µs. -/
theorem test_tMin_of_a_full_field : Factory.settings.sensor.pairs = 4640 ∧ Factory.settings.sensor.tMin = 833280 := by decide +kernel

/-- A calibration word of the example photosite: STEP 0x7F40, GAIN 0x898, DARK_OFS 0x5C8. -/
def exampleWord : BitVec 48 := 0x7F408985C8

/-- R39: the fields of a calibration word. -/
theorem test_word_fields : wordDark exampleWord = 0x5C8 ∧ wordGain exampleWord = 0x898 ∧ wordStep exampleWord = 0x7F40 ∧
    wordDef exampleWord = false := by decide +kernel

/-- Chapter 2: the reset step of 11,432.6171875 electrons, eight of which and the residual are the 96,000 collected. -/
theorem test_reset_step : qth 150 = 11500 ∧ stepCharge 150 exampleWord = 374624000 ∧ 8 * stepCharge 150 exampleWord + 148736000 = 96000 * 32768 := by
  decide +kernel

/-- Table 2-7, step 3: the first reset leaves 47.4 electrons, counts 1, and does not run away. -/
theorem test_selfReset_takes_one_step :
    (clearSite.selfReset (11480 * 32768) (stepCharge 150 exampleWord) 0 false) =
      { clearSite with well := 11480 * 32768 - 374624000, tally := 1 } := by decide +kernel

/-- Chapter 3: rotation position 4, slice 697, and the next frame's position 5 with the same slice. -/
theorem test_slice_of_the_example :
    rotation 1000003 4 = 4 ∧ sliceFor Reset.conv.corr 4 .top 9305 = some 697 ∧ sliceFor Reset.conv.corr 5 .top 9305 = some 697 ∧
    segmentOf 697 = 4 := by decide +kernel

/-- Table 3-5: the column arithmetic. -/
theorem test_column_arithmetic :
    tempFactor 328 320 = 16512 ∧ refCode 6620 2040 32900 = 104298 ∧ dark16 exampleWord 16512 = 1492 ∧
    residual16 102806 (14336 + 2200) = 72632 ∧ tally16 8 11500 exampleWord = 1463375 := by decide +kernel

/-- Table 5-9: the scaled value. -/
theorem test_scaling : scaleOf 16384 16390 = 16390 ∧ scaled 1535999 16390 = 0x177631 := by decide +kernel

/-- Table 4-6: the entries of the example program. -/
theorem test_program_entries :
    programOf ⟨3, [0x80233F70002527B8, 0x000493E000231860, 0x8002848800046CD0]⟩ =
      ⟨none, [⟨2435000, 2310000, .b⟩, ⟨2300000, 300000, .a⟩, ⟨290000, 165000, .b⟩]⟩ := by decide +kernel

/-- R90: 48 periods at 24 fps are 200,000,000 ticks. -/
theorem test_ratePeriod : 48 * (Config.ticksPerSecond * 1 / 24) = 199999968 ∧ 48 * Config.ticksPerSecond / 24 = 200000000 := by decide +kernel

/-- Chapter 10: the bytes of the display tap beside its header, the rows of the coding tap, and the bytes of a crew stream. -/
theorem test_tap_bytes :
    ({ Factory.ring with outW := 3840, outH := 2160 } : RingSet).bufferBytes 0 = 33177600 + 256 ∧
    ({ Factory.ring with outW := 4096, outH := 2160, format := 2 } : RingSet).rowLen = 10928 ∧
    ({ Factory.ring with outW := 4096, outH := 2160, format := 2 } : RingSet).pitch = 11008 ∧
    Factory.ring.bufferBytes 3 = 8294400 + 256 := by decide +kernel

/-- Chapter 11: the header of the example post, and its payload. -/
def examplePost : Message := ⟨3, 0, 0x0200, 0, 0x0051, 12, 0, 0, 5004, 0, 0, [1, 0, 0, 0, 0x13, 0, 2, 0, 0x10, 0x40, 0, 0]⟩

theorem test_message_header :
    messageHead examplePost =
      [3, 0, 0, 2, 0, 0, 0x51, 0, 0x0C, 0, 0, 0, 0, 0, 0, 0, 0x8C, 0x13, 0, 0, 0, 0, 0, 0] ∧
    Opcode.ofCode 0x0200 = some .ledgerPost := by decide +kernel

/-- Chapter 12: two halves of a write of 8 bytes to a locked base, each rejected. -/
def lockedBase : State :=
  let s := ask .hello (base .view)
  { s with mbox := { s.mbox with c0 := { s.mbox.c0 with sqBase := 0x123400000 } }, regs := { s.regs with rejCnt := 5 } }

theorem test_locked_base :
    let t := nx lockedBase (.registerWrite .pf0 .pf0 0x01000 .pair 0x123500000)
    t.regs.rejCnt = 7 ∧ t.regs.rejOffset = 0x01004 ∧ t.regs.rejData = 1 ∧ t.regs.rejReason = 0 ∧ t.mbox.c0.sqBase = 0x123400000 := by
  decide +kernel

/-- R306: the carrier adds 3,051 ticks at a CK00 edge, and 390,625 in 128 periods. -/
theorem test_carrier :
    (Reset.time.advance 3050).module = 0 ∧ (Reset.time.advance 3051).module = 3051 ∧ (Reset.time.advance 390625).module = 390625 := by
  decide +kernel

/-- Table 13-10: TMR3 with its reset action. -/
def tmr3 (count compare : U32) (cond : Bool) : State :=
  let s := base .view
  s.setTimer 3 { s.sync.timer 3 with running := true, ctrl := 0x30010000, count := count, compare := compare, cond := cond }

/-- Step 3: a COMPARE written below COUNT matches at the next tick. -/
theorem test_compare_below_count :
    let t := nx (tmr3 70000 50000 false) (.timerTick 3)
    (t.sync.timer 3).count = 0 ∧ (t.sync.timer 3).matchCnt = 1 := by decide +kernel

/-- Steps 7 and 8: a compare in the future half waits, and COUNT wraps with an overflow and no match. -/
theorem test_compare_waits_for_the_wrap :
    ((nx (tmr3 0xF0000032 0x70000000 false) (.timerTick 3)).sync.timer 3).matchCnt = 0 ∧
    ((nx (tmr3 0xFFFFFFFF 0x70000000 false) (.timerTick 3)).sync.timer 3).ovfCnt = 1 ∧
    ((nx (tmr3 0xFFFFFFFF 0x70000000 false) (.timerTick 3)).sync.timer 3).count = 0 ∧
    ((nx (tmr3 0x6FFFFFFF 0x70000000 false) (.timerTick 3)).sync.timer 3).matchCnt = 1 := by decide +kernel

/-- Table 14-6: offsets, span and gain of AUXIN0, and two later readings. -/
theorem test_system_calibration :
    ((-30826 : Int) + 8) / 16 = -1927 ∧ ((5504832 : Int) + 8) / 16 = 344052 ∧ sysCal (-1927) 344052 10000 = some (-1927, 30308) ∧
    AuxInput.read { Reset.aux.in0 with z := -1927, g := 30308 } 10000 = 4680 ∧
    AuxInput.read { Reset.aux.in0 with z := -1927, g := 30308 } 21503 = 10000 := by decide +kernel

/-- Chapter 15: the thermometer of FW_SVN 5 and 7, and the read of SVN_MIN. -/
theorem test_thermometer :
    thermoWord 5 0 = 0x1F ∧ thermoWord 7 0 = 0x7F ∧ thermoWord 7 1 = 0 ∧
    ({ Reset.fuse with words := [((4, 0), 0x1F)] } : FuseUnit).svnMin = 5 := by decide +kernel

/-- R424: what a queue held when its domain was isolated is counted, once a domain; a domain that stays on is not isolated. -/
theorem test_isolation_counts_words :
    let on (b : Bool) : State := State.reset.setDomains [69] true |>.setDomains [74] b
    (isolate [(74, 5), (69, 3)] (on true) (on false)).clk.isoDrop = 5 ∧
    ((isolate [(74, 5), (69, 3)] (on true) (on false)).log.buffer.map (·.code)) = [0x0207] := by decide +kernel

/-- Chapter 18: the straps of the left module. -/
theorem test_straps : strapProfile { cs with psel1 := true, psel0 := false } = 2 := by decide +kernel

/-- Table 19-10, steps 1 to 3: a report after REPEAT 0xFFFF does not merge. -/
def chatter (rep : Nat) : LogUnit :=
  { Reset.log with
    entries := [⟨⟨0x0B08, 0x4D00, 0, 0, 0, rep⟩, 7, 2, false, false, false⟩], latest := [(0x4D00, 7)], reported := [((0x4D00, 0x0B08), 1000)] }

theorem test_merging_ends_at_the_largest_repeat :
    (chatter 0xFFFE).mergeable ⟨0x0B08, 0x4D00, 2000, 0, 0, 0⟩ 3000 = some 7 ∧
    (chatter 0xFFFF).mergeable ⟨0x0B08, 0x4D00, 2000, 0, 0, 0⟩ 3000 = none ∧
    (chatter 0).mergeable ⟨0x0B09, 0x4D00, 2000, 0, 0, 0⟩ 3000 = none := by decide +kernel

/-- CRC-32C of "123456789" (the check value of the published code). -/
theorem test_crc32c : crc32c [0x31, 0x32, 0x33, 0x34, 0x35, 0x36, 0x37, 0x38, 0x39] = 0xE3069283 := by decide +kernel

/-- No row of the opcode table has bits, so no word spells a command. -/
theorem test_no_word_is_a_command : decodeTableWord 16 0x1234 = none ∧ State.reset.withFetchWord 16 0x1234 = State.reset := ⟨rfl, rfl⟩

end Sys2Proof.Tests
end

/-! PROOFS. What a step does with the command at the front of its queue, and what a tick of time with no command waiting can change
(`spec/00_scope.md`, log entry 1). -/

namespace Sys2Proof.Machine

/-! ## Frames of an update of one unit -/

theorem onlyIn_lapse (n : Nat) (s : State) : onlyIn [.time] s { s with time := s.time.advance n } := by
  intro p hp; cases p <;> simp [Part.same] at hp ⊢

theorem onlyIn_withMbox (m : Mailbox) (s : State) : onlyIn [.mbox] s { s with mbox := m } := by
  intro p hp; cases p <;> simp [Part.same] at hp ⊢

theorem onlyIn_withRes (r : ResUnit) (s : State) : onlyIn [.res] s { s with res := r } := by
  intro p hp; cases p <;> simp [Part.same] at hp ⊢

theorem onlyIn_withLink (l : LinkUnit) (s : State) : onlyIn [.link] s { s with link := l } := by
  intro p hp; cases p <;> simp [Part.same] at hp ⊢

theorem onlyIn_drew (s : State) : onlyIn [.free] s s.drew := by
  intro p hp; cases p <;> simp [Part.same, State.drew] at hp ⊢

/-! ## The vector of the event ring (R281) -/

theorem ringVector_of_not_due {s : State} (h : s.mbox.ring.vecDue = false) : ringVector s = s := by
  simp only [ringVector, h]

theorem onlyIn_ringVector (s : State) : onlyIn [.mbox, .sent, .link] s (ringVector s) := by
  unfold ringVector
  split
  · exact onlyIn_ite
      (onlyIn_trans (onlyIn_mono (onlyIn_withMbox _ s) (by decide)) (onlyIn_mono (onlyIn_fire _ _ _) (by decide)))
      (onlyIn_refl _ _)
  · exact onlyIn_refl _ _

theorem reportsOnly_ringVector (s : State) : reportsOnly s (ringVector s) := by
  unfold ringVector
  split
  · exact reportsOnly_ite (reportsOnly_after (reportsOnly_fire _ _ _) ⟨rfl, rfl⟩) (reportsOnly_refl s)
  · exact reportsOnly_refl s

/-- What a report can change of the link leaves out the reads of BAR2 that wait. -/
theorem reads_of_reportsOnly {s t : State} (h : reportsOnly s t) : t.link.reads = s.link.reads := by
  rw [← h.2]

/-! ## The reads of BAR2 (R172) -/

theorem onlyIn_addBad (page : Nat) (s : State) : onlyIn [.res] s (s.addBad page) :=
  onlyIn_ite (onlyIn_withRes _ s) (onlyIn_withRes _ s)

/-- A read that completes with data draws a free value and sends a completion; after that only a poisoned one changes more, the bad-page map
and what a report can. -/
theorem completeRead_after_send (r : BarRead) (s : State) :
    ∃ o, onlyIn (.res :: reporting) (s.drew.send o) (completeRead r s) := by
  unfold completeRead
  split
  next =>
    exact ⟨_, onlyIn_trans (onlyIn_mono (onlyIn_ite (onlyIn_addBad _ _) (onlyIn_refl _ _)) (by decide))
      (onlyIn_mono (onlyIn_logEvent _ _ _ _) (by decide))⟩
  next => exact ⟨_, onlyIn_refl _ _⟩

theorem completeRead_free (r : BarRead) (s : State) : (completeRead r s).free = s.free + 1 := by
  obtain ⟨o, h⟩ := completeRead_after_send r s
  exact (h .free (by decide)).trans (send_free o s.drew)

theorem onlyIn_completeRead (r : BarRead) (s : State) : onlyIn (.free :: .res :: reporting) s (completeRead r s) := by
  obtain ⟨o, h⟩ := completeRead_after_send r s
  exact onlyIn_trans (onlyIn_mono (onlyIn_drew s) (by decide))
    (onlyIn_trans (onlyIn_mono (onlyIn_send o _) (by decide)) (onlyIn_mono h (by decide)))

theorem onlyIn_settleReads (s : State) : onlyIn (.free :: .res :: reporting) s (settleReads s) := by
  refine onlyIn_ite (onlyIn_trans (onlyIn_mono (onlyIn_withLink _ s) (by decide)) (onlyIn_each _ (fun r t => ?_) _ _)) (onlyIn_refl _ _)
  exact onlyIn_ite (onlyIn_mono (onlyIn_send _ _) (by decide))
    (onlyIn_ite (onlyIn_mono (onlyIn_send _ _) (by decide)) (onlyIn_completeRead _ _))

theorem settleReads_of_no_reads {s : State} (h : s.link.reads = []) : settleReads s = s := by
  simp [settleReads, h]

/-- A read that waits where the reservoir is on and no link retrains completes with data. -/
theorem settleReads_of_one_read {s : State} {r : BarRead} (hr : s.link.reads = [r]) (on : s.bar2Off = false)
    (idle : s.res.retrain = false) : settleReads s = completeRead r { s with link := { s.link with reads := [] } } := by
  have on' : State.bar2Off { s with link := { s.link with reads := [] } } = false := on
  simp [settleReads, each, hr, on, on', idle]

/-! ## A tick of time (log entry 1) -/

theorem onlyIn_tick (s : State) : onlyIn (.time :: .free :: .res :: reporting) s (tick s) :=
  onlyIn_trans (onlyIn_mono (onlyIn_lapse 1 s) (by decide))
    (onlyIn_trans (onlyIn_mono (onlyIn_ringVector _) (by decide)) (onlyIn_mono (onlyIn_settleReads _) (by decide)))

theorem tick_time (s : State) : (tick s).time = s.time.advance 1 :=
  (onlyIn_settleReads _ .time (by decide)).trans (onlyIn_ringVector _ .time (by decide))

theorem tick_of_no_reads {s : State} (h : s.link.reads = []) : tick s = ringVector { s with time := s.time.advance 1 } :=
  settleReads_of_no_reads ((reads_of_reportsOnly (reportsOnly_ringVector _)).trans h)

theorem tick_of_not_due {s : State} (h : s.mbox.ring.vecDue = false) : tick s = settleReads { s with time := s.time.advance 1 } :=
  congrArg settleReads (ringVector_of_not_due h)

/-- A tick that completes a read of BAR2 with data draws a free value. -/
theorem tick_free_of_one_read {s : State} {r : BarRead} (due : s.mbox.ring.vecDue = false) (hr : s.link.reads = [r])
    (on : s.bar2Off = false) (idle : s.res.retrain = false) : (tick s).free = s.free + 1 := by
  have completes := settleReads_of_one_read (s := { s with time := s.time.advance 1 }) hr on idle
  rw [tick_of_not_due due, completes, completeRead_free]

/-! ## A step -/

theorem step_front (c : Instr) (rest : List Instr) (s : State) :
    step { s with pending := c :: rest } = exec c { s with pending := rest } := rfl

theorem step_idle {s : State} (h : s.pending = []) : step s = .next (tick s) := by
  simp only [step, h]

/-- What holds of `StepRunsTheFrontCommand`: its words, with the counter of free values (log entry 2) among what a tick can change. -/
theorem step_runs_front_or_ticks (c : Instr) (rest : List Instr) (s : State) :
    step { s with pending := c :: rest } = exec c { s with pending := rest } ∧
    (s.pending = [] → ∃ t, step s = .next t ∧ onlyIn (.time :: .free :: .res :: reporting) s t ∧ t.time.now = s.time.now + 1 ∧
      t.time = s.time.advance 1 ∧ (s.link.reads = [] → onlyIn [.time, .mbox, .sent, .link] s t ∧
        (s.mbox.ring.vecDue = false → t.mbox = s.mbox ∧ t.sent = s.sent ∧ t.link = s.link))) := by
  refine ⟨step_front c rest s, fun h => ⟨tick s, step_idle h, onlyIn_tick s, ?_, tick_time s, fun noReads => ?_⟩⟩
  · rw [tick_time, advance_now]
  · rw [tick_of_no_reads noReads]
    refine ⟨onlyIn_trans (onlyIn_mono (onlyIn_lapse 1 s) (by decide)) (onlyIn_mono (onlyIn_ringVector _) (by decide)), fun due => ?_⟩
    have same : ringVector { s with time := s.time.advance 1 } = { s with time := s.time.advance 1 } := ringVector_of_not_due due
    simp only [same, and_self]

/-! ## The refutation -/

/-- No command waits, the reservoir and its port are on, no link retrains, and one read of four bytes waits. -/
def readWaits : State :=
  { State.reset.setDomains [57, 58] true with
    res := { Reset.res with present := true }, link := { Reset.link with reads := [⟨0, 4, false, 0⟩] } }

theorem tick_readWaits_free : (tick readWaits).free = readWaits.free + 1 :=
  tick_free_of_one_read rfl rfl (by decide) rfl

/-- Refutes O53: the data of a read of BAR2 that a tick completes takes the next free value (log entry 2), so the tick moves the counter `free`,
which the statement's frame leaves out. -/
theorem not_stepRunsTheFrontCommand : ¬ Obligations.StepRunsTheFrontCommand := by
  unfold Obligations.StepRunsTheFrontCommand
  intro h
  obtain ⟨t, hstep, hframe, -⟩ := (h (.debugHalt true) [] readWaits).2 rfl
  obtain rfl : tick readWaits = t := Host.Outcome.next.inj ((step_idle rfl).symm.trans hstep)
  have kept : (tick readWaits).free = readWaits.free := hframe .free (by decide)
  rw [tick_readWaits_free] at kept
  exact absurd kept (Nat.succ_ne_self _)

end Sys2Proof.Machine

/-! PROOFS. Tallies and latches of the nodes, and the codes that the stack emits for them (R34, R38, R65). -/

namespace Sys2Proof.Machine

/-! ## The tally of a node (R34) -/

theorem receive_tally_le {v : NodeState} (p : Site) (h : v.tally ≤ 63) : (v.receive p).tally ≤ 63 := by
  simp only [NodeState.receive]
  split
  · assumption
  · exact h

theorem receive_of_fits {v : NodeState} {p : Site} (h : v.tally + p.tally ≤ 63) :
    (v.receive p).tally = v.tally + p.tally ∧ (v.receive p).sat = (v.sat || p.sat) := by
  simp only [NodeState.receive, if_pos h, Nat.not_lt.2 h, decide_false, Bool.or_false, and_self]

theorem receive_sat_of_overflow {v : NodeState} {p : Site} (h : 63 < v.tally + p.tally) : (v.receive p).sat = true := by
  simp only [NodeState.receive, h, decide_true, Bool.or_true]

theorem fold_of_lt {v : NodeState} (step k : Nat) (h : v.tally < 63) :
    v.fold step k = { v with charge := takeStep v.charge step k, tally := v.tally + 1 } :=
  if_neg (Nat.not_le.2 h)

theorem fold_of_full {v : NodeState} (step k : Nat) (h : 63 ≤ v.tally) :
    v.fold step k = { v with charge := takeStep v.charge step k, sat := true } :=
  if_pos h

theorem fold_tally_le {v : NodeState} (step k : Nat) (h : v.tally ≤ 63) : (v.fold step k).tally ≤ 63 := by
  rcases Nat.lt_or_ge v.tally 63 with lt | full
  · rw [fold_of_lt step k lt]; exact lt
  · rw [fold_of_full step k full]; exact h

/-! ## The latches that a row read finds (R57) -/

/-- A node with SAT or RUN is not clear, whatever its tally. -/
theorem latchOf_of_latched {n : Node} {x y : Nat} {q : Site} (h : (q.node n).sat = true ∨ (q.node n).run = true) :
    latchOf n y ((x, y), q) = some ⟨x, 0, (q.node n).tally, (q.node n).sat, (q.node n).run⟩ := by
  have latched : ¬((q.node n).tally = 0 ∧ (q.node n).sat = false ∧ (q.node n).run = false) := by
    rintro ⟨-, sat, run⟩
    simp [sat, run] at h
  simp only [latchOf, if_neg latched, if_true]

/-- A photosite reads the latch that the row holds for it. -/
theorem siteRead_of_latch {f : Frame} {r : RowRead} {l : LatchRead}
    (h : (r.latches.find? fun m => decide (m.x = l.x ∧ m.y = 0)) = some l) :
    (f.siteRead r l.x 0).run = l.run ∧ (f.siteRead r l.x 0).sat = l.sat := by
  simp only [Frame.siteRead, h, Option.map_some, Option.getD_some, and_self]

/-! ## The codes that the stack emits (R30, R38, R65) -/

theorem withCodes_of_run {ps : List SiteRead} (missing : Bool) (v : Nat) (h : ∃ p ∈ ps, p.run = true) :
    withCodes ps missing v = 0xFFFFFE :=
  if_pos (List.any_eq_true.2 h)

theorem withCodes_of_sat {ps : List SiteRead} (missing : Bool) (v : Nat) (run : ∀ p ∈ ps, p.run = false)
    (sat : ∃ p ∈ ps, p.sat = true) : withCodes ps missing v = 0xFFFFFF := by
  have noRun : ¬ (ps.any (·.run)) = true := by simpa using run
  exact (if_neg noRun).trans (if_pos (List.any_eq_true.2 sat))

/-- An unbinned value takes the codes of its own photosite, whether or not a slice converts it. -/
theorem stackAt_unbinned {f : Frame} (r : RowRead) (X : Nat) (h : f.gov.sensor.bin = 1) :
    ∃ missing v, f.stackAt r X = withCodes [f.siteRead r X 0] missing v := by
  simp only [Frame.stackAt, leadOf, h, if_true]
  split
  · exact ⟨_, _, rfl⟩
  · exact ⟨_, _, rfl⟩

/-- The four photosites of a binned value (R36). -/
def Frame.groupOf (f : Frame) (r : RowRead) (x : Nat) : List SiteRead :=
  [f.siteRead r x 0, f.siteRead r x 1, f.siteRead r (x + partner f.data.mono) 0, f.siteRead r (x + partner f.data.mono) 1]

/-- A binned value takes the codes of its four photosites, whether or not a slice converts them. -/
theorem stackAt_binned {f : Frame} (r : RowRead) (X : Nat) (h : f.gov.sensor.bin ≠ 1) :
    ∃ missing v, f.stackAt r X = withCodes (f.groupOf r (leadOf f.data.mono f.gov.sensor.bin X)) missing v := by
  simp only [Frame.stackAt, h, if_false]
  split
  · exact ⟨_, _, rfl⟩
  · exact ⟨_, _, rfl⟩

theorem stackAt_of_latch {f : Frame} {r : RowRead} {l : LatchRead} (unbinned : f.gov.sensor.bin = 1)
    (h : (r.latches.find? fun m => decide (m.x = l.x ∧ m.y = 0)) = some l) :
    (l.run = true → f.stackAt r l.x = 0xFFFFFE) ∧ (l.run = false → l.sat = true → f.stackAt r l.x = 0xFFFFFF) := by
  obtain ⟨missing, v, value⟩ := stackAt_unbinned r l.x unbinned
  obtain ⟨run, sat⟩ := siteRead_of_latch (f := f) h
  rw [value]
  refine ⟨fun isRun => withCodes_of_run _ _ ?_, fun notRun isSat => withCodes_of_sat _ _ ?_ ?_⟩
  · simpa [run] using isRun
  · simpa [run] using notRun
  · simpa [sat] using isSat

/-! ## The statements -/

/-- Settles O48: one lemma for each branch of an addition and of a fold, and the codes of a latch that a row read finds. -/
theorem talliesEndAtSixtyThree : Obligations.TalliesEndAtSixtyThree := by
  unfold Obligations.TalliesEndAtSixtyThree
  refine ⟨fun v p le => ⟨receive_tally_le p le, receive_of_fits, receive_sat_of_overflow⟩,
    fun v step k le => ⟨fold_tally_le step k le, fun lt => ?_, fun full => ?_⟩,
    fun n x y q => latchOf_of_latched, fun f r l => stackAt_of_latch⟩
  · rw [fold_of_lt step k lt]; exact ⟨rfl, rfl⟩
  · rw [fold_of_full step k (Nat.le_of_eq full.symm)]

/-- Settles O49: the codes of the four photosites, RUN before SAT. -/
theorem binnedSitesShowTheirLatches : Obligations.BinnedSitesShowTheirLatches := by
  unfold Obligations.BinnedSitesShowTheirLatches
  intro f r X binned
  obtain ⟨missing, v, value⟩ := stackAt_binned r X binned
  rw [value]
  exact ⟨withCodes_of_run missing v, withCodes_of_sat missing v⟩

end Sys2Proof.Machine

/-! PROOFS. Frames of an update of one unit, and of what the take writes and the engine pulses. -/

namespace Sys2Proof.Machine

/-! ## Frames -/

theorem onlyIn_withFrame (f : FrameUnit) (s : State) : onlyIn [.frame] s { s with frame := f } := by
  intro p hp; cases p <;> simp [Part.same] at hp ⊢

theorem onlyIn_withSensor (u : SensorUnit) (s : State) : onlyIn [.sensor] s { s with sensor := u } := by
  intro p hp; cases p <;> simp [Part.same] at hp ⊢

theorem onlyIn_withPins (u : PinsUnit) (s : State) : onlyIn [.pins] s { s with pins := u } := by
  intro p hp; cases p <;> simp [Part.same] at hp ⊢

theorem onlyIn_withTake (t : TakeUnit) (s : State) : onlyIn [.take] s { s with take := t } := by
  intro p hp; cases p <;> simp [Part.same] at hp ⊢

theorem onlyIn_withHold (h : HoldUnit) (s : State) : onlyIn [.hold] s { s with hold := h } := by
  intro p hp; cases p <;> simp [Part.same] at hp ⊢

theorem onlyIn_withSensorFrame (u : SensorUnit) (f : FrameUnit) (s : State) :
    onlyIn [.sensor, .frame] s { s with sensor := u, frame := f } := by
  intro p hp; cases p <;> simp [Part.same] at hp ⊢

theorem onlyIn_withTakeRes (t : TakeUnit) (r : ResUnit) (s : State) : onlyIn [.take, .res] s { s with take := t, res := r } := by
  intro p hp; cases p <;> simp [Part.same] at hp ⊢

/-- A list of units that a command keeps, apart from those that it can change. -/
theorem kept_of_onlyIn {kept ps : List Part} {s t : State} (h : onlyIn ps s t) (apart : ∀ p ∈ kept, p ∉ ps) : ∀ p ∈ kept, p.same s t :=
  fun p hp => h p (apart p hp)

/-! ## What Welt writes to the active session (R223) -/

theorem onlyIn_writeDescriptor (b : Nat) (d : Descriptor) (s : State) : onlyIn [.take, .sent] s (writeDescriptor b d s) :=
  onlyIn_trans (onlyIn_mono (onlyIn_withTake _ s) (by decide)) (onlyIn_mono (onlyIn_send _ _) (by decide))

theorem onlyIn_writeBegin (b : Nat) (s : State) : onlyIn [.take, .sent] s (writeBegin b s) :=
  onlyIn_ite (onlyIn_trans (onlyIn_mono (onlyIn_withTake _ s) (by decide)) (onlyIn_writeDescriptor _ _ _)) (onlyIn_refl _ _)

theorem onlyIn_writeRelayIn (b : Nat) (s : State) : onlyIn [.take, .sent] s (writeRelayIn b s) := by
  unfold writeRelayIn
  split
  · exact onlyIn_refl _ _
  · exact onlyIn_ite (onlyIn_trans (onlyIn_mono (onlyIn_withTake _ s) (by decide)) (onlyIn_writeDescriptor _ _ _)) (onlyIn_refl _ _)

theorem onlyIn_commitPaged (b : Nat) (r : Record) (s : State) : onlyIn [.take, .sent, .res] s (commitPaged b r s) :=
  onlyIn_trans (onlyIn_mono (onlyIn_writeDescriptor b _ s) (by decide)) (onlyIn_mono (onlyIn_withTakeRes _ _ _) (by decide))

theorem onlyIn_releasePaged (b : Nat) (s : State) : onlyIn [.take, .sent, .res] s (releasePaged b s) := by
  unfold releasePaged
  split
  · exact onlyIn_refl _ _
  · refine onlyIn_ite (onlyIn_refl _ _) ?_
    split
    · exact onlyIn_refl _ _
    · refine onlyIn_ite (onlyIn_trans ?_ (onlyIn_commitPaged b _ _)) (onlyIn_refl _ _)
      exact onlyIn_ite (onlyIn_refl _ _) (onlyIn_mono (onlyIn_send _ s) (by decide))

theorem onlyIn_writeTakeEnd (b : Nat) (s : State) : onlyIn [.take, .sent] s (writeTakeEnd b s) := by
  unfold writeTakeEnd
  split
  · exact onlyIn_refl _ _
  · exact onlyIn_ite (onlyIn_trans (onlyIn_mono (onlyIn_withTake _ s) (by decide)) (onlyIn_writeDescriptor _ _ _)) (onlyIn_refl _ _)

theorem onlyIn_greet (s : State) : onlyIn [.take, .sent, .res] s (greet s) := by
  unfold greet
  split
  · exact onlyIn_refl _ _
  · exact onlyIn_ite
      (onlyIn_trans (onlyIn_mono (onlyIn_writeBegin _ s) (by decide))
        (onlyIn_trans (onlyIn_mono (onlyIn_writeRelayIn _ _) (by decide))
          (onlyIn_trans (onlyIn_releasePaged _ _) (onlyIn_mono (onlyIn_writeTakeEnd _ _) (by decide)))))
      (onlyIn_refl _ _)

/-! ## The choice of the pre-roll (R147) -/

theorem onlyIn_ringReplace (r : Record) (s : State) : onlyIn [.hold] s (ringReplace r s) :=
  onlyIn_ite (onlyIn_withHold _ s) (onlyIn_refl _ _)

theorem onlyIn_ringTag (n : Nat) (t : TakeTag) (s : State) : onlyIn [.hold] s (ringTag n t s) :=
  onlyIn_ite (onlyIn_withHold _ s) (onlyIn_refl _ _)

theorem onlyIn_retagOne (r : Record) (s : State) : onlyIn [.res, .hold] s (retagOne r s) :=
  onlyIn_trans (onlyIn_mono (onlyIn_withRes _ s) (by decide)) (onlyIn_mono (onlyIn_ringReplace _ _) (by decide))

/-- The parts of a take's pre-roll: its headers, the tag of the frame in readout, and where the take sends from. -/
def prerollParts : List Part := [.take, .sent, .res, .hold, .frame]

/-- Two states have one frame timing engine but for the readout in progress. -/
def sameEngine (s t : State) : Prop := { t.frame with readout := s.frame.readout } = s.frame

theorem sameEngine_of_frame {s t : State} (h : t.frame = s.frame) : sameEngine s t := by
  unfold sameEngine; rw [h]

theorem sameEngine_flying {s t : State} (h : sameEngine s t) : t.frame.flying = s.frame.flying := by
  unfold sameEngine at h; rw [← h]

theorem sameEngine_trigTime {s t : State} (h : sameEngine s t) : t.frame.trigTime = s.frame.trigTime := by
  unfold sameEngine at h; rw [← h]

theorem sameEngine_trigLate {s t : State} (h : sameEngine s t) : t.frame.trigLate = s.frame.trigLate := by
  unfold sameEngine at h; rw [← h]

theorem sameEngine_trans {s t u : State} (h : sameEngine s t) (k : sameEngine t u) : sameEngine s u := by
  unfold sameEngine at *; rw [← h, ← k]

theorem takePreroll_keeps (be n : Nat) (coming : List PrerollFrame) (s : State) :
    onlyIn prerollParts s (takePreroll be n coming s) ∧ sameEngine s (takePreroll be n coming s) := by
  unfold takePreroll
  extract_lets first take s1 s2 f tagged s3
  have heads : onlyIn [.res, .hold] s1 s2 := onlyIn_each _ onlyIn_retagOne _ _
  have retagged : onlyIn [.take, .res, .hold] s s2 :=
    onlyIn_trans (onlyIn_mono (onlyIn_withTake _ s) (by decide)) (onlyIn_mono heads (by decide))
  have toRing : onlyIn [.hold] { s2 with frame := { f with readout := f.readout.map tagged } } s3 :=
    onlyIn_each _ (fun r => onlyIn_ringTag _ _) _ _
  refine ⟨onlyIn_trans (onlyIn_mono retagged (by decide)) (onlyIn_trans (onlyIn_mono (onlyIn_withFrame _ s2) (by decide))
    (onlyIn_trans (onlyIn_mono toRing (by decide)) (onlyIn_mono (onlyIn_withRes _ s3) (by decide)))), ?_⟩
  have sameFrame : s2.frame = s.frame := retagged .frame (by decide)
  have tags : s3.frame = { f with readout := f.readout.map tagged } := toRing .frame (by decide)
  show { s3.frame with readout := s.frame.readout } = s.frame
  rw [tags, ← sameFrame]

theorem chooseAgainst_keeps (be n : Nat) (s : State) :
    onlyIn prerollParts s (chooseAgainst be n s) ∧ sameEngine s (chooseAgainst be n s) := by
  obtain ⟨parts, engine⟩ := takePreroll_keeps be n [] s
  unfold chooseAgainst
  extract_lets s1
  split
  · have greeted : onlyIn [.take, .sent, .res] s1 (greet { s1 with take := { s1.take with rewriting := false } }) :=
      onlyIn_trans (onlyIn_mono (onlyIn_withTake _ s1) (by decide)) (onlyIn_greet _)
    exact ⟨onlyIn_trans parts (onlyIn_mono greeted (by decide)), sameEngine_trans engine (sameEngine_of_frame (greeted .frame (by decide)))⟩
  · exact ⟨parts, engine⟩

theorem choosePreroll_keeps (s : State) : onlyIn prerollParts s (choosePreroll s) ∧ sameEngine s (choosePreroll s) := by
  unfold choosePreroll
  split
  · split
    · exact chooseAgainst_keeps _ _ s
    · exact ⟨onlyIn_refl _ _, rfl⟩
  · exact ⟨onlyIn_refl _ _, rfl⟩

/-- A take that has its first frame, or that does not run, chooses nothing. -/
theorem choosePreroll_of_chosen {s : State} (h : s.take.isRunning = true → 0 < s.take.first) : choosePreroll s = s := by
  refine if_neg fun due => ?_
  simp only [Bool.and_eq_true, decide_eq_true_eq] at due
  obtain ⟨⟨running, none⟩, -⟩ := due
  exact absurd (h running) (by omega)

end Sys2Proof.Machine

/-! PROOFS. The photosites: a place of the array, a self-reset, the start and the end of a window, and the repair of a calibration word
(R24, R28, R29, R31 to R34, R44, R96). -/

namespace Sys2Proof.Machine

/-! ## Places of the array -/

@[simp] theorem look_del {α β : Type} [DecidableEq α] (l : List (α × β)) (k : α) : look (del l k) k = none := by
  simp [look, del]

theorem look_del_other {α β : Type} [DecidableEq α] (l : List (α × β)) {k j : α} (h : j ≠ k) : look (del l k) j = look l j := by
  unfold look del
  rw [List.find?_filter]
  congr 2
  funext p
  by_cases hp : p.1 = j <;> simp [hp, h]

@[simp] theorem setSite_site (u : SensorUnit) (x y : Nat) (p : Site) : (u.setSite x y p).site x y = p := by
  unfold SensorUnit.setSite SensorUnit.site
  split
  next clear => simp [clear]
  next => simp

theorem setSite_site_other (u : SensorUnit) {x y a b : Nat} (p : Site) (h : (a, b) ≠ (x, y)) :
    (u.setSite x y p).site a b = u.site a b := by
  unfold SensorUnit.setSite SensorUnit.site
  split
  · rw [look_del_other _ h]
  · rw [look_put_other _ _ h]

theorem setNode_clearWell (p : Site) (n : Node) (v : NodeState) :
    { p.setNode n v with well := 0 } = ({ p with well := 0 } : Site).setNode n v := by
  cases n <;> rfl

theorem node_setWell (p : Site) (n : Node) (well : Nat) : ({ p with well := well } : Site).node n = p.node n := by
  cases n <;> rfl

/-! ## A self-reset (R24, R28, R29) -/

theorem takeStep_of_le {step c : Nat} (k : Nat) (h : step ≤ c) : takeStep c step k = c - step := if_pos h

theorem selfReset_of_room {p : Site} {well step : Nat} (k : Nat) (still : Bool) (sat : p.sat = false) (room : p.tally < 63)
    (h : step ≤ well) :
    p.selfReset well step k still = { p with well := well - step, tally := p.tally + 1, run := p.run || still } := by
  simp [Site.selfReset, sat, Nat.not_le.2 room, takeStep_of_le k h]

theorem selfReset_at_63 {p : Site} (well step k : Nat) (still : Bool) (sat : p.sat = false) (full : p.tally = 63) :
    p.selfReset well step k still = { p with well := well, sat := true } := by
  simp [Site.selfReset, sat, full]

theorem selfReset_saturated {p : Site} (well step k : Nat) (still : Bool) (sat : p.sat = true) :
    p.selfReset well step k still = { p with well := well } := if_pos sat

/-- A photosite after a self-reset in a window. -/
def State.resetAt (s : State) (w : OpenWindow) (x y well : Nat) (still : Bool) : Site :=
  (s.sensor.site x y).selfReset well (s.stepAt (s.threshold w) x y) s.free still

theorem execSelfReset_of_window {s : State} {x y : Nat} {w : OpenWindow} (well : Nat) (still : Bool) (h : s.frame.window = some w)
    (site : readable x y = true) :
    exec (.selfReset x y well still) s = .next { s.drew with sensor := s.sensor.setSite x y (s.resetAt w x y well still) } := by
  have arm : exec (.selfReset x y well still) s = execSelfReset x y well still s := rfl
  rw [arm, execSelfReset, if_pos site]
  simp only [resetSite, h, State.resetAt]

/-! ## The start of a window (R31, R96) -/

/-- The latest pulse covers the one added: it is that pulse, or one that merged with it. -/
theorem addStrobe_head_covers (p : Nat × Nat) (l : List (Nat × Nat)) :
    ∃ q, (addStrobe p l).head? = some q ∧ q.1 ≤ p.1 ∧ p.2 ≤ q.2 := by
  cases l with
  | nil => exact ⟨p, rfl, Nat.le_refl _, Nat.le_refl _⟩
  | cons q rest =>
    rw [addStrobe]
    split
    · exact ⟨_, rfl, Nat.min_le_right _ _, Nat.le_max_right _ _⟩
    · exact ⟨p, rfl, Nat.le_refl _, Nat.le_refl _⟩

/-- A pulse of TRIG_OUT changes nothing else. -/
theorem trigOut_eq (k : Nat) (t : Trigger) (s : State) : ∃ pulse, trigOut k t s = { s with frame := { s.frame with trigPulse := pulse } } := by
  unfold trigOut
  extract_lets a
  split
  · exact ⟨_, rfl⟩
  · exact ⟨s.frame.trigPulse, rfl⟩

theorem onlyIn_trigOut (k : Nat) (t : Trigger) (s : State) : onlyIn [.frame] s (trigOut k t s) := by
  obtain ⟨pulse, out⟩ := trigOut_eq k t s
  rw [out]
  exact onlyIn_withFrame _ s

/-- When a window opens: as the program has it, or later where a gate cut cleared the nodes (R95). -/
def State.opensAt (s : State) (e : ProgEntry) (b : Nat) : Nat := max (b - e.startBefore) s.frame.clearReady

/-- The engine once a window has opened. -/
def State.windowOpened (s : State) (e : ProgEntry) (b : Nat) : FrameUnit :=
  let t := s.frame.sens1.trigger
  { s.frame with window := some ⟨e.node, b - e.endBefore, s.firstInto e.node⟩, windows := s.frame.windows + 1, applied := s.program,
                 strobe := addStrobe (s.opensAt e b + outputLag - t.advance, b - e.endBefore + outputLag - t.advance) s.frame.strobe }

/-- The state that the start of a window leaves. -/
theorem startWindow_of_due {s : State} {e : ProgEntry} {b : Nat} (h : s.dueWindow = some (e, b)) :
    ∃ pulse, startWindow s = { reach (s.opensAt e b) s with
      sensor := s.sensor.mapSites Site.fresh, frame := { s.windowOpened e b with trigPulse := pulse } } := by
  simp only [startWindow, h]
  split
  · obtain ⟨pulse, out⟩ := trigOut_eq 2 s.frame.sens1.trigger
      { reach (s.opensAt e b) s with sensor := s.sensor.mapSites Site.fresh, frame := s.windowOpened e b }
    exact ⟨pulse, out⟩
  · exact ⟨s.frame.trigPulse, rfl⟩

/-! ## The end of a window (R32 to R34) -/

theorem atThreshold_of_below {code charge : Nat} (asks : Bool) (h : 1000 * charge < 985 * 32768 * qth code) :
    atThreshold code charge asks = false := by
  have below : ¬ 32768 * qth code ≤ charge := by omega
  have least : ¬ 985 * 32768 * qth code ≤ 1000 * charge := by omega
  simp only [atThreshold, below, least, decide_false, Bool.and_false, Bool.or_false]

theorem atThreshold_of_full {code charge : Nat} (asks : Bool) (h : 32768 * qth code ≤ charge) : atThreshold code charge asks = true := by
  simp only [atThreshold, h, decide_true, Bool.true_or]

theorem folded_of_below {v : NodeState} {code : Nat} (folds step k : Nat) (h : 1000 * v.charge < 985 * 32768 * qth code) :
    v.folded code folds step k = v := by
  simp [NodeState.folded, atThreshold_of_below _ h]

/-- A sum that stands at the threshold, and that one step brings below it, folds once. -/
theorem folded_once {v : NodeState} {code step : Nat} (folds k : Nat) (full : 32768 * qth code ≤ v.charge) (le : step ≤ v.charge)
    (below : 1000 * (v.charge - step) < 985 * 32768 * qth code) (room : v.tally < 63) :
    v.folded code folds step k = { v with charge := v.charge - step, tally := v.tally + 1 } := by
  have fold : v.fold step k = { v with charge := v.charge - step, tally := v.tally + 1 } := by
    rw [fold_of_lt step k room, takeStep_of_le k le]
  simp [NodeState.folded, atThreshold_of_full _ full, fold, atThreshold_of_below _ below]

theorem transfer_eq (p : Site) (n : Node) (code well folds step k : Nat) :
    p.transfer n code well folds step k = ({ p with well := 0 } : Site).setNode n
      (if (p.node n).charge = 0 then (p.node n).receive { p with well := well }
       else ((p.node n).receive { p with well := well }).folded code folds step k) := by
  unfold Site.transfer
  simp only [node_setWell]
  exact setNode_clearWell { p with well := well } n _

/-- A node that holds no charge takes the residual as it is, and folds nothing (R33). -/
theorem transfer_into_empty {p : Site} {n : Node} (code well folds step k : Nat) (empty : (p.node n).charge = 0) :
    p.transfer n code well folds step k = ({ p with well := 0 } : Site).setNode n ((p.node n).receive { p with well := well }) := by
  rw [transfer_eq, if_pos empty]

/-- A sum below every photosite's threshold stays (R33). -/
theorem transfer_of_below {p : Site} {n : Node} {code well : Nat} (folds step k : Nat) (held : (p.node n).charge ≠ 0)
    (below : 1000 * ((p.node n).receive { p with well := well }).charge < 985 * 32768 * qth code) :
    p.transfer n code well folds step k = ({ p with well := 0 } : Site).setNode n ((p.node n).receive { p with well := well }) := by
  rw [transfer_eq, if_neg held, folded_of_below _ _ _ below]

/-- A sum at the threshold that one step brings below it loses that step, and the tally counts it (R33). -/
theorem transfer_of_one_fold {p : Site} {n : Node} {code well step : Nat} (folds k : Nat) (held : (p.node n).charge ≠ 0) :
    let sum := (p.node n).receive { p with well := well }
    32768 * qth code ≤ sum.charge → step ≤ sum.charge → 1000 * (sum.charge - step) < 985 * 32768 * qth code → sum.tally < 63 →
      p.transfer n code well folds step k =
        ({ p with well := 0 } : Site).setNode n { sum with charge := sum.charge - step, tally := sum.tally + 1 } := by
  intro sum full le below room
  rw [transfer_eq, if_neg held, folded_once _ _ full le below room]

theorem onlyIn_transferSite (n : Node) (code : Nat) (c : SiteCharge) (s : State) : onlyIn [.sensor, .free] s (transferSite n code c s) := by
  intro p hp; cases p <;> simp [Part.same, transferSite] at hp ⊢

theorem transferSite_site (n : Node) (code : Nat) (c : SiteCharge) (s : State) :
    (transferSite n code c s).sensor.site c.x c.y =
      (s.sensor.site c.x c.y).transfer n code c.charge c.folds (s.stepAt code c.x c.y) s.free := by
  simp [transferSite]

/-- The transfer of other photosites leaves a photosite as it was. -/
theorem transferSites_site_other (n : Node) (code : Nat) {x y : Nat} (l : List SiteCharge) (s : State)
    (h : ∀ c ∈ l, (x, y) ≠ (c.x, c.y)) : (each l (transferSite n code) s).sensor.site x y = s.sensor.site x y := by
  induction l generalizing s with
  | nil => rfl
  | cons c l ih =>
    have here : (transferSite n code c s).sensor.site x y = s.sensor.site x y := setSite_site_other _ _ (h c List.mem_cons_self)
    exact (ih _ fun d hd => h d (List.mem_cons_of_mem c hd)).trans here

/-- The stack as the end of a window finds it: what an earlier frame left in the node is gone at the frame's first window into it. -/
def State.sensorAtEnd (s : State) (w : OpenWindow) : SensorUnit :=
  if w.first then s.sensor.mapSites (fun q => q.cleared w.node) else s.sensor

theorem endWindow_of_unread {s : State} (sites : List SiteCharge) (h : s.unread = true) : endWindow sites s = s := by
  simp only [endWindow, h, if_true]
  split <;> rfl

/-- The end of a window at which one photosite is named: it transfers first, and others after it. -/
theorem endWindow_of_read {s : State} {w : OpenWindow} (c : SiteCharge) (h : s.frame.window = some w) (read : s.unread = false) :
    ∃ rest u, (∀ d ∈ rest, (c.x, c.y) ≠ (d.x, d.y)) ∧
      u = each rest (transferSite w.node (s.threshold w)) (transferSite w.node (s.threshold w) c
        { reach w.endAt s with sensor := s.sensorAtEnd w }) ∧
      endWindow [c] s = { u with frame := { u.frame with window := none } } := by
  refine ⟨((s.sensorAtEnd w).sites.filter fun p => !(decide ((c.x, c.y) = p.1))).map heldCharge, _, ?_, rfl, ?_⟩
  · intro d hd
    obtain ⟨p, hp, rfl⟩ := List.mem_map.1 hd
    have unnamed : (!decide ((c.x, c.y) = p.1)) = true := (List.mem_filter.1 hp).2
    exact of_decide_eq_false ((Bool.not_eq_true' _).mp unnamed)
  · simp only [endWindow, h, read, Bool.false_eq_true, if_false, State.sensorAtEnd, List.any_cons, List.any_nil, Bool.or_false]
    split <;> rfl

/-- The end of a window closes it, at its time, and the named photosite has transferred. -/
theorem endWindow_facts {s : State} {w : OpenWindow} (c : SiteCharge) (h : s.frame.window = some w) (read : s.unread = false) :
    onlyIn [.time, .frame, .sensor, .free] s (endWindow [c] s) ∧ (endWindow [c] s).frame = { s.frame with window := none } ∧
    w.endAt ≤ (endWindow [c] s).time.module ∧
    (endWindow [c] s).sensor.site c.x c.y = ((s.sensorAtEnd w).site c.x c.y).transfer w.node (s.threshold w) c.charge c.folds
      (s.stepAt (s.threshold w) c.x c.y) s.free := by
  obtain ⟨rest, u, others, hu, ends⟩ := endWindow_of_read c h read
  have moved : onlyIn [.sensor, .free] { reach w.endAt s with sensor := s.sensorAtEnd w } u := by
    rw [hu]
    exact onlyIn_trans (onlyIn_transferSite _ _ c _) (onlyIn_each _ (onlyIn_transferSite _ _) rest _)
  have frame : u.frame = s.frame := moved .frame (by decide)
  have time : u.time = (reach w.endAt s).time := moved .time (by decide)
  have steps : (s.sensorAtEnd w).words = s.sensor.words := by unfold State.sensorAtEnd; split <;> rfl
  rw [ends]
  refine ⟨onlyIn_trans (onlyIn_mono (onlyIn_reach w.endAt s) (by decide)) (onlyIn_trans (onlyIn_mono (onlyIn_withSensor _ _) (by decide))
    (onlyIn_trans (onlyIn_mono moved (by decide)) (onlyIn_mono (onlyIn_withFrame _ u) (by decide)))), ?_, ?_, ?_⟩
  · rw [frame]
  · exact time ▸ reach_module w.endAt s
  · rw [hu, transferSites_site_other _ _ rest _ others, transferSite_site]
    simp only [State.stepAt, steps]
    rfl

/-! ## The repair of a calibration word (R44) -/

/-- The word of a photosite, where the map lists it. -/
theorem at_of_listed {m : WordMap} {x y : Nat} {w : BitVec 48} (mono : Bool) (h : look m.except (x, y) = some w) : m.at mono x y = w := by
  simp only [WordMap.at, h]

/-- The word of a photosite that the map does not list is the common word at its place. -/
theorem at_of_unlisted {m : WordMap} {x y : Nat} (mono : Bool) (h : look m.except (x, y) = none) :
    m.at mono x y = placeWord mono m.common x y := by
  simp only [WordMap.at, h]

theorem at_put (m : WordMap) (mono : Bool) (x y : Nat) (w : BitVec 48) : ({ m with except := put m.except (x, y) w } : WordMap).at mono x y = w :=
  at_of_listed mono (look_put _ _ _)

theorem at_put_other (m : WordMap) (mono : Bool) {x y u v : Nat} (w : BitVec 48) (h : (u, v) ≠ (x, y)) :
    ({ m with except := put m.except (x, y) w } : WordMap).at mono u v = m.at mono u v := by
  simp only [WordMap.at, look_put_other _ _ h]

theorem at_del (m : WordMap) (mono : Bool) (x y : Nat) :
    ({ m with except := del m.except (x, y) } : WordMap).at mono x y = placeWord mono m.common x y :=
  at_of_unlisted mono (look_del _ _)

theorem at_del_other (m : WordMap) (mono : Bool) {x y u v : Nat} (h : (u, v) ≠ (x, y)) :
    ({ m with except := del m.except (x, y) } : WordMap).at mono u v = m.at mono u v := by
  simp only [WordMap.at, look_del_other _ h]

/-- A word is written again from the copy in force: the photosite has the word of that set, and the others have their own. -/
theorem restoreWord_words {s : State} {c : CalSet} (x y : Nat) (h : s.cal.inForce = some c) :
    (restoreWord x y s).sensor.words.at s.mono x y = c.words.at s.mono x y ∧
    ∀ u v, (u, v) ≠ (x, y) → (restoreWord x y s).sensor.words.at s.mono u v = s.sensor.words.at s.mono u v := by
  have set : s.calSet = c := by rw [State.calSet, h]; rfl
  rcases own : look c.words.except (x, y) with _ | w
  · rw [at_of_unlisted _ own]
    by_cases same : c.words.common = s.sensor.words.common
    · simp only [restoreWord, set, own, if_pos same]
      rw [same]
      exact ⟨at_del _ _ _ _, fun u v other => at_del_other _ _ other⟩
    · simp only [restoreWord, set, own, if_neg same]
      exact ⟨at_put _ _ _ _ _, fun u v other => at_put_other _ _ _ other⟩
  · rw [at_of_listed _ own]
    simp only [restoreWord, set, own]
    exact ⟨at_put _ _ _ _ _, fun u v other => at_put_other _ _ _ other⟩

end Sys2Proof.Machine

/-! PROOFS. Edges of TRIG_IN and gates (R93 to R95), and the statement on photosites and triggers. -/

namespace Sys2Proof.Machine

/-! ## Triggers (R93, R94) -/

/-- The state once an edge of TRIG_IN is stamped. -/
def State.stamped (s : State) : State :=
  { s with pins := { s.pins with trigIn := true }, frame := s.frame.stamp s.time.module (nextBoundary s) }

/-- A stamp moves no trigger. -/
theorem stamp_eq (f : FrameUnit) (te : Nat) (next : Option Nat) :
    ∃ time late, f.stamp te next = { f with trigTime := time, trigLate := late } ∧ (time = te ∨ te ∈ late) := by
  unfold FrameUnit.stamp
  split
  · exact ⟨f.trigTime, _, rfl, .inr (by simp)⟩
  · exact ⟨te, f.trigLate, rfl, .inl rfl⟩

theorem onlyIn_stamped (s : State) : onlyIn [.pins, .frame] s s.stamped := by
  intro p hp; cases p <;> simp [Part.same, State.stamped] at hp ⊢

/-- An edge of TRIG_IN changes the engine only by its stamp. -/
theorem stamped_frame (s : State) : ∃ time late, s.stamped.frame = { s.frame with trigTime := time, trigLate := late } ∧
    (time = s.time.module ∨ s.time.module ∈ late) :=
  stamp_eq s.frame s.time.module (nextBoundary s)

theorem stamped_heedsTriggers (s : State) : s.stamped.heedsTriggers = s.heedsTriggers := by
  obtain ⟨time, late, frame, -⟩ := stamped_frame s
  unfold State.heedsTriggers
  rw [frame]
  rfl

/-- An engine that heeds triggers follows no leader. -/
theorem follows_of_heeds {s : State} (h : s.heedsTriggers = true) : s.tandem.follows = false := by
  simp only [State.heedsTriggers, Bool.and_eq_true, Bool.not_eq_true'] at h
  exact h.2

/-- In TRIGGERED operation an edge that is heeded is stamped and taken as a trigger. -/
theorem exec_trigInEdge_triggered {s : State} (on : s.pdOn 76 = true) (heeds : s.heedsTriggers = true)
    (mode : s.frame.sens1.trigger.mode = .triggered) : exec .trigInEdge s = .next (triggerEdge s.time.module s.stamped) := by
  have heeds' : s.stamped.heedsTriggers = true := (stamped_heedsTriggers s).trans heeds
  have mode' : s.stamped.frame.sens1.trigger.mode = .triggered := by
    obtain ⟨time, late, frame, -⟩ := stamped_frame s
    rw [frame]
    exact mode
  refine congrArg Host.Outcome.next (?_ : trigEdge s = triggerEdge s.time.module s.stamped)
  unfold trigEdge
  rw [on, follows_of_heeds heeds, if_neg (by decide)]
  change (if (!s.stamped.heedsTriggers) = true then _ else _) = _
  rw [heeds', if_neg (by decide)]
  split
  next free => exact absurd (mode'.symm.trans free) (by decide)
  next => rfl
  next gated => exact absurd (mode'.symm.trans gated) (by decide)

/-- The state with a trigger in flight. -/
def State.withFlying (s : State) (g : Flying) : State := { s with frame := { s.frame with flying := some g } }

/-- A scheduled trigger: it is in flight, the take may choose its pre-roll now, and a delay is reported. -/
theorem scheduleTrigger_eq (te : Nat) (s : State) : ∃ g d, g.edge = te ∧ scheduleTrigger te s =
    if 0 < d then logEvent 0x0330 srcEngine (d % 2 ^ 32) (choosePreroll (s.withFlying g)) else choosePreroll (s.withFlying g) :=
  ⟨⟨te, _, _⟩, _, rfl, rfl⟩

theorem scheduleTrigger_keeps (te : Nat) (s : State) :
    onlyIn (prerollParts ++ reporting) s (scheduleTrigger te s) ∧
    ∃ g, g.edge = te ∧ sameEngine (s.withFlying g) (scheduleTrigger te s) := by
  obtain ⟨g, d, edge, eq⟩ := scheduleTrigger_eq te s
  obtain ⟨parts, engine⟩ := choosePreroll_keeps (s.withFlying g)
  have chosen : onlyIn (prerollParts ++ reporting) s (choosePreroll (s.withFlying g)) :=
    onlyIn_trans (onlyIn_mono (onlyIn_withFrame _ s) (by decide)) (onlyIn_mono parts (by decide))
  rw [eq]
  split
  · have reported : onlyIn reporting (choosePreroll (s.withFlying g)) (logEvent 0x0330 srcEngine (d % 2 ^ 32) (choosePreroll (s.withFlying g))) :=
      onlyIn_logEvent _ _ _ _
    exact ⟨onlyIn_trans chosen (onlyIn_mono reported (by decide)),
      g, edge, sameEngine_trans engine (sameEngine_of_frame (reported .frame (by decide)))⟩
  · exact ⟨chosen, g, edge, engine⟩

/-- With no pre-roll to choose, a scheduled trigger changes the engine alone, and what a report can. -/
theorem onlyIn_scheduleTrigger_of_chosen (te : Nat) {s : State} (h : s.take.isRunning = true → 0 < s.take.first) :
    onlyIn (.frame :: reporting) s (scheduleTrigger te s) := by
  obtain ⟨g, d, -, eq⟩ := scheduleTrigger_eq te s
  have flies : onlyIn [.frame] s (s.withFlying g) := onlyIn_withFrame _ s
  rw [eq, choosePreroll_of_chosen (s := s.withFlying g) h]
  exact onlyIn_ite (onlyIn_trans (onlyIn_mono flies (by decide)) (onlyIn_mono (onlyIn_logEvent _ _ _ _) (by decide)))
    (onlyIn_mono flies (by decide))

/-- An edge with no trigger in flight becomes the trigger in flight, whatever the take does; its stamp stays. -/
theorem acceptTrigger_flies (te : Nat) {s : State} (none : s.frame.flying = none) :
    onlyIn (prerollParts ++ reporting) s (acceptTrigger te s) ∧
    ((s.take.isRunning = true → 0 < s.take.first) → onlyIn (.frame :: reporting) s (acceptTrigger te s)) ∧
    (∃ g, (acceptTrigger te s).frame.flying = some g ∧ g.edge = te) ∧
    (acceptTrigger te s).frame.trigTime = s.frame.trigTime ∧ (acceptTrigger te s).frame.trigLate = s.frame.trigLate := by
  obtain ⟨parts, g, edge, engine⟩ := scheduleTrigger_keeps te s
  obtain ⟨pulse, out⟩ := trigOut_eq 3 s.frame.sens1.trigger (scheduleTrigger te s)
  have accept : acceptTrigger te s = trigOut 3 s.frame.sens1.trigger (scheduleTrigger te s) := by
    simp only [acceptTrigger, none, Option.isNone_none, if_true]
  have pulsed : onlyIn [.frame] (scheduleTrigger te s) (trigOut 3 s.frame.sens1.trigger (scheduleTrigger te s)) := onlyIn_trigOut _ _ _
  rw [accept]
  refine ⟨onlyIn_trans parts (onlyIn_mono pulsed (by decide)),
    fun chosen => onlyIn_trans (onlyIn_scheduleTrigger_of_chosen te chosen) (onlyIn_mono pulsed (by decide)), ?_⟩
  rw [out]
  exact ⟨⟨g, sameEngine_flying engine, edge⟩, (sameEngine_trigTime engine :), (sameEngine_trigLate engine :)⟩

/-- An edge behind a trigger in flight waits. -/
theorem acceptTrigger_waits (te : Nat) {s : State} (flying : s.frame.flying ≠ none) :
    onlyIn [.frame] s (acceptTrigger te s) ∧ (acceptTrigger te s).frame.pending = some te ∧
    (acceptTrigger te s).frame.flying = s.frame.flying := by
  obtain ⟨pulse, out⟩ := trigOut_eq 3 s.frame.sens1.trigger { s with frame := { s.frame with pending := some te } }
  have accept : acceptTrigger te s = trigOut 3 s.frame.sens1.trigger { s with frame := { s.frame with pending := some te } } := by
    simp only [acceptTrigger, Option.isNone_iff_eq_none, flying, if_false]
  rw [accept, out]
  exact ⟨onlyIn_withFrame _ s, rfl, rfl⟩

/-- An edge that finds a trigger in flight and one pending is counted and reported. -/
theorem triggerEdge_overruns (te : Nat) {s : State} (flying : s.frame.flying ≠ none) (pending : s.frame.pending ≠ none) :
    onlyIn (.frame :: reporting) s (triggerEdge te s) ∧
    (triggerEdge te s).frame = { s.frame with overrun := bump32 s.frame.overrun 1 } ∧ Reports 0x0331 srcEngine (triggerEdge te s) := by
  have full : ¬(s.frame.flying.isNone = true ∨ s.frame.pending.isNone = true) := by simp [flying, pending]
  rw [triggerEdge, if_neg full]
  refine ⟨onlyIn_trans (onlyIn_mono (onlyIn_withFrame _ s) (by decide)) (onlyIn_mono (onlyIn_logEvent _ _ _ _) (by decide)),
    logEvent_frame _ _ _ _, reports_logEvent (by decide)⟩

theorem triggerEdge_of_room (te : Nat) {s : State} (h : s.frame.flying = none ∨ s.frame.pending = none) :
    triggerEdge te s = acceptTrigger te s := by
  have room : s.frame.flying.isNone = true ∨ s.frame.pending.isNone = true := by
    simpa only [Option.isNone_iff_eq_none] using h
  exact if_pos room

/-! ## Gates (R95) -/

/-- What the close of a gate can change. -/
def gateParts : List Part := [.frame, .sensor] ++ reporting

theorem endCut_keeps (s : State) : onlyIn gateParts s (endCut s) ∧ (endCut s).frame.gateOpen = s.frame.gateOpen := by
  unfold endCut
  split
  · exact ⟨onlyIn_refl _ _, rfl⟩
  · split
    · refine ⟨onlyIn_trans (onlyIn_mono (onlyIn_withSensorFrame _ _ s) (by decide)) (onlyIn_mono (onlyIn_logFrame _ _ _ _ _) (by decide)), ?_⟩
      rw [logFrame_frame]
    · exact ⟨onlyIn_refl _ _, rfl⟩

theorem cutReadout_keeps (s : State) : onlyIn gateParts s (cutReadout s) ∧ (cutReadout s).frame.gateOpen = s.frame.gateOpen := by
  unfold cutReadout
  split
  · exact ⟨onlyIn_refl _ _, rfl⟩
  · split
    · exact ⟨onlyIn_refl _ _, rfl⟩
    · obtain ⟨parts, gate⟩ := endCut_keeps { s with frame := _ }
      exact ⟨onlyIn_trans (onlyIn_mono (onlyIn_withFrame _ s) (by decide)) parts, gate⟩

theorem abandonExposure_keeps (s : State) :
    onlyIn gateParts s (abandonExposure s) ∧ (abandonExposure s).frame.gateOpen = s.frame.gateOpen :=
  ⟨onlyIn_mono (onlyIn_withSensorFrame _ _ s) (by decide), rfl⟩

/-- The gate is closed, whichever way its exposure and its readout end. -/
theorem closeGate_closes (s : State) : onlyIn gateParts s (closeGate s) ∧ (closeGate s).frame.gateOpen = false := by
  unfold closeGate
  extract_lets tg near frame s1 flown s2
  have closed : onlyIn gateParts s s1 := onlyIn_mono (onlyIn_withFrame _ s) (by decide)
  have ended : onlyIn gateParts s1 s2 ∧ s2.frame.gateOpen = false := by
    unfold s2
    split
    · exact abandonExposure_keeps s1
    · exact ⟨onlyIn_refl _ _, rfl⟩
    · exact ⟨onlyIn_mono (onlyIn_withFrame _ s1) (by decide), rfl⟩
  obtain ⟨parts, gate⟩ := ended
  split
  · obtain ⟨cutParts, cutGate⟩ := cutReadout_keeps s2
    exact ⟨onlyIn_trans closed (onlyIn_trans parts cutParts), cutGate.trans gate⟩
  · exact ⟨onlyIn_trans closed parts, gate⟩

theorem exec_gateClose_gated {s : State} (on : s.pdOn 76 = true) (opened : s.frame.gateOpen = true)
    (mode : s.frame.sens1.trigger.mode = .gated) (heeds : s.heedsTriggers = true) :
    exec .gateClose s = .next (closeGate { s with pins := { s.pins with trigIn := false } }) := by
  refine congrArg Host.Outcome.next (if_pos ?_)
  simp only [on, opened, mode, heeds, decide_true, Bool.and_self]

/-! ## The clauses of the statement -/

/-- R31, R96: a window opens. -/
theorem windowStart_clears {s : State} {e : ProgEntry} {b : Nat} (due : s.dueWindow = some (e, b)) :
    Completes .exposureWindowStart s [.time, .frame, .sensor] fun t =>
      t.frame.window = some ⟨e.node, b - e.endBefore, s.firstInto e.node⟩ ∧ t.frame.windows = s.frame.windows + 1 ∧
      t.frame.applied = s.program ∧
      (∃ p, t.frame.strobe.head? = some p ∧ p.1 ≤ max (b - e.startBefore) s.frame.clearReady + outputLag - s.frame.sens1.trigger.advance ∧
        b - e.endBefore + outputLag - s.frame.sens1.trigger.advance ≤ p.2) ∧
      t.sensor = s.sensor.mapSites Site.fresh ∧ b - e.startBefore ≤ t.time.module := by
  obtain ⟨pulse, start⟩ := startWindow_of_due due
  refine ⟨_, congrArg Host.Outcome.next start, ?_, rfl, rfl, rfl, addStrobe_head_covers _ _, rfl, ?_⟩
  · exact onlyIn_trans (onlyIn_mono (onlyIn_reach _ s) (by decide)) (onlyIn_mono (onlyIn_withSensorFrame _ _ _) (by decide))
  · exact Nat.le_trans (Nat.le_max_left _ _) (reach_module (s.opensAt e b) s)

/-- R32 to R34: a window ends at one named photosite. -/
theorem windowEnd_transfers {s : State} {w : OpenWindow} (c : SiteCharge) (window : s.frame.window = some w)
    (site : readable c.x c.y = true) (read : s.unread = false) :
    Completes (.exposureWindowEnd [c]) s [.time, .frame, .sensor, .free] fun t =>
      t.frame.window = none ∧ t.frame.strobe = s.frame.strobe ∧ w.endAt ≤ t.time.module ∧
      t.sensor.site c.x c.y = ((s.sensorAtEnd w).site c.x c.y).transfer w.node (s.threshold w) c.charge c.folds
        (s.stepAt (s.threshold w) c.x c.y) s.free := by
  obtain ⟨parts, frame, time, charge⟩ := endWindow_facts c window read
  have found : [c].find? (fun d => !(readable d.x d.y)) = none := by simp [site]
  have arm : exec (.exposureWindowEnd [c]) s = .next (endWindow [c] s) := by
    show execExposureWindowEnd [c] s = _
    rw [execExposureWindowEnd, found]
  exact ⟨_, arm, parts, by rw [frame], by rw [frame], time, charge⟩

/-- R24, R28, R29: a self-reset while a window is open. -/
theorem selfReset_counts {s : State} {w : OpenWindow} {x y : Nat} (well : Nat) (still : Bool) (window : s.frame.window = some w)
    (site : readable x y = true) :
    let p := s.sensor.site x y
    let step := s.stepAt (s.threshold w) x y
    Completes (.selfReset x y well still) s [.sensor, .free] fun t =>
      (∀ u v, (u, v) ≠ (x, y) → t.sensor.site u v = s.sensor.site u v) ∧ t.sensor.words = s.sensor.words ∧
      (p.sat = false → p.tally < 63 → step ≤ well →
        t.sensor.site x y = { p with well := well - step, tally := p.tally + 1, run := p.run || still }) ∧
      (p.sat = false → p.tally = 63 → t.sensor.site x y = { p with well := well, sat := true }) ∧
      (p.sat = true → t.sensor.site x y = { p with well := well }) := by
  have same := setSite_site s.sensor x y (s.resetAt w x y well still)
  refine ⟨_, execSelfReset_of_window well still window site, ?_, fun u v other => setSite_site_other _ _ other, rfl,
    fun sat room le => same.trans (selfReset_of_room _ _ sat room le), fun sat full => same.trans (selfReset_at_63 _ _ _ _ sat full),
    fun sat => same.trans (selfReset_saturated _ _ _ _ sat)⟩
  exact onlyIn_trans (onlyIn_mono (onlyIn_drew s) (by decide)) (onlyIn_mono (onlyIn_withSensor _ _) (by decide))

/-- R44: the keeper core writes a word again. -/
theorem calWordRestore_restores {s : State} {c : CalSet} {x y : Nat} (site : readable x y = true) (on : s.pdOn (8 + tileOf x y) = true)
    (set : s.cal.inForce = some c) :
    Completes (.calWordRestore x y) s [.sensor] fun t =>
      t.sensor.words.at s.mono x y = c.words.at s.mono x y ∧ t.sensor.sites = s.sensor.sites ∧
      ∀ u v, (u, v) ≠ (x, y) → t.sensor.words.at s.mono u v = s.sensor.words.at s.mono u v := by
  have arm : exec (.calWordRestore x y) s = .next (restoreWord x y s) := by
    show execCalWordRestore x y s = _
    simp only [execCalWordRestore, site, on, set, Option.isSome_some, Bool.and_self, if_true]
  obtain ⟨own, others⟩ := restoreWord_words x y set
  exact ⟨_, arm, onlyIn_withSensor _ s, own, rfl, others⟩

/-- A photosite outside the array does not exist. -/
theorem noSuchSite_of_unreadable {x y : Nat} (s : State) (well : Nat) (still : Bool) (site : readable x y = false) :
    exec (.selfReset x y well still) s = .fault (.noSuchSite x y) ∧ exec (.calWordRestore x y) s = .fault (.noSuchSite x y) ∧
    ∀ q f, exec (.exposureWindowEnd [⟨x, y, q, f⟩]) s = .fault (.noSuchSite x y) := by
  refine ⟨if_neg (by simp [site]), if_neg (by simp [site]), fun q f => ?_⟩
  have found : [(⟨x, y, q, f⟩ : SiteCharge)].find? (fun d => !(readable d.x d.y)) = some ⟨x, y, q, f⟩ := by simp [site]
  show execExposureWindowEnd _ s = _
  rw [execExposureWindowEnd, found]

/-- R35: no window ends while nodes hold what the readout is to read. -/
theorem windowEnd_of_unread {s : State} {cs : List SiteCharge} (sites : ∀ c ∈ cs, readable c.x c.y = true) (unread : s.unread = true) :
    exec (.exposureWindowEnd cs) s = .next s := by
  have found : cs.find? (fun c => !(readable c.x c.y)) = none := by
    rw [List.find?_eq_none]
    exact fun c hc => by simp [sites c hc]
  show execExposureWindowEnd cs s = _
  rw [execExposureWindowEnd, found]
  exact congrArg Host.Outcome.next (endWindow_of_unread cs unread)

section Edges

variable {s : State} (on : s.pdOn 76 = true) (heeds : s.heedsTriggers = true) (mode : s.frame.sens1.trigger.mode = .triggered)

include on heeds mode

/-- R94: an edge with no trigger in flight is stamped, and is the trigger in flight. -/
theorem trigInEdge_flies (none : s.frame.flying = none) : ∃ t, exec .trigInEdge s = .next t ∧
    onlyIn (.pins :: (prerollParts ++ reporting)) s t ∧
    ((s.take.isRunning = true → 0 < s.take.first) → onlyIn ([.pins, .frame] ++ reporting) s t) ∧
    (t.frame.trigTime = s.time.module ∨ s.time.module ∈ t.frame.trigLate) ∧ t.pins.trigIn = true ∧
    ∃ g, t.frame.flying = some g ∧ g.edge = s.time.module := by
  obtain ⟨time, late, frame, stamp⟩ := stamped_frame s
  have none' : s.stamped.frame.flying = Option.none := by rwa [frame]
  obtain ⟨parts, chosen, flies, trigTime, trigLate⟩ := acceptTrigger_flies s.time.module none'
  have edge := (exec_trigInEdge_triggered on heeds mode).trans (congrArg _ (triggerEdge_of_room _ (.inl none')))
  refine ⟨_, edge, ?_, fun first => ?_, ?_, ?_, flies⟩
  · exact onlyIn_trans (onlyIn_mono (onlyIn_stamped s) (by decide)) (onlyIn_mono parts (by decide))
  · exact onlyIn_trans (onlyIn_mono (onlyIn_stamped s) (by decide)) (onlyIn_mono (chosen first) (by decide))
  · rw [trigTime, trigLate, frame]; exact stamp
  · rw [parts .pins (by decide)]; rfl

/-- R94: an edge behind a trigger in flight waits where none waits. -/
theorem trigInEdge_waits (flying : s.frame.flying ≠ none) (free : s.frame.pending = none) :
    Completes .trigInEdge s [.pins, .frame] fun t => t.frame.pending = some s.time.module ∧ t.frame.flying = s.frame.flying := by
  obtain ⟨time, late, frame, -⟩ := stamped_frame s
  have flying' : s.stamped.frame.flying = s.frame.flying := by rw [frame]
  have free' : s.stamped.frame.pending = none := by rw [frame]; exact free
  obtain ⟨parts, pending, same⟩ := acceptTrigger_waits s.time.module (flying' ▸ flying)
  exact ⟨_, (exec_trigInEdge_triggered on heeds mode).trans (congrArg _ (triggerEdge_of_room _ (.inr free'))),
    onlyIn_trans (onlyIn_stamped s) (onlyIn_mono parts (by decide)), pending, same.trans flying'⟩

/-- R94: any further edge is an overrun. -/
theorem trigInEdge_overruns (flying : s.frame.flying ≠ none) (pending : s.frame.pending ≠ none) :
    Completes .trigInEdge s ([.pins, .frame] ++ reporting) fun t =>
      t.frame.overrun = bump32 s.frame.overrun 1 ∧ t.frame.flying = s.frame.flying ∧ t.frame.pending = s.frame.pending ∧
      Reports 0x0331 srcEngine t := by
  obtain ⟨time, late, frame, -⟩ := stamped_frame s
  obtain ⟨parts, counted, reports⟩ := triggerEdge_overruns (s := s.stamped) s.time.module (by rwa [frame]) (by rwa [frame])
  rw [frame] at counted
  exact ⟨_, exec_trigInEdge_triggered on heeds mode, onlyIn_trans (onlyIn_mono (onlyIn_stamped s) (by decide)) (onlyIn_mono parts (by decide)),
    by rw [counted], by rw [counted], by rw [counted], reports⟩

end Edges

/-- R95: a gate closes. -/
theorem gateClose_closes {s : State} (on : s.pdOn 76 = true) (opened : s.frame.gateOpen = true)
    (mode : s.frame.sens1.trigger.mode = .gated) (heeds : s.heedsTriggers = true) :
    Completes .gateClose s ([.pins, .frame, .sensor] ++ reporting) fun t => t.frame.gateOpen = false ∧ t.pins.trigIn = false := by
  obtain ⟨parts, gate⟩ := closeGate_closes { s with pins := { s.pins with trigIn := false } }
  refine ⟨_, exec_gateClose_gated on opened mode heeds, ?_, gate, ?_⟩
  · exact onlyIn_trans (onlyIn_mono (onlyIn_withPins _ s) (by decide)) (onlyIn_mono parts (by decide))
  · rw [parts .pins (by decide)]

/-- Settles O35: a clause for each command, with the three sums that a transfer can find in its node (R33), and an edge of TRIG_IN by what is in flight
and what waits (R94). -/
theorem photositesAndTriggersFollowTheirRules : Obligations.PhotositesAndTriggersFollowTheirRules := by
  unfold Obligations.PhotositesAndTriggersFollowTheirRules
  intro s
  refine ⟨fun e b => windowStart_clears, fun x y well still w => selfReset_counts well still, fun c w window site read => ?_,
    fun cs w _ => windowEnd_of_unread, fun x y => noSuchSite_of_unreadable s, fun x y c => calWordRestore_restores,
    fun on heeds mode => ⟨fun none => ?_, fun none chosen => ?_, trigInEdge_waits on heeds mode, trigInEdge_overruns on heeds mode⟩,
    gateClose_closes⟩
  case refine_1 =>
    obtain ⟨t, run, parts, shut, strobe, time, charge⟩ := windowEnd_transfers c window site read
    exact ⟨t, run, parts, shut, strobe, time, fun empty => charge.trans (transfer_into_empty _ _ _ _ _ empty),
      fun held below => charge.trans (transfer_of_below _ _ _ held below),
      fun held full le below room => charge.trans (transfer_of_one_fold _ _ held full le below room)⟩
  case refine_2 =>
    obtain ⟨t, run, parts, -, stamp, pin, flies⟩ := trigInEdge_flies on heeds mode none
    exact ⟨t, run, kept_of_onlyIn parts (by decide), stamp, pin, flies⟩
  case refine_3 =>
    obtain ⟨t, run, -, parts, -, -, flies⟩ := trigInEdge_flies on heeds mode none
    exact ⟨t, run, parts chosen, flies⟩

end Sys2Proof.Machine

/-! PROOFS. The rotation position of a frame (R54): the ledger entry that governs it, the header that carries it, and ROTATION_SET. -/

namespace Sys2Proof.Machine

/-! ## What a packet and a mirrored entry leave -/

theorem onlyIn_withTandem (t : TandemUnit) (s : State) : onlyIn [.tandem] s { s with tandem := t } := by
  intro p hp; cases p <;> simp [Part.same] at hp ⊢

theorem onlyIn_withLedger (l : Ledger) (s : State) : onlyIn [.ledger] s { s with ledger := l } := by
  intro p hp; cases p <;> simp [Part.same] at hp ⊢

theorem onlyIn_tandemSend (kind frame : Nat) (b : List Byte) (s : State) : onlyIn [.tandem, .sent] s (tandemSend kind frame b s) :=
  onlyIn_ite (onlyIn_trans (onlyIn_mono (onlyIn_withTandem _ s) (by decide)) (onlyIn_mono (onlyIn_send _ _) (by decide)))
    (onlyIn_ite (onlyIn_mono (onlyIn_withTandem _ s) (by decide)) (onlyIn_refl _ s))

theorem onlyIn_mirrorEntry (e : LedgerEntry) (s : State) : onlyIn [.tandem, .sent] s (mirrorEntry e s) :=
  onlyIn_ite (onlyIn_trans (onlyIn_tandemSend _ _ _ s) (onlyIn_mono (onlyIn_withTandem _ _) (by decide))) (onlyIn_refl _ s)

/-- R254: an entry goes over the link from JOIN on only. -/
theorem mirrorEntry_of_alone (e : LedgerEntry) {s : State} (alone : s.mirrorsNow = false) : mirrorEntry e s = s :=
  if_neg (by simp [alone])

/-- Whether a leader mirrors entries does not turn on the settings, the ledger or the engine. -/
theorem mirrorsNow_of_onlyIn {s t : State} (h : onlyIn [.settings, .ledger, .frame] s t) : t.mirrorsNow = s.mirrorsNow := by
  have fuse : t.fuse = s.fuse := h .fuse (by decide)
  have tandem : t.tandem = s.tandem := h .tandem (by decide)
  have profile : t.profileTandem = s.profileTandem := h .profileTandem (by decide)
  have pins : t.pins = s.pins := h .pins (by decide)
  unfold State.mirrorsNow State.tandemRole State.cap
  rw [fuse, tandem, profile, pins]

theorem onlyIn_takeSeq (s : State) : onlyIn [.ledger] s s.takeSeq.2 := by
  unfold State.takeSeq
  split <;> exact onlyIn_withLedger _ s

/-! ## A post outside VIEW, TAKE and BURST (R143) -/

/-- The engine with some settings in force for the current and the coming frames. -/
def FrameUnit.under (f : FrameUnit) (y : Settings) : FrameUnit :=
  { f with sens0 := y.sensor, sens1 := y.sensor, sens2 := y.sensor, rotK0 := y.rotK, rotK1 := y.rotK, cond := y.cond, recs := y.recs }

/-- The settings in force and the engine take some settings under a ledger. -/
def State.withInForce (s : State) (y : Settings) (l : Ledger) : State := { s with settings := y, ledger := l, frame := s.frame.under y }

theorem onlyIn_withInForce (y : Settings) (l : Ledger) (s : State) : onlyIn [.settings, .ledger, .frame] s (s.withInForce y l) := by
  intro p hp; cases p <;> simp [Part.same, State.withInForce] at hp ⊢

/-- Settings that pass their checks are in force at once, under the next sequence number, and are mirrored as an entry. -/
theorem postNow_of_passed {l : List Setting} {s : State} (target : Nat)
    (pass : entryCheck l (applySensor l s.settings.sensor) (applySensor l s.settings.sensor).tMin 0 s = none) :
    ∃ led e, (postNow l target s).2 = mirrorEntry e (s.takeSeq.2.withInForce (applyAll l s.settings) led) := by
  unfold postNow
  simp only [pass]
  exact ⟨_, _, rfl⟩

/-- What such a post changes. -/
theorem postNow_effect {l : List Setting} {s : State} (target : Nat)
    (pass : entryCheck l (applySensor l s.settings.sensor) (applySensor l s.settings.sensor).tMin 0 s = none) :
    onlyIn [.settings, .ledger, .frame, .tandem, .sent] s (postNow l target s).2 ∧ (postNow l target s).2.settings = applyAll l s.settings ∧
    (postNow l target s).2.frame = s.frame.under (applyAll l s.settings) ∧
    (s.mirrorsNow = false → (postNow l target s).2.tandem = s.tandem ∧ (postNow l target s).2.sent = s.sent) := by
  obtain ⟨led, e, posted⟩ := postNow_of_passed target pass
  rw [posted]
  have numbered := onlyIn_takeSeq s
  have taken := onlyIn_trans (onlyIn_mono numbered (by decide)) (onlyIn_withInForce (applyAll l s.settings) led s.takeSeq.2)
  have mirrored := onlyIn_mirrorEntry e (s.takeSeq.2.withInForce (applyAll l s.settings) led)
  refine ⟨onlyIn_trans (onlyIn_mono taken (by decide)) (onlyIn_mono mirrored (by decide)), mirrored .settings (by decide), ?_, fun alone => ?_⟩
  · exact (mirrored .frame (by decide)).trans (congrArg (FrameUnit.under · (applyAll l s.settings)) (numbered .frame (by decide)))
  · rw [mirrorEntry_of_alone e ((mirrorsNow_of_onlyIn taken).trans alone)]
    exact ⟨taken .tandem (by decide), taken .sent (by decide)⟩

/-- A ledger-making command posts, and then responds. -/
theorem postCommand_responds (l : List Setting) (target : Nat) (id : ReqId) (s : State) :
    ∃ st n b, postCommand l target id s = respond id true st n b (post l target id s).2 := by
  unfold postCommand
  generalize post l target id s = q
  obtain ⟨p, s1⟩ := q
  dsimp only
  split
  · exact ⟨_, _, _, rfl⟩
  · exact ⟨_, _, _, rfl⟩

/-- With no entry due and no fatal sequence, a post changes the settings in force. -/
theorem post_of_idle {l : List Setting} {target : Nat} {id : ReqId} {s : State} (calm : s.dump.fatal = none) (idle : s.ledgerRuns = false) :
    post l target id s = postNow l target s := by
  simp only [post, calm, idle, Option.isSome_none, Bool.false_eq_true, if_false]

/-! ## A command whose checks fail -/

/-- A command whose request waits and that fails a check of Table 11-5 only responds. -/
theorem command_refused {o : Opcode} {r : Req} {k : State → Checks} {act : ReqId → State → State} {st : Status} {s : State} (h : Waiting o r s)
    (fails : (k (takeUp r s)).failing (takeUp r s).mbox = some st) : command o r k act s = respond (reqOf o r s) true st 0 [] (takeUp r s) := by
  have covered : lacksAuth o (takeUp r s) = false := by rw [← h.covered]; simp [lacksAuth]
  unfold command
  simp only [h.waits, h.turn, if_true, takeUp_gen, takeUp_trust, h.running, Bool.false_and, Bool.false_eq_true, if_false, covered, fails]
  rfl

/-! ## ROTATION_SET -/

/-- ROT_K takes 1 to 255 (R54). -/
theorem settingsOk_rotK (r : Req) (v : Byte) (s : State) : settingsOk r [.rotK v] s = decide (1 ≤ v.toNat) := by
  simp [settingsOk, profileOnly, settingId, versionAllows, inRange]

/-- The checks of ROTATION_SET. -/
def rotationChecks (r : Req) (v : Byte) (t : State) : Checks := ⟨decide (r.len = 4), sound r (true && settingsOk r [.rotK v] t), true, []⟩

theorem exec_rotationSet (r : Req) (v : Byte) (s : State) :
    exec (.rotationSet r v) s = .next (command .rotationSet r (rotationChecks r v) (postCommand [.rotK v] r.target.toNat) s) := rfl

/-- ROT_K 0 receives BAD_PARAM. -/
theorem rotationSet_zero {r : Req} {s : State} (h : Waiting .rotationSet r s) (len : r.len = 4) :
    Completes (.rotationSet r 0) s [.time, .mbox] fun t => Answered .rotationSet r true .badParam 0 [] s t := by
  have fails : (rotationChecks r 0 (takeUp r s)).failing (takeUp r s).mbox = some .badParam := by
    simp [Checks.failing, rotationChecks, len, sound, settingsOk_rotK]
  exact ⟨_, (exec_rotationSet r 0 s).trans (congrArg _ (command_refused h fails)),
    onlyIn_trans (onlyIn_takeUp r s) (onlyIn_mono (onlyIn_respond _ _ _ _ _ _) (by decide)), respond_answers h fun _ => rfl⟩

/-- Where no entry is due, another value that passes its checks is in force at once. -/
theorem rotationSet_inForce {r : Req} {v : Byte} {s : State} (h : Waiting .rotationSet r s) (len : r.len = 4) (range : 1 ≤ v.toNat)
    (calm : s.dump.fatal = none) (idle : s.ledgerRuns = false) (pass : entryCheck [.rotK v] s.settings.sensor s.settings.sensor.tMin 0 s = none) :
    Completes (.rotationSet r v) s [.time, .mbox, .settings, .ledger, .frame, .tandem, .sent] fun t =>
      (s.mirrorsNow = false → t.tandem = s.tandem ∧ t.sent = s.sent) ∧
      t.settings = { s.settings with rotK := v.toNat } ∧ t.frame.rotK0 = v.toNat ∧ t.frame.rotK1 = v.toNat := by
  have passes : (rotationChecks r v (takeUp r s)).failing (takeUp r s).mbox = none :=
    failing_none (by simp [rotationChecks, len]) (by simp [rotationChecks, sound, h.reserved, settingsOk_rotK, range]) rfl
      (by rw [takeUp_claims, h.unclaimed])
  obtain ⟨st, n, b, responds⟩ := postCommand_responds [.rotK v] r.target.toNat (reqOf .rotationSet r s) (takeUp r s)
  rw [post_of_idle (s := takeUp r s) calm idle] at responds
  obtain ⟨parts, settings, engine, alone⟩ := postNow_effect (l := [.rotK v]) (s := takeUp r s) r.target.toNat pass
  have answered := onlyIn_respond (reqOf .rotationSet r s) true st n b (postNow [.rotK v] r.target.toNat (takeUp r s)).2
  refine ⟨_, (command_exec (exec_rotationSet r v s) h passes).trans (congrArg _ responds), ?_, fun mirrors => ?_, ?_, ?_, ?_⟩
  · exact onlyIn_trans (onlyIn_mono (onlyIn_takeUp r s) (by decide)) (onlyIn_trans (onlyIn_mono parts (by decide)) (onlyIn_mono answered (by decide)))
  · rw [respond_tandem, respond_sent]
    exact alone mirrors
  · exact (answered .settings (by decide)).trans settings
  · rw [respond_frame, engine]; rfl
  · rw [respond_frame, engine]; rfl

/-! ## The header -/

/-- The header of a record carries the number of its frame after eight bytes (Table 5-3). -/
theorem headBytes_number (g : FrameGov) (m : HeadMarks) : ((headBytes g m).drop 8).take 8 = leBytes 8 g.n := by
  have places : ∃ rest, headBytes g m = leBytes 4 0x4352464D ++ (leBytes 2 m.format ++ (leBytes 2 0x1000 ++ (leBytes 8 g.n ++ rest))) := by
    unfold headBytes
    simp only [List.append_assoc]
    exact ⟨_, rfl⟩
  obtain ⟨rest, head⟩ := places
  rw [head]; rfl

/-- Settles O51: the position and the number are those of what governs the frame, a latch and a boundary carry K to it, and ROTATION_SET is a
setting command of one value. -/
theorem rotationFollowsTheFrameNumber : Obligations.RotationFollowsTheFrameNumber := by
  unfold Obligations.RotationFollowsTheFrameNumber
  refine ⟨fun n b oldB applied temps subst h sl s => ⟨rfl, rfl, rfl⟩, headBytes_number, fun s => rfl, fun i e v s only => ?_, rfl,
    fun r v s h len => ⟨?_, fun range _ calm idle => rotationSet_inForce h len range calm idle⟩⟩
  case refine_1 =>
    show applyRotK e.standing s.frame.rotK1 = v.toNat
    rw [only]; rfl
  case refine_2 =>
    rintro rfl
    exact rotationSet_zero h len

end Sys2Proof.Machine

/-! PROOFS. The end of the rewrite of a take's pre-roll (R147), and the descriptor that a vote held back (R139). -/

namespace Sys2Proof.Machine

/-! ## The end of the rewrite -/

/-- The state once the rewrite of the pre-roll headers has ended. -/
def State.rewritten (s : State) : State := { s with take := { s.take with rewriting := false } }

/-- R147: once the take has its first frame, the end of the rewrite lets Welt write. -/
theorem exec_prerollRewriteDone {s : State} (rewriting : s.take.rewriting = true) (first : 0 < s.take.first) :
    exec .prerollRewriteDone s = .next (noteBoth (greet s.rewritten)) :=
  congrArg Host.Outcome.next (if_pos (by simp [rewriting, first]))

theorem onlyIn_noteBoth (s : State) : onlyIn [.take] s (noteBoth s) := onlyIn_trans (onlyIn_withTake _ s) (onlyIn_withTake _ _)

/-! ## Where no descriptor waits -/

/-- Two states have a take with one number, one first frame and one rewrite in progress, and the same descriptor waits. -/
def sameStart (s t : State) : Prop :=
  t.take.rewriting = s.take.rewriting ∧ t.take.first = s.take.first ∧ t.take.takeId = s.take.takeId ∧ t.take.paged = s.take.paged

theorem sameStart_refl (s : State) : sameStart s s := ⟨rfl, rfl, rfl, rfl⟩

theorem sameStart_trans {s t u : State} (h : sameStart s t) (k : sameStart t u) : sameStart s u := by
  obtain ⟨rewriting, first, takeId, paged⟩ := k
  unfold sameStart
  rwa [rewriting, first, takeId, paged]

theorem sameStart_ite {c : Prop} [Decidable c] {s a b : State} (h : sameStart s a) (k : sameStart s b) : sameStart s (if c then a else b) := by
  split
  · exact h
  · exact k

theorem sameStart_setBay (b : Nat) (x : Session) (s : State) : sameStart s (s.setBay b x) := by
  unfold sameStart State.setBay TakeUnit.setBay
  split <;> exact ⟨rfl, rfl, rfl, rfl⟩

theorem sameStart_writeDescriptor (b : Nat) (d : Descriptor) (s : State) : sameStart s (writeDescriptor b d s) := sameStart_setBay b _ s

theorem sameStart_writeBegin (b : Nat) (s : State) : sameStart s (writeBegin b s) :=
  sameStart_ite (sameStart_trans (sameStart_setBay b _ s) (sameStart_writeDescriptor b _ _)) (sameStart_refl s)

theorem sameStart_writeRelayIn (b : Nat) (s : State) : sameStart s (writeRelayIn b s) := by
  unfold writeRelayIn
  split
  · exact sameStart_refl s
  · exact sameStart_ite (sameStart_trans (sameStart_setBay b _ s) (sameStart_writeDescriptor b _ _)) (sameStart_refl s)

theorem sameStart_writeTakeEnd (b : Nat) (s : State) : sameStart s (writeTakeEnd b s) := by
  unfold writeTakeEnd
  split
  · exact sameStart_refl s
  · exact sameStart_ite (sameStart_writeDescriptor b _ _) (sameStart_refl s)

theorem sameStart_noteBoth (s : State) : sameStart s (noteBoth s) := sameStart_trans (sameStart_setBay 0 _ s) (sameStart_setBay 1 _ _)

theorem releasePaged_of_none {b : Nat} {s : State} (none : s.take.paged = none) : releasePaged b s = s := by
  simp only [releasePaged, none]

/-- Where no descriptor waits, Welt leaves the reservoir as it is. -/
theorem greet_of_none {s : State} (none : s.take.paged = none) : onlyIn [.take, .sent] s (greet s) ∧ sameStart s (greet s) := by
  unfold greet
  split
  · exact ⟨onlyIn_refl _ s, sameStart_refl s⟩
  case _ b _ =>
    have begun := sameStart_trans (sameStart_writeBegin b s) (sameStart_writeRelayIn b _)
    have released : releasePaged b (writeRelayIn b (writeBegin b s)) = writeRelayIn b (writeBegin b s) := by
      obtain ⟨-, -, -, paged⟩ := begun
      exact releasePaged_of_none (paged.trans none)
    rw [released]
    exact ⟨onlyIn_ite (onlyIn_trans (onlyIn_writeBegin b s) (onlyIn_trans (onlyIn_writeRelayIn b _) (onlyIn_writeTakeEnd b _))) (onlyIn_refl _ s),
      sameStart_ite (sameStart_trans begun (sameStart_writeTakeEnd b _)) (sameStart_refl s)⟩

/-- What holds of the last clause of `BoundariesBeginAndEndReadouts`: its words, where no descriptor waits for a vote that is done. -/
theorem prerollRewriteDone_of_none {s : State} (rewriting : s.take.rewriting = true) (first : 0 < s.take.first) (none : s.take.paged = none) :
    Completes .prerollRewriteDone s [.take, .sent] fun t =>
      t.take.rewriting = false ∧ t.take.first = s.take.first ∧ t.take.takeId = s.take.takeId := by
  obtain ⟨parts, start⟩ := greet_of_none (s := s.rewritten) none
  obtain ⟨ended, kept, number, -⟩ := sameStart_trans start (sameStart_noteBoth _)
  have noted := onlyIn_mono (qs := [.take, .sent]) (onlyIn_noteBoth (greet s.rewritten)) (by decide)
  exact ⟨_, exec_prerollRewriteDone rewriting first,
    onlyIn_trans (onlyIn_mono (onlyIn_withTake _ s) (by decide)) (onlyIn_trans parts noted), ended, kept, number⟩

/-! ## A descriptor that waits -/

/-- R139: a descriptor that no vote holds back any more goes out, its frame is sent, and the next one is to be sent. -/
theorem releasePaged_res {b n crc : Nat} {r : Record} {s : State} (paged : s.take.paged = some (n, crc)) (free : s.take.holdBack ≠ some n)
    (closed : (s.res.entryOf n).bind (·.record) = some r) (credit : (s.bay b).descCredit = true) :
    (releasePaged b s).res = (s.res.modify r.gov.n fun e => { e with state := .sent }).sendAt (r.gov.n + 1) := by
  unfold releasePaged
  simp only [paged, free, if_false, closed, credit, if_true]
  split <;> rfl

/-- What Welt writes beside such a descriptor leaves the reservoir. -/
theorem greet_res {b : Nat} {s : State} (active : s.take.active = some b) (writes : s.weltWrites = true) (runs : s.take.state ≠ .none) :
    (greet s).res = (releasePaged b (writeRelayIn b (writeBegin b s))).res := by
  unfold greet
  simp only [active, writes, runs, ne_eq, not_false_eq_true, decide_true, Bool.and_self, if_true]
  exact onlyIn_writeTakeEnd b _ .res (by decide)

/-! ## The refutation -/

/-- Frame 7 of a take as the formatter closed it: a void record. -/
def closedRecord : Record :=
  let g := governing 7 1000 0 [] [] [] false false State.reset
  ⟨g, .void, [4], noCounts, [], false, [], State.reset.samples g State.reset.early, 0, 3⟩

/-- A take that has begun at frame 7 on a session with credit: the pages of frame 7 have gone out, and nothing holds its descriptor back, while its
pre-roll headers are still being rewritten. -/
def descriptorDue : State :=
  { State.reset with
    link := { Reset.link with state := .l0, pf0 := { Reset.link.pf0 with bme := true } },
    take := { Reset.take with
      state := .running, takeId := 1, active := some 0, first := 7, rewriting := true, begun := true, paged := some (7, 0), sendNext := 7,
      a := { Reset.session with state := .streaming, descLimit := 1 } },
    res := { Reset.res with entries := [⟨0, 7, 0, 2, .closed, some closedRecord, [], false, true⟩] } }

/-- The end of the rewrite sends the descriptor that waits: the entry of frame 7 is SENT. -/
theorem rewriteDone_sends : (noteBoth (greet descriptorDue.rewritten)).res.entries.map (·.state) = [.sent] := by
  have released : (releasePaged 0 descriptorDue.rewritten).res = _ :=
    releasePaged_res (r := closedRecord) rfl (by decide) rfl (by decide)
  have greeted : (greet descriptorDue.rewritten).res = (releasePaged 0 descriptorDue.rewritten).res := greet_res rfl (by decide) (by decide)
  rw [onlyIn_noteBoth _ .res (by decide), greeted, released]
  rfl

/-- Refutes O34: its last clause keeps the reservoir at the end of a pre-roll rewrite, while Welt then also writes a descriptor that a vote no longer
holds back (R139), which makes the frame's reservoir entry SENT. `sendNext` lets a descriptor wait only in a take that has begun, and a take begins
after its rewrite; but the clause speaks of every state, and does not ask that none waits (`prerollRewriteDone_of_none`). -/
theorem not_boundariesBeginAndEndReadouts : ¬ Obligations.BoundariesBeginAndEndReadouts := by
  unfold Obligations.BoundariesBeginAndEndReadouts
  intro h
  obtain ⟨-, -, -, -, rewriteDone⟩ := h descriptorDue
  obtain ⟨t, run, parts, -⟩ := rewriteDone rfl (by decide)
  obtain rfl : noteBoth (greet descriptorDue.rewritten) = t :=
    Host.Outcome.next.inj ((exec_prerollRewriteDone rfl (by decide)).symm.trans run)
  have kept : (noteBoth (greet descriptorDue.rewritten)).res = descriptorDue.res := parts .res (by decide)
  have sent := rewriteDone_sends
  rw [kept] at sent
  exact absurd sent (by decide)

end Sys2Proof.Machine

/-! PROOFS. The optical black: valid black samples, and the sites left out of black tracking (R63, R103). -/

namespace Sys2Proof.Machine

/-! ## Valid black samples (R103) -/

theorem dist_le_iff (a b n : Nat) : dist a b ≤ n ↔ a ≤ b + n ∧ b ≤ a + n := by
  unfold dist
  omega

theorem validBlack_iff (lim v : Nat) : validBlack lim v = true ↔ v < 0xFFFFF0 ∧ v ≤ 1024 + lim ∧ 1024 ≤ v + lim := by
  simp only [validBlack, Bool.and_eq_true, decide_eq_true_eq, dist_le_iff]

/-- No BLK_LIM makes a reserved code valid. -/
theorem validBlack_of_reserved (lim : Nat) {v : Nat} (h : 0xFFFFF0 ≤ v) : validBlack lim v = false := by
  rw [Bool.eq_false_iff, ne_eq, validBlack_iff]
  exact fun valid => Nat.not_lt.2 h valid.1

/-! ## Sites left out (R63) -/

theorem out_of_excluded {p : SiteRead} (black : p.black = true) (excl : wordExcl p.word = true) : p.out = true := by
  rw [SiteRead.out, black, excl, Bool.and_self, Bool.or_true]

theorem siteRead_black_of_inactive (f : Frame) {r : RowRead} {x : Nat} (h : active x r.y = false) :
    (f.siteRead r x 0).black = true := by
  simp only [Frame.siteRead, Nat.zero_mul, Nat.add_zero, h, Bool.not_false]

theorem withCodes_of_out {ps : List SiteRead} (missing : Bool) (v : Nat) (run : ∀ p ∈ ps, p.run = false)
    (sat : ∀ p ∈ ps, p.sat = false) (out : ∃ p ∈ ps, p.out = true) : withCodes ps missing v = 0xFFFFFD := by
  have noRun : ¬ (ps.any (·.run)) = true := by simpa using run
  have noSat : ¬ (ps.any (·.sat)) = true := by simpa using sat
  have isOut : (missing || ps.any SiteRead.out) = true := by rw [List.any_eq_true.2 out, Bool.or_true]
  exact (if_neg noRun).trans ((if_neg noSat).trans (if_pos isOut))

/-- A site left out reads a reserved code, whichever of RUN, SAT and defect takes precedence. -/
theorem reserved_of_out {p : SiteRead} (missing : Bool) (v : Nat) (out : p.out = true) : 0xFFFFF0 ≤ withCodes [p] missing v := by
  cases run : p.run with
  | true =>
    rw [withCodes_of_run missing v (by simpa using run)]
    decide
  | false =>
    cases sat : p.sat with
    | true =>
      rw [withCodes_of_sat missing v (by simpa using run) (by simpa using sat)]
      decide
    | false =>
      rw [withCodes_of_out missing v (by simpa using run) (by simpa using sat) (by simpa using out)]
      decide

/-! ## The statement -/

/-- Settles O50: an excluded site of the optical black reads a reserved code, and no reserved code is a valid black sample. -/
theorem blackSamplesAreValidNearThePedestal : Obligations.BlackSamplesAreValidNearThePedestal := by
  unfold Obligations.BlackSamplesAreValidNearThePedestal
  refine ⟨validBlack_iff, fun lim f r x unbinned inactive excl => ?_⟩
  have out : (f.siteRead r x 0).out = true := out_of_excluded (siteRead_black_of_inactive f inactive) excl
  obtain ⟨missing, v, value⟩ := stackAt_unbinned r x unbinned
  rw [value]
  exact ⟨validBlack_of_reserved lim (reserved_of_out missing v out),
    fun run sat => withCodes_of_out missing v (by simpa using run) (by simpa using sat) (by simpa using out)⟩

end Sys2Proof.Machine

/-! PROOFS. The state after a cold reset (R134, R151, R263, R304, R306, R372). -/

namespace Sys2Proof.Machine

/-! ## The values after reset -/

/-- Table 11-2: every channel after reset. -/
theorem reset_channel (c : Chan) : State.reset.mbox.get c = Reset.channel := by cases c <;> rfl

/-- A list of one value reads as that value everywhere, where the value is also the default. -/
theorem getD_replicate_default {α : Type} (n i : Nat) (a : α) : (List.replicate n a).getD i a = a := by
  rw [List.getD_eq_getElem?_getD, List.getElem?_replicate]
  split
  · rfl
  · rfl

/-- Table 16-5: a domain that is not enabled is not on, and no domain is enabled after reset. -/
theorem reset_pdOn (d : Nat) : State.reset.pdOn d = false := by
  have off : State.reset.power.en.getD d false = false :=
    getD_replicate_default 80 d false
  rw [State.pdOn, off, Bool.false_and, Bool.false_and]

/-- Table 13-7: the timers after reset. -/
theorem reset_timer (n : Nat) : State.reset.sync.timer n = Reset.timer := getD_replicate_default 16 n Reset.timer

theorem reset_bay_closed (b : Nat) : (State.reset.bay b).state = .closed := by
  show (if b = 0 then Reset.session else Reset.session).state = .closed
  rw [ite_self]; rfl

theorem reset_rings : ∀ r ∈ State.reset.view.rings, r.state = .stopped ∧ r.reason = 0 := by
  intro r hr
  obtain rfl : r = Reset.viewRing := List.eq_of_mem_replicate hr
  exact ⟨rfl, rfl⟩

theorem reset_timing (b : BusId) : (State.reset.bus.get b).timing = 0x0A0CB0C8 := by cases b <;> rfl

theorem reset_seed (p : PllId) : State.reset.clk.seedOf p = 0xACE1 := by cases p <;> rfl

/-- Settles O54: the values of the reset state, unit by unit. -/
theorem resetLeavesTheStatedValues : Obligations.ResetLeavesTheStatedValues := by
  unfold Obligations.ResetLeavesTheStatedValues
  refine ⟨rfl, rfl, rfl, rfl, rfl, rfl, reset_pdOn, fun c => ?_, reset_bay_closed, reset_rings, rfl, fun n _ => ?_, rfl, rfl, rfl, rfl,
    reset_timing, rfl, reset_seed, rfl⟩
  · rw [reset_channel]
    exact ⟨rfl, rfl, rfl, rfl⟩
  · rw [reset_timer]
    exact ⟨rfl, rfl, rfl⟩

/-! ## A sound start -/

/-- The fuse words of the factory lie in the array (R372). -/
theorem factory_fuse_places : ∀ e ∈ Factory.fuses, e.1.1 < 8 ∧ e.1.2 < 128 := by decide

/-- Settles O56: the stores have their shape, profile 0 is the factory profile, and no fuse operation waits. -/
theorem resetIsSound : Obligations.ResetIsSound where
  profiles := rfl
  factory := rfl
  zones := rfl
  places := factory_fuse_places
  busy := rfl
  waiting := fun j h => by cases h

end Sys2Proof.Machine

/-! PROOFS. The queries with fields (R140, R278, R381, R483). -/

namespace Sys2Proof.Machine

/-- A request that waits finds no resource claimed once it is taken. -/
theorem Waiting.free {o : Opcode} {r : Req} {s : State} (h : Waiting o r s) : (takeUp r s).mbox.claims = [] :=
  (takeUp_claims r s).trans h.unclaimed

/-- A query of a fixed length whose fields are in range answers its payload, in every mode. -/
theorem reads_of_fields {c : Instr} {o : Opcode} {r : Req} {n : Nat} {fields : Bool} {payload : State → List Byte} {s : State}
    (run : exec c s = .next (command o r (fun _ => fixed r n fields true []) (fun id t => respond id true .ok 0 (payload t) t) s))
    (h : Waiting o r s) (len : r.len = n) (inRange : fields = true) : Reads c o r payload s :=
  reads_of run h (fixed_passes len h.reserved inRange rfl h.free)

/-- Settles O2: each query is of a fixed length, with fields in range, and only answers. -/
theorem fieldQueriesAnswer : Obligations.FieldQueriesAnswer := by
  unfold Obligations.FieldQueriesAnswer
  intro r s
  refine ⟨fun profile range len h => ?_, fun seq len h => ?_, fun zone word count hzone hcount hend len h => ?_,
    fun first count range hcount hmax len h => ?_⟩
  · exact reads_of_fields rfl h len (decide_eq_true range)
  · exact reads_of_fields rfl h len rfl
  · exact reads_of_fields rfl h len (decide_eq_true ⟨hzone, hcount, hend⟩)
  · exact reads_of_fields rfl h len (decide_eq_true ⟨hcount, hmax⟩)

end Sys2Proof.Machine

/-! PROOFS. Posts outside VIEW, TAKE and BURST (R143): the settings in force take them at once, under the next sequence number. -/

namespace Sys2Proof.Machine

/-! ## A ledger-making command whose checks pass -/

/-- Taking the request changes nothing that the ranges of settings turn on. -/
theorem settingsOk_takeUp (r : Req) (l : List Setting) (s : State) : settingsOk r l (takeUp r s) = settingsOk r l s := by
  unfold settingsOk
  rw [takeUp_version]
  rfl

/-- A command that posts runs where its checks pass after its request is taken. -/
theorem posts_of_checks {i : Instr} {o : Opcode} {r : Req} {l : List Setting} {k : State → Checks} {s : State}
    (run : exec i s = .next (command o r k (postCommand l r.target.toNat) s)) (h : Waiting o r s) (len : (k (takeUp r s)).len = true)
    (param : (k (takeUp r s)).param = true) (mode : (k (takeUp r s)).mode = true) :
    exec i s = .next (postCommand l r.target.toNat (reqOf o r s) (takeUp r s)) :=
  command_exec run h (failing_none len param mode h.free)

/-- A command of one setting posts it. -/
theorem setting_posts {i : Instr} {o : Opcode} {r : Req} {x : Setting} {n : Nat} {p : Bool} {s : State}
    (run : exec i s = .next (settingCommand o r x n p s)) (h : Waiting o r s) (len : r.len = n) (field : p = true)
    (range : settingsOk r [x] s = true) : exec i s = .next (postCommand [x] r.target.toNat (reqOf o r s) (takeUp r s)) :=
  posts_of_checks run h (decide_eq_true len) (by simp [sound, h.reserved, field, settingsOk_takeUp, range]) rfl

/-- A ledger-making command that fits its payload, with settings in their ranges, posts them (R140, R278). -/
theorem exec_post {i : Instr} {o : Opcode} {r : Req} {l : List Setting} {s : State} (posts : postOf i = some (o, r, l))
    (fits : postFits i = true) (range : settingsOk r l s = true) (h : Waiting o r s) :
    exec i s = .next (postCommand l r.target.toNat (reqOf o r s) (takeUp r s)) := by
  cases i <;> try contradiction
  case ledgerPost r' n items =>
    cases posts
    simp only [postFits, Bool.and_eq_true] at fits
    obtain ⟨⟨⟨⟨len, lens⟩, count⟩, all⟩, distinct⟩ := fits
    exact posts_of_checks rfl h (by simp only [len, lens, Bool.and_self])
      (by simp only [sound, h.reserved, count, all, distinct, settingsOk_takeUp, range, decide_true, Bool.and_self]) rfl
  case windowSet => cases posts; exact setting_posts rfl h (of_decide_eq_true fits) rfl range
  case exposureProgramSet =>
    cases posts
    exact posts_of_checks rfl h fits (by simp only [sound, h.reserved, settingsOk_takeUp, range, decide_true, Bool.and_self]) rfl
  case triggerSet => cases posts; exact setting_posts rfl h (of_decide_eq_true fits) rfl range
  case binningSet => cases posts; exact setting_posts rfl h (of_decide_eq_true fits) rfl range
  case rotationSet => cases posts; exact setting_posts rfl h (of_decide_eq_true fits) rfl range
  case syncSourceSet => cases posts; exact setting_posts rfl h (of_decide_eq_true fits) rfl range
  case tapConfig =>
    cases posts
    obtain ⟨len, ring⟩ := of_decide_eq_true fits
    exact setting_posts rfl h len (decide_eq_true ring) range
  case streamConfig =>
    cases posts
    obtain ⟨len, ring⟩ := of_decide_eq_true fits
    exact setting_posts rfl h len (decide_eq_true ring) range

/-! ## The post -/

/-- The ledger with the next sequence number given to a post that governs at once. -/
def Ledger.governed (l : Ledger) (target : Nat) : Ledger :=
  { l with nextSeq := l.nextSeq + 1, govSeq := l.nextSeq % 2 ^ 32, govTarget := target }

/-- A post that passes its checks governs at once, from the frame after the last one assigned, and is mirrored as an entry. -/
theorem postNow_governs {l : List Setting} {s : State} (target : Nat) (leads : s.following = false)
    (pass : entryCheck l (applySensor l s.settings.sensor) (applySensor l s.settings.sensor).tMin 0 s = none) :
    ∃ e, postNow l target s = (⟨.ok, s.ledger.nextSeq % 2 ^ 32, s.frame.lastFrame + 1, false, true⟩,
      mirrorEntry e (s.withInForce (applyAll l s.settings) (s.ledger.governed target))) := by
  unfold postNow State.takeSeq
  simp only [pass, leads]
  exact ⟨_, rfl⟩

/-- Its response names that frame, with flag [1]. -/
theorem postCommand_governs {l : List Setting} {target : Nat} {id : ReqId} {s : State} (calm : s.dump.fatal = none)
    (idle : s.ledgerRuns = false) (leads : s.following = false)
    (pass : entryCheck l (applySensor l s.settings.sensor) (applySensor l s.settings.sensor).tMin 0 s = none) :
    ∃ e, postCommand l target id s = respond id true .ok (s.frame.lastFrame + 1)
      (ledgerResponse (s.ledger.nextSeq % 2 ^ 32) (classesOf l) 2 (s.frame.lastFrame + 1) s.mbox.lastAccept)
      (mirrorEntry e (s.withInForce (applyAll l s.settings) (s.ledger.governed target))) := by
  obtain ⟨e, posted⟩ := postNow_governs target leads pass
  refine ⟨e, ?_⟩
  unfold postCommand
  rw [post_of_idle calm idle, posted]
  rfl

/-- A ledger-making command in DORMANT, READY and SERVICE. -/
theorem post_completes {i : Instr} {o : Opcode} {r : Req} {l : List Setting} {s : State} (posts : postOf i = some (o, r, l))
    (fits : postFits i = true) (range : settingsOk r l s = true) (h : Waiting o r s) (calm : s.dump.fatal = none)
    (idle : s.ledgerRuns = false) (leads : s.following = false)
    (pass : entryCheck l (applySensor l s.settings.sensor) (applySensor l s.settings.sensor).tMin 0 s = none) :
    Completes i s [.time, .mbox, .settings, .ledger, .frame, .tandem, .sent] fun t =>
      (s.mirrorsNow = false → t.tandem = s.tandem ∧ t.sent = s.sent) ∧ t.settings = applyAll l s.settings ∧
      t.frame = s.frame.under t.settings ∧ t.ledger = s.ledger.governed r.target.toNat ∧
      Answered o r true .ok (s.frame.lastFrame + 1)
        (ledgerResponse (s.ledger.nextSeq % 2 ^ 32) (classesOf l) 2 (s.frame.lastFrame + 1) s.time.tock.module) s t := by
  obtain ⟨e, posted⟩ := postCommand_governs (target := r.target.toNat) (id := reqOf o r s) (s := takeUp r s) calm idle leads pass
  have taken := onlyIn_takeUp r s
  have inForce := onlyIn_withInForce (applyAll l s.settings) (s.ledger.governed r.target.toNat) (takeUp r s)
  have mirrored := onlyIn_mirrorEntry e ((takeUp r s).withInForce (applyAll l s.settings) (s.ledger.governed r.target.toNat))
  refine ⟨_, (exec_post posts fits range h).trans (congrArg _ posted), ?_, fun mirrors => ?_, ?_, ?_, ?_, ?_⟩
  · exact onlyIn_trans (onlyIn_mono taken (by decide)) (onlyIn_trans (onlyIn_mono inForce (by decide))
      (onlyIn_trans (onlyIn_mono mirrored (by decide)) (onlyIn_mono (onlyIn_respond _ _ _ _ _ _) (by decide))))
  · have alone := mirrorEntry_of_alone e ((mirrorsNow_of_onlyIn inForce).trans mirrors)
    rw [respond_tandem, respond_sent]
    exact ⟨congrArg (·.tandem) alone, congrArg (·.sent) alone⟩
  · rw [respond_settings]
    exact mirrored .settings (by decide)
  · rw [respond_settings, respond_frame]
    exact (mirrored .frame (by decide)).trans (congrArg s.frame.under (mirrored .settings (by decide)).symm)
  · rw [respond_ledger]
    exact mirrored .ledger (by decide)
  · have channels : (mirrorEntry e _).mbox = (takeUp r s).mbox := (mirrored .mbox (by decide)).trans (inForce .mbox (by decide))
    exact respond_answers h fun c => congrArg (·.get c) channels

/-! ## Each setting -/

/-- A ring setting replaces the settings of its ring (Table 10-2). -/
theorem applyAll_ring {g : RawRing} {n : Nat} (x : Settings) (ring : ringIndex g.ring.toNat = some n) :
    applyAll [.ring g] x = { x with recs := { x.recs with rings := x.recs.rings.set n (ringSetOf g) } } := by
  have recs : applyRecs [.ring g] x.recs = { x.recs with rings := x.recs.rings.set n (ringSetOf g) } := by
    show setRecs x.recs (.ring g) = _
    simp only [setRecs, ring]
  rw [applyAll, recs]
  rfl

/-- Settles O11: a post that passes its checks governs at once, and each setting but a ring's is applied as its item says. -/
theorem postsChangeSettingsAtOnce : Obligations.PostsChangeSettingsAtOnce := by
  unfold Obligations.PostsChangeSettingsAtOnce
  refine ⟨fun i o r l s posts fits range h calm idle leads pass => post_completes posts fits range h calm idle leads pass,
    fun _ _ => rfl, fun _ _ _ => rfl, fun _ _ => rfl, fun _ _ => rfl, fun _ _ => rfl, fun _ _ => rfl, fun _ _ => rfl, fun _ _ => rfl,
    fun _ _ _ _ => rfl, fun _ _ => rfl, fun _ _ => rfl, fun _ _ => rfl, fun _ _ => rfl, fun _ _ => rfl, fun x _ _ => applyAll_ring x⟩

end Sys2Proof.Machine

/-! PROOFS. Changes of mode at a commit epoch (R130, R135, R145, R148, R149): the checks of MODE_REQUEST, TAKE_START and TAKE_STOP, the change
that each puts before the module, and BUSY while another is in progress. -/

namespace Sys2Proof.Machine

/-! ## Frames of what a change takes -/

theorem onlyIn_withMode (m : ModeUnit) (s : State) : onlyIn [.mode] s { s with mode := m } := by
  intro p hp; cases p <;> simp [Part.same] at hp ⊢

/-- A command that only answers a request that waited. -/
theorem completes_answer {c : Instr} {o : Opcode} {r : Req} {final : Bool} {st : Status} {n : Nat} {b : List Byte} {s : State}
    (h : Waiting o r s) (run : exec c s = .next (respond (reqOf o r s) final st n b (takeUp r s))) :
    Completes c s [.time, .mbox] fun t => Answered o r final st n b s t :=
  ⟨_, run, onlyIn_trans (onlyIn_takeUp r s) (onlyIn_mono (onlyIn_respond _ _ _ _ _ _) (by decide)), respond_answers h fun _ => rfl⟩

/-- ACCEPTED, on any state whose channels and latest acceptance are those after the request was taken. -/
theorem accept_accepted {o : Opcode} {r : Req} {s u : State} (claims : List Resource) (n : Nat) (h : Waiting o r s)
    (channels : ∀ c, u.mbox.get c = (takeUp r s).mbox.get c) (time : u.mbox.lastAccept = s.time.tock.module) :
    Accepted o r n s (accept (reqOf o r s) claims n u) := by
  unfold Accepted accept
  rw [time]
  exact respond_answers h fun c => (get_claims _ _ _).trans (channels c)

/-! ## A change before the module -/

/-- The module with a change before it. -/
def State.planned (s : State) (c : Change) : State := { s with mode := { s.mode with change := some c } }

theorem onlyIn_planned (c : Change) (s : State) : onlyIn [.mode] s (s.planned c) := onlyIn_withMode _ s

theorem planned_mode (c : Change) (s : State) : (s.planned c).mode = { s.mode with change := some c } := rfl

/-- A change that does not enter VIEW from READY switches no domain. -/
theorem startChange_planned {goal : Mode} {s : State} (kind : ChangeKind) (epoch : Nat) (req : Option ReqId)
    (stays : ¬(s.mode.mode = .ready ∧ goal = .view)) : startChange goal kind epoch req s = s.planned ⟨goal, kind, epoch, 1, false, req⟩ := by
  unfold startChange
  rw [if_neg stays]
  rfl

/-- From READY into VIEW the domains of VIEW go on (R404). -/
theorem startChange_entry {s : State} (kind : ChangeKind) (epoch : Nat) (req : Option ReqId) (ready : s.mode.mode = .ready) :
    startChange .view kind epoch req s = (s.setDomains viewDomains true).planned ⟨.view, kind, epoch, 1, false, req⟩ := by
  unfold startChange
  rw [if_pos ⟨ready, rfl⟩]
  rfl

/-- Out of a mode that reads frames, the epoch's frame is the number of its boundary. -/
theorem epochFrame_of_running {s : State} (e : Nat) (running : s.mode.mode ≠ .ready) : s.epochFrame e = s.numberAt e :=
  if_neg fun h => running h.1

/-- Out of READY, a module that follows no leader's boundaries begins with the number after the last frame. -/
theorem epochFrame_of_ready {s : State} (e : Nat) (ready : s.mode.mode = .ready) (free : s.tandem.onTsync = false) :
    s.epochFrame e = s.frame.lastFrame + 1 := by
  simp only [State.epochFrame, State.lastNumber, ready, free, Bool.false_and, Bool.false_eq_true, Bool.not_false, and_self, if_true, if_false]

/-- An accepted change, on the state that its request left once taken. -/
theorem planned_completes {i : Instr} {o : Opcode} {r : Req} {s : State} {n : Nat} {c : Change} (h : Waiting o r s)
    (run : exec i s = .next ((accept (reqOf o r s) [.mode] n (takeUp r s)).planned c)) :
    Completes i s [.time, .mbox, .mode] fun t =>
      Accepted o r n s t ∧ t.mbox.claims = [(.mode, reqOf o r s)] ∧ t.mode = { s.mode with change := some c } := by
  refine ⟨_, run, ?_, accept_accepted [.mode] n h (fun _ => rfl) rfl, ?_, ?_⟩
  · exact onlyIn_trans (onlyIn_mono (onlyIn_takeUp r s) (by decide))
      (onlyIn_trans (onlyIn_mono (onlyIn_accept _ _ _ _) (by decide)) (onlyIn_mono (onlyIn_planned c _) (by decide)))
  · exact (accept_claims _ _ _ _).trans (by rw [h.free]; rfl)
  · rw [planned_mode, accept_mode]
    rfl

/-- An accepted change for which some domains go on. -/
theorem powered_completes {i : Instr} {o : Opcode} {r : Req} {s : State} {n : Nat} {ds : List Nat} {c : Change} (h : Waiting o r s)
    (run : exec i s = .next (((accept (reqOf o r s) [.mode] n (takeUp r s)).setDomains ds true).planned c)) :
    Completes i s [.time, .mbox, .mode, .power] fun t =>
      Accepted o r n s t ∧ t.mbox.claims = [(.mode, reqOf o r s)] ∧ t.power = (s.setDomains ds true).power ∧
      t.mode = { s.mode with change := some c } := by
  refine ⟨_, run, ?_, accept_accepted [.mode] n h (fun _ => rfl) rfl, ?_, ?_, ?_⟩
  · exact onlyIn_trans (onlyIn_mono (onlyIn_takeUp r s) (by decide))
      (onlyIn_trans (onlyIn_mono (onlyIn_accept _ _ _ _) (by decide))
        (onlyIn_trans (onlyIn_mono (onlyIn_setDomains _ _ _) (by decide)) (onlyIn_mono (onlyIn_planned _ _) (by decide))))
  · exact (accept_claims _ _ _ _).trans (by rw [h.free]; rfl)
  · exact congrArg (ds.foldl fun p d => p.setDomain d true) (accept_power _ _ _ _)
  · rw [planned_mode]
    exact congrArg (fun m : ModeUnit => { m with change := some c }) (accept_mode _ _ _ _)

/-! ## MODE_REQUEST -/

/-- A request for a mode other than TAKE and BURST, on an edge of Table 6-3, passes its checks. -/
theorem modeRequest_runs {r : Req} {f : ModeFields} {s : State} {goal : Mode} (sur : Surroundings) (h : Waiting .modeRequest r s)
    (len : r.len = 8) (asked : modeOf f.mode.toNat = some goal) (plain : goal ≠ .take ∧ goal ≠ .burst) (next : f.nextMode = 0)
    (count : f.burstCount = 0) (edge : requestable s.mode.mode goal = true) (epoch : s.mode.mode = .ready → r.target = 0) :
    exec (.modeRequest r f sur) s = .next (modeRequestAct f sur r.target.toNat (reqOf .modeRequest r s) (takeUp r s)) := by
  obtain ⟨notTake, notBurst⟩ := plain
  have fields : fieldsSound f r (takeUp r s) = true := by
    cases goal with
    | take => exact absurd rfl notTake
    | burst => exact absurd rfl notBurst
    | _ => simp [fieldsSound, asked, next, count]
  have target : (!(decide (s.mode.mode = .ready) && decide (r.target.toNat ≠ 0))) = true := by
    by_cases ready : s.mode.mode = .ready
    · simp [epoch ready]
    · simp [ready]
  refine command_exec (k := modeChecks r f) rfl h (failing_none ?_ ?_ ?_ h.free)
  · simp [modeChecks, asked, notBurst, len]
  · show sound r (fieldsSound f r (takeUp r s) && !(decide (s.mode.mode = .ready) && decide (r.target.toNat ≠ 0))) = true
    rw [fields, target, sound, h.reserved]
    rfl
  · simpa [modeChecks, asked] using edge

/-- While a change is in progress MODE_REQUEST answers BUSY. -/
theorem modeRequestAct_busy {f : ModeFields} {sur : Surroundings} {target : Nat} {id : ReqId} {s : State}
    (calm : ¬(s.mode.mode = .service ∧ s.dump.fatalPending = true)) (busy : s.modeBusy = true) :
    modeRequestAct f sur target id s = respond id true .busy 0 [] s := by
  unfold modeRequestAct
  rw [if_neg calm, if_pos busy]

/-- With no change in progress and no burst, MODE_REQUEST is accepted: between READY and VIEW with a change at its epoch, and else with a sequenced
one. -/
theorem modeRequestAct_accepts {f : ModeFields} {sur : Surroundings} {target : Nat} {id : ReqId} {s : State} {goal : Mode}
    (calm : ¬(s.mode.mode = .service ∧ s.dump.fatalPending = true)) (idle : s.modeBusy = false) (noBurst : s.mode.burst = none)
    (asked : modeOf f.mode.toNat = some goal) (notBurst : goal ≠ .burst) :
    modeRequestAct f sur target id s =
      if goal = .view ∨ (goal = .ready ∧ s.mode.mode = .view) then
        startChange goal .plain (s.epochFor target) (some id) (accept id [.mode] (s.epochFrame (s.epochFor target)) s)
      else startSeq goal (some id) sur (accept id [.mode] 0 s) := by
  unfold modeRequestAct
  rw [if_neg calm, idle, asked, noBurst]
  cases goal with
  | burst => exact absurd rfl notBurst
  | _ => rfl

/-- READY to VIEW. -/
theorem modeRequestAct_view {f : ModeFields} {target : Nat} {id : ReqId} {s : State} (sur : Surroundings) (idle : s.modeBusy = false)
    (noBurst : s.mode.burst = none) (asked : modeOf f.mode.toNat = some .view) (ready : s.mode.mode = .ready) :
    modeRequestAct f sur target id s =
      ((accept id [.mode] (s.epochFrame (s.epochFor target)) s).setDomains viewDomains true).planned
        ⟨.view, .plain, s.epochFor target, 1, false, some id⟩ := by
  rw [modeRequestAct_accepts (by simp [ready]) idle noBurst asked (by decide), if_pos (Or.inl rfl),
    startChange_entry _ _ _ (by rw [accept_mode, ready])]

/-- VIEW to READY. -/
theorem modeRequestAct_ready {f : ModeFields} {target : Nat} {id : ReqId} {s : State} (sur : Surroundings) (idle : s.modeBusy = false)
    (noBurst : s.mode.burst = none) (asked : modeOf f.mode.toNat = some .ready) (view : s.mode.mode = .view) :
    modeRequestAct f sur target id s =
      (accept id [.mode] (s.numberAt (s.epochFor target)) s).planned ⟨.ready, .plain, s.epochFor target, 1, false, some id⟩ := by
  rw [modeRequestAct_accepts (by simp [view]) idle noBurst asked (by decide), if_pos (Or.inr ⟨rfl, view⟩),
    startChange_planned _ _ _ (by simp), epochFrame_of_running _ (by simp [view])]

/-- MODE_REQUEST between READY and VIEW while a change is in progress. -/
theorem modeRequest_busy {r : Req} {f : ModeFields} {s : State} (sur : Surroundings) (busy : s.modeBusy = true) (h : Waiting .modeRequest r s)
    (len : r.len = 8) (calm : s.dump.fatalPending = false) (next : f.nextMode = 0) (count : f.burstCount = 0) (target : r.target = 0)
    (edge : (f.mode = 1 ∧ s.mode.mode = .view) ∨ (f.mode = 2 ∧ s.mode.mode = .ready)) :
    Completes (.modeRequest r f sur) s [.time, .mbox] fun t => Answered .modeRequest r true .busy 0 [] s t := by
  have service : ¬(s.mode.mode = .service ∧ s.dump.fatalPending = true) := by simp [calm]
  have answers : modeRequestAct f sur r.target.toNat (reqOf .modeRequest r s) (takeUp r s) = _ :=
    modeRequestAct_busy (s := takeUp r s) service busy
  obtain ⟨mode, view⟩ | ⟨mode, ready⟩ := edge
  · exact completes_answer h ((modeRequest_runs sur h len (goal := .ready) (by rw [mode]; rfl) (by decide) next count (by rw [view]; rfl)
      fun _ => target).trans (congrArg _ answers))
  · exact completes_answer h ((modeRequest_runs sur h len (goal := .view) (by rw [mode]; rfl) (by decide) next count (by rw [ready]; rfl)
      fun _ => target).trans (congrArg _ answers))

/-- R135: READY to VIEW. -/
theorem modeRequest_view {r : Req} {f : ModeFields} {s : State} (sur : Surroundings) (idle : s.modeBusy = false) (h : Waiting .modeRequest r s)
    (len : r.len = 8) (noBurst : s.mode.burst = none) (next : f.nextMode = 0) (count : f.burstCount = 0) (mode : f.mode = 2)
    (ready : s.mode.mode = .ready) (target : r.target = 0) :
    Completes (.modeRequest r f sur) s [.time, .mbox, .mode, .power] fun t =>
      Accepted .modeRequest r (s.epochFrame (s.epochFor 0)) s t ∧
      (s.tandem.onTsync = false → s.epochFrame (s.epochFor 0) = s.frame.lastFrame + 1) ∧ t.mbox.claims = [(.mode, reqOf .modeRequest r s)] ∧
      t.power = (s.setDomains viewDomains true).power ∧
      t.mode = { s.mode with change := some ⟨.view, .plain, s.epochFor 0, 1, false, some (reqOf .modeRequest r s)⟩ } := by
  have asked : modeOf f.mode.toNat = some .view := by rw [mode]; rfl
  have acts := modeRequestAct_view (target := r.target.toNat) (id := reqOf .modeRequest r s) (s := takeUp r s) sur idle noBurst asked ready
  have runs := modeRequest_runs sur h len asked (by decide) next count (by rw [ready]; rfl) fun _ => target
  rw [target] at acts runs
  obtain ⟨t, run, parts, accepted, claims, power, change⟩ := powered_completes h (runs.trans (congrArg _ acts))
  exact ⟨t, run, parts, accepted, epochFrame_of_ready _ ready, claims, power, change⟩

/-- R135: VIEW to READY. -/
theorem modeRequest_ready {r : Req} {f : ModeFields} {s : State} (sur : Surroundings) (idle : s.modeBusy = false) (h : Waiting .modeRequest r s)
    (len : r.len = 8) (noBurst : s.mode.burst = none) (next : f.nextMode = 0) (count : f.burstCount = 0) (mode : f.mode = 1)
    (view : s.mode.mode = .view) :
    Completes (.modeRequest r f sur) s [.time, .mbox, .mode] fun t =>
      Accepted .modeRequest r (s.numberAt (s.epochFor r.target.toNat)) s t ∧ t.mbox.claims = [(.mode, reqOf .modeRequest r s)] ∧
      t.mode = { s.mode with
        change := some ⟨.ready, .plain, s.epochFor r.target.toNat, 1, false, some (reqOf .modeRequest r s)⟩ } := by
  have asked : modeOf f.mode.toNat = some .ready := by rw [mode]; rfl
  have acts := modeRequestAct_ready (target := r.target.toNat) (id := reqOf .modeRequest r s) (s := takeUp r s) sur idle noBurst asked view
  exact planned_completes h ((modeRequest_runs sur h len asked (by decide) next count (by rw [view]; rfl)
    fun ready => by simp [view] at ready).trans (congrArg _ acts))

/-! ## TAKE_START -/

/-- TAKE_START in VIEW passes its checks. -/
theorem takeStart_runs {r : Req} {takeId : U64} {keyId : U32} {wrapped : List Byte} {s : State} (h : Waiting .takeStart r s) (len : r.len = 56)
    (key : wrapped.length = 40) (take : takeId ≠ 0) (major : s.major r ≠ 2) (view : s.mode.mode = .view) :
    exec (.takeStart r takeId keyId wrapped) s =
      .next (takeStartAct takeId.toNat keyId.toNat wrapped r.target.toNat (reqOf .takeStart r s) (takeUp r s)) := by
  have version : (takeUp r s).major r ≠ 2 := by rwa [State.major, takeUp_version]
  have number : takeId.toNat ≠ 0 := fun zero => take (BitVec.eq_of_toNat_eq zero)
  exact command_exec rfl h (failing_none (decide_eq_true ⟨len, key⟩) (by simp [sound, h.reserved, number, version]) (decide_eq_true view) h.free)

/-- TAKE_START while a change is in progress. -/
theorem takeStart_busy {r : Req} {takeId : U64} {keyId : U32} {wrapped : List Byte} {s : State} (busy : s.modeBusy = true)
    (h : Waiting .takeStart r s) (len : r.len = 56) (key : wrapped.length = 40) (take : takeId ≠ 0) (major : s.major r ≠ 2)
    (view : s.mode.mode = .view) :
    Completes (.takeStart r takeId keyId wrapped) s [.time, .mbox] fun t => Answered .takeStart r true .busy 0 [] s t := by
  have answers : takeStartAct takeId.toNat keyId.toNat wrapped r.target.toNat (reqOf .takeStart r s) (takeUp r s) = _ :=
    if_pos (show (takeUp r s).modeBusy = true from busy)
  exact completes_answer h ((takeStart_runs h len key take major view).trans (congrArg _ answers))

/-- TAKE_START in VIEW with nothing to refuse it: the keeper core unwraps the key, and a change into TAKE is planned. -/
theorem takeStartAct_begins {takeId keyId target : Nat} {wrapped : List Byte} {id : ReqId} {key : Option (List Byte)} {isSealed : Bool}
    {s u : State} (idle : s.modeBusy = false) (view : s.mode.mode = .view) (keyed : keyDenied keyId s = false)
    (free : takeRefusal (s.numberAt (s.epochFor target)) true s = none) (seals : s.seals = isSealed)
    (fits : keyFits isSealed keyId wrapped = true) (unwraps : takeKey isSealed keyId wrapped s = (key, u)) :
    takeStartAct takeId keyId wrapped target id s = (accept id [.mode] (s.numberAt (s.epochFor target)) u).planned
      ⟨.take, .startTake takeId keyId key isSealed, s.epochFor target, 1, false, some id⟩ := by
  have frame : s.epochFrame (s.epochFor target) = s.numberAt (s.epochFor target) := epochFrame_of_running _ (by simp [view])
  unfold takeStartAct
  simp only [idle, keyed, free, seals, fits, unwraps, frame, Bool.false_eq_true, if_false, Bool.not_true]
  exact startChange_planned _ _ _ (by simp)

theorem padTo_of_length {n : Nat} {bs : List Byte} (length : bs.length = n) : padTo n bs = bs := by
  subst length
  simp [padTo, zeros]

/-- R224: a wrapped key that the keeper core unwraps. -/
theorem takeKey_unwrapped {keyId : Nat} {wrapped kek key : List Byte} {s : State} (length : wrapped.length = 40) (held : s.trust.kek = some kek)
    (unwraps : aesUnwrap kek wrapped = some key) : takeKey true keyId wrapped s = (some key, s) := by
  simp only [takeKey, if_true, held, Option.bind_some, padTo_of_length length, unwraps]

/-- R224: one that it cannot unwrap gives no key, and event 0x060E. -/
theorem takeKey_refused {keyId : Nat} {wrapped kek : List Byte} {s : State} (length : wrapped.length = 40) (held : s.trust.kek = some kek)
    (refuses : aesUnwrap kek wrapped = none) : takeKey true keyId wrapped s = (none, logEvent 0x060E srcKeeper keyId s) := by
  simp only [takeKey, if_true, held, Option.bind_some, padTo_of_length length, refuses]

/-- A take that is not sealed has no key. -/
theorem takeStart_open {r : Req} {takeId : U64} {wrapped : List Byte} {s : State} (idle : s.modeBusy = false)
    (h : Waiting .takeStart r s) (len : r.len = 56) (length : wrapped.length = 40) (take : takeId ≠ 0) (major : s.major r ≠ 2)
    (view : s.mode.mode = .view) (free : takeRefusal (s.numberAt (s.epochFor r.target.toNat)) true s = none) (unsealed : s.seals = false)
    (blank : wrapped.all (fun b => decide (b = 0)) = true) :
    Completes (.takeStart r takeId 0 wrapped) s [.time, .mbox, .mode] fun t =>
      Accepted .takeStart r (s.numberAt (s.epochFor r.target.toNat)) s t ∧
      t.mode = { s.mode with change := some ⟨.take, .startTake takeId.toNat 0 none false, s.epochFor r.target.toNat, 1, false,
        some (reqOf .takeStart r s)⟩ } := by
  have acts := takeStartAct_begins (takeId := takeId.toNat) (keyId := (0 : U32).toNat) (id := reqOf .takeStart r s) (s := takeUp r s)
    idle view rfl free unsealed blank rfl
  obtain ⟨t, run, parts, accepted, -, change⟩ :=
    planned_completes h ((takeStart_runs h len length take major view).trans (congrArg _ acts))
  exact ⟨t, run, parts, accepted, change⟩

/-- A sealed take has the key that the keeper core unwraps; where it cannot, event 0x060E is logged. -/
theorem takeStart_sealed {r : Req} {takeId : U64} {keyId : U32} {wrapped kek : List Byte} {s : State} (idle : s.modeBusy = false)
    (h : Waiting .takeStart r s) (len : r.len = 56) (length : wrapped.length = 40) (take : takeId ≠ 0) (major : s.major r ≠ 2)
    (view : s.mode.mode = .view) (free : takeRefusal (s.numberAt (s.epochFor r.target.toNat)) true s = none) (feature : s.cap 1 = true)
    (seals : s.seals = true) (key : keyId ≠ 0) (filled : wrapped.any (fun b => decide (b ≠ 0)) = true) (held : s.trust.kek = some kek) :
    Completes (.takeStart r takeId keyId wrapped) s (.time :: .mode :: reporting) fun t =>
      Accepted .takeStart r (s.numberAt (s.epochFor r.target.toNat)) s t ∧
      t.mode = { s.mode with change := some ⟨.take, .startTake takeId.toNat keyId.toNat (aesUnwrap kek wrapped) true,
        s.epochFor r.target.toNat, 1, false, some (reqOf .takeStart r s)⟩ } ∧
      ((aesUnwrap kek wrapped).isSome → t.log = s.log ∧ t.sent = s.sent) ∧
      (aesUnwrap kek wrapped = none → Reports 0x060E srcKeeper t) := by
  have keyed : keyDenied keyId.toNat (takeUp r s) = false := by
    unfold keyDenied
    rw [show (takeUp r s).cap 1 = true from feature]
    exact Bool.and_false _
  have number : keyId.toNat ≠ 0 := fun zero => key (BitVec.eq_of_toNat_eq zero)
  have fits : keyFits true keyId.toNat wrapped = true := by
    simp only [keyFits, if_true, number, filled, ne_eq, not_false_eq_true, decide_true, Bool.and_self]
  have runs := takeStart_runs (keyId := keyId) h len length take major view
  have begins {unwrapped : Option (List Byte)} {u : State} (unwraps : takeKey true keyId.toNat wrapped (takeUp r s) = (unwrapped, u)) :=
    takeStartAct_begins (takeId := takeId.toNat) (target := r.target.toNat) (id := reqOf .takeStart r s) (s := takeUp r s)
      idle view keyed free seals fits unwraps
  cases unwraps : aesUnwrap kek wrapped with
  | some plain =>
    have acts := begins (takeKey_unwrapped (s := takeUp r s) length held unwraps)
    obtain ⟨t, run, parts, accepted, -, change⟩ := planned_completes h (runs.trans (congrArg _ acts))
    exact ⟨t, run, onlyIn_mono parts (by decide), accepted, change, fun _ => ⟨parts .log (by decide), parts .sent (by decide)⟩,
      fun isNone => absurd isNone (by simp)⟩
  | none =>
    have acts := begins (takeKey_refused (s := takeUp r s) length held unwraps)
    have logged := onlyIn_logEvent 0x060E srcKeeper keyId.toNat (takeUp r s)
    have reports : Reports 0x060E srcKeeper (logEvent 0x060E srcKeeper keyId.toNat (takeUp r s)) := reports_logEvent (by decide)
    refine ⟨_, runs.trans (congrArg _ acts), ?_, accept_accepted [.mode] _ h (fun c => logEvent_mbox_get _ _ _ _ c) ?_, ?_,
      fun isSome => absurd isSome (by decide), fun _ => reports_of reports (accept_log _ _ _ _) (accept_time _ _ _ _)⟩
    · exact onlyIn_trans (onlyIn_mono (onlyIn_takeUp r s) (by decide)) (onlyIn_trans (onlyIn_mono logged (by decide))
        (onlyIn_trans (onlyIn_mono (onlyIn_accept _ _ _ _) (by decide)) (onlyIn_mono (onlyIn_planned _ _) (by decide))))
    · rw [logEvent_mbox_lastAccept]
      rfl
    · rw [planned_mode, accept_mode, logEvent_mode]
      rfl

/-! ## TAKE_STOP -/

/-- TAKE_STOP where a take or a capture runs passes its checks. -/
theorem takeStop_runs {r : Req} {s : State} (h : Waiting .takeStop r s) (len : r.len = 0) (stops : s.stoppable = true) :
    exec (.takeStop r) s = .next (takeStopAct r.target.toNat (reqOf .takeStop r s) (takeUp r s)) :=
  command_exec rfl h (bare_passes len h.reserved stops h.free)

/-- TAKE_STOP while a change is in progress. -/
theorem takeStop_busy {r : Req} {s : State} (busy : s.modeBusy = true) (h : Waiting .takeStop r s) (len : r.len = 0)
    (stops : s.stoppable = true) : Completes (.takeStop r) s [.time, .mbox] fun t => Answered .takeStop r true .busy 0 [] s t := by
  have answers : takeStopAct r.target.toNat (reqOf .takeStop r s) (takeUp r s) = _ := if_pos (show (takeUp r s).modeBusy = true from busy)
  exact completes_answer h ((takeStop_runs h len stops).trans (congrArg _ answers))

/-- In TAKE the change goes to VIEW; in a capture it stays in BURST. -/
theorem takeStopAct_begins {target : Nat} {id : ReqId} {s : State} (idle : s.modeBusy = false) :
    takeStopAct target id s = (accept id [.mode] (s.numberAt (s.epochFor target)) s).planned
      (if s.mode.mode = .take then ⟨.view, .stopTake, s.epochFor target, 1, false, some id⟩
        else ⟨.burst, .endCapture true, s.epochFor target, 1, false, some id⟩) := by
  unfold takeStopAct
  simp only [idle, Bool.false_eq_true, if_false]
  split
  next take => exact startChange_planned _ _ _ (by rw [accept_mode, take]; simp)
  next => exact startChange_planned _ _ _ (by simp)

/-- R145: the end of a take. -/
theorem takeStop_take {r : Req} {s : State} (idle : s.modeBusy = false) (h : Waiting .takeStop r s) (len : r.len = 0)
    (take : s.mode.mode = .take) : Completes (.takeStop r) s [.time, .mbox, .mode] fun t =>
      Accepted .takeStop r (s.numberAt (s.epochFor r.target.toNat)) s t ∧
      t.mode = { s.mode with change := some ⟨.view, .stopTake, s.epochFor r.target.toNat, 1, false, some (reqOf .takeStop r s)⟩ } := by
  have acts := takeStopAct_begins (target := r.target.toNat) (id := reqOf .takeStop r s) (s := takeUp r s) idle
  rw [if_pos (show (takeUp r s).mode.mode = .take from take)] at acts
  obtain ⟨t, run, parts, accepted, -, change⟩ :=
    planned_completes h ((takeStop_runs h len (by simp [State.stoppable, take])).trans (congrArg _ acts))
  exact ⟨t, run, parts, accepted, change⟩

/-- R149: the end of the capture phase of a burst. -/
theorem takeStop_capture {r : Req} {b : Burst} {s : State} (idle : s.modeBusy = false) (h : Waiting .takeStop r s) (len : r.len = 0)
    (burst : s.mode.mode = .burst) (phase : s.mode.burst = some b) (capture : b.drain = false) :
    Completes (.takeStop r) s [.time, .mbox, .mode] fun t =>
      Accepted .takeStop r (s.numberAt (s.epochFor r.target.toNat)) s t ∧
      t.mode = { s.mode with
        change := some ⟨.burst, .endCapture true, s.epochFor r.target.toNat, 1, false, some (reqOf .takeStop r s)⟩ } := by
  have acts := takeStopAct_begins (target := r.target.toNat) (id := reqOf .takeStop r s) (s := takeUp r s) idle
  rw [if_neg (show (takeUp r s).mode.mode ≠ .take from by rw [show (takeUp r s).mode.mode = .burst from burst]; decide)] at acts
  obtain ⟨t, run, parts, accepted, -, change⟩ :=
    planned_completes h ((takeStop_runs h len (by simp [State.stoppable, burst, phase, capture])).trans (congrArg _ acts))
  exact ⟨t, run, parts, accepted, change⟩

/-! ## The statement -/

/-- Settles O22: BUSY while a change is in progress, and else one lemma for each edge. -/
theorem modeChangesBegin : Obligations.ModeChangesBegin := by
  unfold Obligations.ModeChangesBegin
  refine ⟨fun r f sur s busy => ⟨fun h len calm next count target edge => ?_, fun takeId keyId wrapped h len key take major view => ?_,
    fun h len stops => takeStop_busy busy h len stops⟩, fun r f sur s idle => ⟨fun h len _ noBurst next count => ⟨fun mode ready target => ?_,
    fun mode view => ?_⟩, fun takeId keyId wrapped h len key take major view free feature => ⟨fun unsealed zero blank => ?_,
    fun kek seals keyed filled held => ?_⟩, fun h len => ⟨fun take => takeStop_take idle h len take,
    fun b burst phase capture => takeStop_capture idle h len burst phase capture⟩⟩⟩
  · exact modeRequest_busy sur busy h len calm next count target edge
  · exact takeStart_busy busy h len key take major view
  · exact modeRequest_view sur idle h len noBurst next count mode ready target
  · exact modeRequest_ready sur idle h len noBurst next count mode view
  · subst zero
    exact takeStart_open idle h len key take major view free unsealed blank
  · exact takeStart_sealed idle h len key take major view free feature seals keyed filled held

end Sys2Proof.Machine

/-! PROOFS. Stored profiles (R151 to R156): what PROFILE_STORE writes, and what PROFILE_SELECT takes over. -/

namespace Sys2Proof.Machine

/-! ## PROFILE_STORE -/

/-- A profile-only item leaves the frame settings. -/
theorem setProfileItem_settings (p : Profile) (x : Setting) : (setProfileItem p x).settings = p.settings := by cases x <;> rfl

theorem foldl_setProfileItem_settings (l : List Setting) (p : Profile) : (l.foldl setProfileItem p).settings = p.settings := by
  induction l generalizing p with
  | nil => rfl
  | cons x l ih => exact (ih _).trans (setProfileItem_settings p x)

/-- The profile that PROFILE_STORE writes: the frame settings in force, and the profile-only items of the request (R156). -/
def State.profileWith (s : State) (n : Nat) (l : List Setting) : Profile :=
  l.foldl setProfileItem { (s.readProfile n).1 with settings := s.settings }

/-- PROFILE_STORE with sound items, in READY, VIEW or SERVICE, passes its checks. -/
theorem profileStore_runs {r : Req} {n : Byte} {count : U16} {items : List Item} {s : State} (h : Waiting .profileStore r s)
    (len : r.len = 4 + itemsLen items) (lens : items.all (fun i => lenFits i.value i.len.toNat) = true) (profile : n.toNat ≤ 3)
    (few : count.toNat ≤ 5) (all : items.length = count.toNat) (distinct : itemsDistinct items = true)
    (fields : items.all (fun i => profileOnly i.value && inRange i.value 0 1) = true)
    (mode : s.mode.mode = .ready ∨ s.mode.mode = .view ∨ s.mode.mode = .service) :
    exec (.profileStore r n count items) s =
      .next (profileStoreAct n.toNat (items.map (·.value)) (reqOf .profileStore r s) (takeUp r s)) := by
  have only : (items.map (·.value)).all (fun x => profileOnly x && inRange x 0 1) = true := by rw [List.all_map]; exact fields
  refine command_exec rfl h (failing_none ?_ ?_ ?_ h.free)
  · simp only [len, lens, decide_true, Bool.and_self]
  · simp only [sound, h.reserved, profile, few, all, distinct, only, decide_true, Bool.and_self]
  · show (decide (s.mode.mode = .ready) || decide (s.mode.mode = .view) || decide (s.mode.mode = .service)) = true
    simpa [or_assoc] using mode

theorem onlyIn_withProfiles (l : List ProfileSlot) (s : State) : onlyIn [.profiles] s { s with profiles := l } := by
  intro p hp; cases p <;> simp [Part.same] at hp ⊢

/-- A profile other than the factory profile is written in both copies. -/
theorem profileStoreAct_completes {i : Instr} {r : Req} {n : Nat} {l : List Setting} {s : State} (h : Waiting .profileStore r s)
    (run : exec i s = .next (profileStoreAct n l (reqOf .profileStore r s) (takeUp r s))) (own : n ≠ 0) :
    Completes i s [.time, .mbox, .profiles] fun t =>
      AcceptedThen .profileStore r 0 .ok 0 [] s t ∧
      t.profiles = s.profiles.set n ⟨⟨s.profileWith n l, 0⟩, ⟨s.profileWith n l, 0⟩⟩ := by
  have acts : profileStoreAct n l (reqOf .profileStore r s) (takeUp r s) = finish (reqOf .profileStore r s) .ok 0 []
      { accept (reqOf .profileStore r s) [.mode] 0 (takeUp r s) with
        profiles := s.profiles.set n ⟨⟨s.profileWith n l, 0⟩, ⟨s.profileWith n l, 0⟩⟩ } := if_neg own
  refine ⟨_, run.trans (congrArg _ acts), ?_, accepted_then h fun _ => rfl, finish_profiles _ _ _ _ _⟩
  exact onlyIn_trans (onlyIn_mono (onlyIn_takeUp r s) (by decide)) (onlyIn_trans (onlyIn_mono (onlyIn_accept _ _ _ _) (by decide))
    (onlyIn_trans (onlyIn_mono (onlyIn_withProfiles _ _) (by decide)) (onlyIn_mono (onlyIn_finish _ _ _ _ _) (by decide))))

/-- R151: profile 0 is locked. -/
theorem profileStoreAct_locked {i : Instr} {r : Req} {l : List Setting} {s : State} (h : Waiting .profileStore r s)
    (run : exec i s = .next (profileStoreAct 0 l (reqOf .profileStore r s) (takeUp r s))) :
    Completes i s (.time :: reporting) fun t =>
      Reports 0x0904 srcConductor t ∧ Answered .profileStore r true .locked 0 [] s t := by
  have reports : Reports 0x0904 srcConductor (logEvent 0x0904 srcConductor 0 (takeUp r s)) := reports_logEvent (by decide)
  refine ⟨_, run, ?_, reports_of reports (respond_log _ _ _ _ _ _) (respond_time _ _ _ _ _ _),
    respond_answers h fun c => logEvent_mbox_get _ _ _ _ c⟩
  exact onlyIn_trans (onlyIn_mono (onlyIn_takeUp r s) (by decide)) (onlyIn_trans (onlyIn_mono (onlyIn_logEvent _ _ _ _) (by decide))
    (onlyIn_mono (onlyIn_respond _ _ _ _ _ _) (by decide)))

/-! ## A report stays one while time stands -/

/-- A later report in the same tick leaves what is reported now. -/
theorem reports_logEvent_kept {c src : Nat} {s : State} (c' src' d : Nat) (h : Reports c src s) : Reports c src (logEvent c' src' d s) := by
  by_cases coded : (severity c').isSome
  · by_cases same : (src, c) = (src', c')
    · cases same
      exact reports_logEvent coded
    · exact reports_after h same coded
  · have none : (severity c').isNone = true := by simpa using coded
    have uncoded : (logEvent c' src' d s).log.reported = s.log.reported := by
      unfold logEvent logFrame takeReport
      simp only [none, if_true]
      split
      · exact serveSource_reported _ _
      · rfl
    unfold Reports
    rw [uncoded, logEvent_time]
    exact h

theorem reports_ite {c src : Nat} {p : Prop} [Decidable p] {a b : State} (h : Reports c src a) (k : Reports c src b) :
    Reports c src (if p then a else b) := by
  split
  · exact h
  · exact k

/-! ## The tandem role (R251) -/

/-- What a change of the tandem role can change: the link and a join that ends with it, the settings of a follower that goes on alone, and what a
report can. -/
def joinParts : List Part := [.tandem, .settings, .frame, .log, .sent, .mbox, .link]

theorem onlyIn_setTandem (t : TandemUnit) (s : State) : onlyIn [.tandem] s (s.setTandem t) := onlyIn_withTandem t s

theorem onlyIn_runFree (s : State) : onlyIn [.settings, .frame] s (runFree s) := by
  intro p hp; cases p <;> simp [Part.same, runFree] at hp ⊢

theorem onlyIn_endJoin (s : State) : onlyIn joinParts s (endJoin s) := by
  have ended (t : TandemUnit) : onlyIn joinParts s (fire0 31 (logEvent 0x0714 srcTandem 0 (logEvent 0x0711 srcTandem 0 (s.setTandem t)))) :=
    onlyIn_trans (onlyIn_mono (onlyIn_setTandem t s) (by decide)) (onlyIn_trans (onlyIn_mono (onlyIn_logEvent _ _ _ _) (by decide))
      (onlyIn_trans (onlyIn_mono (onlyIn_logEvent _ _ _ _) (by decide)) (onlyIn_mono (onlyIn_fire _ _ _) (by decide))))
  have held (t : TandemUnit) (u : State) : onlyIn joinParts u (logEvent 0x0717 srcTandem 0 (u.setTandem t)) :=
    onlyIn_trans (onlyIn_mono (onlyIn_setTandem t u) (by decide)) (onlyIn_mono (onlyIn_logEvent _ _ _ _) (by decide))
  have freed (u : State) : onlyIn joinParts u (runFree u) := onlyIn_mono (onlyIn_runFree u) (by decide)
  exact onlyIn_ite (onlyIn_ite (onlyIn_ite (onlyIn_trans (ended _) (held _ _)) (onlyIn_trans (ended _) (freed _))) (ended _)) (onlyIn_refl _ s)

theorem onlyIn_meetRoles (s : State) : onlyIn joinParts s (meetRoles s) := by
  have met (c d : Nat) (t : TandemUnit) : onlyIn joinParts s (fire0 31 (logEvent c srcTandem d (s.setTandem t))) :=
    onlyIn_trans (onlyIn_mono (onlyIn_setTandem t s) (by decide)) (onlyIn_trans (onlyIn_mono (onlyIn_logEvent _ _ _ _) (by decide))
      (onlyIn_mono (onlyIn_fire _ _ _) (by decide)))
  exact onlyIn_ite (onlyIn_refl _ s) (onlyIn_ite (met _ _ _) (onlyIn_ite (onlyIn_refl _ s) (met _ _ _)))

/-- What follows from a change that can move the role. -/
theorem onlyIn_underRole (f : State → State) (s : State) : onlyIn joinParts (f s) (underRole f s) := by
  have calmed (t : State) (u : TandemUnit) : onlyIn joinParts t (if t.tandem.join = .conflict then fire0 31 (t.setTandem u) else t) :=
    onlyIn_ite (onlyIn_trans (onlyIn_mono (onlyIn_setTandem u t) (by decide)) (onlyIn_mono (onlyIn_fire _ _ _) (by decide))) (onlyIn_refl _ t)
  refine onlyIn_ite (onlyIn_refl _ _) (onlyIn_trans (onlyIn_endJoin (f s)) (onlyIn_trans (calmed _ _) (onlyIn_ite ?_ (onlyIn_refl _ _))))
  exact onlyIn_trans (onlyIn_mono (onlyIn_tandemSend _ _ _ _) (by decide)) (onlyIn_meetRoles _)

theorem reports_endJoin {c src : Nat} {s : State} (h : Reports c src s) : Reports c src (endJoin s) := by
  have ended (t : TandemUnit) :
      Reports c src (fire0 31 (logEvent 0x0714 srcTandem 0 (logEvent 0x0711 srcTandem 0 (s.setTandem t)))) :=
    reports_fire _ _ (reports_logEvent_kept _ _ _ (reports_logEvent_kept _ _ _ h))
  exact reports_ite (reports_ite (reports_ite (reports_logEvent_kept _ _ _ (ended _)) (ended _)) (ended _)) h

theorem reports_meetRoles {c src : Nat} {s : State} (h : Reports c src s) : Reports c src (meetRoles s) := by
  have met (e d : Nat) (t : TandemUnit) : Reports c src (fire0 31 (logEvent e srcTandem d (s.setTandem t))) :=
    reports_fire _ _ (reports_logEvent_kept _ _ _ h)
  exact reports_ite h (reports_ite (met _ _ _) (reports_ite h (met _ _ _)))

theorem reports_sendHello {c src : Nat} {s : State} (h : Reports c src s) : Reports c src (sendHello s) :=
  have sent := onlyIn_tandemSend 1 0 (helloBytes s) s
  reports_of h (sent .log (by decide)) (sent .time (by decide))

/-- A change of role leaves what is reported now. -/
theorem reports_underRole {c src : Nat} {s : State} (f : State → State) (h : Reports c src (f s)) : Reports c src (underRole f s) := by
  have calmed {t : State} (k : Reports c src t) :
      Reports c src (if t.tandem.join = .conflict then fire0 31 (t.setTandem { t.tandem with join := .none }) else t) :=
    reports_ite (reports_fire _ _ k) k
  have ended := calmed (reports_endJoin h)
  exact reports_ite h (reports_ite (reports_meetRoles (reports_sendHello ended)) ended)

/-! ## PROFILE_SELECT -/

theorem onlyIn_setPreroll (ms : Nat) (s : State) : onlyIn [.res] s (setPreroll ms s) := onlyIn_withRes _ s

theorem setPreroll_prerollMs (ms : Nat) (s : State) : (setPreroll ms s).res.prerollMs = ms := by
  unfold setPreroll
  dsimp only
  split <;> rfl

theorem onlyIn_setCompositor (mode left : Nat) (s : State) : onlyIn [.tandem] s (setCompositor mode left s) :=
  onlyIn_ite (onlyIn_setTandem _ s) (onlyIn_setTandem _ s)

/-- What a profile in force sets beside the frame settings, with its event where it stands in for another. -/
def State.adopting (s : State) (n : Nat) (p : Profile) (copy : Nat) : State :=
  let s1 := { s with mode := { s.mode with profile := n, profileSubst := decide (copy = 3) }, prefs := p.prefs }
  if copy = 3 then logEvent 0x0856 srcConductor n s1 else s1

theorem onlyIn_adopting (n : Nat) (p : Profile) (copy : Nat) (s : State) :
    onlyIn (.mode :: .prefs :: reporting) s (s.adopting n p copy) := by
  have chosen : onlyIn [.mode, .prefs] s
      { s with mode := { s.mode with profile := n, profileSubst := decide (copy = 3) }, prefs := p.prefs } := by
    intro q hq; cases q <;> simp [Part.same] at hq ⊢
  exact onlyIn_ite (onlyIn_trans (onlyIn_mono chosen (by decide)) (onlyIn_mono (onlyIn_logEvent _ _ _ _) (by decide)))
    (onlyIn_mono chosen (by decide))

theorem adopting_mode (n : Nat) (p : Profile) (copy : Nat) (s : State) :
    (s.adopting n p copy).mode = { s.mode with profile := n, profileSubst := decide (copy = 3) } := by
  unfold State.adopting
  dsimp only
  split
  · exact logEvent_mode _ _ _ _
  · rfl

theorem adopting_prefs (n : Nat) (p : Profile) (copy : Nat) (s : State) : (s.adopting n p copy).prefs = p.prefs := by
  unfold State.adopting
  dsimp only
  split
  · exact logEvent_prefs _ _ _ _
  · rfl

/-- What a profile sets, and what it can change (R154). -/
theorem adoptProfile_effect (n : Nat) (p : Profile) (copy : Nat) (s : State) :
    onlyIn (.mode :: .prefs :: .profileTandem :: .res :: joinParts) s (adoptProfile n p copy s) ∧
    (adoptProfile n p copy s).mode = { s.mode with profile := n, profileSubst := decide (copy = 3) } ∧
    (adoptProfile n p copy s).prefs = p.prefs ∧ (adoptProfile n p copy s).profileTandem = p.tandem ∧
    (adoptProfile n p copy s).res.prerollMs = p.prerollMs ∧ (copy = 3 → Reports 0x0856 srcConductor (adoptProfile n p copy s)) := by
  let role (t : State) : State := { t with profileTandem := p.tandem }
  have chosen := onlyIn_adopting n p copy s
  have moved : onlyIn [.profileTandem] (s.adopting n p copy) (role (s.adopting n p copy)) := by
    intro q hq; cases q <;> simp [Part.same, role] at hq ⊢
  have joined := onlyIn_underRole role (s.adopting n p copy)
  have filled := onlyIn_setPreroll p.prerollMs (underRole role (s.adopting n p copy))
  have shown := onlyIn_setCompositor p.compMode p.compLeft (setPreroll p.prerollMs (underRole role (s.adopting n p copy)))
  have after := onlyIn_trans (onlyIn_mono (qs := .res :: joinParts) joined (by decide))
    (onlyIn_trans (onlyIn_mono filled (by decide)) (onlyIn_mono shown (by decide)))
  refine ⟨?_, ?_, ?_, ?_, ?_, ?_⟩
  · exact onlyIn_trans (onlyIn_mono chosen (by decide)) (onlyIn_trans (onlyIn_mono moved (by decide)) (onlyIn_mono after (by decide)))
  · exact (after .mode (by decide)).trans (adopting_mode n p copy s)
  · exact (after .prefs (by decide)).trans (adopting_prefs n p copy s)
  · exact after .profileTandem (by decide)
  · exact (congrArg (·.prerollMs) (shown .res (by decide))).trans (setPreroll_prerollMs _ _)
  · rintro rfl
    have reported : Reports 0x0856 srcConductor (s.adopting n p 3) := reports_logEvent (by decide)
    have joinedReports := reports_underRole role (s := s.adopting n p 3) reported
    have latest := onlyIn_trans (onlyIn_mono (qs := [.res, .tandem]) filled (by decide)) (onlyIn_mono shown (by decide))
    exact reports_of joinedReports (latest .log (by decide)) (latest .time (by decide))

/-- A post that passes its checks answers OK. -/
theorem postNow_ok {l : List Setting} {s : State} (target : Nat)
    (pass : entryCheck l (applySensor l s.settings.sensor) (applySensor l s.settings.sensor).tMin 0 s = none) :
    (postNow l target s).1.status = .ok := by
  unfold postNow
  simp only [pass]

/-- Outside VIEW, TAKE and BURST a profile whose frame settings pass their rules is posted, and then adopted. -/
theorem profileSelectAct_adopts {n copy : Nat} {id : ReqId} {p : Profile} {s : State} (calm : s.dump.fatal = none)
    (idle : s.ledgerRuns = false) (read : s.readProfile n = (p, copy))
    (pass : entryCheck (rawSettings p.settings) (applySensor (rawSettings p.settings) s.settings.sensor)
      (applySensor (rawSettings p.settings) s.settings.sensor).tMin 0 s = none) :
    ∃ st k b, profileSelectAct n id s = respond id true st k b (adoptProfile n p copy (postNow (rawSettings p.settings) 0 s).2) := by
  have ok := postNow_ok 0 pass
  unfold profileSelectAct
  rw [read]
  simp only [post_of_idle calm idle, ok, if_true]
  exact ⟨_, _, _, rfl⟩

/-- PROFILE_SELECT in DORMANT, READY or VIEW passes its checks. -/
theorem profileSelect_runs {r : Req} {n : Byte} {s : State} (h : Waiting .profileSelect r s) (len : r.len = 4) (profile : n.toNat ≤ 3)
    (mode : s.mode.mode = .dormant ∨ s.joinable = true) :
    exec (.profileSelect r n) s = .next (profileSelectAct n.toNat (reqOf .profileSelect r s) (takeUp r s)) := by
  refine command_exec rfl h (fixed_passes len h.reserved (decide_eq_true profile) ?_ h.free)
  show (decide (s.mode.mode = .dormant) || s.joinable) = true
  simpa using mode

/-- What PROFILE_SELECT leaves, and what it sets (R154). -/
theorem profileSelect_completes {r : Req} {n : Byte} {copy : Nat} {p : Profile} {s : State} (h : Waiting .profileSelect r s) (len : r.len = 4)
    (profile : n.toNat ≤ 3) (mode : s.mode.mode = .dormant ∨ s.joinable = true) (calm : s.dump.fatal = none) (idle : s.ledgerRuns = false)
    (read : s.readProfile n.toNat = (p, copy))
    (pass : entryCheck (rawSettings p.settings) (applySensor (rawSettings p.settings) s.settings.sensor)
      (applySensor (rawSettings p.settings) s.settings.sensor).tMin 0 s = none) :
    CompletesKeeping (.profileSelect r n) s [.pending, .profiles, .fuse, .trust, .pins, .dump, .thermal, .power, .cal, .hold] fun t =>
      t.mode.profile = n.toNat ∧ t.mode.profileSubst = decide (copy = 3) ∧ t.prefs = p.prefs ∧ t.profileTandem = p.tandem ∧
      t.res.prerollMs = p.prerollMs ∧ (copy = 3 → Reports 0x0856 srcConductor t) := by
  obtain ⟨st, k, b, acts⟩ := profileSelectAct_adopts (id := reqOf .profileSelect r s) (s := takeUp r s) calm idle read pass
  obtain ⟨posted, -, -, -⟩ := postNow_effect (l := rawSettings p.settings) (s := takeUp r s) 0 pass
  obtain ⟨adopted, chosen, prefs, tandem, preroll, substituted⟩ :=
    adoptProfile_effect n.toNat p copy (postNow (rawSettings p.settings) 0 (takeUp r s)).2
  refine ⟨_, (profileSelect_runs h len profile mode).trans (congrArg _ acts), ?_, ?_, ?_, ?_, ?_, ?_, fun factory => ?_⟩
  · let changed : List Part := .time :: .ledger :: .mode :: .prefs :: .profileTandem :: .res :: joinParts
    have all : onlyIn changed s (respond (reqOf .profileSelect r s) true st k b
        (adoptProfile n.toNat p copy (postNow (rawSettings p.settings) 0 (takeUp r s)).2)) :=
      onlyIn_trans (onlyIn_mono (onlyIn_takeUp r s) (by decide)) (onlyIn_trans (onlyIn_mono posted (by decide))
        (onlyIn_trans (onlyIn_mono adopted (by decide)) (onlyIn_mono (onlyIn_respond _ _ _ _ _ _) (by decide))))
    exact kept_of_onlyIn all (by decide)
  · rw [respond_mode, chosen]
  · rw [respond_mode, chosen]
  · rw [respond_prefs, prefs]
  · rw [respond_profileTandem, tandem]
  · rw [respond_res, preroll]
  · exact reports_of (substituted factory) (respond_log _ _ _ _ _ _) (respond_time _ _ _ _ _ _)

/-- R152: where neither copy passes its check, the factory profile stands in. -/
theorem readProfile_substitute {n : Nat} {s : State} (substituted : (s.readProfile n).2 = 3) : (s.readProfile n).1 = Factory.profile := by
  unfold State.readProfile at substituted ⊢
  cases slot : s.profiles[n]? with
  | none => rfl
  | some x =>
    by_cases first : x.first.passes = true
    · simp [slot, first] at substituted
    · by_cases second : x.second.passes = true
      · simp [slot, first, second] at substituted
      · simp only [first, second, Bool.false_eq_true, if_false]

/-! ## The statement -/

/-- Settles O24: PROFILE_STORE writes the two copies of one slot, and PROFILE_SELECT posts the frame settings of a profile and adopts the rest. -/
theorem profilesAreStoredAndSelected : Obligations.ProfilesAreStoredAndSelected := by
  unfold Obligations.ProfilesAreStoredAndSelected
  refine fun r n s => ⟨fun count items h len lens profile few all distinct fields mode => ⟨fun own held => ?_, fun factory => ?_⟩,
    fun h len profile mode calm idle p copy read pass => profileSelect_completes h len profile mode calm idle read pass,
    readProfile_substitute⟩
  · have runs := profileStore_runs h len lens profile few all distinct fields mode
    have number : n.toNat ≠ 0 := fun zero => own (BitVec.eq_of_toNat_eq zero)
    obtain ⟨t, run, parts, answered, written⟩ := profileStoreAct_completes h runs number
    refine ⟨t, run, parts, answered, ?_, fun m other => ?_, s.profileWith n.toNat (items.map (·.value)), ?_,
      foldl_setProfileItem_settings _ _, ?_, ?_⟩
    · rw [written, List.length_set]
    · rw [written, List.getElem?_set_ne other.symm]
    · rw [written, List.getElem?_set_self held]
    · rintro rfl
      rfl
    · intro v only
      rw [only]
      rfl
  · subst factory
    obtain ⟨t, run, parts, reports, answered, -⟩ :=
      profileStoreAct_locked h (profileStore_runs h len lens profile few all distinct fields mode)
    exact ⟨t, run, parts, reports, answered⟩

end Sys2Proof.Machine

/-! PROOFS. A domain without power good (R402, R404): what the users of the domain give up, and the readout that a procedure of SERVICE closes. -/

namespace Sys2Proof.Machine

/-! ## What the users of a domain give up -/

/-- Of the state only what depends on the domains below a mode changes, and no failure of power good is counted. -/
def yields (s t : State) : Prop :=
  onlyIn [.power, .sensor, .cal, .conv, .aux, .clk, .time, .frame, .sync, .thermal, .bus, .fuse, .mbox] s t ∧
  t.power.pgFailCnt = s.power.pgFailCnt

theorem yields_refl (s : State) : yields s s := ⟨onlyIn_refl _ s, rfl⟩

theorem yields_trans {s t u : State} (h : yields s t) (k : yields t u) : yields s u := ⟨onlyIn_trans h.1 k.1, k.2.trans h.2⟩

theorem yields_ite {c : Prop} [Decidable c] {s a b : State} (h : yields s a) (k : yields s b) : yields s (if c then a else b) := by
  split
  · exact h
  · exact k

/-- A step for each of some domains yields where each step does. -/
theorem yields_each {f : Nat → State → State} {l : List Nat} (h : ∀ d ∈ l, ∀ s, yields s (f d s)) (s : State) : yields s (each l f s) := by
  induction l generalizing s with
  | nil => exact yields_refl s
  | cons d l ih =>
    exact yields_trans (h d List.mem_cons_self s) (ih (fun e he => h e (List.mem_cons_of_mem _ he)) (f d s))

/-- A response of the mailbox is among what can change. -/
theorem yields_finish (id : ReqId) (st : Status) (n : Nat) (b : List Byte) (s : State) : yields s (finish id st n b s) :=
  ⟨onlyIn_mono (onlyIn_finish id st n b s) (by decide), by rw [finish_power]⟩

theorem yields_finishOpt (id : Option ReqId) (st : Status) (n : Nat) (b : List Byte) (s : State) : yields s (finishOpt id st n b s) := by
  cases id with
  | none => exact yields_refl s
  | some id => exact yields_finish id st n b s

theorem yields_withBus (u : BusUnit) (s : State) : yields s { s with bus := u } :=
  ⟨by intro p hp; cases p <;> simp [Part.same] at hp ⊢, rfl⟩

theorem yields_withAux (u : AuxUnit) (s : State) : yields s { s with aux := u } :=
  ⟨by intro p hp; cases p <;> simp [Part.same] at hp ⊢, rfl⟩

theorem yields_endFuse (ok : Bool) (s : State) : yields s (endFuse ok s) :=
  ⟨by intro p hp; cases p <;> simp [Part.same, endFuse, State.setDomains] at hp ⊢, rfl⟩

theorem yields_abandonFuse (s : State) : yields s (abandonFuse s) := by
  unfold abandonFuse
  split
  · exact yields_refl s
  · exact yields_trans (yields_endFuse false s) (yields_finishOpt _ _ _ _ _)

theorem yields_endCapture (n : Nat) (st : Status) (b : List Byte) (f : AuxInput → AuxInput) (s : State) : yields s (endCapture n st b f s) := by
  unfold endCapture
  dsimp only
  split
  · exact yields_refl s
  · exact yields_trans (yields_withAux _ s) (yields_finish _ _ _ _ _)

theorem yields_endXfer (b : BusId) (result done : Nat) (st : Status) (data : List Byte) (s : State) :
    yields s (endXfer b result done st data s) := by
  unfold endXfer
  dsimp only
  split
  · exact yields_withBus _ s
  · exact yields_trans (yields_withBus _ s) (yields_finish _ _ _ _ _)

theorem yields_cutXfer (b : BusId) (s : State) : yields s (cutXfer b s) := yields_ite (yields_endXfer _ _ _ _ _ s) (yields_refl s)

theorem yields_abusOff (s : State) : yields s (abusOff s) :=
  ⟨by intro p hp; cases p <;> simp [Part.same, abusOff] at hp ⊢, rfl⟩

theorem yields_auxOff (s : State) : yields s (auxOff s) :=
  ⟨by intro p hp; cases p <;> simp [Part.same, auxOff] at hp ⊢, rfl⟩

/-- A procedure of SERVICE has no use for the memory port, the tandem link, the hold-over store and the log. -/
theorem procedureDomains_apart : ∀ d ∈ procedureDomains, d ≠ 57 ∧ d ≠ 59 ∧ d ≠ 68 ∧ d ≠ 71 := by decide

/-- What stops with a domain of a procedure. -/
theorem yields_stopDomain {d : Nat} (h : d ∈ procedureDomains) (s : State) : yields s (stopDomain d s) := by
  obtain ⟨notPort, notTandem, notStore, notLog⟩ := procedureDomains_apart d h
  have off (u : SensorUnit) (c : CalUnit) (v : ConvUnit) (k : ClockUnit) (m : TimeUnit) (f : FrameUnit) (y : SyncUnit) (x : ThermalUnit) :
      yields s { s with sensor := u, cal := c, conv := v, clk := k, time := m, frame := f, sync := y, thermal := x,
                        power := s.power.setDomain d false } :=
    ⟨by intro p hp; cases p <;> simp [Part.same] at hp ⊢, rfl⟩
  unfold stopDomain
  simp only [notPort, notTandem, notStore, notLog, if_false]
  exact yields_ite (off _ _ _ _ _ _ _ _) (yields_ite (off _ _ _ _ _ _ _ _) (yields_ite (off _ _ _ _ _ _ _ _)
    (yields_ite (yields_ite (yields_refl s) (yields_auxOff s)) (yields_ite (off _ _ _ _ _ _ _ _) (yields_ite (off _ _ _ _ _ _ _ _)
      (yields_ite (off _ _ _ _ _ _ _ _) (yields_ite (off _ _ _ _ _ _ _ _) (yields_ite (yields_ite (yields_withBus _ s) (yields_abusOff s))
        (yields_ite (off _ _ _ _ _ _ _ _) (off _ _ _ _ _ _ _ _))))))))))

/-- A procedure's domains go off after its readout has ended. -/
theorem yields_stopProcedure (s : State) : yields (endReadout s) (stopProcedure s) :=
  yields_each (fun _ h t => yields_ite (yields_stopDomain (List.mem_reverse.1 h) t) (yields_refl t)) _

theorem endReadout_of_none {s : State} (idle : s.frame.readout = none) : endReadout s = s := by
  simp only [endReadout, idle]

/-- Where no readout is in progress, what needs a domain fails with it, and the settings, the modes and the stores stay. -/
theorem yields_failUsers {s : State} (d : Nat) (idle : s.frame.readout = none) : yields s (failUsers d s) := by
  have stopped := yields_stopProcedure s
  rw [endReadout_of_none idle] at stopped
  exact yields_ite (yields_trans (yields_trans (yields_cutXfer _ s) (yields_cutXfer _ _)) (yields_abusOff _))
    (yields_ite (yields_trans (yields_trans (yields_endCapture _ _ _ _ s) (yields_endCapture _ _ _ _ _)) (yields_auxOff _))
      (yields_ite (yields_abandonFuse s) (yields_ite stopped (yields_refl s))))

/-! ## A domain without power good -/

theorem onlyIn_failDomain (d : Nat) (s : State) : onlyIn (.power :: reporting) s (failDomain d s) := by
  have off (p : PowerUnit) : onlyIn [.power] s { s with power := p } := by
    intro q hq; cases q <;> simp [Part.same] at hq ⊢
  exact onlyIn_trans (onlyIn_mono (off _) (by decide)) (onlyIn_mono (onlyIn_logEvent _ _ _ _) (by decide))

theorem failDomain_power (d : Nat) (s : State) :
    (failDomain d s).power = { s.power.setDomain d false with pgFailCnt := bump32 s.power.pgFailCnt 1 } := logEvent_power _ _ _ _

/-- The domain is off. -/
theorem failDomain_pdOn (d : Nat) (s : State) : (failDomain d s).pdOn d = false := by
  have off : (s.power.en.set d false).getD d false = false := by
    rw [List.getD_eq_getElem?_getD, List.getElem?_set_self']
    cases s.power.en[d]? <;> rfl
  unfold State.pdOn
  rw [failDomain_power]
  show ((s.power.en.set d false).getD d false && _ && _) = false
  rw [off, Bool.false_and, Bool.false_and]

theorem failDomain_reports (d : Nat) (s : State) : Reports 0x0109 srcAo (failDomain d s) := reports_logEvent (by decide)

/-- Outside a sequenced change, the failure of a domain that the mode does not power takes its users with it. -/
theorem exec_powerGoodTimeout {d : Nat} {s : State} (noSeq : s.mode.seq = none) (domain : d < 80) (apart : d ∉ modeDomains s.mode.mode)
    (enabled : s.power.en.getD d false = true) : exec (.powerGoodTimeout d) s = .next (failDomain d (failUsers d s)) := by
  have fails : domainFails d s = failDomain d (failUsers d s) := by simp only [domainFails, enabled, if_true, noSeq, apart, if_false]
  show execPowerGoodTimeout d s = _
  rw [execPowerGoodTimeout, if_pos domain, fails]

/-! ## The transfers of ABUS0 and ABUS1 (R338) -/

theorem cutXfer_of_none {b : BusId} {s : State} (idle : (s.bus.get b).xfer = none) : cutXfer b s = s :=
  if_neg (by simp [idle])

/-- A transfer on ABUS0 ends with RESULT 5. -/
theorem cutXfer_concludes {x : Xfer} {s : State} (runs : s.bus.abus0.xfer = some x) (alive : Alive x.req s) :
    Concludes x.req .failed 0 (leBytes 1 5 ++ zeros 7) s (cutXfer .abus0 s) ∧ (cutXfer .abus0 s).bus.abus1 = s.bus.abus1 := by
  have running : (s.bus.get .abus0).xfer = some x := runs
  have cut : cutXfer .abus0 s = finish x.req .failed 0 (leBytes 1 5 ++ zeros 7)
      { s with bus := { s.bus.set .abus0 s.bus.abus0.atStop with xferEnd := s.time.now } } := by
    unfold cutXfer
    rw [if_pos (by rw [running]; rfl)]
    unfold endXfer
    simp only [running]
    rfl
  rw [cut]
  exact ⟨finish_concludes alive (fun _ => rfl) rfl, by rw [finish_bus]; rfl⟩

/-- PD77 goes off after the transfer that it cuts. -/
theorem failUsers_concludes {x : Xfer} {s : State} (runs : s.bus.abus0.xfer = some x) (alone : s.bus.abus1.xfer = none) (alive : Alive x.req s) :
    Concludes x.req .failed 0 (leBytes 1 5 ++ zeros 7) s (failUsers 77 s) := by
  obtain ⟨concludes, other⟩ := cutXfer_concludes runs alive
  have users : failUsers 77 s = abusOff (cutXfer .abus0 s) := by
    have still : ((cutXfer .abus0 s).bus.get .abus1).xfer = none := (congrArg (·.xfer) other).trans alone
    show abusOff (cutXfer .abus1 (cutXfer .abus0 s)) = _
    rw [cutXfer_of_none still]
  rw [users]
  exact concludes

/-- The report of the domain leaves the responses. -/
theorem failDomain_concludes {id : ReqId} {st : Status} {n d : Nat} {b : List Byte} {s u : State} (h : Concludes id st n b s u) :
    Concludes id st n b s (failDomain d u) := by
  obtain ⟨outgoing, claims⟩ := h
  exact ⟨(congrArg Channel.outgoing (logEvent_mbox_get _ _ _ _ _)).trans outgoing, (logEvent_mbox_claims _ _ _ _).trans claims⟩

/-- What holds of the last clause but two of `SequencedChangesEnd`: its words, where no readout is in progress. -/
theorem powerGoodTimeout_of_idle {d : Nat} {s : State} (idle : s.frame.readout = none) (noSeq : s.mode.seq = none) (domain : d < 80)
    (apart : d ∉ modeDomains s.mode.mode) (enabled : s.power.en.getD d false = true) :
    CompletesKeeping (.powerGoodTimeout d) s [.settings, .profiles, .trust, .mode, .take, .res] fun t =>
      t.power.pgFailCnt = bump32 s.power.pgFailCnt 1 ∧ t.pdOn d = false ∧ Reports 0x0109 srcAo t ∧
      (d = 77 → t.bus.abus0.xfer = none ∧ t.bus.abus1.xfer = none ∧
        ∀ x, s.bus.abus0.xfer = some x → s.bus.abus1.xfer = none → Alive x.req s →
          Concludes x.req .failed 0 (leBytes 1 5 ++ zeros 7) s t) := by
  obtain ⟨users, count⟩ := yields_failUsers d idle
  let changed : List Part := [.power, .sensor, .cal, .conv, .aux, .clk, .time, .frame, .sync, .thermal, .bus, .fuse] ++ reporting
  have all : onlyIn changed s (failDomain d (failUsers d s)) :=
    onlyIn_trans (onlyIn_mono users (by decide)) (onlyIn_mono (onlyIn_failDomain d _) (by decide))
  refine ⟨_, exec_powerGoodTimeout noSeq domain apart enabled, kept_of_onlyIn all (by decide), ?_, failDomain_pdOn d _,
    failDomain_reports d _, ?_⟩
  · rw [failDomain_power]
    exact congrArg (bump32 · 1) count
  · rintro rfl
    have bus : (failDomain 77 (failUsers 77 s)).bus = (failUsers 77 s).bus := logEvent_bus _ _ _ _
    rw [bus]
    exact ⟨rfl, rfl, fun x runs alone alive => failDomain_concludes (failUsers_concludes runs alone alive)⟩

/-! ## The readout that a procedure closes -/

theorem onlyIn_noteLanes (r : Readout) (c : Conditioned) (s : State) : onlyIn reporting s (noteLanes r c s) := by
  have noted {p : Prop} [Decidable p] (code src n data : Nat) (t : State) :
      onlyIn reporting t (if p then logFrame code src n data t else t) := onlyIn_ite (onlyIn_logFrame _ _ _ _ t) (onlyIn_refl _ t)
  exact onlyIn_trans (noted _ _ _ _ s) (onlyIn_trans (noted _ _ _ _ _) (onlyIn_trans (noted _ _ _ _ _) (noted _ _ _ _ _)))

theorem onlyIn_noteVoid (r : Record) (s : State) : onlyIn reporting s (noteVoid r s) :=
  onlyIn_ite (onlyIn_logFrame _ _ _ _ s) (onlyIn_refl _ s)

/-- The reservoir's copy of a record closes. -/
theorem storeRecord_res (r : Record) (s : State) :
    (storeRecord r s).res = s.res.modify r.gov.n fun e => { e with record := some r, state := .closed } := by
  unfold storeRecord ringComplete
  dsimp only
  split <;> rfl

theorem storeRecord_take (r : Record) (s : State) : (storeRecord r s).take = s.take := by
  unfold storeRecord ringComplete
  dsimp only
  split <;> rfl

theorem greet_of_inactive {s : State} (inactive : s.take.active = none) : greet s = s := by
  simp only [greet, inactive]

/-- A record of frame `n` is made with the frame's governing values. -/
theorem makeRecord_gov (key : Option (List Byte)) (g : FrameGov) (c : Conditioned) (reasons ovr : List Nat) (sm : Samples)
    (variant format : Nat) (sealError : Bool) : (makeRecord key g c reasons ovr sm variant format sealError).gov = g := by
  unfold makeRecord
  dsimp only
  split
  · rfl
  · split <;> rfl

/-- The state of the lanes once a readout has ended: the viewing paths have the frame. -/
def State.afterReadout (s : State) (r : Readout) : State :=
  noteLanes r (Frame.mk r.data r.gov).condition { s with frame := { s.frame with readout := none, shown := some r } }

theorem onlyIn_afterReadout (r : Readout) (s : State) : onlyIn (.frame :: reporting) s (s.afterReadout r) :=
  onlyIn_trans (onlyIn_mono (onlyIn_withFrame _ s) (by decide)) (onlyIn_mono (onlyIn_noteLanes _ _ _) (by decide))

/-- The reservoir's copy of a frame closes with its readout. -/
theorem closeReadout_res {r : Readout} {s : State} (reading : s.frame.readout = some r) (recorded : s.recorded r.gov.n = true)
    (inactive : s.take.active = none) :
    ∃ x, (closeReadout s).res = s.res.modify r.gov.n fun e => { e with record := some x, state := .closed } := by
  have lanes := onlyIn_afterReadout r s
  have slot : (s.afterReadout r).recorded r.gov.n = true := by
    rw [← recorded, State.recorded, State.recorded, lanes .res (by decide), lanes .hold (by decide)]
  have closed : ∃ x : Record, x.gov = r.gov ∧ closeReadout s = noteBoth (greet (storeRecord x (noteVoid x (s.afterReadout r)))) := by
    unfold closeReadout
    simp only [reading]
    exact ⟨_, makeRecord_gov _ _ _ _ _ _ _ _ _, if_pos slot⟩
  obtain ⟨x, gov, closes⟩ := closed
  have void := onlyIn_noteVoid x (s.afterReadout r)
  have still : (storeRecord x (noteVoid x (s.afterReadout r))).take.active = none := by
    rw [storeRecord_take, void .take (by decide), lanes .take (by decide), inactive]
  refine ⟨x, ?_⟩
  rw [closes, greet_of_inactive still, onlyIn_noteBoth _ .res (by decide), storeRecord_res, gov, void .res (by decide), lanes .res (by decide)]

/-! ## The refutation -/

/-- Frame 7 as the stack reads it out. -/
def readoutOf7 : Readout :=
  ⟨governing 7 1000 0 [] [] [] false false State.reset, ⟨[], Reset.sensor.words, Reset.conv.corr, [], [], false⟩, 0, [], [], none,
    State.reset.early, false⟩

/-- SERVICE with a procedure's domain PD00 on, while frame 7 is read out and its slot in the reservoir waits for its record. -/
def procedureReads : State :=
  { State.reset with
    mode := { Reset.mode with mode := .service }
    power := { Reset.power with en := Reset.power.en.set 0 true }
    frame := { Reset.frame Factory.settings with readout := some readoutOf7 }
    res := { Reset.res with entries := [⟨0, 7, 0, 2, .writing, none, [], false, false⟩] } }

/-- The end of the readout closes the record of frame 7. -/
theorem endReadout_closes : (endReadout procedureReads).res.entries.map (·.state) = [.closed] := by
  obtain ⟨x, closed⟩ := closeReadout_res (s := procedureReads) (r := readoutOf7) rfl rfl rfl
  have ended : endReadout procedureReads = closeReadout procedureReads := rfl
  rw [ended, closed]
  rfl

/-- The failure of PD00 ends the procedure, and its readout with it. -/
theorem powerGoodTimeout_closes : (failDomain 0 (failUsers 0 procedureReads)).res.entries.map (·.state) = [.closed] := by
  have users : failUsers 0 procedureReads = stopProcedure procedureReads := rfl
  have stopped : (stopProcedure procedureReads).res = (endReadout procedureReads).res :=
    (yields_stopProcedure procedureReads).1 .res (by decide)
  rw [onlyIn_failDomain 0 _ .res (by decide), users, stopped]
  exact endReadout_closes

/-- Refutes O23: where a domain of a procedure of SERVICE has no power good while a frame is read out, the procedure ends and its readout with
it, which closes the record of the frame, so the reservoir changes that the last clause but two keeps. An entry to SERVICE gives up the reservoir's
contents, so no slot waits there; but the clause speaks of every state, and does not ask that no readout is in progress
(`powerGoodTimeout_of_idle`). -/
theorem not_sequencedChangesEnd : ¬ Obligations.SequencedChangesEnd := by
  unfold Obligations.SequencedChangesEnd
  intro h
  obtain ⟨-, -, -, -, domains, -, -⟩ := h ⟨.ch0, 0, 0, 0, 0⟩ ⟨0, 0, 0, ⟨0, 0, 0, []⟩⟩ noSurroundings procedureReads
  obtain ⟨t, run, keeps, -⟩ := domains 0 rfl (by decide) (by decide) rfl
  obtain rfl : failDomain 0 (failUsers 0 procedureReads) = t :=
    Host.Outcome.next.inj ((exec_powerGoodTimeout rfl (by decide) (by decide) rfl).symm.trans run)
  have kept : (failDomain 0 (failUsers 0 procedureReads)).res = procedureReads.res := keeps .res (by decide)
  have closed := powerGoodTimeout_closes
  rw [kept] at closed
  exact absurd closed (by decide)

end Sys2Proof.Machine

/-! PROOFS. The memory port and the reservoir aperture (R157, R162, R170 to R172): a record that a media error meets, a link that retrains, a device
that is lost, and the reads and writes of BAR2. -/

namespace Sys2Proof.Machine

/-! ## A record that a media error meets (R170) -/

/-- A report of another code or another source, of any frame, leaves what is reported. -/
theorem reports_logFrame_after {c src c' src' n d : Nat} {s : State} (h : Reports c src s) (other : (src, c) ≠ (src', c'))
    (coded : (severity c').isSome) : Reports c src (logFrame c' src' n d s) := by
  unfold Reports at *
  rw [logFrame_reported coded, look_put_other _ _ other, h, logFrame_time]

/-- The live entry of a frame, after a change of it that keeps its place, its frame and its state. -/
theorem entryOf_modify {f : ResEntry → ResEntry} (place : ∀ e, (f e).seq = e.seq ∧ (f e).frame = e.frame ∧ (f e).state = e.state)
    (r : ResUnit) (n : Nat) : (r.modify n f).entryOf n = (r.entryOf n).map f := by
  unfold ResUnit.entryOf ResUnit.live ResUnit.modify
  simp only [List.find?_filter]
  induction r.entries with
  | nil => rfl
  | cons e es ih =>
    obtain ⟨seq, frame, state⟩ := place e
    by_cases live : r.dur.seq ≤ e.seq ∧ e.frame = n ∧ e.state ≠ .filler
    · simp [live, seq, frame, state]
    · rw [List.map_cons, if_neg live, List.find?_cons_of_neg (by simpa using live), List.find?_cons_of_neg (by simpa using live)]
      exact ih

theorem onlyIn_voidRecord (n reason : Nat) (s : State) : onlyIn (.res :: .hold :: reporting) s (voidRecord n reason s) := by
  unfold voidRecord
  split
  · exact onlyIn_mono (onlyIn_withRes _ s) (by decide)
  · exact onlyIn_trans (onlyIn_mono (onlyIn_withRes _ s) (by decide)) (onlyIn_trans (onlyIn_mono (onlyIn_ringReplace _ _) (by decide))
      (onlyIn_mono (onlyIn_logFrame _ _ _ _ _) (by decide)))

/-- A closed record is void in the reservoir, and the formatter reports it. -/
theorem voidRecord_of_closed {n reason : Nat} {r : Record} {s : State} (closed : (s.res.entryOf n).bind (·.record) = some r) :
    voidRecord n reason s = logFrame 0x0401 srcFormatter n reason (ringReplace (r.voided reason)
      { s with res := s.res.modify n fun e => { e with record := some (r.voided reason) } }) := by
  simp only [voidRecord, closed]

theorem voidRecord_res {n reason : Nat} {r : Record} {s : State} (closed : (s.res.entryOf n).bind (·.record) = some r) :
    (voidRecord n reason s).res = s.res.modify n fun e => { e with record := some (r.voided reason) } := by
  rw [voidRecord_of_closed closed, logFrame_res]
  exact onlyIn_ringReplace _ _ .res (by decide)

/-- The void is reported beside what was reported before it. -/
theorem voidRecord_reports {n reason c src : Nat} {r : Record} {s : State} (closed : (s.res.entryOf n).bind (·.record) = some r)
    (h : Reports c src s) (other : (src, c) ≠ (srcFormatter, 0x0401)) :
    Reports c src (voidRecord n reason s) ∧ Reports 0x0401 srcFormatter (voidRecord n reason s) := by
  let stored : State := { s with res := s.res.modify n fun e => { e with record := some (r.voided reason) } }
  have ring : onlyIn [.hold] stored (ringReplace (r.voided reason) stored) := onlyIn_ringReplace _ stored
  rw [voidRecord_of_closed closed]
  exact ⟨reports_logFrame_after (reports_of h (ring .log (by decide)) (ring .time (by decide))) other (by decide), reports_logFrame (by decide)⟩

/-- A media error in a live record. -/
theorem mediaError_meets {page : Nat} {e : ResEntry} {r : Record} {s : State} (present : s.res.present = true)
    (live : s.res.recordAt page = some e) (closed : (s.res.entryOf e.frame).bind (·.record) = some r) :
    CompletesKeeping (.deviceMediaError page) s (stored ++ [.time, .mode, .settings, .frame, .power]) fun t =>
      (∃ x, t.res.entryOf e.frame = some x ∧ x.record = some (r.voided 2)) ∧ Reports 0x0407 srcMem t ∧ Reports 0x0401 srcFormatter t := by
  let noted : State := logFrame 0x0407 srcMem e.frame page s
  have run : mediaError page s = voidRecord e.frame 2 noted := by
    simp only [mediaError, present, live, Bool.not_true, Bool.false_eq_true, if_false, noted]
  have sameRes : noted.res = s.res := logFrame_res _ _ _ _ _
  have closedNow : (noted.res.entryOf e.frame).bind (·.record) = some r := by rw [sameRes, closed]
  have all : onlyIn (.res :: .hold :: reporting) s (voidRecord e.frame 2 noted) :=
    onlyIn_trans (onlyIn_mono (onlyIn_logFrame _ _ _ _ s) (by decide)) (onlyIn_voidRecord _ _ _)
  refine ⟨_, congrArg Host.Outcome.next run, kept_of_onlyIn all (by decide), ?_, voidRecord_reports closedNow (reports_logFrame (by decide)) (by decide)⟩
  obtain ⟨x, held, -⟩ := Option.bind_eq_some_iff.1 closed
  have voided := entryOf_modify (f := fun e => { e with record := some (r.voided 2) }) (fun _ => ⟨rfl, rfl, rfl⟩) noted.res e.frame
  rw [voidRecord_res closedNow, voided, sameRes, held]
  exact ⟨_, rfl, rfl⟩

/-- A media error elsewhere changes nothing. -/
theorem mediaError_elsewhere {page : Nat} {s : State} (none : s.res.recordAt page = none) :
    exec (.deviceMediaError page) s = .next s := by
  refine congrArg Host.Outcome.next (?_ : mediaError page s = s)
  simp only [mediaError, none, ite_self]

/-! ## Reads of BAR2 that wait while the port gives no data (R172) -/

/-- The port gives no data: it is off, or one of its links retrains. -/
def State.noData (s : State) : Prop := s.bar2Off = true ∨ s.res.retrain = true

theorem noData_of_onlyIn {s t : State} (h : onlyIn [.link, .sent] s t) (closed : s.noData) : t.noData := by
  have res : t.res = s.res := h .res (by decide)
  have power : t.power = s.power := h .power (by decide)
  unfold State.noData State.bar2Off State.pdOn at *
  rwa [res, power]

/-- The end of a read that waited. -/
def endRead (r : BarRead) (s : State) : State :=
  if s.bar2Off then s.send (.completion .unsupported) else if s.res.retrain then s.send (.completion .abort) else completeRead r s

/-- Where the port gives no data, a read ends without it. -/
theorem onlyIn_endRead_of_noData (r : BarRead) {s : State} (closed : s.noData) : onlyIn [.link, .sent] s (endRead r s) := by
  unfold endRead
  rcases closed with off | retrains
  · rw [if_pos off]
    exact onlyIn_mono (onlyIn_send _ s) (by decide)
  · rw [if_pos retrains]
    exact onlyIn_ite (onlyIn_mono (onlyIn_send _ s) (by decide)) (onlyIn_mono (onlyIn_send _ s) (by decide))

theorem onlyIn_eachEndRead_of_noData (l : List BarRead) {s : State} (closed : s.noData) : onlyIn [.link, .sent] s (each l endRead s) := by
  induction l generalizing s with
  | nil => exact onlyIn_refl _ s
  | cons r l ih =>
    have first := onlyIn_endRead_of_noData r closed
    exact onlyIn_trans first (ih (noData_of_onlyIn first closed))

/-- So do all that wait long enough. -/
theorem onlyIn_settleReads_of_noData {s : State} (closed : s.noData) : onlyIn [.link, .sent] s (settleReads s) := by
  have taken (w : List BarRead) : onlyIn [.link, .sent] s { s with link := { s.link with reads := w } } :=
    onlyIn_mono (onlyIn_withLink _ s) (by decide)
  exact onlyIn_ite (onlyIn_trans (taken _) (onlyIn_eachEndRead_of_noData _ (noData_of_onlyIn (taken _) closed))) (onlyIn_refl _ s)

/-! ## Reads of BAR2 that complete -/

/-- One reservoir but for its bad pages and its sustainable rate. -/
def ResUnit.sameRing (r q : ResUnit) : Prop := { q with bad := r.bad, frozen := r.frozen, bSus := r.bSus } = r

/-- What such a change leaves. -/
theorem sameRing_fields {r q : ResUnit} (h : r.sameRing q) :
    q.retrain = r.retrain ∧ q.queued = r.queued ∧ q.devices = r.devices ∧ q.entries = r.entries := by
  unfold ResUnit.sameRing at h
  rw [← h]
  exact ⟨rfl, rfl, rfl, rfl⟩

theorem sameRing_trans {r q p : ResUnit} (h : r.sameRing q) (k : q.sameRing p) : r.sameRing p := by
  unfold ResUnit.sameRing at *
  rw [← h, ← k]

/-- The same reads wait, on one ring. -/
def sameReads (s t : State) : Prop := t.link.reads = s.link.reads ∧ s.res.sameRing t.res

theorem sameReads_refl (s : State) : sameReads s s := ⟨rfl, rfl⟩

theorem sameReads_trans {s t u : State} (h : sameReads s t) (k : sameReads t u) : sameReads s u :=
  ⟨k.1.trans h.1, sameRing_trans h.2 k.2⟩

theorem sameReads_ite {c : Prop} [Decidable c] {s a b : State} (h : sameReads s a) (k : sameReads s b) :
    sameReads s (if c then a else b) := by
  split
  · exact h
  · exact k

theorem sameReads_addBad (page : Nat) (s : State) : sameReads s (s.addBad page) := by
  have more : s.res.sameRing (s.res.addBad page) := by
    unfold ResUnit.addBad
    split <;> rfl
  exact sameReads_ite ⟨rfl, more⟩ ⟨rfl, more⟩

theorem sameReads_logEvent (c src d : Nat) (s : State) : sameReads s (logEvent c src d s) :=
  ⟨reads_of_reportsOnly (reportsOnly_logEvent c src d s), by rw [logEvent_res]; rfl⟩

theorem sameReads_completeRead (r : BarRead) (s : State) : sameReads s (completeRead r s) := by
  have sent (o : Out) : sameReads s (s.drew.send o) := ⟨rfl, rfl⟩
  exact sameReads_ite (sameReads_trans (sameReads_trans (sent _) (sameReads_ite (sameReads_addBad _ _) (sameReads_refl _)))
    (sameReads_logEvent _ _ _ _)) (sent _)

theorem sameReads_eachEndRead (l : List BarRead) (s : State) : sameReads s (each l endRead s) := by
  induction l generalizing s with
  | nil => exact sameReads_refl s
  | cons r l ih =>
    have first : sameReads s (endRead r s) := sameReads_ite ⟨rfl, rfl⟩ (sameReads_ite ⟨rfl, rfl⟩ (sameReads_completeRead r s))
    exact sameReads_trans first (ih _)

/-- Where no link retrains, every read ends that waits. -/
theorem settleReads_of_trained {s : State} (trained : s.res.retrain = false) :
    settleReads s = each s.link.reads endRead { s with link := { s.link with reads := [] } } := by
  have ending : s.link.reads.filter (fun _ => true) = s.link.reads := List.filter_eq_self.2 fun _ _ => rfl
  have staying : s.link.reads.filter (fun _ => false) = [] := List.filter_eq_nil_iff.2 fun _ _ => Bool.false_ne_true
  unfold settleReads
  simp only [trained, Bool.not_false, Bool.or_true, Bool.true_or, Bool.not_true, ending, staying]
  split
  · rfl
  next idle =>
    have none : s.link.reads = [] :=
      List.eq_nil_iff_forall_not_mem.2 fun r waits => idle (List.any_eq_true.2 ⟨r, waits, rfl⟩)
    have taken : { s with link := { s.link with reads := [] } } = s := by rw [← none]
    rw [taken, none]
    rfl

theorem settleReads_clears {s : State} (trained : s.res.retrain = false) :
    (settleReads s).link.reads = [] ∧ s.res.sameRing (settleReads s).res := by
  rw [settleReads_of_trained trained]
  exact sameReads_eachEndRead s.link.reads { s with link := { s.link with reads := [] } }

/-! ## A link that retrains, and a device that is lost (R157, R162, R170) -/

theorem onlyIn_renewBsus (s : State) : onlyIn (.res :: reporting) s (renewBsus s) :=
  onlyIn_ite (onlyIn_trans (onlyIn_mono (onlyIn_withRes _ s) (by decide)) (onlyIn_mono (onlyIn_logEvent _ _ _ _) (by decide)))
    (onlyIn_mono (onlyIn_withRes _ s) (by decide))

theorem renewBsus_sameRing (s : State) : s.res.sameRing (renewBsus s).res := by
  unfold renewBsus
  dsimp only
  split
  · rw [logEvent_res]; rfl
  · rfl

/-- A new rate, and then the end of every read that waits. -/
theorem settleReads_renewBsus {s : State} (trained : s.res.retrain = false) :
    (settleReads (renewBsus s)).link.reads = [] ∧ s.res.sameRing (settleReads (renewBsus s)).res := by
  have renewed := renewBsus_sameRing s
  obtain ⟨reads, ring⟩ := settleReads_clears (s := renewBsus s) ((sameRing_fields renewed).1.trans trained)
  exact ⟨reads, sameRing_trans renewed ring⟩

section
variable {d lanes rate : Nat} {dev : MemDevice} {s : State}

theorem exec_memoryLinkRetrain (device : d < 4) (done : Bool) :
    exec (.memoryLinkRetrain d lanes rate done) s = .next (settleReads (retrainLink d lanes rate done s)) := if_pos device

theorem exec_deviceLost (device : d < 4) : exec (.deviceLost d) s = .next (settleReads (loseDevice d s)) := if_pos device

/-- A device in use, as the commands look it up. -/
theorem device_in_use (known : s.res.devices[d]? = some dev) (used : dev.dstate = 1) (present : s.res.present = true) :
    s.res.devices.getD d ⟨0, 0, false, 0, 0⟩ = dev ∧
    ¬(!s.res.present || decide ((s.res.devices.getD d ⟨0, 0, false, 0, 0⟩).dstate ≠ 1)) = true := by
  have found : s.res.devices.getD d ⟨0, 0, false, 0, 0⟩ = dev := by rw [List.getD_eq_getElem?_getD, known]; rfl
  refine ⟨found, ?_⟩
  rw [found]
  simp [present, used]

/-- A retrain begins: the port stops. -/
theorem retrain_begins (device : d < 4) (present : s.res.present = true) (known : s.res.devices[d]? = some dev) (used : dev.dstate = 1) :
    Completes (.memoryLinkRetrain d lanes rate false) s (.res :: reporting) fun t =>
      t.res = { s.res with retrain := true } ∧ Reports 0x0405 srcMem t := by
  let stops : State := logEvent 0x0405 srcMem d { s with res := { s.res with retrain := true } }
  have run : retrainLink d lanes rate false s = stops := if_neg (device_in_use known used present).2
  have res : stops.res = { s.res with retrain := true } := logEvent_res _ _ _ _
  have settled : onlyIn [.link, .sent] stops (settleReads stops) := onlyIn_settleReads_of_noData (.inr (by rw [res]))
  refine ⟨_, (exec_memoryLinkRetrain device false).trans (by rw [run]), ?_, (settled .res (by decide)).trans res,
    reports_of (reports_logEvent (by decide)) (settled .log (by decide)) (settled .time (by decide))⟩
  exact onlyIn_trans (onlyIn_mono (onlyIn_withRes _ s) (by decide))
    (onlyIn_trans (onlyIn_mono (onlyIn_logEvent _ _ _ _) (by decide)) (onlyIn_mono settled (by decide)))

/-- A retrain ends: what waited for it goes on. -/
theorem retrain_ends (device : d < 4) (present : s.res.present = true) (known : s.res.devices[d]? = some dev) (used : dev.dstate = 1) :
    Completes (.memoryLinkRetrain d lanes rate true) s (.res :: .free :: reporting) fun t =>
      t.link.reads = [] ∧
      t.res.retrain = false ∧ t.res.queued = 0 ∧ t.res.devices = s.res.devices.set d { dev with lanes := lanes, rate := rate } ∧
      t.res.entries = s.res.entries := by
  let trained : ResUnit :=
    { s.res with retrain := false, queued := 0, devices := s.res.devices.set d { dev with lanes := lanes, rate := rate } }
  obtain ⟨found, inUse⟩ := device_in_use known used present
  have run : retrainLink d lanes rate true s = renewBsus { s with res := trained } := by
    unfold retrainLink
    rw [if_neg inUse, found]
    rfl
  obtain ⟨reads, ring⟩ := settleReads_renewBsus (s := { s with res := trained }) rfl
  obtain ⟨retrain, queued, devices, entries⟩ := sameRing_fields ring
  refine ⟨_, (exec_memoryLinkRetrain device true).trans (by rw [run]), ?_, reads, retrain, queued, devices, entries⟩
  exact onlyIn_trans (onlyIn_mono (onlyIn_withRes _ s) (by decide))
    (onlyIn_trans (onlyIn_mono (onlyIn_renewBsus _) (by decide)) (onlyIn_mono (onlyIn_settleReads _) (by decide)))

/-- A device is lost while no frame is read out: the reservoir is absent. -/
theorem deviceLost_absent (device : d < 4) (present : s.res.present = true) (known : s.res.devices[d]? = some dev) (used : dev.dstate = 1)
    (idle : s.reads = false) :
    Completes (.deviceLost d) s (.res :: reporting) fun t =>
      t.res.present = false ∧ t.res.prerollApplied = 0 ∧ t.res.devices = s.res.devices.set d { dev with dstate := 0 } ∧
      Reports 0x0408 srcMem t := by
  let gone : ResUnit := { s.res with present := false, retrain := false, queued := 0, prerollApplied := 0,
                                     devices := s.res.devices.set d { dev with dstate := 0 } }
  let lost : State := logEvent 0x0408 srcMem d { s with res := gone }
  obtain ⟨found, inUse⟩ := device_in_use known used present
  have run : loseDevice d s = lost := by
    unfold loseDevice
    rw [if_neg inUse, found]
    simp only [idle, Bool.false_eq_true, if_false]
    rfl
  have res : lost.res = gone := logEvent_res _ _ _ _
  have settled : onlyIn [.link, .sent] lost (settleReads lost) :=
    onlyIn_settleReads_of_noData (.inl (by unfold State.bar2Off; rw [res]; rfl))
  have kept : (settleReads lost).res = gone := (settled .res (by decide)).trans res
  refine ⟨_, (exec_deviceLost device).trans (by rw [run]), ?_, congrArg ResUnit.present kept, congrArg ResUnit.prerollApplied kept,
    congrArg ResUnit.devices kept, reports_of (reports_logEvent (by decide)) (settled .log (by decide)) (settled .time (by decide))⟩
  exact onlyIn_trans (onlyIn_mono (onlyIn_withRes _ s) (by decide))
    (onlyIn_trans (onlyIn_mono (onlyIn_logEvent _ _ _ _) (by decide)) (onlyIn_mono settled (by decide)))

end

/-- A health poll that finds no poison: a hot device is reported. -/
theorem healthPoll_of_clean {h : DeviceHealth} {s : State} (bus : busOn .abus1 s = true) (clean : h.poison = []) :
    Completes (.deviceHealthPoll [h]) s reporting fun t => h.hot = true → Reports 0x040C srcMem t := by
  have run : exec (.deviceHealthPoll [h]) s = .next (if h.hot then logEvent 0x040C srcMem h.device s else s) := by
    refine congrArg Host.Outcome.next ((if_pos bus).trans (?_ : healthOf h s = _))
    simp only [healthOf, clean, each, List.foldl_nil, ite_self]
  refine ⟨_, run, onlyIn_ite (onlyIn_logEvent _ _ _ s) (onlyIn_refl _ s), fun hot => ?_⟩
  rw [if_pos hot]
  exact reports_logEvent (by decide)

/-! ## The aperture (R171, R172) -/

theorem apertureBytes_length (s : State) (offset len : Nat) : (s.apertureBytes offset len).length = len := by
  rw [State.apertureBytes, List.length_map, List.length_range]

theorem apertureBytes_getElem (s : State) (offset : Nat) {len i : Nat} (inside : i < len) :
    (s.apertureBytes offset len)[i]? = some (s.resByte ((s.res.aperture * 2 ^ 30 + offset + i) % max 1 s.res.capacity)) := by
  rw [State.apertureBytes, List.getElem?_map, List.getElem?_range inside, Option.map_some]

/-- A poisoned read is reported. -/
theorem completeRead_reports {r : BarRead} (poisoned : r.poisoned = true) (s : State) : Reports 0x0407 srcMem (completeRead r s) := by
  unfold completeRead
  rw [if_pos poisoned]
  exact reports_logEvent (by decide)

/-- AER holds the bit of an error that it records. -/
theorem record_sets (b : Nat) (a : Aer) (now : Nat) : (a.record b now).status.testBit b = true := by
  have set : (if a.status.testBit b then a else { a with status := a.status + 2 ^ b } : Aer).status.testBit b = true := by
    split
    next held => exact held
    next clear => simpa [Nat.add_comm a.status, Nat.testBit_two_pow_add_eq] using clear
  unfold Aer.record
  dsimp only
  split <;> exact set

theorem reportError_aer0 (b : Nat) (s : State) : (reportError false b s).link.aer0 = s.link.aer0.record b s.time.now := by
  unfold reportError
  extract_lets aer ctl fatal recorded
  exact (apply_ite (fun t : State => t.link.aer0) _ _ _).trans (ite_self _)

section
variable {s : State} (live : s.link.live = true) (secure : s.link.ide.insecure = false)
include live secure

/-- A read where the link carries requests. -/
theorem exec_bar2Read (offset : U64) (len : Nat) (poisoned : Bool) :
    exec (.bar2Read offset len poisoned) s = .next (if s.bar2Off || s.link.pf0.d3hot then s.send (.completion .unsupported)
      else if s.res.retrain
        then { s with link := { s.link with reads := s.link.reads ++ [⟨offset.toNat, len, poisoned, s.time.now + 10 * Config.ms⟩] } }
        else completeRead ⟨offset.toNat, len, poisoned, s.time.now + 10 * Config.ms⟩ s) := by
  refine congrArg Host.Outcome.next (?_ : bar2ReadAct offset.toNat len poisoned s = _)
  simp only [bar2ReadAct, live, secure, Bool.not_true, Bool.or_self, Bool.false_eq_true, if_false]

theorem bar2Read_absent (absent : s.res.present = false) (offset : U64) (len : Nat) :
    Completes (.bar2Read offset len false) s [.sent] fun t => t.sent = .completion .unsupported :: s.sent := by
  have off : (s.bar2Off || s.link.pf0.d3hot) = true := by simp [State.bar2Off, absent]
  exact ⟨_, (exec_bar2Read live secure offset len false).trans (by rw [if_pos off]), onlyIn_send _ s, rfl⟩

/-- R172: the host's write is discarded, reported through AER as an unsupported request, and logged. -/
theorem bar2Write_reports (offset : U64) :
    Completes (.bar2Write offset) s reporting fun t => t.link.aer0.status.testBit 20 = true ∧ Reports 0x040A srcHost t := by
  let noted : State := reportError false 20 s
  have run : exec (.bar2Write offset) s = .next (logEvent 0x040A srcHost (offset.toNat % 2 ^ 32) noted) := by
    refine congrArg Host.Outcome.next (if_pos ?_)
    simp [live, secure]
  have parts : onlyIn [.link, .sent] s noted :=
    onlyIn_ite (onlyIn_trans (onlyIn_mono (onlyIn_withLink _ s) (by decide)) (onlyIn_mono (onlyIn_send _ _) (by decide)))
      (onlyIn_mono (onlyIn_withLink _ s) (by decide))
  refine ⟨_, run, onlyIn_trans (onlyIn_mono parts (by decide)) (onlyIn_logEvent _ _ _ _), ?_, reports_logEvent (by decide)⟩
  rw [logEvent_link_aer0, reportError_aer0]
  exact record_sets 20 s.link.aer0 s.time.now

section
variable (present : s.res.present = true) (port : s.pdOn 57 = true) (phy : s.pdOn 58 = true) (awake : s.link.pf0.d3hot = false)
include present port phy awake

/-- A read that the port takes: it completes, or waits for a link that retrains. -/
theorem exec_bar2Read_of_on (offset : U64) (len : Nat) (poisoned : Bool) :
    exec (.bar2Read offset len poisoned) s = .next (if s.res.retrain
      then { s with link := { s.link with reads := s.link.reads ++ [⟨offset.toNat, len, poisoned, s.time.now + 10 * Config.ms⟩] } }
      else completeRead ⟨offset.toNat, len, poisoned, s.time.now + 10 * Config.ms⟩ s) := by
  rw [exec_bar2Read live secure, if_neg (by simp [State.bar2Off, present, port, phy, awake])]

theorem bar2Read_waits (retrains : s.res.retrain = true) (offset : U64) (len : Nat) (poisoned : Bool) :
    Completes (.bar2Read offset len poisoned) s [.link] fun t =>
      t.link.reads = s.link.reads ++ [⟨offset.toNat, len, poisoned, s.time.now + 10 * Config.ms⟩] :=
  ⟨_, (exec_bar2Read_of_on live secure present port phy awake offset len poisoned).trans (by rw [if_pos retrains]), onlyIn_withLink _ s, rfl⟩

theorem exec_bar2Read_of_idle (idle : s.res.retrain = false) (offset : U64) (len : Nat) (poisoned : Bool) :
    exec (.bar2Read offset len poisoned) s = .next (completeRead ⟨offset.toNat, len, poisoned, s.time.now + 10 * Config.ms⟩ s) := by
  rw [exec_bar2Read_of_on live secure present port phy awake, if_neg (by simp [idle])]

theorem bar2Read_data (idle : s.res.retrain = false) (offset : U64) (len : Nat) :
    Completes (.bar2Read offset len false) s [.free, .sent] fun t =>
      ∃ bs, bs.length = len ∧ t.sent = .completion (.data bs) :: s.sent ∧
        ∀ i, i < len → bs[i]? = some (s.resByte ((s.res.aperture * 2 ^ 30 + offset.toNat + i) % max 1 s.res.capacity)) :=
  ⟨_, exec_bar2Read_of_idle live secure present port phy awake idle offset len false,
    onlyIn_trans (onlyIn_mono (onlyIn_drew s) (by decide)) (onlyIn_mono (onlyIn_send _ _) (by decide)),
    _, apertureBytes_length s _ _, rfl, fun _ inside => apertureBytes_getElem s _ inside⟩

theorem bar2Read_poisoned (idle : s.res.retrain = false) (offset : U64) (len : Nat) :
    Completes (.bar2Read offset len true) s (.free :: .res :: reporting) fun t => Reports 0x0407 srcMem t ∧ t.res.entries = s.res.entries := by
  obtain ⟨-, -, -, entries⟩ := sameRing_fields (sameReads_completeRead ⟨offset.toNat, len, true, s.time.now + 10 * Config.ms⟩ s).2
  exact ⟨_, exec_bar2Read_of_idle live secure present port phy awake idle offset len true, onlyIn_completeRead _ s,
    completeRead_reports rfl s, entries⟩

end

end

/-! ## The statement -/

/-- Settles O26: one lemma for each fault of the memory side, and for each end of an access to the aperture. -/
theorem memoryPortFollowsItsFaults : Obligations.MemoryPortFollowsItsFaults := by
  unfold Obligations.MemoryPortFollowsItsFaults
  refine ⟨fun page s present => ⟨fun e r live closed => mediaError_meets present live closed, mediaError_elsewhere⟩,
    fun d lanes rate dev s device present known used => ⟨retrain_begins device present known used, retrain_ends device present known used,
      deviceLost_absent device present known used⟩,
    fun d lanes rate done s none => ⟨if_neg (by omega), if_neg (by omega)⟩,
    fun h s bus clean => healthPoll_of_clean bus clean, fun offset len s live secure => ⟨?_, ?_, ?_, ?_⟩⟩
  · exact fun present port phy awake idle => ⟨bar2Read_data live secure present port phy awake idle offset len,
      bar2Read_poisoned live secure present port phy awake idle offset len⟩
  · exact fun present port phy awake retrains poisoned => bar2Read_waits live secure present port phy awake retrains offset len poisoned
  · exact fun absent => bar2Read_absent live secure absent offset len
  · exact bar2Write_reports live secure offset

end Sys2Proof.Machine

/-! PROOFS. What the hold-over store gives back (R178, R182 to R184): the deliveries of HOLDOVER_READ, HOLDOVER_RELEASE, and failing blocks and
banks. -/

namespace Sys2Proof.Machine

/-! ## Responses before the final one (R183) -/

/-- The channels are the same but for the responses that wait on them. -/
def queuedOnly (s t : State) : Prop := ∀ c, { t.mbox.get c with outgoing := (s.mbox.get c).outgoing } = s.mbox.get c

theorem queuedOnly_refl (s : State) : queuedOnly s s := fun _ => rfl

theorem queuedOnly_trans {s t u : State} (h : queuedOnly s t) (k : queuedOnly t u) : queuedOnly s u := fun c => by rw [← h c, ← k c]

theorem queuedOnly_each {α : Type} {f : α → State → State} (h : ∀ a s, queuedOnly s (f a s)) (l : List α) (s : State) :
    queuedOnly s (each l f s) := by
  induction l generalizing s with
  | nil => exact queuedOnly_refl s
  | cons a l ih => exact queuedOnly_trans (h a s) (ih (f a s))

theorem queuedOnly_respond (id : ReqId) (f : Bool) (st : Status) (n : Nat) (b : List Byte) (s : State) :
    queuedOnly s (respond id f st n b s) := by
  intro c
  unfold respond
  dsimp only
  split
  · by_cases own : c = id.chan
    · rw [own, get_set_same]
      rfl
    · rw [get_set_other _ own]
  · rfl

/-- What the queue of a channel leaves. -/
theorem queuedOnly_channel {s t : State} (h : queuedOnly s t) (c : Chan) : (t.mbox.get c).gen = (s.mbox.get c).gen ∧
    (t.mbox.get c).flights = (s.mbox.get c).flights ∧ (t.mbox.get c).version = (s.mbox.get c).version := by
  rw [← h c]
  exact ⟨rfl, rfl, rfl⟩

/-- A final response is the last of its channel, whatever was queued since its request was taken. -/
theorem finish_last {o : Opcode} {r : Req} {st : Status} {n : Nat} {b : List Byte} {s u : State} (h : Waiting o r s)
    (queued : queuedOnly (takeUp r s) u) : ((finish (reqOf o r s) st n b u).mbox.get r.chan).outgoing.getLast? =
      some ⟨(s.mbox.get r.chan).version, r.tag, o.code, true, st, n, b, false⟩ := by
  let freed : State := { u with mbox := u.mbox.release (reqOf o r s) }
  have channel : freed.mbox.get r.chan = u.mbox.get r.chan := get_claims _ _ _
  obtain ⟨gen, flights, version⟩ := queuedOnly_channel queued r.chan
  rw [takeUp_gen] at gen
  rw [takeUp_version] at version
  obtain ⟨responds, -⟩ := respond_get (id := reqOf o r s) (f := true) (st := st) (n := n) (b := b) (s := freed)
    (flight_alive h ⟨by rw [channel, gen], by rw [channel, flights]⟩)
  have own : freed.mbox.get (reqOf o r s).chan = u.mbox.get r.chan := channel
  rw [own, version] at responds
  refine (congrArg (fun x : Channel => x.outgoing.getLast?) responds).trans ?_
  exact List.getLast?_concat

/-! ## The deliveries by the mailbox (R183) -/

/-- The pages of a frame's record go out, and the frame counts as delivered. -/
theorem mailRecord_facts (id : ReqId) (takeId n : Nat) (s : State) :
    onlyIn [.mbox, .hold] s (mailRecord id takeId n s) ∧ queuedOnly s (mailRecord id takeId n s) ∧
    (mailRecord id takeId n s).hold = { s.hold with delivered := (takeId, n) :: s.hold.delivered } := by
  have pages : onlyIn [.mbox] s (each (pagesIn (recoveredBytes s takeId n)) (fun p t => respond id false .ok n p t) s) :=
    onlyIn_each _ (fun p t => onlyIn_respond id false .ok n p t) _ s
  refine ⟨onlyIn_trans (onlyIn_mono pages (by decide)) (onlyIn_mono (onlyIn_withHold _ _) (by decide)),
    queuedOnly_each (fun p t => queuedOnly_respond id false .ok n p t) _ s, ?_⟩
  unfold mailRecord noteDelivered
  rw [pages .hold (by decide)]

/-- So do the records of some frames. -/
theorem mailRecords_facts (id : ReqId) (takeId : Nat) (l : List Nat) (s : State) :
    onlyIn [.mbox, .hold] s (each l (mailRecord id takeId) s) ∧ queuedOnly s (each l (mailRecord id takeId) s) ∧
    (each l (mailRecord id takeId) s).hold.entries = s.hold.entries ∧
    (∀ p, p ∈ (each l (mailRecord id takeId) s).hold.delivered ↔ p ∈ s.hold.delivered ∨ ∃ n ∈ l, p = (takeId, n)) := by
  induction l generalizing s with
  | nil => exact ⟨onlyIn_refl _ s, queuedOnly_refl s, rfl, fun p => by simp [each]⟩
  | cons n l ih =>
    obtain ⟨parts, queued, hold⟩ := mailRecord_facts id takeId n s
    obtain ⟨parts', queued', entries, delivered⟩ := ih (mailRecord id takeId n s)
    refine ⟨onlyIn_trans parts parts', queuedOnly_trans queued queued', entries.trans (by rw [hold]), fun p => (delivered p).trans ?_⟩
    rw [hold]
    simp only [List.mem_cons, exists_eq_or_imp]
    rw [or_comm (a := p = (takeId, n)), or_assoc]

theorem framesFrom_length (first last : Nat) : (framesFrom first last).length = last + 1 - first := by
  rw [framesFrom, List.length_map, List.length_range]

theorem mem_framesFrom {first last n : Nat} (low : first ≤ n) (high : n ≤ last) : n ∈ framesFrom first last :=
  List.mem_map.2 ⟨n - first, List.mem_range.2 (by omega), by omega⟩

theorem onlyIn_withHoldMbox (h : HoldUnit) (m : Mailbox) (s : State) : onlyIn [.hold, .mbox] s { s with hold := h, mbox := m } := by
  intro p hp; cases p <;> simp [Part.same] at hp ⊢

/-! ## HOLDOVER_READ (R182, R183) -/

section
variable {r : Req} {takeId first last : U64} {route bay : Byte} {s : State}

/-- In READY, a read with its fields in range passes its checks on a channel of another major version than 2. -/
theorem holdoverRead_runs (h : Waiting .holdoverRead r s) (len : r.len = 32) (range : first.toNat ≤ last.toNat) (byRoute : route.toNat ≤ 2)
    (toBay : bay.toNat ≤ 1) (ready : s.mode.mode = .ready) (major : s.major r ≠ 2) :
    exec (.holdoverRead r takeId first last route bay) s =
      .next (holdReadAct takeId.toNat first.toNat last.toNat route.toNat bay.toNat (reqOf .holdoverRead r s) (takeUp r s)) := by
  have version : (takeUp r s).major r ≠ 2 := by
    unfold State.major
    rwa [takeUp_version]
  refine command_exec rfl h (failing_none (decide_eq_true len) ?_ ?_ h.free)
  · simp [fixed, sound, h.reserved, range, byRoute, toBay, version]
  · simp [fixed, ready]

/-- A take that is not held. -/
theorem holdReadAct_of_not_held {t f l x b : Nat} {id : ReqId} {u : State} (gone : t ∉ u.hold.takes) :
    holdReadAct t f l x b id u = respond id true .notPresent 0 [] u := by
  unfold holdReadAct
  rw [if_pos (by simpa using gone)]

/-- A range within a take that is held is delivered. -/
theorem holdReadAct_of_held {t f l x b : Nat} {id : ReqId} {u : State} (held : t ∈ u.hold.takes) (low : u.hold.rangeFirst t ≤ f)
    (high : l ≤ u.hold.rangeLast t) : holdReadAct t f l x b id u = deliverBy t f l x b id u := by
  unfold holdReadAct
  rw [if_neg (by simpa using held), if_neg (by omega)]

theorem deliverBy_mail (t f l b : Nat) (id : ReqId) (u : State) :
    deliverBy t f l 2 b id u = finish id .ok 0 (deliveredBytes (framesFrom f l).length) (each (framesFrom f l) (mailRecord id t) u) := rfl

/-- By the mailbox, each frame goes out, and then the final response. -/
theorem holdoverRead_mails (h : Waiting .holdoverRead r s) (run : exec (.holdoverRead r takeId first last 2 bay) s =
      .next (deliverBy takeId.toNat first.toNat last.toNat 2 bay.toNat (reqOf .holdoverRead r s) (takeUp r s))) :
    Completes (.holdoverRead r takeId first last 2 bay) s [.time, .mbox, .hold] fun t =>
      (∀ n, first.toNat ≤ n → n ≤ last.toNat → (takeId.toNat, n) ∈ t.hold.delivered) ∧ t.hold.entries = s.hold.entries ∧
      (t.mbox.get r.chan).outgoing.getLast? = some ⟨(s.mbox.get r.chan).version, r.tag, Opcode.holdoverRead.code, true, .ok, 0,
        deliveredBytes (last.toNat + 1 - first.toNat), false⟩ := by
  obtain ⟨parts, queued, entries, delivered⟩ :=
    mailRecords_facts (reqOf .holdoverRead r s) takeId.toNat (framesFrom first.toNat last.toNat) (takeUp r s)
  refine ⟨_, run.trans (congrArg _ (deliverBy_mail _ _ _ _ _ _)), ?_, fun n low high => ?_, ?_, ?_⟩
  · exact onlyIn_trans (onlyIn_mono (onlyIn_takeUp r s) (by decide))
      (onlyIn_trans (onlyIn_mono parts (by decide)) (onlyIn_mono (onlyIn_finish _ _ _ _ _) (by decide)))
  · rw [finish_hold]
    exact (delivered _).2 (.inr ⟨n, mem_framesFrom low high, rfl⟩)
  · rw [finish_hold]
    exact entries
  · rw [framesFrom_length]
    exact finish_last h queued

/-- By Welt, the read claims the ring and the bay, and waits for its session. -/
theorem holdoverRead_waits (h : Waiting .holdoverRead r s) (carries : routeWelt bay.toNat takeId.toNat s = none)
    (run : exec (.holdoverRead r takeId first last 1 bay) s =
      .next (deliverBy takeId.toNat first.toNat last.toNat 1 bay.toNat (reqOf .holdoverRead r s) (takeUp r s))) :
    Completes (.holdoverRead r takeId first last 1 bay) s [.time, .mbox, .hold] fun t =>
      t.hold = { s.hold with
        job := some ⟨reqOf .holdoverRead r s, takeId.toNat, first.toNat, last.toNat, 1, bay.toNat, first.toNat, 0⟩ } ∧
      t.mbox.claims = [(.holdRing, reqOf .holdoverRead r s), (.bay bay.toNat, reqOf .holdoverRead r s)] := by
  let id := reqOf .holdoverRead r s
  let waits : State := { takeUp r s with
    hold := { s.hold with job := some ⟨id, takeId.toNat, first.toNat, last.toNat, 1, bay.toNat, first.toNat, 0⟩ },
    mbox := { (takeUp r s).mbox with claims := (takeUp r s).mbox.claims ++ [(.holdRing, id), (.bay bay.toNat, id)] } }
  have session : routeWelt bay.toNat takeId.toNat (takeUp r s) = none := carries
  have delivers : deliverBy takeId.toNat first.toNat last.toNat 1 bay.toNat id (takeUp r s) = waits := by
    unfold deliverBy
    rw [if_neg (by decide), if_neg (by decide), session]
    rfl
  have claims : waits.mbox.claims = [(.holdRing, id), (.bay bay.toNat, id)] := by
    show (takeUp r s).mbox.claims ++ _ = _
    rw [h.free, List.nil_append]
  refine ⟨waits, run.trans (congrArg _ delivers), ?_, rfl, claims⟩
  exact onlyIn_trans (onlyIn_mono (onlyIn_takeUp r s) (by decide)) (onlyIn_mono (onlyIn_withHoldMbox _ _ _) (by decide))

end

/-! ## HOLDOVER_RELEASE (R184) -/

theorem unlock_entries (h : HoldUnit) : h.unlock.entries = h.entries := by
  unfold HoldUnit.unlock
  split <;> rfl

/-- The ring unlocks when nothing locks it. -/
theorem unlock_locked {h : HoldUnit} (free : h.entries.any RingEntry.locks = false) : h.unlock.locked = false := by
  unfold HoldUnit.unlock
  rw [if_neg (by simp [free])]

section
variable {r : Req} {takeId last : U64} {flags : Byte} {s : State}

theorem holdoverRelease_runs (h : Waiting .holdoverRelease r s) (len : r.len = 24) (known : flags.toNat ≤ 1)
    (mode : s.mode.mode = .ready ∨ s.mode.mode = .service) :
    exec (.holdoverRelease r takeId last flags) s =
      .next (holdReleaseAct takeId.toNat last.toNat flags.toNat (reqOf .holdoverRelease r s) (takeUp r s)) := by
  refine command_exec rfl h (fixed_passes len h.reserved (decide_eq_true known) ?_ h.free)
  show (decide (s.mode.mode = .ready) || decide (s.mode.mode = .service)) = true
  simpa using mode

/-- Frames not delivered are not released without FORCE. -/
theorem holdReleaseAct_of_not_delivered {t n x : Nat} {id : ReqId} {u : State} (held : t ∈ u.hold.takes) (low : u.hold.rangeFirst t ≤ n)
    (high : n ≤ u.hold.rangeLast t) (plain : x.testBit 0 = false) (due : u.hold.deliveredThrough t n = false) :
    holdReleaseAct t n x id u = respond id true .denied 0 [] u := by
  unfold holdReleaseAct
  dsimp only
  rw [if_neg (by simpa using held), if_neg (by omega), if_pos (by simp [plain, due])]

/-- The state once FORCE is reported. -/
def releaseNoted (n x : Nat) (s : State) : State := if x.testBit 0 then logEvent 0x0427 srcHold (n % 2 ^ 32) s else s

theorem onlyIn_releaseNoted (n x : Nat) (s : State) : onlyIn reporting s (releaseNoted n x s) :=
  onlyIn_ite (onlyIn_logEvent _ _ _ s) (onlyIn_refl _ s)

/-- Frames delivered, or forced, are released. -/
theorem holdReleaseAct_of_released {t n x : Nat} {id : ReqId} {u : State} (held : t ∈ u.hold.takes) (low : u.hold.rangeFirst t ≤ n)
    (high : n ≤ u.hold.rangeLast t) (may : x.testBit 0 = true ∨ u.hold.deliveredThrough t n = true) :
    ∃ b, holdReleaseAct t n x id u =
      respond id true .ok 0 b { releaseNoted n x u with hold := u.hold.releaseThrough t n u.time.module } := by
  have noted := onlyIn_releaseNoted n x u
  have hold : (releaseNoted n x u).hold = u.hold := noted .hold (by decide)
  have time : (releaseNoted n x u).time = u.time := noted .time (by decide)
  have admitted : ¬(!(x.testBit 0) && !(u.hold.deliveredThrough t n)) = true := by
    rcases may with force | done
    · rw [force]
      exact Bool.false_ne_true
    · rw [done, Bool.not_true, Bool.and_false]
      exact Bool.false_ne_true
  unfold holdReleaseAct
  dsimp only
  rw [if_neg (by simpa using held), if_neg (by omega), if_neg admitted, ← hold, ← time]
  exact ⟨_, rfl⟩

theorem holdoverRelease_denied (h : Waiting .holdoverRelease r s)
    (run : exec (.holdoverRelease r takeId last 0) s =
      .next (holdReleaseAct takeId.toNat last.toNat 0 (reqOf .holdoverRelease r s) (takeUp r s)))
    (held : takeId.toNat ∈ s.hold.takes) (low : s.hold.rangeFirst takeId.toNat ≤ last.toNat)
    (high : last.toNat ≤ s.hold.rangeLast takeId.toNat) (due : s.hold.deliveredThrough takeId.toNat last.toNat = false) :
    Completes (.holdoverRelease r takeId last 0) s [.time, .mbox] fun t => Answered .holdoverRelease r true .denied 0 [] s t :=
  completes_answer h (run.trans (congrArg _ (holdReleaseAct_of_not_delivered (u := takeUp r s) held low high rfl due)))

/-- The entries of a take through a frame are released, and the ring unlocks when nothing locks it any more. -/
theorem holdoverRelease_releases (run : exec (.holdoverRelease r takeId last flags) s =
      .next (holdReleaseAct takeId.toNat last.toNat flags.toNat (reqOf .holdoverRelease r s) (takeUp r s)))
    (held : takeId.toNat ∈ s.hold.takes) (low : s.hold.rangeFirst takeId.toNat ≤ last.toNat)
    (high : last.toNat ≤ s.hold.rangeLast takeId.toNat) (may : flags = 1 ∨ s.hold.deliveredThrough takeId.toNat last.toNat = true) :
    Completes (.holdoverRelease r takeId last flags) s (.time :: .hold :: reporting) fun t =>
      t.hold.entries = s.hold.entries.map (fun e => if e.gov.take.takeId = takeId.toNat ∧ e.gov.n ≤ last.toNat ∧ e.locks = true then
        { e with state := .released, stateTime := s.time.tock.module } else e) ∧
      (t.hold.entries.any RingEntry.locks = false → t.hold.locked = false) ∧ (flags = 1 → Reports 0x0427 srcHold t) := by
  let noted := releaseNoted last.toNat flags.toNat (takeUp r s)
  let released := s.hold.releaseThrough takeId.toNat last.toNat s.time.tock.module
  obtain ⟨b, acts⟩ := holdReleaseAct_of_released (x := flags.toNat) (id := reqOf .holdoverRelease r s) (u := takeUp r s)
    held low high (may.imp (fun forced => by rw [forced]; rfl) id)
  let t := respond (reqOf .holdoverRelease r s) true .ok 0 b { noted with hold := released }
  have hold : t.hold = released := respond_hold _ _ _ _ _ _
  have answered := onlyIn_respond (reqOf .holdoverRelease r s) true .ok 0 b { noted with hold := released }
  refine ⟨t, run.trans (congrArg _ acts), ?_, ?_, fun free => ?_, ?_⟩
  · exact onlyIn_trans (onlyIn_mono (onlyIn_takeUp r s) (by decide)) (onlyIn_trans (onlyIn_mono (onlyIn_releaseNoted _ _ _) (by decide))
      (onlyIn_trans (onlyIn_mono (onlyIn_withHold _ _) (by decide)) (onlyIn_mono answered (by decide))))
  · rw [hold]
    exact unlock_entries _
  · rw [hold] at free ⊢
    exact unlock_locked ((congrArg (List.any · RingEntry.locks) (unlock_entries _)).symm.trans free)
  · rintro rfl
    have reports : Reports 0x0427 srcHold noted := reports_logEvent (by decide)
    exact reports_of reports (answered .log (by decide)) (answered .time (by decide))

end

/-! ## Failing blocks and banks (R178) -/

section
variable {s : State} {bank : Fin 8}

/-- A failing block is replaced, or lost to the ring. -/
theorem exec_holdoverBlockFail (on : s.pdOn 68 = true) :
    exec (.holdoverBlockFail bank) s = .next (blockFail bank.val s) := congrArg Host.Outcome.next (if_pos on)

theorem blockFail_spare (on : s.pdOn 68 = true) (spare : 0 < s.hold.spares.getD bank.val 0) :
    Completes (.holdoverBlockFail bank) s (.hold :: reporting) fun t =>
      t.hold = { s.hold with spares := s.hold.spares.set bank.val (s.hold.spares.getD bank.val 0 - 1) } ∧ Reports 0x0421 srcHold t :=
  ⟨_, (exec_holdoverBlockFail on).trans (congrArg _ (if_pos spare)),
    onlyIn_trans (onlyIn_mono (onlyIn_withHold _ s) (by decide)) (onlyIn_mono (onlyIn_logEvent _ _ _ _) (by decide)),
    logEvent_hold _ _ _ _, reports_logEvent (by decide)⟩

theorem blockFail_shrinks (on : s.pdOn 68 = true) (none : s.hold.spares.getD bank.val 0 = 0) :
    Completes (.holdoverBlockFail bank) s (.hold :: reporting) fun t =>
      t.hold = { s.hold with pages := s.hold.pages - 16 } ∧ Reports 0x0428 srcHold t :=
  ⟨_, (exec_holdoverBlockFail on).trans (congrArg _ (if_neg (by omega))),
    onlyIn_trans (onlyIn_mono (onlyIn_withHold _ s) (by decide)) (onlyIn_mono (onlyIn_logEvent _ _ _ _) (by decide)),
    logEvent_hold _ _ _ _, reports_logEvent (by decide)⟩

theorem abandonJob_of_idle {s : State} (idle : s.hold.job = none) : abandonJob s = s := by
  simp only [abandonJob, idle]

/-- A failing bank degrades the store, and the sustainable rate is computed without it. -/
theorem bankFail_degrades (whole : s.hold.failed.getD bank.val false = false) (idle : s.hold.job = none) :
    Completes (.holdoverBankFail bank) s (.hold :: .res :: reporting) fun t =>
      t.hold = { s.hold with degraded := true, failed := s.hold.failed.set bank.val true, locked := false } ∧
      { t.res with bSus := s.res.bSus } = s.res ∧ Reports 0x0422 srcHold t ∧ Fires false 28 s t := by
  let h : HoldUnit := { s.hold with degraded := true, failed := s.hold.failed.set bank.val true, locked := false }
  let without : State := { s with hold := h, res := { s.res with bSus := bSusOf { s with hold := h } } }
  have run : bankFail bank.val s = fire0 28 (logEvent 0x0422 srcHold bank.val without) :=
    congrArg (fun u : State => fire0 28 (logEvent 0x0422 srcHold bank.val { u with res := { u.res with bSus := bSusOf u } }))
      (abandonJob_of_idle (s := { s with hold := h }) idle)
  have first : onlyIn [.hold, .res] s without :=
    onlyIn_trans (onlyIn_mono (onlyIn_withHold h s) (by decide)) (onlyIn_mono (onlyIn_withRes _ _) (by decide))
  refine ⟨_, congrArg Host.Outcome.next ((if_neg (by rw [whole]; decide)).trans run), ?_, ?_, ?_, reports_fire _ _ (reports_logEvent (by decide)),
    fires_reported (reportsOnly_trans ⟨rfl, rfl⟩ (reportsOnly_logEvent _ _ _ without))⟩
  · exact onlyIn_trans (onlyIn_mono first (by decide))
      (onlyIn_trans (onlyIn_mono (onlyIn_logEvent _ _ _ _) (by decide)) (onlyIn_mono (onlyIn_fire _ _ _) (by decide)))
  · rw [fire0_hold, logEvent_hold]
  · rw [fire0_res, logEvent_res]

end

/-! ## The statement -/

/-- Settles O25: the checks pass, and then one lemma for each delivery, each release, and each failure. -/
theorem holdoverGivesBackItsFrames : Obligations.HoldoverGivesBackItsFrames := by
  unfold Obligations.HoldoverGivesBackItsFrames
  intro r takeId first last route bay flags bank s
  refine ⟨fun h len range byRoute toBay ready major => ⟨fun gone => ?_, fun held low high => ⟨?_, ?_⟩⟩,
    fun h len known mode held low high => ⟨?_, holdoverRelease_releases (holdoverRelease_runs h len known mode) held low high⟩,
    fun on => ⟨blockFail_spare on, blockFail_shrinks on⟩, bankFail_degrades⟩
  · exact completes_answer h ((holdoverRead_runs h len range byRoute toBay ready major).trans
      (congrArg _ (holdReadAct_of_not_held (u := takeUp r s) gone)))
  · rintro rfl
    exact holdoverRead_mails h ((holdoverRead_runs h len range byRoute toBay ready major).trans
      (congrArg _ (holdReadAct_of_held (u := takeUp r s) held low high)))
  · rintro rfl carries
    exact holdoverRead_waits h carries ((holdoverRead_runs h len range byRoute toBay ready major).trans
      (congrArg _ (holdReadAct_of_held (u := takeUp r s) held low high)))
  · rintro rfl due
    exact holdoverRelease_denied h (holdoverRelease_runs h len known mode) held low high due

end Sys2Proof.Machine

/-! PROOFS. The inputs and the draw (R179, R390, R391), and the retire that ends a ride-through (R179, R397, R399). -/

namespace Sys2Proof.Machine

theorem onlyIn_withPower (p : PowerUnit) (s : State) : onlyIn [.power] s { s with power := p } := by
  intro q hq; cases q <;> simp [Part.same] at hq ⊢

/-- A report of any frame leaves what is reported now. -/
theorem reports_logFrame_kept {c src : Nat} {s : State} (c' src' n d : Nat) (h : Reports c src s) : Reports c src (logFrame c' src' n d s) := by
  by_cases coded : (severity c').isSome
  · by_cases same : (src, c) = (src', c')
    · cases same
      exact reports_logFrame coded
    · exact reports_logFrame_after h same coded
  · have uncoded : (severity c').isNone = true := by simpa using coded
    have anyFrame : logFrame c' src' n d s = logEvent c' src' d s := by
      unfold logEvent logFrame takeReport
      simp only [uncoded, if_true]
    rw [anyFrame]
    exact reports_logEvent_kept c' src' d h

theorem reachNow_reaches (n : Nat) (s : State) : n ≤ (reachNow n s).time.now := by
  unfold reachNow
  rw [advance_now]
  omega

/-! ## The draw (R391) -/

/-- The power unit once the draw has moved. -/
def PowerUnit.drawing (p : PowerUnit) (goal : Draw) : PowerUnit :=
  { p with draw := goal, acSince := none, transferCnt := bump32 p.transferCnt 1 }

/-- The power unit as a ride-through starts. -/
def PowerUnit.riding (p : PowerUnit) (now : Nat) : PowerUnit :=
  { p with draw := .none, acSince := none, ride := some now, rideCnt := bump32 p.rideCnt 1, holdState := .discharging }

theorem onlyIn_moveDraw (goal : Draw) (s : State) : onlyIn (.power :: reporting) s (moveDraw goal s) :=
  onlyIn_trans (onlyIn_mono (onlyIn_withPower _ s) (by decide))
    (onlyIn_trans (onlyIn_mono (onlyIn_logEvent _ _ _ _) (by decide)) (onlyIn_mono (onlyIn_fire _ _ _) (by decide)))

theorem moveDraw_power (goal : Draw) (s : State) : (moveDraw goal s).power = s.power.drawing goal :=
  (fire0_power _ _).trans (logEvent_power _ _ _ _)

theorem moveDraw_reports (goal : Draw) (s : State) : Reports (if goal = .dc then 0x0103 else 0x0104) srcAo (moveDraw goal s) :=
  reports_fire _ _ (reports_logEvent (by cases goal <;> decide))

theorem moveDraw_fires {s u : State} (goal : Draw) (h : reportsOnly s u) : Fires false 30 s (moveDraw goal u) :=
  fires_reported (reportsOnly_trans h (reportsOnly_trans ⟨rfl, rfl⟩ (reportsOnly_logEvent _ _ _ { u with power := u.power.drawing goal })))

theorem reports_moveDraw {c src : Nat} {s : State} (goal : Draw) (h : Reports c src s) : Reports c src (moveDraw goal s) :=
  reports_fire _ _ (reports_logEvent_kept _ _ _ (reports_of (t := { s with power := s.power.drawing goal }) h rfl rfl))

theorem onlyIn_startRide (s : State) : onlyIn (.power :: reporting) s (startRide s) :=
  onlyIn_trans (onlyIn_mono (onlyIn_withPower _ s) (by decide)) (onlyIn_mono (onlyIn_fire _ _ _) (by decide))

theorem startRide_power (s : State) : (startRide s).power = s.power.riding s.time.now := fire0_power _ _

theorem startRide_fires {s u : State} (h : reportsOnly s u) : Fires false 30 s (startRide u) :=
  fires_reported (reportsOnly_trans h (u := { u with power := u.power.riding u.time.now }) ⟨rfl, rfl⟩)

theorem reports_startRide {c src : Nat} {s : State} (h : Reports c src s) : Reports c src (startRide s) :=
  reports_fire _ _ (reports_of (t := { s with power := s.power.riding s.time.now }) h rfl rfl)

/-! ## An input that goes away (R390, R391) -/

section
variable {ac : Bool} {s : State}

/-- The draw moves from an input to the other. -/
theorem inputGone_moves (noRetire : s.power.retire = none) (drawn : s.power.draw = if ac then .ac else .dc)
    (other : (if ac then s.power.dcPresent else s.power.acPresent) = true) :
    inputGone ac s = moveDraw (if ac then .dc else .ac) s := by
  cases ac <;> simp_all [inputGone]

/-- With neither input present, the ride-through starts. -/
theorem inputGone_rides (noRetire : s.power.retire = none) (drawn : s.power.draw = if ac then .ac else .dc)
    (other : (if ac then s.power.dcPresent else s.power.acPresent) = false) : inputGone ac s = startRide s := by
  cases ac <;> simp_all [inputGone]

end

/-- Of the inputs, only the draw from them changes, and what was reported stays so. -/
def inputsKept (s t : State) : Prop := onlyIn (.power :: reporting) s t ∧ t.power.acPresent = s.power.acPresent ∧
  t.power.dcPresent = s.power.dcPresent ∧ ∀ c src, Reports c src s → Reports c src t

theorem inputsKept_refl (s : State) : inputsKept s s := ⟨onlyIn_refl _ s, rfl, rfl, fun _ _ => id⟩

theorem inputsKept_ite {c : Prop} [Decidable c] {s a b : State} (h : inputsKept s a) (k : inputsKept s b) :
    inputsKept s (if c then a else b) := by
  split
  · exact h
  · exact k

theorem inputsKept_moveDraw (goal : Draw) (s : State) : inputsKept s (moveDraw goal s) :=
  ⟨onlyIn_moveDraw goal s, by rw [moveDraw_power]; rfl, by rw [moveDraw_power]; rfl, fun _ _ => reports_moveDraw goal⟩

theorem inputsKept_startRide (s : State) : inputsKept s (startRide s) :=
  ⟨onlyIn_startRide s, by rw [startRide_power]; rfl, by rw [startRide_power]; rfl, fun _ _ => reports_startRide⟩

theorem inputsKept_inputGone (ac : Bool) (s : State) : inputsKept s (inputGone ac s) :=
  inputsKept_ite (inputsKept_refl s) (inputsKept_ite (inputsKept_ite (inputsKept_moveDraw .dc s)
    (inputsKept_ite (inputsKept_moveDraw .ac s) (inputsKept_startRide s))) (inputsKept_refl s))

/-- The power unit with an input gone. -/
def PowerUnit.withoutInput (p : PowerUnit) (ac : Bool) : PowerUnit :=
  if ac then { p with acPresent := false, acSince := none } else { p with dcPresent := false }

/-- The event of the loss of an input. -/
def goneEvent (ac : Bool) : Nat := if ac then 0x0101 else 0x0102

/-- The loss of an input, reported. -/
def State.withoutInput (ac : Bool) (s : State) : State := logEvent (goneEvent ac) srcAo 0 { s with power := s.power.withoutInput ac }

section
variable (ac : Bool) (s : State)

theorem onlyIn_withoutInput : onlyIn (.power :: reporting) s (s.withoutInput ac) :=
  onlyIn_trans (onlyIn_mono (onlyIn_withPower _ s) (by decide)) (onlyIn_mono (onlyIn_logEvent _ _ _ _) (by decide))

theorem withoutInput_power : (s.withoutInput ac).power = s.power.withoutInput ac := logEvent_power _ _ _ _

theorem reportsOnly_withoutInput : reportsOnly s (s.withoutInput ac) :=
  reportsOnly_trans (t := { s with power := s.power.withoutInput ac }) ⟨rfl, rfl⟩ (reportsOnly_logEvent _ _ _ _)

theorem reports_withoutInput {c src : Nat} (h : Reports c src s) : Reports c src (s.withoutInput ac) :=
  reports_logEvent_kept _ _ _ (reports_of (t := { s with power := s.power.withoutInput ac }) h rfl rfl)

theorem withoutInput_reports : Reports (goneEvent ac) srcAo (s.withoutInput ac) := reports_logEvent (by cases ac <;> decide)

end

section
variable {ac : Bool} {s : State} (on : s.power.aoOn = true) (present : (if ac then s.power.acPresent else s.power.dcPresent) = true)
include on present

theorem lose_of_present : (if ac then loseAc s else loseDc s) = inputGone ac (s.withoutInput ac) := by
  cases ac with
  | true => exact (if_pos (by rw [on]; exact present) : loseAc s = _)
  | false => exact (if_pos (by rw [on]; exact present) : loseDc s = _)

theorem exec_absent : exec (if ac then .acAbsent else .dcAbsent) s = .next (inputGone ac (s.withoutInput ac)) := by
  rw [← lose_of_present on present]
  cases ac <;> rfl

theorem absent_moves (noRetire : s.power.retire = none) (drawn : s.power.draw = if ac then .ac else .dc)
    (other : (if ac then s.power.dcPresent else s.power.acPresent) = true) :
    Completes (if ac then .acAbsent else .dcAbsent) s (.power :: reporting) fun t =>
      t.power = (s.power.withoutInput ac).drawing (if ac then .dc else .ac) ∧ Reports (goneEvent ac) srcAo t ∧
      Reports (if ac then 0x0103 else 0x0104) srcAo t ∧ Fires false 30 s t := by
  have moves : inputGone ac (s.withoutInput ac) = moveDraw (if ac then .dc else .ac) (s.withoutInput ac) := by
    apply inputGone_moves <;> rw [withoutInput_power] <;> cases ac <;> assumption
  have event : Reports (if ac then 0x0103 else 0x0104) srcAo (moveDraw (if ac then .dc else .ac) (s.withoutInput ac)) := by
    cases ac <;> exact moveDraw_reports _ _
  refine ⟨_, (exec_absent on present).trans (congrArg Host.Outcome.next moves), onlyIn_trans (onlyIn_withoutInput ac s) (onlyIn_moveDraw _ _),
    ?_, reports_moveDraw _ (withoutInput_reports ac s), event, moveDraw_fires _ (reportsOnly_withoutInput ac s)⟩
  rw [moveDraw_power, withoutInput_power]

theorem absent_rides (noRetire : s.power.retire = none) (drawn : s.power.draw = if ac then .ac else .dc)
    (other : (if ac then s.power.dcPresent else s.power.acPresent) = false) :
    Completes (if ac then .acAbsent else .dcAbsent) s (.power :: reporting) fun t =>
      t.power = (s.power.withoutInput ac).riding s.time.now ∧ Reports (goneEvent ac) srcAo t ∧ Fires false 30 s t := by
  have rides : inputGone ac (s.withoutInput ac) = startRide (s.withoutInput ac) := by
    apply inputGone_rides <;> rw [withoutInput_power] <;> cases ac <;> assumption
  refine ⟨_, (exec_absent on present).trans (congrArg Host.Outcome.next rides), onlyIn_trans (onlyIn_withoutInput ac s) (onlyIn_startRide _),
    ?_, reports_startRide (withoutInput_reports ac s), startRide_fires (reportsOnly_withoutInput ac s)⟩
  rw [startRide_power, withoutInput_power, onlyIn_withoutInput ac s .time (by decide)]

end

/-! ## An input out of its range (R390) -/

/-- The power unit with an input out of its range. -/
def PowerUnit.outOfRange (p : PowerUnit) (ac : Bool) : PowerUnit := if ac then { p with acRange := true } else { p with dcRange := true }

/-- An input out of its range that was in it goes away, with its own event before the loss. -/
theorem outOfRange_eq {ac : Bool} {s : State} (on : s.power.aoOn = true) (range : (if ac then s.power.acRange else s.power.dcRange) = false) :
    ∃ d, outOfRange ac s = { (if ac then loseAc (logEvent 0x0107 srcAo d s) else loseDc (logEvent 0x0107 srcAo d s)) with
      power := (if ac then loseAc (logEvent 0x0107 srcAo d s) else loseDc (logEvent 0x0107 srcAo d s)).power.outOfRange ac } := by
  refine ⟨if ac then 0 else 1, ?_⟩
  unfold outOfRange
  rw [if_neg (by rw [on, range]; decide)]
  cases ac <;> rfl

theorem outOfRange_absent {ac : Bool} {s : State} (on : s.power.aoOn = true)
    (present : (if ac then s.power.acPresent else s.power.dcPresent) = true) :
    Completes (.inputOutOfRange ac) s (.power :: reporting) fun t => (if ac then s.power.acRange else s.power.dcRange) = false →
      (if ac then t.power.acPresent else t.power.dcPresent) = false ∧ (if ac then t.power.acRange else t.power.dcRange) = true ∧
      Reports 0x0107 srcAo t ∧ Reports (goneEvent ac) srcAo t := by
  cases range : (if ac then s.power.acRange else s.power.dcRange) with
  | true => exact ⟨s, congrArg Host.Outcome.next (if_pos (by simp [range])), onlyIn_refl _ s, nofun⟩
  | false =>
    obtain ⟨d, run⟩ := outOfRange_eq on range
    let noted := logEvent 0x0107 srcAo d s
    have power : noted.power = s.power := logEvent_power _ _ _ _
    rw [lose_of_present (s := noted) (by rw [power, on]) (by rw [power, present])] at run
    obtain ⟨parts, absentAc, absentDc, reports⟩ := inputsKept_inputGone ac (noted.withoutInput ac)
    rw [withoutInput_power] at absentAc absentDc
    refine ⟨_, congrArg Host.Outcome.next run, ?_, fun _ => ⟨?_, by cases ac <;> rfl,
      reports _ _ (reports_withoutInput ac noted (reports_logEvent (by decide))), reports _ _ (withoutInput_reports ac noted)⟩⟩
    · exact onlyIn_trans (onlyIn_mono (onlyIn_logEvent _ _ _ s) (by decide)) (onlyIn_trans (onlyIn_withoutInput ac noted)
        (onlyIn_trans parts (onlyIn_mono (onlyIn_withPower _ _) (by decide))))
    · cases ac with
      | true => exact absentAc
      | false => exact absentDc

/-! ## An input that comes back (R179, R391) -/

section
variable {s : State} (on : s.power.aoOn = true) (noRetire : s.power.retire = none)
include on noRetire

/-- While the module draws from DC, AC waits for its 1.0 s. -/
theorem acPresent_waits (drawn : s.power.draw = .dc) (absent : s.power.acPresent = false) :
    Completes (.inputPresent true) s [.power] fun t =>
      t.power = { s.power with acPresent := true, acRange := false, acSince := some s.time.now } := by
  have run : inputCame true s = { s with power := { s.power with acPresent := true, acRange := false, acSince := some s.time.now } } := by
    simp [inputCame, on, noRetire, drawn, absent]
  exact ⟨_, congrArg Host.Outcome.next run, onlyIn_withPower _ s, rfl⟩

omit on

/-- After it, the draw moves to AC. -/
theorem acReturn_moves {q : Nat} (since : s.power.acSince = some q) (present : s.power.acPresent = true) (drawn : s.power.draw = .dc) :
    Completes .acReturnSettled s (.time :: .power :: reporting) fun t =>
      t.power = { s.power with draw := .ac, acSince := none, transferCnt := bump32 s.power.transferCnt 1 } ∧
      q + Config.ticksPerSecond ≤ t.time.now ∧ Reports 0x0104 srcAo t ∧ Fires false 30 s t := by
  let settled := reachNow (q + Config.ticksPerSecond) s
  have run : acSettled s = moveDraw .ac settled := by
    simp only [acSettled, since, present, drawn, noRetire, decide_true, Option.isNone_none, Bool.and_self, if_true]
    rfl
  have moved := onlyIn_moveDraw .ac settled
  refine ⟨_, congrArg Host.Outcome.next run, onlyIn_trans (onlyIn_mono (onlyIn_reachNow _ s) (by decide)) (onlyIn_mono moved (by decide)),
    moveDraw_power .ac settled, ?_, moveDraw_reports .ac settled, moveDraw_fires .ac (u := settled) ⟨rfl, rfl⟩⟩
  rw [moved .time (by decide)]
  exact reachNow_reaches _ s

end

theorem resumeFuse_of_idle {s : State} (idle : s.fuse.waiting = none) : resumeFuse s = s := by simp only [resumeFuse, idle]

theorem holdStateAt_of_calm {s : State} {v : Nat} (noRide : s.power.ride = none) (noRetire : s.power.retire = none) :
    s.holdStateAt v = if 4600 ≤ v then .ready else .charging := if_neg (by simp [noRide, noRetire])

/-- An input that comes back ends the ride-through; no fuse operation waits for it. -/
theorem endRide_ends {q : Nat} {s u : State} (goal : Draw) (before : reportsOnly s u) (rides : u.power.ride = some q)
    (noRetire : u.power.retire = none) (idle : u.fuse.waiting = none) :
    onlyIn (.power :: reporting) u (endRide goal u) ∧ (endRide goal u).power.ride = none ∧ (endRide goal u).power.draw = goal ∧
    (endRide goal u).power.lastRide = (u.time.now - q) / 1000 % 2 ^ 16 ∧
    (endRide goal u).power.holdState = (if 4600 ≤ u.power.holdVolts then .ready else .charging) ∧ Reports 0x0106 srcAo (endRide goal u) ∧
    Fires false 30 s (endRide goal u) := by
  let p : PowerUnit := { u.power with draw := goal, ride := none, lastRide := (u.time.now - q) / 1000 % 2 ^ 16,
                                      holdState := if 4600 ≤ u.power.holdVolts then .ready else .charging }
  let noted := logEvent 0x0106 srcAo 0 { u with power := p }
  have parts : onlyIn (.power :: reporting) u (fire0 30 noted) :=
    onlyIn_trans (onlyIn_mono (onlyIn_withPower p u) (by decide))
      (onlyIn_trans (onlyIn_mono (onlyIn_logEvent _ _ _ _) (by decide)) (onlyIn_mono (onlyIn_fire _ _ _) (by decide)))
  have run : endRide goal u = fire0 30 noted := by
    have stays : (fire0 30 noted).fuse.waiting = none := by rw [parts .fuse (by decide), idle]
    unfold endRide
    simp only [rides]
    rw [holdStateAt_of_calm]
    · exact resumeFuse_of_idle stays
    · rfl
    · exact noRetire
  have power : (endRide goal u).power = p := by rw [run, fire0_power, logEvent_power]
  rw [power, run]
  exact ⟨parts, rfl, rfl, rfl, rfl, reports_fire _ _ (reports_logEvent (by decide)),
    fires_reported (reportsOnly_trans before (reportsOnly_trans (t := { u with power := p }) ⟨rfl, rfl⟩ (reportsOnly_logEvent _ _ _ _)))⟩

/-- The power unit with an input present again. -/
def PowerUnit.withInput (p : PowerUnit) (ac : Bool) : PowerUnit :=
  if ac then { p with acPresent := true, acRange := false } else { p with dcPresent := true, dcRange := false }

theorem inputPresent_ends {q : Nat} {s : State} (on : s.power.aoOn = true) (noRetire : s.power.retire = none) (rides : s.power.ride = some q)
    (ac : Bool) (absent : (if ac then s.power.acPresent else s.power.dcPresent) = false) (drawn : s.power.draw = .none)
    (idle : s.fuse.waiting = none) :
    Completes (.inputPresent ac) s (.power :: reporting) fun t =>
      t.power.ride = none ∧ t.power.draw = (if ac then .ac else .dc) ∧ t.power.lastRide = (s.time.now - q) / 1000 % 2 ^ 16 ∧
      t.power.holdState = (if 4600 ≤ s.power.holdVolts then .ready else .charging) ∧ Reports 0x0106 srcAo t ∧ Fires false 30 s t := by
  let came : State := { s with power := s.power.withInput ac }
  have run : inputCame ac s = endRide (if ac then .ac else .dc) came := by
    unfold inputCame
    dsimp only
    rw [if_neg (by rw [on, absent]; decide), if_neg (by rw [noRetire]; decide), if_pos drawn]
    rfl
  have same : came.power.ride = s.power.ride ∧ came.power.retire = s.power.retire ∧ came.power.holdVolts = s.power.holdVolts := by
    cases ac <;> exact ⟨rfl, rfl, rfl⟩
  obtain ⟨ride, retire, volts⟩ := same
  obtain ⟨parts, ends⟩ := endRide_ends (s := s) (u := came) (if ac then .ac else .dc) ⟨rfl, rfl⟩ (ride.trans rides) (retire.trans noRetire) idle
  rw [volts] at ends
  exact ⟨_, congrArg Host.Outcome.next run, onlyIn_trans (onlyIn_mono (onlyIn_withPower _ s) (by decide)) parts, ends⟩

/-! ## What a retire gives up (R179, R397) -/

/-- The units that a retire can change before its last steps. -/
def retireParts : List Part :=
  [.free, .sent, .mbox, .log, .dump, .mode, .ledger, .settings, .sensor, .frame, .fuse, .power, .link]

/-- Of what a retire has declared, nothing is taken back: the engine stays halted, the readout goes on, the fuses keep their words, the mode is the
same, and what was reported stays so. -/
structure Retiring (s t : State) : Prop where
  parts : onlyIn retireParts s t
  halted : t.frame.halted = s.frame.halted
  window : s.frame.window = none → t.frame.window = none
  readout : t.frame.readout = s.frame.readout
  power : t.power.retire = s.power.retire ∧ t.power.pwrGood = s.power.pwrGood ∧ t.power.holdVolts = s.power.holdVolts
  fuse : t.fuse.words = s.fuse.words ∧ t.fuse.finalised = s.fuse.finalised
  mode : t.mode.mode = s.mode.mode
  reports : ∀ c src, Reports c src s → Reports c src t

theorem Retiring.refl (s : State) : Retiring s s :=
  ⟨onlyIn_refl _ s, rfl, id, rfl, ⟨rfl, rfl, rfl⟩, ⟨rfl, rfl⟩, rfl, fun _ _ => id⟩

theorem Retiring.trans {s t u : State} (h : Retiring s t) (k : Retiring t u) : Retiring s u where
  parts := onlyIn_trans h.parts k.parts
  halted := k.halted.trans h.halted
  window := k.window ∘ h.window
  readout := k.readout.trans h.readout
  power := ⟨k.power.1.trans h.power.1, k.power.2.1.trans h.power.2.1, k.power.2.2.trans h.power.2.2⟩
  fuse := ⟨k.fuse.1.trans h.fuse.1, k.fuse.2.trans h.fuse.2⟩
  mode := k.mode.trans h.mode
  reports c src := k.reports c src ∘ h.reports c src

theorem Retiring.ite {c : Prop} [Decidable c] {s a b : State} (h : Retiring s a) (k : Retiring s b) : Retiring s (if c then a else b) := by
  split
  · exact h
  · exact k

theorem retiring_each {α : Type} {f : α → State → State} (h : ∀ a s, Retiring s (f a s)) (l : List α) (s : State) :
    Retiring s (each l f s) := by
  induction l generalizing s with
  | nil => exact .refl s
  | cons a l ih => exact (h a s).trans (ih (f a s))

/-- A change of some units, with the engine, the power, the fuses and the mode as they were, and what was reported. -/
theorem retiring_of_onlyIn {ps : List Part} {s t : State} (h : onlyIn ps s t) (few : ∀ p ∈ ps, p ∈ retireParts) (frame : .frame ∉ ps)
    (power : .power ∉ ps) (fuse : .fuse ∉ ps) (mode : .mode ∉ ps) (reports : ∀ c src, Reports c src s → Reports c src t) : Retiring s t := by
  have sameFrame : t.frame = s.frame := h .frame frame
  have samePower : t.power = s.power := h .power power
  have sameFuse : t.fuse = s.fuse := h .fuse fuse
  have sameMode : t.mode = s.mode := h .mode mode
  exact ⟨onlyIn_mono h few, by rw [sameFrame], by rw [sameFrame]; exact id, by rw [sameFrame], by rw [samePower]; exact ⟨rfl, rfl, rfl⟩,
    by rw [sameFuse]; exact ⟨rfl, rfl⟩, by rw [sameMode], reports⟩

theorem retiring_logFrame (c src n d : Nat) (s : State) : Retiring s (logFrame c src n d s) :=
  retiring_of_onlyIn (onlyIn_logFrame c src n d s) (by decide) (by decide) (by decide) (by decide) (by decide)
    fun _ _ => reports_logFrame_kept c src n d

theorem retiring_logEvent (c src d : Nat) (s : State) : Retiring s (logEvent c src d s) := retiring_logFrame _ _ _ _ s

theorem retiring_finishOpt (id : Option ReqId) (st : Status) (n : Nat) (b : List Byte) (s : State) : Retiring s (finishOpt id st n b s) := by
  have parts := onlyIn_finishOpt id st n b s
  exact retiring_of_onlyIn parts (by decide) (by decide) (by decide) (by decide) (by decide)
    fun _ _ h => reports_of h (parts .log (by decide)) (parts .time (by decide))

theorem retiring_withMode (m : ModeUnit) (s : State) (same : m.mode = s.mode.mode) : Retiring s { s with mode := m } :=
  ⟨onlyIn_mono (onlyIn_withMode m s) (by decide), rfl, id, rfl, ⟨rfl, rfl, rfl⟩, ⟨rfl, rfl⟩, same, fun _ _ => id⟩

/-- Which domains are on is none of what a retire declares. -/
theorem retiring_setDomains (l : List Nat) (b : Bool) (s : State) : Retiring s (s.setDomains l b) := by
  have declared (p : PowerUnit) : (l.foldl (fun p d => p.setDomain d b) p).retire = p.retire ∧
      (l.foldl (fun p d => p.setDomain d b) p).pwrGood = p.pwrGood ∧ (l.foldl (fun p d => p.setDomain d b) p).holdVolts = p.holdVolts := by
    induction l generalizing p with
    | nil => exact ⟨rfl, rfl, rfl⟩
    | cons d l ih => exact ih (p.setDomain d b)
  exact ⟨onlyIn_mono (onlyIn_setDomains l b s) (by decide), rfl, id, rfl, declared s.power, ⟨rfl, rfl⟩, rfl, fun _ _ => id⟩

/-! ## A mode change that a retire ends (R143) -/

theorem onlyIn_withSettingsLedger (x : Settings) (l : Ledger) (s : State) :
    onlyIn [.settings, .ledger] s { s with settings := x, ledger := l } := by
  intro p hp; cases p <;> simp [Part.same] at hp ⊢

theorem retiring_foldEntry (p : Nat × LedgerEntry) (s : State) : Retiring s (foldEntry p s) := by
  have kept {ps : List Part} {t : State} (h : onlyIn ps s t) (few : ∀ p ∈ ps, p ∈ [Part.settings, .ledger]) : Retiring s t :=
    have h := onlyIn_mono h few
    retiring_of_onlyIn h (by decide) (by decide) (by decide) (by decide) (by decide)
      fun _ _ k => reports_of k (h .log (by decide)) (h .time (by decide))
  exact .ite ((kept (onlyIn_withLedger _ s) (by decide)).trans (retiring_logFrame _ _ _ _ _))
    (kept (onlyIn_withSettingsLedger _ _ s) (by decide))

theorem retiring_foldLedger (s : State) : Retiring s (foldLedger s) := by
  have folded := retiring_each retiring_foldEntry s.ledger.inSequence s
  refine folded.trans ⟨onlyIn_mono (onlyIn_withFrame _ _) (by decide), rfl, id, rfl, ⟨rfl, rfl, rfl⟩, ⟨rfl, rfl⟩, rfl, fun _ _ => id⟩

theorem retiring_failPowerup (req : Option ReqId) (cause : Nat) (s : State) : Retiring s (failPowerup req cause s) :=
  .ite ((retiring_withMode { s.mode with powerup := none, powerupEvent := cause } s rfl).trans (retiring_logEvent _ _ _ _)) (.refl s)

theorem retiring_abandonEntry (s : State) : Retiring s (abandonEntry s) :=
  .ite ((retiring_foldLedger s).trans (.ite (retiring_setDomains _ _ _) (.refl _))) (.refl s)

theorem retiring_failChange (c : Change) (event : Nat) (s : State) : Retiring s (failChange c event s) := by
  let entry := abandonEntry { s with mode := { s.mode with change := none } }
  have entered : Retiring s entry := (retiring_withMode { s.mode with change := none } s rfl).trans (retiring_abandonEntry _)
  exact entered.trans ((retiring_finishOpt c.req .failed 0 (failedPayload c entry.mode.mode event) entry).trans (retiring_failPowerup c.req event _))

/-- The state once the change of mode in progress has failed. -/
def State.changeFailed (reason : Nat) (s : State) : State :=
  match s.mode.change with
  | some c => failChange c reason s
  | none => s

/-- The state once the sequenced change that waits has failed. -/
def State.seqFailed (reason : Nat) (s : State) : State :=
  match s.mode.seq with
  | some q =>
    failPowerup q.req reason
      (finishOpt q.req .failed 0 (modeResponse (modeCode s.mode.mode) 1 reason 0) { s with mode := { s.mode with seq := none } })
  | none => s

theorem abandonChange_eq (reason : Nat) (s : State) : abandonChange reason s =
    { (s.changeFailed reason).seqFailed reason with mode := { ((s.changeFailed reason).seqFailed reason).mode with forced := none } } := rfl

theorem retiring_changeFailed (reason : Nat) (s : State) : Retiring s (s.changeFailed reason) := by
  unfold State.changeFailed
  split
  · exact retiring_failChange _ _ s
  · exact .refl s

theorem retiring_seqFailed (reason : Nat) (s : State) : Retiring s (s.seqFailed reason) := by
  unfold State.seqFailed
  split
  · exact (retiring_withMode { s.mode with seq := none } s rfl).trans ((retiring_finishOpt _ _ _ _ _).trans (retiring_failPowerup _ _ _))
  · exact .refl s

theorem retiring_abandonChange (reason : Nat) (s : State) : Retiring s (abandonChange reason s) := by
  rw [abandonChange_eq]
  exact ((retiring_changeFailed reason s).trans (retiring_seqFailed reason _)).trans (retiring_withMode _ _ rfl)

/-! ## What else a retire gives up -/

theorem retiring_abandonExposure (s : State) : Retiring s (abandonExposure s) :=
  ⟨onlyIn_mono (onlyIn_withSensorFrame _ _ s) (by decide), rfl, fun _ => rfl, rfl, ⟨rfl, rfl, rfl⟩, ⟨rfl, rfl⟩, rfl, fun _ _ => id⟩

/-- R378: a fuse operation that waits is abandoned before its first pulse. -/
theorem retiring_abandonFuse (s : State) : Retiring s (abandonFuse s) := by
  have ended : Retiring s (endFuse false s) :=
    ⟨by intro p hp; cases p <;> simp [Part.same, retireParts, endFuse, State.setDomains] at hp ⊢, rfl, id, rfl, ⟨rfl, rfl, rfl⟩, ⟨rfl, rfl⟩, rfl,
      fun _ _ => id⟩
  unfold abandonFuse
  split
  · exact .refl s
  · exact ended.trans (retiring_finishOpt _ _ _ _ _)

theorem onlyIn_withDump (d : DumpUnit) (s : State) : onlyIn [.dump] s { s with dump := d } := by
  intro p hp; cases p <;> simp [Part.same] at hp ⊢

/-- Table 19-9: a dump that is being written is cut short. -/
theorem retiring_cutDump (s : State) : Retiring s (cutDump s) := by
  have stored (d : DumpUnit) : Retiring s { s.drew with dump := d } :=
    retiring_of_onlyIn (onlyIn_trans (onlyIn_mono (onlyIn_drew s) (by decide)) (onlyIn_mono (onlyIn_withDump d _) (by decide)) :
      onlyIn [.free, .dump] s _) (by decide) (by decide) (by decide) (by decide) (by decide) fun _ _ => id
  unfold cutDump
  split
  · refine .ite ?_ (.refl s)
    unfold storeDump
    extract_lets
    refine .ite (.ite (stored _) ((stored _).trans (retiring_logEvent _ _ _ _))) ?_
    exact .ite (((Retiring.ite (stored _) (.refl s)).trans (retiring_logEvent _ _ _ _)).trans (retiring_logEvent _ _ _ _))
      ((Retiring.ite (stored _) (.refl s)).trans (retiring_logEvent _ _ _ _))
  · exact .refl s

/-! ## The declaration of a retire (R179, R397) -/

/-- The state in which a retire is declared: no later boundary occurs, and no exposure is in progress. -/
def State.declared (s : State) : State :=
  haltEngine (logEvent 0x0423 srcAo 0 { s with power := { s.power with retire := some ⟨s.time.module⟩, pwrGood := false } })

/-- The state once what a retire ends has ended. -/
def State.givenUp (s : State) : State := cutDump (abandonFuse (abandonChange 0x0423 (abandonExposure s.declared)))

theorem declareRetire_eq (s : State) : declareRetire s = finishRetire s.givenUp := rfl

theorem onlyIn_declared (s : State) : onlyIn (.power :: .frame :: reporting) s s.declared :=
  onlyIn_trans (onlyIn_mono (onlyIn_withPower _ s) (by decide))
    (onlyIn_trans (onlyIn_mono (onlyIn_logEvent _ _ _ _) (by decide)) (onlyIn_mono (onlyIn_withFrame _ _) (by decide)))

theorem declared_power (s : State) : s.declared.power = { s.power with retire := some ⟨s.time.module⟩, pwrGood := false } := logEvent_power _ _ _ _

theorem declared_readout (s : State) : s.declared.frame.readout = s.frame.readout := by
  unfold State.declared haltEngine
  rw [logEvent_frame]

theorem declared_reports (s : State) : Reports 0x0423 srcAo s.declared := reports_of (reports_logEvent (by decide)) rfl rfl

theorem retiring_givenUp (s : State) : Retiring s.declared s.givenUp :=
  (retiring_abandonExposure _).trans ((retiring_abandonChange _ _).trans ((retiring_abandonFuse _).trans (retiring_cutDump _)))

theorem onlyIn_givenUp (s : State) : onlyIn retireParts s s.givenUp :=
  onlyIn_trans (onlyIn_mono (onlyIn_declared s) (by decide)) (retiring_givenUp s).parts

theorem givenUp_retire (s : State) : s.givenUp.power.retire = some ⟨s.time.module⟩ := by
  rw [(retiring_givenUp s).power.1, declared_power]

theorem givenUp_readout (s : State) : s.givenUp.frame.readout = s.frame.readout := (retiring_givenUp s).readout.trans (declared_readout s)

theorem givenUp_fuse (s : State) : s.givenUp.fuse.words = s.fuse.words ∧ s.givenUp.fuse.finalised = s.fuse.finalised := by
  obtain ⟨words, finalised⟩ := (retiring_givenUp s).fuse
  have same : s.declared.fuse = s.fuse := onlyIn_declared s .fuse (by decide)
  rw [words, finalised, same]
  exact ⟨rfl, rfl⟩

theorem finishRetire_of_reading {s : State} (reading : s.frame.readout.isSome) : finishRetire s = s := by
  obtain ⟨r, hr⟩ := Option.isSome_iff_exists.1 reading
  unfold finishRetire
  rw [if_neg (by rw [hr]; simp)]

/-- With a readout in progress, the record closes before the last steps. -/
theorem declareRetire_of_reading {s u : State} (moved : onlyIn [.time, .power] s u) (reading : s.frame.readout.isSome) :
    onlyIn retireParts u (declareRetire u) ∧ (declareRetire u).power.retire.isSome ∧ (declareRetire u).power.pwrGood = false ∧
    (declareRetire u).power.holdVolts = u.power.holdVolts ∧ (declareRetire u).frame.halted = true ∧ (declareRetire u).frame.window = none ∧
    (declareRetire u).fuse.words = s.fuse.words ∧ Reports 0x0423 srcAo (declareRetire u) := by
  have frame : u.frame = s.frame := moved .frame (by decide)
  have fuse : u.fuse = s.fuse := moved .fuse (by decide)
  have waits : declareRetire u = u.givenUp := by
    rw [declareRetire_eq]
    exact finishRetire_of_reading (by rw [givenUp_readout, frame]; exact reading)
  obtain ⟨-, halted, window, -, ⟨-, pwrGood, volts⟩, -, -, reports⟩ := retiring_givenUp u
  rw [declared_power] at pwrGood volts
  rw [waits, ← fuse]
  exact ⟨onlyIn_givenUp u, by rw [givenUp_retire]; rfl, pwrGood, volts, halted, window rfl, (givenUp_fuse u).1,
    reports _ _ (declared_reports u)⟩

/-! ## The last steps (R180, R399) -/

theorem onlyIn_writeRetire (cause : Nat) (s : State) : onlyIn (.hold :: reporting) s (writeRetire cause s) :=
  onlyIn_ite (onlyIn_refl _ s) (onlyIn_trans (onlyIn_mono (onlyIn_withHold _ s) (by decide)) (onlyIn_mono (onlyIn_logEvent _ _ _ _) (by decide)))

/-- A ring that takes writes has the retire record then. -/
theorem writeRetire_record {s : State} (cause : Nat) (unlocked : s.hold.locked = false) (whole : s.hold.degraded = false) :
    ∃ n, (writeRetire cause s).hold.retire = some n ∧ n.cause = cause := by
  unfold writeRetire
  rw [if_neg (by simp [unlocked, whole])]
  dsimp only
  rw [logEvent_hold]
  exact ⟨_, rfl, rfl⟩

/-- The state as the link domains of a retire go off. -/
def State.linkOff (s : State) : State := { s.setDomains retireDomains false with link := { s.link with state := .down } }

theorem onlyIn_linkOff (s : State) : onlyIn [.power, .link] s s.linkOff :=
  onlyIn_trans (onlyIn_mono (onlyIn_setDomains _ _ s) (by decide)) (onlyIn_mono (onlyIn_withLink _ _) (by decide))

/-- The record is written, but in DORMANT. -/
def State.retireWritten (s : State) : State := if s.mode.mode = .dormant then s.linkOff else writeRetire 1 s.linkOff

theorem onlyIn_retireWritten (s : State) : onlyIn (.power :: .hold :: reporting) s s.retireWritten :=
  onlyIn_ite (onlyIn_mono (onlyIn_linkOff s) (by decide))
    (onlyIn_trans (onlyIn_mono (onlyIn_linkOff s) (by decide)) (onlyIn_mono (onlyIn_writeRetire _ _) (by decide)))

theorem retireWritten_record {s : State} (awake : s.mode.mode ≠ .dormant) (unlocked : s.hold.locked = false) (whole : s.hold.degraded = false) :
    ∃ n, s.retireWritten.hold.retire = some n ∧ n.cause = 1 := by
  unfold State.retireWritten
  rw [if_neg awake]
  exact writeRetire_record 1 unlocked whole

theorem finishRetire_of_idle {s : State} (retires : s.power.retire.isSome) (idle : s.frame.readout = none) :
    finishRetire s = powerDown s.retireWritten := by
  unfold finishRetire
  rw [if_pos (by rw [retires, idle]; rfl)]
  rfl

/-- What is left once PD-AO is off: the stores. -/
theorem powerDown_stores (s : State) : (powerDown s).pending = s.pending ∧ (powerDown s).profiles = s.profiles ∧
    (powerDown s).power.aoOn = false ∧ (powerDown s).fuse.words = s.fuse.words ∧ (powerDown s).fuse.finalised = s.fuse.finalised ∧
    (powerDown s).hold.retire = s.hold.retire := ⟨rfl, rfl, rfl, rfl, rfl, rfl⟩

theorem declareRetire_idle {s : State} (idle : s.frame.readout = none) : declareRetire s = powerDown s.givenUp.retireWritten :=
  (declareRetire_eq s).trans (finishRetire_of_idle (s := s.givenUp) (by rw [givenUp_retire]; rfl) ((givenUp_readout s).trans idle))

/-- With no readout in progress, PD-AO goes off at once, with nothing left but what the stores hold. -/
theorem declareRetire_of_idle {s u : State} (moved : onlyIn [.time, .power] s u) (idle : s.frame.readout = none)
    (unlocked : s.hold.locked = false) (whole : s.hold.degraded = false) :
    (∀ p ∈ [Part.pending, .profiles], p.same s (declareRetire u)) ∧ (declareRetire u).power.aoOn = false ∧
    (declareRetire u).fuse.words = s.fuse.words ∧ (declareRetire u).fuse.finalised = s.fuse.finalised ∧
    (s.mode.mode ≠ .dormant → ∃ n, (declareRetire u).hold.retire = some n ∧ n.cause = 1) := by
  have frame : u.frame = s.frame := moved .frame (by decide)
  have givesUp : onlyIn (.time :: retireParts) s u.givenUp :=
    onlyIn_trans (onlyIn_mono moved (by decide)) (onlyIn_mono (onlyIn_givenUp u) (by decide))
  have writes := onlyIn_retireWritten u.givenUp
  have all : onlyIn (.time :: .hold :: retireParts) s u.givenUp.retireWritten :=
    onlyIn_trans (onlyIn_mono givesUp (by decide)) (onlyIn_mono writes (by decide))
  have hold : u.givenUp.hold = s.hold := givesUp .hold (by decide)
  have declares : u.declared.mode = s.mode := (onlyIn_declared u .mode (by decide)).trans (moved .mode (by decide))
  have mode : u.givenUp.mode.mode = s.mode.mode := by rw [(retiring_givenUp u).mode, declares]
  have fuse : u.givenUp.retireWritten.fuse = u.givenUp.fuse := writes .fuse (by decide)
  have before : u.fuse = s.fuse := moved .fuse (by decide)
  obtain ⟨pending, profiles, off, words, finalised, retire⟩ := powerDown_stores u.givenUp.retireWritten
  rw [declareRetire_idle (frame ▸ idle)]
  refine ⟨?_, off, ?_, ?_, fun awake => ?_⟩
  · simp only [List.forall_mem_cons, List.not_mem_nil, false_implies, implies_true, and_true]
    exact ⟨pending.trans (all .pending (by decide)), profiles.trans (all .profiles (by decide))⟩
  · rw [words, fuse, (givenUp_fuse u).1, before]
  · rw [finalised, fuse, (givenUp_fuse u).2, before]
  · rw [retire]
    exact retireWritten_record (by rw [mode]; exact awake) (by rw [hold]; exact unlocked) (by rw [hold]; exact whole)

/-! ## The end of a ride-through (R179, R397, R398) -/

/-- The state in which the store has fallen to a voltage at which the module retires. -/
def State.storeAt (v : Nat) (s : State) : State := { s with power := { s.power with holdVolts := v, holdState := .atRetire } }

theorem onlyIn_storeAt (v : Nat) (s : State) : onlyIn [.power] s (s.storeAt v) := onlyIn_withPower _ s

theorem storeAt_holdVolts (v : Nat) (s : State) : (s.storeAt v).power.holdVolts = v := rfl

section
variable {q : Nat} {s : State} (on : s.power.aoOn = true) (noRetire : s.power.retire = none) (rides : s.power.ride = some q)
include on noRetire rides

theorem exec_rideThroughExpiry : exec .rideThroughExpiry s = .next (declareRetire (reachNow (q + 20 * Config.ms) s)) := by
  refine congrArg Host.Outcome.next (?_ : rideExpiry s = _)
  simp only [rideExpiry, rides, noRetire, on, Option.isNone_none, Bool.and_self, if_true]

theorem exec_storeAtVRetire : exec .storeAtVRetire s = .next (declareRetire (s.storeAt s.vRetire)) := by
  refine congrArg Host.Outcome.next (if_pos ?_)
  simp [rides, noRetire, on]

theorem rideThroughExpiry_of_reading (reading : s.frame.readout.isSome) :
    CompletesKeeping .rideThroughExpiry s [.pending, .profiles, .cal, .trust, .clk, .thermal] fun t =>
      t.power.retire.isSome ∧ t.power.pwrGood = false ∧ t.frame.halted = true ∧ t.frame.window = none ∧ q + 20 * Config.ms ≤ t.time.now ∧
      t.fuse.words = s.fuse.words ∧ Reports 0x0423 srcAo t := by
  have run := exec_rideThroughExpiry on noRetire rides
  have late := reachNow_reaches (q + 20 * Config.ms) s
  have moved := onlyIn_reachNow (q + 20 * Config.ms) s
  obtain ⟨parts, retire, pwrGood, -, halted, window, words, reports⟩ := declareRetire_of_reading (onlyIn_mono moved (by decide)) reading
  refine ⟨_, run, kept_of_onlyIn (onlyIn_trans (onlyIn_mono (qs := .time :: retireParts) moved (by decide)) (onlyIn_mono parts (by decide)))
    (by decide), retire, pwrGood, halted, window, ?_, words, reports⟩
  rw [parts .time (by decide)]
  exact late

theorem storeAtVRetire_of_reading (reading : s.frame.readout.isSome) :
    CompletesKeeping .storeAtVRetire s [.pending, .profiles, .time, .cal, .trust, .clk, .thermal] fun t =>
      t.power.retire.isSome ∧ t.power.holdVolts = s.vRetire ∧ t.frame.halted = true ∧ t.fuse.words = s.fuse.words ∧ Reports 0x0423 srcAo t := by
  have moved := onlyIn_storeAt s.vRetire s
  obtain ⟨parts, retire, -, volts, halted, -, words, reports⟩ := declareRetire_of_reading (onlyIn_mono moved (by decide)) reading
  exact ⟨_, exec_storeAtVRetire on noRetire rides, kept_of_onlyIn (onlyIn_trans (onlyIn_mono moved (by decide)) parts) (by decide), retire,
    volts.trans (storeAt_holdVolts _ s), halted, words, reports⟩

/-- Either end of a ride-through switches the module off where no readout is in progress. -/
theorem rideEnds_of_idle (idle : s.frame.readout = none) (unlocked : s.hold.locked = false) (whole : s.hold.degraded = false) :
    ∀ i ∈ ([.rideThroughExpiry, .storeAtVRetire] : List Instr), CompletesKeeping i s [.pending, .profiles] fun t =>
      t.power.aoOn = false ∧ t.fuse.words = s.fuse.words ∧ t.fuse.finalised = s.fuse.finalised ∧
      (s.mode.mode ≠ .dormant → ∃ n, t.hold.retire = some n ∧ n.cause = 1) := by
  have expiry := declareRetire_of_idle (onlyIn_mono (onlyIn_reachNow (q + 20 * Config.ms) s) (by decide)) idle unlocked whole
  have low := declareRetire_of_idle (onlyIn_mono (onlyIn_storeAt s.vRetire s) (by decide)) idle unlocked whole
  simp only [List.forall_mem_cons, List.not_mem_nil, false_implies, implies_true, and_true]
  exact ⟨⟨_, exec_rideThroughExpiry on noRetire rides, expiry⟩, ⟨_, exec_storeAtVRetire on noRetire rides, low⟩⟩

end

/-! ## The statement -/

/-- Settles O40: one lemma for each input that goes or comes, and the declaration of the retire, with a readout in progress and without. -/
theorem inputsMoveTheDraw : Obligations.InputsMoveTheDraw := by
  unfold Obligations.InputsMoveTheDraw
  intro s on noRetire
  refine ⟨fun present drawn => ⟨?_, ?_, outOfRange_absent (ac := true) on present⟩,
    fun present drawn => ⟨?_, ?_, ?_, outOfRange_absent (ac := false) on present⟩,
    fun q since present drawn => acReturn_moves noRetire since present drawn, fun q rides => ⟨?_, ?_, ?_⟩⟩
  · exact absent_moves (ac := true) on present noRetire drawn
  · exact absent_rides (ac := true) on present noRetire drawn
  · exact absent_moves (ac := false) on present noRetire drawn
  · exact absent_rides (ac := false) on present noRetire drawn
  · exact acPresent_waits on noRetire drawn
  · exact inputPresent_ends on noRetire rides
  · exact fun reading => ⟨rideThroughExpiry_of_reading on noRetire rides reading, storeAtVRetire_of_reading on noRetire rides reading⟩
  · exact fun idle _ => rideEnds_of_idle on noRetire rides idle

end Sys2Proof.Machine

/-! PROOFS. Errors of the host link (R200, R201, R205, R387, R388): what AER records and the log takes, the DOE mailbox with its one unread response, and
what only a secured session takes. -/

namespace Sys2Proof.Machine

theorem onlyIn_withTrust (u : TrustUnit) (s : State) : onlyIn [.trust] s { s with trust := u } := by
  intro p hp; cases p <;> simp [Part.same] at hp ⊢

/-! ## Errors that AER records (R205) -/

@[simp] theorem aer_setAer (l : LinkUnit) (pf1 : Bool) (a : Aer) : (l.setAer pf1 a).aer pf1 = a := by cases pf1 <;> rfl

theorem reportError_link (pf1 : Bool) (b : Nat) (s : State) :
    (reportError pf1 b s).link = s.link.setAer pf1 ((s.link.aer pf1).record b s.time.now) := by
  unfold reportError
  extract_lets aer ctl fatal recorded
  exact (apply_ite (fun t : State => t.link) _ _ _).trans (ite_self _)

theorem onlyIn_reportError (pf1 : Bool) (b : Nat) (s : State) : onlyIn [.link, .sent] s (reportError pf1 b s) :=
  onlyIn_ite (onlyIn_trans (onlyIn_mono (onlyIn_withLink _ s) (by decide)) (onlyIn_mono (onlyIn_send _ _) (by decide)))
    (onlyIn_mono (onlyIn_withLink _ s) (by decide))

theorem logEvent_aer (c src d : Nat) (s : State) (pf1 : Bool) : (logEvent c src d s).link.aer pf1 = s.link.aer pf1 := by
  cases pf1
  · exact logEvent_link_aer0 c src d s
  · exact logEvent_link_aer1 c src d s

/-- An error of a function, recorded and logged. -/
def State.errorLogged (s : State) (pf1 : Bool) (b code data : Nat) : State := logEvent code srcHost data (reportError pf1 b s)

section
variable (pf1 : Bool) (b code data : Nat) (s : State)

theorem onlyIn_errorLogged : onlyIn reporting s (s.errorLogged pf1 b code data) :=
  onlyIn_trans (onlyIn_mono (onlyIn_reportError pf1 b s) (by decide)) (onlyIn_logEvent _ _ _ _)

theorem errorLogged_sets : ((s.errorLogged pf1 b code data).link.aer pf1).status.testBit b = true := by
  unfold State.errorLogged
  rw [logEvent_aer, reportError_link, aer_setAer]
  exact record_sets b _ _

theorem errorLogged_reports (coded : (severity code).isSome) : Reports code srcHost (s.errorLogged pf1 b code data) := reports_logEvent coded

end

/-- A command that only reports an error. -/
theorem errorLogged_completes {c : Instr} {pf1 : Bool} {b code data : Nat} {s : State} (run : exec c s = .next (s.errorLogged pf1 b code data))
    (coded : (severity code).isSome) :
    Completes c s reporting fun t => (t.link.aer pf1).status.testBit b = true ∧ Reports code srcHost t :=
  ⟨_, run, onlyIn_errorLogged pf1 b code data s, errorLogged_sets pf1 b code data s, errorLogged_reports pf1 b code data s coded⟩

section
variable {s : State} (hears : s.link.hears = true)
include hears

theorem unexpectedCompletion_reports :
    Completes .unexpectedCompletion s reporting fun t => t.link.aer0.status.testBit 16 = true ∧ Reports 0x0506 srcHost t :=
  errorLogged_completes (pf1 := false) (congrArg Host.Outcome.next (if_pos hears)) (by decide)

/-- An access in error is judged where the link hears it. -/
theorem accessError_heard (e : Bar0Error) : accessError e s = match e with
    | .poisoned fn off => s.errorLogged (decide (fn = .pf1)) 12 0x0504 off
    | .ecrc fn off => if (s.link.aer (decide (fn = .pf1))).ecrcCheck then s.errorLogged (decide (fn = .pf1)) 19 0x0504 off else s
    | .badSize fn off => unsupported (decide (fn = .pf1)) off s := by
  unfold accessError
  rw [if_neg (by rw [hears]; decide)]
  cases e <;> rfl

theorem poisonedWrite_reports (fn : Func) (off : Nat) : Completes (.bar0AccessError (.poisoned fn off)) s reporting fun t =>
    (t.link.aer (decide (fn = .pf1))).status.testBit 12 = true ∧ Reports 0x0504 srcHost t :=
  errorLogged_completes (congrArg Host.Outcome.next (accessError_heard hears _)) (by decide)

theorem failedEcrc_reports (fn : Func) (off : Nat) (checks : (s.link.aer (decide (fn = .pf1))).ecrcCheck = true) :
    Completes (.bar0AccessError (.ecrc fn off)) s reporting fun t =>
      (t.link.aer (decide (fn = .pf1))).status.testBit 19 = true ∧ Reports 0x0504 srcHost t :=
  errorLogged_completes (congrArg Host.Outcome.next ((accessError_heard hears _).trans (if_pos checks))) (by decide)

/-- An access of a size outside R196 completes with Unsupported Request. -/
theorem badSize_unsupported (fn : Func) (off : Nat) : Completes (.bar0AccessError (.badSize fn off)) s reporting fun t =>
    (t.link.aer (decide (fn = .pf1))).status.testBit 20 = true ∧ Reports 0x0503 srcHost t ∧
    t.sent.head? = some (.completion .unsupported) := by
  let noted := s.errorLogged (decide (fn = .pf1)) 20 0x0503 off
  exact ⟨noted.send (.completion .unsupported), congrArg Host.Outcome.next (accessError_heard hears _),
    onlyIn_trans (onlyIn_errorLogged _ _ _ _ s) (onlyIn_mono (onlyIn_send _ _) (by decide)), errorLogged_sets _ _ _ _ s,
    reports_send _ (errorLogged_reports _ _ _ _ s (by decide)), rfl⟩

end

/-- A stream that failed takes no memory request of either function (R201). -/
theorem ideFailure_takes_none {s : State} (started : s.link.ide.started = true) :
    Completes .ideIntegrityFailure s reporting fun t =>
      t.link.ide = { s.link.ide with insecure := true } ∧ (∀ p, t.link.takes p = false) ∧ Reports 0x0509 srcHost t := by
  let failed : State := { s with link := { s.link with ide := { s.link.ide with insecure := true } } }
  have insecure : (logEvent 0x0509 srcHost 0 failed).link.ide = { s.link.ide with insecure := true } := logEvent_link_ide _ _ _ failed
  refine ⟨logEvent 0x0509 srcHost 0 failed, congrArg Host.Outcome.next (if_pos started),
    onlyIn_trans (onlyIn_mono (onlyIn_withLink _ s) (by decide)) (onlyIn_logEvent _ _ _ _), insecure, fun p => ?_, reports_logEvent (by decide)⟩
  unfold LinkUnit.takes
  rw [insecure]
  rfl

/-! ## The DOE mailbox (R200) -/

theorem onlyIn_doeAnswer (bs : List Byte) (s : State) : onlyIn [.link, .sent] s (doeAnswer bs s) :=
  onlyIn_trans (onlyIn_mono (onlyIn_withLink _ s) (by decide)) (onlyIn_mono (onlyIn_send _ _) (by decide))

theorem onlyIn_spdmAnswer (kind : Nat) (s : State) : onlyIn [.link, .sent, .free] s (spdmAnswer kind s) :=
  onlyIn_trans (onlyIn_mono (onlyIn_drew s) (by decide)) (onlyIn_mono (onlyIn_doeAnswer _ _) (by decide))

theorem doeUnlessBusy_of_free {fetched : Bool} {s : State} (act : State → State) (free : s.link.doe.response = none ∨ fetched = true) :
    doeUnlessBusy fetched act s = act s := by
  refine if_neg ?_
  rcases free with none | read
  · simp [none]
  · simp [read]

/-- A command of the DOE mailbox while its response is unread gets the busy indication. -/
theorem doeBusy_completes {c : Instr} {s : State} {act : State → State} (run : exec c s = .next (doeUnlessBusy false act s))
    (unread : s.link.doe.response.isSome) :
    Completes c s [.link, .sent] fun t => t.link.doe = { s.link.doe with busyCnt := s.link.doe.busyCnt + 1 } ∧ t.sent = .doeBusy :: s.sent :=
  ⟨_, run.trans (congrArg Host.Outcome.next (if_pos (by simpa using unread))),
    onlyIn_trans (onlyIn_mono (onlyIn_withLink _ s) (by decide)) (onlyIn_mono (onlyIn_send _ _) (by decide)), rfl, rfl⟩

theorem discovery_fits (i : Byte) : ¬ 4096 < doeLength (.discovery i) := by
  simp [doeLength]

theorem doeRequest_busy (i : Byte) {s : State} (unread : s.link.doe.response.isSome) :
    Completes (.doeRequest (.discovery i) false) s [.link, .sent] fun t =>
      t.link.doe = { s.link.doe with busyCnt := s.link.doe.busyCnt + 1 } ∧ t.sent = .doeBusy :: s.sent :=
  doeBusy_completes (act := doeAnswer (discoveryAnswer i.toNat)) (congrArg Host.Outcome.next (if_neg (discovery_fits i))) unread

section
variable {fetched : Bool} {s : State} (free : s.link.doe.response = none ∨ fetched = true)
include free

theorem discovery_answers (i : Byte) : Completes (.doeRequest (.discovery i) fetched) s [.link, .sent] fun t =>
    t.link.doe.response = some (discoveryAnswer i.toNat) ∧ t.sent = .doe (discoveryAnswer i.toNat) :: s.sent :=
  ⟨doeAnswer (discoveryAnswer i.toNat) s,
    congrArg Host.Outcome.next ((if_neg (discovery_fits i)).trans (doeUnlessBusy_of_free (doeAnswer (discoveryAnswer i.toNat)) free)),
    onlyIn_doeAnswer _ s, rfl, rfl⟩

theorem openSession_secures (bs : List Byte) (short : bs.length ≤ 4088) (version : spdmVersionOk bs = true) :
    Completes (.doeRequest (.openSession bs) fetched) s [.link, .sent, .trust, .free] fun t =>
      t.trust = { s.trust with secured := true } ∧ t.link.doe.response.isSome := by
  have fits : ¬ 4096 < doeLength (.openSession bs) := by simp only [doeLength]; omega
  refine ⟨spdmAnswer 1 { s with trust := { s.trust with secured := true } }, congrArg Host.Outcome.next ?_,
    onlyIn_trans (onlyIn_mono (onlyIn_withTrust _ s) (by decide)) (onlyIn_mono (onlyIn_spdmAnswer _ _) (by decide)), rfl, rfl⟩
  unfold doeRequestAct
  rw [if_neg fits, doeUnlessBusy_of_free _ free]
  exact if_pos version

theorem endSession_releases : Completes (.doeRequest .endSession fetched) s [.link, .sent, .trust, .free] fun t =>
    t.trust = { s.trust with secured := false } ∧ t.link.doe.response.isSome := by
  refine ⟨spdmAnswer 2 { s with trust := { s.trust with secured := false } }, congrArg Host.Outcome.next ?_,
    onlyIn_trans (onlyIn_mono (onlyIn_withTrust _ s) (by decide)) (onlyIn_mono (onlyIn_spdmAnswer _ _) (by decide)), rfl, rfl⟩
  unfold doeRequestAct
  rw [if_neg (by decide), doeUnlessBusy_of_free _ free]

/-! ## What a secured session takes (R201, R387, R388) -/

theorem exec_ideKm (rx tx : List Byte) : exec (.ideKm ⟨fetched, rx⟩ tx) s = .next (ideKeys rx tx s) :=
  congrArg Host.Outcome.next (doeUnlessBusy_of_free (ideKeys rx tx) free)

/-- In a secured session each direction takes the key that comes for it, and a key to receive with ends the failure of the stream. -/
theorem ideKm_keys (rx tx : List Byte) (secured : s.trust.secured = true) (feature : s.cap 5 = true) :
    Completes (.ideKm ⟨fetched, rx⟩ tx) s [.link, .sent, .free] fun t =>
      (rx ≠ [] → t.link.ide.rxKey = some rx ∧ t.link.ide.insecure = false) ∧ (tx ≠ [] → t.link.ide.txKey = some tx) ∧
      (rx = [] → t.link.ide.rxKey = s.link.ide.rxKey ∧ t.link.ide.insecure = s.link.ide.insecure) := by
  have run := exec_ideKm free rx tx
  unfold ideKeys at run
  rw [if_pos (by rw [secured, feature]; rfl)] at run
  refine ⟨_, run, onlyIn_trans (onlyIn_mono (onlyIn_withLink _ s) (by decide)) (onlyIn_spdmAnswer _ _), fun some => ⟨?_, ?_⟩,
    fun some => ?_, fun none => ⟨?_, ?_⟩⟩
  · exact if_neg some
  · exact (congrArg (s.link.ide.insecure && ·) (decide_eq_false some)).trans (Bool.and_false _)
  · exact if_neg some
  · exact if_pos none
  · exact (congrArg (s.link.ide.insecure && ·) (decide_eq_true none)).trans (Bool.and_true _)

theorem ideKm_refused (rx tx : List Byte) (refused : s.trust.secured = false ∨ s.cap 5 = false) :
    Completes (.ideKm ⟨fetched, rx⟩ tx) s [.link, .sent, .free] fun t => t.link.ide = s.link.ide := by
  have run := exec_ideKm free rx tx
  unfold ideKeys at run
  rw [if_neg (by rcases refused with h | h <;> simp [h])] at run
  exact ⟨_, run, onlyIn_spdmAnswer 1 s, rfl⟩

theorem exec_kekSet (kek : List Byte) : exec (.kekSet ⟨fetched, kek⟩) s = .next (setKek kek s) :=
  congrArg Host.Outcome.next (doeUnlessBusy_of_free (setKek kek) free)

theorem kekSet_takes (kek : List Byte) (taken : s.takesKek = true) (length : kek.length = 32) :
    Completes (.kekSet ⟨fetched, kek⟩) s (.trust :: reporting) fun t =>
      t.trust = { s.trust with kek := some kek } ∧ t.link.doe.response = some [1, 0, 0, 0] ∧ Reports 0x0D31 srcKeeper t := by
  have run := exec_kekSet free kek
  unfold setKek at run
  rw [if_pos (by rw [taken, length]; decide)] at run
  let held : State := { s with trust := { s.trust with kek := some kek } }
  refine ⟨_, run, ?_, logEvent_trust _ _ _ held, rfl, reports_of (reports_logEvent (s := held) (by decide)) rfl rfl⟩
  exact onlyIn_trans (onlyIn_mono (onlyIn_withTrust _ s) (by decide))
    (onlyIn_trans (onlyIn_mono (onlyIn_logEvent _ _ _ held) (by decide)) (onlyIn_mono (onlyIn_doeAnswer _ _) (by decide)))

theorem kekSet_refused (kek : List Byte) (refused : s.takesKek = false) :
    Completes (.kekSet ⟨fetched, kek⟩) s [.link, .sent] fun t => t.link.doe.response = some [1, 1, 0, 0] := by
  have run := exec_kekSet free kek
  unfold setKek at run
  rw [if_neg (by simp [refused])] at run
  exact ⟨_, run, onlyIn_doeAnswer _ s, rfl⟩

theorem getMeasurements_answers (indices : List Byte) : Completes (.getMeasurements ⟨fetched, indices⟩) s [.link, .sent] fun t =>
    t.link.doe.response = some (measurements indices s) ∧ t.sent = .doe (measurements indices s) :: s.sent :=
  ⟨_, congrArg Host.Outcome.next (doeUnlessBusy_of_free (fun s => doeAnswer (measurements indices s) s) free), onlyIn_doeAnswer _ s, rfl, rfl⟩

end

/-! ## The statement -/

/-- Settles O44: one lemma for each error of the link, and for each command of the DOE mailbox with its response read and unread. -/
theorem linkErrorsAndDoeAnswer : Obligations.LinkErrorsAndDoeAnswer := by
  unfold Obligations.LinkErrorsAndDoeAnswer
  intro fn off i bs rx tx kek indices fetched s
  refine ⟨fun hears => ⟨unexpectedCompletion_reports hears, poisonedWrite_reports hears fn off, failedEcrc_reports hears fn off,
      badSize_unsupported hears fn off⟩, fun deaf => ⟨?_, ?_⟩, ideFailure_takes_none, doeRequest_busy i,
    fun free => ⟨discovery_answers free i, openSession_secures free bs, endSession_releases free⟩, ?_, fun unread => ?_,
    fun free => ⟨ideKm_keys free rx tx, ideKm_refused free rx tx, kekSet_takes free kek, kekSet_refused free kek,
      getMeasurements_answers free indices⟩⟩
  · exact congrArg Host.Outcome.next (if_neg (by simp [deaf]))
  · exact congrArg Host.Outcome.next (if_pos (by simp [deaf]))
  · exact ⟨_, rfl, onlyIn_withLink _ s, rfl⟩
  · simp only [List.forall_mem_cons]
    exact ⟨doeBusy_completes (act := ideKeys rx tx) rfl unread, doeBusy_completes (act := setKek kek) rfl unread,
      doeBusy_completes (act := fun s => doeAnswer (measurements indices s) s) rfl unread, List.forall_mem_nil _⟩

end Sys2Proof.Machine

/-! PROOFS. Configuration space (R186, R187, R191 to R195): what a read gives, the chain of the extended structures, and the writes that move a setting. -/

namespace Sys2Proof.Machine

/-! ## Functions of the link -/

@[simp] theorem func_setFunc (l : LinkUnit) (pf1 : Bool) (f : Function) : (l.setFunc pf1 f).func pf1 = f := by cases pf1 <;> rfl

@[simp] theorem func_setFunc_other (l : LinkUnit) (pf1 : Bool) (f : Function) : (l.setFunc pf1 f).func (!pf1) = l.func (!pf1) := by
  cases pf1 <;> rfl

theorem onlyIn_setConfig (pf1 : Bool) (g : ConfigRegs → ConfigRegs) (s : State) : onlyIn [.link] s (setConfig pf1 g s) := onlyIn_withLink _ s

@[simp] theorem setConfig_func (pf1 : Bool) (g : ConfigRegs → ConfigRegs) (s : State) :
    (setConfig pf1 g s).link.func pf1 = { s.link.func pf1 with config := g (s.link.func pf1).config } := func_setFunc _ _ _

@[simp] theorem setConfig_func_other (pf1 : Bool) (g : ConfigRegs → ConfigRegs) (s : State) :
    (setConfig pf1 g s).link.func (!pf1) = s.link.func (!pf1) := func_setFunc_other _ _ _

theorem setConfig_sensed (pf1 : Bool) (g : ConfigRegs → ConfigRegs) {s : State} (sensed : s.fuse.sensed = true) :
    (setConfig pf1 g s).fuse.sensed = true := sensed

/-- A write of Bus Master Enable by which the function gains nothing to send. -/
theorem busMaster_of_quiet {pf1 on : Bool} {s : State} (quiet : on = false ∨ (s.link.func pf1).bme = true) :
    busMaster pf1 on s = { s with link := s.link.setFunc pf1 { s.link.func pf1 with bme := on } } := by
  refine if_neg ?_
  rcases quiet with off | was
  · simp [off]
  · simp [was]

theorem reportsOnly_renewBsus (s : State) : reportsOnly s (renewBsus s) :=
  reportsOnly_ite (reportsOnly_after (reportsOnly_logEvent _ _ _ _) ⟨rfl, rfl⟩) ⟨rfl, rfl⟩

/-! ## Reads (R186, R187, R193) -/

theorem readConfig_of_unsensed {pf1 : Bool} {off : Nat} {s : State} (unsensed : s.fuse.sensed = false) : readConfig pf1 off s = none :=
  if_pos (by simp [unsensed])

theorem readConfig_of_word {pf1 : Bool} {off w : Nat} {s : State} (sensed : s.fuse.sensed = true) (word : s.configWord pf1 off = some w) :
    readConfig pf1 off s = some w := by
  unfold readConfig
  rw [if_neg (by simp [sensed]), word]

/-! ## The extended structures (Table 8-4, R194) -/

theorem extended_offsets_differ : ∀ e ∈ extendedList, ∀ e2 ∈ extendedList, e2.1 = e.1 → e2 = e := by decide

theorem extended_fields_fit : ∀ e ∈ extendedList, e.2.1 < 2 ^ 16 ∧ e.2.2.1 < 2 ^ 4 := by decide

theorem extended_apart : ∀ e ∈ extendedList, capList.find? (fun c => decide (c.1 = e.1)) = none := by decide

theorem mem_extendedList {pf1 : Bool} {s : State} {e : Nat × Nat × Nat × Bool} (shown : e ∈ s.extended pf1) : e ∈ extendedList :=
  (List.mem_filter.1 shown).1

theorem nextAfter_cases (l : List Nat) (off : Nat) : nextAfter l off = 0 ∨ (nextAfter l off ∈ l ∧ off < nextAfter l off) := by
  unfold nextAfter
  cases found : l.find? fun o => decide (off < o) with
  | none => exact .inl rfl
  | some n => exact .inr ⟨List.mem_of_find?_eq_some found, of_decide_eq_true (List.find?_some (p := fun o => decide (off < o)) found)⟩

/-- The header of a structure that a function shows: its ID, its version, and the offset of the next. -/
theorem capHeader_of_extended {pf1 : Bool} {s : State} {e : Nat × Nat × Nat × Bool} (shown : e ∈ s.extended pf1) :
    s.capHeader pf1 e.1 = some (e.2.1 + 2 ^ 16 * e.2.2.1 + 2 ^ 20 * nextAfter ((s.extended pf1).map (·.1)) e.1) := by
  have found : (s.extended pf1).find? (fun e2 => decide (e2.1 = e.1)) = some e := by
    cases first : (s.extended pf1).find? fun e2 => decide (e2.1 = e.1) with
    | none => exact absurd (decide_eq_true rfl) (List.find?_eq_none.1 first e shown)
    | some e2 =>
      have same : e2.1 = e.1 := of_decide_eq_true (List.find?_some (p := fun e2 : Nat × Nat × Nat × Bool => decide (e2.1 = e.1)) first)
      rw [extended_offsets_differ e (mem_extendedList shown) e2 (mem_extendedList (List.mem_of_find?_eq_some first)) same]
  simp only [State.capHeader, extended_apart e (mem_extendedList shown), found, Option.map_some]

/-- No register but the header lies at the offset of an extended structure. -/
theorem configWord_of_extended (pf1 : Bool) (s : State) : ∀ e ∈ extendedList, s.configWord pf1 e.1 = s.capHeader pf1 e.1 := by
  simp only [extendedList, List.forall_mem_cons]
  exact ⟨rfl, rfl, rfl, rfl, rfl, rfl, rfl, rfl, rfl, rfl, rfl, rfl, rfl, nofun⟩

theorem extended_chain {pf1 : Bool} {s : State} (sensed : s.fuse.sensed = true) {e : Nat × Nat × Nat × Bool} (shown : e ∈ s.extended pf1) :
    ∃ w, readConfig pf1 e.1 s = some w ∧ w % 2 ^ 16 = e.2.1 ∧
      (w / 2 ^ 20 = 0 ∨ ∃ e2 ∈ s.extended pf1, w / 2 ^ 20 = e2.1 ∧ e.1 < e2.1) := by
  obtain ⟨id, version⟩ := extended_fields_fit e (mem_extendedList shown)
  refine ⟨_, readConfig_of_word sensed ((configWord_of_extended pf1 s e (mem_extendedList shown)).trans (capHeader_of_extended shown)),
    by omega, ?_⟩
  have next : (e.2.1 + 2 ^ 16 * e.2.2.1 + 2 ^ 20 * nextAfter ((s.extended pf1).map (·.1)) e.1) / 2 ^ 20 =
    nextAfter ((s.extended pf1).map (·.1)) e.1 := by omega
  rw [next]
  rcases nextAfter_cases ((s.extended pf1).map (·.1)) e.1 with last | ⟨listed, later⟩
  · exact .inl last
  · obtain ⟨e2, shown2, offset⟩ := List.mem_map.1 listed
    exact .inr ⟨e2, shown2, offset.symm, offset ▸ later⟩

theorem extended_pf1 (s : State) : s.extended true = [(0x100, 0x01, 2, true), (0x148, 0x03, 1, true)] := by
  unfold State.extended
  cases s.cap 5 <;> rfl

theorem extended_without_ide {s : State} (left : s.cap 5 = false) : ∀ e ∈ s.extended false, e.1 ≠ 0x300 := by
  intro e shown
  have passes := (List.mem_filter.1 shown).2
  simpa [left] using passes

/-! ## Beyond the structures of PF1 -/

theorem capHeader_pf1_beyond {off : Nat} (s : State) (low : 0x158 ≤ off) : s.capHeader true off = none := by
  have standard : capList.find? (fun c => decide (c.1 = off)) = none := by
    simp only [capList, List.find?_eq_none, List.forall_mem_cons, decide_eq_true_eq]
    exact ⟨by omega, by omega, by omega, nofun⟩
  have beyond : (s.extended true).find? (fun e => decide (e.1 = off)) = none := by
    simp only [extended_pf1, List.find?_eq_none, List.forall_mem_cons, decide_eq_true_eq]
    exact ⟨by omega, by omega, nofun⟩
  simp only [State.capHeader, standard, beyond, Option.map_none]

theorem configWord_pf1_beyond {off : Nat} (s : State) (low : 0x158 ≤ off) : s.configWord true off = none := by
  have header := capHeader_pf1_beyond s low
  unfold State.configWord
  dsimp only
  split
  all_goals first | omega | exact header

theorem inStructure_pf1_beyond {off : Nat} (s : State) (low : 0x158 ≤ off) : s.inStructure true off = false := by
  have hosts : (capList.map (·.1) ++ (s.extended true).map (·.1)).filter (fun o => decide (o ≤ off)) = [0x40, 0x50, 0xB0, 0x100, 0x148] := by
    rw [extended_pf1]
    refine List.filter_eq_self.2 ?_
    simp only [capList, List.map_cons, List.map_nil, List.cons_append, List.nil_append, List.forall_mem_cons, decide_eq_true_eq]
    exact ⟨by omega, by omega, by omega, by omega, by omega, nofun⟩
  unfold State.inStructure
  dsimp only
  rw [hosts]
  exact decide_eq_false (by omega)

theorem readConfig_pf1_beyond {off : Nat} {s : State} (sensed : s.fuse.sensed = true) (low : 0x158 ≤ off) :
    readConfig true off s = some 0 := by
  unfold readConfig
  rw [if_neg (by simp [sensed]), configWord_pf1_beyond s low, inStructure_pf1_beyond s low]
  rfl

/-! ## BARs (Table 8-5) -/

theorem barKept_bar0 (pf1 : Bool) (a : Nat) :
    barKept pf1 0 a = a / (if pf1 then 2 ^ 16 else 2 ^ 18) * (if pf1 then 2 ^ 16 else 2 ^ 18) % 2 ^ 64 := rfl

theorem barKept_bar2 (a : Nat) : barKept false 2 a = a / 2 ^ 36 * 2 ^ 36 % 2 ^ 64 := rfl

/-- What sizing reads of BAR0: its size as a mask, and its type. -/
theorem bar0_sized (pf1 : Bool) (old : Nat) : barWord 0 (barKept pf1 0 (wordOf old false 0xFFFFFFFF)) % 2 ^ 32 =
    2 ^ 32 - (if pf1 = true then 2 ^ 16 else 2 ^ 18) + 4 := by
  rw [barKept_bar0]
  show ((old / 2 ^ 32 * 2 ^ 32 + 0xFFFFFFFF) / _ * _ % 2 ^ 64 + 4) % 2 ^ 32 = _
  cases pf1
  · simp only [Bool.false_eq_true, if_false]
    omega
  · simp only [if_true]
    omega

/-- BAR2 of PF0 is 2^36 bytes, so that its low word keeps its type alone. -/
theorem bar2_low_sized (old : Nat) : barWord 2 (barKept false 2 (wordOf old false 0xFFFFFFFF)) % 2 ^ 32 = 12 := by
  rw [barKept_bar2]
  show ((old / 2 ^ 32 * 2 ^ 32 + 0xFFFFFFFF) / 2 ^ 36 * 2 ^ 36 % 2 ^ 64 + 4 + 8) % 2 ^ 32 = 12
  omega

theorem bar2_high_sized (old : Nat) : barKept false 2 (wordOf old true 0xFFFFFFFF) / 2 ^ 32 = 2 ^ 32 - 16 := by
  rw [barKept_bar2]
  show (old % 2 ^ 32 + 2 ^ 32 * 0xFFFFFFFF) / 2 ^ 36 * 2 ^ 36 % 2 ^ 64 / 2 ^ 32 = _
  omega

theorem configWord_bar2_low (s : State) : s.configWord false 0x18 = some (barWord 2 (s.link.func false).config.bar2 % 2 ^ 32) := by
  show some (if false = true then 0 else _) = _
  rw [if_neg (by decide)]

theorem configWord_bar2_high (s : State) : s.configWord false 0x1C = some ((s.link.func false).config.bar2 / 2 ^ 32) := by
  show some (if false = true then 0 else _) = _
  rw [if_neg (by decide)]

/-! ## Writes -/

section
variable {s : State} (live : s.link.live = true) (sensed : s.fuse.sensed = true)

theorem exec_config (pf1 : Bool) (off : Nat) {v : U64} {w : Nat} (value : v.toNat % 2 ^ 32 = w) (s : State) :
    exec (.registerWrite (if pf1 = true then .pf1 else .pf0) .pf0 off .config v) s = .next (writeConfig pf1 off w s) := by
  subst value
  cases pf1 <;> rfl

include live sensed

/-- A configuration write is taken where the link carries it and the functions are ready. -/
theorem config_taken : ¬ (!s.link.live || !s.fuse.sensed) = true := by simp [live, sensed]

theorem config_bar0 (pf1 : Bool) :
    Completes (.registerWrite (if pf1 = true then .pf1 else .pf0) .pf0 0x10 .config 0xFFFFFFFF) s [.link] fun t =>
      readConfig pf1 0x10 t = some (2 ^ 32 - (if pf1 = true then 2 ^ 16 else 2 ^ 18) + 4) := by
  refine ⟨setConfig pf1 (fun c => { c with bar0 := barKept pf1 0 (wordOf c.bar0 false 0xFFFFFFFF) }) s,
    (exec_config pf1 _ (by decide) s).trans (congrArg Host.Outcome.next (if_neg (config_taken live sensed))), onlyIn_setConfig _ _ s,
    readConfig_of_word (setConfig_sensed _ _ sensed) (congrArg some ?_)⟩
  rw [setConfig_func]
  exact bar0_sized pf1 _

theorem config_bar2_low :
    Completes (.registerWrite .pf0 .pf0 0x18 .config 0xFFFFFFFF) s [.link] fun t => readConfig false 0x18 t = some 12 := by
  refine ⟨setConfig false (fun c => { c with bar2 := barKept false 2 (wordOf c.bar2 false 0xFFFFFFFF) }) s,
    (exec_config false _ (by decide) s).trans (congrArg Host.Outcome.next (if_neg (config_taken live sensed))), onlyIn_setConfig _ _ s,
    readConfig_of_word (setConfig_sensed _ _ sensed) ((configWord_bar2_low _).trans (congrArg some ?_))⟩
  simp only [setConfig_func, bar2_low_sized]

theorem config_bar2_high :
    Completes (.registerWrite .pf0 .pf0 0x1C .config 0xFFFFFFFF) s [.link] fun t => readConfig false 0x1C t = some (2 ^ 32 - 16) := by
  refine ⟨setConfig false (fun c => { c with bar2 := barKept false 2 (wordOf c.bar2 true 0xFFFFFFFF) }) s,
    (exec_config false _ (by decide) s).trans (congrArg Host.Outcome.next (if_neg (config_taken live sensed))), onlyIn_setConfig _ _ s,
    readConfig_of_word (setConfig_sensed _ _ sensed) ((configWord_bar2_high _).trans (congrArg some ?_))⟩
  simp only [setConfig_func, bar2_high_sized]

/-- A write of Command sets Bus Master Enable of its function alone. -/
theorem config_command (pf1 : Bool) (v : U64) (quiet : v.getLsbD 2 = false ∨ (s.link.func pf1).bme = true) :
    Completes (.registerWrite (if pf1 = true then .pf1 else .pf0) .pf0 0x04 .config v) s [.link] fun t =>
      (t.link.func pf1).bme = v.getLsbD 2 ∧ (t.link.func !pf1) = s.link.func !pf1 := by
  have bit : (v.toNat % 2 ^ 32).testBit 2 = v.getLsbD 2 := by
    rw [Nat.testBit_mod_two_pow]
    rfl
  let noted : State := setConfig pf1 (fun c => { c with command := (v.toNat % 2 ^ 32) &&& 0x542 }) s
  have run : writeConfig pf1 0x04 (v.toNat % 2 ^ 32) s =
      { noted with link := noted.link.setFunc pf1 { noted.link.func pf1 with bme := v.getLsbD 2 } } := by
    refine (if_neg (config_taken live sensed)).trans ((congrArg (busMaster pf1 · noted) bit).trans (busMaster_of_quiet ?_))
    rwa [setConfig_func]
  refine ⟨_, (exec_config pf1 _ rfl s).trans (congrArg Host.Outcome.next run),
    onlyIn_trans (onlyIn_setConfig pf1 _ s) (onlyIn_withLink _ noted), ?_, ?_⟩
  · rw [func_setFunc]
  · rw [func_setFunc_other, setConfig_func_other]

/-- The payload size of PF0 governs the port (R198). -/
theorem config_payload {c : Nat} (code : c < 6) :
    Completes (.registerWrite .pf0 .pf0 0x58 .config (BitVec.ofNat 64 (32 * c))) s (.res :: reporting) fun t => t.link.mps = 128 * 2 ^ c := by
  have value : (BitVec.ofNat 64 (32 * c)).toNat % 2 ^ 32 = 32 * c := by
    rw [BitVec.toNat_ofNat]
    omega
  have noReset : (32 * c).testBit 15 = false := Nat.testBit_lt_two_pow (by omega)
  have size : sizeOfCode (32 * c / 32 % 8) = 128 * 2 ^ c := by
    rw [show 32 * c / 32 % 8 = c by omega]
    exact congrArg (128 * 2 ^ ·) (Nat.min_eq_left (by omega))
  let noted : State := setConfig false (fun r => { r with devCtl := 32 * c &&& 0x79FF }) s
  let sized : State := { noted with link := { noted.link with mps := 128 * 2 ^ c } }
  have run : writeConfig false 0x58 (32 * c) s = renewBsus sized := by
    refine (if_neg (config_taken live sensed)).trans ?_
    show writeDevCtl false (32 * c % 2 ^ 16) s = _
    rw [Nat.mod_eq_of_lt (by omega)]
    unfold writeDevCtl
    simp only [noReset, size, Bool.false_eq_true, if_false]
    rfl
  refine ⟨_, (exec_config false _ value s).trans (congrArg Host.Outcome.next run), ?_, congrArg (·.mps) (reportsOnly_renewBsus sized).2⟩
  exact onlyIn_trans (onlyIn_mono (onlyIn_setConfig _ _ s) (by decide))
    (onlyIn_trans (onlyIn_mono (onlyIn_withLink _ noted) (by decide)) (onlyIn_renewBsus sized))

theorem config_severity (pf1 : Bool) (v : U64) :
    Completes (.registerWrite (if pf1 = true then .pf1 else .pf0) .pf0 0x10C .config v) s [.link] fun t =>
      (t.link.aer pf1).severity = v.toNat % 2 ^ 32 := by
  refine ⟨{ s with link := s.link.setAer pf1 { s.link.aer pf1 with severity := v.toNat % 2 ^ 32 } },
    (exec_config pf1 _ rfl s).trans (congrArg Host.Outcome.next (if_neg (config_taken live sensed))), onlyIn_withLink _ s, ?_⟩
  exact congrArg Aer.severity (aer_setAer _ _ _)

/-- PMCSR takes PF1 into D3hot (R196). -/
theorem config_d3hot : Completes (.registerWrite .pf1 .pf0 0x44 .config 3) s [.link] fun t =>
    t.link.pf1.d3hot = true ∧ t.link.pf1.bme = s.link.pf1.bme ∧ t.link.pf0 = s.link.pf0 := by
  let noted : State := setConfig true (fun c => { c with pmeEnable := false }) s
  have run : writeConfig true 0x44 3 s = { noted with link := noted.link.setFunc true { noted.link.func true with d3hot := true } } :=
    if_neg (config_taken live sensed)
  exact ⟨_, congrArg Host.Outcome.next run, onlyIn_trans (onlyIn_setConfig _ _ s) (onlyIn_withLink _ _), rfl, rfl, rfl⟩

/-- The enable of L1 in the second function opens L1, and an LTR message tells of it (R191, R192). -/
theorem config_l1 (permit : s.link.l1Permit = true) (other : s.link.pf1.config.linkCtl = 2) (clear : s.link.pf0.config.linkCtl = 0) :
    Completes (.registerWrite .pf0 .pf0 0x60 .config 2) s [.link, .sent] fun t =>
      t.link.l1Open = true ∧ t.sent = .ltr s.link.ltr :: s.sent := by
  let noted : State := setConfig false (fun c => { c with linkCtl := 2 &&& 0xCA }) s
  have before : s.link.l1Open = false := by simp [LinkUnit.l1Open, clear]
  have after : noted.link.l1Open = true := by
    show (s.link.l1Permit && (2 &&& 0xCA : Nat).testBit 1 && s.link.pf1.config.linkCtl.testBit 1) = true
    rw [permit, other]
    decide
  have opens : noted.link.l1Open ≠ s.link.l1Open := fun same => Bool.noConfusion (after.symm.trans (same.trans before))
  have run : writeConfig false 0x60 2 s = noted.send (.ltr s.link.ltr) :=
    (if_neg (config_taken live sensed)).trans (if_neg opens)
  exact ⟨_, congrArg Host.Outcome.next run,
    onlyIn_trans (onlyIn_mono (onlyIn_setConfig _ _ s) (by decide)) (onlyIn_mono (onlyIn_send _ _) (by decide)), after, rfl⟩

end

/-! ## The statement -/

/-- Settles O43: the registers with fixed contents, the chain of the extended structures, and one lemma for each register that a write moves. -/
theorem configurationSpaceAnswers : Obligations.ConfigurationSpaceAnswers := by
  unfold Obligations.ConfigurationSpaceAnswers
  intro pf1 off v s
  refine ⟨readConfig_of_unsensed, fun sensed => ⟨readConfig_of_word sensed rfl, readConfig_of_word sensed rfl, ?_,
    fun e shown => extended_chain sensed shown, by rw [extended_pf1]; rfl, extended_without_ide,
    fun o low _ => readConfig_pf1_beyond sensed low, fun live => ⟨config_bar0 live sensed pf1, config_bar2_low live sensed,
      config_bar2_high live sensed, fun clear => ?_, fun set was => ?_, fun c code => config_payload live sensed code,
      config_severity live sensed pf1 v, config_d3hot live sensed, config_l1 live sensed⟩⟩⟩
  · simp only [List.forall_mem_cons]
    exact ⟨readConfig_of_word sensed rfl, readConfig_of_word sensed rfl, readConfig_of_word sensed rfl, nofun⟩
  · simpa only [clear] using config_command live sensed pf1 v (.inl clear)
  · simpa only [set] using config_command live sensed pf1 v (.inr was)

end Sys2Proof.Machine

/-! PROOFS. The viewing rings (R198, R238, R243, R244, R247): STREAM_START and STREAM_STOP, a write of POSTED, the delivery of a frame, descriptor reads that
time out, and LUT_LOAD. -/

namespace Sys2Proof.Machine

theorem onlyIn_withView (v : ViewUnit) (s : State) : onlyIn [.view] s { s with view := v } := by
  intro p hp; cases p <;> simp [Part.same] at hp ⊢

theorem onlyIn_setRing (i : Nat) (v : ViewRing) (s : State) : onlyIn [.view] s (s.setRing i v) := onlyIn_withView _ s

/-! ## STREAM_START and STREAM_STOP (R243, R244) -/

section
variable {r : Req} {ring : Byte} {i : Nat} {s : State} (known : ringIndex ring.toNat = some i) (len : r.len = 4)

/-- A response to a request that changed one ring. -/
theorem ring_answers {c : Instr} {o : Opcode} {v : ViewRing} {final : Bool} {st : Status} {n : Nat} {b : List Byte} (h : Waiting o r s)
    (run : exec c s = .next (respond (reqOf o r s) final st n b ((takeUp r s).setRing i v))) :
    Completes c s [.time, .mbox, .view] fun t => t.view = (s.setRing i v).view ∧ Answered o r final st n b s t :=
  ⟨_, run, onlyIn_trans (onlyIn_mono (onlyIn_takeUp r s) (by decide)) (onlyIn_trans (onlyIn_mono (onlyIn_setRing i v _) (by decide))
    (onlyIn_mono (onlyIn_respond _ _ _ _ _ _) (by decide))), respond_view _ _ _ _ _ _, respond_answers h fun _ => rfl⟩

include known len

theorem streamStart_runs (h : Waiting .streamStart r s) :
    exec (.streamStart r ring) s = .next (streamStartAct i (reqOf .streamStart r s) (takeUp r s)) := by
  have run := command_exec (c := .streamStart r ring) rfl h (fixed_passes len h.reserved (by rw [known]; rfl) rfl h.free)
  rwa [known] at run

theorem streamStop_runs (h : Waiting .streamStop r s) :
    exec (.streamStop r ring) s = .next (streamStopAct i (reqOf .streamStop r s) (takeUp r s)) := by
  have run := command_exec (c := .streamStop r ring) rfl h (fixed_passes len h.reserved (by rw [known]; rfl) rfl h.free)
  rwa [known] at run

theorem streamStart_unsound (h : Waiting .streamStart r s) (unsound : (s.view.ring i).sound = false) :
    Completes (.streamStart r ring) s [.time, .mbox] fun t => Answered .streamStart r true .badParam 0 [] s t :=
  completes_answer h ((streamStart_runs known len h).trans (congrArg Host.Outcome.next (if_pos (congrArg (! ·) unsound))))

section
variable (sound : (s.view.ring i).sound = true)
include sound

theorem streamStart_of_sound (h : Waiting .streamStart r s) : exec (.streamStart r ring) s = .next
    (if !(s.viewFits i) then respond (reqOf .streamStart r s) true .noResource 0 [] (takeUp r s)
    else respond (reqOf .streamStart r s) true .ok s.nextFrame (leBytes 8 s.nextFrame) ((takeUp r s).setRing i
      { (if (s.view.ring i).state = .stopped then { (s.view.ring i) with state := .armed, reason := 0, timeoutRun := 0 } else s.view.ring i)
        with change := none })) :=
  (streamStart_runs known len h).trans (congrArg Host.Outcome.next (if_neg (by show ¬ (!(s.view.ring i).sound) = true; simp [sound])))

theorem streamStart_overloads (h : Waiting .streamStart r s) (heavy : s.viewFits i = false) :
    Completes (.streamStart r ring) s [.time, .mbox] fun t => Answered .streamStart r true .noResource 0 [] s t :=
  completes_answer h ((streamStart_of_sound known len sound h).trans (congrArg Host.Outcome.next (if_pos (congrArg (! ·) heavy))))

/-- A ring that is stopped is armed; a ring that is started keeps its state, and a STOP that waits is cancelled. -/
theorem streamStart_arms (h : Waiting .streamStart r s) (fits : s.viewFits i = true) :
    Completes (.streamStart r ring) s [.time, .mbox, .view] fun t =>
      ((s.view.ring i).state = .stopped →
        t.view = (s.setRing i { s.view.ring i with state := .armed, reason := 0, timeoutRun := 0, change := none }).view) ∧
      ((s.view.ring i).state ≠ .stopped → t.view = (s.setRing i { s.view.ring i with change := none }).view) ∧
      Answered .streamStart r true .ok s.nextFrame (leBytes 8 s.nextFrame) s t := by
  have run := streamStart_of_sound known len sound h
  rw [if_neg (by simp [fits])] at run
  obtain ⟨t, run, parts, view, answered⟩ := ring_answers h run
  refine ⟨t, run, parts, fun stopped => ?_, fun started => ?_, answered⟩
  · rw [view, if_pos stopped]
  · rw [view, if_neg started]

end

theorem streamStop_stops (h : Waiting .streamStop r s) (started : (s.view.ring i).state ≠ .stopped) :
    Completes (.streamStop r ring) s [.time, .mbox, .view] fun t =>
      t.view = (s.setRing i (if s.hasBoundaries then { s.view.ring i with change := some false }
        else { s.view.ring i with state := .stopped, reason := 1, change := none, timeoutRun := 0 })).view := by
  obtain ⟨t, run, parts, view, -⟩ := ring_answers h (streamStop_runs known len h)
  exact ⟨t, run, parts, view.trans (congrArg (fun v => (s.setRing i v).view) (if_neg started))⟩

end

/-! ## POSTED (R244) -/

section
variable {ring : Byte} {i : Nat} {p : U32} {s : State} (known : ringIndex ring.toNat = some i) (takes : s.link.takes true = true)
include known takes

theorem posted_runs : exec (.posted ring p) s = .next (writePosted i p s) := by
  show execPosted ring p s = _
  unfold execPosted viaBar0
  rw [known]
  exact congrArg Host.Outcome.next (if_pos takes)

theorem posted_advances (ahead : (p - (s.view.ring i).produced).toNat ≤ (s.view.ring i).descEntries.toNat)
    (onward : ((s.view.ring i).posted - (s.view.ring i).produced).toNat ≤ (p - (s.view.ring i).produced).toNat) :
    Completes (.posted ring p) s [.view] fun t => t.view = (s.setRing i { s.view.ring i with posted := p }).view :=
  ⟨_, (posted_runs known takes).trans (congrArg Host.Outcome.next (if_neg (by omega))), onlyIn_setRing i _ s, rfl⟩

theorem posted_stops (outside : (s.view.ring i).descEntries.toNat < (p - (s.view.ring i).produced).toNat ∨
      (p - (s.view.ring i).produced).toNat < ((s.view.ring i).posted - (s.view.ring i).produced).toNat) :
    Completes (.posted ring p) s (.view :: reporting) fun t =>
      t.view = (s.setRing i { s.view.ring i with posted := p, state := .stopped, reason := 4, change := none, timeoutRun := 0 }).view ∧
      Reports 0x0705 srcHost t :=
  ⟨_, (posted_runs known takes).trans (congrArg Host.Outcome.next (if_pos outside)),
    onlyIn_trans (onlyIn_mono (onlyIn_setRing i _ s) (by decide)) (onlyIn_mono (onlyIn_logEvent _ _ _ _) (by decide)),
    logEvent_view _ _ _ _, reports_logEvent (by decide)⟩

end

/-! ## Delivery (R247) -/

/-- A vector fires where an update left what opens it as it was. -/
theorem fires_of_open {f : Bool} {n : Nat} {s u : State} (same : u.link.vectorOpen f n = s.link.vectorOpen f n) : Fires f n s (fire f n u) := by
  have fires := fires_fire (f := f) (n := n) (s := u) rfl
  unfold Fires at *
  rwa [same] at fires

/-- A ring after a descriptor that completes with a status. -/
def ViewRing.completed (v : ViewRing) (n status : Nat) : ViewRing :=
  let w := { v with produced := v.produced + 1, taken := n, timeoutRun := 0 }
  if status = 0 then { w with delivered := bump32 v.delivered 1, lastFrame := n } else w

/-- A descriptor that completes: its bytes go to the buffer, the ring counts it, and the vector of the ring fires. -/
theorem completeDescriptor_facts (i n address : Nat) (bytes : List Byte) (status : Nat) (s : State) :
    onlyIn [.view, .sent, .link] s (completeDescriptor i n address bytes status s) ∧
    (completeDescriptor i n address bytes status s).view = (s.setRing i ((s.view.ring i).completed n status)).view ∧
    Out.picture (ringNumber i) address bytes ∈ (completeDescriptor i n address bytes status s).sent ∧
    Fires true (1 + i) s (completeDescriptor i n address bytes status s) := by
  unfold completeDescriptor
  extract_lets v tail sent w
  have parts : onlyIn [.view, .sent] s (sent.setRing i ((s.view.ring i).completed n status)) :=
    onlyIn_trans (onlyIn_mono (onlyIn_send _ s) (by decide)) (onlyIn_trans (onlyIn_mono (onlyIn_send _ _) (by decide))
      (onlyIn_trans (onlyIn_mono (onlyIn_send _ _) (by decide)) (onlyIn_mono (onlyIn_setRing i _ _) (by decide))))
  refine ⟨onlyIn_trans (onlyIn_mono parts (by decide)) (onlyIn_mono (onlyIn_fire true (1 + i) _) (by decide)), fire1_view _ _, ?_,
    fires_fire rfl⟩
  obtain ⟨more, sends⟩ := fire_sent true (1 + i) (sent.setRing i ((s.view.ring i).completed n status))
  show _ ∈ (fire true (1 + i) (sent.setRing i ((s.view.ring i).completed n status))).sent
  rw [sends]
  exact List.mem_append_right _ (.tail _ (.tail _ (.head _)))

section
variable {ring : Byte} {i : Nat} {f : Frame} {x : RingSet} {q : Option Pairing} {s : State} (known : ringIndex ring.toNat = some i)
  (due : s.dueFrame i = some (f, x, q))
include known due

section
variable (buf : U64) (size : U32) (overflow : Bool) (secure : s.link.ide.insecure = false)
include secure

theorem viewFrameDelivery_runs : exec (.viewFrameDelivery ring buf size overflow) s = .next
    (if !(s.link.mayWrite true) || s.link.narrowed || decide ((s.view.ring i).posted = (s.view.ring i).produced)
    then s.setRing i ((s.view.ring i).skip f.gov.n)
    else if size.toNat < x.bufferBytes i then completeDescriptor i f.gov.n buf.toNat (s.view.delivers i x f q).1 1 s
    else if overflow
      then s.setRing i { s.view.ring i with abandoned := bump32 (s.view.ring i).abandoned 1, taken := f.gov.n, timeoutRun := 0 }
      else completeDescriptor i f.gov.n buf.toNat ((s.view.delivers i x f q).1 ++ (s.view.delivers i x f q).2) 0 s) := by
  show execViewFrameDelivery ring buf size overflow s = _
  unfold execViewFrameDelivery
  rw [known]
  dsimp only
  unfold deliver
  rw [if_neg (by simp [secure]), due]

/-- A frame that finds the link narrowed, or no descriptor posted, is skipped. -/
theorem frame_skipped (pause : s.link.narrowed = true ∨ (s.view.ring i).posted = (s.view.ring i).produced) :
    Completes (.viewFrameDelivery ring buf size overflow) s [.view] fun t =>
      t.view = (s.setRing i { s.view.ring i with skipped := bump32 (s.view.ring i).skipped 1, taken := f.gov.n }).view := by
  have run := viewFrameDelivery_runs known due buf size overflow secure
  rw [if_pos (by rcases pause with h | h <;> simp [h])] at run
  exact ⟨_, run, onlyIn_setRing i _ s, rfl⟩

variable (writes : s.link.mayWrite true = true) (wide : s.link.narrowed = false) (posted : (s.view.ring i).posted ≠ (s.view.ring i).produced)
include writes wide posted

theorem viewFrameDelivery_of_posted : exec (.viewFrameDelivery ring buf size overflow) s = .next
    (if size.toNat < x.bufferBytes i then completeDescriptor i f.gov.n buf.toNat (s.view.delivers i x f q).1 1 s
    else if overflow
      then s.setRing i { s.view.ring i with abandoned := bump32 (s.view.ring i).abandoned 1, taken := f.gov.n, timeoutRun := 0 }
      else completeDescriptor i f.gov.n buf.toNat ((s.view.delivers i x f q).1 ++ (s.view.delivers i x f q).2) 0 s) := by
  rw [viewFrameDelivery_runs known due buf size overflow secure, if_neg (by simp [writes, wide, posted])]

omit overflow

theorem frame_delivered (fits : x.bufferBytes i ≤ size.toNat) :
    Completes (.viewFrameDelivery ring buf size false) s [.view, .sent, .link] fun t =>
      t.view = (s.setRing i { s.view.ring i with
        produced := (s.view.ring i).produced + 1, taken := f.gov.n, timeoutRun := 0, delivered := bump32 (s.view.ring i).delivered 1,
        lastFrame := f.gov.n }).view ∧
      Out.picture (ringNumber i) buf.toNat ((s.view.delivers i x f q).1 ++ (s.view.delivers i x f q).2) ∈ t.sent ∧ Fires true (1 + i) s t := by
  have run := viewFrameDelivery_of_posted known due buf size false secure writes wide posted
  rw [if_neg (by omega), if_neg (by decide)] at run
  obtain ⟨parts, view, sent, fires⟩ :=
    completeDescriptor_facts i f.gov.n buf.toNat ((s.view.delivers i x f q).1 ++ (s.view.delivers i x f q).2) 0 s
  exact ⟨_, run, parts, view, sent, fires⟩

theorem frame_abandoned (fits : x.bufferBytes i ≤ size.toNat) :
    Completes (.viewFrameDelivery ring buf size true) s [.view] fun t =>
      t.view = (s.setRing i { s.view.ring i with
        abandoned := bump32 (s.view.ring i).abandoned 1, taken := f.gov.n, timeoutRun := 0 }).view := by
  have run := viewFrameDelivery_of_posted known due buf size true secure writes wide posted
  rw [if_neg (by omega), if_pos rfl] at run
  exact ⟨_, run, onlyIn_setRing i _ s, rfl⟩

theorem frame_header_only (small : size.toNat < x.bufferBytes i) :
    Completes (.viewFrameDelivery ring buf size false) s [.view, .sent, .link] fun t =>
      t.view = (s.setRing i { s.view.ring i with produced := (s.view.ring i).produced + 1, taken := f.gov.n, timeoutRun := 0 }).view ∧
      Out.picture (ringNumber i) buf.toNat (s.view.delivers i x f q).1 ∈ t.sent := by
  have run := viewFrameDelivery_of_posted known due buf size false secure writes wide posted
  rw [if_pos small] at run
  obtain ⟨parts, view, sent, -⟩ := completeDescriptor_facts i f.gov.n buf.toNat (s.view.delivers i x f q).1 1 s
  exact ⟨_, run, parts, view, sent⟩

end

/-! ## Descriptor reads that time out (R198, R247) -/

omit due in
/-- The two commands for a read that times out on a ring. -/
theorem timeouts_run {c : Instr} (timeout : c = .descriptorReadTimeout ring ∨ c = .completionTimeout .pf1 (some ring)) :
    exec c s = .next (ringTimeout i s) := by
  rcases timeout with rfl | rfl
  · show execDescriptorReadTimeout ring s = _
    unfold execDescriptorReadTimeout
    rw [known]
  · show execCompletionTimeout .pf1 (some ring) s = _
    unfold execCompletionTimeout
    rw [Option.bind_some, known]
    exact congrArg Host.Outcome.next (if_pos rfl)

/-- The ring after a read that timed out. -/
def ViewRing.timedOut (v : ViewRing) (n : Nat) : ViewRing := { v.skip n with timeouts := bump32 v.timeouts 1, timeoutRun := v.timeoutRun + 1 }

/-- The ring after the eighth in a row. -/
def ViewRing.gaveUp (v : ViewRing) (n : Nat) : ViewRing := { v.timedOut n with state := .stopped, reason := 2, change := none, timeoutRun := 0 }

omit known in
theorem ringTimeout_of_due (writes : s.link.mayWrite true = true) (posted : (s.view.ring i).posted ≠ (s.view.ring i).produced) :
    ringTimeout i s = if (s.view.ring i).timeoutRun + 1 < 8
      then (s.errorLogged true 14 0x0505 1).setRing i ((s.view.ring i).timedOut f.gov.n)
      else fire1 (1 + i) (logEvent 0x0701 (256 * (44 + i)) (ringNumber i)
        ((s.errorLogged true 14 0x0505 1).setRing i ((s.view.ring i).gaveUp f.gov.n))) := by
  unfold ringTimeout
  rw [due]
  exact if_neg (by simp [writes, posted])

theorem timeout_skips {c : Instr} (timeout : c = .descriptorReadTimeout ring ∨ c = .completionTimeout .pf1 (some ring))
    (writes : s.link.mayWrite true = true) (posted : (s.view.ring i).posted ≠ (s.view.ring i).produced)
    (few : (s.view.ring i).timeoutRun < 7) :
    Completes c s (.view :: reporting) fun t => t.view = (s.setRing i ((s.view.ring i).timedOut f.gov.n)).view ∧
      Reports 0x0505 srcHost t ∧ t.link.aer1.status.testBit 14 = true := by
  have run := (timeouts_run known timeout).trans (congrArg Host.Outcome.next (ringTimeout_of_due due writes posted))
  rw [if_pos (by omega)] at run
  have noted := onlyIn_errorLogged true 14 0x0505 1 s
  refine ⟨_, run, onlyIn_trans (onlyIn_mono noted (by decide)) (onlyIn_mono (onlyIn_setRing i _ _) (by decide)), ?_,
    reports_of (errorLogged_reports true 14 0x0505 1 s (by decide)) rfl rfl, errorLogged_sets true 14 0x0505 1 s⟩
  exact congrArg (fun v : ViewUnit => { v with rings := v.rings.set i ((s.view.ring i).timedOut f.gov.n) }) (noted .view (by decide))

theorem timeout_stops (writes : s.link.mayWrite true = true) (posted : (s.view.ring i).posted ≠ (s.view.ring i).produced)
    (run8 : 7 ≤ (s.view.ring i).timeoutRun) (place : i < s.view.rings.length) :
    Completes (.descriptorReadTimeout ring) s (.view :: reporting) fun t =>
      (t.view.ring i).state = .stopped ∧ (t.view.ring i).reason = 2 ∧ Fires true (1 + i) s t := by
  have run := (timeouts_run known (.inl rfl)).trans (congrArg Host.Outcome.next (ringTimeout_of_due due writes posted))
  rw [if_neg (by omega)] at run
  let noted := s.errorLogged true 14 0x0505 1
  let stopped := noted.setRing i ((s.view.ring i).gaveUp f.gov.n)
  have parts := onlyIn_errorLogged true 14 0x0505 1 s
  have view : (fire1 (1 + i) (logEvent 0x0701 (256 * (44 + i)) (ringNumber i) stopped)).view.ring i = (s.view.ring i).gaveUp f.gov.n := by
    rw [fire1_view, logEvent_view]
    show (noted.view.rings.set i _).getD i _ = _
    rw [parts .view (by decide)]
    simp [List.getD, place]
  refine ⟨_, run, ?_, by rw [view]; rfl, by rw [view]; rfl, fires_of_open ?_⟩
  · exact onlyIn_trans (onlyIn_mono parts (by decide)) (onlyIn_trans (onlyIn_mono (onlyIn_setRing i _ _) (by decide))
      (onlyIn_trans (onlyIn_mono (onlyIn_logEvent _ _ _ _) (by decide)) (onlyIn_mono (onlyIn_fire true (1 + i) _) (by decide))))
  · have logged : reportsOnly (reportError true 14 s) (logEvent 0x0701 (256 * (44 + i)) (ringNumber i) stopped) :=
      reportsOnly_trans (t := stopped) (reportsOnly_after (t := noted) ⟨rfl, rfl⟩ (reportsOnly_logEvent _ _ _ _)) (reportsOnly_logEvent _ _ _ _)
    rw [vectorOpen_reportsOnly logged, reportError_link]
    rfl

end

/-- A read of PF0 that times out (R198). -/
theorem pf0Timeout_reports {s : State} (writes : s.link.mayWrite false = true) :
    Completes (.completionTimeout .pf0 none) s reporting fun t => Reports 0x0505 srcHost t ∧ t.link.aer0.status.testBit 14 = true :=
  ⟨s.errorLogged false 14 0x0505 0, congrArg Host.Outcome.next (if_pos writes), onlyIn_errorLogged _ _ _ _ s,
    errorLogged_reports _ _ _ _ s (by decide), errorLogged_sets false 14 0x0505 0 s⟩

/-! ## LUT_LOAD (R238) -/

/-- Taking a request discards no channel. -/
theorem takeUp_gens (r : Req) (s : State) (c : Chan) : ((takeUp r s).mbox.get c).gen = (s.mbox.get c).gen := by
  by_cases own : c = r.chan
  · rw [own, takeUp_gen]
  · rw [takeUp_other r s own]

theorem lutLoad_takeUp (r : Req) (kind slot : Nat) (s : State) : (takeUp r s).lutLoad kind slot = s.lutLoad kind slot := by
  unfold State.lutLoad
  simp only [takeUp_gens]
  rfl

/-- The checks of LUT_LOAD. -/
def lutChecks (r : Req) (kind slot flags : Byte) (total : U32) (data : List Byte) (t : State) : Checks :=
  ⟨decide (r.len = 16 + data.length) && decide (data.length ≤ 4080),
    sound r (decide (kind.toNat ≤ 1 ∧ slot.toNat < (if kind = 0 then 8 else 4) ∧ flags.toNat ≤ 1) && decide (total.toNat = lutBytes kind.toNat)
      && !(decide (kind = 1) && decide (t.major r = 2) && decide (t.minor r = 0))), true, []⟩

theorem exec_lutLoad (r : Req) (kind slot flags : Byte) (offset total crc : U32) (data : List Byte) (s : State) :
    exec (.lutLoad r kind slot flags offset total crc data) s = .next (command .lutLoad r (lutChecks r kind slot flags total data)
      (lutLoadAct kind.toNat slot.toNat (flags.getLsbD 0) offset.toNat total.toNat crc.toNat data) s) := rfl

/-- A piece that begins at the end of what came before it joins it, where no setting names the slot and no other channel loads it. -/
theorem lutLoadAct_takes {kind slot offset total crc : Nat} {last : Bool} {data held : List Byte} {id : ReqId} {s : State} (writable : kind ≠ 0)
    (unused : s.lutInUse kind slot = false) (before : ((s.lutLoad kind slot).map (·.bytes)).getD [] = held)
    (own : ((s.lutLoad kind slot).map fun l => decide (l.chan ≠ id.chan)).getD false = false) (begins : offset = held.length)
    (inside : held.length + data.length ≤ total) (whole : last = true → held.length + data.length = total) :
    lutLoadAct kind slot last offset total crc data id s = lutPiece kind slot last crc (held ++ data) id s := by
  have sound : ¬ (offset ≠ held.length ∨ total < held.length + data.length ∨ (last = true ∧ held.length + data.length ≠ total)) := by
    rintro (apart | beyond | ⟨ends, part⟩)
    · exact apart begins
    · omega
    · exact part (whole ends)
  unfold lutLoadAct
  dsimp only
  rw [if_neg (fun first => writable first.1), unused, own, before, if_neg (by decide), if_neg sound]

/-- The last piece of a load, before its CRC is judged. -/
def lutClosed (kind slot : Nat) (id : ReqId) (s : State) : State :=
  accept id [.lutSlot kind slot] 0 { s with view := s.view.dropLoad kind slot }

section
variable {kind slot crc : Nat} {all : List Byte} (id : ReqId) (s : State)

theorem lutPiece_stores (passes : crc = crc32c all) : lutPiece kind slot true crc all id s =
    finish id .ok 0 (leBytes 4 all.length ++ zeros 4)
      { lutClosed kind slot id s with view := (lutClosed kind slot id s).view.storeLut kind slot all } := by
  unfold lutPiece
  exact (if_neg (by decide)).trans (if_pos passes.symm)

theorem lutPiece_refuses (fails : crc ≠ crc32c all) : lutPiece kind slot true crc all id s =
    finish id .badCheck 0 [] (logEvent 0x0703 srcConductor (slot + 256 * kind) (lutClosed kind slot id s)) := by
  unfold lutPiece
  exact (if_neg (by decide)).trans (if_neg (Ne.symm fails))

theorem onlyIn_lutClosed : onlyIn [.mbox, .view] s (lutClosed kind slot id s) :=
  onlyIn_trans (onlyIn_mono (onlyIn_withView _ s) (by decide)) (onlyIn_mono (onlyIn_accept _ _ _ _) (by decide))

theorem lutClosed_view : (lutClosed kind slot id s).view = s.view.dropLoad kind slot := accept_view _ _ _ _

theorem lutClosed_mbox : (lutClosed kind slot id s).mbox = (accept id [.lutSlot kind slot] 0 s).mbox := by
  unfold lutClosed accept respond
  dsimp only
  split <;> rfl

end

section
variable {r : Req} {slot : Byte} {crc : U32} {data : List Byte} {s : State} (h : Waiting .lutLoad r s) (len : r.len = 16 + data.length)
  (short : data.length ≤ 4080) (place : slot.toNat < 4) (version : s.major r ≠ 2) (unused : s.lutInUse 1 slot.toNat = false)
include h len short place version unused

/-- A piece of a 3D LUT, in its turn. -/
theorem lutLoad_takes (flags : Byte) (offset : Nat) (held : List Byte) (flag : flags.toNat ≤ 1)
    (before : ((s.lutLoad 1 slot.toNat).map (·.bytes)).getD [] = held)
    (own : ((s.lutLoad 1 slot.toNat).map fun l => decide (l.chan ≠ r.chan)).getD false = false) (begins : offset = held.length)
    (inside : held.length + data.length ≤ lutBytes 1) (whole : flags.getLsbD 0 = true → held.length + data.length = lutBytes 1) :
    exec (.lutLoad r 1 slot flags (BitVec.ofNat 32 offset) (BitVec.ofNat 32 (lutBytes 1)) crc data) s =
      .next (lutPiece 1 slot.toNat (flags.getLsbD 0) crc.toNat (held ++ data) (reqOf .lutLoad r s) (takeUp r s)) := by
  have size : lutBytes 1 = 215622 := rfl
  have offsetNat : (BitVec.ofNat 32 offset).toNat = held.length := by
    rw [BitVec.toNat_ofNat, begins]
    omega
  have totalNat : (BitVec.ofNat 32 (lutBytes 1)).toNat = lutBytes 1 := rfl
  have major : (takeUp r s).major r = s.major r := by
    unfold State.major
    rw [takeUp_version]
  have passes : (lutChecks r 1 slot flags (BitVec.ofNat 32 (lutBytes 1)) data (takeUp r s)).failing (takeUp r s).mbox = none :=
    failing_none (by simp [lutChecks, len, short]) (by simp [lutChecks, sound, h.reserved, place, flag, totalNat, major, version]) rfl h.free
  rw [← lutLoad_takeUp r] at before own
  exact (command_exec (exec_lutLoad r 1 slot flags _ _ crc data s) h passes).trans (congrArg Host.Outcome.next
    (lutLoadAct_takes (kind := 1) (by decide) unused before own offsetNat inside whole))

/-- The first piece of a load is held, and no slot changes. -/
theorem lutLoad_begins (fresh : s.lutLoad 1 slot.toNat = none) :
    Completes (.lutLoad r 1 slot 0 0 (BitVec.ofNat 32 (lutBytes 1)) crc data) s [.time, .mbox, .view] fun t =>
      Answered .lutLoad r true .ok 0 (leBytes 4 data.length ++ zeros 4) s t ∧ t.view.luts = s.view.luts := by
  have size : lutBytes 1 = 215622 := rfl
  have run := lutLoad_takes (crc := crc) h len short place version unused 0 0 [] (by decide) (by rw [fresh]; rfl) (by rw [fresh]; rfl) rfl
    (by simp only [List.length_nil]; omega) (fun last => absurd last (by decide))
  let dropped := (takeUp r s).view.dropLoad 1 slot.toNat
  let held : State := { takeUp r s with
    view := { dropped with loads := ⟨1, slot.toNat, r.chan, (reqOf .lutLoad r s).gen, data⟩ :: dropped.loads } }
  refine ⟨respond (reqOf .lutLoad r s) true .ok 0 (leBytes 4 data.length ++ zeros 4) held, run, ?_, respond_answers h fun _ => rfl,
    congrArg (·.luts) (respond_view _ _ _ _ _ held)⟩
  exact onlyIn_trans (onlyIn_mono (onlyIn_takeUp r s) (by decide)) (onlyIn_trans (onlyIn_mono (onlyIn_withView _ _) (by decide))
    (onlyIn_mono (onlyIn_respond _ _ _ _ _ held) (by decide)))

section
variable {l : LutLoad} (load : s.lutLoad 1 slot.toNat = some l) (own : l.chan = r.chan)
  (whole : l.bytes.length + data.length = lutBytes 1)
include load own whole

/-- The last piece of a load, which its channel began. -/
theorem lutLoad_last : exec (.lutLoad r 1 slot 1 (BitVec.ofNat 32 l.bytes.length) (BitVec.ofNat 32 (lutBytes 1)) crc data) s =
    .next (lutPiece 1 slot.toNat true crc.toNat (l.bytes ++ data) (reqOf .lutLoad r s) (takeUp r s)) :=
  lutLoad_takes h len short place version unused 1 l.bytes.length l.bytes (by decide) (by rw [load]; rfl) (by rw [load]; simp [own]) rfl
    (Nat.le_of_eq whole) fun _ => whole

theorem lutLoad_stores (passes : crc.toNat = crc32c (l.bytes ++ data)) :
    Completes (.lutLoad r 1 slot 1 (BitVec.ofNat 32 l.bytes.length) (BitVec.ofNat 32 (lutBytes 1)) crc data) s [.time, .mbox, .view] fun t =>
      t.view = (s.view.dropLoad 1 slot.toNat).storeLut 1 slot.toNat (l.bytes ++ data) := by
  have run := (lutLoad_last (crc := crc) h len short place version unused load own whole).trans
    (congrArg Host.Outcome.next (lutPiece_stores _ _ passes))
  refine ⟨_, run, ?_, ?_⟩
  · exact onlyIn_trans (onlyIn_mono (onlyIn_takeUp r s) (by decide)) (onlyIn_trans (onlyIn_mono (onlyIn_lutClosed _ _) (by decide))
      (onlyIn_trans (onlyIn_mono (onlyIn_withView _ _) (by decide)) (onlyIn_mono (onlyIn_finish _ _ _ _ _) (by decide))))
  · exact (finish_view _ _ _ _ _).trans (congrArg (·.storeLut 1 slot.toNat (l.bytes ++ data)) (lutClosed_view _ _))

theorem lutLoad_refused (fails : crc.toNat ≠ crc32c (l.bytes ++ data)) :
    Completes (.lutLoad r 1 slot 1 (BitVec.ofNat 32 l.bytes.length) (BitVec.ofNat 32 (lutBytes 1)) crc data) s (.time :: .view :: reporting)
      fun t => t.view = s.view.dropLoad 1 slot.toNat ∧ Reports 0x0703 srcConductor t ∧ RespondsAccepted .lutLoad r 0 .badCheck 0 [] s t := by
  have run := (lutLoad_last (crc := crc) h len short place version unused load own whole).trans
    (congrArg Host.Outcome.next (lutPiece_refuses _ _ fails))
  let noted := logEvent 0x0703 srcConductor (slot.toNat + 256 * 1) (lutClosed 1 slot.toNat (reqOf .lutLoad r s) (takeUp r s))
  have channels : ∀ c, noted.mbox.get c = (accept (reqOf .lutLoad r s) [.lutSlot 1 slot.toNat] 0 (takeUp r s)).mbox.get c := fun c =>
    (logEvent_mbox_get _ _ _ _ c).trans (by rw [lutClosed_mbox])
  refine ⟨_, run, ?_, ?_, ?_, (accepted_then h channels).1⟩
  · exact onlyIn_trans (onlyIn_mono (onlyIn_takeUp r s) (by decide)) (onlyIn_trans (onlyIn_mono (onlyIn_lutClosed _ _) (by decide))
      (onlyIn_trans (onlyIn_mono (onlyIn_logEvent _ _ _ _) (by decide)) (onlyIn_mono (onlyIn_finish _ _ _ _ _) (by decide))))
  · rw [finish_view, logEvent_view, lutClosed_view]
    rfl
  · exact reports_of (reports_logEvent (by decide)) (finish_log _ _ _ _ _) (finish_time _ _ _ _ _)

end

end

/-! ## The statement -/

/-- Settles O29: one lemma for each command of a ring and each way in which a due frame ends, and one for each piece of a LUT. -/
theorem viewingRingsDeliver : Obligations.ViewingRingsDeliver := by
  unfold Obligations.ViewingRingsDeliver
  intro ring i s known
  refine ⟨fun r h len => ⟨fun sound fits => streamStart_arms known len sound h fits, streamStart_unsound known len h,
      fun sound heavy => streamStart_overloads known len sound h heavy⟩,
    fun r h len started => streamStop_stops known len h started,
    fun p takes => ⟨posted_advances known takes, posted_stops known takes⟩,
    fun buf size f x q secure due => ⟨frame_skipped known due buf size false secure, fun writes wide posted => ⟨fun fits => ⟨?_, ?_⟩, ?_, ?_, ?_⟩⟩,
    pf0Timeout_reports, ?_⟩
  · exact frame_delivered known due buf size secure writes wide posted fits
  · exact frame_abandoned known due buf size secure writes wide posted fits
  · exact frame_header_only known due buf size secure writes wide posted
  · exact fun few => ⟨timeout_skips known due (.inl rfl) writes posted few, timeout_skips known due (.inr rfl) writes posted few⟩
  · exact timeout_stops known due writes posted
  · rintro r kind slot crc data h len short rfl place version unused
    exact ⟨fun l load own whole => ⟨lutLoad_stores h len short place version unused load own whole,
      lutLoad_refused h len short place version unused load own whole⟩, lutLoad_begins h len short place version unused⟩

end Sys2Proof.Machine

/-! PROOFS. What Welt writes once its function may write again (R203, R204, R221), and the vectors that waited (R197). -/

namespace Sys2Proof.Machine

theorem reportsOnly_of_onlyIn {ps : List Part} {s t : State} (h : onlyIn ps s t) (mbox : .mbox ∉ ps) (link : .link ∉ ps) : reportsOnly s t := by
  have sameMbox : t.mbox = s.mbox := h .mbox mbox
  have sameLink : t.link = s.link := h .link link
  unfold reportsOnly
  rw [sameMbox, sameLink]
  exact ⟨rfl, rfl⟩

/-- What a report leaves of a function: everything but its pending bits. -/
theorem func_of_reportsOnly {s t : State} (h : reportsOnly s t) (pf1 : Bool) :
    { t.link.func pf1 with pba := (s.link.func pf1).pba } = s.link.func pf1 := by
  cases pf1
  · exact congrArg (·.pf0) h.2
  · exact congrArg (·.pf1) h.2

/-! ## What Welt writes (R204, R221) -/

/-- What Welt can change as it goes on: the take, the reservoir, and what a report changes. -/
def goesOn (s t : State) : Prop := onlyIn (.take :: .res :: reporting) s t ∧ reportsOnly s t

theorem goesOn_refl (s : State) : goesOn s s := ⟨onlyIn_refl _ s, reportsOnly_refl s⟩

theorem goesOn_trans {s t u : State} (h : goesOn s t) (k : goesOn t u) : goesOn s u := ⟨onlyIn_trans h.1 k.1, reportsOnly_trans h.2 k.2⟩

theorem goesOn_ite {c : Prop} [Decidable c] {s a b : State} (h : goesOn s a) (k : goesOn s b) : goesOn s (if c then a else b) := by
  split
  · exact h
  · exact k

theorem goesOn_of_writes {s t : State} (h : onlyIn [.take, .sent, .res] s t) : goesOn s t :=
  ⟨onlyIn_mono h (by decide), reportsOnly_of_onlyIn h (by decide) (by decide)⟩

theorem goesOn_withTake (t : TakeUnit) (s : State) : goesOn s { s with take := t } := goesOn_of_writes (onlyIn_mono (onlyIn_withTake t s) (by decide))

theorem goesOn_setBay (b : Nat) (x : Session) (s : State) : goesOn s (s.setBay b x) := goesOn_withTake _ s

theorem goesOn_writeDescriptor (b : Nat) (d : Descriptor) (s : State) : goesOn s (writeDescriptor b d s) :=
  goesOn_of_writes (onlyIn_mono (onlyIn_writeDescriptor b d s) (by decide))

theorem goesOn_greet (s : State) : goesOn s (greet s) := goesOn_of_writes (onlyIn_greet s)

theorem goesOn_logEvent (c src d : Nat) (s : State) : goesOn s (logEvent c src d s) :=
  ⟨onlyIn_mono (onlyIn_logEvent c src d s) (by decide), reportsOnly_logEvent c src d s⟩

theorem goesOn_writeOpen (b : Nat) (s : State) : goesOn s (writeOpen b s) :=
  goesOn_ite (goesOn_trans (goesOn_setBay b _ s) (goesOn_writeDescriptor b _ _)) (goesOn_refl s)

theorem goesOn_settleSession (b : Nat) (s : State) : goesOn s (settleSession b s) := by
  refine goesOn_ite ?_ (goesOn_refl s)
  split
  · exact goesOn_ite (goesOn_trans (goesOn_writeDescriptor b _ s) (goesOn_setBay b _ _)) (goesOn_refl s)
  · exact goesOn_ite (goesOn_setBay b _ s) (goesOn_refl s)

theorem goesOn_offerRelay (s : State) : goesOn s (offerRelay s) := by
  unfold offerRelay
  split
  · refine goesOn_ite (goesOn_refl s) ?_
    split
    · exact goesOn_refl s
    · exact goesOn_trans (goesOn_withTake _ s) (goesOn_trans (goesOn_logEvent _ _ _ _) (goesOn_greet _))
  · exact goesOn_refl s

theorem goesOn_settleBoth (s : State) : goesOn s (settleBoth s) :=
  goesOn_trans (goesOn_settleSession 0 s) (goesOn_trans (goesOn_settleSession 1 _) (goesOn_offerRelay _))

theorem goesOn_onCredit (s : State) : goesOn s (onCredit s) :=
  goesOn_trans (goesOn_writeOpen 0 s) (goesOn_trans (goesOn_writeOpen 1 _) (goesOn_trans (goesOn_greet _)
    (goesOn_trans (goesOn_settleBoth _) (goesOn_of_writes (onlyIn_mono (onlyIn_noteBoth _) (by decide))))))

theorem goesOn_resumeWelt (s : State) : goesOn s (resumeWelt s) :=
  goesOn_ite (goesOn_trans (goesOn_ite (goesOn_setBay 0 _ s) (goesOn_refl s))
    (goesOn_trans (goesOn_ite (goesOn_setBay 1 _ _) (goesOn_refl _)) (goesOn_onCredit _))) (goesOn_refl s)

/-- After a change of the link, Welt leaves what no change of mode or power touches, time, the settings, the calibration and the power. -/
theorem kept_of_goesOn {l : LinkUnit} {s t : State} (h : goesOn { s with link := l } t) :
    ∀ p ∈ stored ++ [.time, .settings, .cal, .power], p.same s t :=
  kept_of_onlyIn (onlyIn_trans (onlyIn_mono (onlyIn_withLink l s) (by decide)) h.1) (by decide)

/-! ## Vectors that waited (R197) -/

/-- The vectors that wait and that nothing masks. -/
def LinkUnit.dueVectors (l : LinkUnit) (pf1 : Bool) : List Nat :=
  (List.range 64).filter fun n => decide (n ∈ (l.func pf1).pba) && l.vectorOpen pf1 n

theorem mem_dueVectors {l : LinkUnit} {pf1 : Bool} {n : Nat} :
    n ∈ l.dueVectors pf1 ↔ n < 64 ∧ n ∈ (l.func pf1).pba ∧ l.vectorOpen pf1 n = true := by
  simp [LinkUnit.dueVectors]

/-- A function with other pending bits. -/
def LinkUnit.withPba (l : LinkUnit) (pf1 : Bool) (pba : List Nat) : LinkUnit := l.setFunc pf1 { l.func pf1 with pba := pba }

section
variable (l : LinkUnit) (pf1 : Bool) (pba : List Nat)

@[simp] theorem withPba_func : (l.withPba pf1 pba).func pf1 = { l.func pf1 with pba := pba } := func_setFunc _ _ _

@[simp] theorem withPba_same : l.withPba pf1 (l.func pf1).pba = l := by cases pf1 <;> rfl

@[simp] theorem withPba_withPba (more : List Nat) : (l.withPba pf1 pba).withPba pf1 more = l.withPba pf1 more := by cases pf1 <;> rfl

/-- With no bit to take out, the pending bits stay. -/
theorem withPba_unfiltered : l.withPba pf1 ((l.func pf1).pba.filter fun k => decide (k ∉ ([] : List Nat))) = l := by
  rw [List.filter_eq_self.2 fun _ _ => decide_eq_true List.not_mem_nil, withPba_same]

@[simp] theorem withPba_vectorOpen (n : Nat) : (l.withPba pf1 pba).vectorOpen pf1 n = l.vectorOpen pf1 n := by cases pf1 <;> rfl

end

/-- What sending some vectors does: their pending bits go, and each leaves the module. -/
theorem eachSendPending_facts (pf1 : Bool) (vs : List Nat) (s : State) :
    onlyIn [.link, .sent] s (each vs (sendPending pf1) s) ∧
    (each vs (sendPending pf1) s).link = s.link.withPba pf1 ((s.link.func pf1).pba.filter fun k => decide (k ∉ vs)) ∧
    (∀ n ∈ vs, Out.vector pf1 n ∈ (each vs (sendPending pf1) s).sent) ∧ ∀ o ∈ s.sent, o ∈ (each vs (sendPending pf1) s).sent := by
  induction vs generalizing s with
  | nil => exact ⟨onlyIn_refl _ s, (withPba_unfiltered s.link pf1).symm, nofun, fun _ => id⟩
  | cons v vs ih =>
    obtain ⟨parts, link, sends, keeps⟩ := ih (sendPending pf1 v s)
    have first : (sendPending pf1 v s).link = s.link.withPba pf1 ((s.link.func pf1).pba.filter fun k => decide (k ≠ v)) := rfl
    refine ⟨onlyIn_trans ?_ parts, ?_, ?_, fun o sent => keeps o (.tail _ sent)⟩
    · exact onlyIn_trans (onlyIn_mono (onlyIn_withLink _ s) (by decide)) (onlyIn_mono (onlyIn_send _ _) (by decide))
    · refine link.trans ?_
      rw [first, withPba_func, withPba_withPba, List.filter_filter]
      congr 2
      funext k
      simp [List.mem_cons, Bool.and_comm]
    · intro n sent
      rcases List.mem_cons.1 sent with rfl | later
      · exact keeps _ (.head _)
      · exact sends n later

section
variable (pf1 : Bool) (s : State)

theorem onlyIn_releaseVectors : onlyIn [.link, .sent] s (releaseVectors pf1 s) := (eachSendPending_facts pf1 (s.link.dueVectors pf1) s).1

theorem releaseVectors_link : (releaseVectors pf1 s).link =
    s.link.withPba pf1 ((s.link.func pf1).pba.filter fun k => decide (k ∉ s.link.dueVectors pf1)) :=
  (eachSendPending_facts pf1 (s.link.dueVectors pf1) s).2.1

theorem releaseVectors_sends : ∀ n ∈ s.link.dueVectors pf1, Out.vector pf1 n ∈ (releaseVectors pf1 s).sent :=
  (eachSendPending_facts pf1 (s.link.dueVectors pf1) s).2.2.1

theorem releaseVectors_open (n : Nat) : (releaseVectors pf1 s).link.vectorOpen pf1 n = s.link.vectorOpen pf1 n := by
  rw [releaseVectors_link, withPba_vectorOpen]

/-- No vector that may leave waits any more. -/
theorem releaseVectors_none_waits {n : Nat} (vector : n < 64) (may : (releaseVectors pf1 s).link.vectorOpen pf1 n = true) :
    n ∉ ((releaseVectors pf1 s).link.func pf1).pba := by
  rw [releaseVectors_open] at may
  rw [releaseVectors_link, withPba_func]
  intro waits
  obtain ⟨pending, kept⟩ := List.mem_filter.1 waits
  exact of_decide_eq_true kept (mem_dueVectors.2 ⟨vector, pending, may⟩)

/-- A vector that waits leaves or goes on waiting, as the masks say. -/
theorem releaseVectors_of_pending {n : Nat} (vector : n < 64) (pending : n ∈ (s.link.func pf1).pba) :
    if (releaseVectors pf1 s).link.vectorOpen pf1 n then Out.vector pf1 n ∈ (releaseVectors pf1 s).sent
    else n ∈ ((releaseVectors pf1 s).link.func pf1).pba := by
  rw [releaseVectors_open]
  split
  next may => exact releaseVectors_sends pf1 s n (mem_dueVectors.2 ⟨vector, pending, may⟩)
  next masked =>
    rw [releaseVectors_link, withPba_func]
    exact List.mem_filter.2 ⟨pending, decide_eq_true fun due => masked (mem_dueVectors.1 due).2.2⟩

theorem reportsOnly_releaseVectors : reportsOnly s (releaseVectors pf1 s) := by
  have mbox : (releaseVectors pf1 s).mbox = s.mbox := onlyIn_releaseVectors pf1 s .mbox (by decide)
  refine ⟨by rw [mbox], ?_⟩
  rw [releaseVectors_link]
  cases pf1 <;> rfl

theorem goesOn_releaseVectors : goesOn s (releaseVectors pf1 s) :=
  ⟨onlyIn_mono (onlyIn_releaseVectors pf1 s) (by decide), reportsOnly_releaseVectors pf1 s⟩

theorem goesOn_resume : goesOn s (resume pf1 s) :=
  goesOn_ite (goesOn_releaseVectors pf1 s) (goesOn_trans (goesOn_releaseVectors pf1 s) (goesOn_resumeWelt _))

end

theorem releaseVectors_of_disabled {pf1 : Bool} {s : State} (disabled : (s.link.func pf1).msixEnable = false) :
    (releaseVectors pf1 s).link = s.link := by
  have masked : ∀ n, s.link.vectorOpen pf1 n = false := fun n => by cases pf1 <;> simp_all [LinkUnit.vectorOpen, LinkUnit.func]
  have none : s.link.dueVectors pf1 = [] := by simp [LinkUnit.dueVectors, masked]
  rw [releaseVectors_link, none, withPba_unfiltered]

/-! ## Pending bits that are set -/

theorem mem_pend {f : Function} {n k : Nat} : k ∈ (f.pend n).pba ↔ k = n ∨ k ∈ f.pba := by
  unfold Function.pend
  split
  next held => exact ⟨.inr, fun h => h.elim (fun same => same ▸ held) id⟩
  next => exact List.mem_cons

theorem foldl_pend_keeps (vs : List Nat) (f : Function) : { vs.foldl Function.pend f with pba := f.pba } = f ∧
    ∀ k, k ∈ vs ∨ k ∈ f.pba → k ∈ (vs.foldl Function.pend f).pba := by
  induction vs generalizing f with
  | nil => exact ⟨rfl, fun k h => h.resolve_left nofun⟩
  | cons v vs ih =>
    obtain ⟨same, pending⟩ := ih (f.pend v)
    refine ⟨?_, fun k h => pending k ?_⟩
    · exact (congrArg (fun g : Function => { g with pba := f.pba }) same).trans (pend_pba f v)
    · rcases h with listed | held
      · exact (List.mem_cons.1 listed).elim (fun first => .inr (mem_pend.2 (.inl first))) .inl
      · exact .inr (mem_pend.2 (.inr held))

theorem lt_of_mem_single {c : Prop} [Decidable c] {n k : Nat} (h : n ∈ if c then [k] else []) (small : k < 64) : n < 64 := by
  split at h
  · rwa [List.mem_singleton.1 h]
  · exact absurd h List.not_mem_nil

/-- The sources with unserviced content have vectors of the two tables (Tables 8-7 and 8-8). -/
theorem unserviced_lt {pf1 : Bool} {s : State} {n : Nat} (source : n ∈ s.unserviced pf1) : n < 64 := by
  unfold State.unserviced at source
  cases pf1 with
  | true => exact lt_of_mem_single source (by decide)
  | false =>
    simp only [Bool.false_eq_true, if_false, List.mem_append] at source
    rcases source with ((((((c0 | c2) | ring) | timers) | abus0) | abus1) | hbus) | aux
    · exact lt_of_mem_single c0 (by decide)
    · exact lt_of_mem_single c2 (by decide)
    · exact lt_of_mem_single ring (by decide)
    · obtain ⟨k, timer, rfl⟩ := List.mem_map.1 timers
      have := List.mem_range.1 (List.mem_filter.1 timer).1
      omega
    · exact lt_of_mem_single abus0 (by decide)
    · exact lt_of_mem_single abus1 (by decide)
    · exact lt_of_mem_single hbus (by decide)
    · exact lt_of_mem_single aux (by decide)

end Sys2Proof.Machine

/-! PROOFS. The host link (R187 to R191, R196, R197, R204, R276): resets and losses of the link, its training and its widths, L2, and what holds back and lets
go what a function sends. -/

namespace Sys2Proof.Machine

theorem onlyIn_withRegs (r : RegUnit) (s : State) : onlyIn [.regs] s { s with regs := r } := by
  intro p hp; cases p <;> simp [Part.same] at hp ⊢

theorem onlyIn_stopRings (s : State) : onlyIn [.view] s (stopRings s) := onlyIn_withView _ s

theorem onlyIn_dropBridge (s : State) : onlyIn [.regs] s (dropBridge s) := onlyIn_withRegs _ s

theorem onlyIn_withMboxLink (m : Mailbox) (l : LinkUnit) (s : State) : onlyIn [.mbox, .link] s { s with mbox := m, link := l } :=
  onlyIn_trans (onlyIn_mono (onlyIn_withMbox m s) (by decide)) (onlyIn_mono (onlyIn_withLink l _) (by decide))

theorem reports_renewBsus {c src : Nat} {s : State} (h : Reports c src s) : Reports c src (renewBsus s) :=
  reports_ite (reports_logEvent_kept _ _ _ (reports_of h rfl rfl)) (reports_of h rfl rfl)

/-- Bus Master Enable of a function after a report. -/
theorem logEvent_bme (c src d : Nat) (s : State) (pf1 : Bool) : ((logEvent c src d s).link.func pf1).bme = (s.link.func pf1).bme :=
  congrArg (·.bme) (func_of_reportsOnly (reportsOnly_logEvent c src d s) pf1)

/-! ## Link resets (R204, R276) -/

/-- The state after a loss of the link, before its event. -/
def State.linkLost (s : State) : State :=
  dropBridge (stopRings { s with link := { s.link.resetConfig with state := .down, active := 0 }, mbox := s.mbox.linkReset,
                                 trust := { s.trust with secured := false } })

theorem onlyIn_linkLost (s : State) : onlyIn [.view, .trust, .regs, .mbox, .link] s s.linkLost :=
  onlyIn_trans (onlyIn_mono (onlyIn_withMboxLink s.mbox.linkReset { s.link.resetConfig with state := .down, active := 0 } s) (by decide))
    (onlyIn_trans (onlyIn_mono (onlyIn_withTrust { s.trust with secured := false } _) (by decide))
      (onlyIn_trans (onlyIn_mono (onlyIn_stopRings _) (by decide)) (onlyIn_mono (onlyIn_dropBridge _) (by decide))))

/-- A loss of the link, whatever brings it. -/
theorem linkReset_completes {c : Instr} {l : LinkUnit} {s : State} (run : exec c s = .next (linkReset { s with link := l })) :
    Completes c s ([.view, .trust, .regs] ++ reporting) fun t =>
      t.link.state = .down ∧ t.link.pf0.bme = false ∧ t.link.pf1.bme = false ∧ t.trust = { s.trust with secured := false } ∧
      t.mbox.c1 = s.mbox.c1.discarded ∧
      t.mbox.c0 = { s.mbox.c0 with rewrite := s.mbox.c0.copies.length, owed := s.mbox.c0.outgoing.length } ∧
      t.mbox.c2 = { s.mbox.c2 with rewrite := s.mbox.c2.copies.length, owed := s.mbox.c2.outgoing.length } ∧ t.mbox.auth.role = 0 ∧
      t.mbox.claims = s.mbox.claims ∧ t.view.rings = s.view.rings.map ViewRing.linkStop ∧ t.regs.waiting = none ∧
      Reports 0x0501 srcHost t := by
  let lost := ({ s with link := l } : State).linkLost
  refine ⟨logEvent 0x0501 srcHost 0 lost, run, ?_, logEvent_link_state _ _ _ lost, logEvent_bme _ _ _ lost false, logEvent_bme _ _ _ lost true,
    logEvent_trust _ _ _ lost, logEvent_mbox_c1 _ _ _ lost, logEvent_mbox_c0 _ _ _ lost, logEvent_mbox_c2 _ _ _ lost,
    congrArg (·.role) (logEvent_mbox_auth _ _ _ lost), logEvent_mbox_claims _ _ _ lost, congrArg (·.rings) (logEvent_view _ _ _ lost),
    congrArg (·.waiting) (logEvent_regs _ _ _ lost), reports_logEvent (by decide)⟩
  exact onlyIn_trans (onlyIn_mono (onlyIn_withLink l s) (by decide))
    (onlyIn_trans (onlyIn_mono (onlyIn_linkLost _) (by decide)) (onlyIn_mono (onlyIn_logEvent _ _ _ _) (by decide)))

/-- PERST# and a loss of a link that is up are losses of the link. -/
theorem linkLoss_runs {s : State} : ∀ i ∈ ([.perst true] ++ (if s.link.state = .down ∨ s.link.state = .l2 then [] else [.linkDown]) : List Instr),
    ∃ l, exec i s = .next (linkReset { s with link := l }) := by
  intro i loss
  rcases List.mem_append.1 loss with pin | down
  · rw [List.mem_singleton.1 pin]
    exact ⟨_, rfl⟩
  · split at down
    · exact absurd down List.not_mem_nil
    next up =>
      rw [List.mem_singleton.1 down]
      exact ⟨s.link, congrArg Host.Outcome.next (if_neg up)⟩

/-! ## Training and widths (R189, R190) -/

/-- The link in L0 at a rate and a width. -/
def LinkUnit.trained (l : LinkUnit) (rate width : Nat) (flit : Bool) (mps : Nat) (full : Bool) : LinkUnit :=
  { l with state := .l0, rate := if flit then rate else min rate 320, width := if width = 2 then 1 else width,
           active := if width = 2 then 1 else width, flit := flit, mps := mps, asked := if full then (if width = 2 then 1 else width) else 1 }

theorem linkTrained_trains (rate width : Nat) (flit : Bool) (mps : Nat) {s : State} (host : s.pdOn 55 = true) (phy : s.pdOn 56 = true)
    (released : s.link.perst = false) (clocked : s.clk.refclk = true) (noRetire : s.power.retire = none) :
    Completes (.linkTrained rate width flit mps) s (.res :: reporting) fun t =>
      t.link.state = .l0 ∧ t.link.rate = (if flit = true then rate else min rate 320) ∧ t.link.width = (if width = 2 then 1 else width) ∧
      t.link.active = t.link.width ∧ t.link.flit = flit ∧ t.link.mps = mps ∧
      (s.reads = false → t.sent.head? = some (.askWidth 1)) ∧ Reports 0x0502 srcHost t := by
  let up : State := { s with link := s.link.trained rate width flit mps s.reads }
  obtain ⟨d, run⟩ : ∃ d, exec (.linkTrained rate width flit mps) s = .next
      (if s.reads then renewBsus (logEvent 0x0502 srcHost d up) else (renewBsus (logEvent 0x0502 srcHost d up)).send (.askWidth 1)) :=
    ⟨_, congrArg Host.Outcome.next (if_pos (by simp [host, phy, released, clocked, noRetire]))⟩
  let noted := renewBsus (logEvent 0x0502 srcHost d up)
  have parts : onlyIn (.res :: reporting) s noted :=
    onlyIn_trans (onlyIn_mono (onlyIn_withLink _ s) (by decide))
      (onlyIn_trans (onlyIn_mono (onlyIn_logEvent _ _ _ up) (by decide)) (onlyIn_renewBsus _))
  have reported : Reports 0x0502 srcHost noted := reports_renewBsus (reports_logEvent (by decide))
  have logged : reportsOnly up noted := reportsOnly_trans (reportsOnly_logEvent 0x0502 srcHost d up) (reportsOnly_renewBsus _)
  have line := (reportsOnly_ite (c := s.reads = true) logged (reportsOnly_trans (u := noted.send (.askWidth 1)) logged ⟨rfl, rfl⟩)).2
  have lanes := congrArg (·.width) line
  refine ⟨_, run, onlyIn_trans parts (onlyIn_ite (onlyIn_refl _ _) (onlyIn_mono (onlyIn_send _ _) (by decide))), congrArg (·.state) line,
    congrArg (·.rate) line, lanes, (congrArg (·.active) line).trans lanes.symm, congrArg (·.flit) line, congrArg (·.mps) line,
    fun idle => ?_, reports_ite reported (reports_send _ reported)⟩
  rw [if_neg (by simp [idle])]
  rfl

section
variable {width : Nat} {s : State} (live : s.link.live = true) (flit : s.link.flit = true) (lanes : 0 < width)
include live flit lanes

/-- A change of the active width is heeded on a link in flit mode. -/
theorem width_heeded : ¬ (!(s.link.live && s.link.flit && decide (0 < width))) = true := by simp [live, flit, lanes]

section
variable (narrow : width < s.link.width)
include narrow

theorem narrowLink_of_narrow : narrowLink width s =
    if width = s.link.asked then { s with link := { s.link with state := .l0p, active := width } }
    else
      let noted := reachNow (s.time.now + Config.ms)
        (logEvent 0x050A srcHost width { s with link := { s.link with state := .l0p, active := width } })
      ({ noted with link := { noted.link with asked := noted.link.width } }).send (.askWidth noted.link.width) := by
  unfold narrowLink
  rw [if_neg (width_heeded live flit lanes)]
  dsimp only
  rw [if_neg (Nat.not_le.2 narrow), if_pos narrow]

/-- The width that the module asked for is granted. -/
theorem narrowing_granted (asked : width = s.link.asked) : Completes (.l0pNarrowing width) s [.link] fun t =>
    t.link = { s.link with state := .l0p, active := width } :=
  ⟨_, congrArg Host.Outcome.next ((narrowLink_of_narrow live flit lanes narrow).trans (if_pos asked)), onlyIn_withLink _ s, rfl⟩

/-- The partner's narrowing is logged, and the module asks for the full width 1 ms later. -/
theorem narrowing_refused (other : width ≠ s.link.asked) : Completes (.l0pNarrowing width) s (.time :: reporting) fun t =>
    t.link.state = .l0p ∧ t.link.active = width ∧ t.link.asked = s.link.width ∧ s.time.now + Config.ms ≤ t.time.now ∧
    t.sent.head? = some (.askWidth s.link.width) ∧ look t.log.reported (srcHost, 0x050A) = some s.time.now := by
  let narrowed : State := { s with link := { s.link with state := .l0p, active := width } }
  let noted := logEvent 0x050A srcHost width narrowed
  have full : noted.link.width = s.link.width := logEvent_link_width _ _ _ narrowed
  have reported : look noted.log.reported (srcHost, 0x050A) = some s.time.now := by
    rw [logEvent_reported (by decide), look_put]
  refine ⟨_, congrArg Host.Outcome.next ((narrowLink_of_narrow live flit lanes narrow).trans (if_neg other)), ?_,
    logEvent_link_state _ _ _ narrowed, logEvent_link_active _ _ _ narrowed, full, reachNow_reaches _ noted,
    congrArg (fun w => some (Out.askWidth w)) full, reported⟩
  exact onlyIn_trans (onlyIn_mono (onlyIn_withLink _ s) (by decide)) (onlyIn_trans (onlyIn_mono (onlyIn_logEvent _ _ _ narrowed) (by decide))
    (onlyIn_trans (onlyIn_mono (onlyIn_reachNow _ noted) (by decide)) (onlyIn_trans (onlyIn_mono (onlyIn_withLink _ _) (by decide))
      (onlyIn_mono (onlyIn_send _ _) (by decide)))))

end

/-- The full width ends the narrowed interval, and Welt goes on. -/
theorem width_restored (wide : s.link.width ≤ width) :
    CompletesKeeping (.l0pNarrowing width) s (stored ++ [.time, .settings, .cal, .power]) fun t =>
      t.link.state = .l0 ∧ t.link.active = s.link.width := by
  let full : State := { s with link := { s.link with state := .l0, active := s.link.width } }
  have run : narrowLink width s = resumeWelt full := by
    unfold narrowLink
    rw [if_neg (width_heeded live flit lanes)]
    dsimp only
    rw [if_pos wide, if_neg (Nat.not_lt.2 wide)]
  have goes := goesOn_resumeWelt full
  have line := goes.2.2
  exact ⟨_, congrArg Host.Outcome.next run, kept_of_goesOn goes, congrArg (·.state) line, congrArg (·.active) line⟩

end

/-! ## Function-level resets (R204, R276) -/

theorem flrPf0_discards {s : State} : Completes .flrPf0 s (.regs :: reporting) fun t =>
    t.mbox.c0 = s.mbox.c0.discarded ∧ t.mbox.c2 = s.mbox.c2.discarded ∧ t.mbox.c1 = s.mbox.c1 ∧ t.mbox.auth.role = 0 ∧
    t.mbox.ring.enable = s.mbox.ring.enable ∧ t.link.pf0.bme = false ∧ t.link.state = s.link.state ∧ t.regs.waiting = none ∧
    Reports 0x0507 srcHost t := by
  let reset : State := dropBridge { s with
    mbox := { s.mbox with c0 := s.mbox.c0.discarded, c2 := s.mbox.c2.discarded, ring := s.mbox.ring.discarded,
                          auth := { s.mbox.auth.ended with challenge := none } }
    link := { s.link with pf0 := Reset.link.pf0, doe := ⟨none, s.link.doe.busyCnt⟩ } }
  obtain ⟨-, -, enable, -, -⟩ := ringKept_logEvent 0x0507 srcHost 0 reset
  refine ⟨logEvent 0x0507 srcHost 0 reset, rfl, ?_, logEvent_mbox_c0 _ _ _ reset, logEvent_mbox_c2 _ _ _ reset, logEvent_mbox_c1 _ _ _ reset,
    congrArg (·.role) (logEvent_mbox_auth _ _ _ reset), enable, logEvent_bme _ _ _ reset false, logEvent_link_state _ _ _ reset,
    congrArg (·.waiting) (logEvent_regs _ _ _ reset), reports_logEvent (by decide)⟩
  exact onlyIn_trans (onlyIn_mono (onlyIn_withMboxLink _ _ s) (by decide))
    (onlyIn_trans (onlyIn_mono (onlyIn_dropBridge _) (by decide)) (onlyIn_mono (onlyIn_logEvent _ _ _ reset) (by decide)))

theorem flrPf1_discards {s : State} : Completes .flrPf1 s (.view :: reporting) fun t =>
    t.mbox.c1 = s.mbox.c1.discarded ∧ t.mbox.c0 = s.mbox.c0 ∧ t.mbox.c2 = s.mbox.c2 ∧ t.link.pf1.bme = false ∧ t.link.state = s.link.state ∧
    t.view.rings = s.view.rings.map ViewRing.linkStop ∧ Reports 0x0508 srcHost t := by
  let reset : State := stopRings { s with
    mbox := { s.mbox with c1 := s.mbox.c1.discarded }, link := { s.link with pf1 := Reset.link.pf1 } }
  refine ⟨logEvent 0x0508 srcHost 1 reset, rfl, ?_, logEvent_mbox_c1 _ _ _ reset, logEvent_mbox_c0 _ _ _ reset, logEvent_mbox_c2 _ _ _ reset,
    logEvent_bme _ _ _ reset true, logEvent_link_state _ _ _ reset, congrArg (·.rings) (logEvent_view _ _ _ reset), reports_logEvent (by decide)⟩
  exact onlyIn_trans (onlyIn_mono (onlyIn_withMboxLink _ _ s) (by decide))
    (onlyIn_trans (onlyIn_mono (onlyIn_stopRings _) (by decide)) (onlyIn_mono (onlyIn_logEvent _ _ _ reset) (by decide)))

/-! ## L2 (R191) -/

section
variable {s : State} (hears : s.link.hears = true)
include hears

theorem turnOff_sleeps (dormant : s.mode.mode = .dormant) (permit : s.power.permitL2 = true) : Completes .pmeTurnOff s [.link, .sent] fun t =>
    t.link = { s.link with state := .l2, active := 0 } ∧ t.sent = .pmeToAck :: s.sent :=
  ⟨{ s.send .pmeToAck with link := { s.link with state := .l2, active := 0 } },
    congrArg Host.Outcome.next ((if_pos hears).trans (if_pos ⟨dormant, permit⟩)),
    onlyIn_trans (onlyIn_mono (onlyIn_send _ s) (by decide)) (onlyIn_mono (onlyIn_withLink _ _) (by decide)), rfl, rfl⟩

theorem turnOff_acknowledges (awake : s.mode.mode ≠ .dormant ∨ s.power.permitL2 = false) :
    Completes .pmeTurnOff s [.sent] fun t => t.sent = .pmeToAck :: s.sent := by
  have stays : ¬ (s.mode.mode = .dormant ∧ s.power.permitL2 = true) := by
    rintro ⟨dormant, permit⟩
    rcases awake with other | refused
    · exact other dormant
    · rw [refused] at permit
      cases permit
  exact ⟨s.send .pmeToAck, congrArg Host.Outcome.next ((if_pos hears).trans (if_neg stays)), onlyIn_send _ s, rfl⟩

end

/-! ## What a function may send and take (R196, R197, R203) -/

theorem mayWrite_eq (l : LinkUnit) (pf1 : Bool) : l.mayWrite pf1 = (l.live && ((l.func pf1).bme && !(l.func pf1).d3hot)) := by cases pf1 <;> rfl

theorem takes_eq (l : LinkUnit) (pf1 : Bool) : l.takes pf1 = (!l.ide.insecure && !(l.func pf1).d3hot) := by cases pf1 <;> rfl

theorem busMaster_cleared (fn : Func) (s : State) : Completes (.busMasterEnable fn false) s [.link] fun t =>
    t.link = s.link.setFunc (decide (fn = .pf1)) { s.link.func (decide (fn = .pf1)) with bme := false } ∧
    t.link.mayWrite (decide (fn = .pf1)) = false := by
  refine ⟨_, congrArg Host.Outcome.next (busMaster_of_quiet (.inl rfl)), onlyIn_withLink _ s, rfl, ?_⟩
  dsimp only
  rw [mayWrite_eq, func_setFunc]
  simp

theorem d3hot_entered (fn : Func) (s : State) : Completes (.d3hotEntry fn) s [.link] fun t =>
    t.link = s.link.setFunc (decide (fn = .pf1)) { s.link.func (decide (fn = .pf1)) with d3hot := true } ∧
    t.link.mayWrite (decide (fn = .pf1)) = false ∧ t.link.takes (decide (fn = .pf1)) = false := by
  refine ⟨_, rfl, onlyIn_withLink _ s, rfl, ?_, ?_⟩ <;> dsimp only
  · rw [mayWrite_eq, func_setFunc]
    simp
  · rw [takes_eq, func_setFunc]
    simp

/-- PF1 writes again: its vectors that waited leave. -/
theorem resumePf1_completes {c : Instr} {f : Function} {s : State}
    (run : exec c s = .next (releaseVectors true { s with link := s.link.setFunc true f })) :
    Completes c s [.link, .sent] fun t => { t.link.pf1 with pba := f.pba } = f ∧ t.link.pf0 = s.link.pf0 ∧
      ∀ n, n < 64 → t.link.vectorOpen true n = true → n ∉ t.link.pf1.pba := by
  let resumed : State := { s with link := s.link.setFunc true f }
  refine ⟨_, run, onlyIn_trans (onlyIn_mono (onlyIn_withLink _ s) (by decide)) (onlyIn_releaseVectors true resumed),
    func_of_reportsOnly (reportsOnly_releaseVectors true resumed) true, ?_, fun n => releaseVectors_none_waits true resumed⟩
  exact congrArg (·.pf0) (releaseVectors_link true resumed)

theorem busMaster_pf1_set {s : State} (clear : s.link.pf1.bme = false) : Completes (.busMasterEnable .pf1 true) s [.link, .sent] fun t =>
    t.link.pf1.bme = true ∧ t.link.pf0 = s.link.pf0 ∧ ∀ n, n < 64 → t.link.vectorOpen true n = true → n ∉ t.link.pf1.pba := by
  have gains : (true && !(s.link.func true).bme) = true := by simp [LinkUnit.func, clear]
  obtain ⟨t, run, parts, same, other, none⟩ := resumePf1_completes (c := .busMasterEnable .pf1 true) (f := { s.link.pf1 with bme := true })
    (s := s) (congrArg Host.Outcome.next (if_pos gains))
  exact ⟨t, run, parts, congrArg (·.bme) same, other, none⟩

theorem d3hot_pf1_left {s : State} (asleep : s.link.pf1.d3hot = true) : Completes (.d3hotExit .pf1) s [.link, .sent] fun t =>
    t.link.pf1.d3hot = false ∧ t.link.pf0 = s.link.pf0 ∧ ∀ n, n < 64 → t.link.vectorOpen true n = true → n ∉ t.link.pf1.pba := by
  obtain ⟨t, run, parts, same, other, none⟩ := resumePf1_completes (c := .d3hotExit .pf1) (f := { s.link.pf1 with d3hot := false })
    (s := s) (congrArg Host.Outcome.next (if_pos asleep))
  exact ⟨t, run, parts, congrArg (·.d3hot) same, other, none⟩

/-- PF0 writes again, or wrote before: beside what Welt writes, only the function has changed. -/
theorem resumePf0_completes {c : Instr} {f : Function} {s : State} (b : Prop) [Decidable b]
    (run : exec c s = .next (if b then resume false { s with link := s.link.setFunc false f } else { s with link := s.link.setFunc false f })) :
    CompletesKeeping c s (stored ++ [.time, .settings, .cal, .power]) fun t => { t.link.pf0 with pba := f.pba } = f := by
  let resumed : State := { s with link := s.link.setFunc false f }
  have goes := goesOn_ite (c := b) (goesOn_resume false resumed) (goesOn_refl resumed)
  exact ⟨_, run, kept_of_goesOn goes, func_of_reportsOnly goes.2 false⟩

theorem busMaster_pf0_set (s : State) : CompletesKeeping (.busMasterEnable .pf0 true) s (stored ++ [.time, .settings, .cal, .power]) fun t =>
    t.link.pf0.bme = true := by
  obtain ⟨t, run, kept, same⟩ := resumePf0_completes (c := .busMasterEnable .pf0 true) (f := { s.link.pf0 with bme := true }) (s := s)
    ((true && !(s.link.func false).bme) = true) rfl
  exact ⟨t, run, kept, congrArg (·.bme) same⟩

theorem d3hot_pf0_left (s : State) : CompletesKeeping (.d3hotExit .pf0) s (stored ++ [.time, .settings, .cal, .power]) fun t =>
    t.link.pf0.d3hot = false := by
  obtain ⟨t, run, kept, same⟩ := resumePf0_completes (c := .d3hotExit .pf0) (f := { s.link.pf0 with d3hot := false }) (s := s)
    ((s.link.func false).d3hot = true) rfl
  exact ⟨t, run, kept, congrArg (·.d3hot) same⟩

/-! ## MSI-X (R197) -/

/-- A function with MSI-X as a write of Message Control sets it; the enable sets the pending bits of the sources with unserviced content. -/
def State.msixSet (s : State) (pf1 enable mask : Bool) : Function :=
  if enable && !(s.link.func pf1).msixEnable then
    (s.unserviced pf1).foldl Function.pend { s.link.func pf1 with msixEnable := enable, msixMask := mask }
  else { s.link.func pf1 with msixEnable := enable, msixMask := mask }

section
variable (s : State) (pf1 enable mask : Bool)

theorem msixSet_keeps : { s.msixSet pf1 enable mask with pba := (s.link.func pf1).pba } =
    { s.link.func pf1 with msixEnable := enable, msixMask := mask } := by
  unfold State.msixSet
  split
  · exact (foldl_pend_keeps (s.unserviced pf1) { s.link.func pf1 with msixEnable := enable, msixMask := mask }).1
  · rfl

theorem msixSet_pends (enables : enable = true) (was : (s.link.func pf1).msixEnable = false) :
    ∀ n ∈ s.unserviced pf1, n ∈ (s.msixSet pf1 enable mask).pba := by
  intro n source
  unfold State.msixSet
  rw [if_pos (by simp [enables, was])]
  exact (foldl_pend_keeps (s.unserviced pf1) _).2 n (.inl source)

end

theorem msixEnable_sets (fn : Func) (enable mask : Bool) (s : State) : Completes (.msixEnable fn enable mask) s [.link, .sent] fun t =>
    (t.link.func (decide (fn = .pf1))).msixEnable = enable ∧ (t.link.func (decide (fn = .pf1))).msixMask = mask ∧
    (t.link.func (decide (fn = .pf1))).table = (s.link.func (decide (fn = .pf1))).table ∧
    (enable = false → (t.link.func (decide (fn = .pf1))).pba = (s.link.func (decide (fn = .pf1))).pba) ∧
    (enable = true → (s.link.func (decide (fn = .pf1))).msixEnable = false → ∀ n ∈ s.unserviced (decide (fn = .pf1)),
      if t.link.vectorOpen (decide (fn = .pf1)) n then Out.vector (decide (fn = .pf1)) n ∈ t.sent
      else n ∈ (t.link.func (decide (fn = .pf1))).pba) := by
  generalize pf : decide (fn = .pf1) = p
  let written : State := { s with link := s.link.setFunc p (s.msixSet p enable mask) }
  have control : exec (.msixEnable fn enable mask) s = .next (msixControl p enable mask s) := by
    rw [← pf]
    rfl
  have run : exec (.msixEnable fn enable mask) s = .next (releaseVectors p written) := control
  have func : written.link.func p = s.msixSet p enable mask := func_setFunc _ _ _
  have same : { (releaseVectors p written).link.func p with pba := (s.link.func p).pba } =
      { s.link.func p with msixEnable := enable, msixMask := mask } := by
    rw [← msixSet_keeps, ← func, ← func_of_reportsOnly (reportsOnly_releaseVectors p written) p]
  refine ⟨_, run, onlyIn_trans (onlyIn_mono (onlyIn_withLink _ s) (by decide)) (onlyIn_releaseVectors p written), congrArg (·.msixEnable) same,
    congrArg (·.msixMask) same, congrArg (·.table) same, fun off => ?_, fun on was n source => ?_⟩
  · have kept : s.msixSet p enable mask = { s.link.func p with msixEnable := enable, msixMask := mask } := if_neg (by simp [off])
    rw [releaseVectors_of_disabled (by rw [func, kept]; exact off), func, kept]
  · exact releaseVectors_of_pending p written (unserviced_lt source) (by rw [func]; exact msixSet_pends s p enable mask on was n source)

/-! ## The statement -/

/-- Settles O42: a loss of the link in one lemma, and one lemma for each other change of the link and of what a function may send. -/
theorem hostLinkChangesState : Obligations.HostLinkChangesState := by
  unfold Obligations.HostLinkChangesState
  intro rate width mps flit fn enable mask s
  refine ⟨fun i loss => (linkLoss_runs i loss).elim fun l run => linkReset_completes run, ⟨_, rfl, onlyIn_withLink _ s, rfl⟩,
    linkTrained_trains rate width flit mps, fun live flits lanes => ⟨fun narrow => narrowing_refused live flits lanes narrow,
      fun narrow => narrowing_granted live flits lanes narrow, width_restored live flits lanes⟩, flrPf0_discards, flrPf1_discards,
    fun hears => ⟨turnOff_sleeps hears, turnOff_acknowledges hears⟩, fun deaf => congrArg Host.Outcome.next (if_neg (by simp [deaf])),
    busMaster_cleared fn s, d3hot_entered fn s, ?_, ?_, msixEnable_sets fn enable mask s⟩
  · rintro rfl
    exact ⟨busMaster_pf1_set, d3hot_pf1_left⟩
  · rintro rfl
    exact ⟨busMaster_pf0_set s, d3hot_pf0_left s⟩

end Sys2Proof.Machine

/-! PROOFS. Credit on an open session (R209, R215, R216): what Welt does where its agent publishes more, and what its sessions leave of the
reservoir and of their accounts as they settle. -/

namespace Sys2Proof.Machine

/-! ## Credit on an open session (R209, R215) -/

/-- A write that the page takes from its agent. -/
theorem agentWrite_of_accepted {bay : Bay} {rid : U16} {s : State} (place : Bool) (f : Nat → State → State) (takes : s.link.takes false = true)
    (accepted : acceptsWrite (bayNum bay) rid s = true) : agentWrite bay rid place f s = f (bayNum bay) s :=
  (if_pos takes).trans (if_pos accepted)

/-- A session with new descriptor credit. -/
def Session.withDescLimit (x : Session) (v now : Nat) : Session :=
  { x with descLimit := v, progress := if x.descLimit < v then now else x.progress }

/-- A session with new page credit. -/
def Session.withPageLimit (x : Session) (v now : Nat) : Session :=
  { x with pageLimit := v, progress := if x.pageLimit < v then now else x.progress }

theorem exec_descLimit_of_opened {bay : Bay} {rid : U16} {v : U32} {s : State} (takes : s.link.takes false = true)
    (accepted : acceptsWrite (bayNum bay) rid s = true) (opened : (s.bay (bayNum bay)).state = .opened)
    (rises : (s.bay (bayNum bay)).descLimit ≤ v.toNat) :
    exec (.descLimit bay rid v) s =
      .next (onCredit (s.setBay (bayNum bay) ((s.bay (bayNum bay)).withDescLimit v.toNat s.time.now))) := by
  have run : exec (.descLimit bay rid v) s = .next (descWrite v.toNat (bayNum bay) s) :=
    congrArg Host.Outcome.next (agentWrite_of_accepted false _ takes accepted)
  rw [run]
  simp [descWrite, opened, Nat.not_lt.mpr rises, Session.withDescLimit]

theorem exec_pageLimit_of_opened {bay : Bay} {rid : U16} {v : U64} {s : State} (takes : s.link.takes false = true)
    (accepted : acceptsWrite (bayNum bay) rid s = true) (opened : (s.bay (bayNum bay)).state = .opened)
    (rises : (s.bay (bayNum bay)).pageLimit ≤ v.toNat) (fits : v.toNat ≤ (s.bay (bayNum bay)).oldPage + (s.bay (bayNum bay)).wTotal) :
    exec (.pageLimit bay rid v true) s =
      .next (onCredit (s.setBay (bayNum bay) ((s.bay (bayNum bay)).withPageLimit v.toNat s.time.now))) := by
  have run : exec (.pageLimit bay rid v true) s = .next (pageWrite v.toNat true (bayNum bay) s) :=
    congrArg Host.Outcome.next (agentWrite_of_accepted false _ takes accepted)
  rw [run]
  simp [pageWrite, opened, Nat.not_lt.mpr rises, Nat.not_lt.mpr fits, Session.withPageLimit]

/-! ## What Welt leaves of the reservoir as its sessions settle -/

theorem onlyIn_settleSession (b : Nat) (s : State) : onlyIn [.take, .sent] s (settleSession b s) := by
  have placed (x : Session) (u : State) : onlyIn [.take, .sent] u (u.setBay b x) := onlyIn_mono (onlyIn_withTake _ u) (by decide)
  refine onlyIn_ite ?_ (onlyIn_refl _ s)
  split
  · exact onlyIn_ite (onlyIn_trans (onlyIn_writeDescriptor b _ s) (placed _ _)) (onlyIn_refl _ s)
  · exact onlyIn_ite (placed _ s) (onlyIn_refl _ s)

/-- A relay that finds its session leaves the reservoir: no descriptor waits there. -/
theorem onlyIn_offerRelay (s : State) : onlyIn (.take :: reporting) s (offerRelay s) := by
  unfold offerRelay
  split
  · refine onlyIn_ite (onlyIn_refl _ s) ?_
    split
    · exact onlyIn_refl _ s
    · refine onlyIn_trans (onlyIn_mono (onlyIn_withTake _ s) (by decide))
        (onlyIn_trans (onlyIn_mono (onlyIn_logEvent _ _ _ _) (by decide)) (onlyIn_mono (greet_of_none ?_).1 (by decide)))
      rw [onlyIn_logEvent _ _ _ _ .take (by decide)]
  · exact onlyIn_refl _ s

theorem onlyIn_settleBoth (s : State) : onlyIn (.take :: reporting) s (settleBoth s) :=
  onlyIn_trans (onlyIn_mono (onlyIn_settleSession 0 s) (by decide))
    (onlyIn_trans (onlyIn_mono (onlyIn_settleSession 1 _) (by decide)) (onlyIn_offerRelay _))

theorem writeOpen_of_not_opening {b : Nat} {s : State} (past : (s.bay b).state ≠ .opening) : writeOpen b s = s := by
  simp [writeOpen, past]

/-- Where no session waits for its SESSION_OPEN, new credit changes the reservoir only by what Welt writes for the take. -/
theorem onCredit_res {s : State} (a : (s.bay 0).state ≠ .opening) (b : (s.bay 1).state ≠ .opening) : (onCredit s).res = (greet s).res := by
  unfold onCredit
  rw [writeOpen_of_not_opening a, writeOpen_of_not_opening b, onlyIn_noteBoth _ .res (by decide), onlyIn_settleBoth _ .res (by decide)]

/-! ## The accounts of the sessions (R215, R216, R219) -/

/-- What its agent has published of a session, and what the session has committed and seen acknowledged. -/
def Session.accounts (x : Session) : Nat × Nat × Nat × Nat × List Commit := (x.pageLimit, x.descLimit, x.ackProducer, x.acked, x.commits)

/-- Two states have the same accounts of every bay. -/
def sameAccounts (s t : State) : Prop := ∀ b, (t.bay b).accounts = (s.bay b).accounts

theorem sameAccounts_refl (s : State) : sameAccounts s s := fun _ => rfl

theorem sameAccounts_trans {s t u : State} (h : sameAccounts s t) (k : sameAccounts t u) : sameAccounts s u := fun b => (k b).trans (h b)

theorem sameAccounts_ite {c : Prop} [Decidable c] {s a b : State} (h : sameAccounts s a) (k : sameAccounts s b) :
    sameAccounts s (if c then a else b) := by
  split
  · exact h
  · exact k

theorem sameAccounts_of_take {s t : State} (same : t.take = s.take) : sameAccounts s t := fun b => by rw [State.bay, same, State.bay]

theorem sameAccounts_of_both {s t : State} (a : t.take.a.accounts = s.take.a.accounts) (b : t.take.b.accounts = s.take.b.accounts) :
    sameAccounts s t := by
  intro c
  unfold State.bay TakeUnit.bay
  split
  · exact a
  · exact b

theorem sameAccounts_setBay {b : Nat} {x : Session} {s : State} (same : x.accounts = (s.bay b).accounts) : sameAccounts s (s.setBay b x) := by
  unfold State.setBay TakeUnit.setBay
  split
  case isTrue first =>
    subst first
    exact sameAccounts_of_both same rfl
  case isFalse second => exact sameAccounts_of_both rfl (same.trans (congrArg Session.accounts (if_neg second)))

/-- A session that takes up the take's records. -/
theorem sameAccounts_stream (b : Nat) {s t : State} (a : t.take.a = (s.take.setBay b (s.bay b).stream).a)
    (other : t.take.b = (s.take.setBay b (s.bay b).stream).b) : sameAccounts s t :=
  have placed : sameAccounts s (s.setBay b (s.bay b).stream) := sameAccounts_setBay rfl
  sameAccounts_of_both ((congrArg Session.accounts a).trans (placed 0)) ((congrArg Session.accounts other).trans (placed 1))

theorem sameAccounts_writeDescriptor (b : Nat) (d : Descriptor) (s : State) : sameAccounts s (writeDescriptor b d s) :=
  sameAccounts_setBay (s := s) rfl

theorem sameAccounts_writeBegin (b : Nat) (s : State) : sameAccounts s (writeBegin b s) :=
  sameAccounts_ite (sameAccounts_trans (sameAccounts_stream b rfl rfl) (sameAccounts_writeDescriptor b _ _)) (sameAccounts_refl s)

theorem sameAccounts_writeRelayIn (b : Nat) (s : State) : sameAccounts s (writeRelayIn b s) := by
  unfold writeRelayIn
  split
  · exact sameAccounts_refl s
  · exact sameAccounts_ite (sameAccounts_trans (sameAccounts_stream b rfl rfl) (sameAccounts_writeDescriptor b _ _)) (sameAccounts_refl s)

theorem sameAccounts_writeTakeEnd (b : Nat) (s : State) : sameAccounts s (writeTakeEnd b s) := by
  unfold writeTakeEnd
  split
  · exact sameAccounts_refl s
  · exact sameAccounts_ite (sameAccounts_writeDescriptor b _ _) (sameAccounts_refl s)

/-- Where no descriptor waits, what Welt writes at once commits no frame. -/
theorem sameAccounts_greet {s : State} (none : s.take.paged = none) : sameAccounts s (greet s) := by
  unfold greet
  split
  · exact sameAccounts_refl s
  case _ b _ =>
    obtain ⟨-, -, -, paged⟩ := sameStart_trans (sameStart_writeBegin b s) (sameStart_writeRelayIn b _)
    rw [releasePaged_of_none (paged.trans none)]
    exact sameAccounts_ite (sameAccounts_trans (sameAccounts_writeBegin b s)
      (sameAccounts_trans (sameAccounts_writeRelayIn b _) (sameAccounts_writeTakeEnd b _))) (sameAccounts_refl s)

theorem sameAccounts_writeOpen (b : Nat) (s : State) : sameAccounts s (writeOpen b s) :=
  sameAccounts_ite (sameAccounts_trans (sameAccounts_setBay (s := s) (x := { s.bay b with stepTime := s.time.now }) rfl)
    (sameAccounts_writeDescriptor b _ _)) (sameAccounts_refl s)

theorem sameAccounts_noteOwing (b : Nat) (s : State) : sameAccounts s (noteOwing b s) := sameAccounts_setBay (s := s) rfl

theorem sameAccounts_noteBoth (s : State) : sameAccounts s (noteBoth s) :=
  sameAccounts_trans (sameAccounts_noteOwing 0 s) (sameAccounts_noteOwing 1 _)

theorem sameAccounts_settleSession (b : Nat) (s : State) : sameAccounts s (settleSession b s) := by
  refine sameAccounts_ite ?_ (sameAccounts_refl s)
  split
  · exact sameAccounts_ite (sameAccounts_trans (sameAccounts_writeDescriptor b _ s) (sameAccounts_setBay rfl)) (sameAccounts_refl s)
  · exact sameAccounts_ite (sameAccounts_setBay rfl) (sameAccounts_refl s)

theorem sameAccounts_offerRelay (s : State) : sameAccounts s (offerRelay s) := by
  unfold offerRelay
  split
  · refine sameAccounts_ite (sameAccounts_refl s) ?_
    split
    · exact sameAccounts_refl s
    case _ b _ =>
      exact sameAccounts_trans (sameAccounts_stream b rfl rfl)
        (sameAccounts_trans (sameAccounts_of_take (logEvent_take _ _ _ _)) (sameAccounts_greet (congrArg (·.paged) (logEvent_take _ _ _ _))))
  · exact sameAccounts_refl s

theorem sameAccounts_settleBoth (s : State) : sameAccounts s (settleBoth s) :=
  sameAccounts_trans (sameAccounts_settleSession 0 s) (sameAccounts_trans (sameAccounts_settleSession 1 _) (sameAccounts_offerRelay _))

/-! ## What holds of the clauses on new credit -/

theorem sameStart_writeOpen (b : Nat) (s : State) : sameStart s (writeOpen b s) :=
  sameStart_ite (sameStart_trans (sameStart_setBay b _ s) (sameStart_writeDescriptor b _ _)) (sameStart_refl s)

theorem onlyIn_writeOpen (b : Nat) (s : State) : onlyIn [.take, .sent] s (writeOpen b s) :=
  onlyIn_ite (onlyIn_trans (onlyIn_mono (onlyIn_withTake _ s) (by decide)) (onlyIn_writeDescriptor b _ _)) (onlyIn_refl _ s)

/-- Where no descriptor waits for a vote that is done, new credit leaves the reservoir and the accounts. -/
theorem onCredit_of_none {s : State} (none : s.take.paged = none) : onlyIn (.take :: reporting) s (onCredit s) ∧ sameAccounts s (onCredit s) := by
  have opened := sameStart_trans (sameStart_writeOpen 0 s) (sameStart_writeOpen 1 _)
  have waits : (writeOpen 1 (writeOpen 0 s)).take.paged = .none := by
    obtain ⟨-, -, -, paged⟩ := opened
    exact paged.trans none
  constructor
  · exact onlyIn_trans (onlyIn_mono (onlyIn_trans (onlyIn_writeOpen 0 s) (onlyIn_trans (onlyIn_writeOpen 1 _) (greet_of_none waits).1)) (by decide))
      (onlyIn_trans (onlyIn_settleBoth _) (onlyIn_mono (onlyIn_noteBoth _) (by decide)))
  · exact sameAccounts_trans (sameAccounts_writeOpen 0 s) (sameAccounts_trans (sameAccounts_writeOpen 1 _)
      (sameAccounts_trans (sameAccounts_greet waits) (sameAccounts_trans (sameAccounts_settleBoth _) (sameAccounts_noteBoth _))))

theorem bay_setBay (b : Nat) (x : Session) (s : State) : (s.setBay b x).bay b = x := by
  unfold State.bay State.setBay TakeUnit.bay TakeUnit.setBay
  split <;> rfl

/-- New credit on session b, where no descriptor waits. -/
theorem credited_of_none {b : Nat} {x : Session} {s : State} (none : s.take.paged = none) :
    onlyIn (.take :: reporting) s (onCredit (s.setBay b x)) ∧ ((onCredit (s.setBay b x)).bay b).accounts = x.accounts := by
  obtain ⟨-, -, -, paged⟩ := sameStart_setBay b x s
  have waits : (s.setBay b x).take.paged = .none := paged.trans none
  obtain ⟨parts, accounts⟩ := onCredit_of_none waits
  refine ⟨onlyIn_trans (onlyIn_mono (onlyIn_withTake _ s) (by decide)) parts, ?_⟩
  rw [accounts b, bay_setBay]

section
variable {bay : Bay} {rid : U16} {s : State}

/-- What holds of the first of the two clauses of `SessionsOpenStepByStep` on credit that rises on an open session: its words, where no descriptor waits
for a vote that is done. -/
theorem descLimit_rises_of_none (takes : s.link.takes false = true) (accepted : acceptsWrite (bayNum bay) rid s = true) {v : U32}
    (opened : (s.bay (bayNum bay)).state = .opened) (rises : (s.bay (bayNum bay)).descLimit ≤ v.toNat) (none : s.take.paged = none) :
    Completes (.descLimit bay rid v) s (.take :: reporting) fun t =>
      (t.bay (bayNum bay)).descLimit = v.toNat ∧ (t.bay (bayNum bay)).pageLimit = (s.bay (bayNum bay)).pageLimit := by
  obtain ⟨parts, accounts⟩ := credited_of_none (b := bayNum bay) (x := (s.bay (bayNum bay)).withDescLimit v.toNat s.time.now) none
  exact ⟨_, exec_descLimit_of_opened takes accepted opened rises, parts, congrArg (·.2.1) accounts, congrArg (·.1) accounts⟩

/-- The same of the second. -/
theorem pageLimit_rises_of_none (takes : s.link.takes false = true) (accepted : acceptsWrite (bayNum bay) rid s = true) {v : U64}
    (opened : (s.bay (bayNum bay)).state = .opened) (rises : (s.bay (bayNum bay)).pageLimit ≤ v.toNat)
    (fits : v.toNat ≤ (s.bay (bayNum bay)).oldPage + (s.bay (bayNum bay)).wTotal) (none : s.take.paged = none) :
    Completes (.pageLimit bay rid v true) s (.take :: reporting) fun t =>
      (t.bay (bayNum bay)).pageLimit = v.toNat ∧ (t.bay (bayNum bay)).descLimit = (s.bay (bayNum bay)).descLimit := by
  obtain ⟨parts, accounts⟩ := credited_of_none (b := bayNum bay) (x := (s.bay (bayNum bay)).withPageLimit v.toNat s.time.now) none
  exact ⟨_, exec_pageLimit_of_opened takes accepted opened rises fits, parts, congrArg (·.1) accounts, congrArg (·.2.1) accounts⟩

end

/-! ## The refutation of O27 -/

/-- A session of bay B that is OPEN and carries nothing, beside a take on bay A: the pages of the take's frame 7 have gone out, and nothing holds its
descriptor back. -/
def idleBeside : State := descriptorDue.rewritten.setBay 1 { Reset.session with state := .opened, rid := 5, version := 0x21 }

/-- The same once the agent of bay B has published one descriptor. -/
def idleCredited : State := idleBeside.setBay 1 ((idleBeside.bay 1).withDescLimit 1 idleBeside.time.now)

theorem idleBeside_runs : exec (.descLimit .b 5 1) idleBeside = .next (onCredit idleCredited) :=
  exec_descLimit_of_opened (bay := .b) (rid := 5) (v := 1) (s := idleBeside) (by decide) (by decide) (by decide) (by decide)

theorem credit_sends : (onCredit idleCredited).res.entries.map (·.state) = [.sent] := by
  have released : (releasePaged 0 idleCredited).res = _ := releasePaged_res (r := closedRecord) rfl (by decide) rfl (by decide)
  have greeted : (greet idleCredited).res = (releasePaged 0 idleCredited).res := greet_res rfl (by decide) (by decide)
  rw [onCredit_res (by decide) (by decide), greeted, released]
  rfl

/-- Refutes O27: new descriptor credit on a session that is OPEN keeps the reservoir in its words, while Welt then writes what waits for the take on
the other bay too, and so the descriptor that a vote no longer holds back (R139), which makes the frame's reservoir entry SENT. At the boundary
of a vote Welt writes what it may, so no such descriptor waits beside credit after it; but the clause speaks of every state, and does not ask that none
waits (`descLimit_rises_of_none`, `pageLimit_rises_of_none`). -/
theorem not_sessionsOpenStepByStep : ¬ Obligations.SessionsOpenStepByStep := by
  unfold Obligations.SessionsOpenStepByStep
  intro h
  obtain ⟨-, -, writes, -⟩ := h .b idleBeside
  obtain ⟨accepted, -⟩ := writes 5 (by decide)
  obtain ⟨-, -, rises, -⟩ := accepted (by decide)
  obtain ⟨t, run, parts, -⟩ := rises 1 (by decide) (by decide)
  obtain rfl : onCredit idleCredited = t := Host.Outcome.next.inj (idleBeside_runs.symm.trans run)
  have kept : (onCredit idleCredited).res = idleBeside.res := parts .res (by decide)
  have sent := credit_sends
  rw [kept] at sent
  exact absurd sent (by decide)

end Sys2Proof.Machine

/-! PROOFS. Acknowledgements (R219, R220): an entry that makes frames durable, the end of the take that it can complete (R223), and the end
of a burst's drain (R149). -/

namespace Sys2Proof.Machine

/-! ## An acknowledgement entry (R219, R220) -/

/-- A session to which its agent has published acknowledgement entries. -/
def Session.withEntries (x : Session) (v : Nat) (entries : List AckEntry) : Session :=
  { x with ackProducer := v,
           ackRing := entries.zipIdx.foldl (fun l p => put l (ackPlace (x.acked + p.2) p.1).1 (ackPlace (x.acked + p.2) p.1).2) x.ackRing }

/-- An accepted DURABLE entry that is the next one. -/
theorem ackProduce_durable {b v : Nat} {e : AckEntry} {s : State} (streaming : (s.bay b).state = .streaming) (next : v = (s.bay b).acked + 1)
    (rises : (s.bay b).ackProducer ≤ v) (sound : ackCause (s.bay b) e = 0) (status : e.status = 0) :
    ackProduce v [e] b s = noteOwing b (ackDurable b e.count.toNat (s.setBay b ((s.bay b).withEntries v [e]))) := by
  have cause : ackCause ((s.bay b).withEntries v [e]) e = 0 := sound
  have state : ((s.bay b).withEntries v [e]).state = .streaming := streaming
  have inside : ¬(v < (s.bay b).ackProducer ∨ (s.bay b).acked + 384 < v) := by omega
  have one : v - (s.bay b).acked = 1 := by omega
  have single : ackProduce v [e] b s = ackOne b e (s.setBay b ((s.bay b).withEntries v [e])) := by
    unfold ackProduce
    simp only [inside, if_false, one]
    rfl
  rw [single]
  unfold ackOne
  simp [bay_setBay, cause, state, status]

theorem exec_ackProducer_durable {bay : Bay} {rid : U16} {v : U32} {e : AckEntry} {s : State} (takes : s.link.takes false = true)
    (accepted : acceptsWrite (bayNum bay) rid s = true) (streaming : (s.bay (bayNum bay)).state = .streaming)
    (next : v.toNat = (s.bay (bayNum bay)).acked + 1) (rises : (s.bay (bayNum bay)).ackProducer ≤ v.toNat)
    (sound : ackCause (s.bay (bayNum bay)) e = 0) (status : e.status = 0) :
    exec (.ackProducer bay rid v [e]) s = .next (levelAfter (finishTake (jobAcked (bayNum bay) (noteOwing (bayNum bay)
      (ackDurable (bayNum bay) e.count.toNat (s.setBay (bayNum bay) ((s.bay (bayNum bay)).withEntries v.toNat [e]))))))) := by
  rw [← ackProduce_durable streaming next rises sound status]
  exact congrArg Host.Outcome.next (agentWrite_of_accepted true (ackWrite v.toNat [e]) takes accepted)

/-! ## The end of a take and of a burst (R149, R223) -/

/-- The take once LAST is acknowledged, and its TAKE_END written. -/
def TakeUnit.completed (t : TakeUnit) : TakeUnit :=
  { t with state := .none, takeId := 0, active := none, key := none, isSealed := false,
           first := 0, nextIndex := 0, last := none, begun := false, ended := false, sendNext := 0, sentUpTo := 0, paged := none }

/-- In READY a drain that has ended powers the domains of VIEW, where NEXT_MODE is VIEW. -/
theorem endBurst_powers {b : Burst} {s : State} (burst : s.mode.burst = some b) (drain : b.drain = true) (view : b.nextMode = 2)
    (still : s.mode.changing = false) (idle : s.take.state = .none) (sound : s.dump.fatal = none) (ready : s.mode.mode = .ready) :
    (endBurst s).power = (s.setDomains viewDomains true).power := by
  have ends : endBurst s = startChange .view .endDrain (s.frame.index + 4) none s := by
    simp [endBurst, burst, drain, view, still, idle, sound]
  rw [ends, startChange_entry _ _ _ ready]
  rfl

/-- R223: LAST is acknowledged on every session, and the burst's NEXT_MODE is VIEW. -/
theorem finishTake_completes {l : Nat} {b : Burst} {s : State} (last : s.take.last = some l) (runs : s.take.state ≠ .none)
    (sent : l < s.take.sendNext) (free : s.take.holdBack = none) (here : s.take.relay = none) (clearA : s.take.a.commits = [])
    (clearB : s.take.b.commits = []) (ended : s.take.ended = true) (burst : s.mode.burst = some b) (view : b.nextMode = 2) :
    finishTake s = endBurst (noteBoth (settleBoth
      (fire0 3 (logEvent 0x060D srcHost (l % 2 ^ 32) { s with take := s.take.completed })))) := by
  simp [finishTake, TakeUnit.completed, last, runs, sent, free, here, clearA, clearB, ended, burst, view]

theorem setBay_takeState (b : Nat) (x : Session) (s : State) : (s.setBay b x).take.state = s.take.state := by
  unfold State.setBay TakeUnit.setBay
  split <;> rfl

theorem settleSession_takeState (b : Nat) (s : State) : (settleSession b s).take.state = s.take.state := by
  unfold settleSession
  dsimp only
  split
  · split
    · split
      · exact (setBay_takeState b _ _).trans (setBay_takeState b _ s)
      · rfl
    · split
      · exact setBay_takeState b _ s
      · rfl
  · rfl

theorem noteBoth_takeState (s : State) : (noteBoth s).take.state = s.take.state :=
  (setBay_takeState 1 _ _).trans (setBay_takeState 0 _ s)

/-- Sessions that settle after a take begin no other one. -/
theorem settleBoth_takeState_none {s : State} (none : s.take.state = .none) : (settleBoth s).take.state = .none := by
  have settled : (settleSession 1 (settleSession 0 s)).take.state = .none := by
    rw [settleSession_takeState, settleSession_takeState, none]
  unfold settleBoth offerRelay
  split
  · rwa [if_pos settled]
  · exact settled

theorem onlyIn_judgeLevel (full : Bool) (s : State) : onlyIn (.res :: reporting) s (judgeLevel full s) :=
  onlyIn_ite (onlyIn_refl _ s) (onlyIn_trans (onlyIn_mono (onlyIn_withRes _ s) (by decide))
    (onlyIn_trans (onlyIn_mono (onlyIn_logEvent _ _ _ _) (by decide)) (onlyIn_mono (onlyIn_fire _ _ _) (by decide))))

theorem onlyIn_levelAfter (s : State) : onlyIn (.res :: reporting) s (levelAfter s) := onlyIn_judgeLevel _ s

theorem jobAcked_of_none {b : Nat} {s : State} (none : s.hold.job = none) : jobAcked b s = s := by
  simp only [jobAcked, none]

/-! ## What holds of the clause on an entry with status 0 -/

theorem onlyIn_startChange {goal : Mode} {s : State} (kind : ChangeKind) (epoch : Nat) (req : Option ReqId) (away : s.mode.mode ≠ .ready) :
    onlyIn [.mode] s (startChange goal kind epoch req s) := by
  rw [startChange_planned _ _ _ fun h => away h.1]
  exact onlyIn_planned _ s

theorem onlyIn_burstToView {s : State} (st : Status) (cause : Nat) (away : s.mode.mode ≠ .ready) :
    onlyIn (.mode :: reporting) s (burstToView st cause s) := by
  refine onlyIn_trans (onlyIn_mono (onlyIn_withMode _ s) (by decide))
    (onlyIn_trans (onlyIn_mono (onlyIn_logEvent _ _ _ _) (by decide)) (onlyIn_mono (onlyIn_startChange _ _ _ ?_) (by decide)))
  rw [logEvent_mode]
  exact away

/-- Out of READY, the end of a drain changes no more than the mode, with a report. -/
theorem onlyIn_endBurst {s : State} (away : s.mode.mode ≠ .ready) : onlyIn (.mode :: reporting) s (endBurst s) := by
  have started {goal : Mode} (kind : ChangeKind) (epoch : Nat) : onlyIn (.mode :: reporting) s (startChange goal kind epoch none s) :=
    onlyIn_mono (onlyIn_startChange kind epoch none away) (by decide)
  unfold endBurst
  split
  · exact onlyIn_refl _ s
  · refine onlyIn_ite (onlyIn_refl _ s) (onlyIn_ite ?_ (started _ _))
    split
    · exact onlyIn_burstToView _ _ away
    · exact started _ _

/-- A take that ends, and its sessions with it. -/
theorem takeEnds_keeps {s : State} (t : TakeUnit) (data : Nat) (a : t.a.accounts = s.take.a.accounts) (b : t.b.accounts = s.take.b.accounts)
    (away : s.mode.mode ≠ .ready) :
    onlyIn (.take :: .mode :: reporting) s (endBurst (noteBoth (settleBoth (fire0 3 (logEvent 0x060D srcHost data { s with take := t }))))) ∧
    sameAccounts s (endBurst (noteBoth (settleBoth (fire0 3 (logEvent 0x060D srcHost data { s with take := t }))))) := by
  have replaced : sameAccounts s { s with take := t } := sameAccounts_of_both a b
  generalize told : fire0 3 (logEvent 0x060D srcHost data { s with take := t }) = u
  have take : u.take = t := by rw [← told, fire0_take, logEvent_take]
  have reported : onlyIn (.take :: reporting) s u := by
    rw [← told]
    exact onlyIn_trans (onlyIn_mono (onlyIn_withTake t s) (by decide))
      (onlyIn_trans (onlyIn_mono (onlyIn_logEvent _ _ _ _) (by decide)) (onlyIn_mono (onlyIn_fire _ _ _) (by decide)))
  have settled : onlyIn (.take :: reporting) s (noteBoth (settleBoth u)) :=
    onlyIn_trans reported (onlyIn_trans (onlyIn_settleBoth u) (onlyIn_mono (onlyIn_noteBoth _) (by decide)))
  have mode : (noteBoth (settleBoth u)).mode = s.mode := settled .mode (by decide)
  have ended := onlyIn_endBurst (s := noteBoth (settleBoth u)) (by rwa [mode])
  refine ⟨onlyIn_trans (onlyIn_mono settled (by decide)) (onlyIn_mono ended (by decide)), ?_⟩
  exact sameAccounts_trans replaced (sameAccounts_trans (sameAccounts_of_take take) (sameAccounts_trans (sameAccounts_settleBoth u)
    (sameAccounts_trans (sameAccounts_noteBoth _) (sameAccounts_of_take (ended .take (by decide))))))

theorem finishTake_keeps {s : State} (away : s.mode.mode ≠ .ready) :
    onlyIn (.take :: .mode :: reporting) s (finishTake s) ∧ sameAccounts s (finishTake s) := by
  unfold finishTake
  dsimp only
  split
  · exact ⟨onlyIn_refl _ s, sameAccounts_refl s⟩
  · split
    · refine takeEnds_keeps _ _ ?_ ?_ away
      all_goals
        dsimp only
        split
        · unfold TakeUnit.setBay TakeUnit.bay
          split <;> rfl
        · rfl
    · exact ⟨onlyIn_mono (onlyIn_trans (onlyIn_settleBoth s) (onlyIn_mono (onlyIn_noteBoth _) (by decide))) (by decide),
        sameAccounts_trans (sameAccounts_settleBoth s) (sameAccounts_noteBoth _)⟩

theorem onlyIn_durable (c : Commit) (s : State) : onlyIn [.res, .hold] s (durable c s) :=
  onlyIn_ite (onlyIn_mono (onlyIn_withHold _ s) (by decide))
    (onlyIn_trans (onlyIn_mono (onlyIn_withRes _ s) (by decide)) (onlyIn_mono (onlyIn_withHold _ _) (by decide)))

/-- The accounts of a session whose oldest n frames are durable (R220). -/
theorem ackDurable_accounts (b n : Nat) (s : State) : ((ackDurable b n s).bay b).accounts =
    ((s.bay b).pageLimit, (s.bay b).descLimit, (s.bay b).ackProducer, (s.bay b).acked + 1, (s.bay b).commits.drop n) := by
  have take : (each ((s.bay b).commits.take n) durable s).take = s.take := onlyIn_each durable onlyIn_durable _ s .take (by decide)
  have session : (each ((s.bay b).commits.take n) durable s).bay b = s.bay b := congrArg (·.bay b) take
  unfold ackDurable
  dsimp only
  rw [bay_setBay, session]
  rfl

theorem onlyIn_ackDurable (b n : Nat) (s : State) : onlyIn [.take, .res, .hold] s (ackDurable b n s) :=
  onlyIn_trans (onlyIn_mono (onlyIn_each durable onlyIn_durable _ s) (by decide)) (onlyIn_mono (onlyIn_withTake _ _) (by decide))

theorem onlyIn_jobAcked (b : Nat) (s : State) : onlyIn [.hold, .mbox] s (jobAcked b s) := by
  unfold jobAcked
  split
  · exact onlyIn_refl _ s
  · refine onlyIn_ite (onlyIn_ite ?_ (onlyIn_mono (onlyIn_withHold _ s) (by decide))) (onlyIn_refl _ s)
    exact onlyIn_trans (onlyIn_mono (onlyIn_withHold _ s) (by decide)) (onlyIn_mono (onlyIn_finish _ _ _ _ _) (by decide))

/-- What holds of the clause of `RecordsAreSentAndAcknowledged` on an entry with status 0: its words, out of READY. -/
theorem ackProducer_durable_of_away {bay : Bay} {rid : U16} {v : U32} {e : AckEntry} {s : State} (takes : s.link.takes false = true)
    (accepted : acceptsWrite (bayNum bay) rid s = true) (streaming : (s.bay (bayNum bay)).state = .streaming)
    (next : v.toNat = (s.bay (bayNum bay)).acked + 1) (rises : (s.bay (bayNum bay)).ackProducer ≤ v.toNat)
    (sound : ackCause (s.bay (bayNum bay)) e = 0) (status : e.status = 0) (away : s.mode.mode ≠ .ready) :
    CompletesKeeping (.ackProducer bay rid v [e]) s (stored ++ [.time, .settings, .power, .bus, .aux, .cal, .trust]) fun t =>
      (t.bay (bayNum bay)).commits = (s.bay (bayNum bay)).commits.drop e.count.toNat ∧
      (t.bay (bayNum bay)).acked = (s.bay (bayNum bay)).acked + 1 ∧ (t.bay (bayNum bay)).ackProducer = v.toNat := by
  generalize place : bayNum bay = b at *
  let published := s.setBay b ((s.bay b).withEntries v.toNat [e])
  let acked := noteOwing b (ackDurable b e.count.toNat published)
  have parts : onlyIn [.take, .res, .hold, .mbox] s (jobAcked b acked) :=
    onlyIn_trans (onlyIn_mono (onlyIn_withTake _ s) (by decide)) (onlyIn_trans (onlyIn_mono (onlyIn_ackDurable b _ published) (by decide))
      (onlyIn_trans (onlyIn_mono (onlyIn_withTake _ _) (by decide)) (onlyIn_mono (onlyIn_jobAcked b acked) (by decide))))
  have mode : (jobAcked b acked).mode = s.mode := parts .mode (by decide)
  obtain ⟨finished, settled⟩ := finishTake_keeps (s := jobAcked b acked) (by rwa [mode])
  have level := onlyIn_levelAfter (finishTake (jobAcked b acked))
  have same : sameAccounts (ackDurable b e.count.toNat published) (levelAfter (finishTake (jobAcked b acked))) :=
    sameAccounts_trans (sameAccounts_noteOwing b _) (sameAccounts_trans (sameAccounts_of_take (onlyIn_jobAcked b acked .take (by decide)))
      (sameAccounts_trans settled (sameAccounts_of_take (level .take (by decide)))))
  have accounts : ((levelAfter (finishTake (jobAcked b acked))).bay b).accounts =
      ((s.bay b).pageLimit, (s.bay b).descLimit, v.toNat, (s.bay b).acked + 1, (s.bay b).commits.drop e.count.toNat) := by
    rw [same b, ackDurable_accounts, bay_setBay]
    rfl
  subst place
  refine ⟨_, exec_ackProducer_durable takes accepted streaming next rises sound status,
    kept_of_onlyIn (ps := .take :: .res :: .hold :: .mode :: reporting) ?_ (by decide),
    congrArg (·.2.2.2.2) accounts, congrArg (·.2.2.2.1) accounts, congrArg (·.2.2.1) accounts⟩
  exact onlyIn_trans (onlyIn_mono parts (by decide)) (onlyIn_trans (onlyIn_mono finished (by decide)) (onlyIn_mono level (by decide)))

/-! ## The refutation of O28 -/

/-- READY with a burst whose drain lasts: its take has sent frame 7, the last one, and bay A has not acknowledged it. -/
def drainLasts : State :=
  { State.reset with
    mode := { Reset.mode with mode := .ready, burst := some ⟨true, 1, 2, 0, 0, 0, none, false⟩ },
    take := { Reset.take with
      state := .ending, takeId := 1, active := some 0, first := 7, begun := true, ended := true, last := some 7, sendNext := 8,
      a := { Reset.session with
        state := .streaming, rid := 5, version := 0x21, descLimit := 3, descSeq := 3, commits := [⟨7, 1, 0, 0, 2, true, false⟩] } } }

/-- The DURABLE entry of frame 7, but for its check word. -/
def unsignedAck : AckEntry := ⟨0, 0, 0, 0, 7, 1, 0, 1, 0⟩

/-- The DURABLE entry of frame 7. -/
def lastAck : AckEntry := { unsignedAck with entryCrc := BitVec.ofNat 32 (crc32c (ackBytes unsignedAck)) }

theorem lastAck_sound : ackCause (drainLasts.bay 0) lastAck = 0 := by decide +kernel

/-- The take of `drainLasts` once its last frame is durable. -/
def lastDurable : State := noteOwing 0 (ackDurable 0 1 (drainLasts.setBay 0 ((drainLasts.bay 0).withEntries 1 [lastAck])))

theorem lastDurable_runs : exec (.ackProducer .a 5 1 [lastAck]) drainLasts = .next (levelAfter (finishTake lastDurable)) :=
  (exec_ackProducer_durable (bay := .a) (rid := 5) (v := 1) (s := drainLasts) (by decide) (by decide) (by decide) (by decide) (by decide)
    lastAck_sound rfl).trans (congrArg (fun u => Host.Outcome.next (levelAfter (finishTake u))) (jobAcked_of_none rfl))

/-- `lastDurable` once the end of its take is reported. -/
def takeReported : State := fire0 3 (logEvent 0x060D srcHost (7 % 2 ^ 32) { lastDurable with take := lastDurable.take.completed })

theorem onlyIn_takeReported : onlyIn (.take :: .res :: .hold :: reporting) drainLasts (noteBoth (settleBoth takeReported)) := by
  have acknowledged : onlyIn (.take :: .res :: .hold :: reporting) drainLasts lastDurable :=
    onlyIn_trans (onlyIn_mono (onlyIn_withTake _ _) (by decide))
      (onlyIn_trans (onlyIn_mono (onlyIn_ackDurable 0 1 _) (by decide)) (onlyIn_mono (onlyIn_withTake _ _) (by decide)))
  have reported : onlyIn (.take :: reporting) lastDurable takeReported :=
    onlyIn_trans (onlyIn_mono (onlyIn_withTake _ _) (by decide))
      (onlyIn_trans (onlyIn_mono (onlyIn_logEvent _ _ _ _) (by decide)) (onlyIn_mono (onlyIn_fire _ _ _) (by decide)))
  exact onlyIn_trans acknowledged (onlyIn_mono (onlyIn_trans reported
    (onlyIn_trans (onlyIn_settleBoth _) (onlyIn_mono (onlyIn_noteBoth _) (by decide)))) (by decide))

theorem drainEnds_powers : (levelAfter (finishTake lastDurable)).power = (drainLasts.setDomains viewDomains true).power := by
  have parts := onlyIn_takeReported
  have mode : (noteBoth (settleBoth takeReported)).mode = drainLasts.mode := parts .mode (by decide)
  have dump : (noteBoth (settleBoth takeReported)).dump = drainLasts.dump := parts .dump (by decide)
  have power : (noteBoth (settleBoth takeReported)).power = drainLasts.power := parts .power (by decide)
  have none : (noteBoth (settleBoth takeReported)).take.state = .none := by
    rw [noteBoth_takeState, settleBoth_takeState_none]
    exact congrArg (·.state) ((fire0_take _ _).trans (logEvent_take _ _ _ _))
  have finished : finishTake lastDurable = endBurst (noteBoth (settleBoth takeReported)) :=
    finishTake_completes (l := 7) (b := ⟨true, 1, 2, 0, 0, 0, .none, false⟩) rfl (by decide) (by decide) rfl rfl rfl rfl rfl rfl rfl
  have powered := endBurst_powers (s := noteBoth (settleBoth takeReported)) (by rw [mode]; rfl) rfl rfl (by rw [mode]; rfl) none
    (by rw [dump]; rfl) (by rw [mode]; rfl)
  rw [onlyIn_levelAfter _ .power (by decide), finished, powered]
  simp only [State.setDomains, power]

/-- Refutes O28: an acknowledgement keeps the power in its words, while the one of the last frame also ends a take, and with it the drain of a burst,
whose change to VIEW powers the domains of VIEW where the mode is READY (R404). A burst drains in BURST, so no such change begins in READY; but the
clause speaks of every state, and does not ask for another mode (`ackProducer_durable_of_away`). -/
theorem not_recordsAreSentAndAcknowledged : ¬ Obligations.RecordsAreSentAndAcknowledged := by
  unfold Obligations.RecordsAreSentAndAcknowledged
  intro h
  obtain ⟨-, acks, -⟩ := h .a drainLasts
  obtain ⟨durable, -⟩ := acks 5 1 lastAck (by decide) (by decide) (by decide) (by decide) (by decide) lastAck_sound
  obtain ⟨t, run, kept, -⟩ := durable rfl
  obtain rfl : levelAfter (finishTake lastDurable) = t := Host.Outcome.next.inj (lastDurable_runs.symm.trans run)
  have power : drainLasts.power = (drainLasts.setDomains viewDomains true).power := (kept .power (by decide)).symm.trans drainEnds_powers
  exact absurd (congrArg (·.en.getD 32 false) power) (by decide)

end Sys2Proof.Machine

/-! PROOFS. The tandem link (R249, R251 to R253, R256): its packets, how it comes up and goes down, the end of a join, and HELLO with the roles
that meet. -/

namespace Sys2Proof.Machine

/-! ## Packets (R249) -/

/-- What packets to the partner change while the link is up: their numbers, the time of the latest one, and what is sent. -/
def talks (s t : State) : Prop :=
  onlyIn [.tandem, .sent] s t ∧ t.tandem = { s.tandem with seqs := t.tandem.seqs, sent := t.tandem.sent } ∧ ∃ v, t.sent = v ++ s.sent

theorem talks_refl (s : State) : talks s s := ⟨onlyIn_refl _ s, rfl, [], rfl⟩

theorem talks_trans {s t u : State} (h : talks s t) (k : talks t u) : talks s u := by
  obtain ⟨a, b, v, c⟩ := h
  obtain ⟨d, e, w, f⟩ := k
  refine ⟨onlyIn_trans a d, ?_, w ++ v, by rw [f, c, List.append_assoc]⟩
  rw [e, b]

theorem tandemSend_of_up (kind frame : Nat) (b : List Byte) {s : State} (up : s.tandem.up = true) : tandemSend kind frame b s =
    (s.setTandem { s.tandem with seqs := put s.tandem.seqs kind ((look s.tandem.seqs kind).getD 0 + 1), sent := s.time.now }).send
      (.packet (packetBytes kind s.tandem.version ((look s.tandem.seqs kind).getD 0) frame b)) := if_pos up

theorem talks_tandemSend (kind frame : Nat) (b : List Byte) {s : State} (up : s.tandem.up = true) : talks s (tandemSend kind frame b s) := by
  refine ⟨onlyIn_tandemSend kind frame b s, ?_, ?_⟩
  · rw [tandemSend_of_up kind frame b up]; rfl
  · rw [tandemSend_of_up kind frame b up]; exact ⟨[_], rfl⟩

theorem talks_sendStatus {s : State} (up : s.tandem.up = true) : talks s (sendStatus s) := by
  unfold sendStatus
  split
  · exact talks_tandemSend _ _ _ up
  · exact talks_refl s

theorem eachSend_sent (l : List (Nat × List Byte)) (s : State) :
    (each l (fun p u => u.send (.packet p.2)) s).sent = (l.map fun p => Out.packet p.2).reverse ++ s.sent := by
  induction l generalizing s with
  | nil => rfl
  | cons p l ih => rw [List.map_cons, List.reverse_cons, List.append_assoc]; exact ih _

theorem onPacket_of_up (f : State → State) {s : State} (up : s.tandem.up = true) : onPacket f s = f (heard s) := if_pos up

theorem onlyIn_heard (s : State) : onlyIn [.tandem] s (heard s) := onlyIn_setTandem _ s

/-- The role follows the fuses, the profile, the pins and TANDEM_ROLE_SET. -/
theorem tandemRole_of_onlyIn {ps : List Part} {s t : State} (h : onlyIn ps s t) (few : .fuse ∉ ps ∧ .profileTandem ∉ ps ∧ .pins ∉ ps)
    (role : t.tandem.roleSet = s.tandem.roleSet) : t.tandemRole = s.tandemRole := by
  have fuse : t.fuse = s.fuse := h .fuse few.1
  have profile : t.profileTandem = s.profileTandem := h .profileTandem few.2.1
  have pins : t.pins = s.pins := h .pins few.2.2
  unfold State.tandemRole State.cap
  rw [fuse, profile, pins, role]

theorem tandemRole_setTandem {t : TandemUnit} {s : State} (role : t.roleSet = s.tandem.roleSet) : (s.setTandem t).tandemRole = s.tandemRole :=
  tandemRole_of_onlyIn (onlyIn_setTandem t s) (by decide) role

theorem tandemRole_heard (s : State) : (heard s).tandemRole = s.tandemRole := tandemRole_setTandem rfl

/-! ## The link (R249, R252) -/

/-- The link is up, and the packets that waited have gone out. -/
def State.opened (s : State) : State :=
  each s.tandem.queue (fun p u => u.send (.packet p.2)) (s.setTandem { s.tandem with up := true, heard := s.time.now, queue := [] })

theorem onlyIn_opened (s : State) : onlyIn [.tandem, .sent] s s.opened :=
  onlyIn_trans (onlyIn_mono (onlyIn_setTandem _ s) (by decide))
    (onlyIn_mono (onlyIn_each _ (fun p u => onlyIn_send (.packet p.2) u) s.tandem.queue _) (by decide))

theorem opened_tandem (s : State) : s.opened.tandem = { s.tandem with up := true, heard := s.time.now, queue := [] } :=
  onlyIn_each (fun (p : Nat × List Byte) u => u.send (.packet p.2)) (fun p u => onlyIn_send (.packet p.2) u) s.tandem.queue _ .tandem (by decide)

theorem tandemLink_comesUp {s : State} (on : s.pdOn 59 = true) (down : s.tandem.up = false) :
    Completes .tandemLinkUp s [.tandem, .sent, .link] fun t =>
      t.tandem.up = true ∧ t.tandem.heard = s.time.now ∧ t.tandem.join = s.tandem.join ∧ t.tandem.queue = [] ∧
      ∀ p ∈ s.tandem.queue, Out.packet p.2 ∈ t.sent := by
  have fired : (fire0 31 s.opened).tandem = { s.tandem with up := true, heard := s.time.now, queue := [] } :=
    (fire0_tandem 31 _).trans (opened_tandem s)
  obtain ⟨parts, tandem, v, sent⟩ : talks (fire0 31 s.opened) (sendHello (fire0 31 s.opened)) := talks_tandemSend 1 0 _ (by rw [fired])
  refine ⟨sendHello (fire0 31 s.opened), congrArg Host.Outcome.next (if_pos (by simp [on, down])),
    onlyIn_trans (onlyIn_mono (onlyIn_opened s) (by decide))
      (onlyIn_trans (onlyIn_mono (onlyIn_fire false 31 _) (by decide)) (onlyIn_mono parts (by decide))), ?_⟩
  dsimp only
  rw [tandem, fired]
  refine ⟨rfl, rfl, rfl, rfl, fun p waits => ?_⟩
  obtain ⟨w, more⟩ := fire_sent false 31 s.opened
  have queued : Out.packet p.2 ∈ s.opened.sent := by
    rw [State.opened, eachSend_sent]
    exact List.mem_append_left _ (List.mem_reverse.2 (List.mem_map.2 ⟨p, waits, rfl⟩))
  rw [sent, fire0, more]
  exact List.mem_append_right _ (List.mem_append_right _ queued)

theorem tandemLink_goesDown {s : State} (up : s.tandem.up = true) : Completes .tandemLinkDown s [.tandem, .sent, .link] fun t =>
    t.tandem = { s.tandem with up := false } ∧ Fires false 31 s t :=
  ⟨_, congrArg Host.Outcome.next (if_pos up),
    onlyIn_trans (onlyIn_mono (onlyIn_setTandem _ s) (by decide)) (onlyIn_mono (onlyIn_fire false 31 _) (by decide)),
    fire0_tandem _ _, fires_fire rfl⟩

/-! ## The end of a join (R256) -/

/-- The tandem unit without a join. -/
def TandemUnit.apart (t : TandemUnit) : TandemUnit := { t with join := .none, joinIn := 0, onTsync := false, unacked := [], queue := [] }

theorem endJoin_of_alone {s : State} (alone : ¬ (s.tandem.join = .joined ∨ s.tandem.join = .joining)) : endJoin s = s := if_neg alone

section
variable {s : State} (joins : s.tandem.join = .joined ∨ s.tandem.join = .joining) (free : s.tandem.onTsync = false)
include joins free

theorem endJoin_of_free : endJoin s =
    fire0 31 (logEvent 0x0714 srcTandem 0 (logEvent 0x0711 srcTandem 0 (s.setTandem s.tandem.apart))) := by
  unfold endJoin
  rw [if_pos joins, if_neg (by simp [free])]
  rfl

/-- The end of a join before the boundaries are on TSYNC. -/
theorem endJoin_ends : onlyIn (.tandem :: reporting) s (endJoin s) ∧ (endJoin s).tandem = s.tandem.apart ∧
    Reports 0x0711 srcTandem (endJoin s) ∧ Reports 0x0714 srcTandem (endJoin s) ∧ Fires false 31 s (endJoin s) := by
  rw [endJoin_of_free joins free]
  refine ⟨?_, ?_, reports_fire _ _ (reports_logEvent_kept _ _ _ (reports_logEvent (by decide))), reports_fire _ _ (reports_logEvent (by decide)),
    fires_reported (reportsOnly_trans (reportsOnly_logEvent _ _ _ (s.setTandem s.tandem.apart)) (reportsOnly_logEvent _ _ _ _))⟩
  · exact onlyIn_trans (onlyIn_mono (onlyIn_setTandem _ s) (by decide)) (onlyIn_trans (onlyIn_mono (onlyIn_logEvent _ _ _ _) (by decide))
      (onlyIn_trans (onlyIn_mono (onlyIn_logEvent _ _ _ _) (by decide)) (onlyIn_mono (onlyIn_fire false 31 _) (by decide))))
  · rw [fire0_tandem, logEvent_tandem, logEvent_tandem]
    rfl

/-- R256: 50 ms without a packet. -/
theorem silence_endsJoin : Completes .tandemLinkTimeout s (.time :: .tandem :: reporting) fun t =>
    t.tandem.join = .none ∧ t.tandem.unacked = [] ∧ s.tandem.heard + 50 * Config.ms ≤ t.time.now ∧
    Reports 0x0711 srcTandem t ∧ Reports 0x0714 srcTandem t ∧ Fires false 31 s t := by
  obtain ⟨parts, tandem, lost, ended, fires⟩ := endJoin_ends (s := reachNow (s.tandem.heard + 50 * Config.ms) s) joins free
  have time : (endJoin (reachNow (s.tandem.heard + 50 * Config.ms) s)).time = _ := parts .time (by decide)
  refine ⟨_, congrArg Host.Outcome.next (if_pos joins),
    onlyIn_trans (onlyIn_mono (onlyIn_reachNow _ s) (by decide)) (onlyIn_mono parts (by decide)),
    by rw [tandem]; rfl, by rw [tandem]; rfl, ?_, lost, ended, fires⟩
  rw [time]
  exact reachNow_reaches _ s

end

/-- The partner that leaves ends a join before TSYNC, or a conflict; the role stays. -/
theorem partnerLeaves_keeps {s : State} (free : s.tandem.onTsync = false) :
    onlyIn (.tandem :: reporting) s (partnerLeaves s) ∧ (partnerLeaves s).tandem.roleSet = s.tandem.roleSet := by
  unfold partnerLeaves
  split
  · refine ⟨onlyIn_trans (onlyIn_mono (onlyIn_setTandem _ s) (by decide)) (onlyIn_mono (onlyIn_fire false 31 _) (by decide)), ?_⟩
    rw [fire0_tandem]; rfl
  · by_cases joins : s.tandem.join = .joined ∨ s.tandem.join = .joining
    · obtain ⟨parts, tandem, -⟩ := endJoin_ends joins free
      exact ⟨parts, by rw [tandem]; rfl⟩
    · rw [endJoin_of_alone joins]
      exact ⟨onlyIn_refl _ s, rfl⟩

theorem partnerLeaves_of_none {s : State} (none : s.tandem.join = .none) : partnerLeaves s = s :=
  (if_neg (by simp [none])).trans (endJoin_of_alone (by simp [none]))

/-! ## HELLO (R251 to R253) -/

/-- What HELLO tells of the partner. -/
def State.told (role mode version rtt : Nat) (u : State) : State :=
  u.setTandem { u.tandem with heard := u.time.now, partnerRole := role, partnerMode := mode, version := version, rtt := rtt }

theorem tandemRole_told (role mode version rtt : Nat) (u : State) : (u.told role mode version rtt).tandemRole = u.tandemRole :=
  tandemRole_setTandem rfl

section
variable {s : State} {role mx mode rtt : Nat} (common : 0x11 ≤ mx)
include common

theorem hello_of_common : hello role mx mode rtt s =
    if mode = 0 then State.told role mode 0x11 rtt (if role ≠ s.tandem.partnerRole ∨ mode = 0 then partnerLeaves s else s)
    else meetRoles (State.told role mode 0x11 rtt (if role ≠ s.tandem.partnerRole ∨ mode = 0 then partnerLeaves s else s)) := by
  have version : commonVersion mx = 0x11 := if_pos common
  unfold hello
  rw [version]
  rfl

theorem hello_of_awake (awake : mode ≠ 0) : hello role mx mode rtt s =
    meetRoles (State.told role mode 0x11 rtt (if role ≠ s.tandem.partnerRole ∨ mode = 0 then partnerLeaves s else s)) :=
  (hello_of_common common).trans (if_neg awake)

end

/-- Roles that meet change the join, and vector 31 fires after the event. -/
theorem announced_facts {code data : Nat} (join : TandemUnit) (s : State) (coded : (severity code).isSome) :
    onlyIn (.tandem :: reporting) s (fire0 31 (logEvent code srcTandem data (s.setTandem join))) ∧
    (fire0 31 (logEvent code srcTandem data (s.setTandem join))).tandem = join ∧
    Reports code srcTandem (fire0 31 (logEvent code srcTandem data (s.setTandem join))) ∧
    Fires false 31 s (fire0 31 (logEvent code srcTandem data (s.setTandem join))) :=
  ⟨onlyIn_trans (onlyIn_mono (onlyIn_setTandem _ s) (by decide)) (onlyIn_trans (onlyIn_mono (onlyIn_logEvent _ _ _ _) (by decide))
      (onlyIn_mono (onlyIn_fire false 31 _) (by decide))),
    (fire0_tandem _ _).trans (logEvent_tandem _ _ _ _), reports_fire _ _ (reports_logEvent coded),
    fires_reported (reportsOnly_logEvent code srcTandem data (s.setTandem join))⟩

/-- A module without a role, or beside a partner without one, joins nothing. -/
theorem meetRoles_of_single {s : State} (single : s.tandem.partnerRole < 2) : meetRoles s = s := by
  refine if_pos ?_
  rcases (by omega : s.tandem.partnerRole = 0 ∨ s.tandem.partnerRole = 1) with h | h <;> simp [h]

section
variable {s : State} (version : s.tandem.version ≠ 0) (partner : 2 ≤ s.tandem.partnerRole)
include version partner

theorem meetRoles_of_same (same : s.tandemRole = s.tandem.partnerRole) :
    meetRoles s = fire0 31 (logEvent 0x0712 srcTandem s.tandemRole (s.setTandem { s.tandem with join := .conflict })) :=
  (if_neg (by omega)).trans (if_pos same)

theorem meetRoles_of_other (paired : s.tandemRole ≠ 1) (other : s.tandemRole ≠ s.tandem.partnerRole) (alone : s.tandem.join ≠ .joined) :
    meetRoles s = fire0 31 (logEvent 0x0710 srcTandem s.tandem.version (s.setTandem { s.tandem with join := .joining, joinIn := 0 })) :=
  (if_neg (by omega)).trans ((if_neg other).trans (if_neg alone))

end

section
variable {s : State} (up : s.tandem.up = true) {role mx mode : Byte} (identity : U64) (rtt : U32)
include up

theorem helloPacket_runs :
    exec (.helloPacket role mx mode identity rtt) s = .next (hello role.toNat mx.toNat mode.toNat rtt.toNat s) :=
  congrArg Host.Outcome.next (if_pos up)

theorem hello_versionless (old : mx.toNat < 0x10) : Completes (.helloPacket role mx mode identity rtt) s (.tandem :: reporting) fun t =>
    t.tandem = { s.tandem with heard := s.time.now, partnerRole := role.toNat, partnerMode := mode.toNat, version := 0, rtt := rtt.toNat } ∧
    Reports 0x0724 srcTandem t := by
  have none : commonVersion mx.toNat = 0 := (if_neg (by omega)).trans (if_neg (by omega))
  have run : hello role.toNat mx.toNat mode.toNat rtt.toNat s =
      logEvent 0x0724 srcTandem mx.toNat (s.told role.toNat mode.toNat 0 rtt.toNat) := by
    unfold hello
    rw [none]
    rfl
  exact ⟨_, (helloPacket_runs up identity rtt).trans (congrArg Host.Outcome.next run),
    onlyIn_trans (onlyIn_mono (onlyIn_setTandem _ s) (by decide)) (onlyIn_mono (onlyIn_logEvent _ _ _ _) (by decide)),
    logEvent_tandem _ _ _ _, reports_logEvent (by decide)⟩

section
variable (common : 0x11 ≤ mx.toNat)
include common

theorem hello_beginsJoin (awake : mode ≠ 0) (partner : 2 ≤ role.toNat) (paired : s.tandemRole ≠ 1) (other : s.tandemRole ≠ role.toNat)
    (none : s.tandem.join = .none) : Completes (.helloPacket role mx mode identity rtt) s (.tandem :: reporting) fun t =>
      t.tandem.version = 0x11 ∧ t.tandem.join = .joining ∧ t.tandem.rtt = rtt.toNat ∧ Reports 0x0710 srcTandem t ∧ Fires false 31 s t := by
  have left : (if role.toNat ≠ s.tandem.partnerRole ∨ mode.toNat = 0 then partnerLeaves s else s) = s := by
    rw [partnerLeaves_of_none none, ite_self]
  have role_kept := tandemRole_told role.toNat mode.toNat 0x11 rtt.toNat s
  have run := hello_of_awake (role := role.toNat) (rtt := rtt.toNat) (s := s) common (BitVec.toNat_ne.1 awake)
  rw [left, meetRoles_of_other (Nat.succ_ne_zero 0x10) partner (by rwa [role_kept]) (by rwa [role_kept])
    (by simp [State.told, State.setTandem, none])] at run
  obtain ⟨parts, tandem, reports, fires⟩ := announced_facts (code := 0x0710) (data := 0x11)
    { (s.told role.toNat mode.toNat 0x11 rtt.toNat).tandem with join := .joining, joinIn := 0 }
    (s.told role.toNat mode.toNat 0x11 rtt.toNat) (by decide)
  refine ⟨_, (helloPacket_runs up identity rtt).trans (congrArg Host.Outcome.next run),
    onlyIn_trans (onlyIn_mono (onlyIn_setTandem _ s) (by decide)) parts, ?_, ?_, ?_, reports, fires⟩
  all_goals exact congrArg _ tandem

theorem hello_conflicts (awake : mode ≠ 0) (partner : 2 ≤ role.toNat) (same : s.tandemRole = role.toNat) (free : s.tandem.onTsync = false) :
    Completes (.helloPacket role mx mode identity rtt) s (.tandem :: reporting) fun t =>
      t.tandem.join = .conflict ∧ Reports 0x0712 srcTandem t := by
  have run := hello_of_awake (role := role.toNat) (rtt := rtt.toNat) (s := s) common (BitVec.toNat_ne.1 awake)
  generalize hu : (if role.toNat ≠ s.tandem.partnerRole ∨ mode.toNat = 0 then partnerLeaves s else s) = u at run
  have left : onlyIn (.tandem :: reporting) s u ∧ u.tandem.roleSet = s.tandem.roleSet := by
    subst hu
    split
    · exact partnerLeaves_keeps free
    · exact ⟨onlyIn_refl _ s, rfl⟩
  have role_kept : (u.told role.toNat mode.toNat 0x11 rtt.toNat).tandemRole = role.toNat :=
    (tandemRole_told _ _ _ _ u).trans ((tandemRole_of_onlyIn left.1 (by decide) left.2).trans same)
  rw [meetRoles_of_same (Nat.succ_ne_zero 0x10) partner role_kept] at run
  obtain ⟨parts, tandem, reports, -⟩ := announced_facts (code := 0x0712) (data := (u.told role.toNat mode.toNat 0x11 rtt.toNat).tandemRole)
    { (u.told role.toNat mode.toNat 0x11 rtt.toNat).tandem with join := .conflict } (u.told role.toNat mode.toNat 0x11 rtt.toNat) (by decide)
  exact ⟨_, (helloPacket_runs up identity rtt).trans (congrArg Host.Outcome.next run),
    onlyIn_trans left.1 (onlyIn_trans (onlyIn_mono (onlyIn_setTandem _ u) (by decide)) parts), congrArg _ tandem, reports⟩

theorem hello_endsConflict (single : role.toNat < 2) (news : s.tandem.partnerRole ≠ role.toNat) (conflict : s.tandem.join = .conflict) :
    Completes (.helloPacket role mx mode identity rtt) s [.tandem, .sent, .link] fun t =>
      t.tandem.join = .none ∧ t.tandem.partnerRole = role.toNat ∧ Fires false 31 s t := by
  have left : (if role.toNat ≠ s.tandem.partnerRole ∨ mode.toNat = 0 then partnerLeaves s else s) =
      fire0 31 (s.setTandem { s.tandem with join := .none }) := (if_pos (.inl news.symm)).trans (if_pos conflict)
  have run := hello_of_common (role := role.toNat) (mode := mode.toNat) (rtt := rtt.toNat) (s := s) common
  rw [left, meetRoles_of_single single, ite_self] at run
  refine ⟨_, (helloPacket_runs up identity rtt).trans (congrArg Host.Outcome.next run), ?_, ?_, rfl, ?_⟩
  · exact onlyIn_trans (onlyIn_mono (onlyIn_setTandem _ s) (by decide)) (onlyIn_trans (onlyIn_mono (onlyIn_fire false 31 _) (by decide))
      (onlyIn_mono (onlyIn_setTandem _ _) (by decide)))
  · exact congrArg (·.join) (fire0_tandem 31 (s.setTandem { s.tandem with join := .none }))
  · exact fires_fire (f := false) (n := 31) (s := s) (u := s.setTandem { s.tandem with join := .none }) rfl

end

end

end Sys2Proof.Machine

/-! PROOFS. Tandem modules that meet (R249 to R253, R256, R260): heartbeats, packets that fail, PARTNER_STATUS, the edges of TSYNC, and
TANDEM_ROLE_SET. -/

namespace Sys2Proof.Machine

/-! ## Heartbeats (R92, R256, R260) -/

/-- What the follower takes from HEARTBEAT. -/
def TandemUnit.noted (t : TandemUnit) (mode frame now : Nat) (idle : Bool) : TandemUnit :=
  { t with partnerMode := mode, partnerFrame := if idle then t.partnerFrame else frame,
           partnerArrival := if idle then t.partnerArrival else now }

/-- The follower counts by its latest number alone. -/
theorem countLeader_keeps (frame : Nat) (idle : Bool) (s : State) :
    onlyIn [.tandem, .frame] s (countLeader frame idle s) ∧
    (countLeader frame idle s).tandem = { s.tandem with guessed := (countLeader frame idle s).tandem.guessed } ∧
    (countLeader frame idle s).frame = { s.frame with lastFrame := (countLeader frame idle s).frame.lastFrame } := by
  unfold countLeader
  extract_lets f
  split
  · exact ⟨onlyIn_refl _ s, rfl, rfl⟩
  · exact ⟨onlyIn_trans (onlyIn_mono (onlyIn_setTandem { s.tandem with guessed := false } s) (by decide))
      (onlyIn_mono (onlyIn_withFrame _ (s.setTandem { s.tandem with guessed := false })) (by decide)), rfl, rfl⟩

theorem countLeader_of_free {frame : Nat} {idle : Bool} {s : State} (free : s.tandem.onTsync = false) : countLeader frame idle s = s :=
  if_pos (by simp [free])

theorem countLeader_of_joined {frame : Nat} {idle : Bool} {s : State} (on : s.tandem.onTsync = true) (joined : s.tandem.join = .joined)
    (unplaced : s.frame.leaderNext = none) : (countLeader frame idle s).frame.lastFrame =
      if idle then (if s.tandem.guessed then s.frame.lastFrame - 1 else s.frame.lastFrame) else max s.frame.lastFrame frame := by
  unfold countLeader
  extract_lets f
  rw [if_neg (by simp [on, joined, f, unplaced])]

/-- The answer of a follower, and PARTNER_STATUS after it. -/
theorem answer_talks (frame : Nat) (b : List Byte) {s : State} (up : s.tandem.up = true) :
    talks s (sendStatus (tandemSend 2 frame b s)) ∧
    Out.packet (packetBytes 2 s.tandem.version ((look s.tandem.seqs 2).getD 0) frame b) ∈ (sendStatus (tandemSend 2 frame b s)).sent := by
  have answers := talks_tandemSend 2 frame b up
  have status : talks (tandemSend 2 frame b s) (sendStatus (tandemSend 2 frame b s)) := talks_sendStatus (by rw [answers.2.1]; exact up)
  refine ⟨talks_trans answers status, ?_⟩
  obtain ⟨-, -, v, sent⟩ := status
  rw [sent, tandemSend_of_up 2 frame b up]
  exact List.mem_append_right _ List.mem_cons_self

/-- A follower counts as the leader does, and answers. -/
theorem gotHeartbeat_of_follower {s : State} {b f : U64} {mode : Byte} (awake : mode ≠ 0) (idle : Bool) (follower : s.tandemRole = 3) :
    gotHeartbeat b.toNat f.toNat mode.toNat idle (heard s) =
      sendStatus (tandemSend 2 f.toNat (heartbeatBytes b.toNat f.toNat (if idle then 1 else 0) s)
        (countLeader f.toNat idle (s.setTandem ((heard s).tandem.noted mode.toNat f.toNat s.time.module idle)))) := by
  have role : (heard s).tandemRole = 3 := (tandemRole_heard s).trans follower
  refine (if_neg (BitVec.toNat_ne.1 awake)).trans ((if_pos role).trans ?_)
  cases idle <;> rfl

section
variable {s : State} (up : s.tandem.up = true) {b f : U64} {mode : Byte}
include up

theorem heartbeat_runs (idle : Bool) : exec (.heartbeat b f mode idle) s = .next (gotHeartbeat b.toNat f.toNat mode.toNat idle (heard s)) :=
  congrArg Host.Outcome.next (onPacket_of_up _ up)

section
variable (awake : mode ≠ 0)
include awake

theorem heartbeat_answered (idle : Bool) (follower : s.tandemRole = 3) :
    Completes (.heartbeat b f mode idle) s [.tandem, .sent, .frame] fun t =>
      (∃ g q w, t.tandem = { (heard s).tandem.noted mode.toNat f.toNat s.time.module idle with guessed := g, seqs := q, sent := w }) ∧
      Out.packet (packetBytes 2 s.tandem.version ((look s.tandem.seqs 2).getD 0) f.toNat
        (heartbeatBytes b.toNat f.toNat (if idle then 1 else 0) t)) ∈ t.sent ∧
      t.frame = { s.frame with lastFrame := t.frame.lastFrame } ∧
      (s.tandem.onTsync = false → t.frame.lastFrame = s.frame.lastFrame) ∧
      (s.tandem.onTsync = true → s.tandem.join = .joined → s.frame.leaderNext = none → t.frame.lastFrame =
        if idle then (if s.tandem.guessed then s.frame.lastFrame - 1 else s.frame.lastFrame) else max s.frame.lastFrame f.toNat) := by
  let u := s.setTandem ((heard s).tandem.noted mode.toNat f.toNat s.time.module idle)
  let c := countLeader f.toNat idle u
  obtain ⟨counted, tandem, frame⟩ := countLeader_keeps f.toNat idle u
  have isUp : c.tandem.up = true := (congrArg (·.up) tandem).trans up
  obtain ⟨⟨parts, answered, -⟩, packet⟩ := answer_talks f.toNat (heartbeatBytes b.toNat f.toNat (if idle then 1 else 0) s) isUp
  let t := sendStatus (tandemSend 2 f.toNat (heartbeatBytes b.toNat f.toNat (if idle then 1 else 0) s) c)
  have total : onlyIn [.tandem, .sent, .frame] s t := onlyIn_trans (onlyIn_mono (onlyIn_setTandem _ s) (by decide))
    (onlyIn_trans (onlyIn_mono counted (by decide)) (onlyIn_mono parts (by decide)))
  have modeKept : t.mode = s.mode := total .mode (by decide)
  have frameKept : t.frame = c.frame := parts .frame (by decide)
  refine ⟨t, (heartbeat_runs up idle).trans (congrArg Host.Outcome.next (gotHeartbeat_of_follower awake idle follower)), total,
    ?_, ?_, ?_, ?_, ?_⟩
  · exact ⟨c.tandem.guessed, t.tandem.seqs, t.tandem.sent, by rw [answered, tandem]; rfl⟩
  · rw [tandem] at packet
    unfold heartbeatBytes at packet ⊢
    rw [modeKept]
    exact packet
  · rw [frameKept]
    exact frame
  · intro free
    rw [frameKept]
    exact congrArg (·.frame.lastFrame) (countLeader_of_free (s := u) free)
  · intro on joined unplaced
    rw [frameKept]
    exact countLeader_of_joined (s := u) on joined unplaced

theorem heartbeat_noted (other : s.tandemRole ≠ 3) (idle : Bool) : Completes (.heartbeat b f mode idle) s [.tandem] fun t =>
    t.tandem = { s.tandem with heard := s.time.now, partnerMode := mode.toNat } := by
  have role : (heard s).tandemRole ≠ 3 := fun h => other ((tandemRole_heard s).symm.trans h)
  exact ⟨_, (heartbeat_runs up idle).trans (congrArg Host.Outcome.next ((if_neg (BitVec.toNat_ne.1 awake)).trans (if_neg role))),
    onlyIn_trans (onlyIn_heard s) (onlyIn_setTandem _ _), rfl⟩

end

/-- A partner that goes to DORMANT ends the join. -/
theorem heartbeat_ofDormant (asleep : mode = 0) (joins : s.tandem.join = .joined ∨ s.tandem.join = .joining) (free : s.tandem.onTsync = false)
    (idle : Bool) : Completes (.heartbeat b f mode idle) s (.tandem :: reporting) fun t =>
      t.tandem.join = .none ∧ t.tandem.partnerMode = 0 ∧ Reports 0x0711 srcTandem t ∧ Reports 0x0714 srcTandem t ∧ Fires false 31 s t := by
  let u := s.setTandem { (heard s).tandem with partnerMode := mode.toNat }
  have calm : u.tandem.join ≠ .conflict := by rcases joins with h | h <;> simp [u, State.setTandem, heard, h]
  have run : gotHeartbeat b.toNat f.toNat mode.toNat idle (heard s) = endJoin u :=
    (if_pos (by rw [asleep]; rfl)).trans (if_neg calm)
  obtain ⟨parts, tandem, lost, ended, fires⟩ := endJoin_ends (s := u) joins free
  exact ⟨_, (heartbeat_runs up idle).trans (congrArg Host.Outcome.next run), onlyIn_trans (onlyIn_mono (onlyIn_setTandem _ s) (by decide)) parts,
    by rw [tandem]; rfl, by rw [tandem]; exact congrArg BitVec.toNat asleep, lost, ended, fires⟩

theorem keepalive_sent (leader : s.tandemRole = 2) : Completes .heartbeatKeepalive s [.time, .tandem, .sent] fun t =>
    s.tandem.sent + 10 * Config.ms ≤ t.time.now ∧ t.tandem.sent = t.time.now := by
  let u := reachNow (s.tandem.sent + 10 * Config.ms) s
  have sends := tandemSend_of_up (s := u) 2 u.frame.lastFrame (heartbeatBytes u.time.module 0 2 u) up
  refine ⟨tandemSend 2 u.frame.lastFrame (heartbeatBytes u.time.module 0 2 u) u, congrArg Host.Outcome.next (if_pos ⟨leader, up⟩),
    onlyIn_trans (onlyIn_mono (onlyIn_reachNow _ s) (by decide)) (onlyIn_mono (onlyIn_tandemSend _ _ _ _) (by decide)), ?_⟩
  rw [sends]
  exact ⟨reachNow_reaches _ s, rfl⟩

/-! ## Packets that fail, and PARTNER_STATUS (R249) -/

theorem crcFail_counted : Completes .tandemPacketCrcFail s (.tandem :: reporting) fun t =>
    t.tandem = { s.tandem with crcFail := bump32 s.tandem.crcFail 1, crcFrame := some s.frame.lastFrame } ∧
    (s.tandem.crcFrame ≠ some s.frame.lastFrame → Reports 0x0723 srcTandem t) := by
  refine ⟨crcFail s, congrArg Host.Outcome.next (if_pos up), ?_⟩
  unfold crcFail
  extract_lets old counted
  have parts : onlyIn (.tandem :: reporting) s counted := onlyIn_mono (onlyIn_setTandem _ s) (by decide)
  split
  next again => exact ⟨parts, rfl, fun first => absurd again first⟩
  next => exact ⟨onlyIn_trans parts (onlyIn_mono (onlyIn_logEvent _ _ _ _) (by decide)), logEvent_tandem _ _ _ _,
      fun _ => reports_logEvent (by decide)⟩

theorem partnerStatus_kept (version : s.tandem.version = 0x11) (temps : List Int) (input : Byte) (faults : U32) :
    Completes (.partnerStatus temps input faults) s [.tandem] fun t =>
      t.tandem = { s.tandem with heard := s.time.now, info := some ⟨temps, input.toNat, faults.toNat⟩ } :=
  ⟨_, congrArg Host.Outcome.next ((onPacket_of_up _ up).trans (if_pos version)), onlyIn_trans (onlyIn_heard s) (onlyIn_setTandem _ _), rfl⟩

end

/-! ## The edges of TSYNC (R253) -/

theorem mem_insertEntry {p q : Nat × LedgerEntry} {l : List (Nat × LedgerEntry)} (h : q ∈ insertEntry p l) : q = p ∨ q ∈ l := by
  induction l with
  | nil => exact .inl (List.mem_singleton.1 h)
  | cons x l ih =>
    unfold insertEntry at h
    split at h
    · exact List.mem_cons.1 h
    · rcases List.mem_cons.1 h with rfl | deeper
      · exact .inr List.mem_cons_self
      · exact (ih deeper).imp_right (List.mem_cons_of_mem _)

theorem waiting_of_inOrder {l : Ledger} {q : Nat × LedgerEntry} (h : q ∈ l.inOrder) : q ∈ l.waiting := by
  have folded (m : List (Nat × LedgerEntry)) (h : q ∈ m.foldr insertEntry []) : q ∈ m := by
    induction m with
    | nil => exact h
    | cons p m ih => exact (mem_insertEntry h).elim (fun e => e ▸ List.mem_cons_self) fun deeper => List.mem_cons_of_mem _ (ih deeper)
  exact folded _ h

/-- What a latch leaves: the join, and where the follower's next boundary and its exposure stand. -/
def latches (s t : State) : Prop :=
  onlyIn ([.frame, .ledger, .settings] ++ reporting) s t ∧ t.frame.leaderNext = s.frame.leaderNext ∧ t.frame.flying = s.frame.flying ∧
  t.frame.window = s.frame.window

theorem latches_refl (s : State) : latches s s := ⟨onlyIn_refl _ s, rfl, rfl, rfl⟩

theorem latches_trans {s t u : State} (h : latches s t) (k : latches t u) : latches s u := by
  obtain ⟨a, b, c, d⟩ := h
  obtain ⟨e, f, g, i⟩ := k
  exact ⟨onlyIn_trans a e, f.trans b, g.trans c, i.trans d⟩

theorem latches_each {α : Type} {f : α → State → State} (h : ∀ a s, latches s (f a s)) (l : List α) (s : State) :
    latches s (each l f s) := by
  induction l generalizing s with
  | nil => exact latches_refl s
  | cons a l ih => exact latches_trans (h a s) (ih (f a s))

theorem latches_refuseEntry (i : Nat) (e : LedgerEntry) (s : State) : latches s (refuseEntry i e s) := by
  refine ⟨onlyIn_trans (onlyIn_mono (onlyIn_withLedger _ s) (by decide)) (onlyIn_mono (onlyIn_logFrame _ _ _ _ _) (by decide)), ?_, ?_, ?_⟩
  all_goals exact congrArg _ (logFrame_frame _ _ _ _ _)

theorem latches_latchSensor (prev : Nat) (p : Nat × LedgerEntry) (s : State) : latches s (latchSensor prev p s) := by
  unfold latchSensor
  extract_lets x
  split
  · exact ⟨by intro q hq; cases q <;> simp [Part.same] at hq ⊢, rfl, rfl, rfl⟩
  · exact latches_refuseEntry _ _ s

theorem latches_latchConv (p : Nat × LedgerEntry) (s : State) : latches s (latchConv p s) :=
  ⟨by intro q hq; cases q <;> simp [Part.same, latchConv] at hq ⊢, rfl, rfl, rfl⟩

theorem latches_withSens1 (x : SensorSet) (s : State) : latches s { s with frame := { s.frame with sens1 := x } } :=
  ⟨onlyIn_mono (onlyIn_withFrame _ s) (by decide), rfl, rfl, rfl⟩

theorem latches_latchAtJoin (j : Nat) (s : State) : latches s (latchAtJoin j s) := by
  unfold latchAtJoin
  refine latches_trans ?_ (latches_each latches_latchConv _ _)
  refine latches_trans ?_ (latches_each (latches_latchSensor _) _ _)
  exact latches_trans (latches_each (latches_latchSensor _) _ s) (latches_withSens1 _ _)

/-- Where no mirrored entry waits, only the settings of the next frame move up. -/
theorem latchAtJoin_of_none_mirrored {s : State} (none : ∀ p ∈ s.ledger.waiting, p.2.mirrored = false) (j : Nat) :
    latchAtJoin j s = { s with frame := { s.frame with sens1 := s.frame.sens2 } } := by
  have idle (u : State) (same : u.ledger = s.ledger) (n : Nat) :
      (u.ledger.inOrder.filter fun p => p.2.mirrored && decide (p.2.applied ≤ n)) = [] := by
    refine List.filter_eq_nil_iff.2 fun p listed => ?_
    rw [same] at listed
    simp [none p (waiting_of_inOrder listed)]
  unfold latchAtJoin
  simp [each, idle]

/-- The follower turns to TSYNC at the edge before B_J: the exposure in progress is abandoned, and its number is the leader's. -/
def State.turned (s : State) : State :=
  { s with tandem := { s.tandem with onTsync := true, holdover := false },
           frame := { s.frame with leaderNext := some (s.tandem.joinFrame, s.time.module + 200 - s.tandem.rtt / 20), flying := none, pending := none,
                                   window := none, windows := 0 } }

theorem onlyIn_turned (s : State) : onlyIn [.tandem, .frame] s s.turned := by
  intro p hp; cases p <;> simp [Part.same, State.turned] at hp ⊢

section
variable {s : State} (follower : s.tandemRole = 3)
include follower

theorem tsync_places (on : s.tandem.onTsync = true) : Completes .tsyncEdge s [.frame] fun t =>
    t.frame = { s.frame with leaderNext := some (s.lastNumber + 1, s.time.module + 200 - s.tandem.rtt / 20) } :=
  ⟨_, congrArg Host.Outcome.next ((if_neg (not_not_intro follower)).trans (if_pos on)), onlyIn_withFrame _ s, rfl⟩

section
variable (free : s.tandem.onTsync = false) (joining : s.tandem.join = .joining)
include free joining

theorem tsync_counts (later : 1 < s.tandem.joinIn) : Completes .tsyncEdge s [.tandem] fun t =>
    t.tandem = { s.tandem with joinIn := s.tandem.joinIn - 1 } :=
  ⟨_, congrArg Host.Outcome.next ((if_neg (not_not_intro follower)).trans ((if_neg (by simp [free])).trans
    ((if_neg (by omega)).trans (if_pos ⟨joining, later⟩)))), onlyIn_setTandem _ s, rfl⟩

section
variable (now : s.tandem.joinIn = 1)
include now

theorem tsyncEdge_turns : exec .tsyncEdge s = .next (latchAtJoin s.tandem.joinFrame s.turned) :=
  congrArg Host.Outcome.next ((if_neg (not_not_intro follower)).trans ((if_neg (by simp [free])).trans (if_pos ⟨joining, now⟩)))

theorem tsync_joins : Completes .tsyncEdge s ([.frame, .tandem, .ledger, .settings] ++ reporting) fun t =>
    t.tandem = { s.tandem with onTsync := true, holdover := false } ∧
    t.frame.leaderNext = some (s.tandem.joinFrame, s.time.module + 200 - s.tandem.rtt / 20) ∧ t.frame.flying = none ∧ t.frame.window = none := by
  obtain ⟨parts, next, flying, window⟩ := latches_latchAtJoin s.tandem.joinFrame s.turned
  exact ⟨_, tsyncEdge_turns follower free joining now,
    onlyIn_trans (onlyIn_mono (onlyIn_turned s) (by decide)) (onlyIn_mono parts (by decide)), parts .tandem (by decide), next, flying, window⟩

theorem tsync_joins_unmirrored (none : ∀ p ∈ s.ledger.waiting, p.2.mirrored = false) : Completes .tsyncEdge s [.frame, .tandem] fun t =>
    t.frame.sens0 = s.frame.sens0 ∧ t.frame.sens1 = s.frame.sens2 ∧ t.frame.sens2 = s.frame.sens2 :=
  ⟨_, (tsyncEdge_turns follower free joining now).trans (congrArg Host.Outcome.next (latchAtJoin_of_none_mirrored (s := s.turned) none _)),
    onlyIn_trans (onlyIn_mono (onlyIn_turned s) (by decide)) (onlyIn_mono (onlyIn_withFrame _ _) (by decide)), rfl, rfl, rfl⟩

end

end

end

/-! ## TANDEM_ROLE_SET (R251, R301) -/

/-- A change that moves no join and finds no link has no other effect. -/
theorem underRole_of_down {f : State → State} {s : State} (none : (f s).tandem.join = .none) (down : (f s).tandem.up = false) :
    underRole f s = f s := by
  have alone : endJoin (f s) = f s := endJoin_of_alone (by simp [none])
  simp [underRole, alone, none, down]

section
variable {r : Req} {role : Byte} {s : State} (waits : Waiting .tandemRoleSet r s) (len : r.len = 4) (range : role.toNat ≤ 3)
  (permits : s.roleMode = true)
include waits len range permits

theorem tandemRoleSet_runs : exec (.tandemRoleSet r role) s = .next (tandemRoleAct role.toNat (reqOf .tandemRoleSet r s) (takeUp r s)) :=
  command_exec rfl waits (fixed_passes len waits.reserved (decide_eq_true range) permits waits.free)

theorem tandemRoleSet_denied (paired : 2 ≤ role.toNat) (fused : s.cap 2 = false) : Completes (.tandemRoleSet r role) s [.time, .mbox] fun t =>
    Answered .tandemRoleSet r true .denied 0 [] s t :=
  completes_answer waits ((tandemRoleSet_runs waits len range permits).trans (congrArg Host.Outcome.next (if_pos ⟨paired, fused⟩)))

theorem tandemRoleSet_sets (down : s.tandem.up = false) (allowed : role.toNat < 2 ∨ s.cap 2 = true) (none : s.tandem.join = .none) :
    Completes (.tandemRoleSet r role) s [.time, .mbox, .tandem] fun t =>
      t.tandem = { s.tandem with roleSet := role.toNat } ∧ Answered .tandemRoleSet r true .ok 0 [] s t := by
  have fused : ¬ (2 ≤ role.toNat ∧ (takeUp r s).cap 2 = false) := by
    rintro ⟨paired, off⟩
    rcases allowed with single | on
    · omega
    · exact absurd (on.symm.trans off) (by decide)
  have run := (tandemRoleSet_runs waits len range permits).trans (congrArg Host.Outcome.next (if_neg fused))
  rw [underRole_of_down none down] at run
  exact ⟨_, run, onlyIn_trans (onlyIn_mono (onlyIn_takeUp r s) (by decide)) (onlyIn_trans (onlyIn_mono (onlyIn_setTandem _ _) (by decide))
    (onlyIn_mono (onlyIn_respond _ _ _ _ _ _) (by decide))), respond_tandem _ _ _ _ _ _, respond_answers waits fun _ => rfl⟩

end

/-! ## The statement -/

/-- Settles O30: one lemma for each change of the link, each HELLO and HEARTBEAT by the two roles, each end of a join, and each edge of TSYNC. -/
theorem tandemModulesMeet : Obligations.TandemModulesMeet := by
  unfold Obligations.TandemModulesMeet
  intro s
  refine ⟨tandemLink_comesUp, fun up => ⟨tandemLink_goesDown up, fun role mx mode identity rtt => ⟨?_, ?_, ?_, ?_⟩,
      fun b f mode => ⟨?_, ?_, ?_, ?_⟩, keepalive_sent up, crcFail_counted up, fun temps input faults version => partnerStatus_kept up version temps input faults⟩,
    silence_endsJoin, fun follower => ⟨tsync_places follower, fun free joining now => ⟨?_, ?_⟩, tsync_counts follower⟩,
    fun r role waits len range permits => ⟨?_, ?_⟩⟩
  · exact hello_versionless up identity rtt
  · exact hello_beginsJoin up identity rtt
  · exact hello_conflicts up identity rtt
  · exact hello_endsConflict up identity rtt
  · intro follower awake
    obtain ⟨t, run, parts, ⟨g, q, w, tandem⟩, packet, frame, free, joined⟩ := heartbeat_answered up awake false follower (b := b) (f := f)
    exact ⟨t, run, parts, by rw [tandem]; rfl, by rw [tandem]; rfl, by rw [tandem]; rfl, packet, by rw [tandem]; rfl, by rw [tandem]; rfl,
      frame, free, joined⟩
  · intro follower awake
    obtain ⟨t, run, parts, ⟨g, q, w, tandem⟩, packet, frame, -, joined⟩ := heartbeat_answered up awake true follower (b := b) (f := f)
    exact ⟨t, run, parts, by rw [tandem]; rfl, by rw [tandem]; rfl, by rw [tandem]; rfl, packet, by rw [tandem]; rfl, frame, joined⟩
  · exact fun other awake => heartbeat_noted up awake other
  · exact heartbeat_ofDormant up
  · exact tsync_joins follower free joining now
  · exact tsync_joins_unmirrored follower free joining now
  · exact tandemRoleSet_sets waits len range permits
  · exact tandemRoleSet_denied waits len range permits

end Sys2Proof.Machine

/-! PROOFS. Tandem modules that mirror (R250, R252, R254, R255, R257): JOIN, LEDGER and its acknowledgement, LEDGER_CANCEL, and the partner
frames that a leader keeps, pairs and repeats. -/

namespace Sys2Proof.Machine

/-! ## JOIN (R252) -/

theorem join_adopts {s : State} (up : s.tandem.up = true) (first : U64) (l : List Setting) (follower : s.tandemRole = 3)
    (joining : s.tandem.join = .joining) (joinable : s.joinable = true) (idle : s.ledger.waiting = []) :
    Completes (.join first l []) s (.settings :: .frame :: .res :: .tandem :: reporting) fun t =>
      t.settings = applyAll l s.settings ∧ t.frame.sens0 = t.settings.sensor ∧ t.tandem.joinIn = 4 ∧ t.tandem.joinFrame = first.toNat ∧
      t.res = s.res.dropPreroll ∧ Reports 0x0716 srcTandem t := by
  let u := s.setTandem { (heard s).tandem with joinIn := 4, joinFrame := first.toNat }
  let v := logEvent 0x0716 srcTandem 0 { u with res := s.res.dropPreroll }
  have role : (heard s).tandemRole = 3 := (tandemRole_heard s).trans follower
  have run : gotJoin first.toNat l [] (heard s) = adopt l v := by
    unfold gotJoin
    rw [if_pos ⟨role, joining, joinable⟩, show (heard s).ledger.waiting = [] from idle]
    rfl
  have logged : onlyIn (.res :: .tandem :: reporting) s v := onlyIn_trans (onlyIn_mono (onlyIn_setTandem _ s) (by decide))
    (onlyIn_trans (onlyIn_mono (onlyIn_withRes _ u) (by decide)) (onlyIn_mono (onlyIn_logEvent _ _ _ _) (by decide)))
  have settings : v.settings = s.settings := logged .settings (by decide)
  have tandem : v.tandem = u.tandem := logEvent_tandem _ _ _ _
  have adopted : onlyIn [.settings, .frame] v (adopt l v) := by
    intro p hp; cases p <;> simp [Part.same, adopt] at hp ⊢
  refine ⟨adopt l v, congrArg Host.Outcome.next ((onPacket_of_up _ up).trans run),
    onlyIn_trans (onlyIn_mono logged (by decide)) (onlyIn_mono adopted (by decide)), ?_, rfl, ?_, ?_, ?_, ?_⟩
  · exact congrArg (applyAll l) settings
  · exact congrArg (·.joinIn) tandem
  · exact congrArg (·.joinFrame) tandem
  · exact logEvent_res _ _ _ _
  · exact reports_of (reports_logEvent (by decide)) rfl rfl

/-! ## Mirrored entries (R250, R254) -/

/-- A mirrored entry that comes in time, in the ledger of the follower. -/
def mirroredEntry (m : Mirrored) (accept : Nat) : LedgerEntry :=
  ⟨m.seq.toNat, m.applied.toNat, m.applied.toNat, m.settings, Classes.none, Classes.none, false, true, accept, 0xFF, 0⟩

theorem takeMirrored_inTime {s : State} {m : Mirrored} {k : Nat}
    (fresh : (s.ledger.waiting.any fun p => p.2.mirrored && decide (p.2.seq = m.seq.toNat)) = false) (free : s.ledger.freeSlot = some k)
    (inTime : let c := classesOf m.settings; let ahead : Int := if c.sensor then 2 else if c.conv then 1 else 0
      s.number (s.frame.index + 1) + ahead ≤ (m.applied.toNat : Int)) :
    takeMirrored m s = some { s with ledger := s.ledger.setSlot k (some (mirroredEntry m s.time.module)) } := by
  unfold takeMirrored
  simp only [fresh, free, decide_eq_false (Int.not_lt.2 inTime), Bool.and_false, Bool.false_eq_true, if_false]
  rfl

section
variable {s : State} (up : s.tandem.up = true)
include up

theorem ledger_mirrored (m : Mirrored) (k : Nat) (follower : s.tandemRole = 3) (joined : s.tandem.join = .joined)
    (fresh : (s.ledger.waiting.any fun p => p.2.mirrored && decide (p.2.seq = m.seq.toNat)) = false) (free : s.ledger.freeSlot = some k)
    (inTime : let c := classesOf m.settings; let ahead : Int := if c.sensor then 2 else if c.conv then 1 else 0
      s.number (s.frame.index + 1) + ahead ≤ (m.applied.toNat : Int)) :
    Completes (.ledger m) s [.tandem, .ledger, .sent] fun t =>
      t.ledger.slots = s.ledger.slots.set k (some (mirroredEntry m s.time.module)) ∧ t.tandem.slips = s.tandem.slips ∧
      t.sent = .packet (packetBytes 5 s.tandem.version ((look s.tandem.seqs 5).getD 0) m.applied.toNat (leBytes 4 m.seq.toNat)) :: s.sent := by
  let u : State := { heard s with ledger := s.ledger.setSlot k (some (mirroredEntry m s.time.module)) }
  have role : (heard s).tandemRole = 3 := (tandemRole_heard s).trans follower
  have taken : takeMirrored m (heard s) = some u := takeMirrored_inTime (s := heard s) fresh free inTime
  have run : gotLedger m (heard s) = tandemSend 5 m.applied.toNat (leBytes 4 m.seq.toNat) u := by
    refine (if_pos ⟨role, .inl joined⟩).trans ?_
    rw [taken]
  have answer := tandemSend_of_up (s := u) 5 m.applied.toNat (leBytes 4 m.seq.toNat) up
  refine ⟨tandemSend 5 m.applied.toNat (leBytes 4 m.seq.toNat) u, congrArg Host.Outcome.next ((onPacket_of_up _ up).trans run),
    onlyIn_trans (onlyIn_mono (onlyIn_heard s) (by decide)) (onlyIn_trans (onlyIn_mono (onlyIn_withLedger _ (heard s)) (by decide))
      (onlyIn_mono (onlyIn_tandemSend _ _ _ u) (by decide))), ?_⟩
  rw [answer]
  exact ⟨rfl, rfl, rfl⟩

theorem ledgerAck_settles (q : U32) : Completes (.ledgerAck q) s [.tandem] fun t =>
    t.tandem = { s.tandem with heard := s.time.now, unacked := s.tandem.unacked.filter fun p => decide (p.1.seq ≠ q) } :=
  ⟨_, congrArg Host.Outcome.next (onPacket_of_up _ up), onlyIn_trans (onlyIn_heard s) (onlyIn_setTandem _ _), rfl⟩

end

/-! ## LEDGER_CANCEL (R250) -/

theorem minus_none (c : Classes) : c.minus Classes.none = c := by
  simp [Classes.minus, Classes.none]

/-- Classes that are cancelled as they stand leave none. -/
theorem minus_or_minus (c a : Classes) : c.minus (a.or (c.minus a)) = Classes.none := by
  have left (x y : Bool) : (x && !(y || (x && !y))) = false := by cases x <;> cases y <;> rfl
  simp only [Classes.minus, Classes.or, Classes.none, left]

/-- A cancel of an entry of which nothing has latched gives up its slot. -/
theorem cancelEntry_of_unlatched {e : LedgerEntry} (k : Nat) (s : State) (unlatched : e.latched = Classes.none) :
    cancelEntry k e s = { s with ledger := { s.ledger.setSlot k none with cancelCnt := bump32 s.ledger.cancelCnt 1 } } := by
  have empty : (classesOf e.settings).minus (e.cancelled.or e.removable) = Classes.none := by
    unfold LedgerEntry.removable LedgerEntry.classes
    rw [unlatched, minus_none, minus_or_minus]
  unfold cancelEntry
  extract_lets gone e1 l s1 was
  have emptied : l = s.ledger.setSlot k none := if_pos empty
  rw [if_neg (by simp [unlatched, Classes.none])]
  simp only [s1, emptied]
  rfl

/-- An entry of which a cancel can remove every class has latched none. -/
theorem unlatched_of_removable {e : LedgerEntry} (all : e.removable = ⟨true, true, true, true⟩) : e.latched = Classes.none := by
  have classes := Classes.mk.inj all
  simp only [Bool.and_eq_true, Bool.not_eq_true'] at classes
  obtain ⟨⟨-, h1⟩, ⟨-, h2⟩, ⟨-, h3⟩, -, h4⟩ := classes
  calc e.latched = ⟨e.latched.sensor, e.latched.conv, e.latched.cond, e.latched.recs⟩ := rfl
    _ = Classes.none := by rw [h1, h2, h3, h4]; rfl

theorem ledgerCancel_takesAway {s : State} (up : s.tandem.up = true) (q : U32) (k : Nat) (e : LedgerEntry)
    (follower : s.tandemRole = 3) (version : s.tandem.version = 0x11) (all : e.removable = ⟨true, true, true, true⟩)
    (named : (s.ledger.waiting.filter fun p => p.2.mirrored && decide (p.2.seq = q.toNat)) = [(k, e)]) :
    CompletesKeeping (.ledgerCancelPacket q 15) s (stored ++ [.time, .mode, .settings, .power, .take]) fun t =>
      t.ledger.slots[k]? = some none ∨ s.ledger.slots.length ≤ k := by
  have role : (heard s).tandemRole = 3 := (tandemRole_heard s).trans follower
  have run : ∃ l, gotCancel q.toNat 15 (heard s) = cancelEntry k { e with settings := l } (heard s) := by
    unfold gotCancel
    rw [if_pos ⟨role, version⟩, show ((heard s).ledger.waiting.filter fun p => p.2.mirrored && decide (p.2.seq = q.toNat)) = [(k, e)] from named]
    exact ⟨_, rfl⟩
  obtain ⟨l, run⟩ := run
  have unlatched : ({ e with settings := l } : LedgerEntry).latched = Classes.none := unlatched_of_removable (e := e) all
  rw [cancelEntry_of_unlatched k (heard s) unlatched] at run
  refine ⟨_, congrArg Host.Outcome.next ((onPacket_of_up _ up).trans run),
    kept_of_onlyIn (onlyIn_trans (onlyIn_mono (onlyIn_heard s) (by decide)) (onlyIn_mono (onlyIn_withLedger _ (heard s)) (by decide)) :
      onlyIn [.tandem, .ledger] s _) (by decide), ?_⟩
  show (s.ledger.slots.set k none)[k]? = some none ∨ _
  by_cases inside : k < s.ledger.slots.length
  · exact .inl (List.getElem?_set_self inside)
  · exact .inr (Nat.not_lt.1 inside)

/-! ## Partner frames arrive (R255, R257) -/

theorem receives_frame {t : TandemUnit} {n : Nat} {p : PartnerFrame} (h : t.receives n = some p) : p.frame = n := by
  simpa using List.find?_some h

/-- A pairing that a partner frame completes. -/
def Pairing.completed (x : Pairing) (p q : PartnerFrame) : Pairing :=
  if x.frame = p.frame ∧ x.repeated = false then { x with partner := some q } else x

theorem completed_frame (x : Pairing) (p q : PartnerFrame) : (x.completed p q).frame = x.frame := by
  unfold Pairing.completed; split <;> rfl

/-- A partner frame is taken: it is the last good one, no longer being received, and its pairing shows it. -/
theorem keepPartner_keeps (p : PartnerFrame) (s : State) : onlyIn (.tandem :: reporting) s (keepPartner p s) ∧
    ∃ q pair, q.frame = p.frame ∧ q.ended = true ∧ (keepPartner p s).tandem =
      { s.tandem with lastGood := some q, receiving := s.tandem.receiving.filter fun x => decide (x.frame ≠ p.frame), pairing := pair } ∧
      pair.map (·.frame) = s.tandem.pairing.map (·.frame) := by
  unfold keepPartner
  split
  next =>
    exact ⟨onlyIn_mono (onlyIn_setTandem _ s) (by decide), { p with ended := true }, s.tandem.pairing, rfl, rfl, rfl, rfl⟩
  next w h size =>
    extract_lets q t pair s1 s2
    have noted (b : Bool) (code rows : Nat) (u : State) : onlyIn reporting u (if b then logFrame code srcComp p.frame rows u else u) :=
      onlyIn_ite (onlyIn_logFrame _ _ _ _ u) (onlyIn_refl _ u)
    have events := onlyIn_trans (noted q.padded 0x0721 q.padRows s1) (noted q.truncated 0x0722 q.truncRows s2)
    refine ⟨onlyIn_trans (onlyIn_mono (onlyIn_setTandem _ s) (by decide)) (onlyIn_mono events (by decide)), q, pair, rfl, rfl,
      events .tandem (by decide), ?_⟩
    rw [Option.map_map]
    exact congrArg (Option.map · _) (funext fun x => completed_frame x p q)

theorem settlePartner_of_lines {n : Nat} {p : PartnerFrame} {s : State} (comes : s.tandem.receives n = some p) (lines : p.lines ≠ []) :
    settlePartner n s = keepPartner p s := by
  unfold settlePartner
  simp only [comes]
  exact if_pos lines

section
variable {s : State} (up : s.tandem.up = true)
include up

theorem frameBegin_opens (n : U64) (w h : U16) (leader : s.tandemRole = 2) (joined : s.tandem.join = .joined)
    (wanted : s.tandem.wants n.toNat = true) :
    Completes (.frameBegin n w h) s [.tandem] fun t => t.tandem = { s.tandem with
      heard := s.time.now, partnerFrame := n.toNat, partnerArrival := s.time.module,
      receiving := ⟨n.toNat, w.toNat, h.toNat, [], false, s.time.module, 0, 0, false, false⟩ ::
        s.tandem.receiving.filter fun x => decide (x.frame + 1 = n.toNat) } := by
  have role : (heard s).tandemRole = 2 := (tandemRole_heard s).trans leader
  exact ⟨_, congrArg Host.Outcome.next ((onPacket_of_up _ up).trans (if_pos ⟨role, joined⟩)),
    onlyIn_trans (onlyIn_heard s) (onlyIn_setTandem _ _), if_pos wanted⟩

theorem lines_kept (n : U64) (j k : U16) (px : List (U16 × U16 × U16)) : Completes (.lines n j k px) s [.tandem] fun t =>
    t.tandem = { s.tandem with
      heard := s.time.now,
      receiving := s.tandem.receiving.map fun p => if p.frame = n.toNat then
        { p with lines := p.lines ++ [⟨j.toNat, k.toNat, px.map fun q => (q.1.toNat, q.2.1.toNat, q.2.2.toNat)⟩] } else p } :=
  ⟨_, congrArg Host.Outcome.next (onPacket_of_up _ up), onlyIn_trans (onlyIn_heard s) (onlyIn_setTandem _ _), rfl⟩

theorem frameEnd_settles (n : U64) (sent dropped : U16) {p : PartnerFrame} (comes : s.tandem.receives n.toNat = some p) (lines : p.lines ≠ []) :
    Completes (.frameEnd n sent dropped) s (.tandem :: reporting) fun t =>
      (∃ q, t.tandem.lastGood = some q ∧ q.frame = n.toNat ∧ q.ended = true) ∧ t.tandem.join = s.tandem.join := by
  let u := (heard s).setTandem
    { (heard s).tandem with dropped := (heard s).tandem.dropped + (if sent = 0 then 0 else dropped.toNat) }
  obtain ⟨parts, q, pair, frame, ended, tandem, -⟩ := keepPartner_keeps p u
  have run := settlePartner_of_lines (s := u) comes lines
  refine ⟨_, congrArg Host.Outcome.next ((onPacket_of_up _ up).trans run),
    onlyIn_trans (onlyIn_mono (onlyIn_trans (onlyIn_heard s) (onlyIn_setTandem _ _)) (by decide)) parts,
    ⟨q, congrArg (·.lastGood) tandem, frame.trans (receives_frame comes), ended⟩, congrArg (·.join) tandem⟩

end

/-! ## LEDGER again (R254) -/

/-- The entries that are due go again, and wait from now on. -/
def State.resent (u : State) : State :=
  let due := u.tandem.unacked.filter fun p => decide (p.2 + 20 * Config.us ≤ u.time.now)
  let v := each due (fun p v => sendLedger p.1 v) u
  v.setTandem { v.tandem with unacked := v.tandem.unacked.map fun p => if p ∈ due then (p.1, u.time.now) else p }

theorem resent_of_one {u : State} {m : Mirrored} {at' : Nat} (up : u.tandem.up = true) (waits : u.tandem.unacked = [(m, at')])
    (late : at' + 20 * Config.us ≤ u.time.now) :
    u.resent = (sendLedger m u).setTandem { (sendLedger m u).tandem with unacked := [(m, u.time.now)] } := by
  have due : (u.tandem.unacked.filter fun p => decide (p.2 + 20 * Config.us ≤ u.time.now)) = [(m, at')] := by
    rw [waits]
    exact List.filter_cons_of_pos (decide_eq_true late)
  obtain ⟨-, tandem, -⟩ : talks u (sendLedger m u) := talks_tandemSend _ _ _ up
  have kept : (sendLedger m u).tandem.unacked = [(m, at')] := (congrArg (·.unacked) tandem).trans waits
  unfold State.resent
  rw [due]
  show (sendLedger m u).setTandem { (sendLedger m u).tandem with unacked := (sendLedger m u).tandem.unacked.map _ } = _
  rw [kept]
  simp

section
variable {s : State} (joins : s.tandem.join = .joined ∨ s.tandem.join = .joining) {m : Mirrored} {at' : Nat} (waits : s.tandem.unacked = [(m, at')])
include joins waits

theorem ledgerResend_resends (up : s.tandem.up = true) : Completes .ledgerResend s [.time, .tandem, .sent] fun t =>
    at' + 20 * Config.us ≤ t.time.now ∧ t.tandem.unacked = [(m, t.time.now)] := by
  let u := reachNow (at' + 20 * Config.us) s
  have late : at' + 20 * Config.us ≤ u.time.now := reachNow_reaches _ s
  have run : resend s = u.resent := by
    unfold resend
    rw [if_pos up, waits]
    rfl
  rw [resent_of_one (u := u) up waits late] at run
  obtain ⟨parts, -⟩ : talks u (sendLedger m u) := talks_tandemSend _ _ _ up
  refine ⟨_, congrArg Host.Outcome.next ((if_pos joins).trans run), onlyIn_trans (onlyIn_mono (onlyIn_reachNow _ s) (by decide))
    (onlyIn_trans (onlyIn_mono parts (by decide)) (onlyIn_mono (onlyIn_setTandem _ _) (by decide))), ?_⟩
  have time : (sendLedger m u).time = u.time := parts .time (by decide)
  show at' + 20 * Config.us ≤ (sendLedger m u).time.now ∧ [(m, u.time.now)] = [(m, (sendLedger m u).time.now)]
  rw [time]
  exact ⟨late, rfl⟩

theorem ledgerResend_of_down (down : s.tandem.up = false) : Completes .ledgerResend s [] fun t => t.tandem.unacked = [(m, at')] := by
  have run : resend s = s := by
    unfold resend
    rw [if_neg (by simp [down])]
  exact ⟨s, congrArg Host.Outcome.next ((if_pos joins).trans run), onlyIn_refl _ s, waits⟩

end

/-! ## The compositor (R257) -/

theorem receives_filter {t : TandemUnit} {n k : Nat} (other : n ≠ k) :
    ({ t with receiving := t.receiving.filter fun x => decide (x.frame ≠ k) } : TandemUnit).receives n = t.receives n := by
  unfold TandemUnit.receives
  rw [List.find?_filter]
  congr 1
  funext x
  by_cases h : x.frame = n <;> simp [h, other]

section
variable {s : State} {g : FrameGov} (gov : s.frame.gov = some g)
include gov

section
variable {q : Pairing} {p : PartnerFrame} (pairing : s.tandem.pairing = some q) (next : q.frame + 1 = g.n) (fresh : q.repeated = false)
  (present : q.absent = false) (comes : s.tandem.receives q.frame = some p) (lines : p.lines ≠ [])
include pairing next fresh present comes lines

/-- The deadline of a frame whose lines have come takes it. -/
theorem partnerDeadline_of_lines : partnerDeadline s = keepPartner p (reach (g.boundary + g.period / 4) s) := by
  unfold partnerDeadline
  rw [gov, pairing]
  exact (if_pos ⟨next, fresh, present⟩).trans (settlePartner_of_lines (s := reach (g.boundary + g.period / 4) s) comes lines)

theorem partnerFrameDeadline_takes : Completes .partnerFrameDeadline s (.time :: .tandem :: reporting) fun t =>
    (∃ x, t.tandem.lastGood = some x ∧ x.frame = q.frame ∧ x.ended = true) ∧ g.boundary + g.period / 4 ≤ t.time.module := by
  obtain ⟨parts, x, pair, frame, ended, tandem, -⟩ := keepPartner_keeps p (reach (g.boundary + g.period / 4) s)
  have time : (keepPartner p (reach (g.boundary + g.period / 4) s)).time = _ := parts .time (by decide)
  refine ⟨_, congrArg Host.Outcome.next (partnerDeadline_of_lines gov pairing next fresh present comes lines),
    onlyIn_trans (onlyIn_mono (onlyIn_reach _ s) (by decide)) (onlyIn_mono parts (by decide)),
    ⟨x, congrArg (·.lastGood) tandem, frame.trans (receives_frame comes), ended⟩, ?_⟩
  rw [time]
  exact reach_module _ s

end

/-- The deadline of a frame of which nothing is being received only passes. -/
theorem partnerDeadline_of_unreceived (none : s.tandem.receives (g.n - 1) = .none) :
    onlyIn [.time] s (partnerDeadline s) ∧ s.time.module ≤ (partnerDeadline s).time.module := by
  unfold partnerDeadline
  rw [gov]
  rcases s.tandem.pairing with _ | x
  · exact ⟨onlyIn_refl _ s, Nat.le_refl _⟩
  · dsimp only
    split
    next due =>
      have settled : settlePartner x.frame (reach (g.boundary + g.period / 4) s) = reach (g.boundary + g.period / 4) s := by
        unfold settlePartner
        rw [show (reach (g.boundary + g.period / 4) s).tandem.receives x.frame = .none from (by omega : g.n - 1 = x.frame) ▸ none]
      rw [settled]
      exact ⟨onlyIn_reach _ s, module_le_advance _ _⟩
    next => exact ⟨onlyIn_refl _ s, Nat.le_refl _⟩

section
variable (leader : s.tandemRole = 2) (unpaired : (s.tandem.pairing.map (·.frame)).getD 0 ≠ g.n) {u : State}
  (settled : partnerDeadline (reach (g.boundary + g.period / 4) s) = u)
include leader unpaired settled

/-- The frame of the leader's own number pairs with it. -/
theorem pairingClose_pairs {p : PartnerFrame} (comes : u.tandem.receives g.n = some p) : pairingClose s = u.setTandem { u.tandem with
    before := u.tandem.pairing, pairing := some ⟨g.n, some p, false, false, u.tandem.compMode, u.tandem.compLeft⟩ } := by
  unfold pairingClose
  rw [gov]
  refine (if_pos ⟨leader, unpaired⟩).trans ?_
  rw [settled]
  dsimp only
  rw [show (u.setTandem { u.tandem with before := u.tandem.pairing }).tandem.receives g.n = some p from comes]
  rfl

theorem pairingClose_repeats (none : u.tandem.receives g.n = .none) :
    pairingClose s = repeatPartner g.n (u.setTandem { u.tandem with before := u.tandem.pairing }) := by
  unfold pairingClose
  rw [gov]
  refine (if_pos ⟨leader, unpaired⟩).trans ?_
  rw [settled]
  dsimp only
  rw [show (u.setTandem { u.tandem with before := u.tandem.pairing }).tandem.receives g.n = .none from none]

end

section
variable (leader : s.tandemRole = 2) (unpaired : (s.tandem.pairing.map (·.frame)).getD 0 ≠ g.n)
include leader unpaired

theorem pairingWindow_afterPartner {q : Pairing} {p p' : PartnerFrame} (pairing : s.tandem.pairing = some q) (next : q.frame + 1 = g.n)
    (fresh : q.repeated = false) (present : q.absent = false) (comes : s.tandem.receives q.frame = some p) (lines : p.lines ≠ [])
    (here : s.tandem.receives g.n = some p') : Completes .pairingWindowClose s (.time :: .tandem :: reporting) fun t =>
      t.tandem.pairing = some ⟨g.n, some p', false, false, s.tandem.compMode, s.tandem.compLeft⟩ ∧
      (∃ b, t.tandem.before = some b ∧ b.frame = q.frame) ∧ ∃ x, t.tandem.lastGood = some x ∧ x.frame = q.frame ∧ x.ended = true := by
  let v := reach (g.boundary + g.period / 4) s
  have settled := partnerDeadline_of_lines (s := v) gov pairing next fresh present comes lines
  obtain ⟨parts, x, pair, frame, ended, tandem, same⟩ := keepPartner_keeps p (reach (g.boundary + g.period / 4) v)
  have received := receives_frame comes
  have here' : (keepPartner p (reach (g.boundary + g.period / 4) v)).tandem.receives g.n = some p' := by
    rw [tandem]
    exact (receives_filter (t := s.tandem) (n := g.n) (k := p.frame) (by omega)).trans here
  obtain ⟨b, paired, bframe⟩ : ∃ b, pair = some b ∧ b.frame = q.frame := by
    rw [show (reach (g.boundary + g.period / 4) v).tandem.pairing = some q from pairing] at same
    exact Option.map_eq_some_iff.1 same
  refine ⟨_, congrArg Host.Outcome.next (pairingClose_pairs gov leader unpaired settled here'), ?_, ?_⟩
  · exact onlyIn_trans (onlyIn_mono (onlyIn_trans (onlyIn_reach _ s) (onlyIn_reach _ v)) (by decide))
      (onlyIn_trans (onlyIn_mono parts (by decide)) (onlyIn_mono (onlyIn_setTandem _ _) (by decide)))
  · unfold State.setTandem
    rw [tandem]
    exact ⟨rfl, ⟨b, paired, bframe⟩, x, rfl, frame.trans received, ended⟩

theorem pairingWindow_alone {p : PartnerFrame} (before : s.tandem.receives (g.n - 1) = none) (here : s.tandem.receives g.n = some p) :
    Completes .pairingWindowClose s [.time, .tandem] fun t =>
      t.tandem = { s.tandem with
        pairing := some ⟨g.n, some p, false, false, s.tandem.compMode, s.tandem.compLeft⟩, before := s.tandem.pairing } ∧
      g.boundary + g.period / 4 ≤ t.time.module := by
  obtain ⟨parts, later⟩ := partnerDeadline_of_unreceived (s := reach (g.boundary + g.period / 4) s) gov before
  have tandem : (partnerDeadline (reach (g.boundary + g.period / 4) s)).tandem = s.tandem := parts .tandem (by decide)
  have run := pairingClose_pairs gov leader unpaired rfl (by rw [tandem]; exact here)
  rw [tandem] at run
  exact ⟨_, congrArg Host.Outcome.next run, onlyIn_trans (onlyIn_mono (onlyIn_trans (onlyIn_reach _ s) parts) (by decide))
    (onlyIn_mono (onlyIn_setTandem _ _) (by decide)), rfl, Nat.le_trans (reach_module _ s) later⟩

theorem pairingWindow_repeats (nothing : s.tandem.receiving = []) (joined : s.tandem.join = .joined) :
    Completes .pairingWindowClose s (.time :: .tandem :: reporting) fun t =>
      t.tandem.pairing = some ⟨g.n, s.tandem.lastGood, s.tandem.lastGood.isSome, s.tandem.lastGood.isNone, s.tandem.compMode,
        s.tandem.compLeft⟩ ∧
      Reports 0x0720 srcComp t ∧ Fires true 12 s t := by
  have absent (n : Nat) : s.tandem.receives n = none := by simp [TandemUnit.receives, nothing]
  obtain ⟨parts, -⟩ := partnerDeadline_of_unreceived (s := reach (g.boundary + g.period / 4) s) gov (absent _)
  generalize settled : partnerDeadline (reach (g.boundary + g.period / 4) s) = u at parts
  have passed : onlyIn [.time] s u := onlyIn_trans (onlyIn_reach _ s) parts
  have tandem : u.tandem = s.tandem := passed .tandem (by decide)
  have run := pairingClose_repeats gov leader unpaired settled (by rw [tandem]; exact absent _)
  rw [tandem] at run
  let again : Pairing :=
    ⟨g.n, s.tandem.lastGood, s.tandem.lastGood.isSome, s.tandem.lastGood.isNone, s.tandem.compMode, s.tandem.compLeft⟩
  let v := (u.setTandem { s.tandem with before := s.tandem.pairing }).setTandem
    { s.tandem with before := s.tandem.pairing, pairing := some again }
  have repeats : repeatPartner g.n (u.setTandem { s.tandem with before := s.tandem.pairing }) = fire1 12 (logFrame 0x0720 srcComp g.n 0 v) :=
    if_pos joined
  have moved : onlyIn [.time, .tandem] s v := onlyIn_trans (onlyIn_mono passed (by decide))
    (onlyIn_mono (onlyIn_trans (onlyIn_setTandem _ u) (onlyIn_setTandem _ _)) (by decide))
  refine ⟨_, congrArg Host.Outcome.next (run.trans repeats), ?_, ?_, reports_fire _ _ (reports_logFrame (by decide)), ?_⟩
  · exact onlyIn_trans (onlyIn_mono moved (by decide)) (onlyIn_trans (onlyIn_mono (onlyIn_logFrame _ _ _ _ v) (by decide))
      (onlyIn_mono (onlyIn_fire true 12 _) (by decide)))
  · rw [fire1_tandem, logFrame_tandem]
    rfl
  · exact fires_reported (reportsOnly_trans (reportsOnly_of_onlyIn moved (by decide) (by decide)) (reportsOnly_logFrame _ _ _ _ v))

end

end

/-! ## The statement -/

/-- Settles O31: one lemma for each packet of a mirrored entry, for each packet of the follower's stream, and for each end of a pairing window. -/
theorem tandemModulesMirror : Obligations.TandemModulesMirror := by
  unfold Obligations.TandemModulesMirror
  intro s
  refine ⟨fun up => ⟨join_adopts up, ledger_mirrored up, ledgerAck_settles up, ledgerCancel_takesAway up, frameBegin_opens up, lines_kept up,
      fun n sent dropped p => frameEnd_settles up n sent dropped⟩,
    fun joins m at' waits => ⟨ledgerResend_resends joins waits, ledgerResend_of_down joins waits⟩,
    fun g gov leader unpaired => ⟨fun q p p' => pairingWindow_afterPartner gov leader unpaired, fun p => pairingWindow_alone gov leader unpaired,
      pairingWindow_repeats gov leader unpaired⟩,
    fun g q p gov => partnerFrameDeadline_takes gov⟩

end Sys2Proof.Machine

/-! PROOFS. The module with one request channel replaced: what a step that only touches a channel leaves. -/

namespace Sys2Proof.Machine

/-- The module with another channel. -/
def State.withChannel (s : State) (ch : Chan) (c : Channel) : State := { s with mbox := s.mbox.set ch c }

theorem onlyIn_withChannel (s : State) (ch : Chan) (c : Channel) : onlyIn [.mbox] s (s.withChannel ch c) := onlyIn_withMbox _ s

theorem withChannel_get (s : State) (ch : Chan) (c : Channel) : (s.withChannel ch c).mbox.get ch = c := get_set_same _ _ _

theorem withChannel_other (s : State) {ch d : Chan} (c : Channel) (other : d ≠ ch) : (s.withChannel ch c).mbox.get d = s.mbox.get d :=
  get_set_other _ other _

theorem withChannel_regs (s : State) (ch : Chan) (c : Channel) : (s.withChannel ch c).regs = s.regs := rfl

theorem withChannel_pdOn (s : State) (ch : Chan) (c : Channel) (d : Nat) : (s.withChannel ch c).pdOn d = s.pdOn d := rfl

theorem withChannel_twice (s : State) (ch : Chan) (c d : Channel) : (s.withChannel ch c).withChannel ch d = s.withChannel ch d := by
  cases ch <;> rfl

end Sys2Proof.Machine

/-! PROOFS. The queries with an empty payload (R275, R278, R279; Tables 11-8 to 11-11). -/

namespace Sys2Proof.Machine

/-- A query without a payload answers in every mode. -/
theorem reads_of_bare {c : Instr} {o : Opcode} {r : Req} {payload : State → List Byte} {s : State}
    (run : exec c s = .next (command o r (fun _ => bare r true []) (fun id t => respond id true .ok 0 (payload t) t) s))
    (h : Waiting o r s) (len : r.len = 0) : Reads c o r payload s :=
  reads_of run h (bare_passes len h.reserved rfl h.free)

/-- A request that waits goes on waiting until its turn comes. -/
theorem command_of_other_turn {o : Opcode} {r : Req} {s : State} (k : State → Checks) (act : ReqId → State → State)
    (waits : (s.mbox.get r.chan).waits o r.tag = true) (other : s.mbox.takes o r = false) : command o r k act s = s := by
  unfold command
  simp only [waits, other, if_true, Bool.false_eq_true, if_false]

/-- Settles O1: each query has an empty payload and only answers; one whose turn has not come changes nothing. -/
theorem bareQueriesAnswer : Obligations.BareQueriesAnswer := by
  unfold Obligations.BareQueriesAnswer
  intro r s len
  exact ⟨fun h => reads_of_bare rfl h len, fun h => reads_of_bare rfl h len, fun h => reads_of_bare rfl h len,
    fun h => reads_of_bare rfl h len, fun h => reads_of_bare rfl h len, fun h => reads_of_bare rfl h len,
    fun h => reads_of_bare rfl h len, fun waits other => congrArg Host.Outcome.next (command_of_other_turn _ _ waits other)⟩

end Sys2Proof.Machine

/-! PROOFS. HELLO and BYE (R269, R280, R282): the version that a channel has, and BUSY while another request of the channel is in flight. -/

namespace Sys2Proof.Machine

/-! ## What taking a request and answering it leave of a channel -/

theorem takeUp_ver (r : Req) (s : State) : ((takeUp r s).mbox.get r.chan).ver = (s.mbox.get r.chan).ver := by
  rw [takeUp_channel]; rfl

theorem takeUp_inflight {o : Opcode} {r : Req} {s : State} (h : Waiting o r s) :
    ((takeUp r s).mbox.get r.chan).inflight = (s.mbox.get r.chan).inflight := by
  rw [takeUp_channel]
  simp only [Channel.takeUp, Channel.inflight, released_of_none h.ready, List.length_map]

theorem respond_ver (id : ReqId) (f : Bool) (st : Status) (n : Nat) (b : List Byte) (s : State) (c : Chan) :
    ((respond id f st n b s).mbox.get c).ver = (s.mbox.get c).ver := by
  rw [← queuedOnly_respond id f st n b s c]

/-! ## HELLO -/

section
variable {r : Req} {major minor : Nat} {s : State}

theorem helloAct_of_others (id : ReqId) (others : 1 < (s.mbox.get r.chan).inflight) :
    helloAct r major minor id s = respond id true .busy 0 [] s := if_pos others

theorem helloAct_of_offer {v : Nat × Nat} (id : ReqId) (alone : (s.mbox.get r.chan).inflight ≤ 1) (offer : negotiate major minor = some v) :
    helloAct r major minor id s =
      respond id true .ok 0 (leBytes 1 v.1 ++ leBytes 1 v.2 ++ leBytes 1 (chanNum r.chan) ++ leBytes 1 0 ++ leBytes 8 s.serial)
        (s.withChannel r.chan { s.mbox.get r.chan with ver := some v }) := by
  unfold helloAct
  simp only [Nat.not_lt.2 alone, offer, if_false]
  rfl

theorem helloAct_of_lowOffer (id : ReqId) (alone : (s.mbox.get r.chan).inflight ≤ 1) (offer : negotiate major minor = none) :
    helloAct r major minor id s = respond id true .badVersion 0 [] s := by
  unfold helloAct
  simp only [Nat.not_lt.2 alone, offer, if_false]

end

section
variable {r : Req} {major minor : Byte} {s : State} (h : Waiting .hello r s) (len : r.len = 4)
include h len

theorem hello_runs : exec (.hello r major minor) s = .next (helloAct r major.toNat minor.toNat (reqOf .hello r s) (takeUp r s)) :=
  command_exec rfl h (fixed_passes len h.reserved rfl rfl h.free)

/-- A HELLO that only answers leaves the version of its channel. -/
theorem hello_refused {st : Status}
    (acts : helloAct r major.toNat minor.toNat (reqOf .hello r s) (takeUp r s) = respond (reqOf .hello r s) true st 0 [] (takeUp r s)) :
    Completes (.hello r major minor) s [.time, .mbox] fun t =>
      (t.mbox.get r.chan).ver = (s.mbox.get r.chan).ver ∧ Answered .hello r true st 0 [] s t :=
  ⟨_, (hello_runs h len).trans (congrArg _ acts),
    onlyIn_trans (onlyIn_takeUp r s) (onlyIn_mono (onlyIn_respond _ _ _ _ _ _) (by decide)),
    (respond_ver _ _ _ _ _ _ _).trans (takeUp_ver r s), respond_answers h fun _ => rfl⟩

/-- R282: another request of the channel is in flight. -/
theorem hello_busy (others : 1 < (s.mbox.get r.chan).inflight) : Completes (.hello r major minor) s [.time, .mbox] fun t =>
    (t.mbox.get r.chan).ver = (s.mbox.get r.chan).ver ∧ Answered .hello r true .busy 0 [] s t :=
  hello_refused h len (helloAct_of_others _ ((takeUp_inflight h).symm ▸ others))

variable (alone : (s.mbox.get r.chan).inflight ≤ 1)
include alone

theorem hello_negotiates {v : Nat × Nat} (offer : negotiate major.toNat minor.toNat = some v) :
    Completes (.hello r major minor) s [.time, .mbox] fun t => (t.mbox.get r.chan).ver = some v := by
  have acts := helloAct_of_offer (s := takeUp r s) (reqOf .hello r s) (Nat.le_trans (Nat.le_of_eq (takeUp_inflight h)) alone) offer
  refine ⟨_, (hello_runs h len).trans (congrArg _ acts), ?_,
    (respond_ver _ _ _ _ _ _ _).trans (congrArg Channel.ver (withChannel_get _ _ _))⟩
  exact onlyIn_trans (onlyIn_takeUp r s) (onlyIn_trans (onlyIn_mono (onlyIn_withChannel _ _ _) (by decide))
    (onlyIn_mono (onlyIn_respond _ _ _ _ _ _) (by decide)))

theorem hello_badVersion (offer : negotiate major.toNat minor.toNat = none) :
    Completes (.hello r major minor) s [.time, .mbox] fun t =>
      (t.mbox.get r.chan).ver = (s.mbox.get r.chan).ver ∧ Answered .hello r true .badVersion 0 [] s t :=
  hello_refused h len (helloAct_of_lowOffer _ (Nat.le_trans (Nat.le_of_eq (takeUp_inflight h)) alone) offer)

end

/-! ## BYE -/

theorem bye_runs {r : Req} {s : State} (h : Waiting .bye r s) (len : r.len = 0) :
    exec (.bye r) s = .next (byeAct r (reqOf .bye r s) (takeUp r s)) :=
  command_exec rfl h (bare_passes len h.reserved rfl h.free)

/-- A mailbox whose channel is as before HELLO; on CH2 the authentication has ended too. -/
def Mailbox.dismissed (m : Mailbox) (ch : Chan) : Mailbox :=
  { m.set ch { m.get ch with ver := none } with auth := if ch = .ch2 then m.auth.ended else m.auth }

theorem byeAct_dismisses (r : Req) (id : ReqId) (s : State) : byeAct r id s =
    { respond id true .ok 0 [] s with mbox := (respond id true .ok 0 [] s).mbox.dismissed r.chan } := by
  unfold byeAct Mailbox.dismissed
  cases r.chan <;> rfl

theorem dismissed_get (m : Mailbox) (ch : Chan) : (m.dismissed ch).get ch = { m.get ch with ver := none } := by cases ch <;> rfl

theorem dismissed_other (m : Mailbox) {ch c : Chan} (other : c ≠ ch) : (m.dismissed ch).get c = m.get c :=
  (by cases c <;> rfl : (m.dismissed ch).get c = (m.set ch { m.get ch with ver := none }).get c).trans (get_set_other m other _)

theorem bye_dismisses {r : Req} {s : State} (h : Waiting .bye r s) (len : r.len = 0) : Completes (.bye r) s [.time, .mbox] fun t =>
    (t.mbox.get r.chan).ver = none ∧ (r.chan = .ch2 → t.mbox.auth.role = 0) ∧ Answered .bye r true .ok 0 [] s t := by
  have runs := (bye_runs h len).trans (congrArg _ (byeAct_dismisses r (reqOf .bye r s) (takeUp r s)))
  obtain ⟨queued, others⟩ := respond_answers (f := true) (st := .ok) (n := 0) (b := []) (u := takeUp r s) h fun _ => rfl
  refine ⟨_, runs, ?_, congrArg Channel.ver (dismissed_get _ _), fun ch2 => ?_, ?_, fun c other => (dismissed_other _ other).trans (others c other)⟩
  · exact onlyIn_trans (onlyIn_takeUp r s) (onlyIn_trans (onlyIn_mono (onlyIn_respond _ _ _ _ _ _) (by decide))
      (onlyIn_mono (onlyIn_withMbox _ _) (by decide)))
  · show (if r.chan = .ch2 then _ else _ : AuthState).role = 0
    rw [if_pos ch2]
    rfl
  · exact (congrArg Channel.outgoing (dismissed_get _ _)).trans queued

/-- Settles O3: HELLO is BUSY beside another request, and else negotiates its offer; BYE dismisses its channel. -/
theorem helloAndByeSetVersion : Obligations.HelloAndByeSetVersion := by
  unfold Obligations.HelloAndByeSetVersion
  refine fun r major minor s => ⟨fun h len others => hello_busy h len others, fun h len alone => ⟨fun three => ?_, fun two => ?_, fun lower => ?_⟩,
    fun h len => bye_dismisses h len⟩
  · exact hello_negotiates h len alone (if_pos three)
  · exact hello_negotiates h len alone ((if_neg (by omega)).trans (if_pos two))
  · exact hello_badVersion h len alone ((if_neg (by omega)).trans (if_neg (by omega)))

end Sys2Proof.Machine

/-! PROOFS. Service authentication (R279, R280): the challenge, the response that uses it up, the lock after three failures, and the end of a role. -/

namespace Sys2Proof.Machine

/-! ## The authentication in the mailbox -/

/-- The module with another authentication. -/
def State.withAuth (s : State) (a : AuthState) : State := { s with mbox := { s.mbox with auth := a } }

theorem onlyIn_withAuth (s : State) (a : AuthState) : onlyIn [.mbox] s (s.withAuth a) := onlyIn_withMbox _ s

theorem withAuth_get (s : State) (a : AuthState) (c : Chan) : (s.withAuth a).mbox.get c = s.mbox.get c := by cases c <;> rfl

theorem takeUp_fails (r : Req) (s : State) : (takeUp r s).mbox.auth.fails = s.mbox.auth.fails := by
  obtain ⟨q, auth⟩ := takeUp_auth r s
  rw [auth]

theorem takeUp_lockedUntil (r : Req) (s : State) : (takeUp r s).mbox.auth.lockedUntil = s.mbox.auth.lockedUntil := by
  obtain ⟨q, auth⟩ := takeUp_auth r s
  rw [auth]

/-! ## AUTH_CHALLENGE -/

/-- The authentication with a new challenge for a role, which stands for 60 s. -/
def State.challenged (s : State) (role : Nat) : State :=
  s.drew.withAuth { s.mbox.auth with challenge := some ⟨Config.freeNonce s.free, role, s.time.now + 60000 * Config.ms⟩ }

theorem onlyIn_challenged (s : State) (role : Nat) : onlyIn [.free, .mbox] s (s.challenged role) :=
  onlyIn_trans (onlyIn_mono (onlyIn_drew s) (by decide)) (onlyIn_mono (onlyIn_withAuth _ _) (by decide))

theorem authChallengeAct_of_unlocked {role : Nat} {s : State} (id : ReqId) (unlocked : s.mbox.auth.lockedUntil ≤ s.time.now) :
    authChallengeAct role id s = respond id true .ok 0
      (leBytes 32 (Config.freeNonce s.free).toNat ++ leBytes 8 s.serial ++ leBytes 8 (s.time.module + 60000 * Config.ms)) (s.challenged role) :=
  if_neg (Nat.not_lt.2 unlocked)

theorem authChallenge_stores {r : Req} {role : Byte} {s : State} (h : Waiting .authChallenge r s) (len : r.len = 4) (low : 1 ≤ role.toNat)
    (high : role.toNat ≤ 4) (unlocked : s.mbox.auth.lockedUntil ≤ s.time.tock.now) :
    Completes (.authChallenge r role) s [.time, .mbox, .free] fun t =>
      t.mbox.auth.challenge = some ⟨Config.freeNonce s.free, role.toNat, s.time.tock.now + 60000 * Config.ms⟩ := by
  have runs : exec (.authChallenge r role) s = .next (authChallengeAct role.toNat (reqOf .authChallenge r s) (takeUp r s)) :=
    command_exec rfl h (fixed_passes len h.reserved (decide_eq_true ⟨low, high⟩) rfl h.free)
  have acts := authChallengeAct_of_unlocked (role := role.toNat) (s := takeUp r s) (reqOf .authChallenge r s)
    (Nat.le_trans (Nat.le_of_eq (takeUp_lockedUntil r s)) unlocked)
  refine ⟨_, runs.trans (congrArg _ acts), ?_, congrArg AuthState.challenge (respond_auth _ _ _ _ _ _)⟩
  exact onlyIn_trans (onlyIn_mono (onlyIn_takeUp r s) (by decide)) (onlyIn_trans (onlyIn_mono (onlyIn_challenged _ _) (by decide))
    (onlyIn_mono (onlyIn_respond _ _ _ _ _ _) (by decide)))

/-! ## AUTH_RESPONSE -/

section
variable {role slot : Nat} {sig : List Byte} {s : State}

/-- A right response: its role is in force, and the failures start again. -/
def State.authenticated (s : State) (role slot : Nat) : State :=
  logEvent 0x0810 srcKeeper role (s.withAuth { s.mbox.auth with role := role, slot := slot, challenge := none, fails := 0 })

theorem authenticated_auth : (s.authenticated role slot).mbox.auth =
    { s.mbox.auth with role := role, slot := slot, challenge := none, fails := 0 } := logEvent_mbox_auth _ _ _ _

theorem onlyIn_authenticated : onlyIn reporting s (s.authenticated role slot) :=
  onlyIn_trans (onlyIn_mono (onlyIn_withAuth s _) (by decide)) (onlyIn_logEvent _ _ _ _)

theorem authResponseAct_of_good (id : ReqId) (good : authGood role slot sig s = true) : authResponseAct role slot sig id s =
    respond id true .ok 0 (leBytes 1 role ++ zeros 3 ++ leBytes 4 600) (s.authenticated role slot) := if_pos good

/-- A wrong response is counted. -/
def State.authFailed (s : State) (slot : Nat) : State :=
  logEvent 0x0811 srcKeeper slot (s.withAuth { s.mbox.auth with challenge := none, fails := s.mbox.auth.fails + 1 })

/-- The third failure in a row: no challenge for 60 s. -/
def State.authLocked (s : State) (slot : Nat) : State :=
  logEvent 0x0812 srcKeeper slot (s.withAuth { s.mbox.auth with fails := 0, lockedUntil := s.time.now + 60000 * Config.ms })

theorem authFailed_auth : (s.authFailed slot).mbox.auth = { s.mbox.auth with challenge := none, fails := s.mbox.auth.fails + 1 } :=
  logEvent_mbox_auth _ _ _ _

theorem authFailed_get (c : Chan) : (s.authFailed slot).mbox.get c = s.mbox.get c := (logEvent_mbox_get _ _ _ _ _).trans (withAuth_get _ _ _)

theorem authFailed_time : (s.authFailed slot).time = s.time := logEvent_time _ _ _ _

theorem onlyIn_authFailed : onlyIn reporting s (s.authFailed slot) :=
  onlyIn_trans (onlyIn_mono (onlyIn_withAuth s _) (by decide)) (onlyIn_logEvent _ _ _ _)

theorem authLocked_auth : (s.authLocked slot).mbox.auth =
    { s.mbox.auth with fails := 0, lockedUntil := s.time.now + 60000 * Config.ms } := logEvent_mbox_auth _ _ _ _

theorem authLocked_get (c : Chan) : (s.authLocked slot).mbox.get c = s.mbox.get c := (logEvent_mbox_get _ _ _ _ _).trans (withAuth_get _ _ _)

theorem onlyIn_authLocked : onlyIn reporting s (s.authLocked slot) :=
  onlyIn_trans (onlyIn_mono (onlyIn_withAuth s _) (by decide)) (onlyIn_logEvent _ _ _ _)

theorem authResponseAct_of_wrong (id : ReqId) (wrong : authGood role slot sig s = false) (few : s.mbox.auth.fails < 2) :
    authResponseAct role slot sig id s = respond id true .denied 0 [] (s.authFailed slot) := by
  unfold authResponseAct
  simp only [wrong, Nat.not_le.2 few, Bool.false_eq_true, if_false]
  rfl

theorem authResponseAct_of_thirdWrong (id : ReqId) (wrong : authGood role slot sig s = false) (many : 2 ≤ s.mbox.auth.fails) :
    authResponseAct role slot sig id s = respond id true .denied 0 [] ((s.authFailed slot).authLocked slot) := by
  unfold authResponseAct
  simp only [wrong, many, Bool.false_eq_true, if_false, if_true]
  rfl

end

section
variable {r : Req} {role : Byte} {slot : U16} {sig : List Byte} {s : State} (h : Waiting .authResponse r s) (len : r.len = 104)
  (whole : sig.length = 96) (low : 1 ≤ role.toNat) (high : role.toNat ≤ 4)
include h len whole low high

theorem authResponse_runs : exec (.authResponse r role slot sig) s =
    .next (authResponseAct role.toNat slot.toNat sig (reqOf .authResponse r s) (takeUp r s)) :=
  command_exec rfl h (failing_none (decide_eq_true ⟨len, whole⟩) (by simp only [sound, h.reserved, low, high, and_self, decide_true, Bool.and_self])
    rfl h.free)

theorem authResponse_right (good : authGood role.toNat slot.toNat sig (takeUp r s) = true) :
    Completes (.authResponse r role slot sig) s (.time :: reporting) fun t =>
      t.mbox.auth.challenge = none ∧ t.mbox.auth.role = role.toNat ∧ t.mbox.auth.fails = 0 ∧
      t.mbox.auth.lockedUntil = s.mbox.auth.lockedUntil := by
  have acts := authResponseAct_of_good (reqOf .authResponse r s) good
  refine ⟨_, (authResponse_runs h len whole low high).trans (congrArg _ acts), ?_, ?_⟩
  · exact onlyIn_trans (onlyIn_mono (onlyIn_takeUp r s) (by decide)) (onlyIn_trans (onlyIn_mono onlyIn_authenticated (by decide))
      (onlyIn_mono (onlyIn_respond _ _ _ _ _ _) (by decide)))
  · dsimp only
    rw [respond_auth, authenticated_auth]
    exact ⟨rfl, rfl, rfl, takeUp_lockedUntil r s⟩

/-- A wrong response is DENIED, on any state that keeps the channels, the role and the used-up challenge. -/
theorem authResponse_denied {u : State} (acts : authResponseAct role.toNat slot.toNat sig (reqOf .authResponse r s) (takeUp r s) =
      respond (reqOf .authResponse r s) true .denied 0 [] u) (parts : onlyIn reporting (takeUp r s) u)
    (channels : ∀ c, u.mbox.get c = (takeUp r s).mbox.get c) :
    Completes (.authResponse r role slot sig) s (.time :: reporting) fun t =>
      t.mbox.auth = u.mbox.auth ∧ Answered .authResponse r true .denied 0 [] s t :=
  ⟨_, (authResponse_runs h len whole low high).trans (congrArg _ acts),
    onlyIn_trans (onlyIn_mono (onlyIn_takeUp r s) (by decide)) (onlyIn_trans (onlyIn_mono parts (by decide))
      (onlyIn_mono (onlyIn_respond _ _ _ _ _ _) (by decide))), respond_auth _ _ _ _ _ _, respond_answers h channels⟩

theorem authResponse_wrong (wrong : authGood role.toNat slot.toNat sig (takeUp r s) = false) :
    Completes (.authResponse r role slot sig) s (.time :: reporting) fun t =>
      t.mbox.auth.challenge = none ∧ t.mbox.auth.role = s.mbox.auth.role ∧ Answered .authResponse r true .denied 0 [] s t ∧
      t.mbox.auth.lockedUntil = if s.mbox.auth.fails < 2 then s.mbox.auth.lockedUntil else s.time.tock.now + 60000 * Config.ms := by
  by_cases few : s.mbox.auth.fails < 2
  · obtain ⟨t, run, parts, auth, answered⟩ := authResponse_denied h len whole low high
      (authResponseAct_of_wrong _ wrong (Nat.lt_of_le_of_lt (Nat.le_of_eq (takeUp_fails r s)) few)) onlyIn_authFailed authFailed_get
    rw [authFailed_auth] at auth
    refine ⟨t, run, parts, ?_⟩
    dsimp only
    rw [auth, if_pos few]
    exact ⟨rfl, takeUp_role r s, answered, takeUp_lockedUntil r s⟩
  · obtain ⟨t, run, parts, auth, answered⟩ := authResponse_denied h len whole low high
      (authResponseAct_of_thirdWrong _ wrong (by rw [takeUp_fails]; omega)) (onlyIn_trans onlyIn_authFailed onlyIn_authLocked)
      fun c => (authLocked_get c).trans (authFailed_get c)
    rw [authLocked_auth, authFailed_auth, authFailed_time] at auth
    refine ⟨t, run, parts, ?_⟩
    dsimp only
    rw [auth, if_neg few]
    exact ⟨rfl, takeUp_role r s, answered, rfl⟩

end

/-! ## A role that has gone (R279) -/

section
variable {o : Opcode} {r : Req} {s : State} (turn : s.mbox.takes o r = true)
include turn

/-- The request that the conductor core takes next is in flight, and waits. -/
theorem flight_of_takes : ∃ f ∈ (s.mbox.get r.chan).flights, (f.tag = r.tag ∧ f.op = some o) ∧ f.waiting = true := by
  simp only [Mailbox.takes, Bool.and_eq_true, Option.any_eq_true] at turn
  obtain ⟨-, f, front, named⟩ := turn
  exact ⟨f, List.mem_of_find?_eq_some front, of_decide_eq_true named, List.find?_some front⟩

theorem waits_of_takes : (s.mbox.get r.chan).waits o r.tag = true := by
  obtain ⟨f, flies, named, waits⟩ := flight_of_takes turn
  exact List.any_eq_true.2 ⟨f, flies, by rw [waits, decide_eq_true named]; rfl⟩

/-- Where check 7 fails at the turn of a request, the command is refused. -/
theorem command_lacksAuth (k : State → Checks) (act : ReqId → State → State) (lacks : lacksAuth o s = true) (running : s.trust.romOnly = false) :
    command o r k act s = refuseAuth (reqOf o r s) (takeUp r s) := by
  have lacks' : lacksAuth o (takeUp r s) = true := by rw [← lacks]; simp only [lacksAuth, takeUp_role]
  unfold command
  simp only [waits_of_takes turn, turn, takeUp_gen, takeUp_trust, running, lacks', if_true, Bool.false_and, Bool.false_eq_true, if_false]
  rfl

variable (ready : ∀ f ∈ (s.mbox.get r.chan).flights, f.held = none)
include ready

theorem takeUp_alive : Alive (reqOf o r s) (takeUp r s) := by
  obtain ⟨f, flies, ⟨tag, op⟩, -⟩ := flight_of_takes turn
  refine ⟨takeUp_gen r s, { f with waiting := false }, ?_, tag, op⟩
  show _ ∈ ((takeUp r s).mbox.get r.chan).flights
  rw [takeUp_channel, Channel.takeUp, released_of_none ready]
  exact List.mem_map.2 ⟨f, flies, if_pos tag⟩

end

theorem respond_responds {id : ReqId} {st : Status} {n : Nat} {b : List Byte} {s : State} (alive : Alive id s) :
    Responds id st n b s (respond id true st n b s) := by
  obtain ⟨gen, f, flies, tag, op⟩ := alive
  exact congrArg Channel.outgoing (respond_get ⟨gen, List.any_eq_true.2 ⟨f, flies, decide_eq_true ⟨tag, op⟩⟩⟩).1

/-- The state in which a request that check 7 refuses is answered: the reject is counted and logged. -/
def State.authRefused (s : State) (id : ReqId) : State :=
  logEvent 0x0807 (srcHost + chanNum id.chan) id.op.code (s.withChannel id.chan (s.mbox.get id.chan).rejects)

theorem refuseAuth_responds (id : ReqId) (s : State) : refuseAuth id s = respond id true .denied 0 [] (s.authRefused id) := rfl

theorem onlyIn_authRefused (s : State) (id : ReqId) : onlyIn reporting s (s.authRefused id) :=
  onlyIn_trans (onlyIn_mono (onlyIn_withChannel s _ _) (by decide)) (onlyIn_logEvent _ _ _ _)

theorem authRefused_get (s : State) (id : ReqId) : (s.authRefused id).mbox.get id.chan = (s.mbox.get id.chan).rejects :=
  (logEvent_mbox_get _ _ _ _ _).trans (withChannel_get _ _ _)

theorem authRefused_alive {s : State} {id : ReqId} (alive : Alive id s) : Alive id (s.authRefused id) := by
  unfold Alive
  rw [authRefused_get]
  exact alive

theorem lacksAuth_refused {c : Instr} {o : Opcode} {r : Req} {k : State → Checks} {act : ReqId → State → State} {s : State}
    (run : exec c s = .next (command o r k act s)) (turn : s.mbox.takes o r = true)
    (ready : ∀ f ∈ (s.mbox.get r.chan).flights, f.held = none) (lacks : lacksAuth o s = true) (running : s.trust.romOnly = false) :
    Completes c s (.time :: reporting) fun t =>
      Responds (reqOf o r s) .denied 0 [] s t ∧ Reports 0x0807 (srcHost + chanNum r.chan) t := by
  have responds := respond_responds (st := .denied) (n := 0) (b := []) (authRefused_alive (takeUp_alive turn ready))
  refine ⟨_, run.trans (congrArg _ ((command_lacksAuth turn k act lacks running).trans (refuseAuth_responds _ _))), ?_, ?_, ?_⟩
  · exact onlyIn_trans (onlyIn_mono (onlyIn_takeUp r s) (by decide)) (onlyIn_trans (onlyIn_mono (onlyIn_authRefused _ _) (by decide))
      (onlyIn_mono (onlyIn_respond _ _ _ _ _ _) (by decide)))
  · have channel : ((takeUp r s).authRefused (reqOf o r s)).mbox.get r.chan = ((s.mbox.get r.chan).takeUp r.tag).rejects :=
      (authRefused_get (takeUp r s) (reqOf o r s)).trans (congrArg Channel.rejects (takeUp_channel r s))
    unfold Responds at responds
    rw [show (reqOf o r s).chan = r.chan from rfl, channel] at responds
    refine responds.trans ?_
    show ((s.mbox.get r.chan).released).outgoing ++ _ = _
    rw [released_of_none ready]
    rfl
  · exact reports_of (reports_logEvent (by decide)) (respond_log _ _ _ _ _ _) (respond_time _ _ _ _ _ _)

/-! ## The idle time (R280) -/

theorem authIdle_ends {s : State} (held : s.mbox.auth.role ≠ 0) : Completes .authIdleTimeout s [.time, .mbox] fun t =>
    t.mbox.auth.role = 0 ∧ t.time.now = max s.time.now (s.mbox.auth.lastRequest + 600000 * Config.ms) := by
  refine ⟨(reachNow (s.mbox.auth.lastRequest + 600000 * Config.ms) s).withAuth s.mbox.auth.ended, congrArg Host.Outcome.next (if_neg held),
    onlyIn_trans (onlyIn_mono (onlyIn_reachNow _ s) (by decide)) (onlyIn_mono (onlyIn_withAuth _ _) (by decide)), rfl, ?_⟩
  show (s.time.advance _).now = _
  rw [advance_now]
  omega

/-- Settles O4: a right and a wrong response, the challenge, a request whose role has gone, and the idle time. -/
theorem authenticationFollowsChallenge : Obligations.AuthenticationFollowsChallenge := by
  unfold Obligations.AuthenticationFollowsChallenge
  refine fun r role slot sig s => ⟨fun h len low high unlocked => authChallenge_stores h len low high unlocked,
    fun h len whole low high => ?_, fun sur turn ready lacks running => lacksAuth_refused rfl turn ready lacks running, authIdle_ends⟩
  by_cases good : authGood role.toNat slot.toNat sig (takeUp r s) = true
  · obtain ⟨t, run, parts, used, force⟩ := authResponse_right h len whole low high good
    exact ⟨t, run, parts, used, fun _ => force, fun wrong => absurd good (by rw [wrong]; decide)⟩
  · have wrong : authGood role.toNat slot.toNat sig (takeUp r s) = false := Bool.eq_false_iff.2 good
    obtain ⟨t, run, parts, used, denied⟩ := authResponse_wrong h len whole low high wrong
    exact ⟨t, run, parts, used, fun right => absurd right good, fun _ => denied⟩

end Sys2Proof.Machine

/-! PROOFS. Fetching (R263, R264, R268): checks 1 to 8 on a message, a refused request and an admitted one, and the timeouts of a fetch. -/

namespace Sys2Proof.Machine

/-! ## Checks 1 to 8 -/

/-- Checks 5 to 8. -/
theorem laterChecks_rest_number {ch : Chan} {code : Nat} {tag : U16} {s : State} {c : Channel} {k : Nat} {st : Status}
    (fails : laterChecks.rest ch code tag s c = some (k, st)) : 5 ≤ k ∧ k ≤ 8 := by
  unfold laterChecks.rest at fails
  split at fails
  · cases fails; decide
  · repeat' split at fails
    all_goals cases fails
    all_goals decide

/-- Checks 4 to 8. -/
theorem laterChecks_number {ch : Chan} {code : Nat} {tag : U16} {ver : Nat × Nat} {s : State} {k : Nat} {st : Status}
    (fails : laterChecks ch code tag ver s = some (k, st)) : 4 ≤ k ∧ k ≤ 8 := by
  have later {c : Channel} (rest : laterChecks.rest ch code tag s c = some (k, st)) : 4 ≤ k ∧ k ≤ 8 :=
    ⟨by have := (laterChecks_rest_number rest).1; omega, (laterChecks_rest_number rest).2⟩
  unfold laterChecks at fails
  dsimp only at fails
  split at fails
  · split at fails
    · cases fails; decide
    · exact later fails
  · split at fails
    · cases fails; decide
    · exact later fails

/-- The checks are numbered from 1. -/
theorem messageChecks_number {ch : Chan} {m : Message} {s : State} {k : Nat} {st : Status} (fails : messageChecks ch m s = some (k, st)) :
    1 ≤ k := by
  unfold messageChecks at fails
  split at fails
  · cases fails; decide
  split at fails
  · cases fails; decide
  split at fails
  · cases fails; decide
  · exact Nat.le_trans (by decide) (laterChecks_number fails).1

/-- A message that passes has at most 4,096 bytes of payload and the opcode of a command. -/
theorem messageChecks_passed {ch : Chan} {m : Message} {s : State} (passes : messageChecks ch m s = none) :
    m.length.toNat ≤ 4096 ∧ ∃ o, Opcode.ofCode m.opcode.toNat = some o := by
  have known {c : Channel} (rest : laterChecks.rest ch m.opcode.toNat m.tag s c = none) : ∃ o, Opcode.ofCode m.opcode.toNat = some o := by
    unfold laterChecks.rest at rest
    split at rest
    · cases rest
    next o code => exact ⟨o, code⟩
  unfold messageChecks at passes
  split at passes
  · cases passes
  next short =>
  refine ⟨Nat.not_lt.1 short, ?_⟩
  split at passes
  · cases passes
  split at passes
  · cases passes
  unfold laterChecks at passes
  dsimp only at passes
  split at passes
  · split at passes
    · cases passes
    · exact known passes
  · split at passes
    · cases passes
    · exact known passes

/-- Checks 1 to 7 have an event each. -/
theorem check_coded {k : Nat} (low : 1 ≤ k) (high : k ≤ 7) : (severity (0x0800 + k)).isSome := by
  have each : ∀ j : Fin 8, 1 ≤ j.val → (severity (0x0800 + j.val)).isSome := by decide
  exact each ⟨k, by omega⟩ low

/-! ## A refused request -/

/-- A channel once a check has refused a request: checks 1 to 7 count it. -/
def Channel.judged (c : Channel) (check : Nat) : Channel := if check ≤ 7 then c.rejects else c

section
variable (c : Channel) (tag : U16) (target : U64) (p : Response) (check : Nat)

theorem refused_blocked (blocked : c.flights.any Flight.blocks = true) :
    c.refused tag target p = c.fetched ⟨tag, none, target, false, some p⟩ := if_pos blocked

theorem refused_free (free : c.flights.any Flight.blocks = false) :
    c.refused tag target p = (c.fetched ⟨tag, none, target, false, none⟩).queue p := if_neg (by rw [free]; decide)

theorem refused_counts : (c.refused tag target p).sqHead = c.sqHead + 1 ∧ (c.refused tag target p).rejectCnt = c.rejectCnt := by
  unfold Channel.refused
  split <;> exact ⟨rfl, rfl⟩

/-- The count of rejects is all that the judgement of a check touches. -/
theorem judged_keeps : (c.judged check).sqHead = c.sqHead ∧ (c.judged check).outgoing = c.outgoing ∧ (c.judged check).flights = c.flights := by
  unfold Channel.judged
  split <;> exact ⟨rfl, rfl, rfl⟩

theorem judged_counted (counted : check ≤ 7) : (c.judged check).rejectCnt = bump32 c.rejectCnt 1 := by
  unfold Channel.judged
  rw [if_pos counted]
  rfl

theorem judged_uncounted (uncounted : 7 < check) : (c.judged check).rejectCnt = c.rejectCnt := by
  unfold Channel.judged
  rw [if_neg (Nat.not_le.2 uncounted)]

end

section
variable (ch : Chan) (code : Nat) (tag : U16) (target : U64) (check : Nat) (st : Status) (s : State)

/-- The response of a refused request. -/
def State.refusal (s : State) (ch : Chan) (code : Nat) (tag : U16) (st : Status) : Response :=
  ⟨(s.mbox.get ch).version, tag, code, true, st, 0, [], true⟩

/-- The module with a refused request, before its event. -/
def State.turnedDown (s : State) (ch : Chan) (code : Nat) (tag : U16) (target : U64) (check : Nat) (st : Status) : State :=
  { s with mbox := (s.mbox.set ch (((s.mbox.get ch).refused tag target (s.refusal ch code tag st)).judged check)).heard ch s.time.now }

theorem refuse_logged (logged : check ≤ 7) : refuse ch code tag target check st s =
    logEvent (0x0800 + check) (srcHost + chanNum ch) code (s.turnedDown ch code tag target check st) := if_pos logged

theorem refuse_unlogged (unlogged : 7 < check) : refuse ch code tag target check st s = s.turnedDown ch code tag target check st :=
  if_neg (Nat.not_le.2 unlogged)

theorem onlyIn_refuse : onlyIn reporting s (refuse ch code tag target check st s) := by
  have turned : onlyIn reporting s (s.turnedDown ch code tag target check st) := onlyIn_mono (onlyIn_withMbox _ s) (by decide)
  exact onlyIn_ite (onlyIn_trans turned (onlyIn_logEvent _ _ _ _)) turned

/-- A refusal changes the channels as `turnedDown` has them. -/
theorem refuse_get (c : Chan) : (refuse ch code tag target check st s).mbox.get c = (s.turnedDown ch code tag target check st).mbox.get c := by
  by_cases logged : check ≤ 7
  · rw [refuse_logged _ _ _ _ _ _ _ logged, logEvent_mbox_get]
  · rw [refuse_unlogged _ _ _ _ _ _ _ (by omega)]

theorem refuse_channel : (refuse ch code tag target check st s).mbox.get ch =
    ((s.mbox.get ch).refused tag target (s.refusal ch code tag st)).judged check := by
  rw [refuse_get, State.turnedDown, heard_get, get_set_same]

theorem refuse_other {c : Chan} (other : c ≠ ch) : (refuse ch code tag target check st s).mbox.get c = s.mbox.get c := by
  rw [refuse_get, State.turnedDown, heard_get, get_set_other _ other]

end

/-! ## The fetch of a message -/

section
variable {ch : Chan} {m : Message} {s : State} (can : canFetch ch s = true)
include can

theorem requestFetch_refuses {k : Nat} {st : Status} (fails : messageChecks ch m s = some (k, st)) :
    exec (.requestFetch ch m) s = .next (refuse ch m.opcode.toNat m.tag m.target k st (readSlot ch m.length.toNat s)) := by
  have fails' : messageChecks ch m (readSlot ch m.length.toNat s) = some (k, st) := fails
  refine congrArg Host.Outcome.next ((if_pos can).trans ?_)
  dsimp only
  rw [fails']

theorem requestFetch_admits {o : Opcode} (passes : messageChecks ch m s = none) (code : Opcode.ofCode m.opcode.toNat = some o) :
    exec (.requestFetch ch m) s = .next (admitRequest ch o m.tag m.target (readSlot ch m.length.toNat s)) := by
  have passes' : messageChecks ch m (readSlot ch m.length.toNat s) = none := passes
  refine congrArg Host.Outcome.next ((if_pos can).trans ?_)
  dsimp only
  rw [passes', code]

/-- The first check that fails answers the request. -/
theorem requestFetch_refused {k : Nat} {st : Status} (fails : messageChecks ch m s = some (k, st)) :
    Completes (.requestFetch ch m) s reporting fun t =>
      (t.mbox.get ch).sqHead = (s.mbox.get ch).sqHead + 1 ∧
      (((s.mbox.get ch).flights.any Flight.blocks = false →
          (t.mbox.get ch).outgoing = (s.mbox.get ch).outgoing ++ [s.refusal ch m.opcode.toNat m.tag st]) ∧
        ((s.mbox.get ch).flights.any Flight.blocks = true → (t.mbox.get ch).outgoing = (s.mbox.get ch).outgoing ∧
          (t.mbox.get ch).flights =
            (s.mbox.get ch).flights ++ [⟨m.tag, none, m.target, false, some (s.refusal ch m.opcode.toNat m.tag st)⟩])) ∧
      (k ≤ 7 → (t.mbox.get ch).rejectCnt = bump32 (s.mbox.get ch).rejectCnt 1 ∧ Reports (0x0800 + k) (srcHost + chanNum ch) t) ∧
      (7 < k → (t.mbox.get ch).rejectCnt = (s.mbox.get ch).rejectCnt) ∧ ∀ c, c ≠ ch → t.mbox.get c = s.mbox.get c := by
  let read : State := readSlot ch m.length.toNat s
  let channel : Channel := (s.mbox.get ch).refused m.tag m.target (s.refusal ch m.opcode.toNat m.tag st)
  obtain ⟨head, outgoing, flights⟩ := judged_keeps channel k
  obtain ⟨fetched, rejects⟩ := refused_counts (s.mbox.get ch) m.tag m.target (s.refusal ch m.opcode.toNat m.tag st)
  have reached : (refuse ch m.opcode.toNat m.tag m.target k st read).mbox.get ch = channel.judged k := refuse_channel _ _ _ _ _ _ _
  refine ⟨_, requestFetch_refuses can fails, onlyIn_trans (onlyIn_mono (onlyIn_send _ s) (by decide)) (onlyIn_refuse _ _ _ _ _ _ _), ?_⟩
  dsimp only
  rw [reached, head, outgoing, flights]
  refine ⟨fetched, ⟨fun free => ?_, fun blocked => ?_⟩, fun counted => ⟨?_, ?_⟩, fun uncounted => ?_,
    fun c other => refuse_other _ _ _ _ _ _ _ other⟩
  · exact congrArg Channel.outgoing (refused_free _ _ _ _ free)
  · have held := refused_blocked _ m.tag m.target (s.refusal ch m.opcode.toNat m.tag st) blocked
    exact ⟨(congrArg Channel.outgoing held).trans rfl, congrArg Channel.flights held⟩
  · rw [judged_counted _ _ counted, rejects]
  · rw [refuse_logged _ _ _ _ _ _ _ counted]
    exact reports_logEvent (check_coded (messageChecks_number fails) counted)
  · rw [judged_uncounted _ _ uncounted, rejects]

/-- A request that passes is read in one transfer, and waits. -/
theorem requestFetch_admitted (passes : messageChecks ch m s = none) : ∃ o, Opcode.ofCode m.opcode.toNat = some o ∧
    Completes (.requestFetch ch m) s [.mbox, .sent] fun t =>
      t.sent = .read (chanPf1 ch) ((s.mbox.get ch).sqSlot (s.mbox.get ch).sqHead.toNat) (32 + m.length.toNat) :: s.sent ∧
      t.mbox = s.mbox.set ch ((s.mbox.get ch).fetched ⟨m.tag, some o, m.target, true, none⟩) := by
  obtain ⟨short, o, code⟩ := messageChecks_passed passes
  refine ⟨o, code, _, requestFetch_admits can passes code, ?_, ?_, rfl⟩
  · exact onlyIn_trans (onlyIn_mono (onlyIn_send _ s) (by decide)) (onlyIn_mono (onlyIn_withMbox _ _) (by decide))
  · show .read _ _ (32 + min m.length.toNat 4096) :: s.sent = _
    rw [Nat.min_eq_left short]

end

/-! ## Timeouts -/

/-- A channel that fetches is not halted. -/
theorem canFetch_running {ch : Chan} {s : State} (can : canFetch ch s = true) : (s.mbox.get ch).halt = 0 := by
  simp only [canFetch, Bool.and_eq_true, decide_eq_true_eq] at can
  obtain ⟨⟨⟨⟨⟨⟨⟨-, running⟩, -⟩, -⟩, -⟩, -⟩, -⟩, -⟩ := can
  exact running

/-- The read of a slot has timed out, with its event and AER. -/
def State.fetchLost (s : State) (ch : Chan) : State := (readSlot ch 4096 s).errorLogged (chanPf1 ch) 14 0x0505 (bit (chanPf1 ch) 0)

theorem onlyIn_fetchLost (s : State) (ch : Chan) : onlyIn reporting s (s.fetchLost ch) :=
  onlyIn_trans (onlyIn_mono (onlyIn_send _ s) (by decide)) (onlyIn_errorLogged _ _ _ _ _)

theorem fetchLost_get (s : State) (ch c : Chan) : (s.fetchLost ch).mbox.get c = s.mbox.get c := by
  unfold State.fetchLost State.errorLogged
  rw [logEvent_mbox_get]
  exact congrArg (·.get c) (onlyIn_reportError _ _ _ .mbox (by decide))

/-- The channel after one timeout more. -/
def Channel.retrying (c : Channel) : Channel := { c with fetchTries := c.fetchTries + 1 }

/-- The channel after the third timeout. -/
def Channel.gaveUp (c : Channel) : Channel := { c.halted 2 with fetchTries := 0 }

section
variable {ch : Chan} {s : State} (can : canFetch ch s = true)
include can

theorem fetchTimeout_runs : fetchTimeout ch s = if ((s.fetchLost ch).mbox.get ch).fetchTries < 2 then
      (s.fetchLost ch).withChannel ch ((s.fetchLost ch).mbox.get ch).retrying
    else logEvent 0x0808 (srcHost + chanNum ch) (chanNum ch) ((s.fetchLost ch).withChannel ch ((s.fetchLost ch).mbox.get ch).gaveUp) :=
  if_pos can

theorem fetchTimeout_retries (few : (s.mbox.get ch).fetchTries < 2) :
    exec (.fetchTimeout ch) s = .next ((s.fetchLost ch).withChannel ch (s.mbox.get ch).retrying) := by
  refine congrArg Host.Outcome.next ((fetchTimeout_runs can).trans ?_)
  rw [fetchLost_get, if_pos few]

theorem fetchTimeout_gives_up (many : 2 ≤ (s.mbox.get ch).fetchTries) : exec (.fetchTimeout ch) s =
    .next (logEvent 0x0808 (srcHost + chanNum ch) (chanNum ch) ((s.fetchLost ch).withChannel ch (s.mbox.get ch).gaveUp)) := by
  refine congrArg Host.Outcome.next ((fetchTimeout_runs can).trans ?_)
  rw [fetchLost_get, if_neg (Nat.not_lt.2 many)]

omit can in
theorem fetchLost_reports (c : Channel) : Reports 0x0505 srcHost ((s.fetchLost ch).withChannel ch c) :=
  reports_of (errorLogged_reports (chanPf1 ch) 14 0x0505 (bit (chanPf1 ch) 0) (readSlot ch 4096 s) (by decide)) rfl rfl

omit can in
theorem fetchLost_sets (c : Channel) : (((s.fetchLost ch).withChannel ch c).link.aer (chanPf1 ch)).status.testBit 14 = true :=
  errorLogged_sets (chanPf1 ch) 14 0x0505 (bit (chanPf1 ch) 0) (readSlot ch 4096 s)

theorem fetchTimeout_counts : Completes (.fetchTimeout ch) s reporting fun t =>
    Reports 0x0505 srcHost t ∧ (t.link.aer (chanPf1 ch)).status.testBit 14 = true ∧
    ((s.mbox.get ch).fetchTries < 2 → (t.mbox.get ch).fetchTries = (s.mbox.get ch).fetchTries + 1 ∧ (t.mbox.get ch).halt = 0) ∧
    (2 ≤ (s.mbox.get ch).fetchTries → (t.mbox.get ch).halt = 2 ∧ Reports 0x0808 (srcHost + chanNum ch) t) := by
  have lost (c : Channel) : onlyIn reporting s ((s.fetchLost ch).withChannel ch c) :=
    onlyIn_trans (onlyIn_fetchLost s ch) (onlyIn_mono (onlyIn_withChannel _ _ _) (by decide))
  by_cases few : (s.mbox.get ch).fetchTries < 2
  · refine ⟨_, fetchTimeout_retries can few, lost _, fetchLost_reports _, fetchLost_sets _, fun _ => ?_, fun many => absurd few (Nat.not_lt.2 many)⟩
    rw [withChannel_get]
    exact ⟨rfl, canFetch_running can⟩
  · refine ⟨_, fetchTimeout_gives_up can (by omega), onlyIn_trans (lost _) (onlyIn_logEvent _ _ _ _),
      reports_logEvent_kept _ _ _ (fetchLost_reports _), ?_, fun few' => absurd few' few, fun _ => ⟨?_, reports_logEvent (by decide)⟩⟩
    · rw [logEvent_aer]
      exact fetchLost_sets _
    · rw [logEvent_mbox_get, withChannel_get]
      rfl

end

/-- Settles O6: a message that a check refuses, one that passes, and a fetch that times out. -/
theorem fetchingChecksEachRequest : Obligations.FetchingChecksEachRequest := by
  unfold Obligations.FetchingChecksEachRequest
  exact fun ch m s can => ⟨fun long => if_pos long, fun k st fails => requestFetch_refused can fails, requestFetch_admitted can,
    fetchTimeout_counts can⟩

end Sys2Proof.Machine

/-! PROOFS. A response that has a place in the completion queue (R265, R266, R274). -/

namespace Sys2Proof.Machine

/-- A channel after its first response was written: CQ_TAIL counts it, a copy is kept, and a final one takes its request out of flight. -/
def Channel.wrote (c : Channel) (p : Response) (rest : List Response) : Channel :=
  { c with outgoing := rest, cqTail := c.cqTail + 1, copies := c.copies ++ [p], owed := c.owed - 1,
           flights := if p.final then c.flights.eraseP (fun f => decide (f.tag = p.tag) && decide (f.op.isNone = p.refused)) else c.flights }

/-- The module once it has written a response, before the vector fires. -/
def State.responseSent (s : State) (ch : Chan) (p : Response) (rest : List Response) : State :=
  let c := s.mbox.get ch
  ((s.withChannel ch (c.wrote p rest)).send (.response ch (c.cqSlot c.cqTail.toNat) p.bytes)).send (.cqTail ch (c.cqTail + 1).toNat)

theorem onlyIn_responseSent (s : State) (ch : Chan) (p : Response) (rest : List Response) :
    onlyIn [.mbox, .sent] s (s.responseSent ch p rest) :=
  onlyIn_trans (onlyIn_mono (onlyIn_withChannel s _ _) (by decide)) (onlyIn_trans (onlyIn_mono (onlyIn_send _ _) (by decide))
    (onlyIn_mono (onlyIn_send _ _) (by decide)))

theorem responseSent_get (s : State) (ch : Chan) (p : Response) (rest : List Response) :
    (s.responseSent ch p rest).mbox.get ch = (s.mbox.get ch).wrote p rest := withChannel_get _ _ _

theorem responseSent_other (s : State) {ch c : Chan} (p : Response) (rest : List Response) (other : c ≠ ch) :
    (s.responseSent ch p rest).mbox.get c = s.mbox.get c := withChannel_other _ _ other

section
variable {ch : Chan} {p : Response} {rest : List Response} {s : State} (on : (s.mbox.get ch).enable = true)
  (fresh : (s.mbox.get ch).rewrite = 0) (may : s.link.mayWrite (chanPf1 ch) = true) (ready : ∀ f ∈ (s.mbox.get ch).flights, f.held = none)
  (next : (s.mbox.get ch).outgoing = p :: rest)
  (room : ((s.mbox.get ch).cqTail - (s.mbox.get ch).cqHead).toNat < (s.mbox.get ch).entries.toNat)
include on fresh may ready next room

theorem writeResponse_sends : writeResponse ch s = fire (chanPf1 ch) (chanVector ch) (s.responseSent ch p rest) := by
  have place : (s.mbox.get ch).cqRoom = true := decide_eq_true room
  unfold writeResponse State.responseSent Channel.wrote
  simp only [released_of_none ready, on, may, fresh, next, place, Bool.and_self, if_true, Nat.lt_irrefl, if_false]
  cases p.final <;> rfl

theorem responseWrite_reaches : Completes (.responseWrite ch) s [.mbox, .sent, .link] fun t =>
    t.mbox.get ch = (s.mbox.get ch).wrote p rest ∧ (∀ c, c ≠ ch → t.mbox.get c = s.mbox.get c) ∧
    Fires (chanPf1 ch) (chanVector ch) s t ∧
    ∃ v, t.sent = v ++ .cqTail ch ((s.mbox.get ch).cqTail + 1).toNat ::
      .response ch ((s.mbox.get ch).cqSlot (s.mbox.get ch).cqTail.toNat) p.bytes :: s.sent := by
  refine ⟨_, congrArg Host.Outcome.next (writeResponse_sends on fresh may ready next room), ?_, ?_, fun c other => ?_,
    fires_fire (onlyIn_responseSent s ch p rest .link (by decide)), fire_sent _ _ _⟩
  · exact onlyIn_trans (onlyIn_mono (onlyIn_responseSent _ _ _ _) (by decide)) (onlyIn_mono (onlyIn_fire _ _ _) (by decide))
  · rw [fire_mbox]
    exact responseSent_get s ch p rest
  · rw [fire_mbox]
    exact responseSent_other s p rest other

end

/-- Settles O7: the response that is next leaves, and its channel is as `Channel.wrote` has it. -/
theorem responsesReachTheQueue : Obligations.ResponsesReachTheQueue := by
  unfold Obligations.ResponsesReachTheQueue
  intro ch p rest s on fresh may ready next room
  obtain ⟨t, run, parts, channel, others, fires, sent⟩ := responseWrite_reaches on fresh may ready next room
  refine ⟨t, run, parts, ?_⟩
  dsimp only
  rw [channel]
  exact ⟨rfl, rfl, rfl, rfl, rfl, others, fires, sent⟩

end Sys2Proof.Machine

/-! PROOFS. The event ring (R281): CTRL and CONSUMED, the loss notice, and the repeat-count update of a source. -/

namespace Sys2Proof.Machine

/-! ## CTRL and CONSUMED -/

section
variable {v : U32} {s : State} (takes : s.link.takes false = true)
include takes

theorem eventRing_enables (on : Bool) : Completes (.eventRingCtrlEnable on) s [.mbox] fun t =>
    t.mbox = { s.mbox with ring := { s.mbox.ring with enable := on } } :=
  ⟨_, congrArg Host.Outcome.next (if_pos takes), onlyIn_withMbox _ s, rfl⟩

theorem consumed_runs : exec (.consumed v) s = .next (ringConsume v s) := congrArg Host.Outcome.next (if_pos takes)

theorem consumed_stores (within : (v - s.mbox.ring.consumed).toNat ≤ (s.mbox.ring.produced - s.mbox.ring.consumed).toNat) :
    Completes (.consumed v) s [.mbox] fun t => t.mbox = { s.mbox with ring := { s.mbox.ring with consumed := v } } :=
  ⟨_, (consumed_runs takes).trans (congrArg _ (if_pos within)), onlyIn_withMbox _ s, rfl⟩

theorem consumed_ignored (outside : (s.mbox.ring.produced - s.mbox.ring.consumed).toNat < (v - s.mbox.ring.consumed).toNat) :
    Completes (.consumed v) s reporting fun t => t.mbox.ring.consumed = s.mbox.ring.consumed ∧ Reports 0x0809 srcHost t := by
  obtain ⟨-, -, -, -, consumed⟩ := ringKept_logEvent 0x0809 srcHost v.toNat s
  exact ⟨_, (consumed_runs takes).trans (congrArg _ (if_neg (Nat.not_le.2 outside))), onlyIn_logEvent _ _ _ _, consumed, reports_logEvent (by decide)⟩

end

/-! ## The loss notice -/

/-- The place of a ring entry on the bus. -/
def EventRing.slot (r : EventRing) (k : U32) : Nat := r.base.toNat + 64 * (k.toNat % r.entries.toNat)

theorem ringWrite_sent (k n : Nat) (e : List Byte) (s : State) {o : Out} (sent : o ∈ s.sent) : o ∈ (ringWrite k n e s).sent := by
  unfold ringWrite
  extract_lets r addr entered counted clear r' m placed
  obtain ⟨v, later⟩ := (ringWrite_tail clear placed).2
  rw [later]
  exact List.mem_append_right _ (List.mem_cons_of_mem _ (List.mem_cons_of_mem _ sent))

/-- The module with its loss notice no longer due. -/
def State.withoutNotice (s : State) : State := { s with mbox := { s.mbox with ring := { s.mbox.ring with noticeDue := false } } }

theorem ringNotice_of_due {s : State} (due : s.mbox.ring.noticeDue = true) (room : s.mbox.ring.held < s.mbox.ring.entries.toNat) :
    ringNotice s = ringWrite 3 s.mbox.ring.lost [] s.withoutNotice := by
  unfold ringNotice EventRing.room
  simp only [due, room, decide_true, Bool.and_self, if_true]
  rfl

theorem ringNotice_of_not_due {s : State} (none : s.mbox.ring.noticeDue = false) : ringNotice s = s := by
  unfold ringNotice
  simp only [none, Bool.false_and, Bool.false_eq_true, if_false]

theorem onlyIn_ringNotice_entry (s : State) : onlyIn [.mbox, .sent, .link] s (ringNotice s) :=
  onlyIn_ite (onlyIn_trans (onlyIn_mono (onlyIn_withMbox _ s) (by decide)) (onlyIn_ringEntry _ _ _ _)) (onlyIn_refl _ s)

/-- What a loss notice does to the ring. -/
theorem ringNotice_facts {s : State} (due : s.mbox.ring.noticeDue = true) (room : s.mbox.ring.held < s.mbox.ring.entries.toNat) :
    (ringNotice s).mbox.ring.produced = s.mbox.ring.produced + 1 ∧ (ringNotice s).mbox.ring.noticeDue = false ∧
    (ringNotice s).mbox.ring.stale = s.mbox.ring.stale ∧
    Out.eventEntry (s.mbox.ring.slot s.mbox.ring.produced)
      (ringEntryBytes s.mbox.ring.produced.toNat 3 s.time.module s.mbox.ring.lost []) ∈ (ringNotice s).sent := by
  obtain ⟨produced, none, stale, -, sent⟩ := ringWrite_facts 3 s.mbox.ring.lost [] s.withoutNotice
  rw [ringNotice_of_due due room]
  exact ⟨produced, none.trans rfl, stale, sent⟩

theorem lossNotice_enters {s : State} (on : s.mbox.ring.enable = true) (due : s.mbox.ring.noticeDue = true)
    (room : s.mbox.ring.held < s.mbox.ring.entries.toNat) : Completes .lossNotice s [.mbox, .sent, .link] fun t =>
      t.mbox.ring.noticeDue = false ∧ t.mbox.ring.produced = s.mbox.ring.produced + 1 ∧
      Out.eventEntry (s.mbox.ring.slot s.mbox.ring.produced)
        (ringEntryBytes s.mbox.ring.produced.toNat 3 s.time.module s.mbox.ring.lost []) ∈ t.sent := by
  obtain ⟨produced, none, -, sent⟩ := ringNotice_facts due room
  exact ⟨_, congrArg Host.Outcome.next (if_pos on), onlyIn_ringNotice_entry s, none, produced, sent⟩

/-! ## The repeat-count update -/

/-- Time reaches 10 ms after the latest update of a source. -/
def State.updateTime (s : State) (source : Nat) : State := match look s.mbox.ring.updates source with
  | some t => reachNow (t + 10 * Config.ms) s
  | none => s

/-- The update of an entry is noted: the entry shows its count, and the source's time is kept. -/
def State.updateNoted (s : State) (source seq : Nat) : State :=
  { s with mbox := { s.mbox with ring := { s.mbox.ring with
      stale := s.mbox.ring.stale.filter (fun q => decide (q ≠ seq)), updates := put s.mbox.ring.updates source s.time.now } } }

theorem onlyIn_updateTime (s : State) (source : Nat) : onlyIn [.time] s (s.updateTime source) := by
  unfold State.updateTime
  split
  · exact onlyIn_reachNow _ s
  · exact onlyIn_refl _ s

theorem updateTime_mbox (s : State) (source : Nat) : (s.updateTime source).mbox = s.mbox := onlyIn_updateTime s source .mbox (by decide)

theorem updateTime_frame (s : State) (source : Nat) : (s.updateTime source).frame = s.frame := onlyIn_updateTime s source .frame (by decide)

theorem updateTime_sent (s : State) (source : Nat) : (s.updateTime source).sent = s.sent := onlyIn_updateTime s source .sent (by decide)

theorem updateTime_reaches {s : State} {source t : Nat} (latest : look s.mbox.ring.updates source = some t) :
    t + 10 * Config.ms ≤ (s.updateTime source).time.now := by
  unfold State.updateTime
  rw [latest]
  exact reachNow_reaches _ s

/-- The module once the ring holds the update of an entry. -/
def State.updated (s : State) (source : Nat) (e : LogEntry) : State :=
  ringWrite 2 (s.updateTime source).frame.lastFrame e.bytes ((s.updateTime source).updateNoted source e.seq)

section
variable (source : Nat) (e : LogEntry) (s : State)

theorem onlyIn_updated : onlyIn [.time, .mbox, .sent, .link] s (s.updated source e) :=
  onlyIn_trans (onlyIn_mono (onlyIn_updateTime s source) (by decide)) (onlyIn_trans (onlyIn_mono (onlyIn_withMbox _ _) (by decide))
    (onlyIn_mono (onlyIn_ringEntry _ _ _ _) (by decide)))

theorem updated_time : (s.updated source e).time = (s.updateTime source).time := onlyIn_ringEntry _ _ _ _ .time (by decide)

theorem updated_sent {o : Out} (sent : o ∈ s.sent) : o ∈ (s.updated source e).sent :=
  ringWrite_sent _ _ _ _ ((updateTime_sent s source).symm ▸ sent)

/-- What an update does to the ring. -/
theorem updated_facts : (s.updated source e).mbox.ring.produced = s.mbox.ring.produced + 1 ∧
    (s.updated source e).mbox.ring.noticeDue = s.mbox.ring.noticeDue ∧ e.seq ∉ (s.updated source e).mbox.ring.stale ∧
    look (s.updated source e).mbox.ring.updates source = some (s.updated source e).time.now ∧
    Out.eventEntry (s.mbox.ring.slot s.mbox.ring.produced)
      (ringEntryBytes s.mbox.ring.produced.toNat 2 (s.updated source e).time.module s.frame.lastFrame e.bytes) ∈ (s.updated source e).sent := by
  obtain ⟨produced, none, stale, updates, sent⟩ :=
    ringWrite_facts 2 (s.updateTime source).frame.lastFrame e.bytes ((s.updateTime source).updateNoted source e.seq)
  rw [updated_time]
  unfold State.updated
  rw [produced, none, stale, updates]
  unfold State.updateNoted at sent ⊢
  rw [updateTime_mbox, updateTime_frame] at sent ⊢
  refine ⟨rfl, rfl, ?_, look_put _ _ _, sent⟩
  simp only [List.mem_filter, ne_eq, not_true_eq_false, decide_false, Bool.false_eq_true, and_false, not_false_eq_true]

end

/-- The update of a source whose latest entry has repeats that the ring has not shown, once no loss notice is due. -/
theorem repeatUpdate_of_ready {s : State} {source : Nat} {e : LogEntry} (on : s.mbox.ring.enable = true)
    (latest : (ringNotice s).log.latestOf source = some e) (stale : e.seq ∈ (ringNotice s).mbox.ring.stale)
    (takes : (ringNotice s).mbox.ring.takes e.report.code = true) (room : (ringNotice s).mbox.ring.room = true) :
    repeatUpdate source s = (ringNotice s).updated source e := by
  unfold repeatUpdate
  simp only [on, latest, stale, takes, room, and_self, if_true]
  rfl

/-- A ring that takes an event is enabled. -/
theorem enabled_of_takes {r : EventRing} {code : Nat} (takes : r.takes code = true) : r.enable = true := by
  simp only [EventRing.takes, Bool.and_eq_true] at takes
  exact takes.1.1.1

section
variable {source : U16} {e : LogEntry} {s : State} (latest : s.log.latestOf source.toNat = some e) (stale : e.seq ∈ s.mbox.ring.stale)
  (takes : s.mbox.ring.takes e.report.code = true)
include latest stale takes

/-- The update alone. -/
theorem repeatCount_updates (none : s.mbox.ring.noticeDue = false) (room : s.mbox.ring.held < s.mbox.ring.entries.toNat) :
    exec (.repeatCountUpdate source) s = .next (s.updated source.toNat e) := by
  have same := ringNotice_of_not_due none
  have updates := repeatUpdate_of_ready (source := source.toNat) (e := e) (enabled_of_takes takes)
  rw [same] at updates
  exact congrArg Host.Outcome.next (updates latest stale takes (decide_eq_true room))

variable (due : s.mbox.ring.noticeDue = true) (room : s.mbox.ring.held + 1 < s.mbox.ring.entries.toNat)
include due room

/-- The update after a loss notice. -/
theorem repeatCount_updates_after_notice : exec (.repeatCountUpdate source) s = .next ((ringNotice s).updated source.toNat e) := by
  obtain ⟨produced, -, noted, -⟩ := ringNotice_facts due (by omega)
  obtain ⟨-, entries, enable, mask, consumed⟩ := ringKept_ringNotice s
  refine congrArg Host.Outcome.next (repeatUpdate_of_ready (enabled_of_takes takes) ?_ ?_ ?_ ?_)
  · rw [ringNotice_log]
    exact latest
  · rw [noted]
    exact stale
  · unfold EventRing.takes
    rw [enable, mask]
    exact takes
  · unfold EventRing.room EventRing.held
    rw [produced, consumed, entries]
    unfold EventRing.held at room
    exact decide_eq_true (by bv_omega)

theorem repeatCount_afterNotice : Completes (.repeatCountUpdate source) s [.time, .mbox, .sent, .link] fun t =>
    t.mbox.ring.noticeDue = false ∧ t.mbox.ring.produced = s.mbox.ring.produced + 2 ∧ e.seq ∉ t.mbox.ring.stale ∧
    Out.eventEntry (s.mbox.ring.slot s.mbox.ring.produced)
      (ringEntryBytes s.mbox.ring.produced.toNat 3 s.time.module s.mbox.ring.lost []) ∈ t.sent ∧
    Out.eventEntry (s.mbox.ring.slot (s.mbox.ring.produced + 1))
      (ringEntryBytes (s.mbox.ring.produced + 1).toNat 2 t.time.module s.frame.lastFrame e.bytes) ∈ t.sent := by
  obtain ⟨produced, none, -, noticed⟩ := ringNotice_facts due (by omega)
  obtain ⟨base, entries, -⟩ := ringKept_ringNotice s
  obtain ⟨produced', none', shown, -, entered⟩ := updated_facts source.toNat e (ringNotice s)
  have frame : (ringNotice s).frame = s.frame := onlyIn_ringNotice_entry s .frame (by decide)
  unfold EventRing.slot at entered
  rw [produced, frame, base, entries] at entered
  refine ⟨_, repeatCount_updates_after_notice latest stale takes due room, ?_, none'.trans none, ?_, shown, updated_sent _ _ _ noticed, entered⟩
  · exact onlyIn_trans (onlyIn_mono (onlyIn_ringNotice_entry s) (by decide)) (onlyIn_updated _ _ _)
  · rw [produced', produced, BitVec.add_assoc]
    rfl

end

/-- Settles O8: CTRL and CONSUMED, a loss notice, and an update with a notice before it or alone. -/
theorem eventRingKeepsItsCounts : Obligations.EventRingKeepsItsCounts := by
  unfold Obligations.EventRingKeepsItsCounts
  refine fun on v source s => ⟨fun takes => ⟨eventRing_enables takes on, consumed_stores takes, consumed_ignored takes⟩, lossNotice_enters,
    fun e latest stale takes due room => repeatCount_afterNotice latest stale takes due room, fun e latest stale takes none room => ?_⟩
  obtain ⟨produced, -, shown, kept, entered⟩ := updated_facts source.toNat e s
  refine ⟨_, repeatCount_updates latest stale takes none room, onlyIn_updated _ _ _, produced, shown, fun q last => ?_, kept, entered⟩
  rw [updated_time]
  exact updateTime_reaches last

end Sys2Proof.Machine

/-! PROOFS. The judgement of register accesses (R283, R285, R287, R290, R292 to R294, R296, R297), and ENABLE of a request channel (R263). -/

namespace Sys2Proof.Machine

/-! ## ENABLE (R263) -/

theorem mboxCtrlEnable_sets {ch : Chan} {c : Channel} {s : State} (takes : s.link.takes (chanPf1 ch) = true)
    (set : (s.mbox.get ch).setEnable true = c) : Completes (.mboxCtrlEnable ch true) s [.mbox] fun t =>
    t.mbox = s.mbox.set ch c :=
  ⟨s.withChannel ch c, congrArg Host.Outcome.next ((if_pos takes).trans (congrArg (s.withChannel ch) set)), onlyIn_withChannel _ _ _, rfl⟩

/-- A channel that is off is enabled, and HALTED where ENTRIES or a base is not sound. -/
theorem setEnable_judges {c : Channel} (off : c.enable = false) : c.setEnable true =
    { c with enable := true, halt := if powerIn c.entries.toNat 2 16 && decide (c.sqBase.toNat % 4096 = 0) &&
        decide (c.cqBase.toNat % 4096 = 0) then 0 else 1 } := by
  unfold Channel.setEnable
  rw [if_neg (by rw [off]; decide), if_pos rfl]
  split <;> rfl

theorem onlyIn_withClk (c : ClockUnit) (s : State) : onlyIn [.clk] s { s with clk := c } := by
  intro p hp; cases p <;> simp [Part.same] at hp ⊢

theorem onlyIn_withSync (y : SyncUnit) (s : State) : onlyIn [.sync] s { s with sync := y } := by
  intro p hp; cases p <;> simp [Part.same] at hp ⊢

/-! ## Regions (R283, R296) -/

/-- Every region begins and ends at a word. -/
theorem regions0_words : ∀ r ∈ regions0, r.base % 4 = 0 ∧ r.len % 4 = 0 := by decide

theorem regionAt_holds {off : Nat} {r : Region} (region : regionAt false off = some r) : r ∈ regions0 ∧ r.base ≤ off ∧ off < r.base + r.len :=
  ⟨List.mem_of_find?_eq_some region,
    of_decide_eq_true (List.find?_some (p := fun r : Region => decide (r.base ≤ off ∧ off < r.base + r.len)) region)⟩

/-- The region of PD76. -/
theorem regionAt_timers {off : Nat} (low : 0x20000 ≤ off) (high : off < 0x20500) : regionAt false off = some ⟨0x20000, 1280, 76⟩ := by
  unfold regionAt regions0
  rw [if_neg (by decide)]
  iterate 9 rw [List.find?_cons_of_neg (by simp only [decide_eq_true_eq]; omega)]
  rw [List.find?_cons_of_pos (by simp only [decide_eq_true_eq]; omega)]

/-- The region of CH0. -/
theorem regionAt_ch0 {off : Nat} (low : 0x01000 ≤ off) (high : off < 0x01040) : regionAt false off = some ⟨0x01000, 64, 55⟩ := by
  unfold regionAt regions0
  rw [if_neg (by decide), List.find?_cons_of_neg (by simp only [decide_eq_true_eq]; omega),
    List.find?_cons_of_pos (by simp only [decide_eq_true_eq]; omega)]

theorem region_on {r : Region} {s : State} (on : s.pdOn r.domain = true) : r.on s = true := by
  unfold Region.on
  rw [on, Bool.or_true]

/-- A word may be written where it is aligned. -/
theorem writable_word {off : Nat} (mps : Nat) (aligned : off % 4 = 0) : writable false off 4 mps = true := by
  unfold writable
  split
  next => simp only [aligned, decide_true, BEq.rfl, Bool.true_or, Bool.and_self]
  next r region =>
    obtain ⟨listed, base, last⟩ := regionAt_holds region
    obtain ⟨baseWord, lenWord⟩ := regions0_words r listed
    have fits : off % 4 = 0 ∧ off + 4 ≤ r.base + r.len ∧ 4 ≤ max 128 mps := ⟨aligned, by omega, by omega⟩
    simp only [fits, and_self, decide_true, BEq.rfl, Bool.true_or, Bool.and_self, ite_self]

theorem writable_misaligned {off : Nat} (mps : Nat) (misaligned : off % 4 ≠ 0) : writable false off 4 mps = false := by
  unfold writable
  split
  next => simp only [misaligned, decide_false, Bool.false_and]
  next => simp only [misaligned, false_and, decide_false, Bool.false_and, ite_self]

/-! ## A word written (R285, R293) -/

section
variable {m : Master} {off v : Nat} {r : Region} {s : State}

theorem writeWord_elsewhere (nowhere : regionAt false off = none) : writeWord m false off v s = s := by
  unfold writeWord
  rw [nowhere]

section
variable (region : regionAt false off = some r)
include region

theorem writeWord_off (dark : r.on s = false) : writeWord m false off v s = rejectWrite m 2 off v s := by
  unfold writeWord
  simp only [region, dark, Bool.not_false, if_true]

theorem writeWord_done {t : State} (on : r.on s = true) (takes : write0 m r.base (off - r.base) v s = .done t) :
    writeWord m false off v s = t := by
  unfold writeWord
  simp only [region, on, Bool.not_true, Bool.false_eq_true, if_false, takes]

theorem writeWord_rejected {reason : Nat} (on : r.on s = true) (rejects : write0 m r.base (off - r.base) v s = .rejected reason) :
    writeWord m false off v s = rejectWrite m reason off v s := by
  unfold writeWord
  simp only [region, on, Bool.not_true, Bool.false_eq_true, if_false, rejects]

end

/-- The event of a rejected write (Table 12-4). -/
def rejectCode (reason : Nat) : Nat := if reason = 1 then 0x0903 else if reason = 0 then 0x0904 else 0x0905

theorem rejectCode_coded (reason : Nat) : (severity (rejectCode reason)).isSome := by
  unfold rejectCode
  split
  · decide
  split
  · decide
  · decide

theorem rejectWrite_reports (reason : Nat) : Reports (rejectCode reason) srcHost (rejectWrite m reason off v s) :=
  reports_logEvent (rejectCode_coded reason)

theorem rejectWrite_regs (reason : Nat) : (rejectWrite m reason off v s).regs = s.regs.reject m reason off v s.time.module :=
  logEvent_regs _ _ _ _

theorem rejectWrite_c0 (reason : Nat) : (rejectWrite m reason off v s).mbox.c0 = s.mbox.c0 := logEvent_mbox_c0 _ _ _ _

end

/-! ## The bridge (R297) -/

theorem bridgeClock_direct {off : Nat} (direct : off < 0x20000) : bridgeClock off = none := by
  unfold bridgeClock
  rw [if_neg (by omega), if_neg (by omega)]

/-- Only registers of PD76 wait for a clock. -/
theorem bridgeClock_timers {off c : Nat} (clock : bridgeClock off = some c) : regionAt false off = some ⟨0x20000, 1280, 76⟩ := by
  unfold bridgeClock at clock
  split at clock
  next meter => exact regionAt_timers (by omega) (by omega)
  split at clock
  next ltc => exact regionAt_timers (by omega) (by omega)
  next => cases clock

theorem waitsFor_of_noClock {off : Nat} {s : State} (unclocked : bridgeClock off = none) : s.waitsFor off = none := by
  unfold State.waitsFor
  rw [unclocked]
  rfl

theorem waitsFor_elsewhere {off : Nat} {s : State} (nowhere : regionAt false off = none) : s.waitsFor off = none := by
  cases clock : bridgeClock off with
  | none => exact waitsFor_of_noClock clock
  | some c => exact absurd (nowhere.symm.trans (bridgeClock_timers clock)) (Option.some_ne_none _).symm

theorem waitsFor_off {off : Nat} {r : Region} {s : State} (region : regionAt false off = some r) (dark : r.on s = false) :
    s.waitsFor off = none := by
  cases clock : bridgeClock off with
  | none => exact waitsFor_of_noClock clock
  | some c =>
    obtain rfl : _ = r := Option.some.inj ((bridgeClock_timers clock).symm.trans region)
    have unpowered : s.pdOn 76 = false := dark
    unfold State.waitsFor
    rw [clock, unpowered]
    rfl

/-- A word that waits for no clock is written at once. -/
theorem bridgeWord_runs {m : Master} {off v : Nat} {s : State} (idle : s.regs.waiting = none) (calm : s.waitsFor off = none) :
    bridgeWord m false off v s = writeWord m false off v s := by
  unfold bridgeWord
  simp only [idle, calm, Option.isSome_none, Bool.false_eq_true, if_false, ite_self]

/-! ## Registers of a request channel (R285, R294) -/

theorem write0_ch0 (m : Master) (off v : Nat) (s : State) : write0 m 0x01000 off v s = (s.mbox.c0.write off v).map (s.withChannel .ch0) := rfl

theorem unless_locked {α : Type} {locked : Bool} (a : α) (held : locked = true) : Written.unless locked a = .rejected 0 := if_pos held

theorem unless_free {α : Type} {locked : Bool} (a : α) (free : locked = false) : Written.unless locked a = .done a :=
  if_neg (by rw [free]; decide)

theorem channelWrite_entries (c : Channel) (v : Nat) : c.write 0x10 v = .unless c.enable { c with entries := BitVec.ofNat 32 v } := rfl

theorem channelWrite_sqBase_low (c : Channel) (v : Nat) : c.write 0x00 v = .unless c.enable { c with sqBase := setHalf c.sqBase false v } := rfl

theorem channelWrite_sqBase_high (c : Channel) (v : Nat) : c.write 0x04 v = .unless c.enable { c with sqBase := setHalf c.sqBase true v } := rfl

/-- Both halves of a field written are the field (R294). -/
theorem setHalf_both (old new : U64) : setHalf (setHalf old false (new.toNat % 2 ^ 32)) true (new.toNat / 2 ^ 32) = new := by
  have bound := new.isLt
  apply BitVec.eq_of_toNat_eq
  unfold setHalf
  simp only [if_true, Bool.false_eq_true, if_false, BitVec.toNat_ofNat]
  omega

section
variable {s : State} (idle : s.regs.waiting = none) (on : s.pdOn 55 = true)
include idle on

/-- A word of CH0 that its register takes. -/
theorem ch0Word_done {off v : Nat} {c : Channel} (low : 0x01000 ≤ off) (high : off < 0x01040)
    (writes : s.mbox.c0.write (off - 0x01000) v = .done c) : bridgeWord .pf0 false off v s = s.withChannel .ch0 c := by
  refine (bridgeWord_runs idle (waitsFor_of_noClock (bridgeClock_direct (by omega)))).trans
    (writeWord_done (regionAt_ch0 low high) (region_on on) ?_)
  rw [write0_ch0, writes]
  rfl

end

/-- The two words of SQ_BASE, the low one first. -/
theorem sqBase_words {data : U64} {s : State} (idle : s.regs.waiting = none) (disabled : s.mbox.c0.enable = false) (on : s.pdOn 55 = true) :
    writeRun .pf0 false 0x01000 [data.toNat % 2 ^ 32, data.toNat / 2 ^ 32] s = s.withChannel .ch0 { s.mbox.c0 with sqBase := data } := by
  let lower : Channel := { s.mbox.c0 with sqBase := setHalf s.mbox.c0.sqBase false (data.toNat % 2 ^ 32) }
  have first : bridgeWord .pf0 false 0x01000 (data.toNat % 2 ^ 32) s = s.withChannel .ch0 lower :=
    ch0Word_done idle on (by decide) (by decide) ((channelWrite_sqBase_low _ _).trans (unless_free _ disabled))
  have upper : lower.write 0x04 (data.toNat / 2 ^ 32) = .done { s.mbox.c0 with sqBase := data } := by
    rw [channelWrite_sqBase_high, setHalf_both]
    exact unless_free _ disabled
  have second : bridgeWord .pf0 false 0x01004 (data.toNat / 2 ^ 32) (s.withChannel .ch0 lower) =
      s.withChannel .ch0 { s.mbox.c0 with sqBase := data } :=
    (ch0Word_done (off := 0x01004) (s := s.withChannel .ch0 lower)
      ((congrArg RegUnit.waiting (withChannel_regs _ _ _)).trans idle) ((withChannel_pdOn _ _ _ _).trans on)
      (by decide) (by decide) upper).trans (withChannel_twice _ _ _ _)
  rw [writeRun, first, writeRun, second, writeRun]

/-! ## An access of the host (R196) -/

section
variable {off : Nat} {data : U64} {s : State} (takes : s.link.takes false = true)
include takes

/-- An access of PF0 reaches the registers. -/
theorem pf0_reaches : ¬(!(s.reaches .pf0 (masterPf1 .pf0 .pf0))) = true := by
  rw [show s.reaches .pf0 (masterPf1 .pf0 .pf0) = true from takes]
  decide

theorem word_runs (aligned : off % 4 = 0) :
    exec (.registerWrite .pf0 .pf0 off .word data) s = .next (bridgeWord .pf0 false off (data.toNat % 2 ^ 32) s) :=
  congrArg Host.Outcome.next ((if_neg (pf0_reaches takes)).trans (if_pos (writable_word s.link.mps aligned)))

theorem misaligned_runs (misaligned : off % 4 ≠ 0) : exec (.registerWrite .pf0 .pf0 off .word data) s = .next (unsupported false off s) :=
  congrArg Host.Outcome.next ((if_neg (pf0_reaches takes)).trans
    ((if_neg (Bool.eq_false_iff.1 (writable_misaligned s.link.mps misaligned))).trans (if_pos rfl)))

theorem misaligned_reports (misaligned : off % 4 ≠ 0) : Completes (.registerWrite .pf0 .pf0 off .word data) s reporting fun t =>
    t.link.aer0.status.testBit 20 = true ∧ Reports 0x0503 srcHost t ∧ t.sent.head? = some (.completion .unsupported) :=
  ⟨(s.errorLogged false 20 0x0503 off).send (.completion .unsupported), misaligned_runs takes misaligned,
    onlyIn_trans (onlyIn_errorLogged _ _ _ _ s) (onlyIn_mono (onlyIn_send _ _) (by decide)), errorLogged_sets false _ _ _ s,
    reports_send _ (errorLogged_reports _ _ _ _ s (by decide)), rfl⟩

theorem read_runs (aligned : off % 4 = 0) :
    exec (.registerWrite .pf0 .pf0 off (.read false) data) s = .next (bridgeRead .pf0 false off 4 s) :=
  congrArg Host.Outcome.next ((if_neg (pf0_reaches takes)).trans (if_pos aligned))

theorem together_runs (aligned : off % 4 = 0) : exec (.registerWrite .pf0 .pf0 off .together data) s =
    .next (bridgeWord .pf0 false off (collided false off (data.toNat % 2 ^ 32)) s) :=
  congrArg Host.Outcome.next ((if_neg (pf0_reaches takes)).trans (if_pos aligned))

/-- A read on the direct path completes with the word at its offset. -/
theorem read_direct (aligned : off % 4 = 0) (direct : off < 0x20000) :
    Completes (.registerWrite .pf0 .pf0 off (.read false) data) s [.sent] fun t =>
      t.sent = .completion (.data (leBytes 4 (readReg false false off s))) :: s.sent := by
  have plain : readWord .pf0 false off s = (readReg false false off s, s) := by
    unfold readWord
    rw [show decide (0x20100 ≤ off ∧ off < 0x20500) = false from decide_eq_false (by omega)]
    rfl
  have bridged : bridgeRead .pf0 false off 4 s = s.send (.completion (.data (leBytes 4 (readReg false false off s)))) := by
    unfold bridgeRead readNow
    rw [if_pos (show (false || decide (off < 0x20000)) = true from decide_eq_true direct), plain]
    rfl
  exact ⟨_, (read_runs takes aligned).trans (congrArg _ bridged), onlyIn_send _ s, rfl⟩

variable (idle : s.regs.waiting = none)
include idle

theorem write_elsewhere (aligned : off % 4 = 0) (nowhere : regionAt false off = none) :
    exec (.registerWrite .pf0 .pf0 off .word data) s = .next s :=
  (word_runs takes aligned).trans (congrArg _ ((bridgeWord_runs idle (waitsFor_elsewhere nowhere)).trans (writeWord_elsewhere nowhere)))

/-- A write that is rejected leaves its mirror and its event. -/
theorem word_rejected {reason : Nat} (aligned : off % 4 = 0) (calm : s.waitsFor off = none)
    (rejects : writeWord .pf0 false off (data.toNat % 2 ^ 32) s = rejectWrite .pf0 reason off (data.toNat % 2 ^ 32) s) :
    Completes (.registerWrite .pf0 .pf0 off .word data) s (.regs :: reporting) fun t =>
      t.regs = s.regs.reject .pf0 reason off (data.toNat % 2 ^ 32) s.time.module ∧ t.mbox.c0 = s.mbox.c0 ∧
      Reports (rejectCode reason) srcHost t :=
  ⟨_, (word_runs takes aligned).trans (congrArg _ ((bridgeWord_runs idle calm).trans rejects)), onlyIn_rejectWrite _ _ _ _ _,
    rejectWrite_regs _, rejectWrite_c0 _, rejectWrite_reports _⟩

/-- R296: the domain is off. -/
theorem write_dark {x : Region} (aligned : off % 4 = 0) (region : regionAt false off = some x) (dark : x.on s = false) :
    Completes (.registerWrite .pf0 .pf0 off .word data) s (.regs :: reporting) fun t =>
      t.regs.rejCnt = bump32 s.regs.rejCnt 1 ∧ t.regs.rejOffset = off % 2 ^ 18 ∧ t.regs.rejData = data.toNat % 2 ^ 32 ∧
      t.regs.rejReason = 2 ∧ Reports 0x0905 srcHost t := by
  obtain ⟨t, run, parts, regs, -, reports⟩ := word_rejected (data := data) takes idle aligned (waitsFor_off region dark) (writeWord_off region dark)
  refine ⟨t, run, parts, ?_⟩
  dsimp only
  rw [regs]
  exact ⟨rfl, rfl, Nat.mod_mod _ _, rfl, reports⟩

/-- R293: REF is a privileged field (Table 17-6). -/
theorem write_privileged : Completes (.registerWrite .pf0 .pf0 0x26004 .word data) s (.regs :: reporting) fun t =>
    t.regs.rejReason = 1 ∧ t.regs.rejOffset = 0x26004 ∧ t.regs.rejCnt = bump32 s.regs.rejCnt 1 ∧ Reports 0x0903 srcHost t := by
  have rejects : writeWord .pf0 false 0x26004 (data.toNat % 2 ^ 32) s = rejectWrite .pf0 1 0x26004 (data.toNat % 2 ^ 32) s :=
    writeWord_rejected (r := ⟨0x26000, 512, 80⟩) rfl rfl rfl
  obtain ⟨t, run, parts, regs, -, reports⟩ := word_rejected takes idle rfl (waitsFor_of_noClock (by decide)) rejects
  refine ⟨t, run, parts, ?_⟩
  dsimp only
  rw [regs]
  exact ⟨rfl, rfl, rfl, reports⟩

/-- R290: a write in the clock of an increment. -/
theorem write_together : Completes (.registerWrite .pf0 .pf0 0x26018 .together data) s [.clk] fun t =>
    t.clk = { s.clk with lockLoss := bump32 (data.toNat % 2 ^ 32) 1 } := by
  have counted : collided false 0x26018 (data.toNat % 2 ^ 32) = bump32 (data.toNat % 2 ^ 32) 1 := if_pos (by decide)
  have written : writeWord .pf0 false 0x26018 (bump32 (data.toNat % 2 ^ 32) 1) s =
      { s with clk := { s.clk with lockLoss := bump32 (data.toNat % 2 ^ 32) 1 } } :=
    writeWord_done (r := ⟨0x26000, 512, 80⟩) rfl rfl rfl
  have runs := together_runs (data := data) takes (off := 0x26018) rfl
  rw [counted, bridgeWord_runs idle (waitsFor_of_noClock (by decide)), written] at runs
  exact ⟨_, runs, onlyIn_withClk _ s, rfl⟩

/-- R297: a read of the genlock meter waits where CK03 is stopped. -/
theorem read_waits (on : s.pdOn 76 = true) (stopped : s.clk.genref = false) :
    Completes (.registerWrite .pf0 .pf0 0x20048 (.read false) data) s [.regs] fun t =>
      t.regs = { s.regs with waiting := some ⟨true, 0x20048, 4, 3, s.time.now, false, .pf0⟩ } := by
  have clock : s.waitsFor 0x20048 = some 3 := by
    have still : s.clockStopped 3 = true := congrArg (!·) stopped
    unfold State.waitsFor
    rw [show bridgeClock 0x20048 = some 3 by decide]
    simp only [Option.filter, on, still, Bool.and_self, if_true]
  have waits : bridgeRead .pf0 false 0x20048 4 s =
      { s with regs := { s.regs with waiting := some ⟨true, 0x20048, 4, 3, s.time.now, false, .pf0⟩ } } := by
    unfold bridgeRead
    simp only [idle, clock, Option.isSome_none, Bool.false_or, Bool.false_eq_true, if_false]
    rfl
  exact ⟨_, (read_runs takes rfl).trans (congrArg _ waits), onlyIn_withRegs _ s, rfl⟩

/-! ## Writes of a request channel (R285, R294) -/

/-- ENTRIES of an enabled channel is locked. -/
theorem write_locked (enabled : s.mbox.c0.enable = true) (on : s.pdOn 55 = true) :
    Completes (.registerWrite .pf0 .pf0 0x01010 .word data) s (.regs :: reporting) fun t =>
      t.mbox.c0 = s.mbox.c0 ∧ t.regs.rejReason = 0 ∧ Reports 0x0904 srcHost t := by
  have locked : write0 .pf0 0x01000 0x10 (data.toNat % 2 ^ 32) s = .rejected 0 := by
    rw [write0_ch0, channelWrite_entries, unless_locked _ enabled]
    rfl
  have rejects : writeWord .pf0 false 0x01010 (data.toNat % 2 ^ 32) s = rejectWrite .pf0 0 0x01010 (data.toNat % 2 ^ 32) s :=
    writeWord_rejected (regionAt_ch0 (by decide) (by decide)) (region_on on) locked
  obtain ⟨t, run, parts, regs, channel, reports⟩ := word_rejected takes idle rfl (waitsFor_of_noClock (by decide)) rejects
  exact ⟨t, run, parts, channel, congrArg RegUnit.rejReason regs, reports⟩

variable (disabled : s.mbox.c0.enable = false) (on : s.pdOn 55 = true)
include disabled on

theorem entries_written : Completes (.registerWrite .pf0 .pf0 0x01010 .word data) s [.mbox] fun t =>
    t.mbox = { s.mbox with c0 := { s.mbox.c0 with entries := BitVec.ofNat 32 data.toNat } } := by
  have word : BitVec.ofNat 32 (data.toNat % 2 ^ 32) = BitVec.ofNat 32 data.toNat :=
    BitVec.eq_of_toNat_eq (by rw [BitVec.toNat_ofNat, BitVec.toNat_ofNat, Nat.mod_mod])
  have writes : s.mbox.c0.write 0x10 (data.toNat % 2 ^ 32) = .done { s.mbox.c0 with entries := BitVec.ofNat 32 data.toNat } := by
    rw [channelWrite_entries, word]
    exact unless_free _ disabled
  exact ⟨_, (word_runs takes rfl).trans (congrArg _ (ch0Word_done idle on (by decide) (by decide) writes)), onlyIn_withChannel _ _ _, rfl⟩

/-- R294: a write of 8 bytes is two of 4. -/
theorem sqBase_written : Completes (.registerWrite .pf0 .pf0 0x01000 .pair data) s [.mbox] fun t =>
    t.mbox = { s.mbox with c0 := { s.mbox.c0 with sqBase := data } } := by
  have fits : writable false 0x01000 8 s.link.mps = true := by
    unfold writable
    rw [regionAt_ch0 (by decide) (by decide)]
    exact decide_eq_true ⟨rfl, by decide, by omega⟩
  exact ⟨_, congrArg Host.Outcome.next ((if_neg (pf0_reaches takes)).trans ((if_pos fits).trans (sqBase_words idle disabled on))),
    onlyIn_withChannel _ _ _, rfl⟩

end

/-! ## An access that waits (R297) -/

/-- The bridge once the millisecond of the access that waits is over. -/
def State.hung (s : State) (a : BridgeAccess) : State :=
  { reachNow (a.since + Config.ms) s with regs := { s.regs with
      hangCnt := bump32 s.regs.hangCnt 1, hangOffset := a.offset % 2 ^ 18, hangClock := a.clock, waiting := some { a with counted := true } } }

theorem onlyIn_hung (s : State) (a : BridgeAccess) : onlyIn [.time, .regs] s (s.hung a) :=
  onlyIn_trans (onlyIn_mono (onlyIn_reachNow (a.since + Config.ms) s) (by decide)) (onlyIn_mono (onlyIn_withRegs _ _) (by decide))

theorem bridgeWait_counted {a : BridgeAccess} {s : State} (waits : s.regs.waiting = some a) (fresh : a.counted = false) :
    Completes .bridgeWaitTimeout s ([.time, .regs] ++ reporting) fun t =>
      t.regs.hangCnt = bump32 s.regs.hangCnt 1 ∧ t.regs.hangOffset = a.offset % 2 ^ 18 ∧ t.regs.hangClock = a.clock ∧
      t.regs.waiting = some { a with counted := true } ∧ a.since + Config.ms ≤ t.time.now ∧ Reports 0x0906 srcHost t := by
  have hangs : bridgeHang s = logEvent 0x0906 srcHost a.offset (s.hung a) := by
    unfold bridgeHang
    simp only [waits, fresh, Bool.false_eq_true, if_false]
    rfl
  refine ⟨_, congrArg Host.Outcome.next hangs, ?_, ?_⟩
  · exact onlyIn_trans (onlyIn_mono (onlyIn_hung s a) (by decide)) (onlyIn_mono (onlyIn_logEvent _ _ _ _) (by decide))
  · dsimp only
    rw [logEvent_regs, logEvent_time]
    exact ⟨rfl, rfl, rfl, rfl, reachNow_reaches _ s, reports_logEvent (by decide)⟩

/-- CK03 runs, and nothing waits in the bridge. -/
def State.meterRuns (s : State) : State :=
  { s with clk := { s.clk with genref := true }, regs := { s.regs with waiting := none, queue := [] } }

theorem onlyIn_meterRuns (s : State) : onlyIn [.clk, .regs] s s.meterRuns :=
  onlyIn_trans (onlyIn_mono (onlyIn_withClk { s.clk with genref := true } s) (by decide)) (onlyIn_mono (onlyIn_withRegs _ _) (by decide))

theorem meterRuns_waitsFor (s : State) : s.meterRuns.waitsFor 0x20054 = none := by
  have runs : s.meterRuns.clockStopped 3 = false := rfl
  unfold State.waitsFor
  rw [show bridgeClock 0x20054 = some 3 by decide]
  simp only [Option.filter, runs, Bool.and_false, Bool.false_eq_true, if_false]

/-- CK03 returns: a write of the genlock meter that waited for it is carried out. -/
theorem bridgeReturn_writes {a : BridgeAccess} {s : State} (waits : s.regs.waiting = some a) (write : a.isRead = false)
    (miss : a.offset = 0x20054) (clock : a.clock = 3) (alone : s.regs.queue = []) (on : s.pdOn 76 = true) :
    Completes .bridgeClockReturn s [.regs, .clk, .sync] fun t =>
      t.regs = { s.regs with waiting := none } ∧ t.clk = { s.clk with genref := true } ∧
      t.sync = { s.sync with genlock := { s.sync.genlock with missCnt := a.data } } := by
  have written : bridgeRun a s.meterRuns = s.meterRuns.setMeter { s.sync.genlock with missCnt := a.data } := by
    unfold bridgeRun
    rw [if_neg (by rw [write]; decide), miss, bridgeWord_runs rfl (meterRuns_waitsFor s)]
    exact writeWord_done (regionAt_timers (by decide) (by decide)) (region_on on) rfl
  have returns : bridgeReturn s = s.meterRuns.setMeter { s.sync.genlock with missCnt := a.data } := by
    unfold bridgeReturn
    simp only [waits, on, clock, alone, if_true]
    exact written
  refine ⟨_, congrArg Host.Outcome.next returns, ?_, ?_, rfl, rfl⟩
  · exact onlyIn_trans (onlyIn_mono (onlyIn_meterRuns s) (by decide)) (onlyIn_mono (onlyIn_withSync _ _) (by decide))
  · show ({ s.regs with waiting := none, queue := [] } : RegUnit) = { s.regs with waiting := none }
    rw [← alone]

/-! ## Triplicated fields (R287) -/

theorem copy_repaired {field copy : Nat} {s : State} (known : tripled field = true) (low : copy < 3) (on : s.power.aoOn = true) :
    Completes (.triplicateUpset field copy) s (.regs :: reporting) fun t =>
      t.regs = { s.regs with voteRepairCnt := bump32 s.regs.voteRepairCnt 1, voteField := field, voteCopy := copy, voteTime := s.time.module } ∧
      Reports 0x0901 srcAo t := by
  refine ⟨_, congrArg Host.Outcome.next (if_pos (by rw [known, on, decide_eq_true low]; rfl)), ?_, logEvent_regs _ _ _ _,
    reports_logEvent (by decide)⟩
  exact onlyIn_trans (onlyIn_mono (onlyIn_withRegs _ s) (by decide)) (onlyIn_mono (onlyIn_logEvent _ _ _ _) (by decide))

/-- Settles O46: one lemma for each access. -/
theorem registerWritesAreJudged : Obligations.RegisterWritesAreJudged := by
  unfold Obligations.RegisterWritesAreJudged
  refine fun ch off data field copy s => ⟨fun takes off => ⟨fun sound => ?_, fun unsound => ?_⟩,
    fun takes idle => ⟨?_, ?_, ?_, ?_, ?_, ?_, ?_, ?_, ?_⟩,
    fun a waits => ⟨bridgeWait_counted waits, bridgeReturn_writes waits⟩, copy_repaired⟩
  · exact mboxCtrlEnable_sets takes ((setEnable_judges off).trans (by rw [if_pos sound]))
  · exact mboxCtrlEnable_sets takes ((setEnable_judges off).trans (by rw [if_neg (by rw [unsound]; decide)]))
  · exact write_elsewhere takes idle
  · exact read_direct takes
  · exact read_waits takes idle
  · exact write_together takes idle
  · exact misaligned_reports takes
  · exact fun x => write_dark takes idle
  · exact write_privileged takes idle
  · exact write_locked takes idle
  · exact fun disabled on => ⟨entries_written takes idle disabled on, sqBase_written takes idle disabled on⟩

end Sys2Proof.Machine

/-! PROOFS. The timer channels (R320, R323, R325 to R327): one tick judges the compare condition, and a host write reaches its channel; START ends STUCK. -/

namespace Sys2Proof.Machine

/-! ## Channels of the state -/

theorem onlyIn_setTimer (n : Nat) (t : Timer) (s : State) : onlyIn [.sync] s (s.setTimer n t) := onlyIn_withSync _ s

theorem setTimer_timer {n : Nat} {s : State} (held : n < s.sync.timers.length) (t : Timer) : (s.setTimer n t).sync.timer n = t := by
  simp [State.setTimer, SyncUnit.setTimer, SyncUnit.timer, held]

/-! ## One tick (R320) -/

theorem condAt_eq (t : Timer) (c : U32) :
    t.condAt c = decide ((c.toNat + 2 ^ 32 - (if t.compare = 0 then 1 else t.compare.toNat)) % 2 ^ 32 < 2 ^ 31) := by
  have compared : (if t.compare = 0 then (1 : U32) else t.compare).toNat = if t.compare = 0 then 1 else t.compare.toNat := by split <;> rfl
  have below := (if t.compare = 0 then (1 : U32) else t.compare).isLt
  unfold Timer.condAt
  dsimp only
  rw [BitVec.toNat_sub, ← compared, Nat.add_comm c.toNat, Nat.sub_add_comm (by omega)]

theorem halt_judged (t : Timer) : t.halt.cond = t.cond ∧ t.halt.count = t.count := by
  unfold Timer.halt
  split <;> exact ⟨rfl, rfl⟩

section
variable {t : Timer} {c : U32} {wrapped : Bool} {now : Nat}

theorem step_matched : (t.step c wrapped now).matched = (t.condAt c && !t.cond) := rfl

/-- A tick whose self-actions reset nothing leaves the condition as it judged it. -/
theorem step_cond (noReset : t.matchSelf ≠ 1 ∧ t.matchSelf ≠ 3 ∧ t.ovfSelf ≠ 1 ∧ t.ovfSelf ≠ 3) :
    (t.step c wrapped now).t.cond = t.condAt c := by
  obtain ⟨m1, m3, o1, o3⟩ := noReset
  simp only [Timer.step, m1, m3, o1, o3, decide_false, Bool.or_false, Bool.and_false, Bool.false_eq_true, if_false, apply_ite Timer.cond,
    halt_judged, ite_self]

/-- A match that resets COUNT leaves it 0, and the condition as not having held. -/
theorem step_resets (action : t.matchSelf = 1 ∨ t.matchSelf = 3) (matched : (t.step c wrapped now).matched = true) :
    (t.step c wrapped now).t.cond = false ∧ (t.step c wrapped now).t.count = 0 := by
  have resets : (decide (t.matchSelf = 1) || decide (t.matchSelf = 3)) = true := by simpa using action
  rw [step_matched] at matched
  simp only [Timer.step, matched, resets, Bool.and_self, Bool.true_or, if_true, apply_ite Timer.cond, apply_ite Timer.count, halt_judged,
    ite_self, Timer.resetCount, and_self]

end

/-! ## Host writes (R325 to R327) -/

theorem bridged_reaches {isRead : Bool} {offset data : Nat} {act : State → State} {s : State} (reaches : Reachable s) :
    bridged isRead offset data act s = act s := by
  simp [bridged, reaches.1, reaches.2]

theorem begin_of_idle {t : Timer} {now : Nat} (idle : t.running = false) (fresh : t.stuck = false) : t.begin now =
    { t with running := true, cond := false, prescale := now, lastEdge := now, locked := t.locked || decide (t.haltBeh = 1) } := by
  simp [Timer.begin, idle, fresh]

section
variable {n : Fin 16} {s : State} (reaches : Reachable s) (on : s.pdOn 76 = true) (host : n.val < 12)
include reaches on host

/-- A host write to TMR0 to TMR11 is done while PD76 is on. -/
theorem timerWrite_sets {c : Instr} {reg data : Nat} {f : Timer → Nat → Timer}
    (run : exec c s = .next (bridged false (timerOffset n.val reg) data (timerWrite n.val reg data f) s)) :
    Completes c s [.sync] fun t => t.sync = (s.setTimer n.val (f (s.sync.timer n.val) s.time.now)).sync := by
  have done : timerWrite n.val reg data f s = s.setTimer n.val (f (s.sync.timer n.val) s.time.now) := by
    simp [timerWrite, on, Nat.not_le.2 host]
  exact ⟨_, run.trans (congrArg _ ((bridged_reaches reaches).trans done)), onlyIn_setTimer _ _ s, rfl⟩

theorem start_begins : Completes (.start n) s [.sync] fun t =>
    t.sync = (s.setTimer n.val ((s.sync.timer n.val).begin s.time.now)).sync := timerWrite_sets reaches on host rfl

/-- START on a stopped channel that is not STUCK. -/
theorem start_of_not_stuck (idle : (s.sync.timer n.val).running = false) (fresh : (s.sync.timer n.val).stuck = false) :
    Completes (.start n) s [.sync] fun t => t.sync = (s.setTimer n.val { s.sync.timer n.val with
      running := true, cond := false, prescale := s.time.now, lastEdge := s.time.now,
      locked := (s.sync.timer n.val).locked || decide ((s.sync.timer n.val).haltBeh = 1) }).sync := by
  have begun := start_begins reaches on host
  rwa [begin_of_idle idle fresh] at begun

/-- What a host write leaves of the channel that it names. -/
theorem timerWrite_timer (held : s.sync.timers.length = 16) {c : Instr} {reg data : Nat} {f : Timer → Nat → Timer} {post : Timer → Prop}
    (run : exec c s = .next (bridged false (timerOffset n.val reg) data (timerWrite n.val reg data f) s))
    (sets : post (f (s.sync.timer n.val) s.time.now)) : Completes c s [.sync] fun t => post (t.sync.timer n.val) := by
  obtain ⟨t, run, parts, sync⟩ := timerWrite_sets reaches on host run
  refine ⟨t, run, parts, ?_⟩
  show post (t.sync.timer n.val)
  rw [sync, setTimer_timer (held.symm ▸ n.isLt)]
  exact sets

end

/-- Settles O52: one lemma for each thing that a tick does, and one for all host writes. -/
theorem compareMatchesOnce : Obligations.CompareMatchesOnce := by
  unfold Obligations.CompareMatchesOnce
  refine ⟨fun t c wrapped now => ⟨?_, fun m1 m3 o1 o3 => ?_, step_resets⟩, fun n v s held reaches on host => ⟨fun idle => ?_, ?_, ?_, ?_⟩⟩
  · rw [step_matched, condAt_eq]
  · rw [step_cond ⟨m1, m3, o1, o3⟩, condAt_eq]
  · exact timerWrite_timer (post := fun u => u.cond = false) reaches on host held rfl (if_neg (by rw [idle]; decide))
  · exact timerWrite_timer (post := fun u => u.cond = false) reaches on host held rfl rfl
  · exact timerWrite_timer (post := fun u => u.count = v ∧ u.cond = _ ∧ u.matchCnt = _) reaches on host held rfl ⟨rfl, rfl, rfl⟩
  · exact timerWrite_timer (post := fun u => u.compare = v ∧ u.cond = _ ∧ u.matchCnt = _) reaches on host held rfl ⟨rfl, rfl, rfl⟩

/-! ## The refutation of O32 -/

/-- PD76 is on, and TMR0 is stopped with STUCK set: INPUT 1, which it captured while it ran, was silent for STUCK_MS, and STOP came after
that. -/
def stuckIdle : State := (State.reset.setDomains [76] true).setTimer 0 { Reset.timer with ctrl := 0x1100, stuckMs := 3, stuck := true }

/-- Refutes O32: START on a stopped channel ends STUCK, whose cause asks for a channel that runs (R323), and its clause names every other field that
START changes and keeps this one. On a channel that is not STUCK the clause holds (`start_of_not_stuck`). -/
theorem not_timersCountAndCapture : ¬ Obligations.TimersCountAndCapture := by
  unfold Obligations.TimersCountAndCapture
  intro h
  obtain ⟨-, writes, -, -⟩ := h 0 0 stuckIdle (by decide)
  have reaches : Reachable stuckIdle := ⟨by decide, rfl⟩
  have on : stuckIdle.pdOn 76 = true := by decide
  obtain ⟨host, -, -⟩ := writes reaches on
  obtain ⟨starts, -⟩ := host (by decide)
  obtain ⟨t, run, -, kept⟩ := starts rfl
  obtain ⟨u, run', -, begun⟩ := start_begins (n := 0) reaches on (by decide)
  obtain rfl : t = u := Host.Outcome.next.inj (run.symm.trans run')
  have stuck := congrArg (fun y => (y.timer 0).stuck) (begun.symm.trans kept)
  exact absurd stuck (by decide)

end Sys2Proof.Machine

/-! PROOFS. The frames of the timecode generator (R316), and the codewords that LTC_OUT sends (R317). -/

namespace Sys2Proof.Machine

theorem onlyIn_setTc (c : TimecodeUnit) (s : State) : onlyIn [.sync] s (s.setTc c) := onlyIn_withSync _ s

/-! ## A timecode frame begins -/

theorem tcBegin_sync (c : TimecodeUnit) (s : State) : (tcBegin c s).sync = { s.sync with tc := { c with count := 0 } } := by
  unfold tcBegin
  dsimp only
  split <;> rfl

theorem onlyIn_tcBegin (c : TimecodeUnit) (s : State) : onlyIn [.sync, .sent] s (tcBegin c s) :=
  have parts := onlyIn_mono (onlyIn_setTc { c with count := 0 } s) (qs := [.sync, .sent]) (by decide)
  onlyIn_ite (onlyIn_trans parts (onlyIn_mono (onlyIn_send _ _) (by decide))) parts

section
variable {c : TimecodeUnit} {s : State}

/-- PD76 drives LTC_OUT. -/
theorem tcBegin_sends (out : c.ltcOut = true) (source : c.tcSource ≠ 0) (on : s.pdOn 76 = true) :
    (tcBegin c s).sent = .ltc c.word :: s.sent := by
  simp only [tcBegin, out, source, on, ne_eq, not_false_eq_true, decide_true, Bool.and_self, if_true]
  rfl

theorem tcBegin_of_dark (dark : s.pdOn 76 = false) : (tcBegin c s).sent = s.sent := by
  simp only [tcBegin, dark, Bool.and_false, Bool.false_eq_true, if_false]
  rfl

end

/-! ## The generator -/

/-- The timecode unit with the generator's next frame in force. -/
def TimecodeUnit.nextFrame (c : TimecodeUnit) : TimecodeUnit :=
  { c with word := tcAdvance (tcFps c.num c.den) c.word, frame := c.frame + 1 }

/-- When the generator's next frame begins: whole frames of its rate from its origin. -/
def TimecodeUnit.nextStart (c : TimecodeUnit) : Nat :=
  (c.origin + ((c.frame + 1) * Config.ticksPerSecond * c.den / c.num : Nat)).toNat

section
variable {s : State} (other : s.sync.tc.source ≠ 1 ∨ s.sync.tc.present = false ∨ s.sync.tc.fresh = false) (generator : s.sync.tc.tcSource = 2)
  (rate : 0 < s.sync.tc.num)
include other generator rate

theorem exec_timecodeFrameStart_of_generator :
    exec .timecodeFrameStart s = .next (tcBegin s.sync.tc.nextFrame (reach s.sync.tc.nextStart s)) := by
  have noLtc : ¬(s.sync.tc.source = 1 ∧ s.sync.tc.present = true ∧ s.sync.tc.fresh = true) := by
    rintro ⟨ltc, present, fresh⟩
    simp [ltc, present, fresh] at other
  exact congrArg Host.Outcome.next ((if_neg noLtc).trans (if_pos ⟨generator, rate⟩))

/-- The generator advances by a frame, and LTC_OUT sends its codeword while PD76 is on. -/
theorem generator_advances : Completes .timecodeFrameStart s [.sync, .time, .sent] fun t =>
    t.sync.tc.word = tcAdvance (tcFps s.sync.tc.num s.sync.tc.den) s.sync.tc.word ∧ t.sync.tc.frame = s.sync.tc.frame + 1 ∧
    t.sync.tc.count = 0 ∧
    (s.sync.tc.ltcOut = true → s.pdOn 76 = true → t.sent = .ltc (tcAdvance (tcFps s.sync.tc.num s.sync.tc.den) s.sync.tc.word) :: s.sent) := by
  refine ⟨_, exec_timecodeFrameStart_of_generator other generator rate, onlyIn_trans (onlyIn_mono (onlyIn_reach _ s) (by decide))
    (onlyIn_mono (onlyIn_tcBegin _ _) (by decide)), ?_, ?_, ?_, fun out on => ?_⟩
  · rw [tcBegin_sync]; rfl
  · rw [tcBegin_sync]; rfl
  · rw [tcBegin_sync]
  · exact tcBegin_sends out (by show s.sync.tc.tcSource ≠ 0; rw [generator]; decide) on

end

/-! ## The refutation of O33 -/

/-- The generator runs at 24 frames a second with LTC_OUT on while PD76 is off, as after a TIMECODE_SET in DORMANT. -/
def darkGenerator : State := State.reset.setTc { Reset.timecode with source := 2, tcSource := 2, ltcOut := true }

/-- Refutes O33: its clause on the generator has each frame's codeword sent wherever LTC_OUT is on, while the module drives LTC_OUT from TMR14 (R317), a
channel of PD76, and so sends nothing while that domain is off. The clause does not ask that it is on; where it is, the clause holds
(`generator_advances`). -/
theorem not_timecodeAndGenlockFollowTheirInputs : ¬ Obligations.TimecodeAndGenlockFollowTheirInputs := by
  unfold Obligations.TimecodeAndGenlockFollowTheirInputs
  intro h
  obtain ⟨-, -, -, -, -, generates, -, -⟩ := h 0 0 darkGenerator
  have other : darkGenerator.sync.tc.source ≠ 1 := by decide
  obtain ⟨t, run, -, -, -, -, sends⟩ := generates (.inl other) rfl (by decide)
  obtain rfl : tcBegin _ _ = t :=
    Host.Outcome.next.inj ((exec_timecodeFrameStart_of_generator (.inl other) rfl (by decide)).symm.trans run)
  have silent := tcBegin_of_dark (c := darkGenerator.sync.tc.nextFrame) (s := reach darkGenerator.sync.tc.nextStart darkGenerator) (reset_pdOn 76)
  exact List.ne_cons_self (silent.symm.trans (sends rfl))

end Sys2Proof.Machine

/-! PROOFS. What no effect of the module touches but those on the fuse array, on profiles and at a loss of power: the queue, the stored profiles
and the fuses. One lemma for each function of the model says that it leaves them. -/

namespace Sys2Proof.Machine

/-- The commands that wait, the stored profiles and the fuses. -/
def State.stores (s : State) : List Instr × List ProfileSlot × FuseUnit := (s.pending, s.profiles, s.fuse)

@[simp] theorem stores_mk (a b c d e f g h i j k l m n o p q r t u v w x y z a1 b1 c1 d1 e1 f1 g1 h1) :
    State.stores ⟨a, b, c, d, e, f, g, h, i, j, k, l, m, n, o, p, q, r, t, u, v, w, x, y, z, a1, b1, c1, d1, e1, f1, g1, h1⟩ = (c, j, b1) := by
  simp only [State.stores]

@[simp] theorem stores_eta (s : State) : (s.pending, s.profiles, s.fuse) = s.stores := by simp only [State.stores]

@[simp] theorem stores_ite (c : Prop) [Decidable c] (s t : State) : (if c then s else t).stores = if c then s.stores else t.stores :=
  apply_ite State.stores c s t

theorem stores_of_onlyIn {ps : List Part} {s t : State} (h : onlyIn ps s t) (apart : ∀ p ∈ stored, p ∉ ps) : t.stores = s.stores := by
  have pending : t.pending = s.pending := h .pending (apart _ (by decide))
  have profiles : t.profiles = s.profiles := h .profiles (apart _ (by decide))
  have fuse : t.fuse = s.fuse := h .fuse (apart _ (by decide))
  simp only [State.stores, pending, profiles, fuse]

theorem stores_of_fst {α : Type} {r : State × α} {t : State} {a : α} (h : r = (t, a)) : r.1.stores = t.stores := by rw [h]

theorem stores_foldl {α β : Type} {f : State × β → α → State × β} (h : ∀ a p, (f p a).1.stores = p.1.stores) (l : List α)
    (p : State × β) : (l.foldl f p).1.stores = p.1.stores := by
  induction l generalizing p with
  | nil => rfl
  | cons a l ih => exact (ih (f p a)).trans (h a p)

/-! ## Shared operations -/

@[simp] theorem stores_setDomains (s : State) (ds : List Nat) (on : Bool) : (s.setDomains ds on).stores = s.stores :=
  stores_of_onlyIn (onlyIn_setDomains _ _ _) (by decide)

@[simp] theorem stores_send (s : State) (o : Out) : (s.send o).stores = s.stores :=
  stores_of_onlyIn (onlyIn_send _ _) (by decide)

@[simp] theorem stores_fire (pf1 : Bool) (n : Nat) (s : State) : (fire pf1 n s).stores = s.stores :=
  stores_of_onlyIn (onlyIn_fire _ _ _) (by decide)

@[simp] theorem stores_fire0 (n : Nat) (s : State) : (fire0 n s).stores = s.stores := by
  simp [fire0]

@[simp] theorem stores_fire1 (n : Nat) (s : State) : (fire1 n s).stores = s.stores := by
  simp [fire1]

@[simp] theorem stores_ringWrite (kind frame : Nat) (event : List Byte) (s : State) : (ringWrite kind frame event s).stores = s.stores :=
  stores_of_onlyIn (onlyIn_ringWrite _ _ _ _) (by decide)

@[simp] theorem stores_ringNotice (s : State) : (ringNotice s).stores = s.stores :=
  stores_of_onlyIn (onlyIn_ringNotice _) (by decide)

@[simp] theorem stores_ringCopy (e : LogEntry) (s : State) : (ringCopy e s).stores = s.stores :=
  stores_of_onlyIn (onlyIn_ringCopy _ _) (by decide)

@[simp] theorem stores_logWrite (r : Report) (held : Bool) (s : State) : (logWrite r held s).stores = s.stores :=
  stores_of_onlyIn (onlyIn_logWrite _ _ _) (by decide)

@[simp] theorem stores_serveLog (s : State) : (serveLog s).stores = s.stores :=
  stores_of_onlyIn (onlyIn_serveLog _) (by decide)

@[simp] theorem stores_serveSource (source : Nat) (s : State) : (serveSource source s).stores = s.stores :=
  stores_of_onlyIn (onlyIn_serveSource _ _) (by decide)

@[simp] theorem stores_takeReport (r : Report) (s : State) : (takeReport r s).stores = s.stores :=
  stores_of_onlyIn (onlyIn_takeReport _ _) (by decide)

@[simp] theorem stores_logFrame (code source frame data : Nat) (s : State) : (logFrame code source frame data s).stores = s.stores :=
  stores_of_onlyIn (onlyIn_logFrame _ _ _ _ _) (by decide)

@[simp] theorem stores_logEvent (code source data : Nat) (s : State) : (logEvent code source data s).stores = s.stores :=
  stores_of_onlyIn (onlyIn_logEvent _ _ _ _) (by decide)

@[simp] theorem stores_respond (id : ReqId) (final : Bool) (st : Status) (target : Nat) (payload : List Byte) (s : State) :
    (respond id final st target payload s).stores = s.stores :=
  stores_of_onlyIn (onlyIn_respond _ _ _ _ _ _) (by decide)

@[simp] theorem stores_finish (id : ReqId) (st : Status) (target : Nat) (payload : List Byte) (s : State) :
    (finish id st target payload s).stores = s.stores :=
  stores_of_onlyIn (onlyIn_finish _ _ _ _ _) (by decide)

@[simp] theorem stores_finishOpt (id : Option ReqId) (st : Status) (target : Nat) (payload : List Byte) (s : State) :
    (finishOpt id st target payload s).stores = s.stores :=
  stores_of_onlyIn (onlyIn_finishOpt _ _ _ _ _) (by decide)

@[simp] theorem stores_accept (id : ReqId) (claims : List Resource) (planned : Nat) (s : State) : (accept id claims planned s).stores = s.stores :=
  stores_of_onlyIn (onlyIn_accept _ _ _ _) (by decide)

@[simp] theorem stores_rejectWrite (m : Master) (reason offset data : Nat) (s : State) : (rejectWrite m reason offset data s).stores = s.stores :=
  stores_of_onlyIn (onlyIn_rejectWrite _ _ _ _ _) (by decide)

@[simp] theorem stores_reportError (pf1 : Bool) (b : Nat) (s : State) : (reportError pf1 b s).stores = s.stores :=
  stores_of_onlyIn (onlyIn_reportError _ _ _) (by decide)

@[simp] theorem stores_viaBar0 {act : State → State} {s : State} (pf1 : Bool) (h : (act s).stores = s.stores) :
    (viaBar0 pf1 act s).stores = s.stores := by simp [viaBar0, h]

@[simp] theorem stores_bridged {act : State → State} {s : State} (isRead : Bool) (offset data : Nat) (h : (act s).stores = s.stores) :
    (bridged isRead offset data act s).stores = s.stores := by simp [bridged, h]

@[simp] theorem stores_reach (t : Nat) (s : State) : (reach t s).stores = s.stores :=
  stores_of_onlyIn (onlyIn_reach _ _) (by decide)

@[simp] theorem stores_reachNow (t : Nat) (s : State) : (reachNow t s).stores = s.stores :=
  stores_of_onlyIn (onlyIn_reachNow _ _) (by decide)

@[simp] theorem stores_drew (s : State) : s.drew.stores = s.stores :=
  stores_of_onlyIn (onlyIn_drew _) (by decide)

@[simp] theorem stores_each {α : Type} {f : α → State → State} (h : ∀ a s, (f a s).stores = s.stores) (l : List α) (s : State) :
    (each l f s).stores = s.stores := by
  induction l generalizing s with
  | nil => rfl
  | cons a l ih => exact (ih (f a s)).trans (h a s)

@[simp] theorem stores_discardWords (p : Nat × Nat) (s : State) : (discardWords p s).stores = s.stores := by
  simp [discardWords]

@[simp] theorem stores_isolate (d : List (Nat × Nat)) (s t : State) : (isolate d s t).stores = t.stores := by simp [isolate]

/-! ## The request channels and the event ring -/

@[simp] theorem stores_refuse (ch : Chan) (code : Nat) (tag : U16) (target : U64) (check : Nat) (st : Status) (s : State) :
    (refuse ch code tag target check st s).stores = s.stores :=
  stores_of_onlyIn (onlyIn_refuse _ _ _ _ _ _ _) (by decide)

@[simp] theorem stores_admitRequest (ch : Chan) (o : Opcode) (tag : U16) (target : U64) (s : State) :
    (admitRequest ch o tag target s).stores = s.stores := by
  simp [admitRequest]

@[simp] theorem stores_readSlot (ch : Chan) (len : Nat) (s : State) : (readSlot ch len s).stores = s.stores := by
  simp [readSlot]

@[simp] theorem stores_fetchMessage (ch : Chan) (m : Message) (s0 : State) : (fetchMessage ch m s0).stores = s0.stores := by
  unfold fetchMessage
  dsimp only
  (repeat' split) <;> simp

@[simp] theorem stores_fetchSound (o : Opcode) (r : Req) (s0 : State) : (fetchSound o r s0).stores = s0.stores := by
  unfold fetchSound
  dsimp only
  (repeat' split) <;> simp

@[simp] theorem stores_takeUp (r : Req) (s : State) : (takeUp r s).stores = s.stores :=
  stores_of_onlyIn (onlyIn_takeUp _ _) (by decide)

@[simp] theorem stores_refuseAuth (id : ReqId) (s : State) : (refuseAuth id s).stores = s.stores := by
  simp [refuseAuth]

@[simp] theorem stores_command (o : Opcode) (r : Req) (k : State → Checks) {act : ReqId → State → State}
    (h : ∀ id s, (act id s).stores = s.stores) (s : State) : (command o r k act s).stores = s.stores := by
  unfold command
  dsimp only
  (repeat' split) <;> simp [h]

@[simp] theorem stores_writeResponse (ch : Chan) (s : State) : (writeResponse ch s).stores = s.stores := by
  unfold writeResponse
  dsimp only
  (repeat' split) <;> simp

@[simp] theorem stores_readTimeout (pf1 : Bool) (s : State) : (readTimeout pf1 s).stores = s.stores := by
  simp [readTimeout]

@[simp] theorem stores_fetchTimeout (ch : Chan) (s0 : State) : (fetchTimeout ch s0).stores = s0.stores := by
  simp [fetchTimeout]

@[simp] theorem stores_ringConsume (v : U32) (s : State) : (ringConsume v s).stores = s.stores := by
  simp [ringConsume]

@[simp] theorem stores_repeatUpdate (source : Nat) (s0 : State) : (repeatUpdate source s0).stores = s0.stores := by
  unfold repeatUpdate
  dsimp only
  (repeat' split) <;> simp

@[simp] theorem stores_helloAct (r : Req) (major minor : Nat) (id : ReqId) (s : State) : (helloAct r major minor id s).stores = s.stores := by
  unfold helloAct
  split <;> simp

@[simp] theorem stores_byeAct (r : Req) (id : ReqId) (s : State) : (byeAct r id s).stores = s.stores := by
  simp [byeAct]

@[simp] theorem stores_authChallengeAct (role : Nat) (id : ReqId) (s : State) : (authChallengeAct role id s).stores = s.stores := by
  simp [authChallengeAct]

@[simp] theorem stores_authResponseAct (role slot : Nat) (sig : List Byte) (id : ReqId) (s : State) :
    (authResponseAct role slot sig id s).stores = s.stores := by
  simp [authResponseAct]

/-! ## PLLs -/

@[simp] theorem stores_requestLock (p : PllId) (s : State) : (requestLock p s).stores = s.stores := by
  unfold requestLock
  dsimp only
  split <;> simp

@[simp] theorem stores_applyRef (s : State) : (applyRef s).stores = s.stores := by
  simp [applyRef]

@[simp] theorem stores_enterHoldover (p : PllId) (s : State) : (enterHoldover p s).stores = s.stores := by
  simp [enterHoldover]

@[simp] theorem stores_loadBands (s : State) : (loadBands s).stores = s.stores := by
  simp [loadBands]

/-! ## Timers -/

@[simp] theorem stores_setTimer (s : State) (n : Nat) (t : Timer) : (s.setTimer n t).stores = s.stores :=
  stores_of_onlyIn (onlyIn_setTimer _ _ _) (by decide)

@[simp] theorem stores_tickTimer (n : Nat) (c : U32) (wrapped : Bool) (s : State) : (tickTimer n c wrapped s).stores = s.stores := by
  simp [tickTimer]

@[simp] theorem stores_timerTickAct (n : Nat) (s : State) : (timerTickAct n s).stores = s.stores := by
  simp [timerTickAct]

@[simp] theorem stores_timerEdgeAct (n : Nat) (line : TimerLine) (rising : Bool) (s : State) : (timerEdgeAct n line rising s).stores = s.stores := by
  unfold timerEdgeAct
  (repeat' split) <;> simp [inputEdge, quadEdge, quadTick]

@[simp] theorem stores_timerStuckAct (n : Nat) (s : State) : (timerStuckAct n s).stores = s.stores := by
  simp [timerStuckAct]

@[simp] theorem stores_timerWrite (n reg data : Nat) (f : Timer → Nat → Timer) (s : State) : (timerWrite n reg data f s).stores = s.stores := by
  simp [timerWrite]

@[simp] theorem stores_snapPair (n : Nat) (s : State) : (snapPair n s).stores = s.stores := by
  simp [snapPair]

@[simp] theorem stores_capRiseAct (n : Nat) (s : State) : (capRiseAct n s).stores = s.stores := by
  simp [capRiseAct]

/-! ## Genlock and timecode -/

@[simp] theorem stores_setMeter (s : State) (g : GenlockUnit) : (s.setMeter g).stores = s.stores := by
  simp [State.setMeter]

@[simp] theorem stores_meterLocks (g : GenlockUnit) (s : State) : (meterLocks g s).stores = s.stores := by
  simp [meterLocks]

@[simp] theorem stores_meterHolds (g : GenlockUnit) (s : State) : (meterHolds g s).stores = s.stores := by
  simp [meterHolds]

@[simp] theorem stores_genlockStart (t struct : Nat) (s : State) : (genlockStart t struct s).stores = s.stores := by
  unfold genlockStart
  dsimp only
  split <;> simp

@[simp] theorem stores_genlockSilent (s : State) : (genlockSilent s).stores = s.stores := by
  unfold genlockSilent
  dsimp only
  split <;> simp

@[simp] theorem stores_setTc (s : State) (t : TimecodeUnit) : (s.setTc t).stores = s.stores :=
  stores_of_onlyIn (onlyIn_setTc _ _) (by decide)

@[simp] theorem stores_ltcLost (t : TimecodeUnit) (s : State) : (ltcLost t s).stores = s.stores := by
  simp [ltcLost]

@[simp] theorem stores_ltcValid (w : U64) (bitPeriod : Nat) (s : State) : (ltcValid w bitPeriod s).stores = s.stores := by
  simp [ltcValid]

@[simp] theorem stores_tcBegin (t : TimecodeUnit) (s : State) : (tcBegin t s).stores = s.stores :=
  stores_of_onlyIn (onlyIn_tcBegin _ _) (by decide)

@[simp] theorem stores_timecodeStart (s : State) : (timecodeStart s).stores = s.stores := by
  simp [timecodeStart]

@[simp] theorem stores_tcApply (source : Nat) (out : Bool) (num den : Nat) (word : U64) (t0 : Nat) (s : State) :
    (tcApply source out num den word t0 s).stores = s.stores := by
  simp [tcApply]

@[simp] theorem stores_tcBoundary (b : Nat) (s : State) : (tcBoundary b s).stores = s.stores := by
  unfold tcBoundary
  split <;> simp

/-! ## Two-wire buses -/

@[simp] theorem stores_setBus (s : State) (b : BusId) (x : Bus) : (s.setBus b x).stores = s.stores := by
  simp [State.setBus]

@[simp] theorem stores_busClear (b : BusId) (freed : Bool) (s : State) : (busClear b freed s).stores = s.stores := by
  simp [busClear]

@[simp] theorem stores_meetNack (b : BusId) (s : State) : (meetNack b s).stores = s.stores := by
  simp [meetNack]

@[simp] theorem stores_meetWinner (b : BusId) (s : State) : (meetWinner b s).stores = s.stores := by
  simp [meetWinner]

@[simp] theorem stores_meetBusError (b : BusId) (s : State) : (meetBusError b s).stores = s.stores := by
  simp [meetBusError]

@[simp] theorem stores_meetSclLow (b : BusId) (s : State) : (meetSclLow b s).stores = s.stores := by
  simp [meetSclLow]

@[simp] theorem stores_noteEnd (b : BusId) (e : ControllerEnd) (s : State) : (noteEnd b e s).stores = s.stores := by
  unfold noteEnd
  split <;> simp

@[simp] theorem stores_endXfer (b : BusId) (result done : Nat) (st : Status) (data : List Byte) (s : State) :
    (endXfer b result done st data s).stores = s.stores := by
  unfold endXfer
  dsimp only
  split <;> simp

@[simp] theorem stores_abusXferAct (bus addr flags wLen rLen : Nat) (data : List Byte) (id : ReqId) (s : State) :
    (abusXferAct bus addr flags wLen rLen data id s).stores = s.stores := by
  simp [abusXferAct, wakeAbus]

@[simp] theorem stores_abusDone (b : BusId) (result : XferResult) (done : Nat) (data : List Byte) (pecB : Option Byte) (s : State) :
    (abusDone b result done data pecB s).stores = s.stores := by
  unfold abusDone
  dsimp only
  (repeat' split) <;> simp

@[simp] theorem stores_discardTarget (b : BusId) (s : State) : (discardTarget b s).stores = s.stores := by
  simp [discardTarget]

@[simp] theorem stores_busCtrlAct (b : BusId) (v : U32) (freed : Bool) (s : State) : (busCtrlAct b v freed s).stores = s.stores := by
  simp [busCtrlAct]

@[simp] theorem stores_abusTargetAct (amode count : Nat) (addrs : List Byte) (base mask : Nat) (id : ReqId) (s : State) :
    (abusTargetAct amode count addrs base mask id s).stores = s.stores := by
  simp [abusTargetAct]

@[simp] theorem stores_seesStart (b : BusId) (s : State) : (seesStart b s).stores = s.stores := by
  simp [seesStart]

@[simp] theorem stores_heardHbus (b : BusId) (s : State) : (heardHbus b s).stores = s.stores := by
  simp [heardHbus]

@[simp] theorem stores_wakeHbus (b : BusId) (a : Nat) (s : State) : (wakeHbus b a s).stores = s.stores := by
  simp [wakeHbus]

@[simp] theorem stores_unknownCode (b : BusId) (code : Nat) (s : State) : (unknownCode b code s).stores = s.stores := by
  simp [unknownCode]

@[simp] theorem stores_accPost (addr : Nat) (data : List Byte) (ending : WriteEnd) (s : State) : (accPost addr data ending s).stores = s.stores := by
  unfold accPost
  split <;> simp

@[simp] theorem stores_targetWrite (b : BusId) (addr code : Nat) (data : List Byte) (ending : WriteEnd) (s : State) :
    (targetWrite b addr code data ending s).stores = s.stores := by
  simp [targetWrite]

@[simp] theorem stores_inboxConsume (bus : BusId) (v : U32) (s : State) : (inboxConsume bus v s).stores = s.stores := by
  simp [inboxConsume]

@[simp] theorem stores_lensMoment (s : State) : (lensMoment s).stores = s.stores := by
  unfold lensMoment
  split <;> simp

@[simp] theorem stores_pollLens (e : ControllerEnd) (bytes : List Byte) (s : State) : (pollLens e bytes s).stores = s.stores := by
  simp [pollLens]

@[simp] theorem stores_abusOff (s : State) : (abusOff s).stores = s.stores := by
  simp [abusOff]

/-! ## The auxiliary converters -/

@[simp] theorem stores_endCapture (n : Nat) (st : Status) (payload : List Byte) (f : AuxInput → AuxInput) (s : State) :
    (endCapture n st payload f s).stores = s.stores := by
  unfold endCapture
  dsimp only
  split <;> simp

@[simp] theorem stores_applyList (l : List AuxEntry) (s : State) : (applyList l s).stores = s.stores := by
  simp [applyList]

@[simp] theorem stores_queueVector (s : State) : (queueVector s).stores = s.stores := by
  simp [queueVector]

@[simp] theorem stores_crossCheck (codeA codeB : Int) (s : State) : (crossCheck codeA codeB s).stores = s.stores := by
  simp [crossCheck]

@[simp] theorem stores_takeResult (xchk : Bool) (k : Nat) (e : AuxEntry) (c : Int × Int × Int × Int) (s : State) :
    (takeResult xchk k e c s).stores = s.stores := by
  simp [takeResult]

@[simp] theorem stores_passResults (xchk : Bool) (l : List AuxEntry) (codes : List (Int × Int × Int × Int)) (s : State) :
    (passResults xchk l codes s).stores = s.stores := by
  refine stores_each (fun k t => ?_) _ s
  split <;> simp

@[simp] theorem stores_auxPass (codes : List (Int × Int × Int × Int)) (codeA codeB : Int) (s0 : State) :
    (auxPass codes codeA codeB s0).stores = s0.stores := by
  unfold auxPass
  dsimp only
  (repeat' split) <;> simp

@[simp] theorem stores_queueConsume (v : U32) (s : State) : (queueConsume v s).stores = s.stores := by
  simp [queueConsume]

@[simp] theorem stores_auxSequenceAct (l : List AuxEntry) (id : ReqId) (s : State) : (auxSequenceAct l id s).stores = s.stores := by
  simp [auxSequenceAct]

@[simp] theorem stores_sysCalCompute (n : Nat) (z f full : Int) (id : ReqId) (s : State) : (sysCalCompute n z f full id s).stores = s.stores := by
  unfold sysCalCompute
  split <;> simp

@[simp] theorem stores_auxOn (s : State) : (auxOn s).stores = s.stores := by
  simp [auxOn]

@[simp] theorem stores_auxOff (s : State) : (auxOff s).stores = s.stores := by
  simp [auxOff]

@[simp] theorem stores_sysCalCapture (n point : Nat) (full : Int) (entry : Nat) (id : ReqId) (s : State) :
    (sysCalCapture n point full entry id s).stores = s.stores := by
  simp [sysCalCapture]

@[simp] theorem stores_auxSyscalAct (n point : Nat) (full : Int) (id : ReqId) (s : State) : (auxSyscalAct n point full id s).stores = s.stores := by
  unfold auxSyscalAct
  dsimp only
  (repeat' split) <;> simp

@[simp] theorem stores_captureDone (n : Nat) (s : State) : (captureDone n s).stores = s.stores := by
  unfold captureDone
  split <;> simp [auxRest]

@[simp] theorem stores_loadSysCal (n : Nat) (s : State) : (loadSysCal n s).stores = s.stores := by
  unfold loadSysCal
  dsimp only
  split <;> simp

/-! ## Column conversion -/

@[simp] theorem stores_turnFailed (id check : Nat) (s : State) : (turnFailed id check s).stores = s.stores := by
  simp [turnFailed]

@[simp] theorem stores_retireSlice (id code : Nat) (s : State) : (retireSlice id code s).stores = s.stores := by
  simp [retireSlice]

@[simp] theorem stores_calibrateSlices (drift : Bool) (sums : CalSums) (s : State) : (calibrateSlices drift sums s).stores = s.stores := by
  simp [calibrateSlices, calibrateSlice]

@[simp] theorem stores_loadWords (once twice : List Nat) (s : State) : (loadWords once twice s).1.stores = s.stores := by
  unfold loadWords
  dsimp only
  (repeat' split) <;> simp

/-! ## The reservoir -/

@[simp] theorem stores_renewBsus (s : State) : (renewBsus s).stores = s.stores :=
  stores_of_onlyIn (onlyIn_renewBsus _) (by decide)

@[simp] theorem stores_judgeLevel (full : Bool) (s : State) : (judgeLevel full s).stores = s.stores :=
  stores_of_onlyIn (onlyIn_judgeLevel _ _) (by decide)

@[simp] theorem stores_absent (devices : List MemDevice) (s : State) : (absent devices s).stores = s.stores := by
  simp [absent]

/-! ## The hold-over ring -/

@[simp] theorem stores_overwriteOldest (s : State) : (overwriteOldest s).stores = s.stores := by
  unfold overwriteOldest
  split <;> simp

@[simp] theorem stores_makeRoom (n fuel : Nat) (s : State) : (makeRoom n fuel s).stores = s.stores := by
  induction fuel generalizing s with
  | zero => rfl
  | succ fuel ih => simp [makeRoom, ih]

@[simp] theorem stores_ringOpen (g : FrameGov) (n : Nat) (s : State) : (ringOpen g n s).stores = s.stores := by
  simp [ringOpen]

@[simp] theorem stores_ringReplace (r : Record) (s : State) : (ringReplace r s).stores = s.stores :=
  stores_of_onlyIn (onlyIn_ringReplace _ _) (by decide)

@[simp] theorem stores_ringTag (n : Nat) (t : TakeTag) (s : State) : (ringTag n t s).stores = s.stores :=
  stores_of_onlyIn (onlyIn_ringTag _ _ _) (by decide)

@[simp] theorem stores_ringRelease (frame : Nat) (s : State) : (ringRelease frame s).stores = s.stores := by
  simp [ringRelease]

@[simp] theorem stores_writeRetire (cause : Nat) (s : State) : (writeRetire cause s).stores = s.stores :=
  stores_of_onlyIn (onlyIn_writeRetire _ _) (by decide)

@[simp] theorem stores_scanRing (s : State) : (scanRing s).stores = s.stores := by
  simp [scanRing]

/-! ## Welt sessions -/

@[simp] theorem stores_setBay (s : State) (b : Nat) (x : Session) : (s.setBay b x).stores = s.stores := by
  simp [State.setBay]

@[simp] theorem stores_writeDescriptor (b : Nat) (d : Descriptor) (s : State) : (writeDescriptor b d s).stores = s.stores :=
  stores_of_onlyIn (onlyIn_writeDescriptor _ _ _) (by decide)

@[simp] theorem stores_noteOwing (b : Nat) (s : State) : (noteOwing b s).stores = s.stores := by
  simp [noteOwing]

@[simp] theorem stores_noteBoth (s : State) : (noteBoth s).stores = s.stores :=
  stores_of_onlyIn (onlyIn_noteBoth _) (by decide)

@[simp] theorem stores_restartProgress (b : Nat) (s : State) : (restartProgress b s).stores = s.stores := by
  simp [restartProgress]

@[simp] theorem stores_sendPages (b : Nat) (r : Record) (s : State) : (sendPages b r s).stores = s.stores := by
  simp [sendPages]

@[simp] theorem stores_commitPaged (b : Nat) (r : Record) (s : State) : (commitPaged b r s).stores = s.stores :=
  stores_of_onlyIn (onlyIn_commitPaged _ _ _) (by decide)

@[simp] theorem stores_commitRecord (b : Nat) (r : Record) (s : State) : (commitRecord b r s).stores = s.stores := by
  simp [commitRecord]

@[simp] theorem stores_releasePaged (b : Nat) (s : State) : (releasePaged b s).stores = s.stores :=
  stores_of_onlyIn (onlyIn_releasePaged _ _) (by decide)

@[simp] theorem stores_writeBegin (b : Nat) (s : State) : (writeBegin b s).stores = s.stores :=
  stores_of_onlyIn (onlyIn_writeBegin _ _) (by decide)

@[simp] theorem stores_writeRelayIn (b : Nat) (s : State) : (writeRelayIn b s).stores = s.stores :=
  stores_of_onlyIn (onlyIn_writeRelayIn _ _) (by decide)

@[simp] theorem stores_writeEnd (b frame : Nat) (t : Nat × Nat) (s : State) : (writeEnd b frame t s).stores = s.stores := by
  simp [writeEnd]

@[simp] theorem stores_writeTakeEnd (b : Nat) (s : State) : (writeTakeEnd b s).stores = s.stores :=
  stores_of_onlyIn (onlyIn_writeTakeEnd _ _) (by decide)

@[simp] theorem stores_greet (s : State) : (greet s).stores = s.stores :=
  stores_of_onlyIn (onlyIn_greet _) (by decide)

@[simp] theorem stores_settleSession (b : Nat) (s : State) : (settleSession b s).stores = s.stores :=
  stores_of_onlyIn (onlyIn_settleSession _ _) (by decide)

@[simp] theorem stores_relayFrom (b : Nat) (left : Session) (r : Nat) (s : State) : (relayFrom b left r s).stores = s.stores := by
  simp [relayFrom, placeRelay]

@[simp] theorem stores_offerRelay (s : State) : (offerRelay s).stores = s.stores :=
  stores_of_onlyIn (onlyIn_offerRelay _) (by decide)

@[simp] theorem stores_settleBoth (s : State) : (settleBoth s).stores = s.stores :=
  stores_of_onlyIn (onlyIn_settleBoth _) (by decide)

@[simp] theorem stores_endJobOn (b : Nat) (s : State) : (endJobOn b s).stores = s.stores := by
  unfold endJobOn
  split <;> simp

@[simp] theorem stores_faultBay (b code : Nat) (s : State) : (faultBay b code s).stores = s.stores := by
  simp [faultBay, writeRelayOut]

@[simp] theorem stores_closeBay (b : Nat) (s : State) : (closeBay b s).stores = s.stores := by
  simp [closeBay]

@[simp] theorem stores_abortBay (b cause : Nat) (s : State) : (abortBay b cause s).stores = s.stores := by
  simp [abortBay]

@[simp] theorem stores_removeBay (b : Nat) (s : State) : (removeBay b s).stores = s.stores := by
  simp [removeBay]

@[simp] theorem stores_discardWrite (b : Nat) (rid : U16) (ackPlace : Bool) (s : State) : (discardWrite b rid ackPlace s).stores = s.stores := by
  simp [discardWrite]

@[simp] theorem stores_agentWrite (bay : Bay) (rid : U16) (ackPlace : Bool) {f : Nat → State → State}
    (h : ∀ b s, (f b s).stores = s.stores) (s : State) : (agentWrite bay rid ackPlace f s).stores = s.stores := by simp [agentWrite, h]

@[simp] theorem stores_failOpen (b code : Nat) (st : Status) (s : State) : (failOpen b code st s).stores = s.stores := by
  simp [failOpen]

@[simp] theorem stores_writeOpen (b : Nat) (s : State) : (writeOpen b s).stores = s.stores :=
  stores_of_onlyIn (onlyIn_writeOpen _ _) (by decide)

@[simp] theorem stores_openChecks (b : Nat) (s : State) : (openChecks b s).stores = s.stores := by
  unfold openChecks
  dsimp only
  (repeat' split) <;> simp

@[simp] theorem stores_durable (c : Commit) (s : State) : (durable c s).stores = s.stores :=
  stores_of_onlyIn (onlyIn_durable _ _) (by decide)

@[simp] theorem stores_ackDurable (b n : Nat) (s : State) : (ackDurable b n s).stores = s.stores :=
  stores_of_onlyIn (onlyIn_ackDurable _ _ _) (by decide)

@[simp] theorem stores_voidRecord (frame reason : Nat) (s : State) : (voidRecord frame reason s).stores = s.stores :=
  stores_of_onlyIn (onlyIn_voidRecord _ _ _) (by decide)

@[simp] theorem stores_sendNext (b : Nat) (poisoned : Bool) (s : State) : (sendNext b poisoned s).stores = s.stores := by
  unfold sendNext
  dsimp only
  split <;> simp

/-! ## The settings ledger -/

@[simp] theorem stores_takeSeq (s : State) : s.takeSeq.2.stores = s.stores :=
  stores_of_onlyIn (onlyIn_takeSeq _) (by decide)

@[simp] theorem stores_tandemSend (kind frame : Nat) (payload : List Byte) (s : State) : (tandemSend kind frame payload s).stores = s.stores :=
  stores_of_onlyIn (onlyIn_tandemSend _ _ _ _) (by decide)

@[simp] theorem stores_sendLedger (m : Mirrored) (s : State) : (sendLedger m s).stores = s.stores := by
  simp [sendLedger]

@[simp] theorem stores_mirrorEntry (e : LedgerEntry) (s : State) : (mirrorEntry e s).stores = s.stores :=
  stores_of_onlyIn (onlyIn_mirrorEntry _ _) (by decide)

@[simp] theorem stores_noteSlip (seq frame : Nat) (s : State) : (noteSlip seq frame s).stores = s.stores := by
  simp [noteSlip]

@[simp] theorem stores_postNow (l : List Setting) (target : Nat) (s : State) : (postNow l target s).2.stores = s.stores := by
  unfold postNow
  dsimp only
  split <;> simp

@[simp] theorem stores_postEntry (l : List Setting) (target : Nat) (id : ReqId) (s : State) : (postEntry l target id s).2.stores = s.stores := by
  unfold postEntry
  dsimp only
  (repeat' split) <;> simp

@[simp] theorem stores_post (l : List Setting) (target : Nat) (id : ReqId) (s : State) : (post l target id s).2.stores = s.stores := by
  unfold post
  (repeat' split) <;> simp

@[simp] theorem stores_postCommand (l : List Setting) (target : Nat) (id : ReqId) (s : State) : (postCommand l target id s).stores = s.stores := by
  simp [postCommand]

@[simp] theorem stores_refuseEntry (i : Nat) (e : LedgerEntry) (s : State) : (refuseEntry i e s).stores = s.stores := by
  simp [refuseEntry]

@[simp] theorem stores_latchSensor (prev : Nat) (p : Nat × LedgerEntry) (s : State) : (latchSensor prev p s).stores = s.stores := by
  simp [latchSensor]

@[simp] theorem stores_latchConv (p : Nat × LedgerEntry) (s : State) : (latchConv p s).stores = s.stores := by
  simp [latchConv]

@[simp] theorem stores_latchDue (v : Int) (s : State) : (latchDue v s).stores = s.stores := by
  simp [latchDue, latchLast]

@[simp] theorem stores_cancelEntry (i : Nat) (e : LedgerEntry) (s : State) : (cancelEntry i e s).stores = s.stores := by
  simp [cancelEntry]

@[simp] theorem stores_foldLedger (s : State) : (foldLedger s).stores = s.stores := by
  simp [foldLedger, foldEntry]

/-! ## Mode changes and takes -/

@[simp] theorem stores_startChange (goal : Mode) (kind : ChangeKind) (epoch : Nat) (req : Option ReqId) (s : State) :
    (startChange goal kind epoch req s).stores = s.stores := by
  simp [startChange]

@[simp] theorem stores_retagOne (r : Record) (s : State) : (retagOne r s).stores = s.stores :=
  stores_of_onlyIn (onlyIn_retagOne _ _) (by decide)

@[simp] theorem stores_takePreroll (be n : Nat) (coming : List PrerollFrame) (s : State) : (takePreroll be n coming s).stores = s.stores := by
  simp [takePreroll]

@[simp] theorem stores_beginTake (takeId keyId : Nat) (key : Option (List Byte)) (isSealed : Bool) (e : Nat) (s : State) :
    (beginTake takeId keyId key isSealed e s).stores = s.stores := by
  unfold beginTake
  dsimp only
  (repeat' split) <;> simp

@[simp] theorem stores_markLast (n : Nat) (last : Bool) (s : State) : (markLast n last s).stores = s.stores := by
  unfold markLast
  dsimp only
  split <;> simp

@[simp] theorem stores_commitChange (c : Change) (s : State) : (commitChange c s).stores = s.stores := by
  unfold commitChange
  split <;> simp [askFull]

@[simp] theorem stores_viewOff (s : State) : (viewOff s).stores = s.stores := by
  simp [viewOff]

@[simp] theorem stores_failPowerup (req : Option ReqId) (cause : Nat) (s : State) : (failPowerup req cause s).stores = s.stores := by
  simp [failPowerup]

@[simp] theorem stores_failChange (c : Change) (event : Nat) (s : State) : (failChange c event s).stores = s.stores := by
  simp [failChange, abandonEntry]

@[simp] theorem stores_burstToView (st : Status) (cause : Nat) (s : State) : (burstToView st cause s).stores = s.stores := by
  simp [burstToView]

@[simp] theorem stores_endBurst (s : State) : (endBurst s).stores = s.stores := by
  unfold endBurst
  (repeat' split) <;> simp

@[simp] theorem stores_afterFailure (c : Change) (cause : Nat) (s : State) : (afterFailure c cause s).stores = s.stores := by
  unfold afterFailure
  split <;> simp

@[simp] theorem stores_commitDeadline (s : State) : (commitDeadline s).stores = s.stores := by
  unfold commitDeadline
  split <;> simp [changeFails]

@[simp] theorem stores_setMode (m : Mode) (s : State) : (setMode m s).stores = s.stores := by
  simp [setMode, linkMode]

@[simp] theorem stores_switchUnits (c : Change) (n : Nat) (s : State) : (switchUnits c n s).stores = s.stores := by
  unfold switchUnits
  split <;> simp

@[simp] theorem stores_completeChange (c : Change) (n : Nat) (s : State) : (completeChange c n s).stores = s.stores := by
  simp [completeChange]

@[simp] theorem stores_restoreDrain (was : Option Burst) (toView : Bool) (s : State) : (restoreDrain was toView s).stores = s.stores := by
  simp [restoreDrain]

@[simp] theorem stores_disagreement (old : Mode) (was : Option Burst) (n : Nat) (s : State) : (disagreement old was n s).stores = s.stores := by
  unfold disagreement
  dsimp only
  (repeat' split) <;> simp

@[simp] theorem stores_forceMode (s : State) : (forceMode s).stores = s.stores := by
  unfold forceMode
  split <;> simp

@[simp] theorem stores_loseTake (s : State) : (loseTake s).stores = s.stores := by
  simp [loseTake]

@[simp] theorem stores_leaveTake (s : State) : (leaveTake s).stores = s.stores := by
  simp [leaveTake]

@[simp] theorem stores_leaveCapture (s : State) : (leaveCapture s).stores = s.stores := by
  unfold leaveCapture
  split <;> simp

@[simp] theorem stores_finishTake (s : State) : (finishTake s).stores = s.stores := by
  unfold finishTake
  dsimp only
  split <;> simp

@[simp] theorem stores_loseReservoir (s : State) : (loseReservoir s).stores = s.stores := by
  simp [loseReservoir]

@[simp] theorem stores_readyEntry (around : Surroundings) (s : State) : (readyEntry around s).stores = s.stores := by
  simp [readyEntry, checkPresence]

/-! ## Fatal causes -/

@[simp] theorem stores_abandonChange (reason : Nat) (s : State) : (abandonChange reason s).stores = s.stores := by
  unfold abandonChange
  dsimp only
  (repeat' split) <;> simp

@[simp] theorem stores_abandonOpen (b : Nat) (s : State) : (abandonOpen b s).stores = s.stores := by
  simp [abandonOpen]

@[simp] theorem stores_abandonJob (s : State) : (abandonJob s).stores = s.stores := by
  unfold abandonJob
  split <;> simp

@[simp] theorem stores_haltEngine (s : State) : (haltEngine s).stores = s.stores := by
  simp [haltEngine]

@[simp] theorem stores_fatalCause (cause source data : Nat) (watchdog : Bool) (s : State) :
    (fatalCause cause source data watchdog s).stores = s.stores := by
  unfold fatalCause
  split <;> simp [stopAccepted]

/-! ## The end of a readout -/

@[simp] theorem stores_noteVoid (r : Record) (s : State) : (noteVoid r s).stores = s.stores :=
  stores_of_onlyIn (onlyIn_noteVoid _ _) (by decide)

@[simp] theorem stores_noteLanes (r : Readout) (c : Conditioned) (s : State) : (noteLanes r c s).stores = s.stores :=
  stores_of_onlyIn (onlyIn_noteLanes _ _ _) (by decide)

@[simp] theorem stores_closeReadout (s : State) : (closeReadout s).stores = s.stores := by
  unfold closeReadout
  split <;> simp [storeRecord, ringComplete]

/-! ## The tandem link -/

@[simp] theorem stores_setTandem (s : State) (t : TandemUnit) : (s.setTandem t).stores = s.stores :=
  stores_of_onlyIn (onlyIn_setTandem _ _) (by decide)

@[simp] theorem stores_sendHello (s : State) : (sendHello s).stores = s.stores := by
  simp [sendHello]

@[simp] theorem stores_sendStatus (s : State) : (sendStatus s).stores = s.stores := by
  simp [sendStatus]

@[simp] theorem stores_runFree (s : State) : (runFree s).stores = s.stores :=
  stores_of_onlyIn (onlyIn_runFree _) (by decide)

@[simp] theorem stores_endJoin (s : State) : (endJoin s).stores = s.stores :=
  stores_of_onlyIn (onlyIn_endJoin _) (by decide)

@[simp] theorem stores_meetRoles (s : State) : (meetRoles s).stores = s.stores :=
  stores_of_onlyIn (onlyIn_meetRoles _) (by decide)

@[simp] theorem stores_partnerLeaves (s : State) : (partnerLeaves s).stores = s.stores := by
  simp [partnerLeaves]

@[simp] theorem stores_hello (role maxVersion mode rtt : Nat) (s : State) : (hello role maxVersion mode rtt s).stores = s.stores := by
  simp [hello]

@[simp] theorem stores_linkUp (s : State) : (linkUp s).stores = s.stores := by
  simp [linkUp]

@[simp] theorem stores_heard (s : State) : (heard s).stores = s.stores :=
  stores_of_onlyIn (onlyIn_heard _) (by decide)

@[simp] theorem stores_onPacket {f : State → State} (h : ∀ s, (f s).stores = s.stores) (s : State) : (onPacket f s).stores = s.stores := by
  simp [onPacket, h]

@[simp] theorem stores_crcFail (s : State) : (crcFail s).stores = s.stores := by
  simp [crcFail]

@[simp] theorem stores_joined (s : State) : (joined s).stores = s.stores := by
  simp [joined]

@[simp] theorem stores_leaderBoundary (b : Nat) (numbered : Bool) (s : State) : (leaderBoundary b numbered s).stores = s.stores := by
  simp [leaderBoundary]

@[simp] theorem stores_leaveHoldover (s : State) : (leaveHoldover s).stores = s.stores := by
  simp [leaveHoldover]

@[simp] theorem stores_keepalive (s : State) : (keepalive s).stores = s.stores := by
  simp [keepalive]

@[simp] theorem stores_gotHeartbeat (boundary frame mode : Nat) (idle : Bool) (s : State) :
    (gotHeartbeat boundary frame mode idle s).stores = s.stores := by
  simp [gotHeartbeat, countLeader]

@[simp] theorem stores_takeMirrored (m : Mirrored) (s : State) : ((takeMirrored m s).getD s).stores = s.stores := by
  unfold takeMirrored
  (repeat' split) <;> simp

@[simp] theorem stores_gotJoin (first : Nat) (l : List Setting) (waiting : List Mirrored) (s : State) :
    (gotJoin first l waiting s).stores = s.stores := by
  simp [gotJoin, dropMirroredClasses, adopt]

@[simp] theorem stores_tsync (s : State) : (tsync s).stores = s.stores := by
  simp [tsync, latchAtJoin]

@[simp] theorem stores_followerBoundary (s : State) : (followerBoundary s).stores = s.stores := by
  simp [followerBoundary]

@[simp] theorem stores_gotLedger (m : Mirrored) (s : State) : (gotLedger m s).stores = s.stores := by
  have taken := stores_takeMirrored m s
  unfold gotLedger
  split
  · split
    · rfl
    · next h => simpa [h] using taken
  · rfl

@[simp] theorem stores_resend (s : State) : (resend s).stores = s.stores := by
  unfold resend
  split <;> simp

@[simp] theorem stores_gotCancel (seq classes : Nat) (s : State) : (gotCancel seq classes s).stores = s.stores := by
  simp [gotCancel]

@[simp] theorem stores_sendLine (n : Nat) (q : List Pixel × Nat) (p : State × Nat) : (sendLine n q p).1.stores = p.1.stores :=
  stores_foldl (fun b u => by split <;> simp) _ _

@[simp] theorem stores_sendIntermediate (f : Frame) (s : State) : (sendIntermediate f s).stores = s.stores := by
  have lines := stores_foldl (fun q p => stores_sendLine f.gov.n q p) f.intermediate.zipIdx (s, 0)
  simpa [sendIntermediate] using lines

@[simp] theorem stores_keepShown (s : State) : (keepShown s).stores = s.stores := by
  unfold keepShown
  split <;> simp

@[simp] theorem stores_endReadout (s : State) : (endReadout s).stores = s.stores := by
  unfold endReadout
  split <;> simp

@[simp] theorem stores_keepPartner (p : PartnerFrame) (s : State) : (keepPartner p s).stores = s.stores := by
  unfold keepPartner
  split <;> simp

@[simp] theorem stores_repeatPartner (n : Nat) (s : State) : (repeatPartner n s).stores = s.stores := by
  simp [repeatPartner]

@[simp] theorem stores_gotFrameBegin (n w h : Nat) (s : State) : (gotFrameBegin n w h s).stores = s.stores := by
  simp [gotFrameBegin]

@[simp] theorem stores_gotLines (n : Nat) (l : Line) (s : State) : (gotLines n l s).stores = s.stores := by
  simp [gotLines]

@[simp] theorem stores_settlePartner (n : Nat) (s : State) : (settlePartner n s).stores = s.stores := by
  unfold settlePartner
  split <;> simp

@[simp] theorem stores_partnerDeadline (s : State) : (partnerDeadline s).stores = s.stores := by
  unfold partnerDeadline
  split <;> simp

@[simp] theorem stores_pairingClose (s : State) : (pairingClose s).stores = s.stores := by
  unfold pairingClose
  dsimp only
  (repeat' split) <;> simp

@[simp] theorem stores_compositorBoundary (s : State) : (compositorBoundary s).stores = s.stores := by
  unfold compositorBoundary
  split <;> simp

/-! ## Boundaries -/

@[simp] theorem stores_fixMeter (b : Nat) (s : State) : (fixMeter b s).stores = s.stores := by
  simp [fixMeter]

@[simp] theorem stores_selectSource (s : State) : (selectSource s).stores = s.stores := by
  simp [selectSource]

@[simp] theorem stores_trigOut (k : Nat) (t : Trigger) (s : State) : (trigOut k t s).stores = s.stores :=
  stores_of_onlyIn (onlyIn_trigOut _ _ _) (by decide)

@[simp] theorem stores_chooseAgainst (be n : Nat) (s : State) : (chooseAgainst be n s).stores = s.stores := by
  simp [chooseAgainst]

@[simp] theorem stores_choosePreroll (s : State) : (choosePreroll s).stores = s.stores := by
  unfold choosePreroll
  (repeat' split) <;> simp

@[simp] theorem stores_scheduleTrigger (te : Nat) (s : State) : (scheduleTrigger te s).stores = s.stores := by
  simp [scheduleTrigger]

@[simp] theorem stores_nextTrigger (s : State) : (nextTrigger s).stores = s.stores := by
  unfold nextTrigger
  split <;> simp

@[simp] theorem stores_placeBoundary (b : Nat) (numbered : Bool) (s : State) : (placeBoundary b numbered s).stores = s.stores := by
  simp [placeBoundary, passMeter]

@[simp] theorem stores_shiftSettings (s : State) : (shiftSettings s).stores = s.stores := by
  simp [shiftSettings]

@[simp] theorem stores_turnSlices (old : SensorSet) (n : Nat) (s : State) : (turnSlices old n s).stores = s.stores := by
  simp [turnSlices, turnTo, endTurn, incompleteTurn, turnOf]

@[simp] theorem stores_enterReadyAt (c : Change) (around : Surroundings) (s : State) : (enterReadyAt c around s).stores = s.stores := by
  unfold enterReadyAt
  split <;> (next h => simp [← stores_of_fst h])

@[simp] theorem stores_forcedReady (old : Mode) (around : Surroundings) (s : State) : (forcedReady old around s).stores = s.stores := by
  simp [forcedReady]

@[simp] theorem stores_switchAndVote (o : BoundaryObs) (s : State) : (switchAndVote o s).stores = s.stores := by
  unfold switchAndVote
  split <;> simp

@[simp] theorem stores_countBoundary (s : State) : (countBoundary s).stores = s.stores := by
  simp [countBoundary]

@[simp] theorem stores_carryLast (n code : Nat) (s : State) : (carryLast n code s).stores = s.stores := by
  simp [carryLast]

@[simp] theorem stores_takeSlot (g : FrameGov) (s : State) : (takeSlot g s).2.2.stores = s.stores := by
  unfold takeSlot
  dsimp only
  (repeat' split) <;> simp

@[simp] theorem stores_placeRecord (g : FrameGov) (s : State) : (placeRecord g s).2.2.stores = s.stores := by
  unfold placeRecord
  dsimp only
  (repeat' split) <;> simp

@[simp] theorem stores_viewBoundary (s : State) : (viewBoundary s).stores = s.stores := by
  simp [viewBoundary]

@[simp] theorem stores_beginFrame (g : FrameGov) (s : State) : (beginFrame g s).stores = s.stores := by
  simp [beginFrame, trimPreroll, latePreroll, sendFrameBegin]

@[simp] theorem stores_afterBoundary (b : Nat) (numbered : Bool) (s : State) : (afterBoundary b numbered s).stores = s.stores := by
  simp [afterBoundary]

@[simp] theorem stores_boundaryAt (b : Nat) (numbered : Bool) (o : BoundaryObs) (s : State) : (boundaryAt b numbered o s).stores = s.stores := by
  simp [boundaryAt]

@[simp] theorem stores_boundary (numbered : Bool) (o : BoundaryObs) (s : State) : (boundary numbered o s).stores = s.stores := by
  unfold boundary
  split <;> simp

/-! ## Windows, readouts and triggers -/

@[simp] theorem stores_startWindow (s : State) : (startWindow s).stores = s.stores := by
  unfold startWindow
  split <;> simp

@[simp] theorem stores_transferSite (n : Node) (code : Nat) (c : SiteCharge) (s : State) : (transferSite n code c s).stores = s.stores :=
  stores_of_onlyIn (onlyIn_transferSite _ _ _ _) (by decide)

@[simp] theorem stores_endWindow (sites : List SiteCharge) (s : State) : (endWindow sites s).stores = s.stores := by
  unfold endWindow
  split <;> simp

@[simp] theorem stores_resetSite (x y well : Nat) (still : Bool) (s : State) : (resetSite x y well still s).stores = s.stores := by
  unfold resetSite
  split <;> simp

@[simp] theorem stores_loseStackLink (s : State) : (loseStackLink s).stores = s.stores := by
  simp [loseStackLink]

@[simp] theorem stores_bankPeriod (b : Bank) (codes : Sparse) (ok : Bool) (s : State) : (bankPeriod b codes ok s).stores = s.stores := by
  unfold bankPeriod
  split <;> simp [checkRow, noteParity]

@[simp] theorem stores_queueStream (g : FrameGov) (s : State) : (queueStream g s).stores = s.stores := by
  simp [queueStream]

@[simp] theorem stores_endCut (s : State) : (endCut s).stores = s.stores := by
  unfold endCut
  split <;> simp

@[simp] theorem stores_rowPair (d : PeriodData) (s : State) : (rowPair d s).stores = s.stores := by
  unfold rowPair
  dsimp only
  (repeat' split) <;> simp

@[simp] theorem stores_restoreWord (x y : Nat) (s : State) : (restoreWord x y s).stores = s.stores := by
  simp [restoreWord]

@[simp] theorem stores_recordClose (s : State) : (recordClose s).stores = s.stores := by
  unfold recordClose
  split <;> simp

@[simp] theorem stores_acceptTrigger (te : Nat) (s : State) : (acceptTrigger te s).stores = s.stores := by
  simp [acceptTrigger]

@[simp] theorem stores_triggerEdge (te : Nat) (s : State) : (triggerEdge te s).stores = s.stores := by
  simp [triggerEdge]

@[simp] theorem stores_trigEdge (s : State) : (trigEdge s).stores = s.stores := by
  unfold trigEdge
  dsimp only
  (repeat' split) <;> simp

@[simp] theorem stores_cutReadout (s : State) : (cutReadout s).stores = s.stores := by
  unfold cutReadout
  split <;> simp

@[simp] theorem stores_abandonExposure (s : State) : (abandonExposure s).stores = s.stores := by
  simp [abandonExposure]

@[simp] theorem stores_closeGate (s : State) : (closeGate s).stores = s.stores := by
  unfold closeGate
  dsimp only
  (repeat' split) <;> simp

@[simp] theorem stores_rewriteDone (s : State) : (rewriteDone s).stores = s.stores := by
  simp [rewriteDone]

/-! ## Posts -/

@[simp] theorem stores_settingCommand (o : Opcode) (r : Req) (x : Setting) (n : Nat) (p : Bool) (s : State) :
    (settingCommand o r x n p s).stores = s.stores := by
  simp [settingCommand]

@[simp] theorem stores_ledgerCancelAct (seq : Nat) (id : ReqId) (s : State) : (ledgerCancelAct seq id s).stores = s.stores := by
  unfold ledgerCancelAct
  (repeat' split) <;> simp [mirrorCancel]

/-! ## Profiles -/

@[simp] theorem stores_setPreroll (ms : Nat) (s : State) : (setPreroll ms s).stores = s.stores :=
  stores_of_onlyIn (onlyIn_setPreroll _ _) (by decide)

@[simp] theorem stores_prerollAct (ms : Nat) (id : ReqId) (s : State) : (prerollAct ms id s).stores = s.stores := by
  simp [prerollAct]

@[simp] theorem stores_underRole {f : State → State} (h : ∀ s, (f s).stores = s.stores) (s : State) : (underRole f s).stores = s.stores := by
  unfold underRole
  simp [h]

@[simp] theorem stores_tandemRoleAct (role : Nat) (id : ReqId) (s : State) : (tandemRoleAct role id s).stores = s.stores := by
  simp [tandemRoleAct]

@[simp] theorem stores_setCompositor (mode left : Nat) (s : State) : (setCompositor mode left s).stores = s.stores :=
  stores_of_onlyIn (onlyIn_setCompositor _ _ _) (by decide)

@[simp] theorem stores_compositorAct (mode left : Nat) (id : ReqId) (s : State) : (compositorAct mode left id s).stores = s.stores := by
  simp [compositorAct]

@[simp] theorem stores_adoptProfile (n : Nat) (p : Profile) (copy : Nat) (s : State) : (adoptProfile n p copy s).stores = s.stores := by
  simp [adoptProfile]

@[simp] theorem stores_profileSelectAct (n : Nat) (id : ReqId) (s : State) : (profileSelectAct n id s).stores = s.stores := by
  simp [profileSelectAct]

/-! ## Takes -/

@[simp] theorem stores_takeKey (isSealed : Bool) (keyId : Nat) (wrapped : List Byte) (s : State) :
    (takeKey isSealed keyId wrapped s).2.stores = s.stores := by
  unfold takeKey
  (repeat' split) <;> simp

@[simp] theorem stores_takeStartAct (takeId keyId : Nat) (wrapped : List Byte) (target : Nat) (id : ReqId) (s : State) :
    (takeStartAct takeId keyId wrapped target id s).stores = s.stores := by
  unfold takeStartAct
  dsimp only
  (repeat' split) <;> simp

@[simp] theorem stores_takeStopAct (target : Nat) (id : ReqId) (s : State) : (takeStopAct target id s).stores = s.stores := by
  simp [takeStopAct]

/-! ## Welt commands -/

@[simp] theorem stores_weltOpenAct (b maxVersion flags : Nat) (rid : U16) (ms : Nat) (id : ReqId) (s : State) :
    (weltOpenAct b maxVersion flags rid ms id s).stores = s.stores := by
  simp [weltOpenAct]

@[simp] theorem stores_infoWrite (bytes : List Byte) (b : Nat) (s : State) : (infoWrite bytes b s).stores = s.stores := by
  simp [infoWrite]

@[simp] theorem stores_onCredit (s : State) : (onCredit s).stores = s.stores := by
  simp [onCredit]

@[simp] theorem stores_descWrite (v b : Nat) (s : State) : (descWrite v b s).stores = s.stores := by
  simp [descWrite]

@[simp] theorem stores_pageWrite (v : Nat) (whole : Bool) (b : Nat) (s : State) : (pageWrite v whole b s).stores = s.stores := by
  simp [pageWrite]

@[simp] theorem stores_echoWrite (session version b : Nat) (s : State) : (echoWrite session version b s).stores = s.stores := by
  simp [echoWrite, discardArmed, completeOpen]

@[simp] theorem stores_openTimeout (b : Nat) (s : State) : (openTimeout b s).stores = s.stores := by
  simp [openTimeout]

@[simp] theorem stores_pageDiscard (off b : Nat) (rid : U16) (s : State) : (pageDiscard off b rid s).stores = s.stores := by
  simp [pageDiscard]

@[simp] theorem stores_jobAcked (b : Nat) (s : State) : (jobAcked b s).stores = s.stores :=
  stores_of_onlyIn (onlyIn_jobAcked _ _) (by decide)

@[simp] theorem stores_levelAfter (s : State) : (levelAfter s).stores = s.stores :=
  stores_of_onlyIn (onlyIn_levelAfter _) (by decide)

@[simp] theorem stores_ackWrite (v : Nat) (entries : List AckEntry) (b : Nat) (s : State) : (ackWrite v entries b s).stores = s.stores := by
  simp [ackWrite, ackProduce, ackOne]

@[simp] theorem stores_ackLate (b : Nat) (s : State) : (ackLate b s).stores = s.stores := by
  simp [ackLate]

@[simp] theorem stores_sendRecovered (b : Nat) (j : RecoveryJob) (s : State) : (sendRecovered b j s).stores = s.stores := by
  simp [sendRecovered, commitRecovered]

@[simp] theorem stores_recordSend (b : Nat) (poisoned : Bool) (s : State) : (recordSend b poisoned s).stores = s.stores := by
  unfold recordSend recordSend.takeSend
  (repeat' split) <;> simp

@[simp] theorem stores_quietClose (b : Nat) (s : State) : (quietClose b s).stores = s.stores := by
  simp [quietClose]

@[simp] theorem stores_weltCloseAct (b flags : Nat) (id : ReqId) (s : State) : (weltCloseAct b flags id s).stores = s.stores := by
  simp [weltCloseAct]

@[simp] theorem stores_relayPlanned (b : Nat) (id : ReqId) (s : State) : (relayPlanned b id s).stores = s.stores := by
  simp [relayPlanned, plannedRelay]

@[simp] theorem stores_relayRemoved (b : Nat) (id : ReqId) (s : State) : (relayRemoved b id s).stores = s.stores := by
  simp [relayRemoved]

@[simp] theorem stores_allowlistAct (allow : List (Nat × Nat)) (id : ReqId) (s : State) : (allowlistAct allow id s).stores = s.stores := by
  simp [allowlistAct]

/-! ## The memory port -/

@[simp] theorem stores_discoverAs (lanes : Nat) (devs : List (Nat × DeviceSeen)) (all : List MemDevice) (s : State) :
    (discoverAs lanes devs all s).stores = s.stores := by
  simp [discoverAs, deviceEvents]

@[simp] theorem stores_discover (seen : List DeviceSeen) (s : State) : (discover seen s).stores = s.stores := by
  unfold discover
  dsimp only
  (repeat' split) <;> simp

@[simp] theorem stores_reservoirInfoAct (gib : Nat) (id : ReqId) (s : State) : (reservoirInfoAct gib id s).stores = s.stores := by
  simp [reservoirInfoAct]

@[simp] theorem stores_addBad (s : State) (page : Nat) : (s.addBad page).stores = s.stores :=
  stores_of_onlyIn (onlyIn_addBad _ _) (by decide)

@[simp] theorem stores_mediaError (page : Nat) (s : State) : (mediaError page s).stores = s.stores := by
  unfold mediaError
  (repeat' split) <;> simp

@[simp] theorem stores_retrainLink (d lanes rate : Nat) (done : Bool) (s : State) : (retrainLink d lanes rate done s).stores = s.stores := by
  simp [retrainLink]

@[simp] theorem stores_loseDevice (d : Nat) (s : State) : (loseDevice d s).stores = s.stores := by
  simp [loseDevice]

@[simp] theorem stores_healthOf (h : DeviceHealth) (s : State) : (healthOf h s).stores = s.stores := by
  simp [healthOf, foundPoison]

@[simp] theorem stores_completeRead (r : BarRead) (s : State) : (completeRead r s).stores = s.stores :=
  stores_of_onlyIn (onlyIn_completeRead _ _) (by decide)

@[simp] theorem stores_settleReads (s : State) : (settleReads s).stores = s.stores :=
  stores_of_onlyIn (onlyIn_settleReads _) (by decide)

@[simp] theorem stores_bar2ReadAct (offset len : Nat) (poisoned : Bool) (s : State) : (bar2ReadAct offset len poisoned s).stores = s.stores := by
  simp [bar2ReadAct]

/-! ## Hold-over commands -/

@[simp] theorem stores_noteDelivered (takeId n : Nat) (s : State) : (noteDelivered takeId n s).stores = s.stores := by
  simp [noteDelivered]

@[simp] theorem stores_copyRecord (id : ReqId) (takeId n : Nat) (s : State) : ((copyRecord id takeId n s).getD s).stores = s.stores := by
  rw [copyRecord]
  split
  · split <;> simp
  · rfl

@[simp] theorem stores_copyRange (id : ReqId) (takeId : Nat) (l : List Nat) (k : Nat) (s : State) :
    (copyRange id takeId l k s).2.stores = s.stores := by
  induction l generalizing s k with
  | nil => rfl
  | cons n l ih =>
    have one := stores_copyRecord id takeId n s
    rw [copyRange]
    split
    · simp
    · next h => rw [ih, ← one, h, Option.getD_some]

@[simp] theorem stores_deliverBy (takeId first last route b : Nat) (id : ReqId) (s : State) :
    (deliverBy takeId first last route b id s).stores = s.stores := by
  unfold deliverBy
  (repeat' split) <;> simp [mailRecord]

@[simp] theorem stores_holdReadAct (takeId first last route b : Nat) (id : ReqId) (s : State) :
    (holdReadAct takeId first last route b id s).stores = s.stores := by
  simp [holdReadAct]

@[simp] theorem stores_holdReleaseAct (takeId n flags : Nat) (id : ReqId) (s : State) : (holdReleaseAct takeId n flags id s).stores = s.stores := by
  simp [holdReleaseAct]

@[simp] theorem stores_blockFail (b : Nat) (s : State) : (blockFail b s).stores = s.stores := by
  simp [blockFail]

@[simp] theorem stores_bankFail (b : Nat) (s : State) : (bankFail b s).stores = s.stores := by
  simp [bankFail]

/-! ## Power domains -/

@[simp] theorem stores_restoreLog (first second : Bool) (s : State) : (restoreLog first second s).stores = s.stores := by
  unfold restoreLog
  dsimp only
  (repeat' split) <;> simp

@[simp] theorem stores_startDomain (d : Nat) (s : State) : (startDomain d s).stores = s.stores := by
  simp [startDomain]

@[simp] theorem stores_failDomain (d : Nat) (s : State) : (failDomain d s).stores = s.stores :=
  stores_of_onlyIn (onlyIn_failDomain _ _) (by decide)

@[simp] theorem stores_powerUp (bad : Option Nat) (l : List Nat) (s : State) : (powerUp bad l s).1.stores = s.stores := by
  induction l generalizing s with
  | nil => rfl
  | cons d l ih =>
    unfold powerUp
    (repeat' split) <;> simp [ih]

@[simp] theorem stores_stopDomain (d : Nat) (s : State) : (stopDomain d s).stores = s.stores := by
  simp [stopDomain, loseTandem, pllOff, loseTiming]

@[simp] theorem stores_powerDownTo (keep : List Nat) (drops : List (Nat × Nat)) (s : State) : (powerDownTo keep drops s).stores = s.stores := by
  simp [powerDownTo, saveLog, drainLog]

@[simp] theorem stores_stopProcedure (s : State) : (stopProcedure s).stores = s.stores := by
  simp [stopProcedure]

@[simp] theorem stores_endProcedure (s : State) : (endProcedure s).stores = s.stores := by
  simp [endProcedure]

/-! ## The dump and the log -/

@[simp] theorem stores_storeDump (cut : Bool) (f : FatalSeq) (s : State) : (storeDump cut f s).stores = s.stores := by
  simp [storeDump]

@[simp] theorem stores_settleFault (s : State) : (settleFault s).stores = s.stores := by
  simp [settleFault]

@[simp] theorem stores_dumpReadAct (offset : Nat) (id : ReqId) (s : State) : (dumpReadAct offset id s).stores = s.stores := by
  unfold dumpReadAct
  split <;> simp

@[simp] theorem stores_dumpClearAct (force : Bool) (id : ReqId) (s : State) : (dumpClearAct force id s).stores = s.stores := by
  simp [dumpClearAct, clearDump]

/-! ## Fuses -/

@[simp] theorem stores_noteZone (z : Nat) (v : ZoneVerdict) (s : State) : (noteZone z v s).stores = s.stores := by
  simp [noteZone]

/-! ## Inputs, the ride-through and temperatures -/

@[simp] theorem stores_moveDraw (goal : Draw) (s : State) : (moveDraw goal s).stores = s.stores :=
  stores_of_onlyIn (onlyIn_moveDraw _ _) (by decide)

@[simp] theorem stores_startRide (s : State) : (startRide s).stores = s.stores :=
  stores_of_onlyIn (onlyIn_startRide _) (by decide)

@[simp] theorem stores_inputGone (ac : Bool) (s : State) : (inputGone ac s).stores = s.stores := by
  simp [inputGone]

@[simp] theorem stores_loseAc (s : State) : (loseAc s).stores = s.stores := by
  simp [loseAc]

@[simp] theorem stores_loseDc (s : State) : (loseDc s).stores = s.stores := by
  simp [loseDc]

@[simp] theorem stores_outOfRange (ac : Bool) (s : State) : (outOfRange ac s).stores = s.stores := by
  simp [outOfRange]

@[simp] theorem stores_acSettled (s : State) : (acSettled s).stores = s.stores := by
  unfold acSettled
  split <;> simp

@[simp] theorem stores_cutDump (s : State) : (cutDump s).stores = s.stores := by
  unfold cutDump
  split <;> simp

@[simp] theorem stores_limitLoad (load cooler : Nat) (s : State) : (limitLoad load cooler s).stores = s.stores := by
  unfold limitLoad
  dsimp only
  (repeat' split) <;> simp

@[simp] theorem stores_sampleLoad (load acPower dcPower acVolts acHz dcVolts store : Nat) (pdPwr : List Nat) (s0 : State) :
    (sampleLoad load acPower dcPower acVolts acHz dcVolts store pdPwr s0).stores = s0.stores := by
  simp [sampleLoad]

@[simp] theorem stores_stageFault (s : State) : (stageFault s).stores = s.stores := by
  simp [stageFault]

@[simp] theorem stores_checkThermal (stack genaz hold power : Int) (s0 : State) : (checkThermal stack genaz hold power s0).stores = s0.stores := by
  simp [checkThermal, noteCrossing]

@[simp] theorem stores_sampleTiles (codes : List (BitVec 12)) (s : State) : (sampleTiles codes s).stores = s.stores := by
  simp [sampleTiles]

/-! ## Sequenced mode changes -/

@[simp] theorem stores_completeSeq (q : SeqChange) (s : State) : (completeSeq q s).stores = s.stores := by
  simp [completeSeq]

@[simp] theorem stores_failSeq (q : SeqChange) (reason : Nat) (s : State) : (failSeq q reason s).stores = s.stores := by
  simp [failSeq]

@[simp] theorem stores_holdSeq (q : SeqChange) (g : SeqStage) (s : State) : (holdSeq q g s).stores = s.stores := by
  simp [holdSeq]

@[simp] theorem stores_enterStack (q : SeqChange) (s : State) : (enterStack q s).stores = s.stores := by
  unfold enterStack
  split
  · next h => simp [← stores_of_fst h]
  · next h => split <;> (next k => simp [← stores_of_fst k, ← stores_of_fst h])

@[simp] theorem stores_awaitPlls (q : SeqChange) (s : State) : (awaitPlls q s).stores = s.stores := by
  unfold awaitPlls
  split <;> simp

@[simp] theorem stores_enterReady (q : SeqChange) (s : State) : (enterReady q s).stores = s.stores := by
  unfold enterReady
  split <;> (next h => simp [← stores_of_fst h])

@[simp] theorem stores_proceedSeq (q : SeqChange) (s : State) : (proceedSeq q s).stores = s.stores := by
  unfold proceedSeq
  split
  · simp
  · split
    · split <;> (next h => simp [← stores_of_fst h])
    · simp
  · simp
  all_goals rfl

@[simp] theorem stores_startSeq (goal : Mode) (req : Option ReqId) (around : Surroundings) (s : State) :
    (startSeq goal req around s).stores = s.stores := by
  simp [startSeq]

@[simp] theorem stores_storeReady (s : State) : (storeReady s).stores = s.stores := by
  unfold storeReady
  split <;> simp

@[simp] theorem stores_storeTimeout (s : State) : (storeTimeout s).stores = s.stores := by
  unfold storeTimeout
  split <;> simp

@[simp] theorem stores_readyComplete (s : State) : (readyComplete s).stores = s.stores := by
  unfold readyComplete
  split <;> simp

@[simp] theorem stores_readyTimeout (s : State) : (readyTimeout s).stores = s.stores := by
  unfold readyTimeout
  split <;> simp

@[simp] theorem stores_cutXfer (b : BusId) (s : State) : (cutXfer b s).stores = s.stores := by
  simp [cutXfer]

@[simp] theorem stores_idleTimeout (s : State) : (idleTimeout s).stores = s.stores := by
  simp [idleTimeout]

@[simp] theorem stores_startBurst (f : ModeFields) (e : Nat) (id : ReqId) (s : State) : (startBurst f e id s).stores = s.stores := by
  unfold startBurst
  split <;> simp

@[simp] theorem stores_modeRequestAct (f : ModeFields) (sur : Surroundings) (target : Nat) (id : ReqId) (s : State) :
    (modeRequestAct f sur target id s).stores = s.stores := by
  unfold modeRequestAct
  (repeat' split) <;> simp [redirectBurst]

/-! ## Clock events -/

@[simp] theorem stores_retryLock (p : PllId) (s : State) : (retryLock p s).stores = s.stores := by
  unfold retryLock
  split <;> simp

@[simp] theorem stores_notePlls (s : State) : (notePlls s).stores = s.stores := by
  unfold notePlls
  split <;> simp

@[simp] theorem stores_lockDetect (p : PllId) (s0 : State) : (lockDetect p s0).stores = s0.stores := by
  simp [lockDetect, completeLock]

@[simp] theorem stores_lockTimeout (p : PllId) (s0 : State) : (lockTimeout p s0).stores = s0.stores := by
  simp [lockTimeout]

@[simp] theorem stores_refReturn (p : PllId) (s : State) : (refReturn p s).stores = s.stores := by
  simp [refReturn]

@[simp] theorem stores_loseXref (s : State) : (loseXref s).stores = s.stores := by
  simp [loseXref]

@[simp] theorem stores_pllCommand (p : PllId) (s : State) : (pllCommand p s).stores = s.stores := by
  simp [pllCommand]

@[simp] theorem stores_writeOutCfg (v : U32) (s : State) : (writeOutCfg v s).stores = s.stores := by
  simp [writeOutCfg]

/-! ## The host link -/

@[simp] theorem stores_sendPending (pf1 : Bool) (n : Nat) (s : State) : (sendPending pf1 n s).stores = s.stores := by
  simp [sendPending]

@[simp] theorem stores_releaseVectors (pf1 : Bool) (s : State) : (releaseVectors pf1 s).stores = s.stores :=
  stores_of_onlyIn (onlyIn_releaseVectors _ _) (by decide)

@[simp] theorem stores_msixControl (pf1 enable mask : Bool) (s : State) : (msixControl pf1 enable mask s).stores = s.stores := by
  simp [msixControl]

@[simp] theorem stores_resumeWelt (s : State) : (resumeWelt s).stores = s.stores := by
  simp [resumeWelt]

@[simp] theorem stores_resume (pf1 : Bool) (s : State) : (resume pf1 s).stores = s.stores := by
  simp [resume]

@[simp] theorem stores_busMaster (pf1 on : Bool) (s : State) : (busMaster pf1 on s).stores = s.stores := by
  simp [busMaster]

@[simp] theorem stores_leaveD3hot (pf1 : Bool) (s : State) : (leaveD3hot pf1 s).stores = s.stores := by
  simp [leaveD3hot]

@[simp] theorem stores_stopRings (s : State) : (stopRings s).stores = s.stores :=
  stores_of_onlyIn (onlyIn_stopRings _) (by decide)

@[simp] theorem stores_dropBridge (s : State) : (dropBridge s).stores = s.stores :=
  stores_of_onlyIn (onlyIn_dropBridge _) (by decide)

@[simp] theorem stores_linkReset (s : State) : (linkReset s).stores = s.stores := by
  simp [linkReset]

@[simp] theorem stores_perstChange (asserted : Bool) (s : State) : (perstChange asserted s).stores = s.stores := by
  simp [perstChange]

@[simp] theorem stores_hostLinkUp (rate0 width0 : Nat) (flit : Bool) (mps : Nat) (s : State) :
    (hostLinkUp rate0 width0 flit mps s).stores = s.stores := by
  simp [hostLinkUp]

@[simp] theorem stores_narrowLink (width : Nat) (s : State) : (narrowLink width s).stores = s.stores := by
  simp [narrowLink]

@[simp] theorem stores_resetPf0 (s : State) : (resetPf0 s).stores = s.stores := by
  simp [resetPf0]

@[simp] theorem stores_resetPf1 (s : State) : (resetPf1 s).stores = s.stores := by
  simp [resetPf1]

@[simp] theorem stores_turnOff (s : State) : (turnOff s).stores = s.stores := by
  simp [turnOff]

@[simp] theorem stores_unsupported (pf1 : Bool) (off : Nat) (s : State) : (unsupported pf1 off s).stores = s.stores := by
  simp [unsupported]

@[simp] theorem stores_accessError (e : Bar0Error) (s : State) : (accessError e s).stores = s.stores := by
  unfold accessError
  (repeat' split) <;> simp

@[simp] theorem stores_doeAnswer (bs : List Byte) (s : State) : (doeAnswer bs s).stores = s.stores :=
  stores_of_onlyIn (onlyIn_doeAnswer _ _) (by decide)

@[simp] theorem stores_spdmAnswer (kind : Nat) (s : State) : (spdmAnswer kind s).stores = s.stores :=
  stores_of_onlyIn (onlyIn_spdmAnswer _ _) (by decide)

@[simp] theorem stores_doeUnlessBusy (fetched : Bool) {act : State → State} {s : State} (h : (act s).stores = s.stores) :
    (doeUnlessBusy fetched act s).stores = s.stores := by simp [doeUnlessBusy, h]

@[simp] theorem stores_doeRequestAct (o : DoeObject) (fetched : Bool) (s : State) : (doeRequestAct o fetched s).stores = s.stores := by
  unfold doeRequestAct
  (repeat' split) <;> simp

@[simp] theorem stores_ideKeys (rx tx : List Byte) (s : State) : (ideKeys rx tx s).stores = s.stores := by
  simp [ideKeys]

/-! ## Viewing rings -/

@[simp] theorem stores_setRing (s : State) (i : Nat) (r : ViewRing) : (s.setRing i r).stores = s.stores :=
  stores_of_onlyIn (onlyIn_setRing _ _ _) (by decide)

@[simp] theorem stores_deliver (i address size : Nat) (overflow : Bool) (s : State) : (deliver i address size overflow s).stores = s.stores := by
  unfold deliver
  (repeat' split) <;> simp [completeDescriptor]

@[simp] theorem stores_ringTimeout (i : Nat) (s : State) : (ringTimeout i s).stores = s.stores := by
  unfold ringTimeout
  split <;> simp

@[simp] theorem stores_writePosted (i : Nat) (v : U32) (s : State) : (writePosted i v s).stores = s.stores := by
  simp [writePosted]

@[simp] theorem stores_streamStartAct (i : Nat) (id : ReqId) (s : State) : (streamStartAct i id s).stores = s.stores := by
  simp [streamStartAct]

@[simp] theorem stores_streamStopAct (i : Nat) (id : ReqId) (s : State) : (streamStopAct i id s).stores = s.stores := by
  simp [streamStopAct]

@[simp] theorem stores_lutLoadAct (kind slot : Nat) (last : Bool) (offset total crc : Nat) (data : List Byte) (id : ReqId) (s : State) :
    (lutLoadAct kind slot last offset total crc data id s).stores = s.stores := by
  simp [lutLoadAct, lutPiece]

/-! ## Host Notify -/

@[simp] theorem stores_targetRead (b : BusId) (addr code : Nat) (s : State) : (targetRead b addr code s).stores = s.stores := by
  unfold targetRead
  dsimp only
  (repeat' split) <;> simp

@[simp] theorem stores_noticeMoment (s : State) : (noticeMoment s).stores = s.stores := by
  unfold noticeMoment
  split <;> simp

@[simp] theorem stores_hostNotice (e : ControllerEnd) (s : State) : (hostNotice e s).stores = s.stores := by
  simp [hostNotice, sendNotice, State.noticed]

@[simp] theorem stores_timebaseAct (ref : Nat) (set : Bool) (v : Nat) (id : ReqId) (s : State) : (timebaseAct ref set v id s).stores = s.stores := by
  simp [timebaseAct, setTime]

@[simp] theorem stores_timecodeAct (source : Nat) (out : Bool) (num den : Nat) (word : U64) (id : ReqId) (s : State) :
    (timecodeAct source out num den word id s).stores = s.stores := by
  simp [timecodeAct]

/-! ## Configuration space -/

@[simp] theorem stores_setConfig (pf1 : Bool) (g : ConfigRegs → ConfigRegs) (s : State) : (setConfig pf1 g s).stores = s.stores :=
  stores_of_onlyIn (onlyIn_setConfig _ _ _) (by decide)

@[simp] theorem stores_writeConfig (pf1 : Bool) (off v : Nat) (s : State) : (writeConfig pf1 off v s).stores = s.stores := by
  unfold writeConfig
  (repeat' split) <;> simp [writePower, writeDevCtl, writeLinkCtl]

/-! ## Writes of registers -/

/-- What holds of the state that a write of a register leads to. -/
def Written.Leads (P : State → Prop) (w : Written State) : Prop := match w with
  | .done t => P t
  | _ => True

/-- A write of a register, where it takes effect, leaves the stores. -/
abbrev Written.spares (w : Written State) (s : State) : Prop := w.Leads fun t => t.stores = s.stores

section
variable {P : State → Prop} {t : State}
@[simp] theorem leads_kept : (Written.kept : Written State).Leads P := trivial
@[simp] theorem leads_rejected (n : Nat) : (Written.rejected n : Written State).Leads P := trivial
@[simp] theorem leads_done : (Written.done t).Leads P ↔ P t := Iff.rfl
@[simp] theorem leads_unless (locked : Bool) (h : P t) : (Written.unless locked t).Leads P := by
  unfold Written.unless; split
  · trivial
  · exact h
@[simp] theorem leads_keeper (m : Master) (h : P t) : (Written.keeper m t).Leads P := by
  unfold Written.keeper; split
  · exact h
  · trivial
@[simp] theorem leads_only (has : Bool) (h : P t) : (Written.only has t).Leads P := by
  unfold Written.only; split
  · exact h
  · trivial
@[simp] theorem leads_map {α : Type} (f : α → State) (h : ∀ a, P (f a)) (w : Written α) : (w.map f).Leads P := by
  cases w <;> simp [Written.map, h]
end

@[simp] theorem spares_ringRegWrite (off v : Nat) (s : State) : (ringRegWrite off v s).spares s := by
  unfold ringRegWrite
  split <;> simp

@[simp] theorem spares_tableWrite (pf1 : Bool) (off v : Nat) (s : State) : (tableWrite pf1 off v s).spares s := by
  unfold tableWrite
  dsimp only
  (repeat' split) <;> simp

@[simp] theorem spares_viewRegWrite (i off v : Nat) (s : State) : (viewRegWrite i off v s).spares s := by
  unfold viewRegWrite
  split <;> simp

@[simp] theorem spares_timerRegWrite (m : Master) (n off v : Nat) (s : State) : (timerRegWrite m n off v s).spares s := by
  unfold timerRegWrite
  split <;> simp

@[simp] theorem spares_timersWrite (m : Master) (off v : Nat) (s : State) : (timersWrite m off v s).spares s := by
  unfold timersWrite
  split
  · simp
  · split <;> simp

@[simp] theorem spares_busRegWrite (b : BusId) (off v : Nat) (s : State) : (busRegWrite b off v s).spares s := by
  unfold busRegWrite
  (repeat' split) <;> simp

@[simp] theorem spares_busWrite (b : BusId) (off v : Nat) (s : State) : (busWrite b off v s).spares s := by
  have reg := spares_busRegWrite b off v s
  unfold busWrite
  split
  · next h =>
    rw [h] at reg
    dsimp only
    split
    · trivial
    · exact reg
  · exact reg

@[simp] theorem spares_auxWrite (off v : Nat) (s : State) : (auxWrite off v s).spares s := by
  unfold auxWrite
  split <;> simp

@[simp] theorem stores_pllCommands (v : Nat) (s : State) : (pllCommands v s).stores = s.stores := by
  simp [pllCommands]

@[simp] theorem spares_clockWrite (m : Master) (off v : Nat) (s : State) : (clockWrite m off v s).spares s := by
  unfold clockWrite
  split <;> simp

@[simp] theorem spares_powerWrite (off v : Nat) (s : State) : (powerWrite off v s).spares s := by
  unfold powerWrite
  split <;> simp

@[simp] theorem spares_calWrite (off v : Nat) (s : State) : (calWrite off v s).spares s := by
  unfold calWrite
  split <;> simp

@[simp] theorem spares_logRegWrite (off v : Nat) (s : State) : (logRegWrite off v s).spares s := by
  unfold logRegWrite
  dsimp only
  (repeat' split) <;> simp

@[simp] theorem spares_ledgerRegWrite (off v : Nat) (s : State) : (ledgerRegWrite off v s).spares s := by
  unfold ledgerRegWrite
  split <;> simp

@[simp] theorem spares_voteWrite (off v : Nat) (s : State) : (voteWrite off v s).spares s := by
  unfold voteWrite
  split <;> simp

@[simp] theorem spares_write1 (base off v : Nat) (s : State) : (write1 base off v s).spares s := by
  unfold write1
  (repeat' split) <;> simp

@[simp] theorem stores_bridgeRead (m : Master) (pf1 : Bool) (off len : Nat) (s : State) : (bridgeRead m pf1 off len s).stores = s.stores := by
  unfold bridgeRead
  (repeat' split) <;> simp [readNow, readWord]

@[simp] theorem stores_bridgeHang (s : State) : (bridgeHang s).stores = s.stores := by
  unfold bridgeHang
  split <;> simp

/-! ## Calibration -/

@[simp] theorem stores_calBegin (ref : Int) (s : State) : (calBegin ref s).stores = s.stores := by
  simp [calBegin]

@[simp] theorem stores_procedureReadout (ticks : Nat) (m : CalMeasure) (s : State) : (procedureReadout ticks m s).stores = s.stores := by
  simp [procedureReadout]

@[simp] theorem stores_calFinish (q : CalRun) (readBack : U64) (id : ReqId) (s : State) : (calFinish q readBack id s).stores = s.stores := by
  unfold calFinish
  dsimp only
  split <;> simp

@[simp] theorem stores_calStep (p k : Nat) (ref : Int) (ticks : Nat) (m : CalMeasure) (q : CalRun) (id : ReqId) (s : State) :
    (calStep p k ref ticks m q id s).stores = s.stores := by
  have on : (if p = 5 then (s, true) else powerUp m.noPowerGood procedureDomains s).1.stores = s.stores := by split <;> simp
  unfold calStep
  dsimp only
  split <;> (next step => rw [step] at on; simpa using on)

@[simp] theorem stores_calRunAct (p k : Nat) (ref : Int) (duration : Nat) (m : CalMeasure) (id : ReqId) (s : State) :
    (calRunAct p k ref duration m id s).stores = s.stores := by
  unfold calRunAct
  dsimp only
  (repeat' split) <;> simp

@[simp] theorem stores_reloadWords (sur : Surroundings) (s : State) : (reloadWords sur s).1.stores = s.stores := by
  unfold reloadWords
  split <;> (next h => simp [← stores_of_fst h])

@[simp] theorem stores_endSwitch (id : ReqId) (r : State × Bool) : (endSwitch id r).stores = r.1.stores := by
  unfold endSwitch
  split <;> simp

@[simp] theorem stores_calInstallAct (candidate : Nat) (sur : Surroundings) (id : ReqId) (s : State) :
    (calInstallAct candidate sur id s).stores = s.stores := by
  unfold calInstallAct
  dsimp only
  (repeat' split) <;> simp

@[simp] theorem stores_calRollbackAct (sur : Surroundings) (id : ReqId) (s : State) : (calRollbackAct sur id s).stores = s.stores := by
  unfold calRollbackAct
  (repeat' split) <;> simp [switchCopy]

/-! ## Firmware images -/

@[simp] theorem stores_fwStageAct (offset total : Nat) (last : Bool) (data : List Byte) (id : ReqId) (s : State) :
    (fwStageAct offset total last data id s).stores = s.stores := by
  simp [fwStageAct, stageImage]

@[simp] theorem stores_resetSoon (s : State) : (resetSoon s).stores = s.stores := by
  simp [resetSoon]

@[simp] theorem stores_fwActivateAct (id : ReqId) (s : State) : (fwActivateAct id s).stores = s.stores := by
  simp [fwActivateAct]

@[simp] theorem stores_setKek (kek : List Byte) (s : State) : (setKek kek s).stores = s.stores := by
  simp [setKek]

/-! ## Boot -/

@[simp] theorem stores_closeOnFuses (s : State) : (closeOnFuses s).stores = s.stores := by
  simp [closeOnFuses]

@[simp] theorem stores_bootSlots (s : State) : (bootSlots s).stores = s.stores := by
  simp [bootSlots]

@[simp] theorem stores_checkCopies (s : State) : (checkCopies s).stores = s.stores := by
  unfold checkCopies
  dsimp only
  split <;> simp

@[simp] theorem stores_bootProfile (n : Nat) (s : State) : (bootProfile n s).stores = s.stores := by
  simp [bootProfile]

@[simp] theorem stores_noteDump (s : State) : (noteDump s).stores = s.stores := by
  unfold noteDump
  split <;> simp

@[simp] theorem stores_leaveBoot (sur : Surroundings) (s : State) : (leaveBoot sur s).stores = s.stores := by
  unfold leaveBoot
  (repeat' split) <;> simp

@[simp] theorem stores_openDebug (s : State) : (openDebug s).stores = s.stores := by
  simp [openDebug]

@[simp] theorem stores_findPower (c : ColdStart) (s : State) : (findPower c s).stores = s.stores := by
  simp [findPower]

@[simp] theorem stores_deferReset (s : State) : (deferReset s).stores = s.stores := by
  unfold deferReset
  split <;> simp

/-! ## The end of a fatal sequence -/

@[simp] theorem stores_repairCopy (field copy : Nat) (s : State) : (repairCopy field copy s).stores = s.stores := by
  simp [repairCopy]

@[simp] theorem stores_watchdogExpires (s : State) : (watchdogExpires s).stores = s.stores := by
  simp [watchdogExpires]

@[simp] theorem stores_settleStore (s : State) : (settleStore s).stores = s.stores := by
  simp [settleStore]

@[simp] theorem stores_writeDump (f : FatalSeq) (s : State) : (writeDump f s).stores = s.stores := by
  simp [writeDump, powerForDump]

@[simp] theorem stores_endBay (b : Nat) (s : State) : (endBay b s).stores = s.stores := by
  simp [endBay]

@[simp] theorem stores_endSessions (s : State) : (endSessions s).stores = s.stores := by
  simp [endSessions]

@[simp] theorem stores_enterService (drops : List (Nat × Nat)) (s : State) : (enterService drops s).stores = s.stores := by
  simp [enterService]

/-! ## Time -/

@[simp] theorem stores_ringVector (s : State) : (ringVector s).stores = s.stores :=
  stores_of_onlyIn (onlyIn_ringVector _) (by decide)

end Sys2Proof.Machine

/-! PROOFS. The fuse array: what pulses, an operation and a sense leave of its words and of the finalised zones (R372 to R380). -/

namespace Sys2Proof.Machine

/-! ## Bits -/

theorem bitsIn_refl (a : U32) : bitsIn a a := BitVec.and_self

theorem bitsIn_trans {a b c : U32} (h : bitsIn a b) (k : bitsIn b c) : bitsIn a c := by
  rw [bitsIn, ← h, BitVec.and_assoc, k]

theorem bitsIn_or (a b : U32) : bitsIn a (a ||| b) := by
  unfold bitsIn
  ext i hi
  simpa using Or.inl

theorem or_bitsIn {a v : U32} (b : U32) (h : bitsIn a v) : bitsIn (a ||| (b &&& v)) v := by
  ext i hi
  have bit : (a &&& v)[i] = a[i] := congrArg (·[i]) h
  cases inA : a[i] <;> simp_all

/-! ## The pulses of a word (R377) -/

/-- What the verifies of nine pulses read. -/
def verifies (held value : U32) (senses : List (U32 × U32)) : List (U32 × U32) :=
  (((senses.take 9).map (senseOf held value)) ++ List.replicate 9 (held ||| value, held ||| value)).take 9

theorem pulseWord_eq (held value : U32) (senses : List (U32 × U32)) :
    pulseWord held value senses = match (verifies held value senses).findIdx? fun p => decide (p = (value, value)) with
      | some k => ⟨k + 1, value, value, true, senses.drop (k + 1)⟩
      | none =>
        ⟨9, ((verifies held value senses).getLastD (held, held)).1, ((verifies held value senses).getLastD (held, held)).2, false,
          senses.drop 9⟩ := rfl

/-- A verify reads the bits that the word held, and beside them bits of VALUE alone. -/
theorem high_of_mem_verifies {held value : U32} {senses : List (U32 × U32)} {q : U32 × U32} (h : q ∈ verifies held value senses) :
    ∃ x, q.2 = held ||| (x &&& value) := by
  rcases List.mem_append.mp (List.mem_of_mem_take h) with sensed | given
  · obtain ⟨p, -, rfl⟩ := List.mem_map.mp sensed
    exact ⟨p.2, rfl⟩
  · obtain rfl := List.eq_of_mem_replicate given
    exact ⟨value, by rw [BitVec.and_self]⟩

theorem pulseWord_high (held value : U32) (senses : List (U32 × U32)) :
    ∃ x, (pulseWord held value senses).high = held ||| (x &&& value) := by
  rw [pulseWord_eq]
  split
  · next k found =>
    obtain ⟨inside, read, -⟩ := List.findIdx?_eq_some_iff_getElem.mp found
    have member := List.getElem_mem inside
    rw [of_decide_eq_true read] at member
    exact high_of_mem_verifies member
  · cases last : (verifies held value senses).getLast? with
    | none => exact ⟨0, by simp [List.getLastD_eq_getLast?, last]⟩
    | some q =>
      obtain ⟨x, high⟩ := high_of_mem_verifies (List.mem_of_getLast? last)
      exact ⟨x, by simp [List.getLastD_eq_getLast?, last, high]⟩

/-- No pulse clears a bit. -/
theorem held_bitsIn_pulseWord (held value : U32) (senses : List (U32 × U32)) : bitsIn held (pulseWord held value senses).high := by
  obtain ⟨x, high⟩ := pulseWord_high held value senses
  rw [high]
  exact bitsIn_or _ _

/-- No pulse sets a bit outside VALUE. -/
theorem pulseWord_bitsIn_value {held value : U32} (senses : List (U32 × U32)) (h : bitsIn held value) :
    bitsIn (pulseWord held value senses).high value := by
  obtain ⟨x, high⟩ := pulseWord_high held value senses
  rw [high]
  exact or_bitsIn _ h

theorem pulseWord_high_of_ok {held value : U32} {senses : List (U32 × U32)} (ok : (pulseWord held value senses).ok = true) :
    (pulseWord held value senses).high = value := by
  rw [pulseWord_eq] at ok ⊢
  split
  · rfl
  · next none => simp [none] at ok

/-! ## A word written (R372, R380) -/

theorem written_high (f : FuseUnit) (z w : Nat) (p : Pulsed) (z' w' : Nat) :
    (f.written z w p).high z' w' = if (z', w') = (z, w) then p.high else f.high z' w' := by
  show (look (put f.words (z, w) p.high) (z', w')).getD 0 = _
  split
  · next same => rw [same, look_put, Option.getD_some]
  · next other => rw [look_put_other _ _ other, FuseUnit.high]

@[simp] theorem written_finalised (f : FuseUnit) (z w : Nat) (p : Pulsed) : (f.written z w p).finalised = f.finalised := rfl

/-- The array has its shape: eight zones of 128 words (R372). -/
structure FuseUnit.Shaped (f : FuseUnit) : Prop where
  zones : f.finalised.length = 8
  places : ∀ e ∈ f.words, e.1.1 < 8 ∧ e.1.2 < 128

/-- No fuse goes back, and the array keeps its shape. -/
structure FuseUnit.rises (f g : FuseUnit) : Prop where
  keeps : f.keeps g
  shape : f.Shaped → g.Shaped

theorem high_congr {f g : FuseUnit} (h : g.words = f.words) (z w : Nat) : g.high z w = f.high z w := by rw [FuseUnit.high, h, FuseUnit.high]

theorem rises_of_array {f g : FuseUnit} (words : g.words = f.words) (finalised : g.finalised = f.finalised) : f.rises g where
  keeps := by
    refine ⟨fun z w => ?_, fun z _ final => ⟨by rw [finalised]; exact final, fun w => high_congr words z w⟩⟩
    rw [high_congr words]
    exact bitsIn_refl _
  shape h := ⟨by rw [finalised]; exact h.zones, by rw [words]; exact h.places⟩

theorem rises_refl (f : FuseUnit) : f.rises f := rises_of_array rfl rfl

theorem keeps_trans {f g h : FuseUnit} (a : f.keeps g) (b : g.keeps h) : f.keeps h := by
  obtain ⟨bitsA, finalA⟩ := a
  obtain ⟨bitsB, finalB⟩ := b
  refine ⟨fun z w => bitsIn_trans (bitsA z w) (bitsB z w), fun z other final => ?_⟩
  obtain ⟨finalG, wordsA⟩ := finalA z other final
  obtain ⟨finalH, wordsB⟩ := finalB z other finalG
  exact ⟨finalH, fun w => (wordsB w).trans (wordsA w)⟩

theorem rises_trans {f g h : FuseUnit} (a : f.rises g) (b : g.rises h) : f.rises h := ⟨keeps_trans a.keeps b.keeps, fun s => b.shape (a.shape s)⟩

/-- Pulses on a word of the array whose zone is not finalised, or is zone 4, only raise the array. -/
theorem rises_written {f : FuseUnit} {z w : Nat} (value : U32) (senses : List (U32 × U32)) (zone : z < 8) (word : w < 128)
    (free : z = 4 ∨ f.finalised.getD z false = false) : f.rises (f.written z w (pulseWord (f.high z w) value senses)) where
  keeps := by
    refine ⟨fun z' w' => ?_, fun z' other final => ⟨final, fun w' => ?_⟩⟩
    · rw [written_high]
      split
      · next same =>
        obtain ⟨rfl, rfl⟩ := Prod.mk.inj same
        exact held_bitsIn_pulseWord _ _ _
      · exact bitsIn_refl _
    · rw [written_high, if_neg]
      intro same
      obtain ⟨rfl, -⟩ := Prod.mk.inj same
      rcases free with four | free
      · exact other four
      · rw [free] at final
        exact Bool.noConfusion final
  shape h := by
    refine ⟨h.zones, fun e member => ?_⟩
    rcases List.mem_cons.mp member with rfl | rest
    · exact ⟨zone, word⟩
    · exact h.places e (List.mem_filter.mp rest).1

/-! ## The steps of an operation -/

@[simp] theorem programWord_fuse (z w : Nat) (value : U32) (senses : List (U32 × U32)) (s : State) :
    (programWord z w value senses s).1.fuse = s.fuse.written z w (pulseWord (s.fuse.high z w) value senses) := by simp [programWord]

/-- A word that holds its value at both margins takes no pulse; the others take theirs. -/
theorem rises_programIfDue {s : State} {z w : Nat} (value : U32) (senses : List (U32 × U32)) (zone : z < 8) (word : w < 128)
    (free : z = 4 ∨ s.fuse.finalised.getD z false = false) : s.fuse.rises (programIfDue z w value senses s).1.fuse := by
  unfold programIfDue
  split
  · exact rises_refl _
  · rw [programWord_fuse]
    exact rises_written value senses zone word free

theorem programIfDue_finalised (z w : Nat) (value : U32) (senses : List (U32 × U32)) (s : State) :
    (programIfDue z w value senses s).1.fuse.finalised = s.fuse.finalised := by
  unfold programIfDue
  split
  · rfl
  · rw [programWord_fuse, written_finalised]

theorem rises_endFuse (ok : Bool) (s : State) : s.fuse.rises (endFuse ok s).fuse := rises_of_array rfl rfl

theorem endFuse_rests (ok : Bool) (s : State) : (endFuse ok s).fuse.busy = false ∧ (endFuse ok s).fuse.waiting = none := ⟨rfl, rfl⟩

/-- The FINALISED bit of a zone is set, and no word changes (R379). -/
theorem rises_markFinal (z : Nat) (s : State) : s.fuse.rises (markFinal z s).fuse := by
  have fuse : (markFinal z s).fuse =
      { s.fuse with finalised := s.fuse.finalised.set z true, digestOk := s.fuse.digestOk.set z true } := by simp [markFinal]
  rw [fuse]
  refine ⟨⟨fun _ _ => bitsIn_refl _, fun z' _ final => ⟨?_, fun _ => rfl⟩⟩, fun h => ⟨(List.length_set ..).trans h.zones, h.places⟩⟩
  simp only [List.getD_eq_getElem?_getD, List.getElem?_set] at final ⊢
  split
  · next same =>
    subst same
    split
    · rfl
    · next outside => simp [List.getElem?_eq_none (Nat.le_of_not_lt outside)] at final
  · exact final

end Sys2Proof.Machine

/-! PROOFS. What every step keeps: the queue but for the command that it takes, the shape of the stores, and the fuses; and the statements on each
step (R151, R372, R379, R380, log entry 1). -/

namespace Sys2Proof.Machine

/-! ## Operations on the array -/

/-- An operation on the fuse array: the queue and the profiles are as they were, and no fuse goes back. -/
structure Raises (s t : State) : Prop where
  queue : t.pending = s.pending
  profiles : t.profiles = s.profiles
  array : s.fuse.rises t.fuse

theorem raises_trans {s t u : State} (h : Raises s t) (k : Raises t u) : Raises s u :=
  ⟨k.queue.trans h.queue, k.profiles.trans h.profiles, rises_trans h.array k.array⟩

theorem stores_fields {s t : State} (h : t.stores = s.stores) : t.pending = s.pending ∧ t.profiles = s.profiles ∧ t.fuse = s.fuse := by
  simpa only [State.stores, Prod.mk.injEq] using h

theorem raises_of_stores {s t : State} (h : t.stores = s.stores) : Raises s t := by
  obtain ⟨queue, profiles, fuse⟩ := stores_fields h
  exact ⟨queue, profiles, by rw [fuse]; exact rises_refl _⟩

theorem raises_programWord {s : State} {z w : Nat} (value : U32) (senses : List (U32 × U32)) (zone : z < 8) (word : w < 128)
    (free : z = 4 ∨ s.fuse.finalised.getD z false = false) : Raises s (programWord z w value senses s).1 :=
  ⟨by simp [programWord], by simp [programWord], by rw [programWord_fuse]; exact rises_written value senses zone word free⟩

theorem raises_programIfDue {s : State} {z w : Nat} (value : U32) (senses : List (U32 × U32)) (zone : z < 8) (word : w < 128)
    (free : z = 4 ∨ s.fuse.finalised.getD z false = false) : Raises s (programIfDue z w value senses s).1 := by
  unfold programIfDue
  split
  · exact raises_of_stores rfl
  · exact raises_programWord value senses zone word free

theorem raises_markFinal (z : Nat) (s : State) : Raises s (markFinal z s) := ⟨by simp [markFinal], by simp [markFinal], rises_markFinal z s⟩

/-- The array is at rest after an operation: it is not busy, and nothing waits. -/
structure Rests (s t : State) : Prop where
  raises : Raises s t
  busy : t.fuse.busy = false
  waiting : t.fuse.waiting = none

theorem rests_endFuse {s t : State} (h : Raises s t) (ok : Bool) : Rests s (endFuse ok t) :=
  ⟨raises_trans h ⟨rfl, rfl, rises_endFuse ok t⟩, rfl, rfl⟩

theorem rests_of_stores {s t u : State} (h : Rests s t) (k : u.stores = t.stores) : Rests s u := by
  obtain ⟨-, -, fuse⟩ := stores_fields k
  exact ⟨raises_trans h.raises (raises_of_stores k), by rw [fuse]; exact h.busy, by rw [fuse]; exact h.waiting⟩

theorem rests_finished {s t : State} (h : Raises s t) (ok : Bool) (id : Option ReqId) (st : Status) (payload : List Byte) :
    Rests s (finishOpt id st 0 payload (endFuse ok t)) := rests_of_stores (rests_endFuse h ok) (by simp)

/-- An operation that the array can take runs to its end (R377, R379). -/
theorem rests_runFuse {j : FuseJob} {s : State} (fits : j.fits s.fuse) : Rests s (runFuse j s) := by
  unfold runFuse
  unfold FuseJob.fits at fits
  cases work : j.work with
  | word z w value =>
    rw [work] at fits
    obtain ⟨zone, word, free⟩ := fits
    exact rests_finished (raises_programWord value j.senses zone word (.inr free)) _ _ _ _
  | digest z lo hi =>
    rw [work] at fits
    obtain ⟨zone, -, free⟩ := fits
    have low := raises_programIfDue lo j.senses zone (by decide : 126 < 128) (.inr free)
    have lowFree := (programIfDue_finalised z 126 lo j.senses s).symm ▸ free
    have high := raises_trans low (raises_programIfDue hi (programIfDue z 126 lo j.senses s).2.rest zone (by decide : 127 < 128) (.inr lowFree))
    dsimp only
    split
    · exact rests_finished low _ _ _ _
    · split
      · exact rests_finished high _ _ _ _
      · exact rests_finished (raises_trans high (raises_markFinal z _)) _ _ _ _

/-! ## What a step keeps -/

/-- What every step keeps: the queue, the shape of a sound state, and the fuses. -/
structure Keeps (s t : State) : Prop where
  queue : t.pending = s.pending
  sound : s.Sound → t.Sound
  fuses : s.Sound → s.fuse.keeps t.fuse

theorem sound_shaped {s : State} (h : s.Sound) : s.fuse.Shaped := ⟨h.zones, h.places⟩

theorem keeps_chain {s t u : State} (h : Keeps s t) (k : Keeps t u) : Keeps s u :=
  ⟨k.queue.trans h.queue, fun sound => k.sound (h.sound sound), fun sound => keeps_trans (h.fuses sound) (k.fuses (h.sound sound))⟩

theorem keeps_of_stores {s t : State} (h : t.stores = s.stores) : Keeps s t := by
  obtain ⟨queue, profiles, fuse⟩ := stores_fields h
  refine ⟨queue, fun sound => ?_, fun _ => by rw [fuse]; exact (rises_refl _).keeps⟩
  exact ⟨by rw [profiles]; exact sound.profiles, by rw [profiles]; exact sound.factory, by rw [fuse]; exact sound.zones,
    by rw [fuse]; exact sound.places, by rw [fuse]; exact sound.busy, by rw [fuse]; exact sound.waiting⟩

theorem keeps_of_rests {s t : State} (h : Rests s t) : Keeps s t where
  queue := h.raises.queue
  sound sound := by
    obtain ⟨⟨-, profiles, array⟩, busy, waiting⟩ := h
    obtain ⟨zones, places⟩ := array.shape (sound_shaped sound)
    exact ⟨by rw [profiles]; exact sound.profiles, by rw [profiles]; exact sound.factory, zones, places, by rw [busy, waiting]; rfl,
      fun j waits => by rw [waiting] at waits; cases waits⟩
  fuses _ := h.raises.array.keeps

theorem keeps_ite {c : Prop} [Decidable c] {s a b : State} (h : Keeps s a) (k : Keeps s b) : Keeps s (if c then a else b) := by
  split
  · exact h
  · exact k

theorem keeps_refl (s : State) : Keeps s s := keeps_of_stores rfl

theorem keeps_each {α : Type} {f : α → State → State} (h : ∀ a s, Keeps s (f a s)) (l : List α) (s : State) : Keeps s (each l f s) := by
  induction l generalizing s with
  | nil => exact keeps_refl s
  | cons a l ih => exact keeps_chain (h a s) (ih (f a s))

theorem keeps_after {s t u : State} (h : t.stores = s.stores) (k : Keeps t u) : Keeps s u := keeps_chain (keeps_of_stores h) k

theorem keeps_then {s t u : State} (h : Keeps s t) (k : u.stores = t.stores) : Keeps s u := keeps_chain h (keeps_of_stores k)

theorem rests_after {s t u : State} (h : Raises s t) (k : Rests t u) : Rests s u := ⟨raises_trans h k.raises, k.busy, k.waiting⟩

theorem fits_congr {f g : FuseUnit} (h : g.finalised = f.finalised) (j : FuseJob) : j.fits g ↔ j.fits f := by
  unfold FuseJob.fits
  rw [h]

/-- What leaves the words, the finalised zones and the operation that waits keeps all. -/
theorem keeps_of_array {s t : State} (queue : t.pending = s.pending) (profiles : t.profiles = s.profiles) (words : t.fuse.words = s.fuse.words)
    (finalised : t.fuse.finalised = s.fuse.finalised) (busy : t.fuse.busy = s.fuse.busy) (waiting : t.fuse.waiting = s.fuse.waiting) : Keeps s t where
  queue := queue
  sound sound :=
    ⟨by rw [profiles]; exact sound.profiles, by rw [profiles]; exact sound.factory, by rw [finalised]; exact sound.zones,
      by rw [words]; exact sound.places, by rw [busy, waiting]; exact sound.busy,
      fun j waits => (fits_congr finalised j).mpr (sound.waiting j (waiting ▸ waits))⟩
  fuses _ := (rises_of_array words finalised).keeps

/-! ## Fuse operations (R373 to R380) -/

/-- An operation that the array can take starts: in a ride-through it waits, and else it runs (R378). -/
theorem keeps_startFuse {j : FuseJob} {s : State} (fits : j.fits s.fuse) : Keeps s (startFuse j s) := by
  unfold startFuse
  refine keeps_ite ?_ ?_
  · refine ⟨rfl, fun sound => ?_, fun _ => (rises_of_array rfl rfl).keeps⟩
    exact ⟨sound.profiles, sound.factory, sound.zones, sound.places, rfl, fun k waits => by obtain rfl := Option.some.inj waits; exact fits⟩
  · exact keeps_of_rests (rests_after (t := { s.setDomains [78] true with fuse := { s.fuse with busy := true, pd78 := true } })
      ⟨rfl, rfl, rises_of_array rfl rfl⟩ (rests_runFuse fits))

theorem runFuse_pending (j : FuseJob) (s : State) : (runFuse j s).pending = s.pending := by
  have program (z w : Nat) (v : U32) (l : List (U32 × U32)) (u : State) : (programWord z w v l u).1.pending = u.pending := by simp [programWord]
  have due (z w : Nat) (v : U32) (l : List (U32 × U32)) (u : State) : (programIfDue z w v l u).1.pending = u.pending := by
    unfold programIfDue
    split <;> simp [program]
  have ends (ok : Bool) (u : State) : (endFuse ok u).pending = u.pending := rfl
  have final (z : Nat) (u : State) : (markFinal z u).pending = u.pending := by simp [markFinal]
  unfold runFuse
  split
  · simp [program, ends]
  · dsimp only
    (repeat' split) <;> simp [due, ends, final]

/-- What waited runs at the end of the ride-through. -/
theorem keeps_resumeFuse (s : State) : Keeps s (resumeFuse s) := by
  unfold resumeFuse
  split
  · exact keeps_refl s
  · next j waits =>
    have runs (sound : s.Sound) : Keeps s (runFuse j s) := keeps_of_rests (rests_runFuse (sound.waiting j waits))
    exact ⟨runFuse_pending j s, fun sound => (runs sound).sound sound, fun sound => (runs sound).fuses sound⟩

theorem keeps_endFuse (ok : Bool) {s t : State} (h : Raises s t) : Keeps s (endFuse ok t) := keeps_of_rests (rests_endFuse h ok)

theorem keeps_abandonFuse (s : State) : Keeps s (abandonFuse s) := by
  unfold abandonFuse
  split
  · exact keeps_refl s
  · exact keeps_of_rests (rests_finished (raises_of_stores rfl) _ _ _ _)

theorem keeps_senseWords (weak : List ((Nat × Nat) × U32)) (s : State) : Keeps s (senseWords weak s) := by
  refine keeps_chain ?_ (keeps_of_stores (stores_each (fun _ _ => stores_logEvent _ _ _ _) _ _))
  exact keeps_of_array rfl rfl rfl rfl rfl rfl

theorem keeps_senseAtReset (weak : List ((Nat × Nat) × U32)) (s : State) : Keeps s (senseAtReset weak s) := by
  have judged (t : State) : Keeps t (judgeZones t) := by
    refine keeps_chain ?_ (keeps_of_stores (stores_each (fun _ _ => stores_noteZone _ _ _) _ _))
    exact keeps_of_array rfl rfl rfl rfl rfl rfl
  exact keeps_chain (keeps_chain (keeps_senseWords weak s) (judged _)) (keeps_of_array rfl rfl rfl rfl rfl rfl)

theorem keeps_sense {weak : List ((Nat × Nat) × U32)} {s t : State} (h : exec (.sense weak) s = .next t) : Keeps s t := by
  cases h
  exact keeps_ite (keeps_refl s) (keeps_chain (keeps_senseWords weak s) (keeps_of_array rfl rfl rfl rfl rfl rfl))

/-- A command keeps what its effect keeps where its checks pass. -/
theorem keeps_command {o : Opcode} {r : Req} {k : State → Checks} {act : ReqId → State → State}
    (h : ∀ id s, (k s).failing s.mbox = none → Keeps s (act id s)) (s : State) : Keeps s (command o r k act s) := by
  have fetched : (if (s.mbox.get r.chan).waits o r.tag then s else fetchSound o r s).stores = s.stores := by split <;> simp
  refine keeps_after fetched ?_
  unfold command
  dsimp only
  generalize (if (s.mbox.get r.chan).waits o r.tag then s else fetchSound o r s) = u
  refine keeps_ite (keeps_ite (keeps_of_stores (by simp)) (keeps_ite (keeps_of_stores (by simp)) ?_)) (keeps_refl u)
  split
  · exact keeps_of_stores (by simp)
  · next passed => exact keeps_after (by simp) (h _ _ passed)

theorem param_of_passed {r : Req} {n : Nat} {p m : Bool} {cl : List Resource} {b : Mailbox} (h : (fixed r n p m cl).failing b = none) : p = true := by
  cases p with
  | true => rfl
  | false => by_cases len : r.len = n <;> simp [Checks.failing, fixed, sound, len] at h

theorem keeps_fuseProgramAct {z w : Nat} (zone : z < 8) (word : w < 128) (value : U32) (senses : List (U32 × U32)) (id : ReqId) (s : State) :
    Keeps s (fuseProgramAct z w value senses id s) := by
  unfold fuseProgramAct
  refine keeps_ite (keeps_of_stores (by simp)) ?_
  split
  · exact keeps_of_stores (by simp)
  · next passes =>
    refine keeps_ite (keeps_of_stores (by simp)) (keeps_after (stores_accept id [.fuses] 0 s) (keeps_startFuse ⟨zone, word, ?_⟩))
    show ((accept id [.fuses] 0 s).fuse).finalised.getD z false = false
    rw [onlyIn_accept id [.fuses] 0 s .fuse (by decide)]
    cases final : s.fuse.finalised.getD z false with
    | false => rfl
    | true =>
      rw [programRefusal, if_pos final] at passes
      cases passes
theorem keeps_keeperProgram (senses : List (U32 × U32)) (s : State) : Keeps s (keeperProgram senses s) := by
  unfold keeperProgram
  dsimp only
  split
  · exact keeps_refl s
  · split
    · exact keeps_of_stores (by simp)
    · next free =>
      refine keeps_ite (keeps_endFuse _ ⟨rfl, rfl, rises_of_array rfl rfl⟩)
        (keeps_ite (keeps_endFuse _ ⟨rfl, rfl, rises_of_array rfl rfl⟩) (keeps_startFuse ?_))
      exact ⟨Nat.mod_lt _ (by decide), Nat.mod_lt _ (by decide), Bool.eq_false_iff.mpr free⟩

theorem finalJob_fits {req : Option ReqId} {z : Nat} {senses : List (U32 × U32)} {f g : FuseUnit} (zone : z < 8) (other : z ≠ 4)
    (free : g.finalised.getD z false = false) : (finalJob req z senses f).fits g := ⟨zone, other, free⟩

theorem keeps_fuseFinalizeAct {z : Nat} (zone : z < 8) (declared : List U32) (fresh : List (Nat × U32)) (senses : List (U32 × U32)) (id : ReqId)
    (s : State) : Keeps s (fuseFinalizeAct z declared fresh senses id s) := by
  unfold fuseFinalizeAct
  refine keeps_ite (keeps_of_stores (by simp)) ?_
  split
  · exact keeps_of_stores (by simp)
  · next named =>
    obtain ⟨other, -⟩ := not_or.mp named
    split
    · exact keeps_of_stores (by simp)
    · next free =>
      refine keeps_ite (keeps_of_stores (by simp)) ?_
      split
      · exact keeps_of_stores (by simp)
      · refine keeps_after (stores_accept id [.fuses] 0 s) (keeps_startFuse (finalJob_fits zone other ?_))
        rw [onlyIn_accept _ _ _ _ .fuse (by decide)]
        exact Bool.eq_false_iff.mpr free

theorem keeps_keeperFinalize (fresh : List (Nat × U32)) (senses : List (U32 × U32)) (s : State) : Keeps s (keeperFinalize fresh senses s) := by
  unfold keeperFinalize
  dsimp only
  refine keeps_ite (keeps_refl s) ?_
  split
  · exact keeps_endFuse _ (raises_of_stores rfl)
  · next named =>
    obtain ⟨other, named⟩ := not_or.mp named
    obtain ⟨-, named⟩ := not_or.mp named
    obtain ⟨-, free⟩ := not_or.mp named
    split
    · exact keeps_endFuse _ (raises_of_stores (by simp))
    · exact keeps_startFuse (finalJob_fits (Nat.mod_lt _ (by decide)) other (Bool.eq_false_iff.mpr free))

/-! ## The thermometer (R383, R385) -/

theorem raises_raiseThermo {n : Nat} {ws : List Nat} (inside : ∀ w ∈ ws, w < 128) (senses : List (U32 × U32)) (s : State) :
    Raises s (raiseThermo n ws senses s).1 := by
  induction ws generalizing senses s with
  | nil => exact raises_of_stores rfl
  | cons w ws ih =>
    have rest : ∀ x ∈ ws, x < 128 := fun x later => inside x (List.mem_cons_of_mem w later)
    have programs (v : U32) := raises_programWord (s := s) (z := 4) v senses (by decide) (inside w List.mem_cons_self) (.inl rfl)
    unfold raiseThermo
    dsimp only
    split
    · split
      · exact raises_trans (programs _) (ih rest _ _)
      · exact programs _
    · exact ih rest senses s

theorem keeps_advanceThermo (senses : List (U32 × U32)) (s : State) : Keeps s (advanceThermo senses s) := by
  have raised := raises_raiseThermo (n := s.fwSvn) (ws := List.range 126) (fun w h => Nat.lt_trans (List.mem_range.mp h) (by decide)) senses s
  unfold advanceThermo
  refine keeps_ite (keeps_ite ?_ ?_) (keeps_refl s)
  · exact keeps_then (keeps_endFuse _ raised) (stores_logEvent _ _ _ _)
  · exact keeps_endFuse _ raised

/-! ## Profiles (R151, R156) -/

/-- A profile other than the factory's takes another value. -/
theorem keeps_setProfile {s t : State} {n : Nat} {p : ProfileSlot} (other : n ≠ 0) (queue : t.pending = s.pending)
    (profiles : t.profiles = s.profiles.set n p) (fuse : t.fuse = s.fuse) : Keeps s t where
  queue := queue
  sound sound := by
    refine ⟨?_, ?_, by rw [fuse]; exact sound.zones, by rw [fuse]; exact sound.places, by rw [fuse]; exact sound.busy,
      by rw [fuse]; exact sound.waiting⟩
    · rw [profiles, List.length_set]
      exact sound.profiles
    · rw [profiles, List.getElem?_set_ne other]
      exact sound.factory
  fuses _ := by rw [fuse]; exact (rises_refl _).keeps

theorem keeps_profileStoreAct (n : Nat) (l : List Setting) (id : ReqId) (s : State) : Keeps s (profileStoreAct n l id s) := by
  unfold profileStoreAct
  split
  · exact keeps_of_stores (by simp)
  · next other =>
    exact keeps_then (keeps_setProfile other (by simp) rfl (by simp)) (stores_finish _ _ _ _ _)

/-! ## Starts and resets (R379, R384, R387, R467) -/

theorem factory_set {l : List ProfileSlot} {i : Nat} {x y : ProfileSlot} (at_i : l[i]? = some x)
    (same : (y.first.body, y.second.body) = (x.first.body, x.second.body)) :
    ((l.set i y)[0]?).map (fun p => (p.first.body, p.second.body)) = (l[0]?).map fun p => (p.first.body, p.second.body) := by
  rw [List.getElem?_set]
  split
  · next first =>
    subst first
    split
    · simp only [at_i, Option.map_some, same]
    · next beyond => rw [List.getElem?_eq_none (Nat.le_of_not_lt beyond)]
  · rfl

/-- Upsets of the profile region leave what the copies hold. -/
theorem upsetProfiles_factory (u : Upsets) (l : List ProfileSlot) :
    (upsetProfiles u l).length = l.length ∧
    ((upsetProfiles u l)[0]?).map (fun p => (p.first.body, p.second.body)) = (l[0]?).map fun p => (p.first.body, p.second.body) := by
  unfold upsetProfiles
  induction u.profiles generalizing l with
  | nil => exact ⟨rfl, rfl⟩
  | cons p rest ih =>
    rw [List.foldl_cons]
    obtain ⟨length, factory⟩ := ih (match l[p.1]? with
      | none => l
      | some x => l.set p.1 (if p.2.1 then { x with second := { x.second with upset := x.second.upset ^^^ p.2.2 } }
        else { x with first := { x.first with upset := x.first.upset ^^^ p.2.2 } }))
    refine ⟨length.trans ?_, factory.trans ?_⟩
    · split
      · rfl
      · exact List.length_set ..
    · split
      · rfl
      · next x found => exact factory_set found (by split <;> rfl)

theorem keeps_applyUpsets (u : Upsets) (s : State) : Keeps s (applyUpsets u s) where
  queue := rfl
  sound sound := by
    obtain ⟨length, factory⟩ := upsetProfiles_factory u s.profiles
    exact ⟨length.trans sound.profiles, factory.trans sound.factory, sound.zones, sound.places, sound.busy, sound.waiting⟩
  fuses _ := (rises_refl _).keeps

theorem keeps_coldState (s : State) : Keeps s (coldState s) := keeps_of_rests ⟨⟨rfl, rfl, rises_of_array rfl rfl⟩, rfl, rfl⟩

theorem keeps_warmState (s : State) : Keeps s (warmState s) := keeps_of_rests ⟨⟨rfl, rfl, rises_of_array rfl rfl⟩, rfl, rfl⟩

theorem keeps_boot (cold : Bool) (weak : List ((Nat × Nat) × U32)) (profile : Nat) (sur : Surroundings) (s : State) :
    Keeps s (boot cold weak profile sur s) := by
  unfold boot
  dsimp only
  refine keeps_then (keeps_chain (keeps_applyUpsets sur.upsets s) (keeps_senseAtReset weak _)) ?_
  split <;> cases cold <;> simp

theorem keeps_enterReset (s : State) : Keeps s (enterReset s) :=
  keeps_then (keeps_after (stores_powerDownTo [] [] s) (keeps_warmState _)) (by simp [enterReset])

theorem keeps_warmBoot (sur : Surroundings) (s : State) : Keeps s (warmBoot sur s) := keeps_after (by simp) (keeps_boot _ _ _ _ _)

theorem keeps_resetCold (c : ColdStart) (s : State) : Keeps s (resetCold c s) :=
  keeps_ite (keeps_chain (keeps_then (keeps_coldState s) (stores_findPower c _)) (keeps_boot _ _ _ _ _)) (keeps_refl s)

theorem keeps_resetWarm (sur : Surroundings) (s : State) : Keeps s (resetWarm sur s) :=
  keeps_ite (keeps_refl s) (keeps_ite (keeps_of_stores (by simp))
    (keeps_after (by simp) (keeps_chain (keeps_enterReset _) (keeps_warmBoot sur _))))

theorem keeps_assertReset (s : State) : Keeps s (assertReset s) := by
  unfold assertReset
  refine keeps_ite (keeps_of_stores (by simp)) (keeps_ite (keeps_of_stores (by simp)) ?_)
  exact keeps_then (t := enterReset { s with pins := { s.pins with modReset := true } }) (keeps_after (by simp) (keeps_enterReset _)) (by simp)

theorem keeps_releaseReset (sur : Surroundings) (s : State) : Keeps s (releaseReset sur s) :=
  keeps_ite (keeps_after (by simp) (keeps_warmBoot sur _)) (keeps_of_stores (by simp))

theorem keeps_selfTestFail (sur : Surroundings) (s : State) : Keeps s (selfTestFail sur s) :=
  keeps_ite (keeps_after (by simp) (keeps_resetWarm sur _)) (keeps_refl s)

theorem keeps_selfTestPass (senses : List (U32 × U32)) (sur : Surroundings) (s : State) : Keeps s (selfTestPass senses sur s) := by
  unfold selfTestPass
  split
  · exact keeps_refl s
  · exact keeps_ite (keeps_then (keeps_after (by simp) (keeps_advanceThermo senses _)) (stores_leaveBoot sur _)) (keeps_refl s)

theorem keeps_finishFatal (sur : Surroundings) (s : State) : Keeps s (finishFatal sur s) := by
  unfold finishFatal
  split
  · exact keeps_refl s
  · next f _ =>
    have enters : Keeps s (enterReset (writeDump f (settleStore s))) := keeps_after (by simp) (keeps_enterReset _)
    have serves : Keeps s (settleFault (enterService sur.drops (endSessions (writeDump f (settleStore s))))) := keeps_of_stores (by simp)
    refine keeps_ite (keeps_of_stores (by simp)) (keeps_ite ?_ (keeps_ite (keeps_chain enters (keeps_warmBoot sur _)) serves))
    exact keeps_then (t := enterReset (writeDump f (settleStore s))) enters (by simp)

/-! ## The retirement and the ride-through (R378, R399, R403) -/

theorem keeps_powerDown (s : State) : Keeps s (powerDown s) := keeps_of_rests ⟨⟨rfl, rfl, rises_of_array rfl rfl⟩, rfl, rfl⟩

theorem keeps_finishRetire (s : State) : Keeps s (finishRetire s) :=
  keeps_ite (keeps_after (by split <;> simp) (keeps_powerDown _)) (keeps_refl s)

theorem keeps_declareRetire (s : State) : Keeps s (declareRetire s) :=
  keeps_chain (keeps_then (keeps_after (by simp) (keeps_abandonFuse _)) (stores_cutDump _)) (keeps_finishRetire _)

theorem keeps_rideExpiry (s : State) : Keeps s (rideExpiry s) := by
  unfold rideExpiry
  split
  · exact keeps_refl s
  · exact keeps_ite (keeps_after (by simp) (keeps_declareRetire _)) (keeps_refl s)

theorem keeps_storeLow (s : State) : Keeps s (storeLow s) := keeps_ite (keeps_after (by simp) (keeps_declareRetire _)) (keeps_refl s)

theorem keeps_endRide (goal : Draw) (s : State) : Keeps s (endRide goal s) := by
  unfold endRide
  split
  · exact keeps_of_stores (by simp)
  · exact keeps_after (by simp) (keeps_resumeFuse _)

theorem keeps_inputCame (ac : Bool) (s : State) : Keeps s (inputCame ac s) :=
  keeps_ite (keeps_refl s) (keeps_ite (keeps_of_stores (by simp)) (keeps_ite (keeps_after (by simp) (keeps_endRide _ _))
    (keeps_ite (keeps_of_stores (by simp)) (keeps_of_stores (by simp)))))

/-- What uses a domain that fails ends; what the array waits with is given up (R404). -/
theorem keeps_domainFails (d : Nat) (s : State) : Keeps s (domainFails d s) := by
  have users : Keeps s (failUsers d s) :=
    keeps_ite (keeps_of_stores (by simp)) (keeps_ite (keeps_of_stores (by simp)) (keeps_ite (keeps_abandonFuse s)
      (keeps_ite (keeps_of_stores (by simp)) (keeps_refl s))))
  unfold domainFails
  refine keeps_ite ?_ (keeps_refl s)
  split
  · exact keeps_ite (keeps_refl s) (keeps_of_stores (by simp))
  · exact keeps_ite (keeps_refl s) (keeps_then users (stores_failDomain _ _))

/-! ## Writes of registers (R261, R297, R376) -/

/-- A write of a fuse register leaves the array. -/
theorem keeps_fuseWrite (m : Master) (off v : Nat) (s : State) : (fuseWrite m off v s).Leads (Keeps s) := by
  unfold fuseWrite
  dsimp only
  split
  · exact leads_keeper m (keeps_refl s)
  · exact leads_keeper m (keeps_of_array rfl rfl rfl rfl rfl rfl)
  · exact leads_keeper m (keeps_of_array rfl rfl rfl rfl rfl rfl)
  · split <;> trivial
  · exact keeps_of_array rfl rfl rfl rfl rfl rfl
  · exact keeps_of_array rfl rfl rfl rfl rfl rfl
  · split
    · exact leads_keeper m (keeps_of_array rfl rfl rfl rfl rfl rfl)
    · trivial

theorem leads_of_spares {w : Written State} {s : State} (h : w.spares s) : w.Leads (Keeps s) := by
  cases w with
  | kept => trivial
  | rejected n => trivial
  | done t => exact keeps_of_stores h

theorem leads_ite {P : State → Prop} {c : Prop} [Decidable c] {v w : Written State} (h : v.Leads P) (k : w.Leads P) :
    (if c then v else w).Leads P := by
  split
  · exact h
  · exact k

/-- A channel's registers hold none of the stores. -/
theorem spares_chanWrite (c : Chan) (off v : Nat) (s : State) :
    (((s.mbox.get c).write off v).map fun x => { s with mbox := s.mbox.set c x }).spares s := leads_map _ (by simp) _

theorem keeps_write0 (m : Master) (base off v : Nat) (s : State) : (write0 m base off v s).Leads (Keeps s) := by
  have block {w : Written State} (h : w.spares s) := leads_of_spares h
  exact leads_ite (block (spares_chanWrite .ch0 off v s)) <|
    leads_ite (block (spares_chanWrite .ch2 off v s)) <|
    leads_ite (block (spares_ringRegWrite off v s)) <|
    leads_ite (block (spares_tableWrite false off v s)) <|
    leads_ite (block (spares_timersWrite m off v s)) <|
    leads_ite (block (spares_busWrite .abus0 off v s)) <|
    leads_ite (block (spares_busWrite .abus1 off v s)) <|
    leads_ite (block (spares_busWrite .hbus off v s)) <|
    leads_ite (block (spares_auxWrite off v s)) <|
    leads_ite (block (spares_clockWrite m off v s)) <|
    leads_ite (block (spares_powerWrite off v s)) <|
    leads_ite (by unfold shadowWrite; (repeat' split) <;> trivial) <|
    leads_ite (keeps_fuseWrite m off v s) <|
    leads_ite (block (spares_calWrite off v s)) <|
    leads_ite (block (spares_logRegWrite off v s)) <|
    leads_ite (block (spares_ledgerRegWrite off v s)) <|
    leads_ite (block (spares_voteWrite off v s)) trivial

theorem keeps_writeWord (m : Master) (pf1 : Bool) (off v : Nat) (s : State) : Keeps s (writeWord m pf1 off v s) := by
  have writes (base w : Nat) : (if pf1 then write1 base w v s else write0 m base w v s).Leads (Keeps s) :=
    leads_ite (leads_of_spares (spares_write1 base w v s)) (keeps_write0 m base w v s)
  unfold writeWord
  split
  · exact keeps_refl s
  · next r _ =>
    refine keeps_ite (keeps_of_stores (stores_rejectWrite _ _ _ _ _)) ?_
    have leads := writes r.base (off - r.base)
    split
    · exact keeps_refl s
    · exact keeps_of_stores (stores_rejectWrite _ _ _ _ _)
    · next done =>
      rw [done] at leads
      exact leads

theorem keeps_bridgeWord (m : Master) (pf1 : Bool) (off v : Nat) (s : State) : Keeps s (bridgeWord m pf1 off v s) := by
  unfold bridgeWord
  refine keeps_ite (keeps_writeWord m pf1 off v s) (keeps_ite (keeps_of_stores (by simp)) ?_)
  split
  · exact keeps_of_stores (by simp)
  · exact keeps_writeWord m pf1 off v s

theorem keeps_writeRun (m : Master) (pf1 : Bool) (off : Nat) (ws : List Nat) (s : State) : Keeps s (writeRun m pf1 off ws s) := by
  induction ws generalizing off s with
  | nil => exact keeps_refl s
  | cons w rest ih => exact keeps_chain (keeps_bridgeWord m pf1 off w s) (ih (off + 4) _)

theorem keeps_bridgeReturn (s : State) : Keeps s (bridgeReturn s) := by
  have runs (a : BridgeAccess) (t : State) : Keeps t (bridgeRun a t) :=
    keeps_ite (keeps_of_stores (stores_bridgeRead _ _ _ _ _)) (keeps_bridgeWord _ _ _ _ _)
  unfold bridgeReturn
  split
  · exact keeps_refl s
  · exact keeps_after (by simp) (keeps_each runs _ _)

theorem keeps_registerWrite (m : Master) (pf1 : Bool) (off : Nat) (a : Access) (data : Nat) (s : State) :
    Keeps s (registerWrite m pf1 off a data s) := by
  have refused (host : Prop) [Decidable host] : Keeps s (if host then unsupported pf1 off s else s) := keeps_of_stores (by simp)
  have run (ws : List Nat) (c : Prop) [Decidable c] (host : Prop) [Decidable host] :
      Keeps s (if c then writeRun m pf1 off ws s else if host then unsupported pf1 off s else s) :=
    keeps_ite (keeps_writeRun m pf1 off ws s) (refused host)
  cases a
  case config => exact keeps_of_stores (by simp [registerWrite])
  case configRead =>
    unfold registerWrite
    refine keeps_ite (keeps_refl s) ?_
    split <;> exact keeps_of_stores (by simp)
  case read => exact keeps_ite (keeps_refl s) (keeps_ite (keeps_of_stores (by simp)) (refused _))
  case together => exact keeps_ite (keeps_refl s) (keeps_ite (keeps_bridgeWord _ _ _ _ _) (refused _))
  all_goals exact keeps_ite (keeps_refl s) (run _ _ _)

/-- What a command with a guard leads to, where it does not fault. -/
theorem next_of_guard {c : Prop} [Decidable c] {s t : State} {f : Fault}
    (h : (if c then .next s else .fault f : Host.Outcome State Fault Refusal) = .next t) :
    s = t := by
  split at h
  · exact Host.Outcome.next.inj h
  · cases h

theorem exec_keeps {c : Instr} {s t : State} (h : exec c s = .next t) : Keeps s t := by
  cases c
  case profileStore r n count items =>
    cases h
    exact keeps_command (fun id u _ => keeps_profileStoreAct n.toNat (items.map (·.value)) id u) s
  case fuseProgram r zone word value senses =>
    cases h
    refine keeps_command (fun id u passed => ?_) s
    have inside := of_decide_eq_true (param_of_passed passed)
    exact keeps_fuseProgramAct (by omega) (by omega) value senses id u
  case fuseFinalize r zone declared fresh senses =>
    cases h
    refine keeps_command (fun id u passed => ?_) s
    have inside := of_decide_eq_true (Bool.and_eq_true_iff.mp (param_of_passed passed)).1
    exact keeps_fuseFinalizeAct (by omega) declared fresh senses id u
  case recordClose => cases h; exact keeps_after (stores_recordClose s) (keeps_finishRetire _)
  case coldReset c => cases h; exact keeps_resetCold c s
  case warmReset sur => cases h; exact keeps_resetWarm sur s
  case modResetAssert => cases h; exact keeps_assertReset s
  case modResetRelease sur => cases h; exact keeps_releaseReset sur s
  case fwSelfTestPass senses sur => cases h; exact keeps_selfTestPass senses sur s
  case fwSelfTestTimeout sur => cases h; exact keeps_selfTestFail sur s
  case powerGoodTimeout d => exact next_of_guard h ▸ keeps_domainFails d s
  case inputPresent ac => cases h; exact keeps_inputCame ac s
  case rideThroughExpiry => cases h; exact keeps_rideExpiry s
  case storeAtVRetire => cases h; exact keeps_storeLow s
  case program senses => cases h; exact keeps_keeperProgram senses s
  case sense weak => exact keeps_sense h
  case finalize fresh senses => cases h; exact keeps_keeperFinalize fresh senses s
  case bridgeClockReturn => cases h; exact keeps_bridgeReturn s
  case registerWrite m fn off a data => cases h; exact keeps_registerWrite _ _ _ _ _ s
  case dumpWriteDone sur => cases h; exact keeps_finishFatal sur s
  case calWordRestore x y => exact next_of_guard h ▸ keeps_of_stores (by simp)
  case selfReset x y well still => exact next_of_guard h ▸ keeps_of_stores (by simp)
  case memoryLinkRetrain device lanes rate done => exact next_of_guard h ▸ keeps_of_stores (by simp)
  case deviceLost device => exact next_of_guard h ▸ keeps_of_stores (by simp)
  case exposureWindowEnd sites =>
    change execExposureWindowEnd sites s = .next t at h
    unfold execExposureWindowEnd at h
    split at h
    · cases h
    · cases h
      exact keeps_of_stores (by simp)
  case viewFrameDelivery => cases h; split <;> exact keeps_of_stores (by simp)
  case descriptorReadTimeout => cases h; split <;> exact keeps_of_stores (by simp)
  case posted => cases h; split <;> exact keeps_of_stores (by simp)
  case completionTimeout => cases h; split <;> exact keeps_of_stores (by simp)
  case triggerSet r g => cases h; exact keeps_of_stores (by simp)
  all_goals (cases h; exact keeps_of_stores (by simp))

theorem keeps_tick (s : State) : Keeps s (tick s) := keeps_of_stores (by simp [tick])

/-- A step takes the front of the queue, and keeps the rest of it, the shape of the stores and the fuses. -/
theorem step_keeps {s t : State} (h : step s = .next t) : Keeps { s with pending := s.pending.tail } t := by
  unfold step at h
  split at h
  · next empty =>
    cases h
    exact keeps_chain (t := s) (keeps_of_array (by simp [empty]) rfl rfl rfl rfl rfl) (keeps_tick s)
  · next c rest front =>
    have runs := exec_keeps h
    rwa [front]

theorem sound_queue {s : State} (l : List Instr) (h : s.Sound) : State.Sound { s with pending := l } :=
  ⟨h.profiles, h.factory, h.zones, h.places, h.busy, h.waiting⟩

/-- Settles O57: each effect keeps the shape of the stores, and what waits for the array stays one that it can take. -/
theorem everyStepKeepsStatesSound : Obligations.EveryStepKeepsStatesSound :=
  fun _ _ sound steps => (step_keeps steps).sound (sound_queue _ sound)

/-- Settles O58: pulses only raise bits, and none go to a finalised zone. -/
theorem noStepUndoesAFuse : Obligations.NoStepUndoesAFuse :=
  fun _ _ sound steps => (step_keeps steps).fuses (sound_queue _ sound)

/-- Settles O59: no effect of a command and no tick touches the queue that remains. -/
theorem theQueueIsFirstInFirstOut : Obligations.TheQueueIsFirstInFirstOut := fun _ _ steps => (step_keeps steps).queue

end Sys2Proof.Machine

/-! PROOFS. The intake of reports (R450), the writer of the log (R451), its counters (R452) and its return with PD71 (R453). -/

namespace Sys2Proof.Machine

/-! ## The intake, case by case (R450) -/

section
variable {l : LogUnit} {r : Report} {now : Nat}

theorem intake_fatal_slot (fatal : severity r.code = some 3) (free : look l.fatalSlots r.source = none) :
    l.intake r now = ({ l with reported := put l.reported (r.source, r.code) now, fatalSlots := l.fatalSlots ++ [(r.source, r)] }, none) := by
  simp only [LogUnit.intake, fatal, if_true, free]

theorem intake_fatal_dropped (fatal : severity r.code = some 3) (taken : (look l.fatalSlots r.source).isSome) :
    l.intake r now = ({ l with reported := put l.reported (r.source, r.code) now }.dropReport r.source, none) := by
  obtain ⟨p, waits⟩ := Option.isSome_iff_exists.mp taken
  simp only [LogUnit.intake, fatal, if_true, waits]

theorem intake_slot_merged {p : Report} (mild : severity r.code ≠ some 3) (waits : look l.slots r.source = some p) (same : p.code = r.code) :
    l.intake r now = ({ l with
      reported := put l.reported (r.source, r.code) now,
      slots := l.slots.map fun q => if q.1 = r.source then (q.1, { q.2 with rep := min 0xFFFF (q.2.rep + 1) }) else q }, none) := by
  simp only [LogUnit.intake, mild, if_false, waits, same, if_true]

theorem intake_entry_merged {q : Nat} (mild : severity r.code ≠ some 3) (other : ∀ p, look l.slots r.source = some p → p.code ≠ r.code)
    (latest : l.mergeable r now = some q) :
    l.intake r now = ({ l with reported := put l.reported (r.source, r.code) now, entries := mergeInto q l.entries }, some q) := by
  cases waits : look l.slots r.source with
  | none => simp only [LogUnit.intake, mild, if_false, waits, latest]
  | some p => simp only [LogUnit.intake, mild, if_false, waits, other p waits, latest]

theorem intake_slot (mild : severity r.code ≠ some 3) (free : look l.slots r.source = none) (fresh : l.mergeable r now = none) :
    l.intake r now = ({ l with reported := put l.reported (r.source, r.code) now, slots := l.slots ++ [(r.source, r)] }, none) := by
  simp only [LogUnit.intake, mild, if_false, free, fresh]

theorem intake_dropped {p : Report} (mild : severity r.code ≠ some 3) (waits : look l.slots r.source = some p) (other : p.code ≠ r.code)
    (fresh : l.mergeable r now = none) :
    l.intake r now = ({ l with reported := put l.reported (r.source, r.code) now }.dropReport r.source, none) := by
  simp only [LogUnit.intake, mild, if_false, waits, other, fresh]

theorem intake_fatalSlots (mild : severity r.code ≠ some 3) : (l.intake r now).1.fatalSlots = l.fatalSlots := by
  simp only [LogUnit.intake, mild, if_false]
  (repeat' split) <;> rfl

theorem holdReport_first (empty : l.buffer = []) : (l.holdReport r now).buffer = [r] := by
  simp [LogUnit.holdReport, empty, Config.heldReports]

theorem holdReport_kept : (l.holdReport r now).entries = l.entries ∧ (l.holdReport r now).slots = l.slots := by
  unfold LogUnit.holdReport
  dsimp only
  (repeat' split) <;> exact ⟨rfl, rfl⟩

end

section
variable {r : Report} {s : State}

theorem takeReport_reserved (reserved : severity r.code = none) : takeReport r s = s := by
  simp [takeReport, reserved]

theorem takeReport_held {v : Nat} (known : severity r.code = some v) (off : s.logOn = false) :
    takeReport r s = { s with log := s.log.holdReport r s.time.now } := by
  simp [takeReport, known, off]

theorem takeReport_log {v : Nat} (known : severity r.code = some v) (on : s.logOn = true) :
    (takeReport r s).log = (s.log.intake r s.time.now).1 := by
  simp only [takeReport, known, Option.isNone_some, Bool.false_eq_true, if_false, on, if_true]
  split <;> (next takes => rw [takes])

theorem takeReport_stale {v q : Nat} {l : LogUnit} (known : severity r.code = some v) (on : s.logOn = true)
    (takes : s.log.intake r s.time.now = (l, some q)) : q ∈ (takeReport r s).mbox.ring.stale := by
  simp only [takeReport, known, Option.isNone_some, Bool.false_eq_true, if_false, on, if_true, takes]
  split
  · assumption
  · exact List.mem_cons_self

end

theorem onlyIn_withLog (l : LogUnit) (s : State) : onlyIn [.log] s { s with log := l } := by
  intro p hp; cases p <;> simp [Part.same] at hp ⊢

/-- Settles O9: one equation of the intake for each case of R450. -/
theorem intakeFollowsTheFourCases : Obligations.IntakeFollowsTheFourCases := by
  unfold Obligations.IntakeFollowsTheFourCases
  intro code source data s r
  refine ⟨fun reserved => congrArg _ (takeReport_reserved reserved), fun v known => ⟨fun off => ?_, fun on => ?_⟩⟩
  · refine completes_of rfl (takeReport_held (r := r) known off) (onlyIn_withLog _ s) ⟨holdReport_kept.1, holdReport_kept.2, holdReport_first⟩
  · have logged : (takeReport r s).log = (s.log.intake r s.time.now).1 := takeReport_log known on
    refine ⟨takeReport r s, rfl, onlyIn_takeReport r s, ?_, ?_, ?_⟩
    · unfold Reports
      rw [takeReport_reported (r := r) (by rw [known]; rfl), look_put, takeReport_time]
    · rintro rfl
      cases free : look s.log.fatalSlots source.toNat with
      | none =>
        rw [logged, intake_fatal_slot known free]
        exact ⟨rfl, rfl, fun _ => ⟨rfl, rfl⟩, nofun⟩
      | some p =>
        rw [logged, intake_fatal_dropped known (by rw [free]; rfl)]
        exact ⟨rfl, rfl, nofun, fun _ => ⟨rfl, rfl⟩⟩
    · intro below
      have mild : severity r.code ≠ some 3 := by rw [known]; exact fun h => Nat.ne_of_lt below (Option.some.inj h)
      rw [logged]
      refine ⟨intake_fatalSlots mild, fun p waits same => ?_, fun q other latest => ?_, fun free fresh => ?_, fun p waits other fresh => ?_⟩
      · rw [intake_slot_merged mild waits same]
        exact ⟨rfl, rfl, rfl⟩
      · have merged := intake_entry_merged mild other latest
        rw [merged]
        exact ⟨rfl, rfl, rfl, takeReport_stale known on merged⟩
      · rw [intake_slot mild free fresh]
        exact ⟨rfl, rfl, rfl⟩
      · rw [intake_dropped mild waits other fresh]
        exact ⟨rfl, rfl, rfl, look_put _ _ _⟩

/-! ## The writer (R451) -/

theorem write_room {l : LogUnit} {r : Report} {v : Nat} (held : Bool) (known : severity r.code = some v) (few : v = 3 → l.fatalHeld < 64)
    (room : l.entries.length < 4096) :
    l.write r held = ({ l with
      entries := l.entries ++ [⟨r, l.head, v, held, false, false⟩],
      head := (l.head + 1) % 2 ^ 32,
      latest := put l.latest r.source l.head }, some ⟨r, l.head, v, held, false, false⟩) := by
  have notFull : ¬(v = 3 ∧ Config.fatalEntries ≤ l.fatalHeld) := fun ⟨fatal, full⟩ => Nat.not_le.mpr (few fatal) full
  simp only [LogUnit.write, known, Option.getD_some, notFull, if_false, Config.logEntries, Nat.not_le.mpr room]

theorem logWrite_log (r : Report) (held : Bool) (s : State) : (logWrite r held s).log = (s.log.write r held).1 := by
  unfold logWrite
  split <;> (next written => simp [written])

/-- What a write into a log with room leaves there. -/
theorem logWrite_room {l : LogUnit} {r : Report} {v : Nat} {s : State} (known : severity r.code = some v) (few : v = 3 → l.fatalHeld < 64)
    (room : l.entries.length < 4096) :
    let t := logWrite r false { s with log := l }
    t.log.entries = l.entries ++ [⟨r, l.head, v, false, false, false⟩] ∧ t.log.head = (l.head + 1) % 2 ^ 32 ∧
    t.log.fatalSlots = l.fatalSlots ∧ t.log.slots = l.slots ∧ t.log.lastServed = l.lastServed := by
  have written : (logWrite r false { s with log := l }).log = (l.write r false).1 := logWrite_log _ _ _
  rw [write_room false known few room] at written
  dsimp only
  rw [written]
  exact ⟨rfl, rfl, rfl, rfl, rfl⟩

theorem serveLog_fatal {src : Nat} {p : Report} {s : State} (waits : nextSource s.log.lastServed s.log.fatalSlots = some (src, p)) :
    serveLog s = logWrite p false { s with log := { s.log with fatalSlots := del s.log.fatalSlots src, lastServed := src } } := by
  simp only [serveLog, waits]

theorem serveLog_mild {src : Nat} {p : Report} {s : State} (calm : s.log.fatalSlots = [])
    (waits : nextSource s.log.lastServed s.log.slots = some (src, p)) :
    serveLog s = logWrite p false { s with log := { s.log with slots := del s.log.slots src, lastServed := src } } := by
  have noFatal : nextSource s.log.lastServed s.log.fatalSlots = none := by rw [calm]; rfl
  simp only [serveLog, noFatal, waits]

/-! ## The return of the log (R453) -/

/-- What a write of the log leaves: nothing is to be restored again, and no report joins those that PD-AO holds. -/
theorem write_kept (l : LogUnit) (r : Report) (held : Bool) :
    (l.write r held).1.restoreDue = l.restoreDue ∧ (l.write r held).1.buffer = l.buffer := by
  unfold LogUnit.write
  dsimp only
  split <;> exact ⟨rfl, rfl⟩

theorem logWrite_kept (r : Report) (held : Bool) (s : State) :
    (logWrite r held s).log.restoreDue = s.log.restoreDue ∧ (logWrite r held s).log.buffer = s.log.buffer := by
  rw [logWrite_log]
  exact write_kept s.log r held

theorem onlyIn_restoreLog (first second : Bool) (s : State) : onlyIn reporting s (restoreLog first second s) := by
  have logs (l : LogUnit) : onlyIn reporting s { s with log := l } := onlyIn_mono (onlyIn_withLog l s) (by decide)
  unfold restoreLog
  refine onlyIn_ite ?_ (onlyIn_refl _ s)
  refine onlyIn_trans ?_ (onlyIn_each _ (fun r t => onlyIn_logWrite r true t) _ _)
  split
  · exact logs _
  · exact onlyIn_ite (onlyIn_trans (logs _) (onlyIn_logWrite _ _ _)) (logs _)

/-- The log as it returns, before the reports that PD-AO held are written into it. -/
def returnedLog (c : Option LogCopy) (s : State) : State :=
  match c with
  | some x => { s with log := { s.log with restoreDue := false, buffer := [] }.withCopy x }
  | none =>
    let t := { s with log := { s.log with restoreDue := false, buffer := [] }.emptied }
    if s.log.saved then logWrite ⟨0x0E07, srcDump, s.time.module, s.frame.lastFrame, 0, 0⟩ false t else t

theorem restoreLog_due {first second : Bool} {s : State} (on : s.pdOn 71 = true) (due : s.log.restoreDue = true) :
    restoreLog first second s = each s.log.buffer (fun r t => logWrite r true t)
      (returnedLog ((if first then s.log.save1 else none).orElse fun _ => if second then s.log.save2 else none) s) := by
  unfold restoreLog
  rw [on, due]
  rfl

theorem returnedLog_kept (c : Option LogCopy) (s : State) :
    (returnedLog c s).log.restoreDue = false ∧ (returnedLog c s).log.buffer = [] := by
  unfold returnedLog
  split
  · exact ⟨rfl, rfl⟩
  · dsimp only
    split
    · exact logWrite_kept _ _ _
    · exact ⟨rfl, rfl⟩

theorem logWrites_kept (l : List Report) (s : State) :
    (each l (fun r t => logWrite r true t) s).log.restoreDue = s.log.restoreDue ∧
    (each l (fun r t => logWrite r true t) s).log.buffer = s.log.buffer := by
  induction l generalizing s with
  | nil => exact ⟨rfl, rfl⟩
  | cons r l ih =>
    obtain ⟨due, buffer⟩ := ih (logWrite r true s)
    obtain ⟨due', buffer'⟩ := logWrite_kept r true s
    exact ⟨due.trans due', buffer.trans buffer'⟩

theorem copy_found {first second : Bool} {a b : Option LogCopy} {c : LogCopy}
    (found : (if first then a else if second then b else none) = some c) :
    ((if first then a else none).orElse fun _ => if second then b else none) = some c := by
  cases first with
  | true => rw [if_pos rfl] at found ⊢; rw [found]; rfl
  | false => exact found

/-- Settles O10: each service of the writer is one write, and what returns is the copy found, or an empty log. -/
theorem writerCountersAndRestore : Obligations.WriterCountersAndRestore := by
  unfold Obligations.WriterCountersAndRestore
  intro r first second s
  refine ⟨fun on src p room => ⟨fun waits known few => ?_, fun v calm waits known below => ?_⟩, fun w empty => ?_, fun on due => ?_⟩
  · have serves : exec .logWriter s = .next (serveLog s) := congrArg _ (if_pos on)
    refine ⟨_, serves, onlyIn_serveLog s, ?_⟩
    obtain ⟨entries, head, fatal, slots, -⟩ := logWrite_room (s := s)
      (l := { s.log with fatalSlots := del s.log.fatalSlots src, lastServed := src }) known (fun _ => few) room
    rw [serveLog_fatal waits]
    exact ⟨entries, head, fatal, slots⟩
  · have serves : exec .logWriter s = .next (serveLog s) := congrArg _ (if_pos on)
    refine ⟨_, serves, onlyIn_serveLog s, ?_⟩
    obtain ⟨entries, head, fatal, slots, last⟩ := logWrite_room (s := s)
      (l := { s.log with slots := del s.log.slots src, lastServed := src }) known (fun fatal => absurd fatal (Nat.ne_of_lt below)) room
    rw [serveLog_mild calm waits]
    exact ⟨entries, head, slots, last, fatal.trans calm⟩
  · refine completes_of (command_exec rfl w (bare_passes empty w.reserved rfl (by simp [w.unclaimed]))) rfl ?_ ⟨?_, ?_⟩
    · exact onlyIn_trans (onlyIn_mono (onlyIn_takeUp r s) (by decide))
        (onlyIn_trans (onlyIn_mono (onlyIn_withLog _ _) (by decide)) (onlyIn_mono (onlyIn_respond _ _ _ _ _ _) (by decide)))
    · simp
    · exact respond_answers w fun _ => rfl
  · refine ⟨_, rfl, onlyIn_restoreLog first second s, ?_⟩
    rw [restoreLog_due on due]
    obtain ⟨noneDue, noneHeld⟩ := returnedLog_kept ((if first then s.log.save1 else none).orElse fun _ => if second then s.log.save2 else none) s
    obtain ⟨due', buffer'⟩ := logWrites_kept s.log.buffer
      (returnedLog ((if first then s.log.save1 else none).orElse fun _ => if second then s.log.save2 else none) s)
    refine ⟨due'.trans noneDue, buffer'.trans noneHeld, fun empty c found => ?_, fun empty noFirst noSecond fresh => ?_⟩
    · rw [empty, copy_found found]
      exact ⟨rfl, rfl, rfl⟩
    · rw [empty, noFirst, noSecond]
      simp only [each, returnedLog, fresh]
      exact ⟨rfl, rfl⟩

end Sys2Proof.Machine

/-! PROOFS. The auxiliary converters: captures and system calibration (R360, R361), passes and the queue (R356 to R358). -/

namespace Sys2Proof.Machine

/-! ## Inputs -/

theorem onlyIn_withAux (a : AuxUnit) (s : State) : onlyIn [.aux] s { s with aux := a } := by
  intro p hp; cases p <;> simp [Part.same] at hp ⊢

@[simp] theorem input_setInput (a : AuxUnit) (n : Nat) (i : AuxInput) : (a.setInput n i).input n = i := by
  unfold AuxUnit.setInput AuxUnit.input
  split <;> rfl

/-- The state after a capture ended and its input took what it gives, before the response. -/
def State.withInput (s : State) (n : Nat) (i : AuxInput) : State := { s with aux := s.aux.setInput n i }

theorem endCapture_of_some {n : Nat} {c : Capture} {st : Status} {payload : List Byte} {f : AuxInput → AuxInput} {s : State}
    (runs : (s.aux.input n).capture = some c) :
    endCapture n st payload f s = finish c.req st 0 payload (s.withInput n (f { s.aux.input n with capture := none })) := by
  simp only [endCapture, runs]
  rfl

/-- Outside DORMANT the converters stay on. -/
theorem auxRest_awake {s : State} (awake : s.mode.mode ≠ .dormant) : auxRest s = s := if_neg fun h => awake h.1

theorem alive_of_get {id : ReqId} {s t : State} (alive : Alive id s) (same : ∀ c, t.mbox.get c = s.mbox.get c) : Alive id t := by
  unfold Alive
  rw [same]
  exact alive

/-! ## The end of a capture (R360) -/

section
variable {n : Nat} {c : Capture} {s : State} (runs : (s.aux.input n).capture = some c) (full : 256 ≤ c.codes.length)
  (awake : s.mode.mode ≠ .dormant)
include runs full awake

theorem captureDone_good (good : c.bad = false) (narrow : spread c.codes ≤ 64) :
    captureDone n s = finish c.req .ok 0 (zeros 4 ++ signed32 ((c.codes.foldl (· + ·) 0 + 8) / 16))
      (s.withInput n (if c.point = 0 then { s.aux.input n with capture := none, zeroSum := some ((c.codes.foldl (· + ·) 0 + 8) / 16) }
        else { s.aux.input n with capture := none, fullSum := some ((c.codes.foldl (· + ·) 0 + 8) / 16, c.fullScale) })) := by
  have sound : (c.bad || decide (64 < spread c.codes)) = false := by simp [good, narrow]
  unfold captureDone
  simp only [runs, Nat.not_lt.mpr full, if_false, sound, Bool.false_eq_true]
  rw [endCapture_of_some runs]
  exact auxRest_awake (by simpa [State.withInput] using awake)

theorem captureDone_bad (bad : c.bad = true ∨ 64 < spread c.codes) :
    captureDone n s = finish c.req .failed 0 (zeros 8)
      ((logEvent 0x0C11 srcAux n s).withInput n { s.aux.input n with capture := none }) := by
  have faulty : (c.bad || decide (64 < spread c.codes)) = true := by simpa using bad
  have runs' : ((logEvent 0x0C11 srcAux n s).aux.input n).capture = some c := by rw [logEvent_aux]; exact runs
  unfold captureDone
  simp only [runs, Nat.not_lt.mpr full, if_false, faulty, if_true]
  rw [endCapture_of_some runs', logEvent_aux]
  exact auxRest_awake (by simpa [State.withInput] using awake)

end

theorem withInput_concludes {id : ReqId} {st : Status} {payload : List Byte} {n : Nat} {i : AuxInput} {s : State} (alive : Alive id s) :
    Concludes id st 0 payload s (finish id st 0 payload (s.withInput n i)) := finish_concludes alive (fun _ => rfl) rfl

@[simp] theorem withInput_input (s : State) (n : Nat) (i : AuxInput) : (s.withInput n i).aux.input n = i := input_setInput _ _ _

/-- Settles O21: a good capture keeps its mean, and another is reported. -/
theorem capturesEndWithTheirMean : Obligations.CapturesEndWithTheirMean := by
  unfold Obligations.CapturesEndWithTheirMean
  intro n c s runs alive full awake v
  refine ⟨fun good narrow => ?_, fun bad => ?_⟩
  · refine completes_of rfl (captureDone_good runs full awake good narrow) ?_ ⟨withInput_concludes alive, ?_, ?_, ?_⟩
    · exact onlyIn_trans (onlyIn_mono (onlyIn_withAux _ s) (by decide)) (onlyIn_mono (onlyIn_finish _ _ _ _ _) (by decide))
    · rw [finish_aux, withInput_input]
      split <;> rfl
    · intro zero
      rw [finish_aux, withInput_input, if_pos zero]
    · intro other
      rw [finish_aux, withInput_input, if_neg other]
  · refine completes_of rfl (captureDone_bad runs full awake bad) ?_ ⟨?_, ?_, ?_, ?_⟩
    · exact onlyIn_trans (onlyIn_mono (onlyIn_logEvent _ _ _ s) (by decide)) (onlyIn_trans (onlyIn_mono (onlyIn_withAux _ _) (by decide))
        (onlyIn_mono (onlyIn_finish _ _ _ _ _) (by decide)))
    · have answered := (withInput_concludes (st := .failed) (payload := zeros 8) (n := n) (i := { s.aux.input n with capture := none })
        (alive_of_get alive (logEvent_mbox_get 0x0C11 srcAux n s))).1
      rwa [logEvent_mbox_get] at answered
    · rw [finish_aux, withInput_input]
    · rw [finish_aux, withInput_input]
    · exact reports_of (reports_logEvent (s := s) (by decide)) (by rw [finish_log]; rfl) (by rw [finish_time]; rfl)

/-! ## The results of a pass (R356, R357) -/

/-- What the results of a pass can change of the converters: the results, the inputs and the queue. -/
def AuxUnit.collects (a b : AuxUnit) : Prop :=
  { b with results := a.results, in0 := a.in0, in1 := a.in1, queue := a.queue, produced := a.produced, lost := a.lost,
           lossLogged := a.lossLogged, threshFired := a.threshFired } = a

theorem collects_refl (a : AuxUnit) : a.collects a := rfl

theorem collects_trans {a b c : AuxUnit} (h : a.collects b) (k : b.collects c) : a.collects c := by
  unfold AuxUnit.collects at *
  rw [← h, ← k]

theorem collects_pass {a b : AuxUnit} (h : a.collects b) : b.pass = a.pass := by
  unfold AuxUnit.collects at h
  rw [← h]

/-- What the cross-check judges by. -/
theorem collects_judged {a b : AuxUnit} (h : a.collects b) : b.limit = a.limit ∧ b.xchkFault = a.xchkFault := by
  unfold AuxUnit.collects at h
  rw [← h]
  exact ⟨rfl, rfl⟩

theorem collects_consumed {a b : AuxUnit} (h : a.collects b) : b.consumed = a.consumed := by
  unfold AuxUnit.collects at h
  rw [← h]

theorem noted_collects (a : AuxUnit) (k channel : Nat) (v : Int) (xchk : Bool) :
    let b := if channel = 1 then { a with in0 := a.in0.note a.pass.toNat k v xchk }
      else if channel = 2 then { a with in1 := a.in1.note a.pass.toNat k v xchk } else a
    a.collects b ∧ b.results = a.results := by
  dsimp only
  split
  · exact ⟨rfl, rfl⟩
  · split <;> exact ⟨rfl, rfl⟩

theorem enqueue_collects (a : AuxUnit) (q : AuxQueued) : a.collects (a.enqueue q).1 ∧ (a.enqueue q).1.results = a.results := by
  unfold AuxUnit.enqueue
  split <;> exact ⟨rfl, rfl⟩

theorem result_collects (a : AuxUnit) (k : Nat) (e : AuxEntry) (v : Int) (xchk : Bool) :
    a.collects (a.result k e v xchk).1 ∧ (a.result k e v xchk).1.results = a.results.set k ⟨v, a.pass.toNat, true, xchk⟩ := by
  obtain ⟨noted, kept⟩ := noted_collects { a with results := a.results.set k ⟨v, a.pass.toNat, true, xchk⟩ } k e.channel v xchk
  have stored : a.collects { a with results := a.results.set k ⟨v, a.pass.toNat, true, xchk⟩ } := rfl
  unfold AuxUnit.result
  dsimp only
  split
  · obtain ⟨queued, same⟩ := enqueue_collects _ _
    exact ⟨collects_trans (collects_trans stored noted) queued, same.trans kept⟩
  · exact ⟨collects_trans stored noted, kept⟩

theorem queueVector_collects (s : State) : s.aux.collects (queueVector s).aux ∧ (queueVector s).aux.results = s.aux.results := by
  unfold queueVector
  dsimp only
  split
  · exact ⟨rfl, rfl⟩
  · split
    · exact ⟨rfl, rfl⟩
    · split
      · exact ⟨by rw [fire0_aux]; rfl, by rw [fire0_aux]⟩
      · exact ⟨rfl, rfl⟩

theorem queueVector_produced (s : State) : (queueVector s).aux.produced = s.aux.produced := by
  unfold queueVector
  dsimp only
  split
  · rfl
  · split
    · rfl
    · split
      · rw [fire0_aux]
      · rfl

theorem takeResult_collects (xchk : Bool) (k : Nat) (e : AuxEntry) (c : Int × Int × Int × Int) (s : State) :
    s.aux.collects (takeResult xchk k e c s).aux ∧
    (takeResult xchk k e c s).aux.results = s.aux.results.set k ⟨auxValue e.channel c, s.aux.pass.toNat, true, xchk⟩ := by
  obtain ⟨stored, results⟩ := result_collects s.aux k e (auxValue e.channel c) xchk
  have reported (due : Bool) (u : State) : (if due then logEvent 0x0C03 srcAux k u else u).aux = u.aux := by
    split
    · exact logEvent_aux _ _ _ _
    · rfl
  obtain ⟨vector, kept⟩ := queueVector_collects (if (s.aux.result k e (auxValue e.channel c) xchk).2 then
    logEvent 0x0C03 srcAux k { s with aux := (s.aux.result k e (auxValue e.channel c) xchk).1 }
    else { s with aux := (s.aux.result k e (auxValue e.channel c) xchk).1 })
  rw [reported] at vector kept
  exact ⟨collects_trans stored vector, kept.trans results⟩

theorem onlyIn_queueVector (s : State) : onlyIn [.aux, .sent, .link] s (queueVector s) := by
  have noted (a : AuxUnit) : onlyIn [.aux, .sent, .link] s { s with aux := a } := onlyIn_mono (onlyIn_withAux a s) (by decide)
  exact onlyIn_ite (noted _) (onlyIn_ite (onlyIn_refl _ s)
    (onlyIn_ite (onlyIn_trans (noted _) (onlyIn_mono (onlyIn_fire false 25 _) (by decide))) (noted _)))

theorem onlyIn_takeResult (xchk : Bool) (k : Nat) (e : AuxEntry) (c : Int × Int × Int × Int) (s : State) :
    onlyIn (.aux :: reporting) s (takeResult xchk k e c s) := by
  have stored : onlyIn (.aux :: reporting) s { s with aux := (s.aux.result k e (auxValue e.channel c) xchk).1 } :=
    onlyIn_mono (onlyIn_withAux _ s) (by decide)
  exact onlyIn_trans (onlyIn_ite (onlyIn_trans stored (onlyIn_mono (onlyIn_logEvent _ _ _ _) (by decide))) stored)
    (onlyIn_mono (onlyIn_queueVector _) (by decide))

/-- One entry of a pass. -/
def passEntry (xchk : Bool) (l : List AuxEntry) (codes : List (Int × Int × Int × Int)) (k : Nat) (t : State) : State :=
  match l[k]?, codes[k]? with
  | some e, some c => takeResult xchk k e c t
  | _, _ => t

theorem passResults_eq (xchk : Bool) (l : List AuxEntry) (codes : List (Int × Int × Int × Int)) (s : State) :
    passResults xchk l codes s = each (auxOrder l) (passEntry xchk l codes) s := rfl

section
variable (xchk : Bool) (l : List AuxEntry) (codes : List (Int × Int × Int × Int))

theorem passEntry_collects (k : Nat) (s : State) :
    s.aux.collects (passEntry xchk l codes k s).aux ∧ (passEntry xchk l codes k s).aux.results.length = s.aux.results.length := by
  unfold passEntry
  split
  · obtain ⟨collected, results⟩ := takeResult_collects xchk k _ _ s
    exact ⟨collected, by rw [results, List.length_set]⟩
  · exact ⟨rfl, rfl⟩

theorem onlyIn_passEntry (k : Nat) (s : State) : onlyIn (.aux :: reporting) s (passEntry xchk l codes k s) := by
  unfold passEntry
  split
  · exact onlyIn_takeResult _ _ _ _ _
  · exact onlyIn_refl _ s

theorem passResults_collects (s : State) : s.aux.collects (passResults xchk l codes s).aux := by
  rw [passResults_eq]
  induction auxOrder l generalizing s with
  | nil => exact collects_refl _
  | cons k rest ih => exact collects_trans (passEntry_collects xchk l codes k s).1 (ih _)

theorem onlyIn_passResults (s : State) : onlyIn (.aux :: reporting) s (passResults xchk l codes s) :=
  onlyIn_each _ (onlyIn_passEntry xchk l codes) _ s

variable {l codes} {j : Nat} {e : AuxEntry} {c : Int × Int × Int × Int} (entry : l[j]? = some e) (code : codes[j]? = some c)
include entry code

theorem passEntry_result (k : Nat) (s : State) (inside : j < s.aux.results.length)
    (done : j = k ∨ s.aux.results[j]? = some ⟨auxValue e.channel c, s.aux.pass.toNat, true, xchk⟩) :
    (passEntry xchk l codes k s).aux.results[j]? = some ⟨auxValue e.channel c, s.aux.pass.toNat, true, xchk⟩ := by
  by_cases here : j = k
  · subst here
    unfold passEntry
    simp only [entry, code, (takeResult_collects xchk j e c s).2]
    exact List.getElem?_set_self inside
  · have before := done.resolve_left here
    unfold passEntry
    split
    · rw [(takeResult_collects xchk k _ _ s).2, List.getElem?_set_ne (Ne.symm here), before]
    · exact before

theorem passEntries_result (ks : List Nat) (s : State) (inside : j < s.aux.results.length)
    (done : j ∈ ks ∨ s.aux.results[j]? = some ⟨auxValue e.channel c, s.aux.pass.toNat, true, xchk⟩) :
    (each ks (passEntry xchk l codes) s).aux.results[j]? = some ⟨auxValue e.channel c, s.aux.pass.toNat, true, xchk⟩ := by
  induction ks generalizing s with
  | nil => exact done.resolve_left (List.not_mem_nil)
  | cons k ks ih =>
    obtain ⟨collected, length⟩ := passEntry_collects xchk l codes k s
    have pass := collects_pass collected
    have here := passEntry_result xchk entry code k s inside
    rw [← pass] at done here ⊢
    refine ih _ (length.symm ▸ inside) ?_
    rcases done with member | before
    · rcases List.mem_cons.mp member with now | later
      · exact .inr (here (.inl now))
      · exact .inl later
    · exact .inr (here (.inr before))

omit code in
/-- Every entry of the list has its conversions in the pass. -/
theorem mem_auxOrder : j ∈ auxOrder l := by
  obtain ⟨inside, -⟩ := List.getElem?_eq_some_iff.mp entry
  have listed : j ∈ entriesOf (decide (e.converter ≠ 0)) l :=
    List.mem_filter.mpr ⟨List.mem_range.mpr inside, by rw [entry]; simp⟩
  obtain ⟨i, below, found⟩ := List.getElem_of_mem listed
  have atMost : (entriesOf (decide (e.converter ≠ 0)) l).length ≤ l.length :=
    (List.length_filter_le ..).trans (List.length_range).le
  refine List.mem_flatMap.mpr ⟨i, List.mem_range.mpr (Nat.lt_of_lt_of_le below atMost), ?_⟩
  have place : (entriesOf (decide (e.converter ≠ 0)) l)[i]? = some j := List.getElem?_eq_some_iff.mpr ⟨below, found⟩
  cases which : decide (e.converter ≠ 0) with
  | false => rw [which] at place; simp [place]
  | true => rw [which] at place; simp [place]

theorem passResults_result (s : State) (inside : j < s.aux.results.length) :
    (passResults xchk l codes s).aux.results[j]? = some ⟨auxValue e.channel c, s.aux.pass.toNat, true, xchk⟩ :=
  passEntries_result xchk entry code (auxOrder l) s inside (.inl (mem_auxOrder entry))

end

/-! ## The end of a pass (R356, R358) -/

theorem crossCheck_aux (codeA codeB : Int) (s : State) :
    (crossCheck codeA codeB s).aux = { s.aux with
      codeA := codeA, codeB := codeB, xchkFault := decide (s.aux.limit < (codeA - codeB).natAbs),
      xchkFaultCnt := if decide (s.aux.limit < (codeA - codeB).natAbs) then bump32 s.aux.xchkFaultCnt 1 else s.aux.xchkFaultCnt } := by
  unfold crossCheck
  dsimp only
  split
  · split <;> simp
  · split <;> simp

theorem onlyIn_crossCheck (codeA codeB : Int) (s : State) : onlyIn (.aux :: reporting) s (crossCheck codeA codeB s) := by
  have noted (a : AuxUnit) : onlyIn (.aux :: reporting) s { s with aux := a } := onlyIn_mono (onlyIn_withAux a s) (by decide)
  have logged (code data : Nat) (a : AuxUnit) : onlyIn (.aux :: reporting) s (logEvent code srcAux data { s with aux := a }) :=
    onlyIn_trans (noted a) (onlyIn_mono (onlyIn_logEvent _ _ _ _) (by decide))
  exact onlyIn_ite (onlyIn_ite (onlyIn_trans (logged _ _ _) (onlyIn_mono (onlyIn_fire false 25 _) (by decide))) (logged _ _ _))
    (onlyIn_ite (logged _ _ _) (noted _))

theorem crossCheck_faults {codeA codeB : Int} {s : State} (bad : s.aux.limit < (codeA - codeB).natAbs) (before : s.aux.xchkFault = false) :
    Reports 0x0C01 srcAux (crossCheck codeA codeB s) := by
  unfold crossCheck
  simp only [bad, before, decide_true, Bool.not_false, Bool.and_true, if_true]
  split
  · exact reports_fire _ _ (reports_logEvent (by decide))
  · exact reports_logEvent (by decide)

theorem crossCheck_recovers {codeA codeB : Int} {s : State} (good : ¬s.aux.limit < (codeA - codeB).natAbs) (before : s.aux.xchkFault = true) :
    Reports 0x0C02 srcAux (crossCheck codeA codeB s) := by
  unfold crossCheck
  simp only [good, before, decide_false, Bool.not_true, Bool.not_false, Bool.and_self, Bool.false_eq_true, if_false, if_true]
  exact reports_logEvent (by decide)

/-- The state at the end of a pass, before a list that waits takes effect. -/
def passDone (codes : List (Int × Int × Int × Int)) (codeA codeB : Int) (s : State) : State :=
  let t := crossCheck codeA codeB (passResults (decide (s.aux.limit < (codeA - codeB).natAbs)) s.aux.list codes s)
  { t with aux := { t.aux with in0 := t.aux.in0.endPass s.time.module, in1 := t.aux.in1.endPass s.time.module, pass := t.aux.pass + 1,
                               passStart := s.time.now } }

/-- The time at which a pass ends. -/
def State.atPassEnd (s : State) : State := reachNow (s.aux.passStart + passTicks s.aux.list) s

theorem auxPass_of_on {codes : List (Int × Int × Int × Int)} {codeA codeB : Int} {s : State} (on : s.pdOn 72 = true) :
    auxPass codes codeA codeB s = match (passDone codes codeA codeB s.atPassEnd).aux.nextList with
      | some l => applyList l (passDone codes codeA codeB s.atPassEnd)
      | none => passDone codes codeA codeB s.atPassEnd := by
  unfold auxPass
  rw [on]
  rfl

section
variable (codes : List (Int × Int × Int × Int)) (codeA codeB : Int) (s : State)

theorem onlyIn_passDone : onlyIn (.aux :: reporting) s (passDone codes codeA codeB s) :=
  onlyIn_trans (onlyIn_trans (onlyIn_passResults _ _ _ s) (onlyIn_crossCheck _ _ _)) (onlyIn_mono (onlyIn_withAux _ _) (by decide))

/-- What a pass leaves, and what its end sets. -/
theorem passDone_aux :
    let t := passDone codes codeA codeB s
    t.aux.pass = s.aux.pass + 1 ∧ t.aux.passStart = s.time.now ∧ t.aux.codeA = codeA ∧ t.aux.codeB = codeB ∧
    t.aux.xchkFault = decide (s.aux.limit < (codeA - codeB).natAbs) ∧ t.aux.list = s.aux.list ∧ t.aux.nextList = s.aux.nextList ∧
    t.aux.xchkFaultCnt = (if decide (s.aux.limit < (codeA - codeB).natAbs) then bump32 s.aux.xchkFaultCnt 1 else s.aux.xchkFaultCnt) ∧
    t.aux.results = (passResults (decide (s.aux.limit < (codeA - codeB).natAbs)) s.aux.list codes s).aux.results := by
  have collected := passResults_collects (decide (s.aux.limit < (codeA - codeB).natAbs)) s.aux.list codes s
  unfold passDone
  dsimp only
  rw [crossCheck_aux]
  unfold AuxUnit.collects at collected
  generalize (passResults (decide (s.aux.limit < (codeA - codeB).natAbs)) s.aux.list codes s).aux = b at *
  refine ⟨?_, rfl, rfl, rfl, ?_, ?_, ?_, ?_, rfl⟩ <;> rw [← collected] <;> rfl

variable {codes codeA codeB s}

theorem passDone_faults (bad : s.aux.limit < (codeA - codeB).natAbs) (before : s.aux.xchkFault = false) :
    Reports 0x0C01 srcAux (passDone codes codeA codeB s) := by
  have collected := passResults_collects (decide (s.aux.limit < (codeA - codeB).natAbs)) s.aux.list codes s
  obtain ⟨limit, fault⟩ := collects_judged collected
  exact reports_of (crossCheck_faults (by rw [limit]; exact bad) (fault.trans before)) rfl rfl

theorem passDone_recovers (good : ¬s.aux.limit < (codeA - codeB).natAbs) (before : s.aux.xchkFault = true) :
    Reports 0x0C02 srcAux (passDone codes codeA codeB s) := by
  have collected := passResults_collects (decide (s.aux.limit < (codeA - codeB).natAbs)) s.aux.list codes s
  obtain ⟨limit, fault⟩ := collects_judged collected
  exact reports_of (crossCheck_recovers (by rw [limit]; exact good) (fault.trans before)) rfl rfl

variable (codes codeA codeB s)

theorem passDone_time : (passDone codes codeA codeB s).time = s.time := onlyIn_passDone codes codeA codeB s .time (by decide)

end

/-! ## A list that waits (R356) -/

/-- No input captures. -/
def AuxUnit.idle (a : AuxUnit) : Prop := a.in0.capture = none ∧ a.in1.capture = none

theorem note_capture {i : AuxInput} {pass entry : Nat} {v : Int} {xchk : Bool} (none : i.capture = none) :
    (i.note pass entry v xchk).capture = Option.none := by
  simp [AuxInput.note, none]

theorem result_idle {a : AuxUnit} (k : Nat) (e : AuxEntry) (v : Int) (xchk : Bool) (idle : a.idle) : (a.result k e v xchk).1.idle := by
  obtain ⟨in0, in1⟩ := idle
  have queued (b : AuxUnit) (q : AuxQueued) (h : b.idle) : (b.enqueue q).1.idle := by
    unfold AuxUnit.enqueue
    split <;> exact h
  have noted : (if e.channel = 1 then { a with
        results := a.results.set k ⟨v, a.pass.toNat, true, xchk⟩, in0 := a.in0.note a.pass.toNat k v xchk }
      else if e.channel = 2 then { a with
        results := a.results.set k ⟨v, a.pass.toNat, true, xchk⟩, in1 := a.in1.note a.pass.toNat k v xchk }
      else { a with results := a.results.set k ⟨v, a.pass.toNat, true, xchk⟩ }).idle := by
    split
    · exact ⟨note_capture in0, in1⟩
    · split
      · exact ⟨in0, note_capture in1⟩
      · exact ⟨in0, in1⟩
  unfold AuxUnit.result
  dsimp only
  split
  · exact queued _ _ noted
  · exact noted

theorem queueVector_idle {s : State} (idle : s.aux.idle) : (queueVector s).aux.idle := by
  unfold queueVector
  dsimp only
  split
  · exact idle
  · split
    · exact idle
    · split
      · rw [fire0_aux]
        exact idle
      · exact idle

theorem takeResult_idle {s : State} (xchk : Bool) (k : Nat) (e : AuxEntry) (c : Int × Int × Int × Int) (idle : s.aux.idle) :
    (takeResult xchk k e c s).aux.idle := by
  have stored := result_idle k e (auxValue e.channel c) xchk idle
  refine queueVector_idle ?_
  split
  · rw [logEvent_aux]
    exact stored
  · exact stored

theorem passEntries_idle (xchk : Bool) (l : List AuxEntry) (codes : List (Int × Int × Int × Int)) (ks : List Nat) {s : State} (idle : s.aux.idle) :
    (each ks (passEntry xchk l codes) s).aux.idle := by
  induction ks generalizing s with
  | nil => exact idle
  | cons k ks ih =>
    have next : (passEntry xchk l codes k s).aux.idle := by
      unfold passEntry
      split
      · exact takeResult_idle xchk k _ _ idle
      · exact idle
    exact ih next

theorem passDone_idle {codes : List (Int × Int × Int × Int)} {codeA codeB : Int} {s : State} (idle : s.aux.idle) :
    (passDone codes codeA codeB s).aux.idle := by
  have ended := passEntries_idle (decide (s.aux.limit < (codeA - codeB).natAbs)) s.aux.list codes (auxOrder s.aux.list) idle
  unfold passDone
  dsimp only
  rw [crossCheck_aux]
  exact ended

/-- Without captures a new list ends none. -/
theorem applyList_idle {l : List AuxEntry} {s : State} (idle : s.aux.idle) : applyList l s = { s with aux := s.aux.setList l } := by
  obtain ⟨in0, in1⟩ := idle
  simp [applyList, AuxUnit.input, in0, in1]

/-! ## QCONSUMED (R357) -/

theorem queueConsume_inside {v : U32} {s : State} (on : s.pdOn 72 = true)
    (inside : (v - s.aux.consumed).toNat ≤ (s.aux.produced - s.aux.consumed).toNat) :
    queueConsume v s = queueVector { s with aux := { s.aux with
      consumed := v, lossLogged := s.aux.lossLogged && decide (v = s.aux.consumed) } } := by
  unfold queueConsume
  rw [on]
  exact if_pos inside

theorem queueConsume_outside {v : U32} {s : State} (on : s.pdOn 72 = true)
    (outside : (s.aux.produced - s.aux.consumed).toNat < (v - s.aux.consumed).toNat) :
    queueConsume v s = logEvent 0x0C04 srcAux v.toNat s := by
  unfold queueConsume
  rw [on]
  exact if_neg (Nat.not_le.mpr outside)

/-- Settles O19: each entry of the list has its result in every pass, and the end of the pass compares the converters. -/
theorem auxPassesStoreResults : Obligations.AuxPassesStoreResults := by
  unfold Obligations.AuxPassesStoreResults
  intro codes codeA codeB v s on bad
  have reached : s.aux.passStart + passTicks s.aux.list ≤ s.atPassEnd.time.now := reachNow_reaches _ s
  have aux : s.atPassEnd.aux = s.aux := reachNow_aux _ s
  have frame : onlyIn (.time :: .aux :: reporting) s (passDone codes codeA codeB s.atPassEnd) :=
    onlyIn_trans (onlyIn_mono (onlyIn_reachNow _ s) (by decide)) (onlyIn_mono (onlyIn_passDone codes codeA codeB _) (by decide))
  have time := passDone_time codes codeA codeB s.atPassEnd
  obtain ⟨pass, passStart, a, b, fault, list, next, count, results⟩ := passDone_aux codes codeA codeB s.atPassEnd
  rw [aux] at pass fault list next count results
  have ends := auxPass_of_on (codes := codes) (codeA := codeA) (codeB := codeB) on
  rw [next] at ends
  refine ⟨fun noNext length => ?_, fun l waits in0 in1 => ?_, fun reaches => ⟨fun inside => ?_, fun outside => ?_⟩⟩
  · rw [noNext] at ends
    refine completes_of rfl ends frame ⟨time ▸ reached, time ▸ passStart, pass, a, b, fault, list, count, fun k e c entry code => ?_,
      fun faulty before => ?_, fun sound before => ?_⟩
    · rw [results, ← aux] at *
      exact passResults_result _ entry code s.atPassEnd (length ▸ (List.getElem?_eq_some_iff.mp entry).1)
    · exact passDone_faults (by rw [aux]; exact of_decide_eq_true faulty) (by rw [aux]; exact before)
    · exact passDone_recovers (by rw [aux]; exact of_decide_eq_false sound) (by rw [aux]; exact before)
  · rw [waits] at ends
    have idle : (passDone codes codeA codeB s.atPassEnd).aux.idle := passDone_idle (by rw [aux]; exact ⟨in0, in1⟩)
    refine completes_of rfl (ends.trans (applyList_idle idle)) (onlyIn_trans frame (onlyIn_mono (onlyIn_withAux _ _) (by decide)))
      ⟨time ▸ reached, time ▸ passStart, rfl, rfl, pass, List.length_map _, fun x member => ?_⟩
    obtain ⟨e, -, rfl⟩ := List.mem_map.mp member
    rfl
  · obtain ⟨collected, -⟩ := queueVector_collects { s with aux := { s.aux with
      consumed := v, lossLogged := s.aux.lossLogged && decide (v = s.aux.consumed) } }
    refine completes_of (congrArg Host.Outcome.next (bridged_reaches reaches)) (queueConsume_inside on inside)
      (onlyIn_trans (onlyIn_mono (onlyIn_withAux _ s) (by decide)) (onlyIn_queueVector _)) ⟨collects_consumed collected, queueVector_produced _⟩
  · refine completes_of (congrArg Host.Outcome.next (bridged_reaches reaches)) (queueConsume_outside on outside)
      (onlyIn_logEvent _ _ _ s) (reports_logEvent (by decide))

/-! ## AUX_SYSCAL (R360, R361) -/

section
variable {n point : Nat} {full : Int} {id : ReqId} {s : State}

theorem auxSyscalAct_unlisted (absent : entryFor s.aux.list n = none) : auxSyscalAct n point full id s = respond id true .badParam 0 [] s := by
  simp only [auxSyscalAct, absent]

theorem sysCalCapture_of_on {e : Nat} (on : s.pdOn 72 = true) :
    sysCalCapture n point full e id s = s.withInput n
      { s.aux.input n with capture := some ⟨id, point, full, e, s.aux.pass.toNat + 1, [], false⟩ } := by
  unfold sysCalCapture auxOn
  rw [on]
  rfl

theorem auxSyscalAct_capture {e : Nat} (listed : entryFor s.aux.list n = some e) (below : point ≤ 1) (suits : point = 1 ↔ full ≠ 0)
    (on : s.pdOn 72 = true) :
    auxSyscalAct n point full id s = (accept id [.auxin n] 0 s).withInput n
      { s.aux.input n with capture := some ⟨id, point, full, e, s.aux.pass.toNat + 1, [], false⟩ } := by
  have fits : ¬((point = 1 ∧ full = 0) ∨ (point ≠ 1 ∧ full ≠ 0)) := by tauto
  have notTwo : point ≠ 2 := by omega
  have on' : (accept id [.auxin n] 0 s).pdOn 72 = true := by simpa [State.pdOn] using on
  unfold auxSyscalAct
  simp only [listed, fits, if_false, notTwo]
  rw [sysCalCapture_of_on on', accept_aux]

theorem auxSyscalAct_compute {e : Nat} {z f fs : Int} (listed : entryFor s.aux.list n = some e) (zero : (s.aux.input n).zeroSum = some z)
    (fullScale : (s.aux.input n).fullSum = some (f, fs)) :
    auxSyscalAct n 2 0 id s = sysCalCompute n z f fs id (accept id [.auxin n] 0 s) := by
  unfold auxSyscalAct
  simp [listed, zero, fullScale]

theorem sysCalCompute_installs {z f fs : Int} {p : Int × Int} (gives : sysCal z f fs = some p) :
    sysCalCompute n z f fs id s = finish id .ok 0 (signed32 p.2 ++ signed32 p.1) (logEvent 0x0C10 srcAux n (s.withInput n
      { s.aux.input n with zeroSum := none, fullSum := none, z := p.1, g := p.2, copy1 := ⟨p.1, p.2, 0⟩, copy2 := ⟨p.1, p.2, 0⟩ })) := by
  simp only [sysCalCompute, gives]
  rfl

theorem sysCalCompute_drops {z f fs : Int} (fails : sysCal z f fs = none) :
    sysCalCompute n z f fs id s = finish id .failed 0 (zeros 8) (logEvent 0x0C11 srcAux n (s.withInput n
      { s.aux.input n with zeroSum := none, fullSum := none })) := by
  simp only [sysCalCompute, fails]
  rfl

end

/-- What a report and the response that follows it leave of an input that was set before. -/
theorem loggedInput {code n d : Nat} {i : AuxInput} {id : ReqId} {st : Status} {b : List Byte} {s : State} (known : (severity code).isSome) :
    let t := finish id st 0 b (logEvent code srcAux d (s.withInput n i))
    t.aux.input n = i ∧ Reports code srcAux t ∧ onlyIn (.aux :: reporting) s t := by
  refine ⟨by simp, reports_of (reports_logEvent (s := s.withInput n i) known) (finish_log ..) (finish_time ..), ?_⟩
  exact onlyIn_trans (onlyIn_mono (onlyIn_withAux _ s) (by decide)) (onlyIn_trans (onlyIn_mono (onlyIn_logEvent _ _ _ _) (by decide))
    (onlyIn_mono (onlyIn_finish _ _ _ _ _) (by decide)))

/-- Settles O20: the request starts a capture, or is computed at once from the two that are held. -/
theorem systemCalibrationCapturesAndInstalls : Obligations.SystemCalibrationCapturesAndInstalls := by
  unfold Obligations.SystemCalibrationCapturesAndInstalls
  intro r input point full s w len which
  have runs (below : point.toNat ≤ 2) : exec (.auxSyscal r input point full) s =
      .next (auxSyscalAct input.toNat point.toNat full.toInt (reqOf .auxSyscal r s) (takeUp r s)) :=
    command_exec rfl w (fixed_passes len w.reserved (by simp [which, below]) rfl w.free)
  have aux : (takeUp r s).aux = s.aux := rfl
  refine ⟨fun e listed on => ⟨fun below suits => ?_, fun z f fs two noFull zero fullScale => ?_⟩, fun absent below => ?_⟩
  · refine completes_of (runs (by omega)) (auxSyscalAct_capture listed below suits on) ?_ ⟨?_, ?_, ?_⟩
    · exact onlyIn_trans (onlyIn_mono (onlyIn_takeUp r s) (by decide)) (onlyIn_trans (onlyIn_mono (onlyIn_accept _ _ _ _) (by decide))
        (onlyIn_mono (onlyIn_withAux _ _) (by decide)))
    · exact accept_answers w fun _ => rfl
    · exact (accept_claims _ _ _ _).trans (by rw [w.free]; rfl)
    · rw [withInput_input]
      rfl
  · have accepted : onlyIn (.time :: .aux :: reporting) s (accept (reqOf .auxSyscal r s) [.auxin input.toNat] 0 (takeUp r s)) :=
      onlyIn_trans (onlyIn_mono (onlyIn_takeUp r s) (by decide)) (onlyIn_mono (onlyIn_accept _ _ _ _) (by decide))
    have computes := runs (by omega)
    rw [two, noFull, auxSyscalAct_compute (s := takeUp r s) listed zero fullScale] at computes
    have same : (accept (reqOf .auxSyscal r s) [.auxin input.toNat] 0 (takeUp r s)).aux = s.aux := accept_aux _ _ _ _
    refine ⟨fun p gives => ?_, fun fails => ?_⟩
    · obtain ⟨stored, reported, frame⟩ := loggedInput (code := 0x0C10) (n := input.toNat) (d := input.toNat)
        (i := { s.aux.input input.toNat with
          zeroSum := none, fullSum := none, z := p.1, g := p.2, copy1 := ⟨p.1, p.2, 0⟩, copy2 := ⟨p.1, p.2, 0⟩ })
        (id := reqOf .auxSyscal r s) (st := .ok) (b := signed32 p.2 ++ signed32 p.1)
        (s := accept (reqOf .auxSyscal r s) [.auxin input.toNat] 0 (takeUp r s)) (by decide)
      rw [sysCalCompute_installs gives, same] at computes
      refine ⟨_, computes, onlyIn_trans accepted (onlyIn_mono frame (by decide)), ?_⟩
      dsimp only
      rw [stored]
      exact ⟨rfl, rfl, rfl, rfl, rfl, reported⟩
    · obtain ⟨stored, reported, frame⟩ := loggedInput (code := 0x0C11) (n := input.toNat) (d := input.toNat)
        (i := { s.aux.input input.toNat with zeroSum := none, fullSum := none })
        (id := reqOf .auxSyscal r s) (st := .failed) (b := zeros 8)
        (s := accept (reqOf .auxSyscal r s) [.auxin input.toNat] 0 (takeUp r s)) (by decide)
      rw [sysCalCompute_drops fails, same] at computes
      refine ⟨_, computes, onlyIn_trans accepted (onlyIn_mono frame (by decide)), ?_⟩
      dsimp only
      rw [stored]
      exact ⟨rfl, rfl, rfl, rfl, reported⟩
  · refine completes_of (runs below) (auxSyscalAct_unlisted absent) ?_ (respond_answers w fun _ => rfl)
    exact onlyIn_trans (onlyIn_takeUp r s) (onlyIn_mono (onlyIn_respond _ _ _ _ _ _) (by decide))

end Sys2Proof.Machine

/-! PROOFS. The commands that set one thing (R146, R171, R191, R213, R258, R278, R344, R356, R473). -/

namespace Sys2Proof.Machine

/-- A command that sets some units, and then answers a request that waited. -/
theorem completes_set {c : Instr} {o : Opcode} {r : Req} {st : Status} {n : Nat} {b : List Byte} {ps : List Part} {s u : State}
    {post : State → Prop} (w : Waiting o r s) (run : exec c s = .next (respond (reqOf o r s) true st n b u))
    (sets : onlyIn ps (takeUp r s) u) (apart : .mbox ∉ ps) (holds : post (respond (reqOf o r s) true st n b u)) :
    Completes c s (.time :: .mbox :: ps) fun t => post t ∧ Answered o r true st n b s t := by
  have mbox : u.mbox = (takeUp r s).mbox := sets .mbox apart
  refine ⟨_, run, ?_, holds, respond_answers w fun c => by rw [mbox]⟩
  refine onlyIn_trans (onlyIn_mono (onlyIn_takeUp r s) ?_) (onlyIn_trans (onlyIn_mono sets ?_) (onlyIn_mono (onlyIn_respond _ _ _ _ _ _) ?_))
  · simp
  · exact fun p h => List.mem_cons_of_mem _ (List.mem_cons_of_mem _ h)
  · simp

theorem onlyIn_withThermal (x : ThermalUnit) (s : State) : onlyIn [.thermal] s { s with thermal := x } := by
  intro p hp; cases p <;> simp [Part.same] at hp ⊢

theorem onlyIn_withBus (x : BusUnit) (s : State) : onlyIn [.bus] s { s with bus := x } := by
  intro p hp; cases p <;> simp [Part.same] at hp ⊢

section
variable {r : Req} {s : State}

/-! ## THERMAL_SET and POWER_POLICY_SET (R191, R278, R473) -/

theorem thermalSet_sets (v : U16) (w : Waiting .thermalSet r s) (len : r.len = 4) :
    Completes (.thermalSet r v) s [.time, .mbox, .thermal] fun t =>
      t.thermal = { s.thermal with applied := max 80 (min 560 v.toInt) } ∧
      Answered .thermalSet r true .ok 0 (leBytes 2 (max 80 (min 560 v.toInt)).toNat ++ zeros 2) s t := by
  have run := command_exec (c := .thermalSet r v) rfl w (fixed_passes len w.reserved rfl rfl w.free)
  exact completes_set w run (onlyIn_withThermal _ _) (by decide) (respond_thermal ..)

theorem powerPolicySet_sets {flags : Byte} (n : U16) (w : Waiting .powerPolicySet r s) (len : r.len = 4) (few : flags.toNat < 4) :
    Completes (.powerPolicySet r flags n) s [.time, .mbox, .power] fun t =>
      t.power = { s.power with permitL2 := flags.getLsbD 0, idleToDormant := flags.getLsbD 1, idleS := n.toNat } ∧
      Answered .powerPolicySet r true .ok 0 [] s t := by
  have run := command_exec (c := .powerPolicySet r flags n) rfl w (fixed_passes len w.reserved (decide_eq_true few) rfl w.free)
  exact completes_set w run (onlyIn_withPower _ _) (by decide) (respond_power ..)

/-! ## RESERVOIR_INFO and PREROLL_SET (R146, R171) -/

/-- The module with what RESERVOIR_INFO makes of the aperture. -/
def State.withAperture (s : State) (gib : Nat) : State := if gib = 0xFFFFFFFF then s else { s with res := { s.res with aperture := gib } }

theorem onlyIn_withAperture (gib : Nat) (s : State) : onlyIn [.res] s (s.withAperture gib) := onlyIn_ite (onlyIn_refl _ s) (onlyIn_withRes _ s)

theorem reservoirBytes_congr {s t : State} (h : t.res = s.res) : reservoirBytes t = reservoirBytes s := by
  unfold reservoirBytes
  rw [h]

theorem reservoirInfo_sets (gib : U32) (w : Waiting .reservoirInfo r s) (len : r.len = 8) :
    Completes (.reservoirInfo r gib) s [.time, .mbox, .res] fun t =>
      t.res = (if gib = 0xFFFFFFFF then s.res else { s.res with aperture := gib.toNat }) ∧
      Answered .reservoirInfo r true .ok 0 (reservoirBytes t) s t := by
  have aperture : ((takeUp r s).withAperture gib.toNat).res = if gib = 0xFFFFFFFF then s.res else { s.res with aperture := gib.toNat } := by
    have same : gib.toNat = 0xFFFFFFFF ↔ gib = 0xFFFFFFFF := by rw [← BitVec.toNat_inj]; rfl
    unfold State.withAperture
    simp only [same]
    split <;> rfl
  obtain ⟨t, run, frame, res, answered⟩ := completes_set (post := fun t => t.res = ((takeUp r s).withAperture gib.toNat).res) w
    (command_exec (c := .reservoirInfo r gib) (act := reservoirInfoAct gib.toNat) rfl w (fixed_passes len w.reserved rfl rfl w.free))
    (onlyIn_withAperture _ _) (by decide) (respond_res ..)
  exact ⟨t, run, frame, res.trans aperture, by rw [reservoirBytes_congr res]; exact answered⟩

theorem setPreroll_res (ms : Nat) (s : State) :
    (setPreroll ms s).res.prerollMs = ms ∧ (setPreroll ms s).res.prerollApplied = prerollFor ms s := by
  unfold setPreroll
  dsimp only
  split <;> exact ⟨rfl, rfl⟩

section
variable {ms : U32} (w : Waiting .prerollSet r s) (len : r.len = 8) (few : ms.toNat ≤ 30000) (mode : s.mode.mode = .ready ∨ s.mode.mode = .view)
include w len few mode

theorem exec_prerollSet : exec (.prerollSet r ms) s = .next (prerollAct ms.toNat (reqOf .prerollSet r s) (takeUp r s)) :=
  command_exec rfl w (fixed_passes len w.reserved (decide_eq_true few) (by simpa using mode) w.free)

theorem prerollSet_sets (free : ms = 0 ∨ s.armed = false) : Completes (.prerollSet r ms) s [.time, .mbox, .res] fun t =>
    t.res.prerollMs = ms.toNat ∧ t.res.prerollApplied = (if s.res.present && s.cap 4 then min ms.toNat (prerollCap s) else 0) ∧
    Answered .prerollSet r true .ok 0 (leBytes 4 t.res.prerollApplied ++ zeros 4) s t := by
  have allowed : ¬(ms.toNat ≠ 0 ∧ (takeUp r s).armed = true) := by
    rintro ⟨some, armed⟩
    rcases free with rfl | idle
    · exact some rfl
    · exact absurd (idle.symm.trans armed) (by decide)
  obtain ⟨length, applied⟩ := setPreroll_res ms.toNat (takeUp r s)
  obtain ⟨t, run, frame, res, answered⟩ := completes_set (post := fun t => t.res = (setPreroll ms.toNat (takeUp r s)).res) w
    ((exec_prerollSet w len few mode).trans (congrArg _ (if_neg allowed))) (onlyIn_withRes _ _) (by decide) (respond_res ..)
  rw [← res] at length applied answered
  exact ⟨t, run, frame, length, applied, answered⟩

theorem prerollSet_denied (some : ms ≠ 0) (armed : s.armed = true) : Completes (.prerollSet r ms) s [.time, .mbox] fun t =>
    Answered .prerollSet r true .denied 0 [] s t := by
  have denied : ms.toNat ≠ 0 ∧ (takeUp r s).armed = true := ⟨fun zero => some (BitVec.eq_of_toNat_eq zero), armed⟩
  exact completes_answer w ((exec_prerollSet w len few mode).trans (congrArg _ (if_pos denied)))

end

/-! ## WELT_ALLOWLIST_SET (R213) -/

theorem weltAllowlistSet_sets {count : U16} {l : List (U64 × U64)} (w : Waiting .weltAllowlistSet r s) (len : r.len = 4 + 16 * l.length)
    (few : count.toNat ≤ 16) (listed : l.length = count.toNat) (aligned : ∀ p ∈ l, p.1.toNat % 4096 = 0 ∧ p.2.toNat % 4096 = 0)
    (a : s.take.a.state = .closed) (b : s.take.b.state = .closed) :
    Completes (.weltAllowlistSet r count l) s [.time, .mbox, .take] fun t =>
      t.take = { s.take with allow := l.map fun p => (p.1.toNat, p.2.toNat) } ∧ Answered .weltAllowlistSet r true .ok 0 [] s t := by
  have covered : ((takeUp r s).take.a.staysCovered (l.map fun p => (p.1.toNat, p.2.toNat)) &&
      (takeUp r s).take.b.staysCovered (l.map fun p => (p.1.toNat, p.2.toNat))) = true := by
    simp [Session.staysCovered, a, b]
  have sound : (Sys2Proof.Machine.sound r (decide (count.toNat ≤ 16) && decide (l.length = count.toNat)
      && l.all fun p => decide (p.1.toNat % 4096 = 0 ∧ p.2.toNat % 4096 = 0))) = true := by
    simpa [Sys2Proof.Machine.sound, w.reserved, few, listed] using fun x y member => aligned (x, y) member
  exact completes_set w ((command_exec rfl w (failing_none (decide_eq_true len) sound rfl w.free)).trans (congrArg _ (if_pos covered)))
    (onlyIn_withTake _ _) (by decide) (respond_take ..)

/-! ## ABUS_TARGET_SET (R344) -/

section
variable {amode count base mask : Byte} {addrs : List Byte} (w : Waiting .abusTargetSet r s) (len : r.len = 12) (four : addrs.length = 4)
  (modes : amode.toNat ≤ 2) (few : count.toNat ≤ 4) (low : base.toNat < 128) (short : mask.toNat < 128) (seven : ∀ a ∈ addrs, a.toNat < 128)
include w len four modes few low short seven

theorem exec_abusTargetSet : exec (.abusTargetSet r amode count addrs base mask) s =
    .next (abusTargetAct amode.toNat count.toNat addrs base.toNat mask.toNat (reqOf .abusTargetSet r s) (takeUp r s)) := by
  refine command_exec rfl w (failing_none ?_ ?_ rfl w.free)
  · simp [len, four]
  · simpa [sound, w.reserved, modes, few, low, short] using seven

theorem abusTargetSet_sets (free : tgtReserved (tgtRegs amode.toNat count.toNat addrs base.toNat mask.toNat).1
      (tgtRegs amode.toNat count.toNat addrs base.toNat mask.toNat).2 = false) :
    Completes (.abusTargetSet r amode count addrs base mask) s [.time, .mbox, .bus] fun t =>
      t.bus = { s.bus with abus0 := { s.bus.abus0 with
        tgtAddr := (tgtRegs amode.toNat count.toNat addrs base.toNat mask.toNat).1,
        tgtMode := (tgtRegs amode.toNat count.toNat addrs base.toNat mask.toNat).2 } } ∧
      Answered .abusTargetSet r true .ok 0 [] s t :=
  completes_set w ((exec_abusTargetSet w len four modes few low short seven).trans
    (congrArg _ (if_neg fun reserved => Bool.false_ne_true (free.symm.trans reserved)))) (onlyIn_withBus _ _) (by decide) (respond_bus ..)

theorem abusTargetSet_reserved (reserved : tgtReserved (tgtRegs amode.toNat count.toNat addrs base.toNat mask.toNat).1
      (tgtRegs amode.toNat count.toNat addrs base.toNat mask.toNat).2 = true) :
    Completes (.abusTargetSet r amode count addrs base mask) s [.time, .mbox] fun t => Answered .abusTargetSet r true .badParam 0 [] s t :=
  completes_answer w ((exec_abusTargetSet w len four modes few low short seven).trans (congrArg _ (if_pos reserved)))

end

/-! ## AUX_SEQUENCE_SET (R356) -/

/-- The module with a list that waits, or, without PD72, in force. -/
def State.withSequence (s : State) (l : List AuxEntry) : State :=
  if s.pdOn 72 then { s with aux := { s.aux with nextList := some l } } else { s with aux := s.aux.setList l }

theorem onlyIn_withSequence (l : List AuxEntry) (s : State) : onlyIn [.aux] s (s.withSequence l) :=
  onlyIn_ite (onlyIn_withAux _ s) (onlyIn_withAux _ s)

theorem auxSequenceSet_sets {count : Byte} {l : List (Byte × Byte × Byte)} (w : Waiting .auxSequenceSet r s) (len : r.len = 4 + 4 * count.toNat)
    (listed : l.length = count.toNat) (some : 1 ≤ count.toNat) (few : count.toNat ≤ 32)
    (fits : ∀ e ∈ l, e.1.toNat ≤ 1 ∧ e.2.1.toNat ≤ 0x0E ∧ e.2.2.toNat ≤ 1) :
    Completes (.auxSequenceSet r count l) s [.time, .mbox, .aux] fun t =>
      t.aux = ((takeUp r s).withSequence (l.map auxEntryOf)).aux ∧ Answered .auxSequenceSet r true .ok 0 [] s t := by
  have lengths : (decide (r.len = 4 + 4 * count.toNat) && decide (l.length = count.toNat)) = true := by simp [len, listed]
  have fields : sound r (decide (1 ≤ count.toNat ∧ count.toNat ≤ 32) &&
      l.all fun e => decide (e.1.toNat ≤ 1 ∧ e.2.1.toNat ≤ 0x0E ∧ e.2.2.toNat ≤ 1)) = true := by
    simpa [sound, w.reserved, some, few] using fun x y z member => fits (x, y, z) member
  have run := command_exec (c := .auxSequenceSet r count l) rfl w (failing_none lengths fields rfl w.free)
  exact completes_set w run (onlyIn_withSequence _ _) (by decide) (respond_aux ..)

/-! ## COMPOSITOR_SET (R258) -/

section
variable {mode left : Byte} (w : Waiting .compositorSet r s) (len : r.len = 4) (modes : mode.toNat ≤ 5) (eyes : left.toNat ≤ 1)
include w len modes eyes

theorem exec_compositorSet : exec (.compositorSet r mode left) s =
    .next (compositorAct mode.toNat left.toNat (reqOf .compositorSet r s) (takeUp r s)) :=
  command_exec rfl w (fixed_passes len w.reserved (decide_eq_true ⟨modes, eyes⟩) rfl w.free)

theorem compositorSet_sets (free : mode = 0 ∨ s.cap 2 = true) : Completes (.compositorSet r mode left) s [.time, .mbox, .tandem] fun t =>
    t.tandem = (setCompositor mode.toNat left.toNat (takeUp r s)).tandem ∧
    Answered .compositorSet r true .ok s.nextFrame (leBytes 8 s.nextFrame) s t := by
  have allowed : ¬(mode.toNat ≠ 0 ∧ (takeUp r s).cap 2 = false) := by
    rintro ⟨some, lacks⟩
    rcases free with rfl | has
    · exact some rfl
    · exact absurd (has.symm.trans lacks) (by decide)
  exact completes_set w ((exec_compositorSet w len modes eyes).trans (congrArg _ (if_neg allowed)))
    (onlyIn_ite (onlyIn_withTandem _ _) (onlyIn_withTandem _ _)) (by decide) (respond_tandem ..)

theorem compositorSet_denied (some : mode ≠ 0) (lacks : s.cap 2 = false) : Completes (.compositorSet r mode left) s [.time, .mbox] fun t =>
    Answered .compositorSet r true .denied 0 [] s t := by
  have denied : mode.toNat ≠ 0 ∧ (takeUp r s).cap 2 = false := ⟨fun zero => some (BitVec.eq_of_toNat_eq zero), lacks⟩
  exact completes_answer w ((exec_compositorSet w len modes eyes).trans (congrArg _ (if_pos denied)))

end

end

/-- Settles O15: each of these commands sets its unit once its checks pass, and answers. -/
theorem settersTakeEffect : Obligations.SettersTakeEffect := by
  unfold Obligations.SettersTakeEffect
  intro r s
  refine ⟨fun v w len => thermalSet_sets v w len, fun flags n w len few => powerPolicySet_sets n w len few,
    fun gib w len => reservoirInfo_sets gib w len,
    fun ms w len few mode => ⟨prerollSet_sets w len few mode, prerollSet_denied w len few mode⟩,
    fun count l w len few listed aligned a b => weltAllowlistSet_sets w len few listed aligned a b,
    fun amode count addrs base mask w len four modes few low short seven =>
      ⟨abusTargetSet_sets w len four modes few low short seven, abusTargetSet_reserved w len four modes few low short seven⟩,
    fun count l w len listed some few fits => ?_, fun mode left w len modes eyes => ⟨fun free => ?_, compositorSet_denied w len modes eyes⟩⟩
  · obtain ⟨t, run, frame, aux, answered⟩ := auxSequenceSet_sets w len listed some few fits
    refine ⟨t, run, frame, fun on => ?_, fun off => ?_, answered⟩
    · rw [aux]
      exact congrArg State.aux (if_pos on)
    · rw [aux, show (takeUp r s).withSequence (l.map auxEntryOf) = _ from if_neg fun on => Bool.false_ne_true (off.symm.trans on)]
      refine ⟨rfl, fun x member => ?_⟩
      obtain ⟨e, -, rfl⟩ := List.mem_map.mp member
      rfl
  · obtain ⟨t, run, frame, tandem, answered⟩ := compositorSet_sets w len modes eyes free
    refine ⟨t, run, frame, fun has => ?_, fun lacks => ?_, answered⟩
    · rw [tandem]
      exact congrArg State.tandem (if_pos has)
    · rw [tandem]
      exact congrArg State.tandem (if_neg fun has => Bool.false_ne_true (lacks.symm.trans has))

end Sys2Proof.Machine

/-! PROOFS. The two-wire buses: how a transfer begins and ends, and what the module does about a bus that hangs (R334 to R343). -/

namespace Sys2Proof.Machine

/-! ## The engines -/

@[simp] theorem bus_get_set (u : BusUnit) (b : BusId) (x : Bus) : (u.set b x).get b = x := by cases b <;> rfl

@[simp] theorem bus_set_set (u : BusUnit) (b : BusId) (x y : Bus) : (u.set b x).set b y = u.set b y := by cases b <;> rfl

@[simp] theorem setBus_bus (s : State) (b : BusId) (x : Bus) : (s.setBus b x).bus = s.bus.set b x := rfl

theorem onlyIn_setBus (s : State) (b : BusId) (x : Bus) : onlyIn [.bus] s (s.setBus b x) := onlyIn_withBus _ s

/-- An engine changes, and an event of its bus is logged. -/
def State.busNoted (s : State) (code : Nat) (b : BusId) (x : Bus) : State := logEvent code (srcBus b) 0 (s.setBus b x)

theorem onlyIn_busNoted (s : State) (code : Nat) (b : BusId) (x : Bus) : onlyIn (.bus :: reporting) s (s.busNoted code b x) :=
  onlyIn_trans (onlyIn_mono (onlyIn_setBus s b x) (by decide)) (onlyIn_mono (onlyIn_logEvent _ _ _ _) (by decide))

@[simp] theorem busNoted_bus (s : State) (code : Nat) (b : BusId) (x : Bus) : (s.busNoted code b x).bus = s.bus.set b x := logEvent_bus _ _ _ _

theorem busNoted_reports (s : State) {code : Nat} (b : BusId) (x : Bus) (known : (severity code).isSome) :
    Reports code (srcBus b) (s.busNoted code b x) := reports_logEvent known

/-- What a transfer that ends finds of the requests and of time. -/
structure SameRequests (s u : State) : Prop where
  channels : ∀ c, u.mbox.get c = s.mbox.get c
  claims : u.mbox.claims = s.mbox.claims
  time : u.time = s.time

theorem sameRequests_setBus (s : State) (b : BusId) (x : Bus) : SameRequests s (s.setBus b x) := ⟨fun _ => rfl, rfl, rfl⟩

theorem sameRequests_logEvent {s u : State} (code source data : Nat) (h : SameRequests s u) : SameRequests s (logEvent code source data u) :=
  ⟨fun c => (logEvent_mbox_get _ _ _ _ c).trans (h.channels c), (logEvent_mbox_claims _ _ _ _).trans h.claims,
    (logEvent_time _ _ _ _).trans h.time⟩

theorem sameRequests_busNoted (s : State) (code : Nat) (b : BusId) (x : Bus) : SameRequests s (s.busNoted code b x) :=
  sameRequests_logEvent _ _ _ (sameRequests_setBus s b x)

theorem sameRequests_fire0 {s u : State} (n : Nat) (h : SameRequests s u) : SameRequests s (fire0 n u) :=
  ⟨fun c => (congrArg (·.get c) (fire0_mbox n u)).trans (h.channels c), (congrArg Mailbox.claims (fire0_mbox n u)).trans h.claims,
    (fire0_time n u).trans h.time⟩

/-! ## The end of a transfer (R334, R336, R340, R341, R343) -/

theorem endXfer_of_some {b : BusId} {result done : Nat} {st : Status} {data : List Byte} {f : Xfer} {s : State} (runs : (s.bus.get b).xfer = some f) :
    endXfer b result done st data s = finish f.req st 0 (leBytes 1 result ++ leBytes 1 0 ++ leBytes 2 done ++ zeros 4 ++ data)
      { s with bus := { s.bus.set b (s.bus.get b).atStop with xferEnd := s.time.now } } := by
  simp only [endXfer, runs]
  rfl

theorem onlyIn_endXfer {b : BusId} {result done : Nat} {st : Status} {data : List Byte} {f : Xfer} {s : State} (runs : (s.bus.get b).xfer = some f) :
    onlyIn [.mbox, .bus] s (endXfer b result done st data s) := by
  rw [endXfer_of_some runs]
  exact onlyIn_trans (onlyIn_mono (onlyIn_withBus _ s) (by decide)) (onlyIn_mono (onlyIn_finish _ _ _ _ _) (by decide))

section
variable {b : BusId} {x : Bus} {f : Xfer} {s u : State} {result done : Nat} {st : Status} {data : List Byte}

theorem endXfer_ends (same : SameRequests s u) (bus : u.bus = s.bus.set b x) (runs : x.xfer = some f) (alive : Alive f.req s) :
    TransferEnds b f result done st data x s (endXfer b result done st data u) := by
  have running : (u.bus.get b).xfer = some f := by rw [bus, bus_get_set]; exact runs
  rw [endXfer_of_some running]
  refine ⟨?_, finish_concludes alive same.channels same.claims⟩
  rw [finish_bus, bus, bus_get_set, bus_set_set, same.time]

theorem endXfer_reports {code : Nat} (runs : (u.bus.get b).xfer = some f) (reported : Reports code (srcBus b) u) :
    Reports code (srcBus b) (endXfer b result done st data u) := by
  have frame := onlyIn_endXfer (result := result) (done := done) (st := st) (data := data) runs
  exact reports_of reported (frame .log (by decide)) (frame .time (by decide))

/-- A transfer ends after an event of its bus. -/
theorem endXfer_noted {code : Nat} (runs : x.xfer = some f) (alive : Alive f.req s) (known : (severity code).isSome) :
    onlyIn (.bus :: reporting) s (endXfer b result done st data (s.busNoted code b x)) ∧
    TransferEnds b f result done st data x s (endXfer b result done st data (s.busNoted code b x)) ∧
    Reports code (srcBus b) (endXfer b result done st data (s.busNoted code b x)) := by
  have running : ((s.busNoted code b x).bus.get b).xfer = some f := by rw [busNoted_bus, bus_get_set]; exact runs
  exact ⟨onlyIn_trans (onlyIn_busNoted s code b x) (onlyIn_mono (onlyIn_endXfer running) (by decide)),
    endXfer_ends (sameRequests_busNoted s code b x) (busNoted_bus s code b x) runs alive, endXfer_reports running (busNoted_reports s b x known)⟩

/-- A transfer ends without an event. -/
theorem endXfer_quiet (runs : x.xfer = some f) (alive : Alive f.req s) :
    onlyIn [.mbox, .bus] s (endXfer b result done st data (s.setBus b x)) ∧
    TransferEnds b f result done st data x s (endXfer b result done st data (s.setBus b x)) := by
  have running : ((s.setBus b x).bus.get b).xfer = some f := by rw [setBus_bus, bus_get_set]; exact runs
  exact ⟨onlyIn_trans (onlyIn_mono (onlyIn_setBus s b x) (by decide)) (onlyIn_endXfer running),
    endXfer_ends (sameRequests_setBus s b x) rfl runs alive⟩

end

theorem setBus_get (s : State) (b : BusId) : s.setBus b (s.bus.get b) = s := by cases b <;> rfl

/-! ## ABUS_XFER_DONE (R334, R335) -/

section
variable {b : BusId} {x : Bus} {f : Xfer} {s : State} {done : Nat} {data : List Byte} {p : Option Byte}
  (engine : s.bus.get b = x) (runs : x.xfer = some f) (alive : Alive f.req s)
include engine runs alive

theorem abusDone_ok (sound : f.usePec = false ∨ f.readLen = 0) : Completes (.abusXferDone b .done done data p) s [.mbox, .bus]
    (TransferEnds b f 0 (f.writeData.length + f.readLen) .ok (padTo f.readLen data) x s) := by
  subst engine
  have noPec : (f.usePec && decide (0 < f.readLen) && decide (p ≠ some (BitVec.ofNat 8 (pec (f.pecBytes (padTo f.readLen data)))))) = false := by
    rcases sound with off | nothing
    · simp [off]
    · simp [nothing]
  have run : abusDone b .done done data p s = endXfer b 0 (f.writeData.length + f.readLen) .ok (padTo f.readLen data) (s.setBus b (s.bus.get b)) := by
    rw [setBus_get]
    simp only [abusDone, runs, noPec, Bool.false_eq_true, if_false]
  obtain ⟨frame, ends⟩ := endXfer_quiet runs alive (b := b) (result := 0) (done := f.writeData.length + f.readLen) (st := .ok)
    (data := padTo f.readLen data)
  exact completes_of rfl run frame ends

theorem abusDone_badPec (checks : f.usePec = true) (reads : 0 < f.readLen)
    (wrong : p ≠ some (BitVec.ofNat 8 (pec (f.pecBytes (padTo f.readLen data))))) :
    Completes (.abusXferDone b .done done data p) s (.bus :: reporting) fun t =>
      TransferEnds b f 0 (f.writeData.length + f.readLen) .badCheck (padTo f.readLen data) { x with pecErr := bump32 x.pecErr 1 } s t ∧
      Reports 0x0B09 (srcBus b) t := by
  subst engine
  have bad : (f.usePec && decide (0 < f.readLen) && decide (p ≠ some (BitVec.ofNat 8 (pec (f.pecBytes (padTo f.readLen data)))))) = true := by
    simp [checks, reads, wrong]
  have run : abusDone b .done done data p s = endXfer b 0 (f.writeData.length + f.readLen) .badCheck (padTo f.readLen data)
      (s.busNoted 0x0B09 b { s.bus.get b with pecErr := bump32 (s.bus.get b).pecErr 1 }) := by
    simp only [abusDone, runs, bad, if_true]
    rfl
  obtain ⟨frame, ends, reported⟩ := endXfer_noted (b := b) (x := { s.bus.get b with pecErr := bump32 (s.bus.get b).pecErr 1 }) (code := 0x0B09)
    runs alive (by decide) (result := 0) (done := f.writeData.length + f.readLen) (st := .badCheck) (data := padTo f.readLen data)
  exact completes_of rfl run frame ⟨ends, reported⟩

/-- After a NACK the transfer ends with RESULT 1, at an address, or 2, at a byte. -/
theorem abusDone_nack {result : XferResult} {code count : Nat}
    (run : abusDone b result done data p s = endXfer b code count .failed [] (meetNack b s)) :
    Completes (.abusXferDone b result done data p) s [.mbox, .bus]
      (TransferEnds b f code count .failed [] { x with nacks := bump32 x.nacks 1 } s) := by
  subst engine
  obtain ⟨frame, ends⟩ := endXfer_quiet (b := b) (x := { s.bus.get b with nacks := bump32 (s.bus.get b).nacks 1 }) runs alive (result := code)
    (done := count) (st := .failed) (data := [])
  exact completes_of rfl run frame ends

theorem abusDone_addressNack : Completes (.abusXferDone b .addressNack done data p) s [.mbox, .bus]
    (TransferEnds b f 1 (if 0 < done ∧ 0 < f.readLen then f.writeData.length else 0) .failed [] { x with nacks := bump32 x.nacks 1 } s) :=
  abusDone_nack engine runs alive (by simp only [abusDone, engine, runs]; rfl)

theorem abusDone_dataNack : Completes (.abusXferDone b .dataNack done data p) s [.mbox, .bus]
    (TransferEnds b f 2 done .failed [] { x with nacks := bump32 x.nacks 1 } s) :=
  abusDone_nack engine runs alive (by simp only [abusDone, engine, runs])

/-! ## What breaks a transfer (R336, R340, R341) -/

variable (on : busOn b s = true) (busy : x.ctlBusy = true)
include on busy

theorem arbitrationLost_ends : Completes (.arbitrationLost b done) s (.bus :: reporting) fun t =>
    TransferEnds b f 3 done .failed [] { x with arbLost := bump32 x.arbLost 1 } s t ∧ Reports 0x0B01 (srcBus b) t := by
  subst engine
  have active : (busOn b s && (s.bus.get b).ctlBusy) = true := by rw [on, busy]; rfl
  obtain ⟨frame, ends, reported⟩ := endXfer_noted (b := b) (x := { s.bus.get b with arbLost := bump32 (s.bus.get b).arbLost 1 }) (code := 0x0B01)
    runs alive (by decide) (result := 3) (done := done) (st := .failed) (data := [])
  exact completes_of rfl (if_pos active) frame ⟨ends, reported⟩

theorem busError_ends : Completes (.busError b done) s (.bus :: reporting) fun t =>
    TransferEnds b f 3 done .failed [] { x with busErr := bump32 x.busErr 1 } s t ∧ Reports 0x0B02 (srcBus b) t := by
  subst engine
  have active : (busOn b s && (s.bus.get b).ctlBusy) = true := by rw [on, busy]; rfl
  obtain ⟨frame, ends, reported⟩ := endXfer_noted (b := b) (x := { s.bus.get b with busErr := bump32 (s.bus.get b).busErr 1 }) (code := 0x0B02)
    runs alive (by decide) (result := 3) (done := done) (st := .failed) (data := [])
  exact completes_of rfl (if_pos active) frame ⟨ends, reported⟩

theorem sclTimeout_ends : Completes (.sclTimeout b false done) s (.bus :: reporting) fun t =>
    TransferEnds b f 4 done .failed [] { x with timeouts := bump32 x.timeouts 1 } s t ∧ Reports 0x0B03 (srcBus b) t := by
  subst engine
  obtain ⟨frame, ends, reported⟩ := endXfer_noted (b := b) (x := { s.bus.get b with timeouts := bump32 (s.bus.get b).timeouts 1 })
    (code := 0x0B03) runs alive (by decide) (result := 4) (done := done) (st := .failed) (data := [])
  have run : exec (.sclTimeout b false done) s = .next (endXfer b 4 done .failed [] (meetSclLow b s)) := by
    show Host.Outcome.next _ = _
    simp only [on, busy, Bool.not_true, Bool.false_eq_true, if_false, if_true]
  exact completes_of run rfl frame ⟨ends, reported⟩

end

theorem sclTimeout_discards {b : BusId} {x : Bus} {s : State} {done : Nat} (engine : s.bus.get b = x) (on : busOn b s = true)
    (active : targetActive b s = true) : Completes (.sclTimeout b true done) s (.bus :: reporting) fun t =>
      t.bus = s.bus.set b { x with aborts := bump32 x.aborts 1, tgtBusy := false } ∧ Reports 0x0B08 (srcBus b) t := by
  subst engine
  have run : exec (.sclTimeout b true done) s =
      .next (s.busNoted 0x0B08 b { s.bus.get b with aborts := bump32 (s.bus.get b).aborts 1, tgtBusy := false }) := by
    show Host.Outcome.next _ = _
    simp only [on, active, Bool.not_true, Bool.false_eq_true, if_false, if_true]
    rfl
  exact completes_of run rfl (onlyIn_busNoted _ _ _ _) ⟨busNoted_bus _ _ _ _, busNoted_reports _ _ _ (by decide)⟩


/-! ## A bus that hangs (R340, R342, R343) -/

/-- SDA stays low: the bus is faulted. -/
def State.busStuck (s : State) (b : BusId) : State := busClear b false (logEvent 0x0B04 (srcBus b) 0 s)

theorem busClear_stuck (b : BusId) (s : State) : busClear b false s =
    if (s.bus.get b).ctrl.getLsbD 8 then fire0 (busVector b) (s.busNoted 0x0B06 b { s.bus.get b with faulted := true })
    else s.busNoted 0x0B06 b { s.bus.get b with faulted := true } := rfl

theorem busClear_freed (b : BusId) (s : State) :
    busClear b true s = s.busNoted 0x0B05 b { s.bus.get b with clears := bump32 (s.bus.get b).clears 1 } := rfl

theorem busStuck_eq (s : State) (b : BusId) : s.busStuck b =
    if (s.bus.get b).ctrl.getLsbD 8 then
      fire0 (busVector b) ((logEvent 0x0B04 (srcBus b) 0 s).busNoted 0x0B06 b { s.bus.get b with faulted := true })
    else (logEvent 0x0B04 (srcBus b) 0 s).busNoted 0x0B06 b { s.bus.get b with faulted := true } := by
  rw [State.busStuck, busClear_stuck, logEvent_bus]

theorem onlyIn_loggedNoted (s : State) (code code' : Nat) (b : BusId) (x : Bus) :
    onlyIn (.bus :: reporting) s ((logEvent code (srcBus b) 0 s).busNoted code' b x) :=
  onlyIn_trans (onlyIn_mono (onlyIn_logEvent _ _ _ s) (by decide)) (onlyIn_busNoted _ _ _ _)

/-- What a bus that is stuck leaves: its faulted bit and two events. -/
theorem busStuck_leaves (s : State) (b : BusId) :
    onlyIn (.bus :: reporting) s (s.busStuck b) ∧ SameRequests s (s.busStuck b) ∧
    (s.busStuck b).bus = s.bus.set b { s.bus.get b with faulted := true } ∧
    Reports 0x0B04 (srcBus b) (s.busStuck b) ∧ Reports 0x0B06 (srcBus b) (s.busStuck b) := by
  have frame := onlyIn_loggedNoted s 0x0B04 0x0B06 b { s.bus.get b with faulted := true }
  have same : SameRequests s ((logEvent 0x0B04 (srcBus b) 0 s).busNoted 0x0B06 b { s.bus.get b with faulted := true }) :=
    sameRequests_logEvent _ _ _ ⟨logEvent_mbox_get _ _ _ s, logEvent_mbox_claims _ _ _ s, logEvent_time _ _ _ s⟩
  have bus : ((logEvent 0x0B04 (srcBus b) 0 s).busNoted 0x0B06 b { s.bus.get b with faulted := true }).bus =
      s.bus.set b { s.bus.get b with faulted := true } := by rw [busNoted_bus, logEvent_bus]
  have stuck : Reports 0x0B06 (srcBus b) ((logEvent 0x0B04 (srcBus b) 0 s).busNoted 0x0B06 b { s.bus.get b with faulted := true }) :=
    busNoted_reports _ _ _ (by decide)
  have low : Reports 0x0B04 (srcBus b) ((logEvent 0x0B04 (srcBus b) 0 s).busNoted 0x0B06 b { s.bus.get b with faulted := true }) :=
    reports_after (reports_of (reports_logEvent (s := s) (by decide)) rfl rfl) (by simp) (by decide)
  rw [busStuck_eq]
  split
  · exact ⟨onlyIn_trans frame (onlyIn_mono (onlyIn_fire false (busVector b) _) (by decide)), sameRequests_fire0 _ same,
      (fire0_bus _ _).trans bus, reports_fire _ _ low, reports_fire _ _ stuck⟩
  · exact ⟨frame, same, bus, low, stuck⟩

theorem sdaTimeout_ends {b : BusId} {x : Bus} {f : Xfer} {s : State} (engine : s.bus.get b = x) (runs : x.xfer = some f) (alive : Alive f.req s)
    (on : busOn b s = true) : Completes (.sdaTimeout b false) s (.bus :: reporting) fun t =>
      TransferEnds b f 5 0 .failed [] { x with faulted := true } s t ∧ Reports 0x0B04 (srcBus b) t ∧ Reports 0x0B06 (srcBus b) t := by
  subst engine
  obtain ⟨frame, same, bus, low, stuck⟩ := busStuck_leaves s b
  have running : ((s.busStuck b).bus.get b).xfer = some f := by rw [bus, bus_get_set]; exact runs
  exact completes_of rfl (if_pos on) (onlyIn_trans frame (onlyIn_mono (onlyIn_endXfer running) (by decide)))
    ⟨endXfer_ends same bus runs alive, endXfer_reports running low, endXfer_reports running stuck⟩

/-- Every bus has CTL_EN. -/
theorem ctrlMask_enables (b : BusId) (v : U32) : (v &&& ctrlMask b).getLsbD 0 = v.getLsbD 0 := by
  cases b <;> simp [ctrlMask]

section
variable {b : BusId} {s : State} (on : busOn b s = true)
include on

theorem sdaTimeout_clears : Completes (.sdaTimeout b true) s (.bus :: reporting) fun t =>
    t.bus = s.bus.set b { s.bus.get b with clears := bump32 (s.bus.get b).clears 1 } ∧
    Reports 0x0B04 (srcBus b) t ∧ Reports 0x0B05 (srcBus b) t := by
  have run : exec (.sdaTimeout b true) s = .next ((logEvent 0x0B04 (srcBus b) 0 s).busNoted 0x0B05 b
      { s.bus.get b with clears := bump32 (s.bus.get b).clears 1 }) := by
    show Host.Outcome.next _ = _
    rw [if_pos on, busClear_freed, logEvent_bus]
    rfl
  refine completes_of run rfl (onlyIn_loggedNoted _ _ _ _ _) ⟨by rw [busNoted_bus, logEvent_bus], ?_, busNoted_reports _ _ _ (by decide)⟩
  exact reports_after (reports_of (reports_logEvent (s := s) (by decide)) rfl rfl) (by simp) (by decide)

theorem sdaReleased_frees (faulted : (s.bus.get b).faulted = true) : Completes (.sdaReleased b) s (.bus :: reporting) fun t =>
    t.bus = s.bus.set b { s.bus.get b with faulted := false } ∧ Reports 0x0B07 (srcBus b) t := by
  have active : (busOn b s && (s.bus.get b).faulted) = true := by rw [on, faulted]; rfl
  exact completes_of rfl (if_pos active) (onlyIn_busNoted s 0x0B07 b _) ⟨busNoted_bus _ _ _ _, busNoted_reports _ _ _ (by decide)⟩

/-! ## CTRL (R342, Table 14-3) -/

variable (reaches : Reachable s) {v : U32} (free : (s.bus.get b).ctlBusy = false)
include reaches free

theorem exec_busCtrl (freed : Bool) : exec (.busCtrl b v freed) s = .next
    (if !(s.bus.get b).ctlEn && v.getLsbD 0 then busClear b freed (s.setBus b { s.bus.get b with ctrl := v &&& ctrlMask b, disableDue := false })
    else s.setBus b { s.bus.get b with ctrl := v &&& ctrlMask b, disableDue := false }) := by
  show Host.Outcome.next (bridged false (busBase b) v.toNat (busCtrlAct b v freed) s) = _
  rw [bridged_reaches reaches]
  unfold busCtrlAct
  simp only [on, free, Bool.not_true, Bool.false_and, Bool.false_eq_true, if_false, ctrlMask_enables]

theorem busCtrl_stores (freed : Bool) (still : (s.bus.get b).ctlEn = true ∨ v.getLsbD 0 = false) :
    Completes (.busCtrl b v freed) s [.bus] fun t =>
      t.bus = s.bus.set b { s.bus.get b with ctrl := v &&& ctrlMask b, disableDue := false } := by
  have noClear : ¬(!(s.bus.get b).ctlEn && v.getLsbD 0) = true := by
    rcases still with enabled | off
    · simp [enabled]
    · rw [off, Bool.and_false]
      exact Bool.false_ne_true
  exact completes_of (exec_busCtrl on reaches free freed) (if_neg noClear) (onlyIn_setBus _ _ _) rfl

theorem busCtrl_enables (disabled : (s.bus.get b).ctlEn = false) (enables : v.getLsbD 0 = true) :
    Completes (.busCtrl b v true) s (.bus :: reporting) fun t =>
      t.bus = s.bus.set b { s.bus.get b with
        ctrl := v &&& ctrlMask b, disableDue := false, clears := bump32 (s.bus.get b).clears 1 } ∧ Reports 0x0B05 (srcBus b) t := by
  have clears : (!(s.bus.get b).ctlEn && v.getLsbD 0) = true := by simp [disabled, enables]
  refine completes_of (exec_busCtrl on reaches free true) (if_pos clears) ?_ ⟨?_, busNoted_reports _ _ _ (by decide)⟩
  · exact onlyIn_trans (onlyIn_mono (onlyIn_setBus _ _ _) (by decide)) (onlyIn_busNoted _ _ _ _)
  · rw [busClear_freed, busNoted_bus, setBus_bus, bus_set_set, bus_get_set]

end

/-! ## ABUS_XFER (R334, R343) -/

theorem onlyIn_acceptedXfer (r : Req) (s : State) (bus : Byte) (x : Bus) : onlyIn [.time, .mbox, .bus] s
    ((accept (reqOf .abusXfer r s) [.abus bus.toNat] 0 (takeUp r s)).setBus (abusOf bus.toNat) x) :=
  onlyIn_trans (onlyIn_mono (onlyIn_takeUp r s) (by decide)) (onlyIn_trans (onlyIn_mono (onlyIn_accept _ _ _ _) (by decide))
    (onlyIn_mono (onlyIn_setBus _ _ _) (by decide)))

section
variable {r : Req} {bus addr flags : Byte} {k n : U16} {data : List Byte} {s : State} (w : Waiting .abusXfer r s) (len : r.len = 8 + k.toNat)
  (all : data.length = k.toNat) (two : bus.toNat ≤ 1) (seven : addr.toNat < 128) (flag : flags.toNat < 2) (writes : k.toNat ≤ 4088)
  (reads : n.toNat ≤ 4088) (on : s.pdOn 77 = true)
include w len all two seven flag writes reads on

/-- The transfer that a request asks for. -/
theorem exec_abusXfer : exec (.abusXfer r bus addr flags k n data) s = .next
    (let f : Xfer := ⟨reqOf .abusXfer r s, addr.toNat, decide (flags.toNat % 2 = 1), data, n.toNat⟩
     let u := (accept (reqOf .abusXfer r s) [.abus bus.toNat] 0 (takeUp r s)).setBus (abusOf bus.toNat)
       { (s.bus.get (abusOf bus.toNat)).atStart with xfer := some f, ctlBusy := true }
     if (s.bus.get (abusOf bus.toNat)).faulted then endXfer (abusOf bus.toNat) 5 0 .failed [] u else u.send (f.out (abusOf bus.toNat))) := by
  have lengths : (decide (r.len = 8 + k.toNat) && decide (data.length = k.toNat)) = true := by simp [len, all]
  have fields : sound r (decide (bus.toNat ≤ 1 ∧ addr.toNat < 128 ∧ flags.toNat < 2 ∧ k.toNat ≤ 4088 ∧ n.toNat ≤ 4088)) = true := by
    simp [sound, w.reserved, two, seven, flag, writes, reads]
  have run := command_exec (c := .abusXfer r bus addr flags k n data) rfl w (failing_none lengths fields rfl w.free)
  have awake : wakeAbus (abusOf bus.toNat) (accept (reqOf .abusXfer r s) [.abus bus.toNat] 0 (takeUp r s)) =
      accept (reqOf .abusXfer r s) [.abus bus.toNat] 0 (takeUp r s) := if_pos (by simpa [State.pdOn] using on)
  have whole : data.take k.toNat = data := List.take_of_length_le (Nat.le_of_eq all)
  rw [run]
  unfold abusXferAct
  dsimp only
  rw [awake, whole, accept_bus]
  rfl

theorem abusXfer_starts (sound : (s.bus.get (abusOf bus.toNat)).faulted = false) :
    Completes (.abusXfer r bus addr flags k n data) s [.time, .mbox, .bus, .sent] fun t =>
      Accepted .abusXfer r 0 s t ∧
      t.sent = Xfer.out ⟨reqOf .abusXfer r s, addr.toNat, decide (flags.toNat % 2 = 1), data, n.toNat⟩ (abusOf bus.toNat) :: s.sent ∧
      t.mbox.claims = [(.abus bus.toNat, reqOf .abusXfer r s)] ∧
      t.bus = s.bus.set (abusOf bus.toNat) { (s.bus.get (abusOf bus.toNat)).atStart with
        xfer := some ⟨reqOf .abusXfer r s, addr.toNat, decide (flags.toNat % 2 = 1), data, n.toNat⟩, ctlBusy := true } := by
  refine completes_of (exec_abusXfer w len all two seven flag writes reads on) (if_neg fun faulted => Bool.false_ne_true (sound.symm.trans faulted))
    (onlyIn_trans (onlyIn_mono (onlyIn_acceptedXfer r s bus _) (by decide)) (onlyIn_mono (onlyIn_send _ _) (by decide)))
    ⟨accept_answers w fun _ => rfl, ?_, ?_, ?_⟩
  · exact congrArg (_ :: ·) (accept_sent _ _ _ _)
  · exact (accept_claims _ _ _ _).trans (by rw [w.free]; rfl)
  · rw [send_bus, setBus_bus, accept_bus]
    rfl

theorem abusXfer_faulted (faulted : (s.bus.get (abusOf bus.toNat)).faulted = true) :
    Completes (.abusXfer r bus addr flags k n data) s [.time, .mbox, .bus] fun t =>
      AcceptedThen .abusXfer r 0 .failed 0 (leBytes 1 5 ++ leBytes 1 0 ++ leBytes 2 0 ++ zeros 4) s t ∧
      (t.bus.get (abusOf bus.toNat)).xfer = none ∧ t.mbox.claims = [] := by
  have run := exec_abusXfer w len all two seven flag writes reads on
  rw [if_pos faulted] at run
  have running : (((accept (reqOf .abusXfer r s) [.abus bus.toNat] 0 (takeUp r s)).setBus (abusOf bus.toNat)
      { (s.bus.get (abusOf bus.toNat)).atStart with
        xfer := some ⟨reqOf .abusXfer r s, addr.toNat, decide (flags.toNat % 2 = 1), data, n.toNat⟩, ctlBusy := true }).bus.get
      (abusOf bus.toNat)).xfer = some ⟨reqOf .abusXfer r s, addr.toNat, decide (flags.toNat % 2 = 1), data, n.toNat⟩ := by
    rw [setBus_bus, bus_get_set]
  rw [endXfer_of_some running, List.append_nil] at run
  refine completes_of run rfl (onlyIn_trans (onlyIn_acceptedXfer r s bus _)
    (onlyIn_trans (onlyIn_mono (onlyIn_withBus _ _) (by decide)) (onlyIn_mono (onlyIn_finish _ _ _ _ _) (by decide))))
    ⟨accepted_then w fun _ => rfl, ?_, ?_⟩
  · rw [finish_bus]
    exact congrArg Bus.xfer (bus_get_set _ _ _)
  · rw [finish_claims]
    show (accept (reqOf .abusXfer r s) [.abus bus.toNat] 0 (takeUp r s)).mbox.claims.filter _ = _
    rw [accept_claims, w.free]
    simp

end

/-- Settles O16: what ends a transfer counts and logs what it met, and ends it at the STOP. -/
theorem transfersConclude : Obligations.TransfersConclude := by
  unfold Obligations.TransfersConclude
  refine ⟨fun r bus addr flags k n data s w len all two seven flag writes reads on =>
    ⟨abusXfer_starts w len all two seven flag writes reads on, abusXfer_faulted w len all two seven flag writes reads on⟩,
    fun b x f done data p s engine runs alive on busy => ?_,
    fun b s on => ⟨sdaTimeout_clears on, sdaReleased_frees on,
      fun reaches v freed => ⟨fun free => busCtrl_stores on reaches free freed, busCtrl_enables on reaches⟩⟩⟩
  exact ⟨abusDone_ok engine runs alive, abusDone_badPec engine runs alive, abusDone_addressNack engine runs alive,
    abusDone_dataNack engine runs alive, arbitrationLost_ends engine runs alive on busy, busError_ends engine runs alive on busy,
    sclTimeout_ends engine runs alive on busy, sclTimeout_discards engine on, sdaTimeout_ends engine runs alive on⟩

end Sys2Proof.Machine

/-! PROOFS. The target's commands and its inbox (R345 to R349), and what the buses do for the module (R338, R339, R350, R351). -/

namespace Sys2Proof.Machine

/-! ## A target that is addressed -/

/-- The state in which a target takes a command: its engine has seen a START (R333), and HBUS has been addressed (R350). -/
def State.addressed (b : BusId) (s : State) : State := seesStart b (heardHbus b s)

theorem addressed_get (b : BusId) (s : State) : (s.addressed b).bus.get b = (s.bus.get b).atStart := by cases b <;> rfl

theorem onlyIn_heardHbus (b : BusId) (s : State) : onlyIn [.bus] s (heardHbus b s) := by
  unfold heardHbus
  split
  · exact onlyIn_withBus _ s
  · exact onlyIn_refl _ s

theorem onlyIn_addressed (b : BusId) (s : State) : onlyIn [.bus] s (s.addressed b) :=
  onlyIn_trans (onlyIn_heardHbus b s) (onlyIn_setBus _ b _)

/-- What a read command returns does not depend on the START that came before it. -/
theorem targetData_addressed (b : BusId) (code : Nat) (s : State) : targetData b code (s.addressed b) = targetData b code s := by
  cases b <;> rfl

theorem targetRead_of_answers {b : BusId} {addr code : Nat} {s : State} (answers : targetAnswers b addr s = true) (known : code ∈ targetCodes b)
    {d : List Byte} (data : targetData b code s = some d) :
    targetRead b addr code s = (s.addressed b).send (.busAnswer (busNum b) (some (if (s.bus.get b).pecEn then
      d ++ leBytes 1 (pec (BitVec.ofNat 8 (2 * addr) :: BitVec.ofNat 8 code :: BitVec.ofNat 8 (2 * addr + 1) :: d)) else d))) := by
  have read : targetData b code (seesStart b (heardHbus b s)) = some d := (targetData_addressed b code s).trans data
  have pecs : ((seesStart b (heardHbus b s)).bus.get b).pecEn = (s.bus.get b).pecEn := Eq.trans (congrArg Bus.pecEn (addressed_get b s)) rfl
  simp only [targetRead, answers, known, not_true, read, pecs, if_true, if_false]
  rfl

/-- An engine changes, and its bus logs it. -/
theorem onlyIn_setBus_logEvent (code d : Nat) (b : BusId) (x : Bus) (s : State) :
    onlyIn (.bus :: reporting) s (logEvent code (srcBus b) d (s.setBus b x)) :=
  onlyIn_trans (onlyIn_mono (onlyIn_setBus s b x) (by decide)) (onlyIn_mono (onlyIn_logEvent _ _ _ _) (by decide))

/-! ## An unknown code (R345) -/

theorem onlyIn_unknownCode (b : BusId) (code : Nat) (s : State) : onlyIn (.bus :: reporting) s (unknownCode b code s) :=
  onlyIn_trans (onlyIn_setBus_logEvent _ _ b _ s) (onlyIn_mono (onlyIn_send _ _) (by decide))

/-- Both commands refuse a code that the bus does not know. -/
theorem refusesCode {b : BusId} {code : Byte} {s : State} {c : Instr} (run : exec c s = .next (unknownCode b code.toNat (s.addressed b))) :
    Completes c s (.bus :: reporting) fun t =>
      t.bus.get b = { (s.bus.get b).atStart with aborts := bump32 (s.bus.get b).aborts 1 } ∧
      t.sent.head? = some (.busAnswer (busNum b) none) ∧ Reports 0x0B0E (srcBus b) t := by
  refine completes_of run rfl (onlyIn_trans (onlyIn_mono (onlyIn_addressed b s) (by decide)) (onlyIn_unknownCode b _ _)) ⟨?_, rfl, ?_⟩
  · show (logEvent _ _ _ ((s.addressed b).setBus b _)).bus.get b = _
    rw [logEvent_bus, setBus_bus, bus_get_set, addressed_get]
    rfl
  · exact reports_send _ (reports_logEvent (by decide))

section
variable {b : BusId} {addr code : Byte} {s : State} (answers : targetAnswers b addr.toNat s = true) (unknown : code.toNat ∉ targetCodes b)
include answers unknown

theorem targetReadCommand_unknown : Completes (.targetReadCommand b addr code) s (.bus :: reporting) fun t =>
    t.bus.get b = { (s.bus.get b).atStart with aborts := bump32 (s.bus.get b).aborts 1 } ∧
    t.sent.head? = some (.busAnswer (busNum b) none) ∧ Reports 0x0B0E (srcBus b) t :=
  refusesCode (congrArg Host.Outcome.next (by simp only [targetRead, answers, unknown, not_false_eq_true, if_true]; rfl))

theorem targetWriteCommand_unknown (data : List Byte) (ending : WriteEnd) :
    Completes (.targetWriteCommand b addr code data ending) s (.bus :: reporting) fun t =>
      t.bus.get b = { (s.bus.get b).atStart with aborts := bump32 (s.bus.get b).aborts 1 } ∧
      t.sent.head? = some (.busAnswer (busNum b) none) ∧ Reports 0x0B0E (srcBus b) t :=
  refusesCode (congrArg Host.Outcome.next (by simp only [targetWrite, answers, unknown, not_false_eq_true, if_true]; rfl))

end

/-! ## A read command (R345, R346, R348) -/

theorem targetReadCommand_answers {b : BusId} {addr code : Byte} {s : State} (answers : targetAnswers b addr.toNat s = true)
    (known : code.toNat ∈ targetCodes b) {d : List Byte} (data : targetData b code.toNat s = some d) :
    Completes (.targetReadCommand b addr code) s [.bus, .sent] fun t =>
      t.bus.get b = (s.bus.get b).atStart ∧ (b = .hbus → t.bus.hbusHeard = s.time.now) ∧
      t.sent = .busAnswer (busNum b) (some (if (s.bus.get b).pecEn then
        d ++ leBytes 1 (pec (BitVec.ofNat 8 (2 * addr.toNat) :: code :: BitVec.ofNat 8 (2 * addr.toNat + 1) :: d)) else d)) :: s.sent := by
  refine completes_of rfl (targetRead_of_answers answers known data)
    (onlyIn_trans (onlyIn_mono (onlyIn_addressed b s) (by decide)) (onlyIn_mono (onlyIn_send _ _) (by decide))) ⟨addressed_get b s, ?_, ?_⟩
  · rintro rfl
    rfl
  · show _ :: (s.addressed b).sent = _
    rw [BitVec.ofNat_toNat, BitVec.setWidth_eq, onlyIn_addressed b s .sent (by decide)]

/-! ## The inbox of the accessory bus (R349) -/

theorem targetWrite_post {addr : Nat} {data : List Byte} {ending : WriteEnd} {s : State} (answers : targetAnswers .abus0 addr s = true) :
    targetWrite .abus0 addr 0x40 data ending s = accPost addr data ending (s.addressed .abus0) := by
  have known : ¬ 0x40 ∉ targetCodes .abus0 := by decide
  simp only [targetWrite, answers, known, if_true, if_false]
  rfl

/-- The inbox takes a post. -/
def State.posted (s : State) (addr : Nat) (body : List Byte) : State :=
  (s.addressed .abus0).setBus .abus0 (s.bus.abus0.atStart.deliver ⟨addr, s.time.module, body⟩)

theorem onlyIn_posted (addr : Nat) (body : List Byte) (s : State) : onlyIn [.bus] s (s.posted addr body) :=
  onlyIn_trans (onlyIn_addressed .abus0 s) (onlyIn_setBus _ .abus0 _)

theorem onlyIn_discardTarget (b : BusId) (s : State) : onlyIn (.bus :: reporting) s (discardTarget b s) := onlyIn_setBus_logEvent _ _ b _ s

section
variable {addr count : Byte} {body : List Byte} {p : Option Byte} {s : State} (answers : targetAnswers .abus0 addr.toNat s = true)
include answers

theorem accPost_full {ending : WriteEnd} (full : 16 ≤ (s.bus.abus0.inProduced - s.bus.abus0.inConsumed).toNat) :
    Completes (.targetWriteCommand .abus0 addr 0x40 (count :: body) ending) s (.bus :: reporting) fun t =>
      t.bus = { s.bus with abus0 := { s.bus.abus0.atStart with inLost := bump32 s.bus.abus0.inLost 1 } } ∧
      t.sent.head? = some (.busAnswer 0 none) ∧ Reports 0x0B0A (srcBus .abus0) t := by
  have run : targetWrite .abus0 addr.toNat 0x40 (count :: body) ending s =
      (logEvent 0x0B0A (srcBus .abus0) addr.toNat ((s.addressed .abus0).setBus .abus0
        { s.bus.abus0.atStart with inLost := bump32 s.bus.abus0.inLost 1 })).send (.busAnswer 0 none) :=
    (targetWrite_post answers).trans (if_pos ⟨List.cons_ne_nil _ _, full⟩)
  refine completes_of rfl run ?_ ⟨logEvent_bus _ _ _ _, rfl, reports_send _ (reports_logEvent (by decide))⟩
  exact onlyIn_trans (onlyIn_mono (onlyIn_addressed .abus0 s) (by decide))
    (onlyIn_trans (onlyIn_setBus_logEvent _ _ .abus0 _ _) (onlyIn_mono (onlyIn_send _ _) (by decide)))

variable (room : (s.bus.abus0.inProduced - s.bus.abus0.inConsumed).toNat < 16) (nonempty : 1 ≤ count.toNat) (short : count.toNat ≤ 32)
  (whole : body.length = count.toNat)
include room nonempty short whole

/-- A whole post that finds room is judged by its PEC alone. -/
theorem targetWrite_whole (sent : s.bus.abus0.pecEn = true → p ≠ none) :
    targetWrite .abus0 addr.toNat 0x40 (count :: body) (.whole p) s =
      let x := s.bus.abus0.atStart
      let u := s.addressed .abus0
      if x.pecEn && decide (p ≠ .some (BitVec.ofNat 8 (pec (BitVec.ofNat 8 (2 * addr.toNat) :: 0x40 :: count :: body)))) then
        (discardTarget .abus0 (logEvent 0x0B09 (srcBus .abus0) addr.toNat (u.setBus .abus0 { x with pecErr := bump32 x.pecErr 1 }))).send
          (.busAnswer 0 none)
      else
        if x.ctrl.getLsbD 9 then fire0 22 (s.posted addr.toNat body) else s.posted addr.toNat body := by
  have fits : ¬ (count :: body ≠ [] ∧ 16 ≤ (s.bus.abus0.inProduced - s.bus.abus0.inConsumed).toNat) := by omega
  have sound : ¬ (count.toNat = 0 ∨ 32 < count.toNat ∨ (count :: body).length ≠ count.toNat + 1 ∨ (s.bus.abus0.pecEn = true ∧ p = none)) := by
    simp only [List.length_cons]
    rintro (h | h | h | ⟨h, k⟩)
    · omega
    · omega
    · omega
    · exact sent h k
  exact (targetWrite_post answers).trans ((if_neg fits).trans (if_neg sound))

theorem accPost_delivered
    (right : s.bus.abus0.pecEn = true → p = .some (BitVec.ofNat 8 (pec (BitVec.ofNat 8 (2 * addr.toNat) :: 0x40 :: count :: body)))) :
    Completes (.targetWriteCommand .abus0 addr 0x40 (count :: body) (.whole p)) s [.bus, .sent, .link] fun t =>
      t.bus = { s.bus with abus0 := { s.bus.abus0.atStart with
        inbox := put s.bus.abus0.inbox (s.bus.abus0.inProduced.toNat % 16) ⟨addr.toNat, s.time.module, body⟩,
        inProduced := s.bus.abus0.inProduced + 1 } } ∧
      (s.bus.abus0.ctrl.getLsbD 9 = true → Fires false 22 s t) := by
  have passes : ¬ (s.bus.abus0.atStart.pecEn &&
      decide (p ≠ .some (BitVec.ofNat 8 (pec (BitVec.ofNat 8 (2 * addr.toNat) :: 0x40 :: count :: body))))) = true := by
    simp only [Bool.and_eq_true, decide_eq_true_eq, not_and, not_not]
    exact right
  have run := (targetWrite_whole answers room nonempty short whole (fun on => by simp [right on])).trans (if_neg passes)
  refine completes_of rfl run ?_ ⟨?_, ?_⟩
  · have posted := onlyIn_posted addr.toNat body s
    exact onlyIn_ite (onlyIn_trans (onlyIn_mono posted (by decide)) (onlyIn_mono (onlyIn_fire _ _ _) (by decide))) (onlyIn_mono posted (by decide))
  · split
    · exact fire0_bus _ _
    · rfl
  · intro tells
    rw [if_pos (show s.bus.abus0.atStart.ctrl.getLsbD 9 = true from tells)]
    exact fires_fire rfl

theorem accPost_badPec (on : s.bus.abus0.pecEn = true) (sent : p ≠ none)
    (wrong : p ≠ .some (BitVec.ofNat 8 (pec (BitVec.ofNat 8 (2 * addr.toNat) :: 0x40 :: count :: body)))) :
    Completes (.targetWriteCommand .abus0 addr 0x40 (count :: body) (.whole p)) s (.bus :: reporting) fun t =>
      t.bus = { s.bus with abus0 := { s.bus.abus0.atStart with
        pecErr := bump32 s.bus.abus0.pecErr 1, aborts := bump32 s.bus.abus0.aborts 1, tgtBusy := false } } ∧
      t.sent.head? = .some (.busAnswer 0 none) ∧ Reports 0x0B09 (srcBus .abus0) t ∧ Reports 0x0B08 (srcBus .abus0) t := by
  have fails : (s.bus.abus0.atStart.pecEn &&
      decide (p ≠ .some (BitVec.ofNat 8 (pec (BitVec.ofNat 8 (2 * addr.toNat) :: 0x40 :: count :: body))))) = true := by
    simp only [Bool.and_eq_true, decide_eq_true_eq]
    exact ⟨on, wrong⟩
  have run := (targetWrite_whole answers room nonempty short whole (fun _ => sent)).trans (if_pos fails)
  refine completes_of rfl run ?_ ⟨?_, rfl, reports_send _ (reports_after (reports_logEvent (by decide)) (by decide) (by decide)),
    reports_send _ (reports_logEvent (by decide))⟩
  · refine onlyIn_trans ?_ (onlyIn_trans (onlyIn_discardTarget .abus0 _) (onlyIn_mono (onlyIn_send _ _) (by decide)))
    exact onlyIn_trans (onlyIn_mono (onlyIn_addressed .abus0 s) (by decide)) (onlyIn_setBus_logEvent _ _ .abus0 _ _)
  · show (logEvent _ _ _ (State.setBus (logEvent _ _ _ _) _ _)).bus = _
    rw [logEvent_bus, setBus_bus, logEvent_bus]
    rfl

end

/-! ## INBOX_CONSUMED (R349) -/

section
variable {v : U32} {s : State} (reaches : Reachable s) (on : busOn .abus0 s = true)
include reaches on

theorem inboxConsumed_inside (inside : (v - s.bus.abus0.inConsumed).toNat ≤ (s.bus.abus0.inProduced - s.bus.abus0.inConsumed).toNat) :
    Completes (.inboxConsumed .abus0 v) s [.bus] fun t => t.bus = { s.bus with abus0 := { s.bus.abus0 with inConsumed := v } } := by
  have run : inboxConsume .abus0 v s = s.setBus .abus0 { s.bus.abus0 with inConsumed := v } := by
    simp only [inboxConsume, on, Bool.not_true, Bool.false_eq_true, if_false, ne_eq, not_true]
    exact if_pos inside
  exact completes_of (congrArg Host.Outcome.next (bridged_reaches reaches)) run (onlyIn_setBus _ _ _) rfl

theorem inboxConsumed_outside (outside : (s.bus.abus0.inProduced - s.bus.abus0.inConsumed).toNat < (v - s.bus.abus0.inConsumed).toNat) :
    Completes (.inboxConsumed .abus0 v) s reporting fun t => Reports 0x0B0F (srcBus .abus0) t := by
  have run : inboxConsume .abus0 v s = logEvent 0x0B0F (srcBus .abus0) v.toNat s := by
    simp only [inboxConsume, on, Bool.not_true, Bool.false_eq_true, if_false, ne_eq, not_true]
    exact if_neg (Nat.not_le.mpr outside)
  exact completes_of (congrArg Host.Outcome.next (bridged_reaches reaches)) run (onlyIn_logEvent _ _ _ _) (reports_logEvent (by decide))

end

/-- Settles O17: what a target answers follows from the code it gets, what a post does from the room in the inbox and from its PEC. -/
theorem targetsAnswerCommands : Obligations.TargetsAnswerCommands := by
  unfold Obligations.TargetsAnswerCommands
  intro b addr code data ending v s
  refine ⟨fun answers unknown => ⟨targetReadCommand_unknown answers unknown, targetWriteCommand_unknown answers unknown data ending⟩,
    fun answers known d read => targetReadCommand_answers answers known read, fun answers count body p => ⟨?_, ?_, ?_⟩, fun reaches on => ⟨?_, ?_⟩⟩
  · exact accPost_full answers
  · exact accPost_delivered answers
  · exact accPost_badPec answers
  · exact inboxConsumed_inside reaches on
  · exact inboxConsumed_outside reaches on

/-! ## HBUS in DORMANT (R350) -/

theorem hbusIdleTimeout_sleeps {s : State} (dormant : s.mode.mode = .dormant) : Completes .hbusIdleTimeout s [.time, .bus] fun t =>
    t.bus = { s.bus with hbus := { s.bus.hbus with engineIdle := true } } ∧ s.bus.hbusHeard + 100 * Config.ms ≤ t.time.now :=
  ⟨_, congrArg Host.Outcome.next (if_pos dormant), onlyIn_trans (onlyIn_mono (onlyIn_reachNow _ s) (by decide))
    (onlyIn_mono (onlyIn_setBus _ .hbus _) (by decide)), rfl, reachNow_reaches _ s⟩

section
variable {addr : Byte} {s : State} (idle : s.bus.hbus.engineIdle = true) (powered : s.power.aoOn = true) (enabled : s.bus.hbus.tgtEn = true)
  (mine : tgtMatch s.bus.hbus.tgtAddr s.bus.hbus.tgtMode addr.toNat = true)
include idle powered enabled mine

omit idle in
theorem targetNamed_hbus : targetNamed .hbus addr.toNat s = true := by
  have on : busOn .hbus s = true := powered
  have enables : (s.bus.get .hbus).tgtEn = true := enabled
  have names : tgtMatch (s.bus.get .hbus).tgtAddr (s.bus.get .hbus).tgtMode addr.toNat = true := mine
  simp [targetNamed, targetActive, on, enables, names]

/-- An idle engine wakes at its own address, whichever command it was sent. -/
theorem wakeHbus_wakes {c : Instr} (run : exec c s = .next (wakeHbus .hbus addr.toNat s)) : Completes c s [.bus, .sent] fun t =>
    t.bus = { s.bus with
      hbus := { s.bus.hbus with engineIdle := false, sleepNacks := bump32 s.bus.hbus.sleepNacks 1 }, hbusHeard := s.time.now } ∧
    t.sent = .busAnswer 2 none :: s.sent := by
  have named : (targetNamed .hbus addr.toNat s && (s.bus.get .hbus).engineIdle) = true := by
    rw [targetNamed_hbus powered enabled mine]
    exact idle
  refine completes_of run (if_pos named) ?_ ⟨rfl, rfl⟩
  exact onlyIn_trans (onlyIn_mono (onlyIn_setBus s .hbus _) (by decide)) (onlyIn_trans (onlyIn_mono (onlyIn_send _ _) (by decide))
    (onlyIn_mono (onlyIn_heardHbus .hbus _) (by decide)))

theorem idleHbus_wakes : ∀ c ∈ ([.hbusWake addr, .targetReadCommand .hbus addr 1, .targetWriteCommand .hbus addr 0x40 [] .broken] : List Instr),
    Completes c s [.bus, .sent] fun t =>
      t.bus = { s.bus with
        hbus := { s.bus.hbus with engineIdle := false, sleepNacks := bump32 s.bus.hbus.sleepNacks 1 }, hbusHeard := s.time.now } ∧
      t.sent = .busAnswer 2 none :: s.sent := by
  have silent : ¬ targetAnswers .hbus addr.toNat s = true := by
    have sleeps : (s.bus.get .hbus).engineIdle = true := idle
    simp [targetAnswers, sleeps]
  simp only [List.forall_mem_cons]
  refine ⟨wakeHbus_wakes idle powered enabled mine rfl, wakeHbus_wakes idle powered enabled mine ?_,
    wakeHbus_wakes idle powered enabled mine ?_, fun c none => absurd none List.not_mem_nil⟩
  · exact congrArg Host.Outcome.next (if_neg silent)
  · exact congrArg Host.Outcome.next (if_neg silent)

end

/-! ## The end of a controller's transaction (R336, R340, R341) -/

/-- An engine whose transaction ends counts it. -/
def Bus.ended (x : Bus) (e : ControllerEnd) : Bus := match e with
  | .done => x
  | .nack => { x with nacks := bump32 x.nacks 1 }
  | .arbitrationLost => { x with arbLost := bump32 x.arbLost 1 }
  | .busError => { x with busErr := bump32 x.busErr 1 }
  | .sclTimeout => { x with timeouts := bump32 x.timeouts 1 }

/-- The event of an end. -/
def endCode (e : ControllerEnd) : Option Nat := match e with
  | .done => none
  | .nack => none
  | .arbitrationLost => some 0x0B01
  | .busError => some 0x0B02
  | .sclTimeout => some 0x0B03

/-- An end counts, and is logged where it has an event. -/
theorem noteEnd_of (b : BusId) (e : ControllerEnd) (s : State) : noteEnd b e s = match endCode e with
    | none => s.setBus b ((s.bus.get b).ended e)
    | some code => s.busNoted code b ((s.bus.get b).ended e) := by
  cases e
  case done => exact (setBus_get s b).symm
  all_goals rfl

theorem noteEnd_quiet {e : ControllerEnd} (quiet : endCode e = none) (b : BusId) (s : State) :
    noteEnd b e s = s.setBus b ((s.bus.get b).ended e) := by rw [noteEnd_of, quiet]

theorem noteEnd_bus (b : BusId) (e : ControllerEnd) (s : State) : (noteEnd b e s).bus = s.bus.set b ((s.bus.get b).ended e) := by
  rw [noteEnd_of]
  split
  · rfl
  · exact busNoted_bus _ _ _ _

theorem onlyIn_noteEnd (b : BusId) (e : ControllerEnd) (s : State) : onlyIn (.bus :: reporting) s (noteEnd b e s) := by
  rw [noteEnd_of]
  split
  · exact onlyIn_mono (onlyIn_setBus s b _) (by decide)
  · exact onlyIn_busNoted s _ b _

theorem reportsOnly_noteEnd (b : BusId) (e : ControllerEnd) (s : State) : reportsOnly s (noteEnd b e s) := by
  rw [noteEnd_of]
  split
  · exact ⟨rfl, rfl⟩
  · exact reportsOnly_logEvent _ _ _ _

theorem noteEnd_reports {e : ControllerEnd} {code : Nat} (noted : endCode e = some code) (b : BusId) (s : State) :
    Reports code (srcBus b) (noteEnd b e s) := by
  have known : (severity code).isSome := by
    cases e <;> cases noted <;> decide
  simp only [noteEnd_of, noted]
  exact busNoted_reports s b _ known

/-! ## Host Notify (R351) -/

/-- Time passes, and nothing else. -/
def State.atTime (s : State) (τ : TimeUnit) : State := { s with time := τ }

theorem onlyIn_atTime (τ : TimeUnit) (s : State) : onlyIn [.time] s (s.atTime τ) := by
  intro q hq; cases q <;> simp [Part.same, State.atTime] at hq ⊢

/-- A notice waits until 10 ms after the last; nothing else moves. -/
theorem noticeMoment_eq (s : State) : ∃ τ, noticeMoment s = s.atTime τ ∧ ∀ q, s.bus.lastNotice = some q → q + 10 * Config.ms ≤ τ.now := by
  unfold noticeMoment
  cases last : s.bus.lastNotice with
  | none => exact ⟨s.time, rfl, fun q h => nomatch h⟩
  | some q =>
    refine ⟨_, rfl, ?_⟩
    rintro _ ⟨⟩
    exact reachNow_reaches _ s

/-- A notice has left, and ended in some way. -/
def State.notified (s : State) (e : ControllerEnd) : State :=
  let u := noteEnd .hbus e (seesStart .hbus (s.send (.hostNotify s.noticeAddress s.noticeWord)))
  { u with bus := { u.bus with lastNotice := some u.time.now } }

theorem onlyIn_notified (e : ControllerEnd) (s : State) : onlyIn (.bus :: reporting) s (s.notified e) :=
  onlyIn_trans (onlyIn_mono (onlyIn_send _ s) (by decide)) (onlyIn_trans (onlyIn_mono (onlyIn_setBus _ .hbus _) (by decide))
    (onlyIn_trans (onlyIn_noteEnd .hbus e _) (onlyIn_mono (onlyIn_withBus _ _) (by decide))))

theorem reportsOnly_notified (e : ControllerEnd) (s : State) : reportsOnly s (s.notified e) :=
  reportsOnly_noteEnd .hbus e (seesStart .hbus (s.send (.hostNotify s.noticeAddress s.noticeWord)))

theorem notified_bus (e : ControllerEnd) (s : State) :
    (s.notified e).bus = { s.bus with hbus := s.bus.hbus.atStart.ended e, lastNotice := some s.time.now } := by
  have bus := noteEnd_bus .hbus e (seesStart .hbus (s.send (.hostNotify s.noticeAddress s.noticeWord)))
  have time := onlyIn_noteEnd .hbus e (seesStart .hbus (s.send (.hostNotify s.noticeAddress s.noticeWord))) .time (by decide)
  unfold State.notified
  dsimp only
  rw [bus, time]
  rfl

theorem onlyIn_notified_quiet {e : ControllerEnd} (quiet : endCode e = none) (s : State) : onlyIn [.bus, .sent] s (s.notified e) := by
  unfold State.notified
  rw [noteEnd_quiet quiet]
  exact onlyIn_trans (onlyIn_mono (onlyIn_send _ s) (by decide)) (onlyIn_trans (onlyIn_mono (onlyIn_setBus _ .hbus _) (by decide))
    (onlyIn_trans (onlyIn_mono (onlyIn_setBus _ .hbus _) (by decide)) (onlyIn_mono (onlyIn_withBus _ _) (by decide))))

theorem notified_sent_quiet {e : ControllerEnd} (quiet : endCode e = none) (s : State) :
    (s.notified e).sent = .hostNotify s.noticeAddress s.noticeWord :: s.sent := by
  unfold State.notified
  rw [noteEnd_quiet quiet]
  rfl

/-- A notice that failed is due again. -/
def State.retries (s : State) : State := { s with bus := { s.bus with noticeTries := s.bus.noticeTries + 1 } }

/-- A notice is given up. -/
def State.dropped (s : State) : State := s.noticed.setBus .hbus { s.bus.hbus with notifyFail := bump32 s.bus.hbus.notifyFail 1 }

theorem reportsOnly_dropped (s : State) : reportsOnly s s.dropped := ⟨rfl, rfl⟩

theorem onlyIn_dropped (s : State) : onlyIn [.bus] s s.dropped := onlyIn_trans (onlyIn_withBus _ s) (onlyIn_setBus _ .hbus _)

section
variable {e : ControllerEnd} {s : State} (due : s.noticeDue = true)
include due

/-- HOST_NOTIFY sends the notice that is due, at its moment. -/
theorem hostNotify_sends : ∃ τ, exec (.hostNotify e) s = .next (sendNotice e (s.atTime τ)) ∧
    ∀ q, s.bus.lastNotice = some q → q + 10 * Config.ms ≤ τ.now := by
  obtain ⟨τ, moment, apart⟩ := noticeMoment_eq s
  have still : (noticeMoment s).noticeDue = true := by
    rw [moment]
    exact due
  refine ⟨τ, congrArg Host.Outcome.next ?_, apart⟩
  unfold hostNotice
  rw [if_pos still, moment]

theorem hostNotify_done : Completes (.hostNotify .done) s [.time, .bus, .sent] fun t =>
    t.sent = .hostNotify s.noticeAddress s.noticeWord :: s.sent ∧ t.bus.lastNotice = some t.time.now ∧
    (∀ q, s.bus.lastNotice = some q → q + 10 * Config.ms ≤ t.time.now) ∧
    t.bus.hbus.notifyCnt = bump32 s.bus.hbus.notifyCnt 1 ∧ t.bus.noticeMode = modeCode s.mode.mode ∧ t.bus.noticeTries = 0 := by
  obtain ⟨τ, run, apart⟩ := hostNotify_sends (e := .done) due
  refine completes_of run rfl ?_ ⟨rfl, rfl, apart, rfl, rfl, rfl⟩
  refine onlyIn_trans (onlyIn_mono (onlyIn_atTime τ s) (by decide)) (onlyIn_mono (?_ : onlyIn [.bus, .sent] _ _) (by decide))
  exact onlyIn_trans (onlyIn_notified_quiet rfl _) (onlyIn_trans (onlyIn_mono (onlyIn_setBus _ .hbus _) (by decide))
    (onlyIn_mono (onlyIn_withBus _ _) (by decide)))

/-- Before the third failure a notice only counts. -/
theorem hostNotify_again (failed : e ≠ .done) (again : s.bus.noticeTries < 2) :
    ∃ τ, exec (.hostNotify e) s = .next (State.notified (s.atTime τ) e).retries := by
  obtain ⟨τ, run, -⟩ := hostNotify_sends (e := e) due
  have tries : (State.notified (s.atTime τ) e).bus.noticeTries < 2 := by
    rw [notified_bus]
    exact again
  exact ⟨τ, run.trans (congrArg Host.Outcome.next ((if_neg failed).trans (if_pos tries)))⟩

theorem hostNotify_nack (again : s.bus.noticeTries < 2) : Completes (.hostNotify .nack) s [.time, .bus, .sent] fun t =>
    t.sent = .hostNotify s.noticeAddress s.noticeWord :: s.sent ∧ t.bus.noticeTries = s.bus.noticeTries + 1 ∧
    t.bus.noticeMode = s.bus.noticeMode ∧ t.bus.hbus.nacks = bump32 s.bus.hbus.nacks 1 := by
  obtain ⟨τ, run⟩ := hostNotify_again due (e := .nack) (by decide) again
  refine completes_of run rfl ?_ ⟨rfl, rfl, rfl, rfl⟩
  exact onlyIn_trans (onlyIn_mono (onlyIn_atTime τ s) (by decide))
    (onlyIn_trans (onlyIn_mono (onlyIn_notified_quiet rfl _) (by decide)) (onlyIn_mono (onlyIn_withBus _ _) (by decide)))

theorem hostNotify_arbitrationLost (again : s.bus.noticeTries < 2) :
    Completes (.hostNotify .arbitrationLost) s (.time :: .bus :: reporting) fun t =>
      t.bus.noticeTries = s.bus.noticeTries + 1 ∧ t.bus.noticeMode = s.bus.noticeMode ∧
      t.bus.hbus.arbLost = bump32 s.bus.hbus.arbLost 1 ∧ Reports 0x0B01 (srcBus .hbus) t := by
  obtain ⟨τ, run⟩ := hostNotify_again due (e := .arbitrationLost) (by decide) again
  have bus := notified_bus .arbitrationLost (s.atTime τ)
  refine completes_of run rfl ?_ ⟨congrArg (·.noticeTries + 1) bus, congrArg (·.noticeMode) bus, congrArg (·.hbus.arbLost) bus, ?_⟩
  · exact onlyIn_trans (onlyIn_mono (onlyIn_atTime τ s) (by decide))
      (onlyIn_trans (onlyIn_mono (onlyIn_notified _ _) (by decide)) (onlyIn_mono (onlyIn_withBus _ _) (by decide)))
  · exact reports_of (noteEnd_reports (e := .arbitrationLost) rfl .hbus _) rfl rfl

/-- After the third failure a notice is given up. -/
theorem hostNotify_drops (last : 2 ≤ s.bus.noticeTries) (failed : e ≠ .done) :
    Completes (.hostNotify e) s (.time :: .bus :: reporting) fun t =>
      t.bus.hbus.notifyFail = bump32 s.bus.hbus.notifyFail 1 ∧ t.bus.noticeTries = 0 ∧ t.bus.noticeMode = modeCode s.mode.mode ∧
      Reports 0x0B0C (srcBus .hbus) t ∧ (s.bus.hbus.ctrl.getLsbD 10 = true → Fires false 24 s t) := by
  obtain ⟨τ, run, -⟩ := hostNotify_sends (e := e) due
  have bus := notified_bus e (s.atTime τ)
  have tries : ¬ (State.notified (s.atTime τ) e).bus.noticeTries < 2 := by
    rw [bus]
    exact Nat.not_lt.mpr last
  have mode : (State.notified (s.atTime τ) e).mode = s.mode := onlyIn_notified e _ .mode (by decide)
  have fails : (State.notified (s.atTime τ) e).bus.hbus.notifyFail = s.bus.hbus.notifyFail := by
    rw [bus]
    cases e <;> rfl
  have ctrl : (State.notified (s.atTime τ) e).bus.hbus.ctrl = s.bus.hbus.ctrl := by
    rw [bus]
    cases e <;> rfl
  let v := logEvent 0x0B0C (srcBus .hbus) (State.noticeWord (s.atTime τ)) (State.notified (s.atTime τ) e).dropped
  have run' : sendNotice e (s.atTime τ) = if s.bus.hbus.ctrl.getLsbD 10 then fire0 24 v else v := by
    rw [← ctrl]
    exact (if_neg failed).trans (if_neg tries)
  have logged : onlyIn (.bus :: reporting) (s.atTime τ) v :=
    onlyIn_trans (onlyIn_notified e _) (onlyIn_trans (onlyIn_mono (onlyIn_dropped _) (by decide)) (onlyIn_mono (onlyIn_logEvent _ _ _ _) (by decide)))
  have onBus : (if s.bus.hbus.ctrl.getLsbD 10 then fire0 24 v else v).bus = (State.notified (s.atTime τ) e).dropped.bus := by
    rw [apply_ite State.bus, fire0_bus, ite_self]
    exact logEvent_bus _ _ _ _
  refine completes_of run run' ?_ ⟨?_, ?_, ?_, ?_, ?_⟩
  · refine onlyIn_trans (onlyIn_mono (onlyIn_atTime τ s) (by decide)) (onlyIn_mono (ps := .bus :: reporting) ?_ (by decide))
    exact onlyIn_ite (onlyIn_trans logged (onlyIn_mono (onlyIn_fire _ _ _) (by decide))) logged
  · rw [onBus]
    exact congrArg (bump32 · 1) fails
  · rw [onBus]
    rfl
  · rw [onBus]
    exact congrArg (modeCode ·.mode) mode
  · have reported : Reports 0x0B0C (srcBus .hbus) v := reports_logEvent (by decide)
    split
    · exact reports_fire _ _ reported
    · exact reported
  · intro tells
    rw [if_pos tells]
    exact fires_reported (s := s.atTime τ)
      (reportsOnly_trans (reportsOnly_notified e _) (reportsOnly_trans (reportsOnly_dropped _) (reportsOnly_logEvent _ _ _ _)))

end

/-! ## The lens poll (R339) -/

/-- A poll waits until GAP_US after the STOP of the last; nothing else moves. -/
theorem lensMoment_eq (s : State) : ∃ τ, lensMoment s = s.atTime τ ∧
    ∀ p, s.bus.lensStop = some p → p + s.bus.abus0.lensLen.toNat / 65536 * Config.us ≤ τ.now := by
  have gap : field s.bus.abus0.lensLen 16 16 = s.bus.abus0.lensLen.toNat / 65536 := by
    have bound := s.bus.abus0.lensLen.isLt
    unfold field
    omega
  unfold lensMoment
  cases last : s.bus.lensStop with
  | none => exact ⟨s.time, rfl, fun p h => nomatch h⟩
  | some p =>
    refine ⟨_, rfl, ?_⟩
    rintro _ ⟨⟩
    rw [← gap]
    exact reachNow_reaches _ s

/-- A poll has left, and reached its STOP. -/
def State.pollStopped (s : State) (e : ControllerEnd) : State :=
  let u := noteEnd .abus0 e ((seesStart .abus0 s).send s.bus.abus0.pollOut)
  { u with bus := { u.bus with lensStop := some u.time.now } }

/-- A poll that fails keeps the block. -/
def State.unpolled (s : State) : State := { s with bus := s.bus.unpolled }

theorem onlyIn_pollStopped (e : ControllerEnd) (s : State) : onlyIn (.bus :: reporting) s (s.pollStopped e) :=
  onlyIn_trans (onlyIn_mono (onlyIn_setBus s .abus0 _) (by decide)) (onlyIn_trans (onlyIn_mono (onlyIn_send _ _) (by decide))
    (onlyIn_trans (onlyIn_noteEnd .abus0 e _) (onlyIn_mono (onlyIn_withBus _ _) (by decide))))

theorem pollStopped_bus (e : ControllerEnd) (s : State) :
    (s.pollStopped e).bus = { s.bus with abus0 := s.bus.abus0.atStart.ended e, lensStop := some s.time.now } := by
  have bus := noteEnd_bus .abus0 e ((seesStart .abus0 s).send s.bus.abus0.pollOut)
  have time := onlyIn_noteEnd .abus0 e ((seesStart .abus0 s).send s.bus.abus0.pollOut) .time (by decide)
  unfold State.pollStopped
  dsimp only
  rw [bus, time]
  rfl

section
variable {s : State} {bytes : List Byte} (runs : s.bus.abus0.lensCtrl.getLsbD 0 = true) (awake : s.mode.mode ≠ .dormant)
  (powered : s.pdOn 77 = true) (sound : s.bus.abus0.faulted = false) (idle : s.bus.abus0.xfer = none)
include runs awake powered sound idle

/-- LENS_POLL polls, at its moment. -/
theorem lensPoll_polls (e : ControllerEnd) : ∃ τ, exec (.lensPoll e bytes) s = .next (pollLens e bytes (s.atTime τ)) ∧
    ∀ p, s.bus.lensStop = some p → p + s.bus.abus0.lensLen.toNat / 65536 * Config.us ≤ τ.now := by
  obtain ⟨τ, moment, apart⟩ := lensMoment_eq s
  have due : s.lensDue = true := by simp [State.lensDue, runs, awake, powered, sound, idle]
  refine ⟨τ, congrArg Host.Outcome.next ?_, apart⟩
  rw [if_pos due, moment]

theorem lensPoll_done : Completes (.lensPoll .done bytes) s [.time, .bus, .sent] fun t =>
    t.sent = .busMaster 0 (s.bus.abus0.lensCtrl.toNat / 256 % 128) (leBytes 1 (s.bus.abus0.lensCtrl.toNat / 65536 % 256))
      s.bus.abus0.lensBytes :: s.sent ∧
    (∀ p, s.bus.lensStop = some p → p + s.bus.abus0.lensLen.toNat / 65536 * Config.us ≤ t.time.now) ∧
    t.bus = { s.bus with
      lens := padTo 1024 (padTo s.bus.abus0.lensBytes bytes), lensStop := some t.time.now, lensFailing := false,
      abus0 := { s.bus.abus0.atStart with lensOk := true, lensOkCnt := bump32 s.bus.abus0.lensOkCnt 1 } } := by
  obtain ⟨τ, run, apart⟩ := lensPoll_polls (bytes := bytes) runs awake powered sound idle .done
  refine completes_of run rfl ?_ ⟨rfl, apart, rfl⟩
  exact onlyIn_trans (onlyIn_mono (onlyIn_atTime τ s) (by decide)) (onlyIn_trans (onlyIn_mono (onlyIn_setBus _ .abus0 _) (by decide))
    (onlyIn_trans (onlyIn_mono (onlyIn_send _ _) (by decide)) (onlyIn_mono (onlyIn_withBus _ _) (by decide))))

theorem lensPoll_fails {e : ControllerEnd} (failed : e ≠ .done) : Completes (.lensPoll e bytes) s (.time :: .bus :: reporting) fun t =>
    t.bus.lens = s.bus.lens ∧ t.bus.abus0.lensOk = false ∧ t.bus.abus0.lensFailCnt = bump32 s.bus.abus0.lensFailCnt 1 ∧
    t.bus.lensFailing = true ∧ (s.bus.lensFailing = false → Reports 0x0B0D (srcBus .abus0) t) ∧
    (e = .nack → t.bus.abus0.nacks = bump32 s.bus.abus0.nacks 1) ∧
    (e = .arbitrationLost → t.bus.abus0.arbLost = bump32 s.bus.abus0.arbLost 1 ∧ Reports 0x0B01 (srcBus .abus0) t) ∧
    (e = .busError → t.bus.abus0.busErr = bump32 s.bus.abus0.busErr 1 ∧ Reports 0x0B02 (srcBus .abus0) t) ∧
    (e = .sclTimeout → t.bus.abus0.timeouts = bump32 s.bus.abus0.timeouts 1 ∧ Reports 0x0B03 (srcBus .abus0) t) := by
  obtain ⟨τ, run, -⟩ := lensPoll_polls (bytes := bytes) runs awake powered sound idle e
  let u := ((s.atTime τ).pollStopped e).unpolled
  have failing : ((s.atTime τ).pollStopped e).bus.lensFailing = s.bus.lensFailing := congrArg (·.lensFailing) (pollStopped_bus e (s.atTime τ))
  have run' : pollLens e bytes (s.atTime τ) = if s.bus.lensFailing then u else logEvent 0x0B0D (srcBus .abus0) 0 u := by
    rw [← failing]
    exact if_neg failed
  have busU : u.bus = { s.bus with abus0 := s.bus.abus0.atStart.ended e, lensStop := some τ.now }.unpolled :=
    congrArg BusUnit.unpolled (pollStopped_bus e (s.atTime τ))
  have bus : (if s.bus.lensFailing then u else logEvent 0x0B0D (srcBus .abus0) 0 u).bus = u.bus := by
    rw [apply_ite State.bus, logEvent_bus, ite_self]
  have noted {code : Nat} (event : endCode e = some code) :
      Reports code (srcBus .abus0) (if s.bus.lensFailing then u else logEvent 0x0B0D (srcBus .abus0) 0 u) := by
    have reported : Reports code (srcBus .abus0) u := noteEnd_reports (e := e) event .abus0 _
    split
    · exact reported
    · exact reports_logEvent_kept _ _ _ reported
  refine completes_of run run' ?_ ?_
  · have polled : onlyIn (.bus :: reporting) (s.atTime τ) u := onlyIn_trans (onlyIn_pollStopped e _) (onlyIn_mono (onlyIn_withBus _ _) (by decide))
    refine onlyIn_trans (onlyIn_mono (onlyIn_atTime τ s) (by decide)) (onlyIn_mono (ps := .bus :: reporting) ?_ (by decide))
    exact onlyIn_ite polled (onlyIn_trans polled (onlyIn_mono (onlyIn_logEvent _ _ _ _) (by decide)))
  · rw [bus, busU]
    refine ⟨rfl, rfl, ?_, rfl, ?_, ?_, ?_, ?_, ?_⟩
    · cases e <;> rfl
    · intro worked
      rw [if_neg (by simp [worked])]
      exact reports_logEvent (by decide)
    · rintro rfl
      rfl
    · rintro rfl
      exact ⟨rfl, noted rfl⟩
    · rintro rfl
      exact ⟨rfl, noted rfl⟩
    · rintro rfl
      exact ⟨rfl, noted rfl⟩

end

/-! ## PD77 in DORMANT (R338) -/

theorem onlyIn_abusOff (s : State) : onlyIn [.bus, .power] s (abusOff s) := by
  intro q hq; cases q <;> simp [Part.same, abusOff] at hq ⊢

theorem abusOff_pdOn (s : State) : (abusOff s).pdOn 77 = false := by
  have off : (s.power.en.set 77 false).getD 77 false = false := by
    rw [List.getD_eq_getElem?_getD, List.getElem?_set_self']
    cases s.power.en[77]? <;> rfl
  show ((s.power.en.set 77 false).getD 77 false && _ && _) = false
  rw [off, Bool.false_and, Bool.false_and]

theorem dormantAbusPowerOff_off {s : State} (dormant : s.mode.mode = .dormant) (on : s.bus.dormantPower = true) (idle0 : s.bus.abus0.xfer = none)
    (idle1 : s.bus.abus1.xfer = none) : Completes .dormantAbusPowerOff s [.time, .bus, .power] fun t =>
      t.bus.dormantPower = false ∧ t.pdOn 77 = false ∧ s.bus.xferEnd + 10 * Config.ms ≤ t.time.now :=
  completes_of rfl (if_pos ⟨dormant, on, idle0, idle1⟩)
    (onlyIn_trans (onlyIn_mono (onlyIn_reachNow _ s) (by decide)) (onlyIn_mono (onlyIn_abusOff _) (by decide)))
    ⟨rfl, abusOff_pdOn _, reachNow_reaches _ s⟩

/-- Settles O18: each service finds its moment, and its outcome follows from how the transaction ends. -/
theorem busesServeTheModule : Obligations.BusesServeTheModule := by
  unfold Obligations.BusesServeTheModule
  intro addr bytes s
  refine ⟨hbusIdleTimeout_sleeps, idleHbus_wakes, fun due => ?_, fun runs awake powered sound idle => ?_, dormantAbusPowerOff_off⟩
  · exact ⟨hostNotify_done due, hostNotify_nack due, hostNotify_arbitrationLost due, fun last e failed => hostNotify_drops due last failed⟩
  · exact ⟨lensPoll_done runs awake powered sound idle, fun e failed => lensPoll_fails runs awake powered sound idle failed⟩

end Sys2Proof.Machine

/-! PROOFS. PLLs: locks and their failure, holdover, the reference multiplier and the outputs (R411, R413, R414, R416 to R419). -/

namespace Sys2Proof.Machine

/-! ## The PLLs of the clock unit -/

@[simp] theorem clk_get_set (c : ClockUnit) (p : PllId) (x : Pll) : (c.set p x).get p = x := by cases p <;> rfl

theorem clk_get_set_other (c : ClockUnit) {p q : PllId} (x : Pll) (other : q ≠ p) : (c.set p x).get q = c.get q := by
  revert other
  cases p <;> cases q <;> simp [ClockUnit.get, ClockUnit.set]

theorem advance_refs (t : TimeUnit) (n : Nat) : (t.advance n).ref = t.ref ∧ (t.advance n).refActive = t.refActive := by
  unfold TimeUnit.advance
  split
  · exact ⟨rfl, rfl⟩
  · exact ⟨rfl, rfl⟩
  · dsimp only
    split <;> exact ⟨rfl, rfl⟩

/-- The reference that PLL-B should follow does not depend on the moment. -/
theorem reachNow_refWanted (n : Nat) (s : State) : (reachNow n s).refWanted = s.refWanted := by
  obtain ⟨ref, active⟩ := advance_refs s.time (n - s.time.now)
  show (if (s.time.advance _).ref = 0 then 0 else if _ then 1 else (s.time.advance _).refActive) = _
  rw [ref, active]
  rfl

theorem reachNow_vcoTarget (p : PllId) (n : Nat) (s : State) : vcoTarget p (reachNow n s) = vcoTarget p s := by
  unfold vcoTarget
  rw [reachNow_refWanted, reachNow_sync]

theorem notePlls_of_idle {s : State} (idle : s.mode.seq = none) : notePlls s = s := by
  unfold notePlls
  rw [idle]

theorem retryLock_of_none {p : PllId} {s : State} (none : (s.clk.get p).retryAt = none) : retryLock p s = s := by
  unfold retryLock
  rw [none]

/-! ## A lock that is requested (R413, R416) -/

section
variable {p : PllId} {s : State}

/-- A lock aims at the frequency in the lowest band that holds it. -/
def State.locking (s : State) (p : PllId) (e : Nat) : State :=
  { s with clk := s.clk.set p { s.clk.get p with
      state := .locking, agrees := false, band := some e, seed := s.clk.seedOf p, vcoKhz := vcoTarget p s, since := s.time.now, retryAt := none,
      ref := if p = .b then s.refWanted else 0 } }

theorem requestLock_of_some {e : Nat} (band : s.clk.bandFor p (vcoTarget p s) = some e) : requestLock p s = s.locking p e := by
  simp only [requestLock, band]
  rfl

theorem requestLock_of_none (band : s.clk.bandFor p (vcoTarget p s) = none) : requestLock p s = logEvent 0x0203 srcAo (pllNum p)
    { s with clk := s.clk.set p { s.clk.get p with state := .failed, retryAt := none } } := by
  simp only [requestLock, band]

theorem pllCmdLock_locks {e : Nat} (may : s.mayRelock p = true) (band : s.clk.bandFor p (vcoTarget p s) = some e) :
    Completes (.pllCmdLock p) s [.clk] fun t =>
      (t.clk.get p).state = .locking ∧ (t.clk.get p).band = some e ∧ (t.clk.get p).seed = s.clk.seedOf p ∧ (t.clk.get p).since = s.time.now := by
  refine completes_of rfl ((if_pos may).trans (requestLock_of_some band)) (onlyIn_withClk _ s) ?_
  simp only [State.locking, clk_get_set, and_self]

theorem pllCmdLock_fails (may : s.mayRelock p = true) (band : s.clk.bandFor p (vcoTarget p s) = none) :
    Completes (.pllCmdLock p) s (.clk :: reporting) fun t => (t.clk.get p).state = .failed ∧ Reports 0x0203 srcAo t := by
  refine completes_of rfl ((if_pos may).trans (requestLock_of_none band)) ?_ ⟨?_, reports_logEvent (by decide)⟩
  · exact onlyIn_trans (onlyIn_mono (onlyIn_withClk _ s) (by decide)) (onlyIn_mono (onlyIn_logEvent _ _ _ _) (by decide))
  · rw [logEvent_clk]
    simp only [clk_get_set]

theorem pllCmdLock_ignored (outside : s.mode.mode ≠ .service) : exec (.pllCmdLock p) s = .next s :=
  congrArg Host.Outcome.next (if_neg (by simp [State.mayRelock, outside]))

/-! ## A lock that completes, or fails (R416, R417) -/

/-- The clock unit after a lock. -/
def ClockUnit.locked (c : ClockUnit) (p : PllId) : ClockUnit :=
  let x := c.get p
  let d := c.set p { x with state := .locked, agrees := true, locks := x.locks + 1, tries := 0, refPresent := true }
  if 0 < x.locks then { d with relockCnt := bump32 d.relockCnt 1 } else d

theorem locked_get (c : ClockUnit) (p : PllId) : (c.locked p).get p =
    { c.get p with state := .locked, agrees := true, locks := (c.get p).locks + 1, tries := 0, refPresent := true } := by
  simp only [ClockUnit.locked]
  split <;> cases p <;> rfl

theorem locked_get_other (c : ClockUnit) {p q : PllId} (other : q ≠ p) : (c.locked p).get q = c.get q := by
  rw [← clk_get_set_other c { c.get p with state := .locked, agrees := true, locks := (c.get p).locks + 1, tries := 0, refPresent := true } other]
  simp only [ClockUnit.locked]
  split <;> cases q <;> rfl

theorem locked_relockCnt (c : ClockUnit) (p : PllId) :
    (c.locked p).relockCnt = if 0 < (c.get p).locks then bump32 c.relockCnt 1 else c.relockCnt := by
  simp only [ClockUnit.locked]
  split <;> cases p <;> rfl

theorem completeLock_clk (p : PllId) (s : State) : (completeLock p s).clk = s.clk.locked p := logEvent_clk _ _ _ _

theorem completeLock_now (p : PllId) (s : State) : (completeLock p s).time.now = s.time.now := by
  show (logEvent _ _ _ _).time.now = _
  rw [logEvent_time]
  cases p <;> rfl

theorem onlyIn_withClkTime (c : ClockUnit) (τ : TimeUnit) (s : State) : onlyIn [.time, .clk] s { s with clk := c, time := τ } := by
  intro q hq; cases q <;> simp [Part.same] at hq ⊢

theorem onlyIn_completeLock (p : PllId) (s : State) : onlyIn ([.time, .clk] ++ reporting) s (completeLock p s) :=
  onlyIn_trans (onlyIn_mono (onlyIn_withClkTime _ _ s) (by decide)) (onlyIn_mono (onlyIn_logEvent _ _ _ _) (by decide))

theorem completeLock_reports (p : PllId) (s : State) : Reports 0x0201 srcAo (completeLock p s) := reports_logEvent (by decide)

/-- A detector that agrees completes the lock that the retry, if one is due, has asked for. -/
theorem lockDetect_completes {u : State} (tried : retryLock p s = u) (idle : u.mode.seq = none) (locking : (u.clk.get p).state = .locking)
    (here : u.refHere p (u.clk.get p).ref = true) :
    lockDetect p s = completeLock p (reachNow ((u.clk.get p).since + lockTime p) u) := by
  unfold lockDetect
  rw [tried]
  refine (if_pos ⟨locking, here⟩).trans (notePlls_of_idle ?_)
  rw [onlyIn_completeLock p _ .mode (by decide)]
  exact idle

section
variable (idle : s.mode.seq = none) (locking : (s.clk.get p).state = .locking) (once : (s.clk.get p).retryAt = none)
include idle locking once

theorem pllLockDetect_locks (here : s.refHere p (s.clk.get p).ref = true) :
    Completes (.pllLockDetect p) s ([.time, .clk] ++ reporting) fun t =>
      (t.clk.get p).state = .locked ∧ (t.clk.get p).locks = (s.clk.get p).locks + 1 ∧ (s.clk.get p).since + lockTime p ≤ t.time.now ∧
      t.clk.relockCnt = (if 0 < (s.clk.get p).locks then bump32 s.clk.relockCnt 1 else s.clk.relockCnt) ∧
      (∀ q, q ≠ p → t.clk.get q = s.clk.get q) ∧ Reports 0x0201 srcAo t := by
  refine completes_of rfl (lockDetect_completes (retryLock_of_none once) idle locking here)
    (onlyIn_trans (onlyIn_mono (onlyIn_reachNow _ s) (by decide)) (onlyIn_completeLock p _)) ?_
  rw [completeLock_clk, completeLock_now, reachNow_clk, locked_get]
  exact ⟨rfl, rfl, reachNow_reaches _ s, locked_relockCnt _ p, fun q other => locked_get_other _ other, completeLock_reports p _⟩

/-- The clock unit after a lock that failed at a moment. -/
def ClockUnit.unlocked (c : ClockUnit) (p : PllId) (now : Nat) : ClockUnit :=
  let x := c.get p
  let d := c.set p { x with
    state := .failed, agrees := false, tries := x.tries + 1, retryAt := if x.tries = 0 then some (now + 10 * Config.ms) else none }
  { d with relockFail := bump32 d.relockFail 1 }

omit idle locking once in
theorem unlocked_get (c : ClockUnit) (now : Nat) : (c.unlocked p now).get p =
    { c.get p with
      state := .failed, agrees := false, tries := (c.get p).tries + 1,
      retryAt := if (c.get p).tries = 0 then some (now + 10 * Config.ms) else none } := by cases p <;> rfl

omit idle locking once in
theorem unlocked_get_other (c : ClockUnit) (now : Nat) {q : PllId} (other : q ≠ p) : (c.unlocked p now).get q = c.get q := by
  revert other
  cases p <;> cases q <;> simp [ClockUnit.unlocked, ClockUnit.get, ClockUnit.set]

omit idle locking once in
theorem unlocked_relockFail (c : ClockUnit) (now : Nat) : (c.unlocked p now).relockFail = bump32 c.relockFail 1 := by cases p <;> rfl

theorem pllLockTimeout_fails : Completes (.pllLockTimeout p) s ([.time, .clk] ++ reporting) fun t =>
    (t.clk.get p).state = .failed ∧ (t.clk.get p).retryAt = (if (s.clk.get p).tries = 0 then some (t.time.now + 10 * Config.ms) else none) ∧
    (s.clk.get p).since + 10 * lockTime p ≤ t.time.now ∧ t.clk.relockFail = bump32 s.clk.relockFail 1 ∧
    (∀ q, q ≠ p → t.clk.get q = s.clk.get q) ∧ Reports 0x0204 srcAo t := by
  let u := reachNow ((s.clk.get p).since + 10 * lockTime p) s
  let w : State := { u with clk := s.clk.unlocked p u.time.now }
  have run : lockTimeout p s = logEvent 0x0204 srcAo (pllNum p) w := by
    unfold lockTimeout
    rw [retryLock_of_none once]
    refine (if_pos locking).trans (notePlls_of_idle ?_)
    rw [logEvent_mode]
    exact idle
  refine completes_of rfl run ?_ ?_
  · exact onlyIn_trans (onlyIn_mono (onlyIn_reachNow _ s) (by decide))
      (onlyIn_trans (onlyIn_mono (onlyIn_withClk _ u) (by decide)) (onlyIn_mono (onlyIn_logEvent _ _ _ _) (by decide)))
  · rw [logEvent_clk, logEvent_time]
    show ((s.clk.unlocked p u.time.now).get p).state = _ ∧ ((s.clk.unlocked p u.time.now).get p).retryAt = _ ∧ _
    rw [unlocked_get]
    exact ⟨rfl, rfl, reachNow_reaches _ s, unlocked_relockFail _ _, fun q other => unlocked_get_other _ _ other, reports_logEvent (by decide)⟩

end

/-- Without its reference the detector has nothing to agree with. -/
theorem pllLockDetect_ignored (once : (s.clk.get p).retryAt = none) (away : s.refHere p (s.clk.get p).ref = false) :
    Completes (.pllLockDetect p) s [] fun _ => True := by
  refine completes_of (u := s) rfl ?_ (onlyIn_refl _ s) trivial
  unfold lockDetect
  rw [retryLock_of_none once]
  exact if_neg fun h => Bool.false_ne_true (away.symm.trans h.2)

theorem pllLockDetect_retries {due e : Nat} (idle : s.mode.seq = none) (again : (s.clk.get p).retryAt = some due) (on : s.pdOn (pllDomain p) = true)
    (band : s.clk.bandFor p (vcoTarget p s) = some e) (here : s.refHere p (if p = .b then s.refWanted else 0) = true) :
    Completes (.pllLockDetect p) s ([.time, .clk] ++ reporting) fun t =>
      (t.clk.get p).state = .locked ∧ (t.clk.get p).band = some e ∧ due + lockTime p ≤ t.time.now ∧ Reports 0x0201 srcAo t := by
  let u := (reachNow due s).locking p e
  have tried : retryLock p s = u := by
    simp only [retryLock, again, on, if_true]
    exact requestLock_of_some (by rw [reachNow_clk, reachNow_vcoTarget]; exact band)
  have pll : u.clk.get p = { s.clk.get p with
      state := .locking, agrees := false, band := some e, seed := s.clk.seedOf p, vcoKhz := vcoTarget p s, since := (reachNow due s).time.now,
      retryAt := none, ref := if p = .b then s.refWanted else 0 } := by
    show (ClockUnit.set _ p _).get p = _
    rw [clk_get_set, reachNow_clk, reachNow_refWanted, reachNow_vcoTarget]
  have refs : u.refHere p (u.clk.get p).ref = true := by
    rw [pll]
    refine Eq.trans ?_ here
    unfold State.refHere
    show (if _ then _ else (ClockUnit.set _ p _).xrefPresent) = _
    cases p <;> rfl
  refine completes_of rfl (lockDetect_completes tried idle (by rw [pll]) refs) ?_ ?_
  · exact onlyIn_trans (onlyIn_mono (onlyIn_reachNow due s) (by decide)) (onlyIn_trans (onlyIn_mono (onlyIn_withClk _ (reachNow due s)) (by decide))
      (onlyIn_trans (onlyIn_mono (onlyIn_reachNow _ u) (by decide)) (onlyIn_completeLock p _)))
  · rw [completeLock_clk, completeLock_now, reachNow_clk, locked_get, pll]
    refine ⟨rfl, rfl, ?_, completeLock_reports p _⟩
    have late : (u.clk.get p).since + lockTime p ≤ (reachNow ((u.clk.get p).since + lockTime p) u).time.now := reachNow_reaches _ u
    rw [pll] at late
    exact (Nat.add_le_add_right (reachNow_reaches due s) _).trans late

/-! ## Holdover (R411, R418) -/

/-- The clock unit after a PLL that was locked has lost its reference. -/
def ClockUnit.heldOver (c : ClockUnit) (p : PllId) : ClockUnit :=
  let d := c.set p { c.get p with state := .holdover, agrees := false, refPresent := false }
  { d with holdoverCnt := bump32 d.holdoverCnt 1, lockLoss := bump32 d.lockLoss 1 }

/-- What a PLL that enters holdover leaves to be logged. -/
def State.heldOver (s : State) (p : PllId) : State :=
  { s with clk := s.clk.heldOver p, time := if p = .b then { s.time with offsetPpb := s.offsetNow } else s.time }

theorem enterHoldover_of_locked (locked : (s.clk.get p).state = .locked) :
    enterHoldover p s = logEvent 0x0202 srcAo (pllNum p) (s.heldOver p) := if_pos locked

theorem enterHoldover_of_unlocked (unlocked : (s.clk.get p).state ≠ .locked) :
    enterHoldover p s = { s with clk := s.clk.set p { s.clk.get p with refPresent := false } } := if_neg unlocked

theorem heldOver_now (s : State) (p : PllId) : (s.heldOver p).time.now = s.time.now := by cases p <;> rfl

theorem heldOver_get (c : ClockUnit) (p : PllId) :
    (c.heldOver p).get p = { c.get p with state := .holdover, agrees := false, refPresent := false } := by cases p <;> rfl

theorem onlyIn_enterHoldover (p : PllId) (s : State) : onlyIn ([.time, .clk] ++ reporting) s (enterHoldover p s) := by
  by_cases locked : (s.clk.get p).state = .locked
  · rw [enterHoldover_of_locked locked]
    exact onlyIn_trans (onlyIn_mono (onlyIn_withClkTime _ _ s) (by decide)) (onlyIn_mono (onlyIn_logEvent _ _ _ _) (by decide))
  · rw [enterHoldover_of_unlocked locked]
    exact onlyIn_mono (onlyIn_withClk _ s) (by decide)

theorem pllRefLoss_locked (locked : (s.clk.get p).state = .locked) : Completes (.pllRefLoss p) s ([.time, .clk] ++ reporting) fun t =>
    t.clk.get p = { s.clk.get p with state := .holdover, agrees := false, refPresent := false } ∧
    t.clk.holdoverCnt = bump32 s.clk.holdoverCnt 1 ∧ t.clk.lockLoss = bump32 s.clk.lockLoss 1 ∧ t.time.now = s.time.now ∧
    Reports 0x0202 srcAo t := by
  refine completes_of rfl rfl (onlyIn_enterHoldover p s) ?_
  rw [enterHoldover_of_locked locked, logEvent_clk, logEvent_time]
  refine ⟨heldOver_get _ p, ?_, ?_, heldOver_now s p, reports_logEvent (by decide)⟩
  · cases p <;> rfl
  · cases p <;> rfl

theorem pllRefLoss_unlocked (unlocked : (s.clk.get p).state ≠ .locked) : Completes (.pllRefLoss p) s [.clk] fun t =>
    t.clk = s.clk.set p { s.clk.get p with refPresent := false } :=
  completes_of rfl (enterHoldover_of_unlocked unlocked) (onlyIn_withClk _ s) rfl

theorem pllRefReturn_resumes (back : s.refBack p = true) (held : (s.clk.get p).state = .holdover) :
    Completes (.pllRefReturn p) s (.clk :: reporting) fun t =>
      t.clk.get p = { s.clk.get p with state := .locked, agrees := true, refPresent := true } ∧ t.clk.relockCnt = s.clk.relockCnt ∧
      Reports 0x0205 srcAo t := by
  refine completes_of rfl ((if_pos back).trans (if_pos held)) ?_ ?_
  · exact onlyIn_trans (onlyIn_mono (onlyIn_withClk _ s) (by decide)) (onlyIn_mono (onlyIn_logEvent _ _ _ _) (by decide))
  · rw [logEvent_clk]
    refine ⟨clk_get_set _ p _, ?_, reports_logEvent (by decide)⟩
    dsimp only
    split <;> cases p <;> rfl

end

/-! ## XREF (R411) -/

section
variable {p : PllId} {s : State}

theorem enterHoldover_xref (p : PllId) (s : State) :
    (enterHoldover p s).clk.onHkosc = s.clk.onHkosc ∧ (enterHoldover p s).clk.xrefPresent = s.clk.xrefPresent := by
  by_cases locked : (s.clk.get p).state = .locked
  · rw [enterHoldover_of_locked locked, logEvent_clk]
    cases p <;> exact ⟨rfl, rfl⟩
  · rw [enterHoldover_of_unlocked locked]
    cases p <;> exact ⟨rfl, rfl⟩

theorem enterHoldover_state_same (p : PllId) (s : State) :
    ((enterHoldover p s).clk.get p).state = if (s.clk.get p).state = .locked then .holdover else (s.clk.get p).state := by
  by_cases locked : (s.clk.get p).state = .locked
  · rw [enterHoldover_of_locked locked, logEvent_clk, if_pos locked]
    exact congrArg Pll.state (heldOver_get _ p)
  · rw [enterHoldover_of_unlocked locked, if_neg locked]
    show ((s.clk.set p _).get p).state = _
    rw [clk_get_set]

theorem enterHoldover_get_other (s : State) {q : PllId} (other : q ≠ p) : (enterHoldover p s).clk.get q = s.clk.get q := by
  by_cases locked : (s.clk.get p).state = .locked
  · rw [enterHoldover_of_locked locked, logEvent_clk]
    refine Eq.trans ?_ (clk_get_set_other s.clk { s.clk.get p with state := .holdover, agrees := false, refPresent := false } other)
    cases q <;> rfl
  · rw [enterHoldover_of_unlocked locked]
    exact clk_get_set_other _ _ other

theorem enterHoldover_reports {code src : Nat} (h : Reports code src s) : Reports code src (enterHoldover p s) := by
  by_cases locked : (s.clk.get p).state = .locked
  · rw [enterHoldover_of_locked locked]
    refine reports_logEvent_kept _ _ _ ?_
    unfold Reports at *
    rw [heldOver_now]
    exact h
  · rw [enterHoldover_of_unlocked locked]
    exact h

/-- All three PLLs enter holdover. -/
def State.allHold (s : State) : State := enterHoldover .c (enterHoldover .b (enterHoldover .a s))

theorem onlyIn_allHold (s : State) : onlyIn ([.time, .clk] ++ reporting) s s.allHold :=
  onlyIn_trans (onlyIn_enterHoldover .a s) (onlyIn_trans (onlyIn_enterHoldover .b _) (onlyIn_enterHoldover .c _))

theorem allHold_holds (q : PllId) (locked : (s.clk.get q).state = .locked) : (s.allHold.clk.get q).state = .holdover := by
  unfold State.allHold
  cases q with
  | a => rw [enterHoldover_get_other _ (by decide), enterHoldover_get_other _ (by decide), enterHoldover_state_same, if_pos locked]
  | b =>
    rw [enterHoldover_get_other _ (by decide), enterHoldover_state_same, enterHoldover_get_other _ (by decide), if_pos locked]
  | c => rw [enterHoldover_state_same, enterHoldover_get_other _ (by decide), enterHoldover_get_other _ (by decide), if_pos locked]

theorem allHold_xref (s : State) : s.allHold.clk.onHkosc = s.clk.onHkosc ∧ s.allHold.clk.xrefPresent = s.clk.xrefPresent := by
  obtain ⟨hkC, xrefC⟩ := enterHoldover_xref .c (enterHoldover .b (enterHoldover .a s))
  obtain ⟨hkB, xrefB⟩ := enterHoldover_xref .b (enterHoldover .a s)
  obtain ⟨hkA, xrefA⟩ := enterHoldover_xref .a s
  exact ⟨hkC.trans (hkB.trans hkA), xrefC.trans (xrefB.trans xrefA)⟩

/-- The reference multiplier is on HKOSC. -/
def State.hkosc (s : State) : State := { s with clk := { s.clk with xrefPresent := false, onHkosc := true } }

theorem xrefLoss_moves (powered : s.power.aoOn = true) : Completes .xrefLoss s ([.time, .clk] ++ reporting) fun t =>
    t.clk.onHkosc = true ∧ t.clk.xrefPresent = false ∧ (∀ q, (s.clk.get q).state = .locked → (t.clk.get q).state = .holdover) ∧
    (s.clk.onHkosc = false → Reports 0x0206 srcAo t) := by
  let u := if s.clk.onHkosc then s.hkosc else logEvent 0x0206 srcAo 0 s.hkosc
  have clk : u.clk = s.hkosc.clk := by
    show (if _ then _ else _ : State).clk = _
    rw [apply_ite State.clk, logEvent_clk, ite_self]
  have moved : onlyIn (.clk :: reporting) s u := onlyIn_ite (onlyIn_mono (onlyIn_withClk _ s) (by decide))
    (onlyIn_trans (onlyIn_mono (onlyIn_withClk _ s) (by decide)) (onlyIn_mono (onlyIn_logEvent _ _ _ _) (by decide)))
  obtain ⟨onHkosc, xref⟩ := allHold_xref u
  rw [clk] at onHkosc xref
  refine completes_of rfl (if_pos powered : loseXref s = u.allHold) (onlyIn_trans (onlyIn_mono moved (by decide)) (onlyIn_allHold u))
    ⟨onHkosc, xref, fun q locked => allHold_holds q ?_, fun ran => ?_⟩
  · show (u.clk.get q).state = _
    rw [clk]
    cases q <;> exact locked
  · have logged : Reports 0x0206 srcAo u := by
      show Reports _ _ (if _ then _ else _ : State)
      rw [if_neg (by simp [ran])]
      exact reports_logEvent (by decide)
    exact enterHoldover_reports (enterHoldover_reports (enterHoldover_reports logged))

theorem xrefReturn_returns : Completes .xrefReturn s [.clk] fun t => t.clk = { s.clk with xrefPresent := true, onHkosc := false } :=
  ⟨_, rfl, onlyIn_withClk _ s, rfl⟩

/-! ## The outputs (R414) -/

theorem field_lt (v : U32) (lo w : Nat) : field v lo w < 2 ^ w := Nat.mod_lt _ (Nat.two_pow_pos w)

theorem formatAfter_lt (old v : U32) (i : Nat) : formatAfter old v i < 8 := by
  unfold formatAfter
  split
  · exact field_lt v _ 3
  · exact field_lt old _ 3

/-- Five digits of four bits, put together and taken apart again. -/
theorem field_digits {f : Nat → Nat} (small : ∀ i, f i < 8) {i : Nat} (output : i < 5) :
    field (BitVec.ofNat 32 (sumNat ((List.range 5).map fun k => 16 ^ k * ((List.range 5).map f).getD k 0))) (4 * i) 3 = f i := by
  have b0 := small 0
  have b1 := small 1
  have b2 := small 2
  have b3 := small 3
  have b4 := small 4
  have whole : sumNat ((List.range 5).map fun k => 16 ^ k * ((List.range 5).map f).getD k 0) =
      f 0 + 16 * f 1 + 256 * f 2 + 4096 * f 3 + 65536 * f 4 := by
    simp [sumNat, List.range_succ]
  rw [whole]
  unfold field
  rw [BitVec.toNat_ofNat]
  interval_cases i <;> omega

theorem getD_rangeMap {f : Nat → Nat} {n i : Nat} (inside : i < n) : ((List.range n).map f).getD i 0 = f i := by
  rw [List.getD_eq_getElem?_getD, List.getElem?_map, List.getElem?_range inside]
  rfl

theorem outCfg_formats (v : U32) : Completes (.outCfg v) s [.clk] fun t => ∀ i, i < 5 →
    field t.clk.outCfg (4 * i) 3 = formatAfter s.clk.outCfg v i ∧
    (field t.clk.outCfg (4 * i) 3 ≠ field s.clk.outCfg (4 * i) 3 → t.clk.outLow.getD i 0 = s.time.now + 10 * Config.us) ∧
    (field t.clk.outCfg (4 * i) 3 = field s.clk.outCfg (4 * i) 3 → t.clk.outLow.getD i 0 = s.clk.outLow.getD i 0) := by
  refine ⟨_, rfl, onlyIn_withClk _ s, fun i output => ?_⟩
  have format : field (writeOutCfg v s).clk.outCfg (4 * i) 3 = formatAfter s.clk.outCfg v i :=
    field_digits (formatAfter_lt s.clk.outCfg v) output
  have low : (writeOutCfg v s).clk.outLow.getD i 0 =
      if formatAfter s.clk.outCfg v i = field s.clk.outCfg (4 * i) 3 then s.clk.outLow.getD i 0 else s.time.now + 10 * Config.us := by
    unfold writeOutCfg
    dsimp only
    rw [getD_rangeMap output, getD_rangeMap output]
  rw [format, low]
  exact ⟨rfl, fun differs => if_neg differs, fun same => if_pos same⟩

end

/-- Settles O45: each event of a PLL is a step of its own state, and the loss of XREF is the loss of all three references. -/
theorem pllsLockAndHoldOver : Obligations.PllsLockAndHoldOver := by
  unfold Obligations.PllsLockAndHoldOver
  intro p v s
  refine ⟨fun idle => ⟨fun locking once => ⟨?_, ?_⟩, fun _ once away => ?_, fun due e again on band here => ?_⟩, pllRefLoss_locked,
    pllRefLoss_unlocked, pllRefReturn_resumes, xrefLoss_moves, xrefReturn_returns, fun may => ⟨fun e band => ?_, fun band => ?_⟩,
    pllCmdLock_ignored, outCfg_formats v⟩
  · exact pllLockDetect_locks idle locking once
  · exact pllLockTimeout_fails idle locking once
  · exact pllLockDetect_ignored once away
  · exact pllLockDetect_retries idle again on band here
  · exact pllCmdLock_locks may band
  · exact pllCmdLock_fails may band

end Sys2Proof.Machine

/-! PROOFS. What a fatal cause starts (R455, R456, R461, R467): the log, FAULT#, the halted engine, and the operations that end. -/

namespace Sys2Proof.Machine

/-! ## A mode change that ends without its mode -/

theorem onlyIn_foldEntry (p : Nat × LedgerEntry) (s : State) : onlyIn ([.settings, .ledger] ++ reporting) s (foldEntry p s) :=
  onlyIn_ite (onlyIn_trans (onlyIn_mono (onlyIn_withLedger _ s) (by decide)) (onlyIn_mono (onlyIn_logFrame _ _ _ _ _) (by decide)))
    (onlyIn_mono (onlyIn_withSettingsLedger _ _ s) (by decide))

theorem onlyIn_foldLedger (s : State) : onlyIn ([.settings, .ledger, .frame] ++ reporting) s (foldLedger s) :=
  onlyIn_trans (onlyIn_mono (onlyIn_each _ onlyIn_foldEntry _ s) (by decide)) (onlyIn_mono (onlyIn_withFrame _ _) (by decide))

theorem onlyIn_viewOff (s : State) : onlyIn [.power] s (viewOff s) := onlyIn_ite (onlyIn_setDomains _ _ s) (onlyIn_refl _ s)

theorem onlyIn_abandonEntry (s : State) : onlyIn ([.settings, .ledger, .frame, .power] ++ reporting) s (abandonEntry s) :=
  onlyIn_ite (onlyIn_trans (onlyIn_mono (onlyIn_foldLedger s) (by decide)) (onlyIn_mono (onlyIn_viewOff _) (by decide))) (onlyIn_refl _ s)

theorem onlyIn_failPowerup (req : Option ReqId) (cause : Nat) (s : State) : onlyIn (.mode :: reporting) s (failPowerup req cause s) :=
  onlyIn_ite (onlyIn_trans (onlyIn_mono (onlyIn_withMode _ s) (by decide)) (onlyIn_mono (onlyIn_logEvent _ _ _ _) (by decide))) (onlyIn_refl _ s)

/-- The units that the end of the accepted operations can change. -/
def stopParts : List Part := [.settings, .ledger, .frame, .power, .mode, .take, .hold] ++ reporting

theorem onlyIn_failChange (c : Change) (event : Nat) (s : State) : onlyIn stopParts s (failChange c event s) :=
  onlyIn_trans (onlyIn_mono (onlyIn_withMode _ s) (by decide)) (onlyIn_trans (onlyIn_mono (onlyIn_abandonEntry _) (by decide))
    (onlyIn_trans (onlyIn_mono (onlyIn_finishOpt _ _ _ _ _) (by decide)) (onlyIn_mono (onlyIn_failPowerup _ _ _) (by decide))))

theorem onlyIn_changeFailed (reason : Nat) (s : State) : onlyIn stopParts s (s.changeFailed reason) := by
  unfold State.changeFailed
  split
  · exact onlyIn_failChange _ _ s
  · exact onlyIn_refl _ s

theorem onlyIn_seqFailed (reason : Nat) (s : State) : onlyIn (.mode :: reporting) s (s.seqFailed reason) := by
  unfold State.seqFailed
  split
  · exact onlyIn_trans (onlyIn_mono (onlyIn_withMode _ s) (by decide)) (onlyIn_trans (onlyIn_mono (onlyIn_finishOpt _ _ _ _ _) (by decide))
      (onlyIn_failPowerup _ _ _))
  · exact onlyIn_refl _ s

theorem onlyIn_abandonChange (reason : Nat) (s : State) : onlyIn stopParts s (abandonChange reason s) :=
  onlyIn_trans (onlyIn_changeFailed reason s)
    (onlyIn_trans (onlyIn_mono (onlyIn_seqFailed reason _) (by decide)) (onlyIn_mono (onlyIn_withMode _ _) (by decide)))

theorem failPowerup_mode (req : Option ReqId) (cause : Nat) (s : State) :
    (failPowerup req cause s).mode.change = s.mode.change ∧ (failPowerup req cause s).mode.seq = s.mode.seq := by
  unfold failPowerup
  split
  · rw [logEvent_mode]
    exact ⟨rfl, rfl⟩
  · exact ⟨rfl, rfl⟩

theorem failChange_change (c : Change) (event : Nat) (s : State) : (failChange c event s).mode.change = none := by
  refine (failPowerup_mode _ _ _).1.trans ?_
  rw [onlyIn_finishOpt _ _ _ _ _ .mode (by decide), onlyIn_abandonEntry _ .mode (by decide)]

theorem changeFailed_change (reason : Nat) (s : State) : (s.changeFailed reason).mode.change = none := by
  unfold State.changeFailed
  split
  · exact failChange_change _ _ s
  · assumption

theorem seqFailed_mode (reason : Nat) (s : State) : (s.seqFailed reason).mode.change = s.mode.change ∧ (s.seqFailed reason).mode.seq = none := by
  unfold State.seqFailed
  split
  · next q waits =>
    obtain ⟨change, seq⟩ := failPowerup_mode q.req reason
      (finishOpt q.req .failed 0 (modeResponse (modeCode s.mode.mode) 1 reason 0) { s with mode := { s.mode with seq := none } })
    rw [change, seq, onlyIn_finishOpt _ _ _ _ _ .mode (by decide)]
    exact ⟨rfl, rfl⟩
  · exact ⟨rfl, by assumption⟩

theorem abandonChange_mode (reason : Nat) (s : State) :
    (abandonChange reason s).mode.change = none ∧ (abandonChange reason s).mode.seq = none := by
  obtain ⟨change, seq⟩ := seqFailed_mode reason (s.changeFailed reason)
  exact ⟨change.trans (changeFailed_change reason s), seq⟩

theorem setDomains_stageFault (l : List Nat) (b : Bool) (s : State) : (s.setDomains l b).power.stageFault = s.power.stageFault := by
  show (l.foldl (fun p d => p.setDomain d b) s.power).stageFault = _
  generalize s.power = p
  induction l generalizing p with
  | nil => rfl
  | cons d l ih => exact ih (p.setDomain d b)

theorem abandonEntry_stageFault (s : State) : (abandonEntry s).power.stageFault = s.power.stageFault := by
  have folded : (foldLedger s).power = s.power := onlyIn_foldLedger s .power (by decide)
  unfold abandonEntry viewOff
  split
  · split
    · rw [setDomains_stageFault, folded]
    · rw [folded]
  · rfl

theorem abandonChange_stageFault (reason : Nat) (s : State) : (abandonChange reason s).power.stageFault = s.power.stageFault := by
  have ended : (s.changeFailed reason).power.stageFault = s.power.stageFault := by
    unfold State.changeFailed
    split
    · unfold failChange
      rw [onlyIn_failPowerup _ _ _ .power (by decide), onlyIn_finishOpt _ _ _ _ _ .power (by decide), abandonEntry_stageFault]
    · rfl
  exact (congrArg PowerUnit.stageFault (onlyIn_seqFailed reason _ .power (by decide))).trans ended

/-! ## The operations that end (R456) -/

theorem onlyIn_abandonOpen (b : Nat) (s : State) : onlyIn [.mbox, .take] s (abandonOpen b s) :=
  onlyIn_trans (onlyIn_mono (onlyIn_withTake _ s) (by decide)) (onlyIn_mono (onlyIn_finishOpt _ _ _ _ _) (by decide))

theorem onlyIn_abandonJob (s : State) : onlyIn [.mbox, .hold] s (abandonJob s) := by
  unfold abandonJob
  split
  · exact onlyIn_refl _ s
  · exact onlyIn_trans (onlyIn_mono (onlyIn_withHold _ s) (by decide)) (onlyIn_mono (onlyIn_finish _ _ _ _ _) (by decide))

/-- After the change, only answers remain to be given. -/
theorem stopAccepted_answers (reason : Nat) (s : State) : onlyIn [.mbox, .take, .hold] (abandonChange reason s) (stopAccepted reason s) :=
  onlyIn_trans (onlyIn_mono (onlyIn_abandonOpen 0 _) (by decide)) (onlyIn_trans (onlyIn_mono (onlyIn_abandonOpen 1 _) (by decide))
    (onlyIn_mono (onlyIn_abandonJob _) (by decide)))

/-- Once the accepted operations have ended, no change of mode is in progress; the engine stays as it was, and so does what was reported. -/
structure Stopped (s t : State) : Prop where
  parts : onlyIn stopParts s t
  halted : t.frame.halted = s.frame.halted
  window : s.frame.window = none → t.frame.window = none
  idle : t.mode.change = none ∧ t.mode.seq = none
  mode : t.mode.mode = s.mode.mode
  stageFault : t.power.stageFault = s.power.stageFault
  reports : ∀ c src, Reports c src s → Reports c src t

theorem stopped_stopAccepted (reason : Nat) (s : State) : Stopped s (stopAccepted reason s) := by
  have answers := stopAccepted_answers reason s
  have changed := retiring_abandonChange reason s
  obtain ⟨change, seq⟩ := abandonChange_mode reason s
  have frame : (stopAccepted reason s).frame = (abandonChange reason s).frame := answers .frame (by decide)
  have mode : (stopAccepted reason s).mode = (abandonChange reason s).mode := answers .mode (by decide)
  have power : (stopAccepted reason s).power = (abandonChange reason s).power := answers .power (by decide)
  refine ⟨onlyIn_trans (onlyIn_abandonChange reason s) (onlyIn_mono answers (by decide)), ?_, ?_, ?_, ?_, ?_, ?_⟩
  · rw [frame, changed.halted]
  · rw [frame]
    exact changed.window
  · rw [mode]
    exact ⟨change, seq⟩
  · rw [mode, changed.mode]
  · rw [power, abandonChange_stageFault]
  · intro c src reported
    exact reports_of (changed.reports c src reported) (answers .log (by decide)) (answers .time (by decide))

/-! ## The start of the sequence (R455) -/

/-- What the detection of a fatal cause leaves, where no sequence runs. -/
structure StartsSequence (cause source : Nat) (watchdog : Bool) (s t : State) : Prop where
  parts : onlyIn ([.dump, .pins] ++ stopParts) s t
  dump : t.dump = { s.dump with fatal := some (s.atFatal cause s.dump.held.isSome watchdog), fatalPending := true }
  pins : t.pins = { s.pins with fault := true }
  halted : t.frame.halted = true ∧ t.frame.window = none
  idle : t.mode.change = none ∧ t.mode.seq = none
  mode : t.mode.mode = s.mode.mode
  stageFault : t.power.stageFault = s.power.stageFault
  reports : Reports cause source t
  reportsHeld : s.dump.held.isSome → Reports 0x0E03 srcDump t

/-- The log notes the cause, and a dump that is held keeps its place. -/
def State.causeNoted (s : State) (cause source data : Nat) : State :=
  let u := logEvent cause source data s
  if s.dump.held.isSome then logEvent 0x0E03 srcDump cause u else u

theorem onlyIn_causeNoted (s : State) (cause source data : Nat) : onlyIn reporting s (s.causeNoted cause source data) :=
  onlyIn_ite (onlyIn_trans (onlyIn_logEvent _ _ _ _) (onlyIn_logEvent _ _ _ _)) (onlyIn_logEvent _ _ _ _)

theorem causeNoted_reports {cause source data : Nat} (s : State) (known : (severity cause).isSome) :
    Reports cause source (s.causeNoted cause source data) := by
  have logged : Reports cause source (logEvent cause source data s) := reports_logEvent known
  unfold State.causeNoted
  split
  · exact reports_logEvent_kept _ _ _ logged
  · exact logged

/-- The sequence is noted, and FAULT# is driven. -/
def State.faultDriven (s : State) (cause source data : Nat) (watchdog : Bool) : State :=
  let u := s.causeNoted cause source data
  { u with dump := { u.dump with fatal := some (s.atFatal cause s.dump.held.isSome watchdog), fatalPending := true },
           pins := { u.pins with fault := true } }

theorem onlyIn_faultDriven (s : State) (cause source data : Nat) (watchdog : Bool) :
    onlyIn ([.dump, .pins] ++ reporting) s (s.faultDriven cause source data watchdog) := by
  refine onlyIn_trans (onlyIn_mono (onlyIn_causeNoted s cause source data) (by decide)) ?_
  intro q hq; cases q <;> simp [Part.same, State.faultDriven] at hq ⊢

theorem onlyIn_haltEngine (s : State) : onlyIn [.frame] s (haltEngine s) := onlyIn_withFrame _ s

theorem fatalCause_of_none {cause source data : Nat} {watchdog : Bool} {s : State} (first : s.dump.fatal = none) :
    fatalCause cause source data watchdog s = stopAccepted cause (haltEngine (fire0 5 (s.faultDriven cause source data watchdog))) := by
  simp only [fatalCause, first]
  rfl

theorem fatalCause_starts {cause source : Nat} (data : Nat) (watchdog : Bool) {s : State} (first : s.dump.fatal = none)
    (known : (severity cause).isSome) : StartsSequence cause source watchdog s (fatalCause cause source data watchdog s) := by
  rw [fatalCause_of_none first]
  let u := s.faultDriven cause source data watchdog
  have driven := onlyIn_faultDriven s cause source data watchdog
  have engine : onlyIn [.sent, .link, .frame] u (haltEngine (fire0 5 u)) :=
    onlyIn_trans (onlyIn_mono (onlyIn_fire false 5 u) (by decide)) (onlyIn_mono (onlyIn_haltEngine _) (by decide))
  have stopped := stopped_stopAccepted cause (haltEngine (fire0 5 u))
  have noted := onlyIn_causeNoted s cause source data
  have kept {c src : Nat} (reported : Reports c src (s.causeNoted cause source data)) : Reports c src (haltEngine (fire0 5 u)) :=
    reports_of (s := u) reported (engine .log (by decide)) (engine .time (by decide))
  have dump : u.dump = { s.dump with fatal := some (s.atFatal cause s.dump.held.isSome watchdog), fatalPending := true } :=
    congrArg (fun d : DumpUnit => { d with fatal := some (s.atFatal cause s.dump.held.isSome watchdog), fatalPending := true })
      (show (s.causeNoted cause source data).dump = s.dump from noted .dump (by decide))
  have pins : u.pins = { s.pins with fault := true } :=
    congrArg (fun p : PinsUnit => { p with fault := true }) (show (s.causeNoted cause source data).pins = s.pins from noted .pins (by decide))
  refine ⟨?_, ?_, ?_, ⟨stopped.halted, stopped.window rfl⟩, stopped.idle, ?_, ?_, stopped.reports _ _ (kept (causeNoted_reports s known)), ?_⟩
  · exact onlyIn_trans (onlyIn_mono driven (by decide)) (onlyIn_trans (onlyIn_mono engine (by decide)) (onlyIn_mono stopped.parts (by decide)))
  · rw [stopped.parts .dump (by decide), engine .dump (by decide), dump]
  · rw [stopped.parts .pins (by decide), engine .pins (by decide), pins]
  · rw [stopped.mode, engine .mode (by decide), driven .mode (by decide)]
  · rw [stopped.stageFault, engine .power (by decide), driven .power (by decide)]
  · intro held
    refine stopped.reports _ _ (kept ?_)
    unfold State.causeNoted
    rw [if_pos held]
    exact reports_logEvent (by decide)

/-- A later cause is logged, and may take the place of the first in the same clock; nothing else changes. -/
theorem onlyIn_fatalCause_of_some {cause source data : Nat} {watchdog : Bool} {s : State} {f : FatalSeq} (runs : s.dump.fatal = some f) :
    onlyIn (.dump :: reporting) s (fatalCause cause source data watchdog s) ∧ (fatalCause cause source data watchdog s).dump.fatal.isSome ∧
    ((severity cause).isSome → Reports cause source (fatalCause cause source data watchdog s)) := by
  have logged := onlyIn_logEvent cause source data s
  simp only [fatalCause, runs]
  split
  · exact ⟨onlyIn_trans (onlyIn_mono logged (by decide)) (onlyIn_mono (onlyIn_withDump _ _) (by decide)), rfl,
      fun known => reports_logEvent known⟩
  · refine ⟨onlyIn_mono (onlyIn_trans logged (onlyIn_logEvent _ _ _ _)) (by decide), ?_,
      fun known => reports_logEvent_kept _ _ _ (reports_logEvent known)⟩
    rw [logEvent_dump, logEvent_dump, runs]
    rfl

end Sys2Proof.Machine

/-! PROOFS. The load (R392, R405) and the temperatures (R45, R473 to R475). -/

namespace Sys2Proof.Machine

/-- What one element of a list reports, the others leave. -/
theorem reports_each {α : Type} {f : α → State → State} {code src : Nat} {a : α} {l : List α} (mem : a ∈ l)
    (makes : ∀ u, Reports code src (f a u)) (keeps : ∀ b u, Reports code src u → Reports code src (f b u)) (s : State) :
    Reports code src (each l f s) := by
  have kept (m : List α) (u : State) (h : Reports code src u) : Reports code src (each m f u) := by
    induction m generalizing u with
    | nil => exact h
    | cons b m ih => exact ih (f b u) (keeps b u h)
  induction l generalizing s with
  | nil => exact absurd mem List.not_mem_nil
  | cons b l ih =>
    rcases List.mem_cons.mp mem with rfl | later
    · exact kept l _ (makes s)
    · exact ih later (f b s)

/-! ## The load (R392, R405) -/

section
variable {load cooler : Nat} {s : State}

theorem onlyIn_limitLoad (load cooler : Nat) (s : State) : onlyIn (.power :: reporting) s (limitLoad load cooler s) := by
  have stored (p : PowerUnit) : onlyIn (.power :: reporting) s { s with power := p } := onlyIn_mono (onlyIn_withPower p s) (by decide)
  unfold limitLoad
  dsimp only
  split
  · split
    · exact stored _
    · exact onlyIn_ite (onlyIn_trans (stored _) (onlyIn_mono (onlyIn_logEvent _ _ _ _) (by decide))) (stored _)
  · split
    · split
      · exact stored _
      · exact onlyIn_ite (stored _) (stored _)
    · exact stored _

/-- The load limit moves its two clocks, the cap and its count, and no other field of the power unit. -/
theorem limitLoad_power (load cooler : Nat) (s : State) : ∃ above below cap count, (limitLoad load cooler s).power =
    { s.power with overSince := above, underSince := below, loadCap := cap, loadLimitCnt := count } := by
  unfold limitLoad
  dsimp only
  split
  · split
    · exact ⟨_, _, _, _, rfl⟩
    · split
      · exact ⟨_, _, _, _, logEvent_power _ _ _ _⟩
      · exact ⟨_, _, _, _, rfl⟩
  · split
    · split
      · exact ⟨_, _, _, _, rfl⟩
      · split <;> exact ⟨_, _, _, _, rfl⟩
    · exact ⟨_, _, _, _, rfl⟩

theorem limitLoad_starts (heavy : 1480 < load) (fresh : s.power.overSince = none) :
    limitLoad load cooler s = { s with power := { s.power with overSince := some s.time.now, underSince := none } } := by
  simp only [limitLoad, heavy, fresh, if_true]

theorem limitLoad_caps (heavy : 1480 < load) {q : Nat} (since : s.power.overSince = some q) (long : q + 100 * Config.ms ≤ s.time.now) :
    limitLoad load cooler s = logEvent 0x010B srcAo load { s with power := { s.power with
      overSince := some s.time.now, underSince := none, loadCap := some (cooler - (load - 1480)),
                      loadLimitCnt := bump32 s.power.loadLimitCnt 1 } } := by
  simp only [limitLoad, heavy, since, long, if_true]

theorem limitLoad_frees (freed : load < 1400) (capped : s.power.loadCap.isSome) {q : Nat} (since : s.power.underSince = some q)
    (long : q + Config.ticksPerSecond ≤ s.time.now) : limitLoad load cooler s =
    { s with power := { s.power with overSince := none, underSince := none, loadCap := none } } := by
  have light : ¬ 1480 < load := by omega
  simp only [limitLoad, light, freed, capped, since, long, and_self, if_true, if_false]

theorem limitLoad_between (low : 1400 ≤ load) (high : load ≤ 1480) :
    limitLoad load cooler s = { s with power := { s.power with overSince := none, underSince := none } } := by
  have light : ¬ 1480 < load := by omega
  have loaded : ¬ load < 1400 := by omega
  simp only [limitLoad, light, loaded, and_false, if_false]

theorem pfcAfter_cases (en : Bool) (ac : Nat) :
    (200 < ac → pfcAfter en ac = true) ∧ (ac < 120 → pfcAfter en ac = false) ∧ (120 ≤ ac → ac ≤ 200 → pfcAfter en ac = en) := by
  unfold pfcAfter
  refine ⟨fun h => if_pos h, fun h => ?_, fun low high => ?_⟩
  · rw [if_neg (by omega), if_pos h]
  · rw [if_neg (by omega), if_neg (by omega)]

end

section
variable {load acPower dcPower acVolts acHz dcVolts store : Nat} {pd : List Nat} {s : State}

/-- The power unit with what a sample measured. -/
def State.sampled (s : State) (load acPower dcPower acVolts acHz dcVolts store : Nat) (pd : List Nat) : State :=
  { s with power := { s.power with
      sampled := s.time.now, load := load, acPower := acPower, dcPower := dcPower, acVolts := acVolts, acHz := acHz, dcVolts := dcVolts,
      holdVolts := store, holdState := s.holdStateAt store, pdPwr := (List.range 81).map fun d => pd.getD d 0 % 2 ^ 16,
      pfcEn := pfcAfter s.power.pfcEn acPower } }

theorem loadSample_watches (powered : s.power.aoOn = true) :
    Completes (.loadSample load acPower dcPower acVolts acHz dcVolts store pd) s (.time :: .power :: reporting) fun t =>
      t.power.load = load ∧ t.power.acPower = acPower ∧ t.power.dcPower = dcPower ∧ t.power.acVolts = acVolts ∧ t.power.holdVolts = store ∧
      t.power.sampled = t.time.now ∧ s.power.sampled + 10 * Config.ms ≤ t.time.now ∧
      (200 < acPower → t.power.pfcEn = true) ∧ (acPower < 120 → t.power.pfcEn = false) ∧
      (120 ≤ acPower → acPower ≤ 200 → t.power.pfcEn = s.power.pfcEn) ∧
      (1480 < load → s.power.overSince = none → t.power.overSince = some t.time.now ∧ t.power.loadCap = s.power.loadCap) ∧
      (1480 < load → ∀ q, s.power.overSince = some q → q + 100 * Config.ms ≤ t.time.now →
        t.power.loadCap = some (pd.getD 79 0 % 2 ^ 16 / 10 - (load - 1480)) ∧ t.power.loadLimitCnt = bump32 s.power.loadLimitCnt 1 ∧
        Reports 0x010B srcAo t) ∧
      (load < 1400 → s.power.loadCap.isSome → ∀ q, s.power.underSince = some q → q + Config.ticksPerSecond ≤ t.time.now →
        t.power.loadCap = none) ∧
      (1400 ≤ load → load ≤ 1480 → t.power.loadCap = s.power.loadCap) := by
  let u := (reachNow (s.power.sampled + 10 * Config.ms) s).sampled load acPower dcPower acVolts acHz dcVolts store pd
  have cooler : ((List.range 81).map fun d => pd.getD d 0 % 2 ^ 16).getD 79 0 / 10 = pd.getD 79 0 % 2 ^ 16 / 10 :=
    congrArg (· / 10) (getD_rangeMap (by decide : 79 < 81))
  have run : sampleLoad load acPower dcPower acVolts acHz dcVolts store pd s = limitLoad load (pd.getD 79 0 % 2 ^ 16 / 10) u := by
    rw [← cooler]
    exact if_pos powered
  have limited := onlyIn_limitLoad load (pd.getD 79 0 % 2 ^ 16 / 10) u
  obtain ⟨_, _, _, _, power⟩ := limitLoad_power load (pd.getD 79 0 % 2 ^ 16 / 10) u
  obtain ⟨above, below, between⟩ := pfcAfter_cases s.power.pfcEn acPower
  have time : (limitLoad load (pd.getD 79 0 % 2 ^ 16 / 10) u).time = u.time := limited .time (by decide)
  have pfc : (limitLoad load (pd.getD 79 0 % 2 ^ 16 / 10) u).power.pfcEn = pfcAfter s.power.pfcEn acPower :=
    congrArg PowerUnit.pfcEn power
  refine completes_of rfl run ?_ ?_
  · exact onlyIn_trans (onlyIn_mono (onlyIn_reachNow _ s) (by decide)) (onlyIn_trans (onlyIn_mono (onlyIn_withPower _ _) (by decide))
      (onlyIn_mono limited (by decide)))
  rw [time, pfc]
  refine ⟨congrArg PowerUnit.load power, congrArg PowerUnit.acPower power, congrArg PowerUnit.dcPower power, congrArg PowerUnit.acVolts power,
    congrArg PowerUnit.holdVolts power, congrArg PowerUnit.sampled power, reachNow_reaches _ s, above, below, between,
    fun heavy fresh => ?_, fun heavy q since long => ?_, fun light capped q since long => ?_, fun low high => ?_⟩
  · rw [limitLoad_starts heavy (s := u) fresh]
    exact ⟨rfl, rfl⟩
  · rw [limitLoad_caps heavy (s := u) since long, logEvent_power]
    exact ⟨rfl, rfl, reports_logEvent (by decide)⟩
  · rw [limitLoad_frees light (s := u) capped since long]
  · rw [limitLoad_between low high]
    rfl

end

/-! ## The temperatures (R473 to R475) -/

section
variable {stack genaz hold power : Int} {s : State}

theorem onlyIn_noteCrossing (i : Nat) (s : State) : onlyIn reporting s (noteCrossing i s) :=
  onlyIn_trans (onlyIn_logEvent _ _ _ _) (onlyIn_mono (onlyIn_fire _ _ _) (by decide))

theorem noteCrossing_reports (i : Nat) (s : State) : Reports 0x010D srcAo (noteCrossing i s) := by
  have logged : Reports 0x010D srcAo (logEvent 0x010D srcAo i s) := reports_logEvent (by decide)
  exact reports_fire false 29 logged

theorem noteCrossing_keeps {code src : Nat} (i : Nat) {s : State} (h : Reports code src s) : Reports code src (noteCrossing i s) := by
  have logged : Reports code src (logEvent 0x010D srcAo i s) := reports_logEvent_kept _ _ _ h
  exact reports_fire false 29 logged

/-- What a comparison finds of the temperatures that are measured now. -/
def State.comparison (s : State) (stack genaz hold power : Int) : ThermalUnit :=
  ({ s.thermal with
      checked := s.time.now, stack := stack, genaz := genaz, hold := hold, power := power,
      working := rampSetpoint s.thermal.applied s.thermal.working } : ThermalUnit).compared (s.pdOn 79)

/-- The thresholds that a comparison crosses. -/
def State.crossings (s : State) (c : ThermalUnit) : List Nat :=
  (List.range 4).filter fun i => c.states.getD i false && !(s.thermal.states.getD i false)

/-- The state with a comparison, and its events. -/
def State.compared (s : State) (c : ThermalUnit) : State :=
  let u := each (s.crossings c) noteCrossing { s with thermal := c }
  if s.thermal.states.any id && !(c.states.any id) then logEvent 0x010E srcAo 0 u else u

theorem onlyIn_compared (s : State) (c : ThermalUnit) : onlyIn (.thermal :: reporting) s (s.compared c) := by
  have crossed : onlyIn (.thermal :: reporting) s (each (s.crossings c) noteCrossing { s with thermal := c }) :=
    onlyIn_trans (onlyIn_mono (onlyIn_withThermal c s) (by decide)) (onlyIn_mono (onlyIn_each _ onlyIn_noteCrossing _ _) (by decide))
  exact onlyIn_ite (onlyIn_trans crossed (onlyIn_mono (onlyIn_logEvent _ _ _ _) (by decide))) crossed

theorem compared_thermal (s : State) (c : ThermalUnit) : (s.compared c).thermal = c := by
  have crossed : (each (s.crossings c) noteCrossing { s with thermal := c }).thermal = c := onlyIn_each _ onlyIn_noteCrossing _ _ .thermal (by decide)
  unfold State.compared
  rw [apply_ite State.thermal, logEvent_thermal, ite_self]
  exact crossed

theorem compared_reports {c : ThermalUnit} {i : Nat} (crossed : i ∈ s.crossings c) : Reports 0x010D srcAo (s.compared c) := by
  have noted : Reports 0x010D srcAo (each (s.crossings c) noteCrossing { s with thermal := c }) :=
    reports_each crossed (noteCrossing_reports i) (fun b u h => noteCrossing_keeps b h) _
  unfold State.compared
  split
  · exact reports_logEvent_kept _ _ _ noted
  · exact noted

theorem compared_reports_end {c : ThermalUnit} (was : s.thermal.states.any id = true) (is : c.states.any id = false) :
    Reports 0x010E srcAo (s.compared c) := by
  unfold State.compared
  rw [was, is]
  exact reports_logEvent (by decide)

theorem hotAfter_cases (hot : Bool) (t limit : Int) : (limit < t → hotAfter hot t limit = true) ∧
    (t < limit - 32 → hotAfter hot t limit = false) ∧ (limit - 32 ≤ t → t ≤ limit → hotAfter hot t limit = hot) := by
  unfold hotAfter
  refine ⟨fun h => if_pos h, fun h => ?_, fun low high => ?_⟩
  · rw [if_neg (by omega), if_pos h]
  · rw [if_neg (by omega), if_neg (by omega)]

/-- A comparison, in the moment that it falls due. -/
def State.checked (s : State) (stack genaz hold power : Int) : State :=
  let u := reachNow (s.thermal.checked + 10 * Config.ms) s
  u.compared (u.comparison stack genaz hold power)

theorem onlyIn_checked (s : State) : onlyIn (.time :: .thermal :: reporting) s (s.checked stack genaz hold power) :=
  onlyIn_trans (onlyIn_mono (onlyIn_reachNow _ s) (by decide)) (onlyIn_mono (onlyIn_compared _ _) (by decide))

theorem checked_power (s : State) : (s.checked stack genaz hold power).power = s.power := onlyIn_checked s .power (by decide)

theorem checkThermal_eq (powered : s.power.aoOn = true) : checkThermal stack genaz hold power s =
    if 1680 < power && !s.power.stageFault then stageFault (s.checked stack genaz hold power) else s.checked stack genaz hold power := by
  rw [← checked_power (stack := stack) (genaz := genaz) (hold := hold) (power := power) s]
  exact if_pos powered

theorem thermalCheck_compares (powered : s.power.aoOn = true) (cool : power ≤ 1680 ∨ s.power.stageFault = true) :
    Completes (.thermalCheck stack genaz hold power) s (.time :: .thermal :: reporting) fun t =>
      t.thermal.stack = stack ∧ t.thermal.genaz = genaz ∧ t.thermal.hold = hold ∧ t.thermal.power = power ∧
      t.thermal.working = rampSetpoint s.thermal.applied s.thermal.working ∧ s.thermal.checked + 10 * Config.ms ≤ t.time.now ∧
      t.thermal.applied = s.thermal.applied ∧
      (1520 < genaz → t.thermal.genazHot = true ∧ (s.thermal.genazHot = false → Reports 0x010D srcAo t)) ∧
      (genaz < 1488 → t.thermal.genazHot = false) ∧
      (1488 ≤ genaz → genaz ≤ 1520 → t.thermal.genazHot = s.thermal.genazHot) ∧
      (s.pdOn 79 = true → 800 < (100 * stack - t.thermal.working).natAbs → t.thermal.outOfBand = true) ∧
      (s.thermal.states.any id = true → t.thermal.states.any id = false → Reports 0x010E srcAo t) := by
  have ends : ¬ (decide (1680 < power) && !s.power.stageFault) = true := by
    rcases cool with low | faulted
    · simp [Int.not_lt.mpr low]
    · simp [faulted]
  let u := reachNow (s.thermal.checked + 10 * Config.ms) s
  have thermal : (s.checked stack genaz hold power).thermal = u.comparison stack genaz hold power := compared_thermal _ _
  have time : (s.checked stack genaz hold power).time = u.time := onlyIn_compared _ _ .time (by decide)
  obtain ⟨above, below, between⟩ := hotAfter_cases s.thermal.genazHot genaz 1520
  refine completes_of rfl ((checkThermal_eq powered).trans (if_neg ends)) (onlyIn_checked s) ?_
  rw [thermal, time]
  refine ⟨rfl, rfl, rfl, rfl, rfl, reachNow_reaches _ s, rfl, fun hot => ⟨above hot, fun was => ?_⟩, below, between, fun cooled far => ?_,
    fun was is => compared_reports_end was is⟩
  · have genazHot : (u.comparison stack genaz hold power).genazHot = true := above hot
    have wasCold : u.thermal.genazHot = false := was
    refine compared_reports (i := 1) (List.mem_filter.mpr ⟨by decide, ?_⟩)
    show ((u.comparison stack genaz hold power).genazHot && !u.thermal.genazHot) = true
    rw [genazHot, wasCold]
    rfl
  · exact (Bool.and_eq_true_iff.mpr ⟨cooled, if_pos far⟩ : (_ && _) = true)

theorem stageFault_fatal (powered : s.power.aoOn = true) :
    onlyIn ([.dump, .pins] ++ stopParts) s (stageFault s) ∧ (stageFault s).power.stageFault = true ∧ (stageFault s).dump.fatal.isSome ∧
    (stageFault s).pins.fault = (s.pins.fault || s.dump.fatal.isNone) ∧ Reports 0x0108 srcAo (stageFault s) := by
  let u : State := { s with power := { s.power with stageFault := true } }
  have run : stageFault s = fatalCause 0x0108 srcAo 0 false u := if_pos powered
  have faulted : onlyIn [.power] s u := onlyIn_withPower _ s
  rw [run]
  cases runs : s.dump.fatal with
  | none =>
    have starts := fatalCause_starts (cause := 0x0108) (source := srcAo) 0 false (s := u) runs (by decide)
    refine ⟨onlyIn_trans (onlyIn_mono faulted (by decide)) starts.parts, starts.stageFault, ?_, ?_, starts.reports⟩
    · rw [starts.dump]
      rfl
    · rw [starts.pins]
      exact (Bool.or_true _).symm
  | some f =>
    obtain ⟨parts, still, reported⟩ := onlyIn_fatalCause_of_some (cause := 0x0108) (source := srcAo) (data := 0) (watchdog := false) (s := u) runs
    refine ⟨onlyIn_trans (onlyIn_mono faulted (by decide)) (onlyIn_mono parts (by decide)), ?_, still, ?_, reported (by decide)⟩
    · rw [parts .power (by decide)]
    · rw [parts .pins (by decide)]
      exact (Bool.or_false _).symm

theorem thermalCheck_faults (powered : s.power.aoOn = true) (hot : 1680 < power) (sound : s.power.stageFault = false) :
    CompletesKeeping (.thermalCheck stack genaz hold power) s (stored ++ [.cal, .trust]) fun t =>
      t.thermal.power = power ∧ t.power.stageFault = true ∧ t.dump.fatal.isSome ∧ t.pins.fault = (s.pins.fault || s.dump.fatal.isNone) ∧
      Reports 0x0108 srcAo t := by
  have faults : (decide (1680 < power) && !s.power.stageFault) = true := by simp [hot, sound]
  have checked := onlyIn_checked (stack := stack) (genaz := genaz) (hold := hold) (power := power) s
  obtain ⟨parts, faulted, fatal, pins, reported⟩ :=
    stageFault_fatal (s := s.checked stack genaz hold power) (by rw [checked_power]; exact powered)
  refine ⟨_, congrArg Host.Outcome.next ((checkThermal_eq powered).trans (if_pos faults)),
    kept_of_onlyIn (onlyIn_trans (onlyIn_mono checked (by decide)) (onlyIn_mono parts (by decide)) :
      onlyIn ([.time, .thermal, .dump, .pins] ++ stopParts) s _) (by decide), ?_, faulted, fatal, ?_, reported⟩
  · rw [parts .thermal (by decide)]
    exact congrArg ThermalUnit.power (compared_thermal _ _)
  · rw [pins, checked .pins (by decide), checked .dump (by decide)]

end

/-! ## The tiles (R45, R47, R302) -/

section
variable {codes : List (BitVec 12)} {s : State}

/-- The fault of a tile's sensor is logged. -/
def noteSensor (t : Nat) (s : State) : State := logEvent 0x0312 (srcTile t) t s

theorem noteSensor_reports (t : Nat) (s : State) : Reports 0x0312 (srcTile t) (noteSensor t s) := reports_logEvent (by decide)

theorem noteSensor_keeps {code src : Nat} (t : Nat) {s : State} (h : Reports code src s) : Reports code src (noteSensor t s) :=
  reports_logEvent_kept _ _ _ h

theorem getElem?_rangeMap {α : Type} (f : Nat → α) {k i : Nat} (inside : i < k) : ((List.range k).map f)[i]? = some (f i) := by
  rw [List.getElem?_map, List.getElem?_range inside]
  rfl

theorem tileTempSample_takes : Completes (.tileTempSample codes) s (.sensor :: reporting) fun t =>
    t.sensor.words = s.sensor.words ∧ t.sensor.sites = s.sensor.sites ∧
    ∀ n, n < 8 →
      (s.pdOn (8 + n) = true → ∀ c, codes[n]? = some c → t.sensor.temps[n]? = some c.toInt) ∧
      (s.pdOn (8 + n) = false → t.sensor.temps[n]? = some (s.sensor.temps.getD n 0) ∧
        t.sensor.faulty[n]? = some (s.sensor.faulty.getD n false)) ∧
      (t.sensor.faulty[n]? = some true → s.sensor.faulty.getD n false = false → Reports 0x0312 (srcTile n) t) := by
  let code (t : Nat) : Int :=
    if s.pdOn (8 + t) then (codes.map BitVec.toInt).getD t (s.sensor.temps.getD t 0) else s.sensor.temps.getD t 0
  let bad (t : Nat) : Bool := if s.pdOn (8 + t) then sensorFaulty ((List.range 8).map code) t else s.sensor.faulty.getD t false
  let new := (List.range 8).filter fun t => bad t && !(s.sensor.faulty.getD t false)
  let u : State := { s with sensor := { s.sensor with temps := (List.range 8).map code, faulty := (List.range 8).map bad } }
  have notes : onlyIn reporting u (each new noteSensor u) := onlyIn_each _ (fun _ _ => onlyIn_logEvent _ _ _ _) _ _
  have sensor : (each new noteSensor u).sensor = u.sensor := notes .sensor (by decide)
  refine completes_of (u := each new noteSensor u) rfl rfl
    (onlyIn_trans (onlyIn_mono (onlyIn_withSensor _ s) (by decide)) (onlyIn_mono notes (by decide))) ?_
  rw [sensor]
  refine ⟨rfl, rfl, fun n tile => ?_⟩
  have temp : u.sensor.temps[n]? = some (code n) := getElem?_rangeMap code tile
  have faulty : u.sensor.faulty[n]? = some (bad n) := getElem?_rangeMap bad tile
  rw [temp, faulty]
  refine ⟨fun on c read => ?_, fun off => ?_, fun now was => ?_⟩
  · refine congrArg some ((if_pos on).trans ?_)
    rw [List.getD_eq_getElem?_getD, List.getElem?_map, read]
    rfl
  · have dark : ¬ s.pdOn (8 + n) = true := by simp [off]
    exact ⟨congrArg some (if_neg dark), congrArg some (if_neg dark)⟩
  · have noted : n ∈ new := List.mem_filter.mpr ⟨List.mem_range.mpr tile, ?_⟩
    · exact reports_each noted (noteSensor_reports n) (fun k x h => noteSensor_keeps k h) u
    rw [Option.some.inj now, was]
    rfl

end

/-- Settles O41: the sample and the comparisons are functions of what is measured, and the power stage's fault is a fatal cause. -/
theorem loadAndTemperaturesAreWatched : Obligations.LoadAndTemperaturesAreWatched := by
  unfold Obligations.LoadAndTemperaturesAreWatched
  intro load acPower dcPower acVolts acHz dcVolts store pd stack genaz hold power codes s
  exact ⟨fun powered => ⟨loadSample_watches powered, thermalCheck_compares powered, thermalCheck_faults powered⟩, tileTempSample_takes⟩

end Sys2Proof.Machine

/-! PROOFS. The operations of the fuse array and the fuse commands (R373, R377 to R381). -/

namespace Sys2Proof.Machine

/-! ## How an operation starts and ends (R377, R378) -/

/-- The array takes an operation: PD78 is on. -/
def State.fuseOn (s : State) : State := { s.setDomains [78] true with fuse := { s.fuse with busy := true, pd78 := true } }

theorem onlyIn_withFuse (f : FuseUnit) (s : State) : onlyIn [.fuse] s { s with fuse := f } := by
  intro q hq; cases q <;> simp [Part.same] at hq ⊢

theorem onlyIn_fuseOn (s : State) : onlyIn [.fuse, .power] s s.fuseOn :=
  onlyIn_trans (onlyIn_mono (onlyIn_setDomains _ _ s) (by decide)) (onlyIn_mono (onlyIn_withFuse _ _) (by decide))

theorem onlyIn_endFuse (ok : Bool) (s : State) : onlyIn [.fuse, .power] s (endFuse ok s) :=
  onlyIn_trans (onlyIn_mono (onlyIn_withFuse _ s) (by decide)) (onlyIn_mono (onlyIn_setDomains _ _ _) (by decide))

theorem startFuse_runs {j : FuseJob} {s : State} (input : s.power.ride = none) : startFuse j s = runFuse j s.fuseOn :=
  if_neg (by simp [input])

theorem startFuse_waits {j : FuseJob} {s : State} (input : s.power.ride.isSome) :
    startFuse j s = { s.fuseOn with fuse := { s.fuseOn.fuse with waiting := some j } } := if_pos input

theorem sameRequests_fuseOn (s : State) : SameRequests s s.fuseOn := ⟨fun _ => rfl, rfl, rfl⟩

theorem sameRequests_endFuse {s u : State} (ok : Bool) (h : SameRequests s u) : SameRequests s (endFuse ok u) := ⟨h.channels, h.claims, h.time⟩

/-! ## A word (R377) -/

theorem onlyIn_programWord (z w : Nat) (value : U32) (senses : List (U32 × U32)) (s : State) :
    onlyIn (.fuse :: reporting) s (programWord z w value senses s).1 :=
  onlyIn_trans (onlyIn_mono (onlyIn_withFuse _ s) (by decide)) (onlyIn_mono (onlyIn_logEvent _ _ _ _) (by decide))

theorem sameRequests_programWord {s u : State} (z w : Nat) (value : U32) (senses : List (U32 × U32)) (h : SameRequests s u) :
    SameRequests s (programWord z w value senses u).1 := sameRequests_logEvent _ _ _ ⟨h.channels, h.claims, h.time⟩

/-- What an operation on a word leaves: the word as its pulses left it, every other word as it was, and the answers still to be given. -/
structure WordProgrammed (z w : Nat) (p : Pulsed) (s t : State) : Prop where
  parts : onlyIn ([.fuse, .power] ++ reporting) s t
  requests : SameRequests s t
  high : ∀ z' w', t.fuse.high z' w' = if (z', w') = (z, w) then p.high else s.fuse.high z' w'
  finalised : t.fuse.finalised = s.fuse.finalised
  idle : t.fuse.busy = false
  result : t.fuse.readback = p.high ∧ t.fuse.pulses = p.pulses ∧ t.fuse.lastFailed = !p.ok
  reports : Reports (if p.ok then 0x0D04 else 0x0D05) srcKeeper t

/-- The state after the operation on a word, before its answer. -/
def State.wordDone (s : State) (z w : Nat) (value : U32) (senses : List (U32 × U32)) : State :=
  endFuse (pulseWord (s.fuse.high z w) value senses).ok (programWord z w value senses s.fuseOn).1

theorem wordDone_programs (s : State) (z w : Nat) (value : U32) (senses : List (U32 × U32)) :
    WordProgrammed z w (pulseWord (s.fuse.high z w) value senses) s (s.wordDone z w value senses) := by
  have coded : (severity (if (pulseWord (s.fuse.high z w) value senses).ok then 0x0D04 else 0x0D05)).isSome := by
    split <;> decide
  have programmed := programWord_fuse z w value senses s.fuseOn
  refine ⟨?_, sameRequests_endFuse _ (sameRequests_programWord z w value senses (sameRequests_fuseOn s)), fun z' w' => ?_, ?_, rfl, ?_, ?_⟩
  · exact onlyIn_trans (onlyIn_mono (onlyIn_fuseOn s) (by decide)) (onlyIn_trans (onlyIn_mono (onlyIn_programWord z w value senses _) (by decide))
      (onlyIn_mono (onlyIn_endFuse _ _) (by decide)))
  · show (programWord z w value senses s.fuseOn).1.fuse.high z' w' = _
    rw [programmed, written_high]
    rfl
  · show (programWord z w value senses s.fuseOn).1.fuse.finalised = _
    rw [programmed]
    rfl
  · show (programWord z w value senses s.fuseOn).1.fuse.readback = _ ∧ (programWord z w value senses s.fuseOn).1.fuse.pulses = _ ∧ _
    rw [programmed]
    exact ⟨rfl, rfl, rfl⟩
  · exact reports_of (reports_logEvent coded : Reports _ _ (programWord z w value senses s.fuseOn).1) rfl rfl

theorem runFuse_word (req : Option ReqId) (z w : Nat) (value : U32) (senses : List (U32 × U32)) (s : State) :
    let q := pulseWord (s.fuse.high z w) value senses
    runFuse ⟨req, .word z w value, senses⟩ s.fuseOn =
      finishOpt req (if q.ok then .ok else .failed) 0 (programResponse q.pulses q.high) (s.wordDone z w value senses) := rfl

/-! ## The digest of a zone (R379) -/

theorem pulseWord_blank (value : U32) : pulseWord 0 value [] = ⟨1, value, value, true, []⟩ := by
  simp [pulseWord, List.replicate, List.findIdx?_cons]

theorem onlyIn_programIfDue (z w : Nat) (value : U32) (senses : List (U32 × U32)) (s : State) :
    onlyIn (.fuse :: reporting) s (programIfDue z w value senses s).1 := by
  unfold programIfDue
  split
  · exact onlyIn_refl _ s
  · exact onlyIn_programWord z w value senses s

theorem sameRequests_programIfDue {s u : State} (z w : Nat) (value : U32) (senses : List (U32 × U32)) (h : SameRequests s u) :
    SameRequests s (programIfDue z w value senses u).1 := by
  unfold programIfDue
  split
  · exact h
  · exact sameRequests_programWord z w value senses h

/-- A word that reads zero takes any value, where each verify reads what was programmed. -/
theorem programIfDue_blank {z w : Nat} (value : U32) {s : State} (blank : s.fuse.high z w = 0) :
    (programIfDue z w value [] s).2.ok = true ∧ (programIfDue z w value [] s).2.rest = [] ∧
    ∀ z' w', (programIfDue z w value [] s).1.fuse.high z' w' = if (z', w') = (z, w) then value else s.fuse.high z' w' := by
  unfold programIfDue
  split
  · next holds =>
    refine ⟨rfl, rfl, fun z' w' => ?_⟩
    split
    · next same =>
      obtain ⟨rfl, rfl⟩ := Prod.mk.inj same
      exact holds.2
    · rfl
  · have pulsed : pulseWord (s.fuse.high z w) value [] = ⟨1, value, value, true, []⟩ := by rw [blank, pulseWord_blank]
    refine ⟨?_, ?_, fun z' w' => ?_⟩
    · exact congrArg Pulsed.ok pulsed
    · exact congrArg Pulsed.rest pulsed
    · rw [programWord_fuse, written_high, pulsed]

/-- What the operation that finalises a zone leaves: its digest in words 126 and 127, its FINALISED bit, and the answers still to be given. -/
structure ZoneFinalised (z : Nat) (lo hi : U32) (s t : State) : Prop where
  parts : onlyIn ([.fuse, .power] ++ reporting) s t
  requests : SameRequests s t
  finalised : t.fuse.finalised = s.fuse.finalised.set z true
  low : t.fuse.high z 126 = lo
  top : t.fuse.high z 127 = hi
  others : ∀ z' w', (z', w') ≠ (z, 126) → (z', w') ≠ (z, 127) → t.fuse.high z' w' = s.fuse.high z' w'
  reports : Reports 0x0D06 srcKeeper t

/-- The array with a digest in words 126 and 127 of a zone. -/
def State.digested (s : State) (z : Nat) (lo hi : U32) : State := (programIfDue z 127 hi [] (programIfDue z 126 lo [] s).1).1

/-- The state after the operation that finalises a zone, before its answer. -/
def State.zoneDone (s : State) (z : Nat) (lo hi : U32) : State := endFuse true (markFinal z (s.fuseOn.digested z lo hi))

theorem onlyIn_markFinal (z : Nat) (s : State) : onlyIn (.fuse :: reporting) s (markFinal z s) :=
  onlyIn_trans (onlyIn_mono (onlyIn_withFuse _ s) (by decide)) (onlyIn_mono (onlyIn_logEvent _ _ _ _) (by decide))

section
variable {z : Nat} (lo hi : U32) {s : State} (blank126 : s.fuse.high z 126 = 0) (blank127 : s.fuse.high z 127 = 0)
include blank126 blank127

/-- Word 127 is still blank when word 126 has its value. -/
theorem programIfDue_blank127 : (programIfDue z 126 lo [] s).1.fuse.high z 127 = 0 := by
  obtain ⟨-, -, high⟩ := programIfDue_blank lo blank126
  rw [high, if_neg (by simp)]
  exact blank127

theorem digested_high : (s.digested z lo hi).fuse.high z 126 = lo ∧ (s.digested z lo hi).fuse.high z 127 = hi ∧
    ∀ z' w', (z', w') ≠ (z, 126) → (z', w') ≠ (z, 127) → (s.digested z lo hi).fuse.high z' w' = s.fuse.high z' w' := by
  obtain ⟨-, -, first⟩ := programIfDue_blank lo blank126
  obtain ⟨-, -, second⟩ := programIfDue_blank hi (programIfDue_blank127 lo blank126 blank127)
  refine ⟨?_, ?_, fun z' w' not126 not127 => ?_⟩
  · exact (second z 126).trans ((if_neg (by simp)).trans ((first z 126).trans (if_pos rfl)))
  · exact (second z 127).trans (if_pos rfl)
  · exact (second z' w').trans ((if_neg not127).trans ((first z' w').trans (if_neg not126)))

theorem runFuse_digest (req : Option ReqId) : runFuse ⟨req, .digest z lo hi, []⟩ s.fuseOn =
    finishOpt req .ok 0 (leBytes 4 lo.toNat ++ leBytes 4 hi.toNat) (s.zoneDone z lo hi) := by
  have held126 : s.fuseOn.fuse.high z 126 = 0 := blank126
  have held127 : s.fuseOn.fuse.high z 127 = 0 := blank127
  obtain ⟨ok126, rest, -⟩ := programIfDue_blank lo held126
  obtain ⟨ok127, -, -⟩ := programIfDue_blank hi (programIfDue_blank127 lo held126 held127)
  simp only [runFuse, ok126, rest, ok127, Bool.not_true, Bool.false_eq_true, if_false]
  rfl

theorem zoneDone_finalises : ZoneFinalised z lo hi s (s.zoneDone z lo hi) := by
  let u := s.fuseOn.digested z lo hi
  obtain ⟨low, top, others⟩ := digested_high lo hi (s := s.fuseOn) blank126 blank127
  have marked : (markFinal z u).fuse = { u.fuse with finalised := u.fuse.finalised.set z true, digestOk := u.fuse.digestOk.set z true } :=
    logEvent_fuse _ _ _ _
  have words (z' w' : Nat) : (s.zoneDone z lo hi).fuse.high z' w' = u.fuse.high z' w' := by
    show (markFinal z u).fuse.high z' w' = _
    rw [marked]
    rfl
  refine ⟨?_, ?_, ?_, (words z 126).trans low, (words z 127).trans top,
    fun z' w' not126 not127 => (words z' w').trans (others z' w' not126 not127), ?_⟩
  · exact onlyIn_trans (onlyIn_mono (onlyIn_fuseOn s) (by decide)) (onlyIn_trans (onlyIn_mono (onlyIn_programIfDue _ _ _ _ _) (by decide))
      (onlyIn_trans (onlyIn_mono (onlyIn_programIfDue _ _ _ _ _) (by decide)) (onlyIn_trans (onlyIn_mono (onlyIn_markFinal z u) (by decide))
        (onlyIn_mono (onlyIn_endFuse _ _) (by decide)))))
  · have same : SameRequests s u := sameRequests_programIfDue _ _ _ _ (sameRequests_programIfDue _ _ _ _ (sameRequests_fuseOn s))
    exact sameRequests_endFuse true (sameRequests_logEvent _ _ _ ⟨same.channels, same.claims, same.time⟩)
  · show (markFinal z u).fuse.finalised = _
    rw [marked]
    show ((programIfDue z 127 hi [] _).1.fuse.finalised.set z true) = _
    rw [programIfDue_finalised, programIfDue_finalised]
    rfl
  · exact reports_of (reports_logEvent (by decide) : Reports 0x0D06 srcKeeper (markFinal z u)) rfl rfl

end

/-! ## The answer to a request whose operation has run -/

/-- The state in which a request is accepted, with what it claims. -/
def State.claiming (s : State) (o : Opcode) (r : Req) (claims : List Resource) : State := accept (reqOf o r s) claims 0 (takeUp r s)

theorem onlyIn_claiming (s : State) (o : Opcode) (r : Req) (claims : List Resource) : onlyIn [.time, .mbox] s (s.claiming o r claims) :=
  onlyIn_trans (onlyIn_takeUp r s) (onlyIn_mono (onlyIn_accept _ _ _ _) (by decide))

theorem claiming_fuse (s : State) (o : Opcode) (r : Req) (claims : List Resource) : (s.claiming o r claims).fuse = s.fuse :=
  onlyIn_claiming s o r claims .fuse (by decide)

theorem claiming_power (s : State) (o : Opcode) (r : Req) (claims : List Resource) : (s.claiming o r claims).power = s.power :=
  onlyIn_claiming s o r claims .power (by decide)

theorem claiming_answered {o : Opcode} {r : Req} {claims : List Resource} {st : Status} {n : Nat} {b : List Byte} {s u : State} (w : Waiting o r s)
    (same : ∀ c, u.mbox.get c = (s.claiming o r claims).mbox.get c) : RespondsAccepted o r 0 st n b s (finish (reqOf o r s) st n b u) :=
  (accepted_then w same).1

/-- A request is refused after an event of the keeper core. -/
theorem refuses_logged {c : Instr} {o : Opcode} {r : Req} {st : Status} {code d : Nat} {s : State} (w : Waiting o r s)
    (known : (severity code).isSome) (run : exec c s = .next (respond (reqOf o r s) true st 0 [] (logEvent code srcKeeper d (takeUp r s)))) :
    Completes c s (.time :: reporting) fun t => Responds (reqOf o r s) st 0 [] s t ∧ Reports code srcKeeper t := by
  have answer := onlyIn_respond (reqOf o r s) true st 0 [] (logEvent code srcKeeper d (takeUp r s))
  refine ⟨_, run, ?_, ?_, ?_⟩
  · exact onlyIn_trans (onlyIn_mono (onlyIn_takeUp r s) (by decide)) (onlyIn_trans (onlyIn_mono (onlyIn_logEvent _ _ _ _) (by decide))
      (onlyIn_mono answer (by decide)))
  · exact (respond_answers w (logEvent_mbox_get code srcKeeper d (takeUp r s))).1
  · exact reports_of (reports_logEvent known) (answer .log (by decide)) (answer .time (by decide))

/-! ## FUSE_PROGRAM (R377, R378, R380) -/

section
variable {r : Req} {zone : Byte} {word : U16} {value : U32} {senses : List (U32 × U32)} {s : State} (idle : s.fuse.busy = false)
  (w : Waiting .fuseProgram r s) (len : r.len = 8) (zones : zone.toNat ≤ 7) (words : word.toNat ≤ 127) (service : s.mode.mode = .service)
include idle w len zones words service

/-- A refusal answers; a word that holds VALUE takes no pulse; any other word starts an operation. -/
theorem exec_fuseProgram : exec (.fuseProgram r zone word value senses) s = .next
    (match programRefusal s.mbox.auth.role zone.toNat word.toNat value s with
    | some st => respond (reqOf .fuseProgram r s) true st 0 []
        (if st = .locked then logEvent 0x0D08 srcKeeper (fuseAddr zone.toNat word.toNat) (takeUp r s) else takeUp r s)
    | none =>
      if value = s.fuse.high zone.toNat word.toNat then respond (reqOf .fuseProgram r s) true .ok 0 (programResponse 0 value) (takeUp r s)
      else startFuse ⟨some (reqOf .fuseProgram r s), .word zone.toNat word.toNat value, senses⟩ (s.claiming .fuseProgram r [.fuses])) := by
  have run := command_exec (c := .fuseProgram r zone word value senses) rfl w (fixed_passes len w.reserved (decide_eq_true ⟨zones, words⟩)
    (decide_eq_true ((congrArg ModeUnit.mode (takeUp_mode r s)).trans service)) w.free)
  rw [run]
  unfold fuseProgramAct programRefusal
  rw [takeUp_fuse, takeUp_role, idle]
  rfl

theorem fuseProgram_locked (final : s.fuse.finalised.getD zone.toNat false = true) :
    Completes (.fuseProgram r zone word value senses) s (.time :: reporting) fun t =>
      Responds (reqOf .fuseProgram r s) .locked 0 [] s t ∧ Reports 0x0D08 srcKeeper t := by
  have refused : programRefusal s.mbox.auth.role zone.toNat word.toNat value s = some .locked := if_pos final
  have run := exec_fuseProgram (value := value) (senses := senses) idle w len zones words service
  rw [refused] at run
  exact refuses_logged w (by decide) run

/-- Any other refusal only answers. -/
theorem fuseProgram_refuses {st : Status} (refused : programRefusal s.mbox.auth.role zone.toNat word.toNat value s = some st)
    (other : st ≠ .locked) :
    Completes (.fuseProgram r zone word value senses) s [.time, .mbox] fun t => Answered .fuseProgram r true st 0 [] s t := by
  have run := exec_fuseProgram (value := value) (senses := senses) idle w len zones words service
  rw [refused] at run
  dsimp only at run
  rw [if_neg other] at run
  exact completes_answer w run

section
variable (free : s.fuse.finalised.getD zone.toNat false = false)
include free

theorem fuseProgram_denied (role : roleZone s.mbox.auth.role zone.toNat = false) :
    Completes (.fuseProgram r zone word value senses) s [.time, .mbox] fun t => Answered .fuseProgram r true .denied 0 [] s t :=
  fuseProgram_refuses idle w len zones words service (by simp only [programRefusal, free, role]; rfl) (by decide)

variable (role : roleZone s.mbox.auth.role zone.toNat = true) (below : word.toNat < 126)
include role below

theorem fuseProgram_badParam (clears : value &&& s.fuse.high zone.toNat word.toNat ≠ s.fuse.high zone.toNat word.toNat) :
    Completes (.fuseProgram r zone word value senses) s [.time, .mbox] fun t => Answered .fuseProgram r true .badParam 0 [] s t := by
  have inside : ¬ 126 ≤ word.toNat := by omega
  refine fuseProgram_refuses idle w len zones words service ?_ (by decide)
  simp only [programRefusal, free, role, inside, decide_false, Bool.and_false, Bool.not_true, Bool.false_eq_true, if_false]
  exact if_pos clears

omit idle w len zones words service in
theorem programRefusal_none (keeps : bitsIn (s.fuse.high zone.toNat word.toNat) value) :
    programRefusal s.mbox.auth.role zone.toNat word.toNat value s = none := by
  have inside : ¬ 126 ≤ word.toNat := by omega
  have held : value &&& s.fuse.high zone.toNat word.toNat = s.fuse.high zone.toNat word.toNat := (BitVec.and_comm _ _).trans keeps
  simp only [programRefusal, free, role, inside, decide_false, Bool.and_false, Bool.not_true, Bool.false_eq_true, if_false]
  exact if_neg (not_not.mpr held)

theorem fuseProgram_holds (same : value = s.fuse.high zone.toNat word.toNat) :
    Completes (.fuseProgram r zone word value senses) s [.time, .mbox] fun t =>
      Answered .fuseProgram r true .ok 0 (programResponse 0 value) s t := by
  have run := exec_fuseProgram (value := value) (senses := senses) idle w len zones words service
  rw [programRefusal_none free role below (by rw [same]; exact bitsIn_refl _)] at run
  dsimp only at run
  rw [if_pos same] at run
  exact completes_answer w run

section
variable (keeps : bitsIn (s.fuse.high zone.toNat word.toNat) value) (differs : value ≠ s.fuse.high zone.toNat word.toNat)
include keeps differs

theorem exec_fuseProgram_starts : exec (.fuseProgram r zone word value senses) s = .next
    (startFuse ⟨some (reqOf .fuseProgram r s), .word zone.toNat word.toNat value, senses⟩ (s.claiming .fuseProgram r [.fuses])) := by
  have run := exec_fuseProgram (value := value) (senses := senses) idle w len zones words service
  rw [programRefusal_none free role below keeps] at run
  dsimp only at run
  rwa [if_neg differs] at run

theorem fuseProgram_programs (input : s.power.ride = none) :
    let q := pulseWord (s.fuse.high zone.toNat word.toNat) value senses
    Completes (.fuseProgram r zone word value senses) s (.time :: .fuse :: .power :: reporting) fun t =>
      t.fuse.high zone.toNat word.toNat = q.high ∧ bitsIn (s.fuse.high zone.toNat word.toNat) q.high ∧ bitsIn q.high value ∧
      (q.ok = true → q.high = value) ∧
      (∀ z' w', (z', w') ≠ (zone.toNat, word.toNat) → t.fuse.high z' w' = s.fuse.high z' w') ∧ t.fuse.finalised = s.fuse.finalised ∧
      t.fuse.busy = false ∧ Reports (if q.ok then 0x0D04 else 0x0D05) srcKeeper t ∧
      RespondsAccepted .fuseProgram r 0 (if q.ok then .ok else .failed) 0 (programResponse q.pulses q.high) s t := by
  intro q
  let a := s.claiming .fuseProgram r [.fuses]
  let u := a.wordDone zone.toNat word.toNat value senses
  have fuse : a.fuse = s.fuse := claiming_fuse s _ r _
  have pulses : pulseWord (a.fuse.high zone.toNat word.toNat) value senses = q := by rw [fuse]
  have done : WordProgrammed zone.toNat word.toNat q a u := by
    rw [← pulses]
    exact wordDone_programs a zone.toNat word.toNat value senses
  let t := finish (reqOf .fuseProgram r s) (if q.ok then .ok else .failed) 0 (programResponse q.pulses q.high) u
  have answer : onlyIn [.mbox] u t := onlyIn_finish _ _ _ _ u
  have array : t.fuse = u.fuse := answer .fuse (by decide)
  have run : startFuse ⟨some (reqOf .fuseProgram r s), .word zone.toNat word.toNat value, senses⟩ a = t := by
    rw [startFuse_runs (by rw [claiming_power]; exact input), runFuse_word]
    rw [pulses]
    rfl
  refine completes_of (exec_fuseProgram_starts idle w len zones words service free role below keeps differs) run ?_ ?_
  · exact onlyIn_trans (onlyIn_mono (onlyIn_claiming s _ r _) (by decide)) (onlyIn_trans (onlyIn_mono done.parts (by decide))
      (onlyIn_mono answer (by decide)))
  · rw [array]
    refine ⟨(done.high _ _).trans (if_pos rfl), held_bitsIn_pulseWord _ _ _, pulseWord_bitsIn_value _ keeps, pulseWord_high_of_ok,
      fun z' w' other => ?_, done.finalised.trans (congrArg FuseUnit.finalised fuse), done.idle,
      reports_of done.reports (answer .log (by decide)) (answer .time (by decide)), claiming_answered w done.requests.channels⟩
    rw [done.high, if_neg other, fuse]

theorem fuseProgram_waits (riding : s.power.ride.isSome) :
    Completes (.fuseProgram r zone word value senses) s [.time, .mbox, .fuse, .power] fun t =>
      Accepted .fuseProgram r 0 s t ∧ t.fuse.words = s.fuse.words ∧ t.fuse.busy = true ∧
      t.fuse.waiting = some ⟨some (reqOf .fuseProgram r s), .word zone.toNat word.toNat value, senses⟩ := by
  let a := s.claiming .fuseProgram r [.fuses]
  let t : State := { a.fuseOn with fuse := { a.fuseOn.fuse with
    waiting := some ⟨some (reqOf .fuseProgram r s), .word zone.toNat word.toNat value, senses⟩ } }
  have channels : ∀ c, t.mbox.get c = a.mbox.get c := (sameRequests_fuseOn a).channels
  refine completes_of (u := t) (exec_fuseProgram_starts idle w len zones words service free role below keeps differs)
    (startFuse_waits (by rw [claiming_power]; exact riding)) ?_ ⟨accept_answers w channels, ?_, rfl, rfl⟩
  · exact onlyIn_trans (onlyIn_mono (onlyIn_claiming s _ r _) (by decide)) (onlyIn_trans (onlyIn_mono (onlyIn_fuseOn a) (by decide))
      (onlyIn_mono (onlyIn_withFuse _ _) (by decide)))
  · show a.fuse.words = s.fuse.words
    rw [show a.fuse = s.fuse from claiming_fuse s _ r _]

end
end
end

/-! ## FUSE_FINALIZE (R379) -/

section
variable {r : Req} {zone : Byte} {declared : List U32} {fresh : List (Nat × U32)} {senses : List (U32 × U32)} {s : State}
  (idle : s.fuse.busy = false) (w : Waiting .fuseFinalize r s) (len : r.len = 20) (zones : zone.toNat ≤ 7) (four : declared.length = 4)
  (service : s.mode.mode = .service) (other : zone.toNat ≠ 4) (no126 : 126 ∉ declaredWords declared) (no127 : 127 ∉ declaredWords declared)
  (free : s.fuse.finalised.getD zone.toNat false = false) (role : roleZone s.mbox.auth.role zone.toNat = true)
include idle w len zones four service other no126 no127 free role

theorem exec_fuseFinalize : exec (.fuseFinalize r zone declared fresh senses) s = .next
    (match badWord zone.toNat declared fresh s.fuse with
    | some k => respond (reqOf .fuseFinalize r s) true .badParam 0 [] (logEvent 0x0D07 srcKeeper (fuseAddr zone.toNat k) (takeUp r s))
    | none => startFuse (finalJob (some (reqOf .fuseFinalize r s)) zone.toNat senses s.fuse) (s.claiming .fuseFinalize r [.fuses])) := by
  have fields : (decide (zone.toNat ≤ 7) && decide (declared.length = 4)) = true := by simp [zones, four]
  have run := command_exec (c := .fuseFinalize r zone declared fresh senses) rfl w (fixed_passes len w.reserved fields
    (decide_eq_true ((congrArg ModeUnit.mode (takeUp_mode r s)).trans service)) w.free)
  rw [run]
  unfold fuseFinalizeAct
  simp only [takeUp_fuse, takeUp_role, idle, other, no126, no127, free, role, or_self, Bool.not_true, Bool.false_eq_true, if_false]
  rfl

theorem fuseFinalize_refuses {k : Nat} (bad : badWord zone.toNat declared fresh s.fuse = some k) :
    Completes (.fuseFinalize r zone declared fresh senses) s (.time :: reporting) fun t =>
      Responds (reqOf .fuseFinalize r s) .badParam 0 [] s t ∧ Reports 0x0D07 srcKeeper t := by
  have run := exec_fuseFinalize (fresh := fresh) (senses := senses) idle w len zones four service other no126 no127 free role
  rw [bad] at run
  exact refuses_logged w (by decide) run

theorem fuseFinalize_finalises (good : badWord zone.toNat declared fresh s.fuse = none) (input : s.power.ride = none)
    (blank126 : s.fuse.high zone.toNat 126 = 0) (blank127 : s.fuse.high zone.toNat 127 = 0) :
    let d := zoneDigest zone.toNat (s.fuse.high zone.toNat)
    Completes (.fuseFinalize r zone declared fresh []) s (.time :: .fuse :: .power :: reporting) fun t =>
      t.fuse.finalised = s.fuse.finalised.set zone.toNat true ∧ t.fuse.high zone.toNat 126 = d.1 ∧ t.fuse.high zone.toNat 127 = d.2 ∧
      (∀ z' w', (z', w') ≠ (zone.toNat, 126) → (z', w') ≠ (zone.toNat, 127) → t.fuse.high z' w' = s.fuse.high z' w') ∧
      Reports 0x0D06 srcKeeper t ∧
      RespondsAccepted .fuseFinalize r 0 .ok 0 (leBytes 4 d.1.toNat ++ leBytes 4 d.2.toNat) s t := by
  intro d
  let a := s.claiming .fuseFinalize r [.fuses]
  let u := a.zoneDone zone.toNat d.1 d.2
  have fuse : a.fuse = s.fuse := claiming_fuse s _ r _
  have held126 : a.fuse.high zone.toNat 126 = 0 := by rw [fuse]; exact blank126
  have held127 : a.fuse.high zone.toNat 127 = 0 := by rw [fuse]; exact blank127
  have done : ZoneFinalised zone.toNat d.1 d.2 a u := zoneDone_finalises d.1 d.2 held126 held127
  let t := finish (reqOf .fuseFinalize r s) .ok 0 (leBytes 4 d.1.toNat ++ leBytes 4 d.2.toNat) u
  have answer : onlyIn [.mbox] u t := onlyIn_finish _ _ _ _ u
  have array : t.fuse = u.fuse := answer .fuse (by decide)
  have exec := exec_fuseFinalize (fresh := fresh) (senses := []) idle w len zones four service other no126 no127 free role
  rw [good] at exec
  have run : startFuse (finalJob (some (reqOf .fuseFinalize r s)) zone.toNat [] s.fuse) a = t :=
    (startFuse_runs (by rw [claiming_power]; exact input)).trans (runFuse_digest d.1 d.2 held126 held127 _)
  refine completes_of exec run ?_ ?_
  · exact onlyIn_trans (onlyIn_mono (onlyIn_claiming s _ r _) (by decide)) (onlyIn_trans (onlyIn_mono done.parts (by decide))
      (onlyIn_mono answer (by decide)))
  · rw [array]
    refine ⟨done.finalised.trans (by rw [fuse]), done.low, done.top,
      fun z' w' not126 not127 => (done.others z' w' not126 not127).trans (by rw [fuse]),
      reports_of done.reports (answer .log (by decide)) (answer .time (by decide)), claiming_answered w done.requests.channels⟩

end

/-! ## PROGRAM and FINALIZE of the keeper core (R379, R380) -/

section
variable {senses : List (U32 × U32)} {fresh : List (Nat × U32)} {s : State} (idle : s.fuse.busy = false) (powered : s.power.aoOn = true)
include idle powered

theorem keeperGoesOn : ¬ (s.fuse.busy || !s.power.aoOn) = true := by simp [idle, powered]

theorem program_ignored (final : s.fuse.finalised.getD (s.fuse.addr.toNat / 128 % 8) false = true) :
    Completes (.program senses) s (.regs :: reporting) fun t => t.regs.rejCnt = bump32 s.regs.rejCnt 1 ∧ Reports 0x0D08 srcKeeper t := by
  refine completes_of rfl ((if_neg (keeperGoesOn idle powered)).trans (if_pos final)) ?_ ⟨?_, reports_logEvent (by decide)⟩
  · exact onlyIn_trans (onlyIn_mono (onlyIn_withRegs _ s) (by decide)) (onlyIn_mono (onlyIn_logEvent _ _ _ _) (by decide))
  · rw [logEvent_regs]
    rfl

theorem program_programs (free : s.fuse.finalised.getD (s.fuse.addr.toNat / 128 % 8) false = false)
    (keeps : bitsIn (s.fuse.high (s.fuse.addr.toNat / 128 % 8) (s.fuse.addr.toNat % 128)) s.fuse.data)
    (differs : s.fuse.data ≠ s.fuse.high (s.fuse.addr.toNat / 128 % 8) (s.fuse.addr.toNat % 128)) (input : s.power.ride = none) :
    let a := s.fuse.addr.toNat / 128 % 8
    let b := s.fuse.addr.toNat % 128
    let q := pulseWord (s.fuse.high a b) s.fuse.data senses
    Completes (.program senses) s (.fuse :: .power :: reporting) fun t =>
      t.fuse.high a b = q.high ∧ (∀ z' w', (z', w') ≠ (a, b) → t.fuse.high z' w' = s.fuse.high z' w') ∧
      t.fuse.finalised = s.fuse.finalised ∧ t.fuse.readback = q.high ∧ t.fuse.pulses = q.pulses ∧ t.fuse.lastFailed = !q.ok := by
  intro a b q
  have done : WordProgrammed a b q s (s.wordDone a b s.fuse.data senses) := wordDone_programs s a b s.fuse.data senses
  have open' : ¬ s.fuse.finalised.getD a false = true := by
    rw [free]
    exact Bool.false_ne_true
  have held : ¬ s.fuse.data &&& s.fuse.high a b ≠ s.fuse.high a b := not_not.mpr ((BitVec.and_comm _ _).trans keeps)
  have run : keeperProgram senses s = s.wordDone a b s.fuse.data senses :=
    (if_neg (keeperGoesOn idle powered)).trans ((if_neg open').trans ((if_neg held).trans ((if_neg differs).trans (startFuse_runs input))))
  obtain ⟨readback, pulses, failed⟩ := done.result
  refine completes_of rfl run (onlyIn_mono done.parts (by decide)) ⟨(done.high _ _).trans (if_pos rfl), fun z' w' other => ?_, done.finalised,
    readback, pulses, failed⟩
  rw [done.high, if_neg other]

theorem finalize_finalises (other : s.fuse.addr.toNat / 128 % 8 ≠ 4) (no126 : 126 ∉ declaredWords s.fuse.declared)
    (no127 : 127 ∉ declaredWords s.fuse.declared) (free : s.fuse.finalised.getD (s.fuse.addr.toNat / 128 % 8) false = false)
    (good : badWord (s.fuse.addr.toNat / 128 % 8) s.fuse.declared fresh s.fuse = none) (input : s.power.ride = none)
    (blank126 : s.fuse.high (s.fuse.addr.toNat / 128 % 8) 126 = 0) (blank127 : s.fuse.high (s.fuse.addr.toNat / 128 % 8) 127 = 0) :
    let a := s.fuse.addr.toNat / 128 % 8
    Completes (.finalize fresh []) s (.fuse :: .power :: reporting) fun t =>
      t.fuse.finalised = s.fuse.finalised.set a true ∧
      (t.fuse.high a 126, t.fuse.high a 127) = zoneDigest a (s.fuse.high a) ∧ Reports 0x0D06 srcKeeper t := by
  intro a
  let d := zoneDigest a (s.fuse.high a)
  have done : ZoneFinalised a d.1 d.2 s (s.zoneDone a d.1 d.2) := zoneDone_finalises d.1 d.2 blank126 blank127
  have sound : ¬ (a = 4 ∨ 126 ∈ declaredWords s.fuse.declared ∨ 127 ∈ declaredWords s.fuse.declared ∨
      s.fuse.finalised.getD a false = true) := by
    rintro (h | h | h | h)
    · exact other h
    · exact no126 h
    · exact no127 h
    · exact Bool.false_ne_true (free.symm.trans h)
  have begins : keeperFinalize fresh [] s = startFuse (finalJob none a [] s.fuse) s := by
    refine (if_neg (keeperGoesOn idle powered)).trans ((if_neg sound).trans ?_)
    rw [good]
  have run : keeperFinalize fresh [] s = s.zoneDone a d.1 d.2 :=
    begins.trans ((startFuse_runs input).trans (runFuse_digest d.1 d.2 blank126 blank127 none))
  exact completes_of rfl run (onlyIn_mono done.parts (by decide)) ⟨done.finalised, Prod.ext done.low done.top, done.reports⟩

end

/-! ## SENSE (R373) -/

/-- A marginal word is logged. -/
def noteMarginal (k : Nat × Nat) (s : State) : State := logEvent 0x0D01 srcKeeper (fuseAddr k.1 k.2) s

theorem onlyIn_noteMarginal (k : Nat × Nat) (s : State) : onlyIn reporting s (noteMarginal k s) := onlyIn_logEvent _ _ _ _

theorem noteMarginal_reports (k : Nat × Nat) (s : State) : Reports 0x0D01 srcKeeper (noteMarginal k s) := reports_logEvent (by decide)

theorem noteMarginal_keeps {code src : Nat} (k : Nat × Nat) {s : State} (h : Reports code src s) : Reports code src (noteMarginal k s) :=
  reports_logEvent_kept _ _ _ h

/-- The array after a sense. -/
def FuseUnit.sensedWith (f : FuseUnit) (weak : List ((Nat × Nat) × U32)) : FuseUnit :=
  { ({ f with weak := weak } : FuseUnit).toShadow with marginal := ({ f with weak := weak } : FuseUnit).marginals, sensed := true }

theorem senseWords_eq (weak : List ((Nat × Nat) × U32)) (s : State) :
    senseWords weak s = each (s.fuse.sensedWith weak).marginal noteMarginal { s with fuse := s.fuse.sensedWith weak } := rfl

theorem senseWords_fuse (weak : List ((Nat × Nat) × U32)) (s : State) : (senseWords weak s).fuse = s.fuse.sensedWith weak := by
  rw [senseWords_eq]
  exact onlyIn_each _ onlyIn_noteMarginal _ _ .fuse (by decide)

theorem onlyIn_senseWords (weak : List ((Nat × Nat) × U32)) (s : State) : onlyIn (.fuse :: reporting) s (senseWords weak s) := by
  rw [senseWords_eq]
  exact onlyIn_trans (onlyIn_mono (onlyIn_withFuse _ s) (by decide)) (onlyIn_mono (onlyIn_each _ onlyIn_noteMarginal _ _) (by decide))

theorem senseWords_reports {weak : List ((Nat × Nat) × U32)} {s : State} (some : (s.fuse.sensedWith weak).marginal ≠ []) :
    Reports 0x0D01 srcKeeper (senseWords weak s) := by
  obtain ⟨k, member⟩ := List.exists_mem_of_ne_nil _ some
  rw [senseWords_eq]
  exact reports_each member (noteMarginal_reports k) (fun b u h => noteMarginal_keeps b h) _

/-- The shadow of a zone that is not dropped holds the array's words. -/
theorem toShadow_word {f : FuseUnit} {z : Nat} (w : Nat) (kept : f.dropped z = false) : f.toShadow.word z w = (f.high z w).toNat := by
  have same : look (f.words.filter fun p => !(f.dropped p.1.1)) (z, w) = look f.words (z, w) := by
    unfold look
    rw [List.find?_filter]
    congr 2
    funext p
    by_cases here : p.1 = (z, w)
    · simp [here, kept]
    · simp [here]
  exact congrArg (fun o : Option U32 => (o.getD 0).toNat) same

theorem mem_marginals (f : FuseUnit) (x y : Nat) : (x, y) ∈ f.marginals ↔ x < 8 ∧ y < 128 ∧ f.low x y ≠ f.high x y := by
  simp [FuseUnit.marginals, FuseUnit.weakAt, and_assoc]

theorem sense_senses {weak : List ((Nat × Nat) × U32)} {s : State} (idle : s.fuse.busy = false) (powered : s.power.aoOn = true) :
    Completes (.sense weak) s (.fuse :: reporting) fun t =>
      t.fuse.words = s.fuse.words ∧ t.fuse.finalised = s.fuse.finalised ∧ t.fuse.weak = weak ∧ t.fuse.opCnt = bump32 s.fuse.opCnt 1 ∧
      (∀ x y, s.fuse.dropped x = false → t.fuse.word x y = (s.fuse.high x y).toNat) ∧
      (∀ x y, (x, y) ∈ t.fuse.marginal ↔ x < 8 ∧ y < 128 ∧ t.fuse.low x y ≠ t.fuse.high x y) ∧
      (t.fuse.marginal ≠ [] → Reports 0x0D01 srcKeeper t) := by
  have fuse := senseWords_fuse weak s
  refine completes_of rfl (if_neg (keeperGoesOn idle powered))
      (onlyIn_trans (onlyIn_senseWords weak s) (onlyIn_mono (onlyIn_withFuse _ _) (by decide)))
    ?_
  dsimp only
  rw [fuse]
  exact ⟨rfl, rfl, rfl, rfl, fun x y kept => toShadow_word y kept, fun x y => mem_marginals _ x y, fun some => senseWords_reports some⟩

/-- Settles O37: an operation on a word or on a digest is its pulses and its end, whoever asks for it; SENSE is the sense of every word. -/
theorem fuseOperationsRun : Obligations.FuseOperationsRun := by
  unfold Obligations.FuseOperationsRun
  intro r zone word value senses declared fresh weak s idle
  refine ⟨fun w len zones words service => ⟨?_, fun free => ⟨?_, ?_, ?_, fun role below keeps differs => ⟨?_, ?_⟩⟩⟩,
    fun w len zones four service other no126 no127 free role => ⟨fun k => ?_, ?_⟩, fun powered =>
      ⟨⟨?_, ?_, ?_⟩, sense_senses idle powered⟩⟩
  · exact fuseProgram_locked idle w len zones words service
  · exact fuseProgram_denied idle w len zones words service free
  · exact fuseProgram_badParam idle w len zones words service free
  · exact fuseProgram_holds idle w len zones words service free
  · exact fuseProgram_programs idle w len zones words service free role below keeps differs
  · exact fuseProgram_waits idle w len zones words service free role below keeps differs
  · exact fuseFinalize_refuses idle w len zones four service other no126 no127 free role
  · exact fuseFinalize_finalises idle w len zones four service other no126 no127 free role
  · exact program_ignored idle powered
  · exact program_programs idle powered
  · exact finalize_finalises idle powered

end Sys2Proof.Machine

/-! PROOFS. What starts and stops with the domains, and the end of a procedure of calibration (R366, R394). -/

namespace Sys2Proof.Machine

/-! ## Domains that go on -/

theorem getD_set_other {l : List Bool} {d e : Nat} {b x : Bool} (other : e ≠ d) : (l.set d b).getD e x = l.getD e x := by
  rw [List.getD_eq_getElem?_getD, List.getElem?_set_ne (Ne.symm other), List.getD_eq_getElem?_getD]

/-- Whether another domain is on does not depend on this one. -/
theorem setDomain_pdOn_other {s u : State} {d e : Nat} {on : Bool} (other : e ≠ d) (power : u.power = s.power.setDomain d on) :
    u.pdOn e = s.pdOn e := by
  unfold State.pdOn
  rw [power]
  simp only [PowerUnit.setDomain]
  rw [getD_set_other other, getD_set_other other, getD_set_other other]

theorem onlyIn_requestLock (p : PllId) (s : State) : onlyIn (.clk :: reporting) s (requestLock p s) := by
  unfold requestLock
  dsimp only
  split
  · exact onlyIn_trans (onlyIn_mono (onlyIn_withClk _ s) (by decide)) (onlyIn_mono (onlyIn_logEvent _ _ _ _) (by decide))
  · exact onlyIn_mono (onlyIn_withClk _ s) (by decide)

theorem requestLock_channels (p : PllId) (s : State) (c : Chan) : (requestLock p s).mbox.get c = s.mbox.get c := by
  unfold requestLock
  dsimp only
  split
  · exact logEvent_mbox_get _ _ _ _ c
  · rfl

theorem onlyIn_auxOn (s : State) : onlyIn [.power, .aux] s (auxOn s) :=
  onlyIn_ite (onlyIn_refl _ s) (by intro q hq; cases q <;> simp [Part.same] at hq ⊢)

/-- The units that a domain which goes on can change. -/
def startParts : List Part := [.power, .aux, .clk, .time] ++ reporting

/-- A domain goes on, with what starts with it: no request is answered, module time stands still, and no other domain changes. -/
structure Starts (d : Nat) (s t : State) : Prop where
  parts : onlyIn startParts s t
  channels : ∀ c, t.mbox.get c = s.mbox.get c
  module : t.time.module = s.time.module
  others : ∀ e, e ≠ d → t.pdOn e = s.pdOn e

theorem starts_powered (d : Nat) (s : State) : Starts d s { s with power := s.power.setDomain d true } :=
  ⟨onlyIn_mono (onlyIn_withPower _ s) (by decide), fun _ => rfl, rfl, fun _ other => setDomain_pdOn_other other rfl⟩

/-- What starts after a domain is on leaves the domains as they are. -/
theorem Starts.then {d : Nat} {s t u : State} (h : Starts d s t) (parts : onlyIn ([.aux, .clk, .time] ++ reporting) t u)
    (channels : ∀ c, u.mbox.get c = t.mbox.get c) (module : u.time.module = t.time.module) : Starts d s u := by
  have power : u.power = t.power := parts .power (by decide)
  refine ⟨onlyIn_trans h.parts (onlyIn_mono parts (by decide)), fun c => (channels c).trans (h.channels c), module.trans h.module,
    fun e other => Eq.trans ?_ (h.others e other)⟩
  unfold State.pdOn
  rw [power]

theorem starts_requestLock (p : PllId) (d : Nat) (s : State) : Starts d s (requestLock p { s with power := s.power.setDomain d true }) :=
  have parts := onlyIn_requestLock p { s with power := s.power.setDomain d true }
  (starts_powered d s).then (onlyIn_mono parts (by decide)) (requestLock_channels p _) (congrArg TimeUnit.module (parts .time (by decide)))

theorem starts_auxOn (s : State) : Starts 72 s (auxOn s) := by
  unfold auxOn
  split
  · exact ⟨onlyIn_refl _ s, fun _ => rfl, rfl, fun _ _ => rfl⟩
  · exact (starts_powered 72 s).then (onlyIn_mono (onlyIn_withAux _ _) (by decide)) (fun _ => rfl) rfl

theorem starts_startDomain (d : Nat) (s : State) : Starts d s (startDomain d s) := by
  unfold startDomain
  dsimp only
  split
  · exact (starts_powered d s).then (onlyIn_mono (onlyIn_withLog _ _) (by decide)) (fun _ => rfl) rfl
  · split
    · next aux =>
      subst aux
      exact starts_auxOn s
    · split
      · exact starts_requestLock .a d s
      · split
        · exact starts_requestLock .b d s
        · split
          · exact starts_requestLock .c d s
          · split
            · exact (starts_powered d s).then (onlyIn_mono (onlyIn_atTime _ _) (by decide)) (fun _ => rfl) rfl
            · exact starts_powered d s

/-! ## A list of domains that goes on -/

/-- A list of domains goes on: what holds of each of them. -/
structure Powers (s t : State) : Prop where
  parts : onlyIn startParts s t
  channels : ∀ c, t.mbox.get c = s.mbox.get c
  module : t.time.module = s.time.module

theorem Powers.refl (s : State) : Powers s s := ⟨onlyIn_refl _ s, fun _ => rfl, rfl⟩

theorem Powers.trans {s t u : State} (h : Powers s t) (k : Powers t u) : Powers s u :=
  ⟨onlyIn_trans h.parts k.parts, fun c => (k.channels c).trans (h.channels c), k.module.trans h.module⟩

theorem Starts.powers {d : Nat} {s t : State} (h : Starts d s t) : Powers s t := ⟨h.parts, h.channels, h.module⟩

theorem powers_failDomain (d : Nat) (s : State) : Powers s (failDomain d s) :=
  ⟨onlyIn_mono (onlyIn_failDomain d s) (by decide), logEvent_mbox_get _ _ _ _,
    congrArg TimeUnit.module (onlyIn_failDomain d s .time (by decide))⟩

theorem powers_powerUp (bad : Option Nat) (l : List Nat) (s : State) : Powers s (powerUp bad l s).1 := by
  induction l generalizing s with
  | nil => exact .refl s
  | cons d l ih =>
    unfold powerUp
    split
    · exact ih s
    · split
      · exact powers_failDomain d s
      · exact (starts_startDomain d s).powers.trans (ih _)

theorem powerUp_none_all (l : List Nat) (s : State) : (powerUp none l s).2 = true := by
  induction l generalizing s with
  | nil => rfl
  | cons d l ih =>
    unfold powerUp
    split
    · exact ih s
    · exact ih _

theorem usable_of_fuse {s t : State} (same : t.fuse = s.fuse) (d : Nat) : t.usable d = s.usable d := by
  simp only [State.usable, State.cap, same]

theorem setDomain_false_same (p : PowerUnit) (d : Nat) : (p.setDomain d false).en.getD d false = false := by
  show (p.en.set d false).getD d false = false
  rw [List.getD_eq_getElem?_getD, List.getElem?_set_self']
  cases p.en[d]? <;> rfl

/-- A domain without power good ends the list, and is off. -/
theorem powerUp_fails {d : Nat} {l : List Nat} {s : State} (listed : d ∈ l) (usable : s.usable d = true) (off : s.pdOn d = false) :
    (powerUp (some d) l s).2 = false ∧ (powerUp (some d) l s).1.power.en.getD d false = false := by
  induction l generalizing s with
  | nil => exact absurd listed List.not_mem_nil
  | cons e l ih =>
    unfold powerUp
    by_cases same : e = d
    · subst same
      rw [if_neg (by simp [usable, off]), if_pos rfl]
      refine ⟨rfl, ?_⟩
      rw [failDomain_power]
      exact setDomain_false_same _ e
    · have later : d ∈ l := (List.mem_cons.mp listed).resolve_left fun h => same h.symm
      split
      · exact ih later usable off
      · rw [if_neg fun h => same (Option.some.inj h).symm]
        have starts := starts_startDomain e s
        exact ih later ((usable_of_fuse (starts.parts .fuse (by decide)) d).trans usable) ((starts.others d fun h => same h.symm).trans off)

/-! ## Domains that go off -/

/-- The units that a domain of a procedure can change as it goes off. -/
def stopDomainParts : List Part := [.power, .sensor, .cal, .conv, .aux, .clk, .time, .frame, .sync, .thermal]

/-- A domain goes off, with what stops with it: no domain goes on, and of the calibration store only the load of the words is undone. -/
structure Stops (s t : State) : Prop where
  parts : onlyIn stopDomainParts s t
  off : ∀ e, s.power.en.getD e false = false → t.power.en.getD e false = false
  cal : ∃ b, t.cal = { s.cal with wordsLoaded := b }

theorem Stops.refl (s : State) : Stops s s := ⟨onlyIn_refl _ s, fun _ h => h, _, rfl⟩

theorem Stops.trans {s t u : State} (h : Stops s t) (k : Stops t u) : Stops s u := by
  obtain ⟨b, first⟩ := h.cal
  obtain ⟨c, second⟩ := k.cal
  exact ⟨onlyIn_trans h.parts k.parts, fun e off => k.off e (h.off e off), c, by rw [second, first]⟩

theorem setDomain_false_off {p : PowerUnit} {d e : Nat} (off : p.en.getD e false = false) : (p.setDomain d false).en.getD e false = false := by
  by_cases same : e = d
  · subst same
    exact setDomain_false_same p e
  · exact (getD_set_other same).trans off

/-- Units below a mode change, and a domain goes off. -/
theorem stops_off (d : Nat) (u : SensorUnit) (b : Bool) (v : ConvUnit) (a : AuxUnit) (k : ClockUnit) (m : TimeUnit) (f : FrameUnit) (y : SyncUnit)
    (x : ThermalUnit) (s : State) : Stops s { s with
      sensor := u, cal := { s.cal with wordsLoaded := b }, conv := v, aux := a, clk := k, time := m, frame := f, sync := y, thermal := x,
      power := s.power.setDomain d false } :=
  ⟨by intro q hq; cases q <;> simp [Part.same, stopDomainParts] at hq ⊢, fun _ off => setDomain_false_off off, b, rfl⟩

theorem Stops.ite {c : Prop} [Decidable c] {s a b : State} (h : Stops s a) (k : Stops s b) : Stops s (if c then a else b) := by
  split
  · exact h
  · exact k

theorem procedureDomains_notAbus : ∀ d ∈ procedureDomains, d ≠ 77 := by decide

theorem stops_stopDomain {d : Nat} (listed : d ∈ procedureDomains) (s : State) : Stops s (stopDomain d s) := by
  obtain ⟨notPort, notTandem, notStore, notLog⟩ := procedureDomains_apart d listed
  unfold stopDomain
  simp only [notPort, notTandem, notStore, notLog, procedureDomains_notAbus d listed, if_false]
  exact .ite (stops_off d _ _ _ _ _ _ _ _ _ s) (.ite (stops_off d _ _ _ _ _ _ _ _ _ s) (.ite (stops_off d _ _ _ _ _ _ _ _ _ s)
    (.ite (.ite (.refl s) (stops_off 72 _ _ _ _ _ _ _ _ _ s)) (.ite (stops_off d _ _ _ _ _ _ _ _ _ s) (.ite (stops_off d _ _ _ _ _ _ _ _ _ s)
      (.ite (stops_off d _ _ _ _ _ _ _ _ _ s) (.ite (stops_off d _ _ _ _ _ _ _ _ _ s)
        (.ite (stops_off d _ _ _ _ _ _ _ _ _ s) (stops_off d _ _ _ _ _ _ _ _ _ s)))))))))

/-- A domain that is on goes off. -/
def stopIfOn (d : Nat) (s : State) : State := if s.power.en.getD d false then stopDomain d s else s

theorem stops_stopIfOn {d : Nat} (listed : d ∈ procedureDomains) (s : State) : Stops s (stopIfOn d s) := .ite (stops_stopDomain listed s) (.refl s)

theorem stops_each {l : List Nat} (listed : ∀ d ∈ l, d ∈ procedureDomains) (s : State) : Stops s (each l stopIfOn s) := by
  induction l generalizing s with
  | nil => exact .refl s
  | cons d l ih =>
    exact (stops_stopIfOn (listed d List.mem_cons_self) s).trans (ih (fun e he => listed e (List.mem_cons_of_mem _ he)) _)

/-- A domain that the procedure's list names, and that nothing holds back, is off in the end. -/
theorem each_stopIfOn_off {l : List Nat} {d : Nat} (listed : ∀ e ∈ l, e ∈ procedureDomains) (mem : d ∈ l)
    (stops : ∀ s, (stopDomain d s).power = s.power.setDomain d false) (s : State) : (each l stopIfOn s).power.en.getD d false = false := by
  induction l generalizing s with
  | nil => exact absurd mem List.not_mem_nil
  | cons e l ih =>
    have rest : ∀ x ∈ l, x ∈ procedureDomains := fun x hx => listed x (List.mem_cons_of_mem _ hx)
    rcases List.mem_cons.mp mem with rfl | later
    · refine (stops_each rest (stopIfOn d s)).off d ?_
      unfold stopIfOn
      split
      · rw [stops]
        exact setDomain_false_same _ d
      · next off => exact Bool.eq_false_of_not_eq_true off
    · exact ih rest later _

theorem pdOn_of_disabled {s : State} {d : Nat} (off : s.power.en.getD d false = false) : s.pdOn d = false := by
  unfold State.pdOn
  rw [off, Bool.false_and, Bool.false_and]

/-! ## The end of a readout -/

/-- The units that the end of a readout can change. -/
def readoutParts : List Part := [.frame, .res, .hold, .take, .tandem] ++ reporting

theorem onlyIn_storeRecord (r : Record) (s : State) : onlyIn [.res, .hold] s (storeRecord r s) :=
  onlyIn_trans (onlyIn_mono (onlyIn_withRes _ s) (by decide))
    (onlyIn_ite (onlyIn_mono (onlyIn_withHold _ _) (by decide)) (onlyIn_refl _ _))

theorem onlyIn_closeReadout (s : State) : onlyIn readoutParts s (closeReadout s) := by
  unfold closeReadout
  split
  · exact onlyIn_refl _ s
  · next r reading =>
    have lanes := onlyIn_afterReadout r s
    exact onlyIn_ite (onlyIn_trans (onlyIn_mono lanes (by decide)) (onlyIn_trans (onlyIn_mono (onlyIn_noteVoid _ _) (by decide))
      (onlyIn_trans (onlyIn_mono (onlyIn_storeRecord _ _) (by decide)) (onlyIn_trans (onlyIn_mono (onlyIn_greet _) (by decide))
        (onlyIn_mono (onlyIn_noteBoth _) (by decide)))))) (onlyIn_mono lanes (by decide))

theorem closeReadout_frame {r : Readout} {s : State} (reading : s.frame.readout = some r) :
    (closeReadout s).frame = { s.frame with readout := none, shown := some r } := by
  have lanes : (s.afterReadout r).frame = { s.frame with readout := none, shown := some r } := onlyIn_noteLanes r _ _ .frame (by decide)
  unfold closeReadout
  simp only [reading]
  split
  · rw [onlyIn_noteBoth _ .frame (by decide), onlyIn_greet _ .frame (by decide), onlyIn_storeRecord _ _ .frame (by decide),
      onlyIn_noteVoid _ _ .frame (by decide)]
    exact lanes
  · exact lanes

theorem onlyIn_keepShown (s : State) : onlyIn [.tandem] s (keepShown s) := by
  unfold keepShown
  split
  · exact onlyIn_ite (onlyIn_setTandem _ s) (onlyIn_refl _ s)
  · exact onlyIn_refl _ s

/-- A fold whose steps change a few units of the state that they carry. -/
theorem onlyIn_foldl {α β : Type} {ps : List Part} {f : State × β → α → State × β} (step : ∀ p a, onlyIn ps p.1 (f p a).1) (l : List α)
    (p : State × β) : onlyIn ps p.1 (l.foldl f p).1 := by
  induction l generalizing p with
  | nil => exact onlyIn_refl _ _
  | cons a l ih => exact onlyIn_trans (step p a) (ih (f p a))

theorem onlyIn_sendLine (n : Nat) (q : List Pixel × Nat) (p : State × Nat) : onlyIn [.tandem, .sent] p.1 (sendLine n q p).1 := by
  refine onlyIn_foldl (fun u b => ?_) (linePackets q.2 q.1) (p.1, false)
  rw [apply_ite Prod.fst]
  exact onlyIn_ite (onlyIn_tandemSend 8 n b u.1) (onlyIn_refl _ _)

theorem onlyIn_sendIntermediate (f : Frame) (s : State) : onlyIn [.tandem, .sent] s (sendIntermediate f s) :=
  onlyIn_trans (onlyIn_foldl (fun p q => onlyIn_sendLine f.gov.n q p) f.intermediate.zipIdx (s, 0)) (onlyIn_tandemSend _ _ _ _)

theorem onlyIn_endReadout (s : State) : onlyIn readoutParts s (endReadout s) := by
  unfold endReadout
  split
  · exact onlyIn_refl _ s
  · have closed : onlyIn readoutParts s (closeReadout (keepShown s)) :=
      onlyIn_trans (onlyIn_mono (onlyIn_keepShown s) (by decide)) (onlyIn_closeReadout _)
    exact onlyIn_ite (onlyIn_trans closed (onlyIn_mono (onlyIn_sendIntermediate _ _) (by decide))) closed

/-- The end of a readout takes the readout from the lanes, and numbers no frame. -/
theorem endReadout_lastFrame (s : State) : (endReadout s).frame.lastFrame = s.frame.lastFrame := by
  unfold endReadout
  split
  · rfl
  · next r reading =>
    have kept : (keepShown s).frame = s.frame := onlyIn_keepShown s .frame (by decide)
    have closed : (closeReadout (keepShown s)).frame.lastFrame = s.frame.lastFrame := by
      rw [closeReadout_frame (r := r) (by rw [kept]; exact reading), kept]
    dsimp only
    split
    · rw [onlyIn_sendIntermediate _ _ .frame (by decide)]
      exact closed
    · exact closed

/-! ## The end of a procedure (R232, R401) -/

theorem stopProcedure_eq (s : State) : stopProcedure s = each procedureDomains.reverse stopIfOn (endReadout s) := rfl

theorem stops_stopProcedure (s : State) : Stops (endReadout s) (stopProcedure s) := by
  rw [stopProcedure_eq]
  exact stops_each (fun d => List.mem_reverse.mp) _

/-- The units that the end of a procedure can change. -/
def procedureParts : List Part := [.power, .sensor, .cal, .conv, .aux, .clk, .time, .sync, .thermal] ++ readoutParts

theorem onlyIn_stopProcedure (s : State) : onlyIn procedureParts s (stopProcedure s) :=
  onlyIn_trans (onlyIn_mono (onlyIn_endReadout s) (by decide)) (onlyIn_mono (stops_stopProcedure s).parts (by decide))

theorem stopProcedure_cal (s : State) : ∃ b, (stopProcedure s).cal = { s.cal with wordsLoaded := b } := by
  obtain ⟨b, cal⟩ := (stops_stopProcedure s).cal
  exact ⟨b, by rw [cal, onlyIn_endReadout s .cal (by decide)]⟩

theorem stopProcedure_stays_off {s : State} {d : Nat} (off : s.power.en.getD d false = false) : (stopProcedure s).pdOn d = false := by
  refine pdOn_of_disabled ((stops_stopProcedure s).off d ?_)
  rw [onlyIn_endReadout s .power (by decide)]
  exact off

theorem lanes_listed : 44 ∈ procedureDomains := by decide

theorem stopDomain_lanes (s : State) : (stopDomain 44 s).power = s.power.setDomain 44 false := rfl

theorem stopProcedure_lanes_off (s : State) : (stopProcedure s).pdOn 44 = false := by
  rw [stopProcedure_eq]
  exact pdOn_of_disabled (each_stopIfOn_off (fun d => List.mem_reverse.mp) (List.mem_reverse.mpr lanes_listed) stopDomain_lanes _)

end Sys2Proof.Machine

/-! PROOFS. Calibration sets: CAL_RUN, CAL_INSTALL and CAL_ROLLBACK (R366 to R370). -/

namespace Sys2Proof.Machine

/-! ## What an accepted request leaves -/

theorem claiming_cal (s : State) (o : Opcode) (r : Req) (claims : List Resource) : (s.claiming o r claims).cal = s.cal :=
  onlyIn_claiming s o r claims .cal (by decide)

theorem claiming_frame (s : State) (o : Opcode) (r : Req) (claims : List Resource) : (s.claiming o r claims).frame = s.frame :=
  onlyIn_claiming s o r claims .frame (by decide)

theorem takeUp_slot (r : Req) (s : State) : (takeUp r s).mbox.auth.slot = s.mbox.auth.slot := by
  unfold takeUp Mailbox.heard; cases r.chan <;> rfl

theorem claiming_slot (s : State) (o : Opcode) (r : Req) (claims : List Resource) : (s.claiming o r claims).mbox.auth.slot = s.mbox.auth.slot := by
  rw [← takeUp_slot r s]
  unfold State.claiming accept respond
  dsimp only
  split
  · cases (reqOf o r s).chan <;> rfl
  · rfl

theorem claiming_module (s : State) (o : Opcode) (r : Req) (claims : List Resource) : s.time.module ≤ (s.claiming o r claims).time.module := by
  have time : (s.claiming o r claims).time = s.time.tock := (onlyIn_accept _ _ _ _ .time (by decide)).trans (takeUp_time r s)
  rw [time]
  exact module_le_advance _ _

theorem claiming_acceptedThen {o : Opcode} {r : Req} {claims : List Resource} {st : Status} {n : Nat} {b : List Byte} {s u : State}
    (w : Waiting o r s) (same : ∀ c, u.mbox.get c = (s.claiming o r claims).mbox.get c) :
    AcceptedThen o r 0 st n b s (finish (reqOf o r s) st n b u) := accepted_then w same

theorem onlyIn_withCal (c : CalUnit) (s : State) : onlyIn [.cal] s { s with cal := c } := by
  intro q hq; cases q <;> simp [Part.same] at hq ⊢

/-! ## CAL_RUN (R366, R367) -/

section
variable {r : Req} {p k : U16} {ref : U64} {ms : U32} {m : CalMeasure} {s : State} (licensed : s.mbox.auth.role = 1 → s.cap 6 = true)
  (w : Waiting .calRun r s) (len : r.len = 20) (below : p.toNat ≤ 6) (service : s.mode.mode = .service)
include licensed w len below service

/-- A request that is not the next step of its procedure is refused; another is accepted. -/
theorem exec_calRun : exec (.calRun r p k ref ms m) s = .next
    (if calDue p.toNat k.toNat ms.toNat s = true then
      match s.cal.run with
      | some q =>
        if p.toNat = 0 then finish (reqOf .calRun r s) .ok 0 (calReply 0 0xFFFF 0 0) (calBegin ref.toInt (s.claiming .calRun r [.calStore]))
        else if p.toNat = 6 then calFinish q m.readBack (reqOf .calRun r s) (s.claiming .calRun r [.calStore])
        else calStep p.toNat k.toNat ref.toInt (ms.toNat * Config.ms) m q (reqOf .calRun r s) (s.claiming .calRun r [.calStore])
      | none => finish (reqOf .calRun r s) .ok 0 (calReply 0 0xFFFF 0 0) (calBegin ref.toInt (s.claiming .calRun r [.calStore]))
    else respond (reqOf .calRun r s) true .badParam 0 [] (takeUp r s)) := by
  have run := command_exec (c := .calRun r p k ref ms m) rfl w (fixed_passes len w.reserved (decide_eq_true below)
    (decide_eq_true ((congrArg ModeUnit.mode (takeUp_mode r s)).trans service)) w.free)
  have allowed : ¬ ((takeUp r s).mbox.auth.role = 1 ∧ (takeUp r s).cap 6 = false) := by
    rw [takeUp_role, State.cap, takeUp_fuse]
    exact fun h => Bool.false_ne_true (h.2.symm.trans (licensed h.1))
  have due : calDue p.toNat k.toNat ms.toNat (takeUp r s) = calDue p.toNat k.toNat ms.toNat s := by
    unfold calDue
    rw [takeUp_cal]
  have cal : (accept (reqOf .calRun r s) [.calStore] 0 (takeUp r s)).cal = s.cal := claiming_cal s _ r _
  rw [run]
  unfold calRunAct
  rw [if_neg allowed, due]
  dsimp only
  rw [cal]
  cases calDue p.toNat k.toNat ms.toNat s <;> rfl

theorem calRun_refuses (early : calDue p.toNat k.toNat ms.toNat s = false) :
    Completes (.calRun r p k ref ms m) s [.time, .mbox] fun t => Answered .calRun r true .badParam 0 [] s t := by
  have run := exec_calRun (k := k) (ref := ref) (ms := ms) (m := m) licensed w len below service
  rw [if_neg (by simp [early])] at run
  exact completes_answer w run

/-- BEGIN opens a candidate, whether or not a run was in progress. -/
theorem exec_calRun_begin (begins : p = 0) (first : k = 0) : exec (.calRun r p k ref ms m) s = .next
    (finish (reqOf .calRun r s) .ok 0 (calReply 0 0xFFFF 0 0) (calBegin ref.toInt (s.claiming .calRun r [.calStore]))) := by
  subst begins first
  have run := exec_calRun (k := 0) (ref := ref) (ms := ms) (m := m) licensed w len below service
  have due : calDue (0 : U16).toNat (0 : U16).toNat ms.toNat s = true := by simp [calDue]
  rw [if_pos due] at run
  rw [run]
  cases s.cal.run <;> rfl

omit licensed w len below service in
theorem setOther_facts (c : CalUnit) (x : Option CalSet) : (c.setOther x).other = x ∧ (c.setOther x).inForce = c.inForce := by
  unfold CalUnit.setOther CalUnit.other CalUnit.inForce
  cases c.useB <;> simp

theorem calRun_begins (begins : p = 0) (first : k = 0) : Completes (.calRun r p k ref ms m) s [.time, .mbox, .cal] fun t =>
    AcceptedThen .calRun r 0 .ok 0 (calReply 0 0xFFFF 0 0) s t ∧ t.cal.other = none ∧ t.cal.inForce = s.cal.inForce ∧
    t.cal.candidate = none ∧ ∃ q, t.cal.run = some q ∧ q.measured = [] ∧ q.nextStep = 0xFFFF :: List.replicate 6 0 := by
  let a := s.claiming .calRun r [.calStore]
  obtain ⟨other, inForce⟩ := setOther_facts a.cal none
  have cal : a.cal = s.cal := claiming_cal s _ r _
  have answer := onlyIn_finish (reqOf .calRun r s) .ok 0 (calReply 0 0xFFFF 0 0) (calBegin ref.toInt a)
  refine ⟨_, exec_calRun_begin licensed w len below service begins first, ?_, claiming_acceptedThen w fun _ => rfl, ?_⟩
  · exact onlyIn_trans (onlyIn_mono (onlyIn_claiming s _ r _) (by decide)) (onlyIn_trans (onlyIn_mono (onlyIn_withCal _ a) (by decide))
      (onlyIn_mono answer (by decide)))
  · rw [answer .cal (by decide)]
    exact ⟨other, inForce.trans (by rw [cal]), rfl, _, rfl, rfl, rfl⟩

end

/-! ## Rings at a boundary -/

theorem atBoundary_rests (v : ViewRing) (n : Nat) : (v.atBoundary false n).state ≠ .running := by
  unfold ViewRing.atBoundary
  split
  · show ViewState.stopped ≠ .running
    decide
  · split
    · next stopped =>
      show v.state ≠ .running
      rw [stopped]
      decide
    · show ViewState.armed ≠ .running
      decide

theorem atBoundary_runs {v : ViewRing} (n : Nat) (armed : v.state = .armed) (goes : v.change ≠ some false) :
    (v.atBoundary true n).state = .running := by
  unfold ViewRing.atBoundary
  rw [if_neg goes, if_neg (by rw [armed]; decide)]
  rfl

/-! ## The readout of a procedure (R366) -/

/-- The units that a procedure's readout can change, beside those that the end of another readout can. -/
def exposedParts : List Part := [.time, .cal, .sensor, .frame, .view]

section
variable (ticks : Nat) (m : CalMeasure) (s : State)

/-- The moment at which the exposure has ended. -/
def State.exposed : State := reach (s.time.module + ticks) (endReadout s)

theorem onlyIn_procedureReadout : onlyIn (exposedParts ++ readoutParts) s (procedureReadout ticks m s) := by
  have exposed : onlyIn (exposedParts ++ readoutParts) s (s.exposed ticks) :=
    onlyIn_trans (onlyIn_mono (onlyIn_endReadout s) (by decide)) (onlyIn_mono (onlyIn_reach _ _) (by decide))
  have read : onlyIn [.cal, .sensor, .frame, .view] (s.exposed ticks) (procedureReadout ticks m s) := by
    intro q hq; cases q <;> simp [Part.same] at hq ⊢ <;> rfl
  exact onlyIn_trans exposed (onlyIn_mono read (by decide))

theorem procedureReadout_cal : (procedureReadout ticks m s).cal = { s.cal with wordsLoaded := true } := by
  have cal : (endReadout s).cal = s.cal := onlyIn_endReadout s .cal (by decide)
  rw [← cal]
  rfl

theorem procedureReadout_lastFrame : (procedureReadout ticks m s).frame.lastFrame = s.frame.lastFrame + 1 := by
  rw [← endReadout_lastFrame s]
  rfl

theorem procedureReadout_reads : ∃ x, (procedureReadout ticks m s).frame.readout = some x ∧ x.done = 0 ∧ x.gov.n = s.frame.lastFrame + 1 ∧
    x.gov.sensor.window = ⟨0, 18432, 9216⟩ ∧ x.gov.sensor.bin = 1 ∧ s.time.module + ticks ≤ x.gov.boundary := by
  refine ⟨_, rfl, rfl, ?_, rfl, rfl, reach_module _ (endReadout s)⟩
  rw [← endReadout_lastFrame s]
  rfl

theorem procedureReadout_view : (procedureReadout ticks m s).view =
    { s.view with rings := s.view.rings.mapIdx fun i r => r.inService i (s.frame.lastFrame + 1) } := by
  have view : (endReadout s).view = s.view := onlyIn_endReadout s .view (by decide)
  rw [← endReadout_lastFrame s, ← view]
  rfl

/-- A procedure's readout runs the display and analysis taps that are started, and no other ring. -/
theorem procedureReadout_rings :
    (∀ i, i ≠ 0 → i ≠ 2 → ((procedureReadout ticks m s).view.ring i).state ≠ .running) ∧
    ∀ i, (i = 0 ∨ i = 2) → (s.view.ring i).state = .armed → (s.view.ring i).change ≠ some false →
      ((procedureReadout ticks m s).view.ring i).state = .running := by
  have ring (i : Nat) : (procedureReadout ticks m s).view.ring i =
      ((s.view.rings[i]?).map fun r => r.inService i (s.frame.lastFrame + 1)).getD Reset.viewRing := by
    rw [procedureReadout_view]
    show (s.view.rings.mapIdx _).getD i _ = _
    rw [List.getD_eq_getElem?_getD, List.getElem?_mapIdx]
  refine ⟨fun i notTap notBlock => ?_, fun i tap armed goes => ?_⟩
  · rw [ring]
    have other : (decide (i = 0) || decide (i = 2)) = false := by simp [notTap, notBlock]
    cases s.view.rings[i]? with
    | none =>
      show ViewState.stopped ≠ .running
      decide
    | some v =>
      show (v.atBoundary (decide (i = 0) || decide (i = 2)) _).state ≠ _
      rw [other]
      exact atBoundary_rests v _
  · rw [ring]
    have mine : (decide (i = 0) || decide (i = 2)) = true := by simpa using tap
    have held : s.view.ring i = (s.view.rings[i]?).getD Reset.viewRing := List.getD_eq_getElem?_getD ..
    rw [held] at armed goes
    cases place : s.view.rings[i]? with
    | none =>
      rw [place] at armed
      exact absurd armed (by decide)
    | some v =>
      rw [place] at armed goes
      show (v.atBoundary (decide (i = 0) || decide (i = 2)) _).state = _
      rw [mine]
      exact atBoundary_runs _ armed goes

/-- Where no readout was in progress, the exposure answers no request and stores no record. -/
theorem procedureReadout_idle (idle : s.frame.readout = none) :
    onlyIn exposedParts s (procedureReadout ticks m s) := by
  have exposed : onlyIn exposedParts s (s.exposed ticks) := by
    unfold State.exposed
    rw [endReadout_of_none idle]
    exact onlyIn_mono (onlyIn_reach _ s) (by decide)
  have read : onlyIn [.cal, .sensor, .frame, .view] (s.exposed ticks) (procedureReadout ticks m s) := by
    intro q hq; cases q <;> simp [Part.same] at hq ⊢ <;> rfl
  exact onlyIn_trans exposed (onlyIn_mono read (by decide))

end

/-! ## A step that runs -/

/-- The step that a procedure asks for after step k; 0xFFFF after its last one. -/
def calNext (p k : Nat) : Nat := if k + 1 < calSteps p then k + 1 else 0xFFFF

/-- What a step leaves of the run: the last step puts what was measured into the candidate. -/
def CalRun.stepped (q : CalRun) (p k : Nat) (ref : Int) (m : CalMeasure) (mono : Bool) : CalRun :=
  let last := decide (calNext p k = 0xFFFF)
  let cand := { q.candidate with refs := q.candidate.refs.set p ref }
  { q with nextStep := q.nextStep.set p (calNext p k), measured := if last then q.measured ++ [p] else q.measured,
           badSteps := if last ∧ p = 4 then m.badSteps else q.badSteps,
           rawSteps := if last ∧ p = 4 then some (cand.words.merge (calMask 4) ⟨m.words, m.wordsExcept⟩ mono) else q.rawSteps,
           candidate := if last then cand.measure p mono q.rawSteps q.badSteps m else cand }

theorem stepped_facts (q : CalRun) (p k : Nat) (ref : Int) (m : CalMeasure) (mono : Bool) :
    (q.stepped p k ref m mono).nextStep = q.nextStep.set p (calNext p k) ∧
    (q.stepped p k ref m mono).measured = (if calNext p k = 0xFFFF then q.measured ++ [p] else q.measured) ∧
    (calNext p k ≠ 0xFFFF → (q.stepped p k ref m mono).candidate.words = q.candidate.words) := by
  refine ⟨rfl, ?_, fun more => ?_⟩
  · simp [CalRun.stepped]
  · simp [CalRun.stepped, more]

/-- The domains of a procedure, with those that it adds. DEFECT needs none. -/
def State.procedurePowered (s : State) (p : Nat) : State := if p = 5 then s else (powerUp none procedureDomains s).1

/-- A step's exposure, where it has one. -/
def State.procedureRan (s : State) (p ticks : Nat) (m : CalMeasure) : State :=
  if p ∈ [1, 3, 4] then procedureReadout ticks m (s.procedurePowered p) else s.procedurePowered p

theorem powers_procedurePowered (s : State) (p : Nat) : Powers s (s.procedurePowered p) := by
  unfold State.procedurePowered
  split
  · exact .refl s
  · exact powers_powerUp none _ s

theorem calStep_runs (p k : Nat) (ref : Int) (ticks : Nat) {m : CalMeasure} (q : CalRun) (id : ReqId) (s : State) (good : m.noPowerGood = none) :
    calStep p k ref ticks m q id s = finish id .ok 0 (calReply k (calNext p k) 0 m.measured)
      { s.procedureRan p ticks m with cal := { (s.procedureRan p ticks m).cal with run := some (q.stepped p k ref m s.mono) } } := by
  have pair : (if p = 5 then (s, true) else powerUp none procedureDomains s) = (s.procedurePowered p, true) := by
    unfold State.procedurePowered
    split
    · rfl
    · exact Prod.ext rfl (powerUp_none_all _ _)
  unfold calStep
  rw [good, pair]
  rfl

theorem onlyIn_procedureRan (s : State) (p ticks : Nat) (m : CalMeasure) :
    onlyIn (startParts ++ exposedParts ++ readoutParts) s (s.procedureRan p ticks m) := by
  have powered := (powers_procedurePowered s p).parts
  exact onlyIn_ite (onlyIn_trans (onlyIn_mono powered (by decide)) (onlyIn_mono (onlyIn_procedureReadout _ _ _) (by decide)))
    (onlyIn_mono powered (by decide))

theorem procedureRan_cal (s : State) (p ticks : Nat) (m : CalMeasure) : ∃ b, (s.procedureRan p ticks m).cal = { s.cal with wordsLoaded := b } := by
  have powered : (s.procedurePowered p).cal = s.cal := (powers_procedurePowered s p).parts .cal (by decide)
  unfold State.procedureRan
  split
  · exact ⟨true, by rw [procedureReadout_cal, powered]⟩
  · exact ⟨s.cal.wordsLoaded, by rw [powered]⟩

/-- Where no readout is in progress, a step answers no request and leaves the records. -/
theorem procedureRan_idle {s : State} (p ticks : Nat) (m : CalMeasure) (idle : s.frame.readout = none) :
    onlyIn (startParts ++ exposedParts) s (s.procedureRan p ticks m) ∧ ∀ c, (s.procedureRan p ticks m).mbox.get c = s.mbox.get c := by
  have powered := powers_procedurePowered s p
  have still : (s.procedurePowered p).frame.readout = none := by
    rw [powered.parts .frame (by decide)]
    exact idle
  have exposed := procedureReadout_idle ticks m (s.procedurePowered p) still
  refine ⟨onlyIn_ite (onlyIn_trans (onlyIn_mono powered.parts (by decide)) (onlyIn_mono exposed (by decide)))
      (onlyIn_mono powered.parts (by decide)),
    fun c => ?_⟩
  unfold State.procedureRan
  split
  · rw [exposed .mbox (by decide)]
    exact powered.channels c
  · exact powered.channels c

/-- A step that reads nothing out leaves the engine, the viewing paths and the sensor. -/
theorem procedureRan_quiet {s : State} {p : Nat} (ticks : Nat) (m : CalMeasure) (quiet : p ∉ [1, 3, 4]) :
    onlyIn startParts s (s.procedureRan p ticks m) := by
  unfold State.procedureRan
  rw [if_neg quiet]
  exact (powers_procedurePowered s p).parts

/-! ## A step that fails for want of power -/

theorem calStep_fails {p : Nat} (k : Nat) (ref : Int) (ticks : Nat) {m : CalMeasure} (q : CalRun) (id : ReqId) {s : State} {d : Nat}
    (powers : p ≠ 5) (bad : m.noPowerGood = some d) (listed : d ∈ procedureDomains) (usable : s.usable d = true) (off : s.pdOn d = false) :
    calStep p k ref ticks m q id s = finish id .failed 0 [] (stopProcedure (powerUp (some d) procedureDomains s).1) ∧
    (stopProcedure (powerUp (some d) procedureDomains s).1).pdOn d = false := by
  obtain ⟨fails, dark⟩ := powerUp_fails listed usable off
  have pair : powerUp (some d) procedureDomains s = ((powerUp (some d) procedureDomains s).1, false) := Prod.ext rfl fails
  refine ⟨?_, stopProcedure_stays_off dark⟩
  unfold calStep
  rw [bad, if_neg powers, pair]

theorem calSet_of_cal {s t : State} (same : t.cal = s.cal) : t.calSet = s.calSet := by
  unfold State.calSet
  rw [same]

theorem mono_of_fuse {s t : State} (same : t.fuse = s.fuse) : t.mono = s.mono := by
  simp only [State.mono, same]

theorem serial_of_fuse {s t : State} (same : t.fuse = s.fuse) : t.serial = s.serial := by
  simp only [State.serial, same]

theorem pdOn_of_power {s t : State} (same : t.power = s.power) (d : Nat) : t.pdOn d = s.pdOn d := by
  unfold State.pdOn
  rw [same]

section
variable {r : Req} {p k : U16} {ref : U64} {ms : U32} {m : CalMeasure} {s : State} (licensed : s.mbox.auth.role = 1 → s.cap 6 = true)
  (w : Waiting .calRun r s) (len : r.len = 20) (below : p.toNat ≤ 6) (service : s.mode.mode = .service)
include licensed w len below service

/-! ## The measuring steps -/

/-- A due request of a run in progress that is neither BEGIN nor FINISH is a step. -/
theorem exec_calRun_step {q : CalRun} (running : s.cal.run = some q) (due : calDue p.toNat k.toNat ms.toNat s = true)
    (first : 1 ≤ p.toNat) (last : p.toNat ≤ 5) : exec (.calRun r p k ref ms m) s = .next
      (calStep p.toNat k.toNat ref.toInt (ms.toNat * Config.ms) m q (reqOf .calRun r s) (s.claiming .calRun r [.calStore])) := by
  have run := exec_calRun (k := k) (ref := ref) (ms := ms) (m := m) licensed w len below service
  rw [if_pos due, running] at run
  dsimp only at run
  rwa [if_neg (by omega), if_neg (by omega)] at run

/-- A step that finds no power good answers FAILED; the run goes on. -/
theorem calRun_fails {q : CalRun} {d : Nat} (running : s.cal.run = some q) (due : calDue p.toNat k.toNat ms.toNat s = true)
    (first : 1 ≤ p.toNat) (last : p.toNat ≤ 4) (bad : m.noPowerGood = some d) (listed : d ∈ procedureDomains) (usable : s.usable d = true)
    (off : s.pdOn d = false) :
    CompletesKeeping (.calRun r p k ref ms m) s (stored ++ [.settings, .mode, .trust]) fun t => t.cal.run = some q ∧ t.pdOn d = false := by
  let a := s.claiming .calRun r [.calStore]
  have run := exec_calRun_step (ref := ref) (m := m) licensed w len below service running due first (by omega)
  obtain ⟨ends, dark⟩ :=
    calStep_fails (p := p.toNat) k.toNat ref.toInt (ms.toNat * Config.ms) (s := a) q (reqOf .calRun r s) (by omega) bad listed
      ((usable_of_fuse (claiming_fuse s _ r _) d).trans usable) ((pdOn_of_power (claiming_power s _ r _) d).trans off)
  let u := (powerUp (some d) procedureDomains a).1
  have powered := (powers_powerUp (some d) procedureDomains a).parts
  have answer := onlyIn_finish (reqOf .calRun r s) .failed 0 [] (stopProcedure u)
  have parts : onlyIn ([.time, .mbox] ++ startParts ++ procedureParts) s (finish (reqOf .calRun r s) .failed 0 [] (stopProcedure u)) :=
    onlyIn_trans (onlyIn_mono (onlyIn_claiming s _ r _) (by decide)) (onlyIn_trans (onlyIn_mono powered (by decide))
      (onlyIn_trans (onlyIn_mono (onlyIn_stopProcedure u) (by decide)) (onlyIn_mono answer (by decide))))
  obtain ⟨b, cal⟩ := stopProcedure_cal u
  refine ⟨_, run.trans (congrArg _ ends), fun x kept => parts x ?_, ?_, ?_⟩
  · revert x; decide
  · have held : u.cal.run = some q := by rw [powered .cal (by decide), claiming_cal, running]
    rw [answer .cal (by decide), cal]
    exact held
  · exact (pdOn_of_power (answer .power (by decide)) d).trans dark

/-- The state that a step leaves, but for its response. -/
def State.calStepped (a : State) (p k : Nat) (ref : Int) (ticks : Nat) (m : CalMeasure) (q : CalRun) : State :=
  { a.procedureRan p ticks m with cal := { (a.procedureRan p ticks m).cal with run := some (q.stepped p k ref m a.mono) } }

theorem calRun_steps {q : CalRun} (running : s.cal.run = some q) (due : calDue p.toNat k.toNat ms.toNat s = true)
    (first : 1 ≤ p.toNat) (last : p.toNat ≤ 5) (good : m.noPowerGood = none) :
    CompletesKeeping (.calRun r p k ref ms m) s (stored ++ [.settings, .mode, .trust, .bus]) fun t =>
      t.cal.copyA = s.cal.copyA ∧ t.cal.copyB = s.cal.copyB ∧
      (s.frame.readout = none → RespondsAccepted .calRun r 0 .ok 0 (calReply k.toNat (calNext p.toNat k.toNat) 0 m.measured) s t ∧
        t.ledger = s.ledger ∧ t.conv = s.conv ∧ t.take = s.take ∧ t.hold = s.hold ∧ t.res = s.res) ∧
      ((p = 2 ∨ p = 5) → t.frame = s.frame ∧ t.view = s.view ∧ t.sensor = s.sensor) ∧
      ((p = 1 ∨ p = 3 ∨ p = 4) → t.frame.lastFrame = s.frame.lastFrame + 1 ∧
        (∃ x, t.frame.readout = some x ∧ x.done = 0 ∧ x.gov.n = s.frame.lastFrame + 1 ∧ x.gov.sensor.window = ⟨0, 18432, 9216⟩ ∧
          x.gov.sensor.bin = 1 ∧ s.time.module + ms.toNat * Config.ms ≤ x.gov.boundary) ∧
        (∀ i, i ≠ 0 → i ≠ 2 → (t.view.ring i).state ≠ .running) ∧
        ∀ i, (i = 0 ∨ i = 2) → (s.view.ring i).state = .armed → (s.view.ring i).change ≠ some false →
          (t.view.ring i).state = .running) ∧
      ∃ q', t.cal.run = some q' ∧ q'.nextStep = q.nextStep.set p.toNat (calNext p.toNat k.toNat) ∧
        q'.measured = (if calNext p.toNat k.toNat = 0xFFFF then q.measured ++ [p.toNat] else q.measured) ∧
        (calNext p.toNat k.toNat ≠ 0xFFFF → q'.candidate.words = q.candidate.words) := by
  let a := s.claiming .calRun r [.calStore]
  let ticks := ms.toNat * Config.ms
  let v := a.procedureRan p.toNat ticks m
  let u := a.calStepped p.toNat k.toNat ref.toInt ticks m q
  let t := finish (reqOf .calRun r s) .ok 0 (calReply k.toNat (calNext p.toNat k.toNat) 0 m.measured) u
  have filed : onlyIn [.cal] v u := onlyIn_withCal _ v
  have run := exec_calRun_step (ref := ref) (m := m) licensed w len below service running due first last
  rw [calStep_runs p.toNat k.toNat ref.toInt ticks q (reqOf .calRun r s) a good] at run
  have taken := onlyIn_claiming s .calRun r [.calStore]
  have answer : onlyIn [.mbox] u t := onlyIn_finish _ _ _ _ u
  have parts : onlyIn ([.time, .mbox, .cal] ++ startParts ++ exposedParts ++ readoutParts) s t :=
    onlyIn_trans (onlyIn_mono taken (by decide)) (onlyIn_trans (onlyIn_mono (onlyIn_procedureRan a p.toNat ticks m) (by decide))
      (onlyIn_trans (onlyIn_mono filed (by decide)) (onlyIn_mono answer (by decide))))
  obtain ⟨b, cal⟩ := procedureRan_cal a p.toNat ticks m
  have store : t.cal = { s.cal with wordsLoaded := b, run := some (q.stepped p.toNat k.toNat ref.toInt m a.mono) } := by
    have held : v.cal = { s.cal with wordsLoaded := b } := by rw [cal, claiming_cal]
    have stepped : u.cal = { v.cal with run := some (q.stepped p.toNat k.toNat ref.toInt m a.mono) } := rfl
    rw [answer .cal (by decide), stepped, held]
  refine ⟨t, run, fun x kept => parts x (by revert x; decide), ?_, ?_, fun idle => ?_, fun quiet => ?_, fun exposes => ?_, ?_⟩
  · rw [store]
  · rw [store]
  · obtain ⟨still, channels⟩ := procedureRan_idle (s := a) p.toNat ticks m (by rw [claiming_frame]; exact idle)
    have kept : onlyIn ([.time, .mbox, .cal] ++ startParts ++ exposedParts) s t :=
      onlyIn_trans (onlyIn_mono taken (by decide)) (onlyIn_trans (onlyIn_mono still (by decide))
        (onlyIn_trans (onlyIn_mono filed (by decide)) (onlyIn_mono answer (by decide))))
    exact ⟨claiming_answered w channels, kept .ledger (by decide), kept .conv (by decide), kept .take (by decide), kept .hold (by decide),
      kept .res (by decide)⟩
  · have still := procedureRan_quiet (s := a) (p := p.toNat) ticks m (by rcases quiet with rfl | rfl <;> decide)
    have kept : onlyIn ([.time, .mbox, .cal] ++ startParts) s t :=
      onlyIn_trans (onlyIn_mono taken (by decide)) (onlyIn_trans (onlyIn_mono still (by decide))
        (onlyIn_trans (onlyIn_mono filed (by decide)) (onlyIn_mono answer (by decide))))
    exact ⟨kept .frame (by decide), kept .view (by decide), kept .sensor (by decide)⟩
  · have member : p.toNat ∈ [1, 3, 4] := by rcases exposes with rfl | rfl | rfl <;> decide
    let z := a.procedurePowered p.toNat
    have powered := powers_procedurePowered a p.toNat
    have reads : v = procedureReadout ticks m z := if_pos member
    have frame : t.frame = (procedureReadout ticks m z).frame :=
      ((answer .frame (by decide)).trans (filed .frame (by decide))).trans (congrArg State.frame reads)
    have view : t.view = (procedureReadout ticks m z).view :=
      ((answer .view (by decide)).trans (filed .view (by decide))).trans (congrArg State.view reads)
    have frame0 : z.frame = s.frame := (powered.parts .frame (by decide)).trans (claiming_frame s _ r _)
    have view0 : z.view = s.view := (powered.parts .view (by decide)).trans (taken .view (by decide))
    have module : s.time.module ≤ z.time.module := powered.module ▸ claiming_module s _ r _
    obtain ⟨x, readout, done, number, window, bin, boundary⟩ := procedureReadout_reads ticks m z
    obtain ⟨rest, taps⟩ := procedureReadout_rings ticks m z
    rw [frame0] at number
    rw [view0] at taps
    rw [frame, view, procedureReadout_lastFrame, frame0]
    exact ⟨rfl, ⟨x, readout, done, number, window, bin, le_trans (Nat.add_le_add_right module _) boundary⟩, rest, taps⟩
  · obtain ⟨steps, measured, words⟩ := stepped_facts q p.toNat k.toNat ref.toInt m a.mono
    exact ⟨_, congrArg CalUnit.run store, steps, measured, words⟩

end

/-! ## The end of the procedures -/

theorem onlyIn_endProcedure (s : State) : onlyIn procedureParts s (endProcedure s) := onlyIn_ite (onlyIn_stopProcedure s) (onlyIn_refl _ s)

theorem endProcedure_cal (s : State) : ∃ b, (endProcedure s).cal = { s.cal with wordsLoaded := b } := by
  unfold endProcedure
  split
  · exact stopProcedure_cal s
  · exact ⟨s.cal.wordsLoaded, rfl⟩

theorem endProcedure_of_off {s : State} (off : s.pdOn 44 = false) : endProcedure s = s := if_neg (by simp [off])

theorem endProcedure_lanes_off (s : State) : (endProcedure s).pdOn 44 = false := by
  unfold endProcedure
  split
  · exact stopProcedure_lanes_off s
  · next off => simpa using off

theorem endProcedure_channels {s : State} (idle : s.frame.readout = none) (c : Chan) : (endProcedure s).mbox.get c = s.mbox.get c := by
  have stopped := (stops_stopProcedure s).parts
  rw [endReadout_of_none idle] at stopped
  have mbox : (endProcedure s).mbox = s.mbox := onlyIn_ite stopped (onlyIn_refl _ s) .mbox (by decide)
  rw [mbox]

/-! ## What FINISH leaves -/

/-- FINISH keeps a candidate. -/
def State.keepsCandidate (s : State) (c : CalSet) : State :=
  { endProcedure s with
    cal := { (endProcedure s).cal with run := none, candidate := some (c.checked s.mono s.serial), lastId := c.setId } }

/-- FINISH discards a candidate that fails the n-th check. -/
def State.dropsCandidate (s : State) (n : Nat) : State :=
  logEvent 0x0D22 srcKeeper n { endProcedure s with cal := { (endProcedure s).cal with run := none } }

theorem onlyIn_keepsCandidate (s : State) (c : CalSet) : onlyIn (.cal :: procedureParts) s (s.keepsCandidate c) :=
  onlyIn_trans (onlyIn_mono (onlyIn_endProcedure s) (by decide)) (onlyIn_mono (onlyIn_withCal _ _) (by decide))

theorem onlyIn_dropsCandidate (s : State) (n : Nat) : onlyIn (.cal :: procedureParts) s (s.dropsCandidate n) :=
  onlyIn_trans (onlyIn_mono (onlyIn_endProcedure s) (by decide)) (onlyIn_trans (onlyIn_mono (onlyIn_withCal _ _) (by decide))
    (onlyIn_mono (onlyIn_logEvent _ _ _ _) (by decide)))

theorem keepsCandidate_cal (s : State) (c : CalSet) : ∃ b, (s.keepsCandidate c).cal =
    { s.cal with run := none, candidate := some (c.checked s.mono s.serial), lastId := c.setId, wordsLoaded := b } := by
  obtain ⟨b, cal⟩ := endProcedure_cal s
  exact ⟨b, by unfold State.keepsCandidate; rw [cal]⟩

theorem dropsCandidate_cal (s : State) (n : Nat) : ∃ b, (s.dropsCandidate n).cal = { s.cal with run := none, wordsLoaded := b } := by
  obtain ⟨b, cal⟩ := endProcedure_cal s
  refine ⟨b, (onlyIn_logEvent _ _ _ _ .cal (by decide)).trans ?_⟩
  show { (endProcedure s).cal with run := none } = _
  rw [cal]

/-- The candidate as FINISH completes it. -/
abbrev finalCandidate (s : State) (q : CalRun) : CalSet := q.finished (s.cal.lastId + 1) s.mbox.auth.slot s.cal.inForce

/-- Whether FINISH finds a check that fails. -/
abbrev finalVerdict (s : State) (q : CalRun) (readBack : U64) : Option Nat :=
  firstFailing ((finalCandidate s q).checks s.mono q.badSteps readBack s.calSet)

theorem calFinish_keeps {q : CalRun} {readBack : U64} {s : State} (id : ReqId) (passes : finalVerdict s q readBack = none) :
    calFinish q readBack id s = finish id .ok 0 (calReply 0 0xFFFF (s.cal.lastId + 1) 0) (s.keepsCandidate (finalCandidate s q)) := by
  unfold calFinish
  dsimp only
  rw [show firstFailing _ = none from passes]
  rfl

theorem calFinish_drops {q : CalRun} {readBack : U64} {n : Nat} {s : State} (id : ReqId) (fails : finalVerdict s q readBack = some n) :
    calFinish q readBack id s = finish id .failed 0 [] (s.dropsCandidate n) := by
  unfold calFinish
  dsimp only
  rw [show firstFailing _ = some n from fails]
  rfl

/-- FINISH judges the candidate by the calibration store, the slot of the conductor and the fuses, which an accepted request leaves. -/
theorem claiming_finalCandidate (s : State) (q : CalRun) (o : Opcode) (r : Req) (claims : List Resource) :
    finalCandidate (s.claiming o r claims) q = finalCandidate s q := by
  unfold finalCandidate
  rw [claiming_cal, claiming_slot]

theorem claiming_finalVerdict (s : State) (q : CalRun) (readBack : U64) (o : Opcode) (r : Req) (claims : List Resource) :
    finalVerdict (s.claiming o r claims) q readBack = finalVerdict s q readBack := by
  unfold finalVerdict
  rw [claiming_finalCandidate, mono_of_fuse (claiming_fuse s o r claims), calSet_of_cal (claiming_cal s o r claims)]

theorem calDue_finish {q : CalRun} {s : State} {duration : Nat} (running : s.cal.run = some q) (due : q.nextStep.getD 6 0xFFFF = 0) :
    calDue 6 0 duration s = true := by
  unfold calDue
  rw [running]
  simp only [due]
  simp

section
variable {r : Req} {p k : U16} {ref : U64} {ms : U32} {m : CalMeasure} {s : State} (licensed : s.mbox.auth.role = 1 → s.cap 6 = true)
  (w : Waiting .calRun r s) (len : r.len = 20) (below : p.toNat ≤ 6) (service : s.mode.mode = .service) {q : CalRun}
  (running : s.cal.run = some q) (finishes : p = 6) (first : k = 0) (due : q.nextStep.getD 6 0xFFFF = 0)
include licensed w len below service running finishes first due

/-- FINISH judges the candidate and answers. -/
theorem exec_calRun_finish : exec (.calRun r p k ref ms m) s = .next
    (calFinish q m.readBack (reqOf .calRun r s) (s.claiming .calRun r [.calStore])) := by
  subst finishes first
  have run := exec_calRun (k := 0) (ref := ref) (ms := ms) (m := m) licensed w len below service
  have timely : calDue (6 : U16).toNat (0 : U16).toNat ms.toNat s = true := calDue_finish running due
  rw [if_pos timely, running] at run
  exact run

section
variable (passes : finalVerdict s q m.readBack = none)
include passes

theorem exec_calRun_keeps : exec (.calRun r p k ref ms m) s = .next (finish (reqOf .calRun r s) .ok 0 (calReply 0 0xFFFF (s.cal.lastId + 1) 0)
    ((s.claiming .calRun r [.calStore]).keepsCandidate (finalCandidate s q))) := by
  have run := exec_calRun_finish (ref := ref) (ms := ms) (m := m) licensed w len below service running finishes first due
  rwa [calFinish_keeps _ ((claiming_finalVerdict s q _ _ r _).trans passes), claiming_finalCandidate, claiming_cal] at run

theorem calRun_keeps_dark (dark : s.pdOn 44 = false) : Completes (.calRun r p k ref ms m) s [.time, .mbox, .cal] fun t =>
    AcceptedThen .calRun r 0 .ok 0 (calReply 0 0xFFFF (s.cal.lastId + 1) 0) s t ∧
    t.cal = { s.cal with run := none, candidate := some ((finalCandidate s q).checked s.mono s.serial), lastId := s.cal.lastId + 1 } := by
  let a := s.claiming .calRun r [.calStore]
  let u : State := { a with cal := { a.cal with
    run := none, candidate := some ((finalCandidate s q).checked a.mono a.serial), lastId := s.cal.lastId + 1 } }
  have ended : endProcedure a = a := endProcedure_of_off ((pdOn_of_power (claiming_power s _ r _) 44).trans dark)
  have kept : a.keepsCandidate (finalCandidate s q) = u := by
    unfold State.keepsCandidate
    rw [ended]
    rfl
  have answer := onlyIn_finish (reqOf .calRun r s) .ok 0 (calReply 0 0xFFFF (s.cal.lastId + 1) 0) u
  refine completes_of (exec_calRun_keeps licensed w len below service running finishes first due passes) (congrArg _ kept) ?_
    ⟨claiming_acceptedThen w fun _ => rfl, ?_⟩
  · exact onlyIn_trans (onlyIn_mono (onlyIn_claiming s _ r _) (by decide)) (onlyIn_trans (onlyIn_mono (onlyIn_withCal _ a) (by decide))
      (onlyIn_mono answer (by decide)))
  · have cal : u.cal = { a.cal with
        run := none, candidate := some ((finalCandidate s q).checked a.mono a.serial), lastId := s.cal.lastId + 1 } := rfl
    rw [answer .cal (by decide), cal, claiming_cal, mono_of_fuse (claiming_fuse s .calRun r _), serial_of_fuse (claiming_fuse s .calRun r _)]

theorem calRun_keeps : CompletesKeeping (.calRun r p k ref ms m) s (stored ++ [.settings, .mode, .trust, .bus]) fun t =>
    (s.frame.readout = none → RespondsAccepted .calRun r 0 .ok 0 (calReply 0 0xFFFF (s.cal.lastId + 1) 0) s t) ∧ t.pdOn 44 = false ∧
    t.cal = { s.cal with run := none, candidate := some ((finalCandidate s q).checked s.mono s.serial), lastId := s.cal.lastId + 1,
                         wordsLoaded := t.cal.wordsLoaded } := by
  let a := s.claiming .calRun r [.calStore]
  let u := a.keepsCandidate (finalCandidate s q)
  have answer := onlyIn_finish (reqOf .calRun r s) .ok 0 (calReply 0 0xFFFF (s.cal.lastId + 1) 0) u
  have parts : onlyIn ([.time, .mbox, .cal] ++ procedureParts) s (finish (reqOf .calRun r s) .ok 0 (calReply 0 0xFFFF (s.cal.lastId + 1) 0) u) :=
    onlyIn_trans (onlyIn_mono (onlyIn_claiming s _ r _) (by decide)) (onlyIn_trans (onlyIn_mono (onlyIn_keepsCandidate a _) (by decide))
      (onlyIn_mono answer (by decide)))
  refine ⟨_, exec_calRun_keeps licensed w len below service running finishes first due passes, fun x kept => parts x (by revert x; decide),
    fun idle => claiming_answered (claims := [.calStore]) w fun c => ?_, ?_, ?_⟩
  · exact endProcedure_channels (s := a) (by rw [claiming_frame]; exact idle) c
  · exact (pdOn_of_power (answer .power (by decide)) 44).trans (endProcedure_lanes_off a)
  · obtain ⟨b, cal⟩ := keepsCandidate_cal a (finalCandidate s q)
    rw [answer .cal (by decide), cal, claiming_cal, mono_of_fuse (claiming_fuse s .calRun r _), serial_of_fuse (claiming_fuse s .calRun r _)]
    rfl

end

section
variable {n : Nat} (fails : finalVerdict s q m.readBack = some n)
include fails

theorem exec_calRun_drops : exec (.calRun r p k ref ms m) s = .next (finish (reqOf .calRun r s) .failed 0 []
    ((s.claiming .calRun r [.calStore]).dropsCandidate n)) := by
  have run := exec_calRun_finish (ref := ref) (ms := ms) (m := m) licensed w len below service running finishes first due
  rwa [calFinish_drops _ ((claiming_finalVerdict s q _ _ r _).trans fails)] at run

theorem calRun_drops_dark (dark : s.pdOn 44 = false) : Completes (.calRun r p k ref ms m) s (.time :: .cal :: reporting) fun t =>
    RespondsAccepted .calRun r 0 .failed 0 [] s t ∧ t.cal = { s.cal with run := none } ∧ Reports 0x0D22 srcKeeper t := by
  let a := s.claiming .calRun r [.calStore]
  let v : State := { a with cal := { a.cal with run := none } }
  let u := logEvent 0x0D22 srcKeeper n v
  have ended : endProcedure a = a := endProcedure_of_off ((pdOn_of_power (claiming_power s _ r _) 44).trans dark)
  have dropped : a.dropsCandidate n = u := by
    unfold State.dropsCandidate
    rw [ended]
  have answer := onlyIn_finish (reqOf .calRun r s) .failed 0 [] u
  refine completes_of (exec_calRun_drops licensed w len below service running finishes first due fails) (congrArg _ dropped) ?_
    ⟨claiming_answered w (logEvent_mbox_get _ _ _ v), ?_,
      reports_of (reports_logEvent (by decide)) (answer .log (by decide)) (answer .time (by decide))⟩
  · exact onlyIn_trans (onlyIn_mono (onlyIn_claiming s _ r _) (by decide)) (onlyIn_trans (onlyIn_mono (onlyIn_withCal _ a) (by decide))
      (onlyIn_trans (onlyIn_mono (onlyIn_logEvent _ _ _ v) (by decide)) (onlyIn_mono answer (by decide))))
  · have cal : v.cal = { a.cal with run := none } := rfl
    rw [answer .cal (by decide), onlyIn_logEvent _ _ _ v .cal (by decide), cal, claiming_cal]

theorem calRun_drops : CompletesKeeping (.calRun r p k ref ms m) s (stored ++ [.settings, .mode, .trust, .bus]) fun t =>
    (s.frame.readout = none → RespondsAccepted .calRun r 0 .failed 0 [] s t) ∧ t.pdOn 44 = false ∧ Reports 0x0D22 srcKeeper t ∧
    t.cal = { s.cal with run := none, wordsLoaded := t.cal.wordsLoaded } := by
  let a := s.claiming .calRun r [.calStore]
  let v : State := { endProcedure a with cal := { (endProcedure a).cal with run := none } }
  let u := a.dropsCandidate n
  have answer := onlyIn_finish (reqOf .calRun r s) .failed 0 [] u
  have parts : onlyIn ([.time, .mbox, .cal] ++ procedureParts) s (finish (reqOf .calRun r s) .failed 0 [] u) :=
    onlyIn_trans (onlyIn_mono (onlyIn_claiming s _ r _) (by decide)) (onlyIn_trans (onlyIn_mono (onlyIn_dropsCandidate a _) (by decide))
      (onlyIn_mono answer (by decide)))
  refine ⟨_, exec_calRun_drops licensed w len below service running finishes first due fails, fun x kept => parts x (by revert x; decide),
    fun idle => claiming_answered (claims := [.calStore]) w fun c => ?_, ?_,
    reports_of (reports_logEvent (s := v) (d := n) (by decide)) (answer .log (by decide)) (answer .time (by decide)), ?_⟩
  · exact (logEvent_mbox_get _ _ _ v c).trans (endProcedure_channels (s := a) (by rw [claiming_frame]; exact idle) c)
  · have power : u.power = (endProcedure a).power := onlyIn_logEvent _ _ _ v .power (by decide)
    exact (pdOn_of_power ((answer .power (by decide)).trans power) 44).trans (endProcedure_lanes_off a)
  · obtain ⟨b, cal⟩ := dropsCandidate_cal a n
    rw [answer .cal (by decide), cal, claiming_cal]

end
end

/-! ## The words of the set in force load again -/

/-- The tile logic goes on without anything that starts with it. -/
theorem onlyIn_powerUp_below {l : List Nat} (below : ∀ d ∈ l, d < 71) (s : State) : onlyIn [.power] s (powerUp none l s).1 := by
  induction l generalizing s with
  | nil => exact onlyIn_refl _ s
  | cons d l ih =>
    have rest : ∀ e ∈ l, e < 71 := fun e he => below e (List.mem_cons_of_mem _ he)
    have low : d < 71 := below d List.mem_cons_self
    have starts : startDomain d s = { s with power := s.power.setDomain d true } := by
      unfold startDomain
      simp only [show d ≠ 71 by omega, show d ≠ 72 by omega, show d ≠ 73 by omega, show d ≠ 74 by omega, show d ≠ 75 by omega,
        show d ≠ 76 by omega, if_false]
    unfold powerUp
    split
    · exact ih rest s
    · rw [if_neg (Option.some_ne_none d).symm, starts]
      exact onlyIn_trans (onlyIn_withPower _ s) (ih rest _)

/-- The words of a set are loaded: the rest of the calibration store counts the loads. -/
structure Loads (c : CalSet) (s t : State) : Prop where
  parts : onlyIn [.cal, .sensor, .power] s t
  words : t.sensor.words = c.words
  store : ∃ n k, t.cal = { s.cal with wordsLoaded := true, loadCnt := n, loadRetryCnt := k }

theorem loadWords_loads {c : CalSet} {s : State} (once : List Nat) (inForce : s.cal.inForce = some c) :
    (loadWords once [] s).2 = true ∧ Loads c s (loadWords once [] s).1 := by
  unfold loadWords
  rw [inForce]
  exact ⟨rfl, by intro q hq; cases q <;> simp [Part.same] at hq ⊢, rfl, _, _, rfl⟩

theorem reloadWords_loads {c : CalSet} {sur : Surroundings} {s : State} (inForce : s.cal.inForce = some c) (tiles : sur.tilesTwice = [])
    (good : sur.noPowerGood = none) : (reloadWords sur s).2 = true ∧ Loads c s (reloadWords sur s).1 := by
  let domains := (List.range 8).map (· + 8)
  let u := (powerUp none domains s).1
  have powered : onlyIn [.power] s u := onlyIn_powerUp_below (by decide) s
  have cal : u.cal = s.cal := powered .cal (by decide)
  have pair : powerUp none domains s = (u, true) := Prod.ext rfl (powerUp_none_all _ _)
  have run : reloadWords sur s = loadWords sur.tilesOnce [] u := by
    unfold reloadWords
    rw [good, tiles, pair]
  obtain ⟨done, loads⟩ := loadWords_loads sur.tilesOnce (s := u) (by rw [cal]; exact inForce)
  obtain ⟨n, k, store⟩ := loads.store
  rw [run]
  exact ⟨done, onlyIn_trans (onlyIn_mono powered (by decide)) loads.parts, loads.words, n, k, by rw [store, cal]⟩

/-! ## The copy in force changes -/

theorem repoint_copies (c : CalUnit) : c.repoint.inForce = c.other ∧ c.repoint.other = c.inForce := by
  unfold CalUnit.repoint CalUnit.other CalUnit.inForce
  cases c.useB <;> exact ⟨rfl, rfl⟩

/-- The other copy has been put in force, with its words, and the request was answered. -/
structure Switched (o : Opcode) (r : Req) (code : Nat) (c : CalSet) (s v t : State) : Prop where
  parts : onlyIn (.time :: .cal :: .sensor :: .power :: reporting) s t
  store : ∃ n k, t.cal = { v.cal with wordsLoaded := true, loadCnt := n, loadRetryCnt := k }
  words : t.sensor.words = c.words
  reports : Reports code srcKeeper t
  answered : RespondsAccepted o r 0 .ok 0 t.cal.installReply s t

/-- An accepted request reports the switch, changes the calibration store, and loads the words of the set now in force. -/
theorem switched_endSwitch {o : Opcode} {r : Req} {claims : List Resource} {code : Nat} {c : CalSet} {sur : Surroundings} {s v : State}
    (w : Waiting o r s) (changed : onlyIn (.cal :: reporting) (s.claiming o r claims) v)
    (channels : ∀ k, v.mbox.get k = (s.claiming o r claims).mbox.get k) (reports : Reports code srcKeeper v) (inForce : v.cal.inForce = some c)
    (tiles : sur.tilesTwice = []) (good : sur.noPowerGood = none) : Switched o r code c s v (endSwitch (reqOf o r s) (reloadWords sur v)) := by
  obtain ⟨done, loads⟩ := reloadWords_loads inForce tiles good
  let x := (reloadWords sur v).1
  let t := finish (reqOf o r s) .ok 0 x.cal.installReply x
  have ends : endSwitch (reqOf o r s) (reloadWords sur v) = t := if_pos done
  have answer : onlyIn [.mbox] x t := onlyIn_finish _ _ _ _ x
  have cal : t.cal = x.cal := answer .cal (by decide)
  have mbox : x.mbox = v.mbox := loads.parts .mbox (by decide)
  rw [ends]
  refine ⟨?_, ?_, ?_, ?_, ?_⟩
  · exact onlyIn_trans (onlyIn_mono (onlyIn_claiming s o r claims) (by decide)) (onlyIn_trans (onlyIn_mono changed (by decide))
      (onlyIn_trans (onlyIn_mono loads.parts (by decide)) (onlyIn_mono answer (by decide))))
  · rw [cal]
    exact loads.store
  · rw [answer .sensor (by decide)]
    exact loads.words
  · exact reports_of reports ((answer .log (by decide)).trans (loads.parts .log (by decide)))
      ((answer .time (by decide)).trans (loads.parts .time (by decide)))
  · rw [cal]
    exact claiming_answered (claims := claims) w fun k => (congrArg (Mailbox.get · k) mbox).trans (channels k)

/-! ## The commands -/

section
variable {r : Req} {sur : Surroundings} {s : State} (licensed : s.mbox.auth.role = 1 → s.cap 6 = true) (allowed : s.mayInstall = true)
  (settled : s.modeBusy = false)

include licensed in
theorem takeUp_not_calDenied : ¬ (takeUp r s).calDenied = true := by
  unfold State.calDenied State.cap
  rw [takeUp_role, takeUp_fuse]
  simp only [Bool.and_eq_true, decide_eq_true_eq, Bool.not_eq_true', not_and, Bool.not_eq_false]
  exact licensed

include settled in
theorem takeUp_not_modeBusy : ¬ (takeUp r s).modeBusy = true := by
  unfold State.modeBusy
  rw [takeUp_mode, takeUp_dump, takeUp_power, takeUp_trust]
  exact Bool.eq_false_iff.mp settled

include allowed in
theorem takeUp_mayInstall : (takeUp r s).mayInstall = true := by
  unfold State.mayInstall
  rw [takeUp_mode]
  exact allowed

include licensed allowed settled

/-- The calibration store once a candidate is in force. -/
def CalUnit.installed (u : CalUnit) (c : CalSet) : CalUnit :=
  { (u.setOther (some c)).repoint with candidate := none, count := (u.setOther (some c)).count + 1, lastCalTime := c.time }

omit licensed allowed settled in
theorem installed_copies (u : CalUnit) (c : CalSet) : (u.installed c).inForce = some c ∧ (u.installed c).other = u.inForce ∧
    (u.installed c).count = u.count + 1 := by
  obtain ⟨other, inForce⟩ := setOther_facts u (some c)
  obtain ⟨front, back⟩ := repoint_copies (u.setOther (some c))
  refine ⟨front.trans other, back.trans inForce, ?_⟩
  show (u.setOther (some c)).count + 1 = u.count + 1
  unfold CalUnit.setOther
  cases u.useB <;> rfl

theorem calInstall_installs {candidate : U32} {c : CalSet} (w : Waiting .calInstall r s) (len : r.len = 8) (held : s.cal.candidate = some c)
    (named : c.setId = candidate.toNat) (tiles : sur.tilesTwice = []) (good : sur.noPowerGood = none) (sound : sur.upsets.copies = []) :
    Completes (.calInstall r candidate sur) s (.time :: .cal :: .sensor :: .power :: reporting) fun t =>
      t.cal.inForce = some c ∧ t.cal.other = s.cal.inForce ∧ t.cal.count = s.cal.count + 1 ∧ t.cal.lastCalTime = c.time ∧
      t.cal.candidate = none ∧ t.sensor.words = c.words ∧ t.cal.wordsLoaded = true ∧
      Reports 0x0D21 srcKeeper t ∧ RespondsAccepted .calInstall r 0 .ok 0 (t.cal.installReply) s t := by
  let a := s.claiming .calInstall r [.mode, .calStore]
  let x : State := { a with cal := a.cal.installed c }
  let v := logEvent 0x0D21 srcKeeper c.setId x
  have store : a.cal = s.cal := claiming_cal s _ r _
  have log : onlyIn reporting x v := onlyIn_logEvent _ _ _ x
  have cal : v.cal = s.cal.installed c := (log .cal (by decide)).trans (congrArg (CalUnit.installed · c) store)
  obtain ⟨front, back, count⟩ := installed_copies s.cal c
  have run := command_exec (c := .calInstall r candidate sur) rfl w
    (fixed_passes len w.reserved rfl (takeUp_mayInstall allowed) w.free)
  have found : ((a.cal.candidate.orElse fun _ => a.cal.other).filter fun c =>
      decide (c.setId = candidate.toNat) && decide ((!a.cal.useB) ∉ sur.upsets.copies)) = some c := by
    rw [store, held, sound]
    simp [named]
  have act : calInstallAct candidate.toNat sur (reqOf .calInstall r s) (takeUp r s) = endSwitch (reqOf .calInstall r s) (reloadWords sur v) := by
    unfold calInstallAct
    rw [if_neg (takeUp_not_calDenied licensed), if_neg (takeUp_not_modeBusy settled)]
    dsimp only
    split
    · next missing => exact absurd (found.symm.trans missing) (Option.some_ne_none c)
    · next c' same =>
      cases found.symm.trans same
      rfl
  have done : Switched .calInstall r 0x0D21 c s v _ := switched_endSwitch w
    (onlyIn_trans (onlyIn_mono (onlyIn_withCal _ a) (by decide)) (onlyIn_mono log (by decide)))
    (logEvent_mbox_get _ _ _ x) (reports_logEvent (by decide)) (by rw [cal]; exact front) tiles good
  obtain ⟨n, k, loaded⟩ := done.store
  rw [cal] at loaded
  refine ⟨_, run.trans (congrArg _ act), done.parts, ?_, ?_, ?_, ?_, ?_, done.words, ?_, done.reports, done.answered⟩
  · rw [loaded]; exact front
  · rw [loaded]; exact back
  · rw [loaded]; exact count
  · rw [loaded]; rfl
  · rw [loaded]; rfl
  · rw [loaded]

section
variable (w : Waiting .calRollback r s) (len : r.len = 0)
include w len

theorem exec_calRollback : exec (.calRollback r sur) s = .next
    (match s.cal.other with
    | none => respond (reqOf .calRollback r s) true .notPresent 0 [] (takeUp r s)
    | some c => endSwitch (reqOf .calRollback r s)
        (switchCopy sur (logEvent 0x0D23 srcKeeper c.setId (s.claiming .calRollback r [.mode, .calStore])))) := by
  have run := command_exec (c := .calRollback r sur) rfl w (bare_passes len w.reserved (takeUp_mayInstall allowed) w.free)
  rw [run]
  unfold calRollbackAct
  rw [if_neg (takeUp_not_calDenied licensed), if_neg (takeUp_not_modeBusy settled), takeUp_cal]
  rfl

theorem calRollback_refuses (empty : s.cal.other = none) :
    Completes (.calRollback r sur) s [.time, .mbox] fun t => Answered .calRollback r true .notPresent 0 [] s t := by
  have run := exec_calRollback (sur := sur) licensed allowed settled w len
  rw [empty] at run
  exact completes_answer w run

theorem calRollback_returns {c : CalSet} (other : s.cal.other = some c) (tiles : sur.tilesTwice = []) (good : sur.noPowerGood = none) :
    Completes (.calRollback r sur) s (.time :: .cal :: .sensor :: .power :: reporting) fun t =>
      t.cal.inForce = some c ∧ t.cal.other = s.cal.inForce ∧ t.cal.count = s.cal.count ∧ Reports 0x0D23 srcKeeper t ∧
      t.sensor.words = c.words ∧ t.cal.wordsLoaded = true ∧
      RespondsAccepted .calRollback r 0 .ok 0 (t.cal.installReply) s t := by
  let a := s.claiming .calRollback r [.mode, .calStore]
  let u := logEvent 0x0D23 srcKeeper c.setId a
  let v : State := { u with cal := u.cal.repoint }
  have run := exec_calRollback (sur := sur) licensed allowed settled w len
  rw [other] at run
  have log : onlyIn reporting a u := onlyIn_logEvent _ _ _ a
  have store : u.cal = s.cal := (log .cal (by decide)).trans (claiming_cal s _ r _)
  have cal : v.cal = s.cal.repoint := congrArg CalUnit.repoint store
  obtain ⟨front, back⟩ := repoint_copies s.cal
  have done : Switched .calRollback r 0x0D23 c s v _ := switched_endSwitch w
    (onlyIn_trans (onlyIn_mono log (by decide)) (onlyIn_mono (onlyIn_withCal _ u) (by decide)))
    (logEvent_mbox_get _ _ _ a) (reports_of (reports_logEvent (by decide)) rfl rfl) (by rw [cal, front]; exact other) tiles good
  obtain ⟨n, k, loaded⟩ := done.store
  rw [cal] at loaded
  refine completes_of run (u := endSwitch (reqOf .calRollback r s) (reloadWords sur v)) rfl done.parts
    ⟨?_, ?_, ?_, done.reports, done.words, ?_, done.answered⟩
  · rw [loaded]; exact front.trans other
  · rw [loaded]; exact back
  · rw [loaded]; rfl
  · rw [loaded]

end
end

/-- Settles O36: each request of CAL_RUN by its procedure, and the switch of the copies by what the words that load leave. -/
theorem calibrationSetsAreMadeAndInstalled : Obligations.CalibrationSetsAreMadeAndInstalled := by
  intro r p k ref ms m candidate sur s licensed
  refine ⟨fun w len below service => ⟨fun begins first => calRun_begins licensed w len below service begins first,
    fun early => calRun_refuses licensed w len below service early,
    fun q d running due first last bad listed usable off => calRun_fails licensed w len below service running due first last bad listed usable off,
    fun q running due first last good => calRun_steps licensed w len below service running due first last good,
    fun q running finishes first due => ⟨fun passes => ⟨?_, ?_⟩, fun n fails => ⟨?_, ?_⟩⟩⟩,
    fun allowed settled => ⟨fun c w len held named tiles good sound =>
      calInstall_installs licensed allowed settled w len held named tiles good sound, fun w len =>
      ⟨calRollback_refuses licensed allowed settled w len,
        fun c other tiles good => calRollback_returns licensed allowed settled w len other tiles good⟩⟩⟩
  · exact calRun_keeps_dark licensed w len below service running finishes first due passes
  · exact calRun_keeps licensed w len below service running finishes first due passes
  · exact calRun_drops_dark licensed w len below service running finishes first due fails
  · exact calRun_drops licensed w len below service running finishes first due fails

end Sys2Proof.Machine

/-! PROOFS. The fatal causes (R446, R447, R455, R461, R467): what each starts, and what a later one adds. -/

namespace Sys2Proof.Machine

/-! ## The first cause -/

/-- What a first cause leaves, as the sequence needs it. -/
structure SequenceBegun (cause source : Nat) (watchdog : Bool) (s t : State) : Prop where
  parts : onlyIn ([.dump, .pins] ++ stopParts) s t
  noted : ∃ f, t.dump.fatal = some f ∧ f.cause = cause ∧ f.time = s.time.module ∧ f.noDump = s.dump.held.isSome ∧ f.watchdog = watchdog
  pending : t.dump.fatalPending = true ∧ t.dump.held = s.dump.held
  pins : t.pins.fault = true
  halted : t.frame.halted = true ∧ t.frame.window = none
  idle : t.mode.change = none ∧ t.mode.seq = none
  mode : t.mode.mode = s.mode.mode
  reports : Reports cause source t
  reportsHeld : s.dump.held.isSome → Reports 0x0E03 srcDump t

/-- The cause may come with a change of the power stage or of the engine. -/
theorem StartsSequence.begun {cause source : Nat} {watchdog : Bool} {s u t : State} (same : onlyIn [.power, .frame] s u)
    (starts : StartsSequence cause source watchdog u t) : SequenceBegun cause source watchdog s t := by
  have dump : u.dump = s.dump := same .dump (by decide)
  have time : u.time = s.time := same .time (by decide)
  have mode : u.mode = s.mode := same .mode (by decide)
  refine ⟨onlyIn_trans (onlyIn_mono same (by decide)) (onlyIn_mono starts.parts (by decide)), ?_, ?_,
    congrArg PinsUnit.fault starts.pins, starts.halted,
    starts.idle, starts.mode.trans (congrArg ModeUnit.mode mode), starts.reports, fun held => starts.reportsHeld (by rwa [dump])⟩
  · exact ⟨_, congrArg DumpUnit.fatal starts.dump, rfl, congrArg TimeUnit.module time, by rw [dump]; rfl, rfl⟩
  · have held : t.dump.held = u.dump.held := by rw [starts.dump]
    exact ⟨congrArg DumpUnit.fatalPending starts.dump, held.trans (congrArg DumpUnit.held dump)⟩

/-- The form in which the obligation says it. -/
theorem SequenceBegun.completes {c : Instr} {cause source : Nat} {s t : State} (run : exec c s = .next t)
    (h : SequenceBegun cause source (decide (c = .keeperWatchdogExpiry)) s t) :
    CompletesKeeping c s (stored ++ [.time, .cal, .trust]) fun t =>
      (∃ f, t.dump.fatal = some f ∧ f.cause = cause ∧ f.time = s.time.module ∧ f.noDump = s.dump.held.isSome ∧
        f.watchdog = decide (c = .keeperWatchdogExpiry)) ∧
      t.dump.fatalPending = true ∧ t.dump.held = s.dump.held ∧ t.pins.fault = true ∧ t.frame.halted = true ∧ t.frame.window = none ∧
      t.mode.change = none ∧ t.mode.seq = none ∧ t.mode.mode = s.mode.mode ∧ Reports cause source t ∧
      (s.dump.held.isSome → Reports 0x0E03 srcDump t) :=
  ⟨t, run, fun x kept => h.parts x (by revert x; decide), h.noted, h.pending.1, h.pending.2, h.pins, h.halted.1, h.halted.2, h.idle.1, h.idle.2,
    h.mode, h.reports, h.reportsHeld⟩

section
variable {s : State} (powered : s.power.aoOn = true) (first : s.dump.fatal = none)
include powered first

theorem powerStageFault_begins : ∃ t, exec .powerStageFault s = .next t ∧ SequenceBegun 0x0108 srcAo false s t :=
  ⟨_, congrArg Host.Outcome.next (if_pos powered), (fatalCause_starts 0 false (s := { s with power := { s.power with stageFault := true } }) first
    (by decide)).begun (onlyIn_mono (onlyIn_withPower _ s) (by decide))⟩

theorem firmwareAssertion_begins (core : CoreId) :
    ∃ t, exec (.firmwareAssertion core) s = .next t ∧ SequenceBegun 0x0E11 (srcFirmware (coreNum core)) false s t :=
  ⟨_, congrArg Host.Outcome.next (if_pos powered), (fatalCause_starts _ false first (by decide)).begun (onlyIn_refl _ s)⟩

theorem triplicateDisagree_begins {field : Nat} (known : tripled field = true) :
    ∃ t, exec (.triplicateDisagree field) s = .next t ∧ SequenceBegun 0x0902 srcAo false s t :=
  ⟨_, congrArg Host.Outcome.next (if_pos (by rw [known, powered]; rfl)), (fatalCause_starts _ false first (by decide)).begun (onlyIn_refl _ s)⟩

/-- Whatever sequence runs, a warm reset follows the keeper's watchdog (R299, R457). -/
theorem keeperWatchdogExpiry_begins : ∃ t, exec .keeperWatchdogExpiry s = .next t ∧ SequenceBegun 0x0E10 srcAo true s t := by
  have starts := (fatalCause_starts (cause := 0x0E10) (source := srcAo) 0 true (s := s) first (by decide)).begun (onlyIn_refl _ s)
  let u := fatalCause 0x0E10 srcAo 0 true s
  let t : State := { u with dump := { u.dump with fatal := u.dump.fatal.map fun f => { f with watchdog := true } } }
  have marked : onlyIn [.dump] u t := onlyIn_withDump _ u
  obtain ⟨f, fatal, cause, time, noDump, _⟩ := starts.noted
  have mapped : t.dump.fatal = some { f with watchdog := true } := congrArg (Option.map fun f => { f with watchdog := true }) fatal
  exact ⟨t, congrArg Host.Outcome.next (if_pos powered), onlyIn_trans starts.parts (onlyIn_mono marked (by decide)),
    ⟨_, mapped, cause, time, noDump, rfl⟩, starts.pending, starts.pins, starts.halted, starts.idle, starts.mode, starts.reports,
    starts.reportsHeld⟩

omit powered in
theorem stackLinkLoss_begins (fed : s.pdOn 32 = true) (holds : s.frame.linkLost = false) (captures : s.capturing = true) :
    ∃ t, exec .stackLinkLoss s = .next t ∧ SequenceBegun 0x0343 (srcLane 0) false s t := by
  let u : State := { s with frame := { s.frame with linkLost := true, linkRunT := 0, linkRunB := 0 } }
  have run : exec .stackLinkLoss s = .next (fatalCause 0x0343 (srcLane 0) 0 false u) :=
    (congrArg Host.Outcome.next (if_pos (by rw [fed, holds]; rfl))).trans (congrArg Host.Outcome.next (if_pos captures))
  exact ⟨_, run, (fatalCause_starts 0 false (s := u) first (by decide)).begun (onlyIn_mono (onlyIn_withFrame _ s) (by decide))⟩

end

/-- Without capture the loss of the stack link is an event and no more. -/
theorem stackLinkLoss_logs {s : State} (fed : s.pdOn 32 = true) (holds : s.frame.linkLost = false) (rests : s.capturing = false) :
    Completes .stackLinkLoss s (.frame :: reporting) fun t =>
      t.frame = { s.frame with linkLost := true, linkRunT := 0, linkRunB := 0 } ∧ Reports 0x0344 (srcLane 0) t := by
  let u : State := { s with frame := { s.frame with linkLost := true, linkRunT := 0, linkRunB := 0 } }
  have run : exec .stackLinkLoss s = .next (logEvent 0x0344 (srcLane 0) 0 u) :=
    (congrArg Host.Outcome.next (if_pos (by rw [fed, holds]; rfl))).trans (congrArg Host.Outcome.next (if_neg (by simp [rests])))
  have logged := onlyIn_logEvent 0x0344 (srcLane 0) 0 u
  exact ⟨_, run, onlyIn_trans (onlyIn_mono (onlyIn_withFrame _ s) (by decide)) (onlyIn_mono logged (by decide)), logged .frame (by decide),
    reports_logEvent (by decide)⟩

/-! ## A later cause (R461, R467) -/

section
variable {s : State} {f : FatalSeq} (powered : s.power.aoOn = true) (runs : s.dump.fatal = some f) (core : CoreId)
include powered runs

theorem exec_firmwareAssertion_later : exec (.firmwareAssertion core) s = .next
    (let u := logEvent 0x0E11 (srcFirmware (coreNum core)) (coreNum core) s
    if f.time = s.time.module ∧ f.noDump = false then
      { u with dump := { u.dump with fatal := some (if causeRow 0x0E11 < causeRow f.cause then { f with cause := 0x0E11 } else f) } }
    else logEvent 0x0E03 srcDump 0x0E11 u) := by
  refine (congrArg Host.Outcome.next (if_pos powered)).trans ?_
  unfold fatalCause
  simp only [runs]

theorem firmwareAssertion_later (later : f.time ≠ s.time.module) :
    Completes (.firmwareAssertion core) s reporting fun t => Reports 0x0E03 srcDump t := by
  have run := exec_firmwareAssertion_later powered runs core
  dsimp only at run
  rw [if_neg fun h => later h.1] at run
  exact ⟨_, run, onlyIn_trans (onlyIn_logEvent _ _ _ s) (onlyIn_logEvent _ _ _ _), reports_logEvent (by decide)⟩

/-- In the clock of the first, the cause of the earlier row counts. -/
theorem firmwareAssertion_same (same : f.time = s.time.module) (writes : f.noDump = false) :
    Completes (.firmwareAssertion core) s (.dump :: reporting) fun t =>
      t.dump = { s.dump with fatal := some (if causeRow 0x0E11 < causeRow f.cause then { f with cause := 0x0E11 } else f) } := by
  have run := exec_firmwareAssertion_later powered runs core
  have logged := onlyIn_logEvent 0x0E11 (srcFirmware (coreNum core)) (coreNum core) s
  dsimp only at run
  rw [if_pos ⟨same, writes⟩] at run
  exact ⟨_, run, onlyIn_trans (onlyIn_mono logged (by decide)) (onlyIn_mono (onlyIn_withDump _ _) (by decide)),
    congrArg (fun d : DumpUnit => { d with fatal := some (if causeRow 0x0E11 < causeRow f.cause then { f with cause := 0x0E11 } else f) })
      (logged .dump (by decide))⟩

end

/-- The causes by their instructions, where no sequence runs. -/
theorem fatalCauses_begin (field : Nat) (core : CoreId) {s : State} (powered : s.power.aoOn = true) (first : s.dump.fatal = none) :
    ∀ i ∈ ([(.powerStageFault, 0x0108, srcAo), (.keeperWatchdogExpiry, 0x0E10, srcAo),
          (.firmwareAssertion core, 0x0E11, srcFirmware (coreNum core))]
        ++ (if tripled field then [(.triplicateDisagree field, 0x0902, srcAo)] else [])
        ++ (if s.pdOn 32 = true ∧ s.frame.linkLost = false ∧ s.capturing = true then [(.stackLinkLoss, 0x0343, srcLane 0)] else [])
        : List (Instr × Nat × Nat)),
      ∃ t, exec i.1 s = .next t ∧ SequenceBegun i.2.1 i.2.2 (decide (i.1 = .keeperWatchdogExpiry)) s t := by
  intro i mem
  simp only [List.mem_append, List.mem_cons, List.not_mem_nil, or_false, List.mem_ite_nil_right] at mem
  rcases mem with ((rfl | rfl | rfl) | ⟨known, rfl⟩) | ⟨⟨fed, holds, captures⟩, rfl⟩
  · simpa using powerStageFault_begins powered first
  · simpa using keeperWatchdogExpiry_begins powered first
  · simpa using firmwareAssertion_begins powered first core
  · simpa using triplicateDisagree_begins powered first known
  · simpa using stackLinkLoss_begins first fed holds captures

end Sys2Proof.Machine

/-! PROOFS. What a boot and a change of power leave: the dump unit, the pins, and whether the channels are enabled. One lemma for each function
that such a change runs. -/

namespace Sys2Proof.Machine

/-- The dump unit, the pins, and whether each channel is enabled. -/
def State.front (s : State) : DumpUnit × PinsUnit × Bool × Bool × Bool := (s.dump, s.pins, s.mbox.c0.enable, s.mbox.c1.enable, s.mbox.c2.enable)

@[simp] theorem front_mk (a b c d e f g h i j k l m n o p q r t u v w x y z a1 b1 c1 d1 e1 f1 g1 h1) :
    State.front ⟨a, b, c, d, e, f, g, h, i, j, k, l, m, n, o, p, q, r, t, u, v, w, x, y, z, a1, b1, c1, d1, e1, f1, g1, h1⟩ =
      (g, h1, e.c0.enable, e.c1.enable, e.c2.enable) := by
  simp only [State.front]

@[simp] theorem front_eta (s : State) : (s.dump, s.pins, s.mbox.c0.enable, s.mbox.c1.enable, s.mbox.c2.enable) = s.front := by
  simp only [State.front]

@[simp] theorem front_ite (c : Prop) [Decidable c] (s t : State) : (if c then s else t).front = if c then s.front else t.front :=
  apply_ite State.front c s t

theorem front_of_onlyIn {ps : List Part} {s t : State} (h : onlyIn ps s t) (apart : ∀ p ∈ [Part.dump, .pins, .mbox], p ∉ ps) :
    t.front = s.front := by
  have dump : t.dump = s.dump := h .dump (apart _ (by decide))
  have pins : t.pins = s.pins := h .pins (apart _ (by decide))
  have mbox : t.mbox = s.mbox := h .mbox (apart _ (by decide))
  simp only [State.front, dump, pins, mbox]

/-- A report changes of the mailbox no more than the event ring. -/
theorem front_of_reports {s t : State} (h : onlyIn reporting s t) (r : reportsOnly s t) : t.front = s.front := by
  have dump : t.dump = s.dump := h .dump (by decide)
  have pins : t.pins = s.pins := h .pins (by decide)
  have c0 : t.mbox.c0 = s.mbox.c0 := congrArg (·.c0) r.1
  have c1 : t.mbox.c1 = s.mbox.c1 := congrArg (·.c1) r.1
  have c2 : t.mbox.c2 = s.mbox.c2 := congrArg (·.c2) r.1
  simp only [State.front, dump, pins, c0, c1, c2]

theorem front_of_fst {α : Type} {r : State × α} {t : State} {a : α} (h : r = (t, a)) : r.1.front = t.front := by rw [h]

/-! ## Shared operations -/

@[simp] theorem front_setDomains (s : State) (ds : List Nat) (on : Bool) : (s.setDomains ds on).front = s.front :=
  front_of_onlyIn (onlyIn_setDomains _ _ _) (by decide)

@[simp] theorem front_send (s : State) (o : Out) : (s.send o).front = s.front := front_of_onlyIn (onlyIn_send _ _) (by decide)

@[simp] theorem front_setTandem (s : State) (t : TandemUnit) : (s.setTandem t).front = s.front := front_of_onlyIn (onlyIn_setTandem _ _) (by decide)

@[simp] theorem front_each {α : Type} {f : α → State → State} (h : ∀ a s, (f a s).front = s.front) (l : List α) (s : State) :
    (each l f s).front = s.front := by
  induction l generalizing s with
  | nil => rfl
  | cons a l ih => exact (ih (f a s)).trans (h a s)

@[simp] theorem front_fire (pf1 : Bool) (n : Nat) (s : State) : (fire pf1 n s).front = s.front :=
  front_of_onlyIn (onlyIn_fire _ _ _) (by decide)

@[simp] theorem front_fire0 (n : Nat) (s : State) : (fire0 n s).front = s.front := by
  simp [fire0]

@[simp] theorem front_logWrite (r : Report) (held : Bool) (s : State) : (logWrite r held s).front = s.front :=
  front_of_reports (onlyIn_logWrite _ _ _) (reportsOnly_logWrite _ _ _)

@[simp] theorem front_serveLog (s : State) : (serveLog s).front = s.front :=
  front_of_reports (onlyIn_serveLog _) (reportsOnly_serveLog _)

@[simp] theorem front_logFrame (code source frame data : Nat) (s : State) : (logFrame code source frame data s).front = s.front :=
  front_of_reports (onlyIn_logFrame _ _ _ _ _) (reportsOnly_logFrame _ _ _ _ _)

@[simp] theorem front_logEvent (code source data : Nat) (s : State) : (logEvent code source data s).front = s.front :=
  front_of_reports (onlyIn_logEvent _ _ _ _) (reportsOnly_logEvent _ _ _ _)

@[simp] theorem front_respond (id : ReqId) (final : Bool) (st : Status) (target : Nat) (payload : List Byte) (s : State) :
    (respond id final st target payload s).front = s.front := by
  unfold respond
  dsimp only
  split
  · cases id.chan <;> rfl
  · rfl

@[simp] theorem front_finish (id : ReqId) (st : Status) (target : Nat) (payload : List Byte) (s : State) :
    (finish id st target payload s).front = s.front :=
  front_respond id true st target payload { s with mbox := s.mbox.release id }

@[simp] theorem front_finishOpt (id : Option ReqId) (st : Status) (target : Nat) (payload : List Byte) (s : State) :
    (finishOpt id st target payload s).front = s.front := by
  cases id with
  | none => rfl
  | some i => exact front_finish i st target payload s

@[simp] theorem front_discardWords (p : Nat × Nat) (s : State) : (discardWords p s).front = s.front := by
  simp [discardWords]

@[simp] theorem front_isolate (d : List (Nat × Nat)) (s t : State) : (isolate d s t).front = t.front := by simp [isolate]

/-! ## Clocks, converters and the stores -/

@[simp] theorem front_requestLock (p : PllId) (s : State) : (requestLock p s).front = s.front := by
  unfold requestLock
  dsimp only
  split <;> simp

@[simp] theorem front_applyRef (s : State) : (applyRef s).front = s.front := by
  simp [applyRef]

@[simp] theorem front_loadBands (s : State) : (loadBands s).front = s.front := by
  simp [loadBands]

@[simp] theorem front_abusOff (s : State) : (abusOff s).front = s.front := by
  simp [abusOff]

@[simp] theorem front_auxOn (s : State) : (auxOn s).front = s.front := by
  simp [auxOn]

@[simp] theorem front_auxOff (s : State) : (auxOff s).front = s.front := by
  simp [auxOff]

@[simp] theorem front_loadSysCal (n : Nat) (s : State) : (loadSysCal n s).front = s.front := by
  unfold loadSysCal
  dsimp only
  split <;> simp

@[simp] theorem front_turnFailed (id check : Nat) (s : State) : (turnFailed id check s).front = s.front := by
  simp [turnFailed]

@[simp] theorem front_retireSlice (id code : Nat) (s : State) : (retireSlice id code s).front = s.front := by
  simp [retireSlice]

@[simp] theorem front_calibrateSlice (drift : Bool) (sums : CalSums) (k : Nat) (s : State) : (calibrateSlice drift sums k s).front = s.front := by
  simp [calibrateSlice]

@[simp] theorem front_calibrateSlices (drift : Bool) (sums : CalSums) (s : State) : (calibrateSlices drift sums s).front = s.front := by
  simp [calibrateSlices]

@[simp] theorem front_loadWords (once twice : List Nat) (s : State) : (loadWords once twice s).1.front = s.front := by
  unfold loadWords
  dsimp only
  (repeat' split) <;> simp

@[simp] theorem front_absent (devices : List MemDevice) (s : State) : (absent devices s).front = s.front := by
  simp [absent]

@[simp] theorem front_scanRing (s : State) : (scanRing s).front = s.front := by
  simp [scanRing]

/-! ## Sessions and the reservoir -/

@[simp] theorem front_noteBoth (s : State) : (noteBoth s).front = s.front :=
  front_of_onlyIn (onlyIn_noteBoth _) (by decide)

@[simp] theorem front_greet (s : State) : (greet s).front = s.front :=
  front_of_onlyIn (onlyIn_greet _) (by decide)

@[simp] theorem front_settleSession (b : Nat) (s : State) : (settleSession b s).front = s.front :=
  front_of_onlyIn (onlyIn_settleSession _ _) (by decide)

@[simp] theorem front_offerRelay (s : State) : (offerRelay s).front = s.front := by
  unfold offerRelay
  (repeat' split) <;> simp

@[simp] theorem front_settleBoth (s : State) : (settleBoth s).front = s.front := by simp [settleBoth]

@[simp] theorem front_setBay (s : State) (b : Nat) (x : Session) : (s.setBay b x).front = s.front := front_of_onlyIn (onlyIn_withTake _ s) (by decide)

@[simp] theorem front_closeBay (b : Nat) (s : State) : (closeBay b s).front = s.front := by
  simp [closeBay]

@[simp] theorem front_tandemSend (kind frame : Nat) (payload : List Byte) (s : State) : (tandemSend kind frame payload s).front = s.front :=
  front_of_onlyIn (onlyIn_tandemSend _ _ _ _) (by decide)

/-! ## Modes -/

@[simp] theorem front_foldEntry (p : Nat × LedgerEntry) (s : State) : (foldEntry p s).front = s.front := by
  simp [foldEntry, refuseEntry]

@[simp] theorem front_foldLedger (s : State) : (foldLedger s).front = s.front := by simp [foldLedger]

@[simp] theorem front_startChange (goal : Mode) (kind : ChangeKind) (epoch : Nat) (req : Option ReqId) (s : State) :
    (startChange goal kind epoch req s).front = s.front := by
  simp [startChange]

@[simp] theorem front_failPowerup (req : Option ReqId) (cause : Nat) (s : State) : (failPowerup req cause s).front = s.front := by
  simp [failPowerup]

@[simp] theorem front_setMode (m : Mode) (s : State) : (setMode m s).front = s.front := by
  simp [setMode, linkMode]

@[simp] theorem front_loseTake (s : State) : (loseTake s).front = s.front := by
  simp [loseTake]

@[simp] theorem front_loseReservoir (s : State) : (loseReservoir s).front = s.front := by
  simp [loseReservoir]

@[simp] theorem front_abandonOpen (b : Nat) (s : State) : (abandonOpen b s).front = s.front := by simp [abandonOpen]

@[simp] theorem front_abandonJob (s : State) : (abandonJob s).front = s.front := by
  unfold abandonJob
  split <;> simp

/-! ## Readouts and the tandem link -/

@[simp] theorem front_noteVoid (r : Record) (s : State) : (noteVoid r s).front = s.front := by simp [noteVoid]

@[simp] theorem front_noteLanes (r : Readout) (c : Conditioned) (s : State) : (noteLanes r c s).front = s.front := by simp [noteLanes]

@[simp] theorem front_closeReadout (s : State) : (closeReadout s).front = s.front := by
  unfold closeReadout
  split <;> simp [storeRecord, ringComplete]

@[simp] theorem front_sendHello (s : State) : (sendHello s).front = s.front := by
  simp [sendHello]

@[simp] theorem front_runFree (s : State) : (runFree s).front = s.front :=
  front_of_onlyIn (onlyIn_runFree _) (by decide)

@[simp] theorem front_endJoin (s : State) : (endJoin s).front = s.front := by simp [endJoin]

@[simp] theorem front_meetRoles (s : State) : (meetRoles s).front = s.front := by
  unfold meetRoles
  simp

@[simp] theorem front_sendIntermediate (f : Frame) (s : State) : (sendIntermediate f s).front = s.front :=
  front_of_onlyIn (onlyIn_sendIntermediate f s) (by decide)

@[simp] theorem front_keepShown (s : State) : (keepShown s).front = s.front :=
  front_of_onlyIn (onlyIn_keepShown s) (by decide)

@[simp] theorem front_endReadout (s : State) : (endReadout s).front = s.front := by
  unfold endReadout
  split <;> simp

/-! ## Profiles and devices -/

@[simp] theorem front_setPreroll (ms : Nat) (s : State) : (setPreroll ms s).front = s.front :=
  front_of_onlyIn (onlyIn_setPreroll _ _) (by decide)

@[simp] theorem front_underRole {f : State → State} (h : ∀ s, (f s).front = s.front) (s : State) : (underRole f s).front = s.front := by
  unfold underRole
  simp [h]

@[simp] theorem front_setCompositor (mode left : Nat) (s : State) : (setCompositor mode left s).front = s.front :=
  front_of_onlyIn (onlyIn_setCompositor _ _ _) (by decide)

@[simp] theorem front_adoptProfile (n : Nat) (p : Profile) (copy : Nat) (s : State) : (adoptProfile n p copy s).front = s.front := by
  simp [adoptProfile]

@[simp] theorem front_discoverAs (lanes : Nat) (devs : List (Nat × DeviceSeen)) (all : List MemDevice) (s : State) :
    (discoverAs lanes devs all s).front = s.front := by
  simp [discoverAs, deviceEvents]

@[simp] theorem front_discover (seen : List DeviceSeen) (s : State) : (discover seen s).front = s.front := by
  unfold discover
  dsimp only
  (repeat' split) <;> simp

@[simp] theorem front_restoreLog (first second : Bool) (s : State) : (restoreLog first second s).front = s.front := by
  unfold restoreLog
  dsimp only
  (repeat' split) <;> simp

/-! ## Domains that start and stop -/

@[simp] theorem front_startDomain (d : Nat) (s : State) : (startDomain d s).front = s.front := by
  simp [startDomain]

@[simp] theorem front_failDomain (d : Nat) (s : State) : (failDomain d s).front = s.front := by simp [failDomain]

@[simp] theorem front_powerUp (bad : Option Nat) (l : List Nat) (s : State) : (powerUp bad l s).1.front = s.front := by
  induction l generalizing s with
  | nil => rfl
  | cons d l ih =>
    unfold powerUp
    (repeat' split) <;> simp [ih]

@[simp] theorem front_stopDomain (d : Nat) (s : State) : (stopDomain d s).front = s.front := by
  simp [stopDomain, loseTandem, pllOff, loseTiming]

@[simp] theorem front_powerDownTo (keep : List Nat) (drops : List (Nat × Nat)) (s : State) : (powerDownTo keep drops s).front = s.front := by
  simp [powerDownTo, saveLog, drainLog]

@[simp] theorem front_stopProcedure (s : State) : (stopProcedure s).front = s.front := by
  simp [stopProcedure]

@[simp] theorem front_endProcedure (s : State) : (endProcedure s).front = s.front := by
  simp [endProcedure]

@[simp] theorem front_noteZone (z : Nat) (v : ZoneVerdict) (s : State) : (noteZone z v s).front = s.front := by
  simp [noteZone]

/-! ## Sequenced changes -/

@[simp] theorem front_completeSeq (q : SeqChange) (s : State) : (completeSeq q s).front = s.front := by
  simp [completeSeq]

@[simp] theorem front_failSeq (q : SeqChange) (reason : Nat) (s : State) : (failSeq q reason s).front = s.front := by
  simp [failSeq]

@[simp] theorem front_holdSeq (q : SeqChange) (g : SeqStage) (s : State) : (holdSeq q g s).front = s.front := by
  simp [holdSeq]

@[simp] theorem front_enterStack (q : SeqChange) (s : State) : (enterStack q s).front = s.front := by
  unfold enterStack
  split
  · next h => simp [← front_of_fst h]
  · next h => split <;> (next k => simp [← front_of_fst k, ← front_of_fst h])

@[simp] theorem front_awaitPlls (q : SeqChange) (s : State) : (awaitPlls q s).front = s.front := by
  unfold awaitPlls
  split <;> simp

@[simp] theorem front_enterReady (q : SeqChange) (s : State) : (enterReady q s).front = s.front := by
  unfold enterReady
  split <;> (next h => simp [← front_of_fst h])

@[simp] theorem front_proceedSeq (q : SeqChange) (s : State) : (proceedSeq q s).front = s.front := by
  unfold proceedSeq
  split
  · simp
  · split
    · split <;> (next h => simp [← front_of_fst h])
    · simp
  · simp
  all_goals rfl

@[simp] theorem front_startSeq (goal : Mode) (req : Option ReqId) (around : Surroundings) (s : State) :
    (startSeq goal req around s).front = s.front := by
  simp [startSeq]

/-! ## The steps of a boot, and the end of the sessions -/

@[simp] theorem front_bootSlots (s : State) : (bootSlots s).front = s.front := by
  simp [bootSlots]

@[simp] theorem front_checkCopies (s : State) : (checkCopies s).front = s.front := by
  unfold checkCopies
  dsimp only
  split <;> simp

@[simp] theorem front_bootProfile (n : Nat) (s : State) : (bootProfile n s).front = s.front := by
  simp [bootProfile]

@[simp] theorem front_noteDump (s : State) : (noteDump s).front = s.front := by
  unfold noteDump
  split <;> simp

@[simp] theorem front_leaveBoot (sur : Surroundings) (s : State) : (leaveBoot sur s).front = s.front := by
  unfold leaveBoot
  (repeat' split) <;> simp

@[simp] theorem front_openDebug (s : State) : (openDebug s).front = s.front := by
  simp [openDebug]

@[simp] theorem front_endBay (b : Nat) (s : State) : (endBay b s).front = s.front := by
  simp [endBay]

@[simp] theorem front_endSessions (s : State) : (endSessions s).front = s.front := by
  simp [endSessions]

end Sys2Proof.Machine

/-! PROOFS. The end of the fatal sequence (R446, R455, R456, R457, R467). -/

namespace Sys2Proof.Machine

theorem front_fields {s t : State} (h : t.front = s.front) :
    t.dump = s.dump ∧ t.pins = s.pins ∧ ∀ c, (t.mbox.get c).enable = (s.mbox.get c).enable := by
  obtain ⟨dump, pins, c0, c1, c2⟩ : t.dump = s.dump ∧ t.pins = s.pins ∧ t.mbox.c0.enable = s.mbox.c0.enable ∧
      t.mbox.c1.enable = s.mbox.c1.enable ∧ t.mbox.c2.enable = s.mbox.c2.enable := by
    simpa only [State.front, Prod.mk.injEq] using h
  exact ⟨dump, pins, fun c => by cases c <;> assumption⟩

/-! ## Steps 3 to 5: the store and the dump -/

theorem storeRecord_degraded (r : Record) (s : State) : (storeRecord r s).hold.degraded = s.hold.degraded := by
  unfold storeRecord ringComplete
  dsimp only
  split <;> rfl

theorem closeReadout_degraded (s : State) : (closeReadout s).hold.degraded = s.hold.degraded := by
  unfold closeReadout
  split
  · rfl
  · next r _ =>
    have lanes : (s.afterReadout r).hold = s.hold := onlyIn_noteLanes r _ _ .hold (by decide)
    dsimp only
    split
    · rw [onlyIn_noteBoth _ .hold (by decide), onlyIn_greet _ .hold (by decide), storeRecord_degraded, onlyIn_noteVoid _ _ .hold (by decide)]
      exact congrArg HoldUnit.degraded lanes
    · exact congrArg HoldUnit.degraded lanes

theorem endReadout_degraded (s : State) : (endReadout s).hold.degraded = s.hold.degraded := by
  unfold endReadout
  split
  · rfl
  · have closed : (closeReadout (keepShown s)).hold.degraded = s.hold.degraded :=
      (closeReadout_degraded _).trans (congrArg HoldUnit.degraded (onlyIn_keepShown s .hold (by decide)))
    dsimp only
    split
    · exact (congrArg HoldUnit.degraded (onlyIn_sendIntermediate _ _ .hold (by decide))).trans closed
    · exact closed

theorem writeRetire_degraded (cause : Nat) (s : State) : (writeRetire cause s).hold.degraded = s.hold.degraded := by
  unfold writeRetire
  split
  · rfl
  · rw [logEvent_hold]

theorem settleStore_degraded (s : State) : (settleStore s).hold.degraded = s.hold.degraded := by
  unfold settleStore
  split
  · rfl
  · rw [writeRetire_degraded, endReadout_degraded]

@[simp] theorem front_settleStore (s : State) : (settleStore s).front = s.front := by
  simp [settleStore, writeRetire]

@[simp] theorem front_powerForDump (s : State) : (powerForDump s).front = s.front := by
  simp [powerForDump]

theorem powerForDump_hold (s : State) : (powerForDump s).hold = s.hold := by
  unfold powerForDump
  split
  · rw [onlyIn_restoreLog _ _ _ .hold (by decide), (powers_powerUp none _ s).parts .hold (by decide)]
  · rfl

/-- The end of a dump that no retire cuts short changes no pin, and a whole partition holds it. -/
theorem storeDump_holds (f : FatalSeq) (s : State) : (storeDump false f s).pins = s.pins ∧
    (s.hold.degraded = false → ∃ d, (storeDump false f s).dump.held = some d ∧ d.cause = f.cause ∧ d.time = f.time ∧ d.inHold = true) := by
  unfold storeDump
  dsimp only
  refine ⟨?_, fun whole => ?_⟩
  · (repeat' split) <;> simp
    all_goals rfl
  · rw [if_pos (by simp [whole]), if_neg (by decide), logEvent_dump]
    exact ⟨_, rfl, rfl, rfl, by simp [whole]⟩

/-- Steps 3 to 5 leave the pins; a dump that is held stays, and else one is written. -/
structure DumpWritten (f : FatalSeq) (s t : State) : Prop where
  pins : t.pins = s.pins
  stays : f.noDump = true → t.dump.held = s.dump.held
  written : f.noDump = false → s.hold.degraded = false → ∃ d, t.dump.held = some d ∧ d.cause = f.cause ∧ d.time = f.time ∧ d.inHold = true

theorem writeDump_written (f : FatalSeq) (s : State) : DumpWritten f s (writeDump f (settleStore s)) := by
  obtain ⟨dump, pins, _⟩ := front_fields (front_settleStore s)
  unfold writeDump
  split
  · next keeps => exact ⟨pins, fun _ => congrArg DumpUnit.held dump, fun writes => absurd (keeps.symm.trans writes) Bool.true_eq_false.mp⟩
  · next writes =>
    obtain ⟨_, fed, _⟩ := front_fields (front_powerForDump (settleStore s))
    obtain ⟨stores, holds⟩ := storeDump_holds f (powerForDump (settleStore s))
    refine ⟨stores.trans (fed.trans pins), fun keeps => absurd keeps writes, fun _ whole => holds ?_⟩
    rw [powerForDump_hold, settleStore_degraded]
    exact whole

/-! ## Step 6: the sessions end (R456) -/

theorem bay_logEvent (code source data b : Nat) (s : State) : (logEvent code source data s).bay b = s.bay b := by
  unfold State.bay
  rw [logEvent_take]

theorem endBay_closed (b : Nat) (s : State) : ((endBay b s).bay b).state = .closed := by
  unfold endBay
  split
  · assumption
  · unfold closeBay
    rw [bay_logEvent]
    unfold State.bay State.setBay TakeUnit.setBay TakeUnit.bay
    split <;> rfl

theorem endBay_one_bay_zero (s : State) : (endBay 1 s).bay 0 = s.bay 0 := by
  unfold endBay
  split
  · rfl
  · exact bay_logEvent _ _ _ _ _

theorem onlyIn_scanRing (s : State) : onlyIn (.hold :: reporting) s (scanRing s) := by
  have entries (es : List RingEntry) : onlyIn [.hold] s { s with hold := { s.hold with entries := es } } := onlyIn_withHold _ s
  have noted (l : List RingEntry) (u : State) : onlyIn reporting u (each l (fun e t => logEvent 0x0426 srcHold (e.index % ringEntryCount) t) u) :=
    onlyIn_each _ (fun _ t => onlyIn_logEvent _ _ _ t) l u
  unfold scanRing
  have scanned := onlyIn_trans (onlyIn_mono (entries (s.hold.entries.map fun e => e.scanned s.time.module)) (by decide))
    (onlyIn_mono (qs := .hold :: reporting) (noted ((s.hold.entries.map fun e => e.scanned s.time.module).filter fun e => !e.readable) _) (by decide))
  exact onlyIn_ite (onlyIn_trans scanned (onlyIn_trans (onlyIn_mono (onlyIn_withHold _ _) (by decide))
    (onlyIn_trans (onlyIn_mono (onlyIn_logEvent _ _ _ _) (by decide)) (onlyIn_mono (onlyIn_fire _ _ _) (by decide))))) scanned

/-- The sessions are closed, and there is no take. -/
theorem endSessions_take (s : State) :
    (∀ b, b < 2 → ((endSessions s).bay b).state = .closed) ∧ (endSessions s).take.state = .none := by
  let u := endBay 0 (abandonJob (abandonOpen 1 (abandonOpen 0 s)))
  have take : (endSessions s).take = (endBay 1 u).take.lost := onlyIn_scanRing _ .take (by decide)
  refine ⟨fun b below => ?_, by rw [take]; rfl⟩
  have bay : (endSessions s).bay b = (endBay 1 u).bay b := by
    unfold State.bay
    rw [take]
    rfl
  rw [bay]
  interval_cases b
  · rw [endBay_one_bay_zero]
    exact endBay_closed 0 _
  · exact endBay_closed 1 u

/-! ## Step 6: the domains that go off take no session and no take with them -/

/-- A domain goes off where no take runs. -/
theorem stopDomain_take (d : Nat) {s : State} (rests : s.take.state = .none) : (stopDomain d s).take = s.take := by
  have joined : (endJoin s).take = s.take := onlyIn_endJoin s .take (by decide)
  have job : (abandonJob s).take = s.take := onlyIn_abandonJob s .take (by decide)
  have absent : (loseReservoir s).take = s.take := by
    have gone : loseReservoir s = _ := if_pos (c := s.take.state = .none) rests
    rw [gone]
    rfl
  unfold stopDomain
  dsimp only
  simp only [apply_ite State.take]
  simp only [loseTandem, State.setTandem, pllOff, loseTiming, auxOff, abusOff, joined, job, absent, ite_self]

theorem each_stopIfOn_take (l : List Nat) {s : State} (rests : s.take.state = .none) : (each l stopIfOn s).take = s.take := by
  induction l generalizing s with
  | nil => rfl
  | cons d l ih =>
    have one : (stopIfOn d s).take = s.take := by
      unfold stopIfOn
      split
      · exact stopDomain_take d rests
      · rfl
    exact (ih (by rw [one]; exact rests)).trans one

theorem onlyIn_isolate (drops : List (Nat × Nat)) (s t : State) : onlyIn (.clk :: reporting) t (isolate drops s t) :=
  onlyIn_each _ (fun p u => onlyIn_ite (onlyIn_refl _ u)
    (onlyIn_trans (onlyIn_mono (onlyIn_withClk _ u) (by decide)) (onlyIn_mono (onlyIn_logEvent _ _ _ _) (by decide)))) _ t

theorem powerDownTo_service_take (drops : List (Nat × Nat)) {s : State} (rests : s.take.state = .none) :
    (powerDownTo serviceDomains drops s).take = s.take := by
  unfold powerDownTo
  rw [onlyIn_isolate _ _ _ .take (by decide), if_pos (by decide)]
  exact each_stopIfOn_take _ rests

theorem setMode_service (s : State) : (setMode .service s).mode.mode = .service ∧ (setMode .service s).take = s.take := ⟨rfl, rfl⟩

/-- The module is in SERVICE, the sequence has ended, and the sessions and the take are as they were. -/
theorem enterService_serves (drops : List (Nat × Nat)) {s : State} (rests : s.take.state = .none) :
    (enterService drops s).mode.mode = .service ∧ (enterService drops s).take = s.take ∧
    (enterService drops s).dump = { s.dump with fatal := none } ∧ (enterService drops s).pins = s.pins := by
  let u := (powerUp none serviceDomains (powerDownTo serviceDomains drops (endJoin s))).1
  have joined : (endJoin s).take = s.take := onlyIn_endJoin s .take (by decide)
  have take : u.take = s.take := by
    rw [(powers_powerUp none _ _).parts .take (by decide), powerDownTo_service_take drops (by rw [joined]; exact rests), joined]
  obtain ⟨dump, pins, _⟩ := front_fields (show u.front = s.front by simp [u])
  let v : State := { u with mode := { u.mode with burst := none }, dump := { u.dump with fatal := none } }
  have ends : enterService drops s = setMode .service v := rfl
  obtain ⟨mode, kept⟩ := setMode_service v
  obtain ⟨left, driven, _⟩ := front_fields (front_setMode .service v)
  rw [ends]
  exact ⟨mode, kept.trans take, left.trans (congrArg (fun d : DumpUnit => { d with fatal := none }) dump), driven.trans pins⟩

/-! ## The warm reset that follows (R299, R457) -/

theorem warmState_held (s : State) : (warmState s).dump.held = s.dump.held := by simp only [warmState]

theorem warmState_profiles (s : State) : (warmState s).profiles = s.profiles := by simp only [warmState]

theorem warmState_fatal (s : State) : (warmState s).dump.fatal = none := by
  simp only [warmState, State.reset, Reset.dump]

theorem warmState_off (s : State) (c : Chan) : ((warmState s).mbox.get c).enable = false := by
  cases c <;> simp only [warmState, Mailbox.get, Mailbox.reborn, Channel.reborn, Reset.channel]

/-- What a reset discards with the conductor: the sequence, and the channels. The dump that is held stays, and so do the stores. -/
theorem enterReset_discards (s : State) : (enterReset s).dump.held = s.dump.held ∧ (enterReset s).dump.fatal = none ∧
    (∀ c, ((enterReset s).mbox.get c).enable = false) ∧ (enterReset s).profiles = s.profiles := by
  obtain ⟨dump, _, _⟩ := front_fields (front_powerDownTo [] [] s)
  obtain ⟨_, profiles, _⟩ := stores_fields (stores_powerDownTo [] [] s)
  let u := warmState (powerDownTo [] [] s)
  obtain ⟨left, _, off⟩ := front_fields (front_setDomains u (List.range 80) false)
  obtain ⟨_, kept, _⟩ := stores_fields (stores_setDomains u (List.range 80) false)
  have mirrored : onlyIn [.regs] (u.setDomains (List.range 80) false) (enterReset s) := onlyIn_withRegs _ _
  have store : (enterReset s).dump = u.dump := (mirrored .dump (by decide)).trans left
  have profileStore : (enterReset s).profiles = u.profiles := (mirrored .profiles (by decide)).trans kept
  have held : u.dump.held = s.dump.held := by rw [warmState_held, dump]
  have stays : u.profiles = s.profiles := by rw [warmState_profiles, profiles]
  refine ⟨by rw [store, held], by rw [store, warmState_fatal], fun c => (off c).trans (warmState_off _ c), by rw [profileStore, stays]⟩

@[simp] theorem front_noteZones (l : List (ZoneVerdict × Nat)) (s : State) : (each l (fun p t => noteZone p.2 p.1 t) s).front = s.front :=
  front_each (fun p t => front_noteZone p.2 p.1 t) l s

/-- The fuses are sensed at a reset, which touches neither the dump nor the channels. -/
theorem senseAtReset_senses (weak : List ((Nat × Nat) × U32)) (s : State) : (senseAtReset weak s).front = s.front ∧
    (senseAtReset weak s).fuse.sensed = true ∧ (senseAtReset weak s).profiles = s.profiles := by
  have sensed : (senseWords weak s).fuse.sensed = true := by
    unfold senseWords
    dsimp only
    rw [onlyIn_each _ (fun _ t => onlyIn_logEvent _ _ _ t) _ _ .fuse (by decide)]
  have noted (l : List (ZoneVerdict × Nat)) (u : State) : onlyIn reporting u (each l (fun p t => noteZone p.2 p.1 t) u) := by
    refine onlyIn_each _ (fun p t => ?_) l u
    exact onlyIn_trans (onlyIn_ite (onlyIn_logEvent _ _ _ t) (onlyIn_refl _ t)) (onlyIn_ite (onlyIn_logEvent _ _ _ _) (onlyIn_refl _ _))
  have judged : (judgeZones (senseWords weak s)).fuse.sensed = true := by
    unfold judgeZones
    rw [noted _ _ .fuse (by decide)]
    exact sensed
  refine ⟨?_, judged, ?_⟩
  · simp [senseAtReset, judgeZones, senseWords]
  · show (judgeZones (senseWords weak s)).profiles = s.profiles
    unfold judgeZones
    rw [noted _ _ .profiles (by decide)]
    exact onlyIn_senseWords weak s .profiles (by decide)

/-- A boot that no power loss came before leaves the dump and the channels, senses the fuses, and finds the profiles with their upsets. -/
theorem boot_leaves (weak : List ((Nat × Nat) × U32)) (profile : Nat) (sur : Surroundings) (s : State) :
    (boot false weak profile sur s).dump = s.dump ∧ (∀ c, ((boot false weak profile sur s).mbox.get c).enable = (s.mbox.get c).enable) ∧
    (boot false weak profile sur s).fuse.sensed = true ∧ (boot false weak profile sur s).profiles = upsetProfiles sur.upsets s.profiles := by
  let u := applyUpsets sur.upsets s
  let v := senseAtReset weak u
  let x := closeOnFuses v
  obtain ⟨front, sensed, profiles⟩ := senseAtReset_senses weak u
  obtain ⟨dump, _, off⟩ := front_fields front
  have closed : onlyIn [.trust, .pins] v x := onlyIn_ite (by intro q hq; cases q <;> simp [Part.same] at hq ⊢) (onlyIn_refl _ v)
  obtain ⟨left, _, kept⟩ := front_fields (show (boot false weak profile sur s).front = x.front by
    unfold boot
    dsimp only
    split <;> simp [x, v, u])
  obtain ⟨_, booted, fuses⟩ := stores_fields (show (boot false weak profile sur s).stores = x.stores by
    unfold boot
    dsimp only
    split <;> simp [x, v, u])
  have mbox : x.mbox = v.mbox := closed .mbox (by decide)
  refine ⟨?_, fun c => ?_, ?_, ?_⟩
  · rw [left, closed .dump (by decide), dump]
    rfl
  · rw [kept, mbox, off]
    rfl
  · rw [fuses, closed .fuse (by decide)]
    exact sensed
  · rw [booted, closed .profiles (by decide), profiles]
    rfl

/-- The reset and its boot. -/
theorem warmBoot_leaves (sur : Surroundings) (s : State) :
    (warmBoot sur (enterReset s)).dump.held = s.dump.held ∧ (warmBoot sur (enterReset s)).dump.fatal = none ∧
    (∀ c, ((warmBoot sur (enterReset s)).mbox.get c).enable = false) ∧ (warmBoot sur (enterReset s)).fuse.sensed = true ∧
    (warmBoot sur (enterReset s)).profiles = upsetProfiles sur.upsets s.profiles := by
  let u : State := { enterReset s with regs := { (enterReset s).regs with heldMirror := none } }
  let v := each sur.drops discardWords u
  obtain ⟨held, fatal, off, profiles⟩ := enterReset_discards s
  obtain ⟨dump, _, kept⟩ := front_fields (show v.front = u.front by simp [v])
  obtain ⟨_, stays, _⟩ := stores_fields (show v.stores = u.stores by simp [v])
  obtain ⟨left, channels, sensed, found⟩ := boot_leaves (enterReset s).fuse.weak (enterReset s).mode.profile sur v
  have run : warmBoot sur (enterReset s) = boot false (enterReset s).fuse.weak (enterReset s).mode.profile sur v := rfl
  rw [run]
  refine ⟨?_, ?_, fun c => ?_, sensed, ?_⟩
  · rw [left, dump]
    exact held
  · rw [left, dump]
    exact fatal
  · rw [channels, kept]
    exact off c
  · rw [found, stays]
    rw [onlyIn_withRegs _ (enterReset s) .profiles (by decide), profiles]

/-! ## DUMP_WRITE_DONE -/

section
variable {f : FatalSeq} {sur : Surroundings} {s : State} (runs : s.dump.fatal = some f) (resettable : s.resettable = true)
  (released : s.pins.modReset = false)
include runs resettable released

/-- The sequence ends in SERVICE, or with a warm reset. -/
theorem exec_dumpWriteDone : exec (.dumpWriteDone sur) s = .next
    (if f.watchdog || f.resetWaits then warmBoot sur (enterReset (writeDump f (settleStore s)))
    else settleFault (enterService sur.drops (endSessions (writeDump f (settleStore s))))) := by
  have pin : ¬ (writeDump f (settleStore s)).pins.modReset = true := by
    rw [(writeDump_written f s).pins, released]
    exact Bool.false_ne_true
  show Host.Outcome.next (finishFatal sur s) = _
  unfold finishFatal
  simp only [runs]
  rw [if_neg (by simp [resettable]), if_neg pin]

theorem dumpWriteDone_serves (watched : f.watchdog = false) (alone : f.resetWaits = false) :
    CompletesKeeping (.dumpWriteDone sur) s stored fun t =>
      t.mode.mode = .service ∧ t.dump.fatal = none ∧ (∀ b, b < 2 → (t.bay b).state = .closed) ∧ t.take.state = .none ∧
      (f.noDump = true → t.dump.held = s.dump.held) ∧
      (f.noDump = false → s.hold.degraded = false → ∃ d, t.dump.held = some d ∧ d.cause = f.cause ∧ d.time = f.time ∧ d.inHold = true) ∧
      (t.dump.held.isSome → t.pins.fault = s.pins.fault) := by
  let u := writeDump f (settleStore s)
  let v := endSessions u
  let x := enterService sur.drops v
  have run := exec_dumpWriteDone (sur := sur) runs resettable released
  rw [if_neg (by simp [watched, alone])] at run
  have done := writeDump_written f s
  obtain ⟨closed, ended⟩ := endSessions_take u
  obtain ⟨dumpV, pinsV, _⟩ := front_fields (front_endSessions u)
  obtain ⟨mode, take, dump, pins⟩ := enterService_serves sur.drops ended
  have same : x.dump.held = v.dump.held := by rw [dump]
  have held : x.dump.held = u.dump.held := same.trans (congrArg DumpUnit.held dumpV)
  obtain ⟨pending, profiles, fuse⟩ := stores_fields (show (settleFault x).stores = s.stores by simp [x, v, u])
  refine ⟨settleFault x, run, fun p kept => ?_, mode, congrArg DumpUnit.fatal dump, fun b below => ?_, ?_, fun stays => ?_, fun writes whole => ?_,
    fun holds => ?_⟩
  · simp only [stored, List.mem_cons, List.not_mem_nil, or_false] at kept
    rcases kept with rfl | rfl | rfl
    · exact pending
    · exact profiles
    · exact fuse
  · exact (congrArg (fun t : TakeUnit => (t.bay b).state) take).trans (closed b below)
  · exact (congrArg TakeUnit.state take).trans ended
  · exact held.trans (done.stays stays)
  · obtain ⟨d, stores, facts⟩ := done.written writes whole
    exact ⟨d, held.trans stores, facts⟩
  · have here : x.dump.held.isSome = true := holds
    have driven : x.pins = s.pins := pins.trans (pinsV.trans done.pins)
    show (x.pins.fault && _) = _
    rw [here, driven]
    exact Bool.and_true _

theorem dumpWriteDone_resets (watched : f.watchdog = true) : CompletesKeeping (.dumpWriteDone sur) s [.pending] fun t =>
    t.profiles = upsetProfiles sur.upsets s.profiles ∧
    t.dump.fatal = none ∧ t.fuse.sensed = true ∧ (∀ ch, (t.mbox.get ch).enable = false) ∧
    (f.noDump = false → s.hold.degraded = false → ∃ d, t.dump.held = some d ∧ d.cause = f.cause ∧ d.inHold = true) := by
  have run := exec_dumpWriteDone (sur := sur) runs resettable released
  rw [if_pos (by simp [watched])] at run
  have done := writeDump_written f s
  obtain ⟨_, profiles, _⟩ := stores_fields (show (writeDump f (settleStore s)).stores = s.stores by simp)
  obtain ⟨held, fatal, off, sensed, found⟩ := warmBoot_leaves sur (writeDump f (settleStore s))
  have pending : (warmBoot sur (enterReset (writeDump f (settleStore s)))).pending = s.pending := by
    have done : finishFatal sur s = warmBoot sur (enterReset (writeDump f (settleStore s))) := Host.Outcome.next.inj run
    rw [← done]
    exact (keeps_finishFatal sur s).queue
  refine ⟨_, run, fun p kept => ?_, by rw [found, profiles], fatal, sensed, off, fun writes whole => ?_⟩
  · rw [List.mem_singleton.mp kept]
    exact pending
  · obtain ⟨d, stores, cause, _, inHold⟩ := done.written writes whole
    exact ⟨d, held.trans stores, cause, inHold⟩

end

/-- Settles O47: the causes by their instructions, the later ones by the clock of the first, and the end of the sequence by whether a warm reset
follows. -/
theorem fatalCausesRunTheSequence : Obligations.FatalCausesRunTheSequence := by
  intro field core sur s powered
  refine ⟨fun first i mem => ?_, fun fed holds rests => stackLinkLoss_logs fed holds rests, fun f runs =>
    ⟨fun later => firmwareAssertion_later powered runs core later, fun same writes => firmwareAssertion_same powered runs core same writes,
      fun resettable released => ⟨fun watched alone => dumpWriteDone_serves runs resettable released watched alone,
        fun watched => dumpWriteDone_resets runs resettable released watched⟩⟩⟩
  obtain ⟨t, run, begun⟩ := fatalCauses_begin field core powered first i mem
  exact begun.completes run

end Sys2Proof.Machine
